-- ==== Sys2Proof/Word.lean ====
section
/-! DEFINITION. The word types: a register or link word of 32 bits (R5) and a byte. -/

namespace Sys2Proof

/-- A 32-bit register, link payload or Newt word. -/
abbrev Word := BitVec 32

/-- One byte. -/
abbrev Byte := BitVec 8

end Sys2Proof
end

