-- ==== Sys2Proof/Syntax.lean ====
section
/-! DEFINITION. The commands of the ZC256 as a block: the one inductive `Instr`, with the operand types it needs. -/

namespace Sys2Proof

/-- One entry of a SCHED payload (R256, Table 5.4), as it travels. -/
structure SchedRaw where
  tag : BitVec 32
  count : BitVec 8
  kind : Fin 16
  clusters : BitVec 16
  units : BitVec 8
  period : BitVec 8
  reps : BitVec 16
  param : BitVec 32
  deriving DecidableEq, Repr


/-- A PTP message as consumed (R274): the fields that the device uses. `lenOk` says that its length agrees with LEN; `own` that
requestingPortIdentity is the device's own; `sec`, `ns` its timestamp; `corr` its correctionField; `gm`, `cls` of an
Announce; `log` its logMessageInterval. -/
structure PtpMsg where
  version : BitVec 4
  minor : BitVec 4
  lenOk : Bool
  domain : BitVec 8
  twoStep : Bool
  own : Bool
  seq : BitVec 16
  sec : BitVec 48
  ns : BitVec 32
  corr : BitVec 64
  gm : BitVec 64
  cls : BitVec 8
  log : BitVec 8
  deriving DecidableEq, Repr

/-- What a finished calibration measured: the reason code of Table 8.2 that its measured quantities give (0 none), and the values it
would write, in the order of Table 8.1. -/
structure CalResult where
  reason : Fin 7
  vals : List (BitVec 32)
  deriving DecidableEq, Repr

/-- The response of one unit to a croak (R173): H_u, DLY_u and the worst sample tag. -/
structure CroakResp where
  re : BitVec 16
  im : BitVec 16
  dly : BitVec 16
  tag : BitVec 2
  deriving DecidableEq, Repr

/-- What the Chorus receiver measured of a croak (Table 7.9): ARR, PHASE, FREQ, CORR, each unit's response in ascending order of units, and
whether a preamble start may still be accepted in the window. -/
structure CroakMeas where
  arr : BitVec 32
  phase : BitVec 16
  freq : BitVec 24
  corr : BitVec 16
  resp : List CroakResp
  more : Bool
  deriving DecidableEq, Repr

/-- One captured sample: I and Q at the source's scale, over-range or saturation bit, quality tag. A FASTPWR word has NOW in `i` bits 7:0,
PEAK in `i` bits 15:8, MEAN in `q` bits 7:0, and in `ovr` that it is the first after a symbol boundary (R288). -/
structure CapSample where
  i : BitVec 16
  q : BitVec 16
  ovr : Bool
  tag : BitVec 2
  deriving DecidableEq, Repr

/-- A trigger point of Table 13.3: a level crossing between two magnitudes, or the device event that makes the point. -/
inductive CapTrig where
  | level (near beyond : BitVec 12)
  | ovld (u : Fin 128)
  | symbol (tag : BitVec 32)
  | time
  | event (code : BitVec 16)
  | cross (n : Fin 16)
  | pps
  deriving DecidableEq, Repr

/-- Where a trigger point lies (R292): its balance time (SEC, NS, 2^-16 ns), samples since ARM up to the sample at or before it, and the
remainder in 2^-16 sample. -/
structure CapPoint where
  sec : BitVec 32
  ns : BitVec 32
  frac : BitVec 16
  since : BitVec 32
  rem : BitVec 16
  deriving DecidableEq, Repr

/-- An authentication block (Table 11.9): KEY_ID, COUNTER and MAC. -/
structure AuthBlock where
  keyId : BitVec 32
  counter : BitVec 64
  mac : BitVec 128
  deriving DecidableEq, Repr

/-- A downstream packet that arrives on P0 or P1 (R242): the fields of its header beside OPCODE and LEN, its payload after the bytes that the
command itself fixes, its authentication block, and whether its trailer CRC holds (R244). -/
structure Packet where
  port : Fin 2
  bcast : Bool := false
  more : Bool := false
  ack : Bool := false
  dev : BitVec 16
  seq : BitVec 16
  tag : BitVec 32
  aux : BitVec 16
  payload : List (BitVec 8)
  auth : Option AuthBlock := none
  trailer : Bool := true
  deriving DecidableEq, Repr

/-- How a wake from SENTINEL or BRUMATE goes (R352 to R355, R379): wake steps that fail, as (domain, step of Table 16.6); AON cycles asleep; whether
the snapshot's CRC and the conditional self-tests pass. -/
structure Wake where
  fails : List (Fin 20 × Fin 5) := []
  elapsed : BitVec 64 := 0
  snapOk : Bool := true
  testsOk : Bool := true
  deriving DecidableEq, Repr

/-- What the symbol that ends at a boundary measured at one unit: NOW, PEAK and MEAN of the fast path (R67); a sample saturated at the converter
(R110); peaks left uncancelled and samples hard-clipped (R91); and whether a SYNC realignment at the boundary finds the receive and the
transmit phase away from their targets (R80, R109). -/
structure SymMeas where
  u : Fin 128
  now : BitVec 8
  peak : BitVec 8
  mean : BitVec 8
  clip : Bool := false
  skip : BitVec 16 := 0
  hard : BitVec 16 := 0
  rxSlip : Bool := false
  txSlip : Bool := false
  deriving DecidableEq, Repr

/-- The commands of spec/opcode_table.json: one constructor per row, in the table's order. Each docstring is the
row's own summary with the rule it stands under; an operand is what the sender or the physical world supplies. -/
inductive Instr where
  /-- `REGISTER_WRITE` (R9). A write to a register that has no row of its own sets its S, H or L fields according to their class, access code and the block's STOP state. -/
  | registerWrite (o : BitVec 24) (v : Word)
  /-- `SYMBOL_BOUNDARY` (R127). The escapement releases a grid boundary, and its actions run in the fixed order of Table 5.6. -/
  | symbolBoundary (ms : List SymMeas)
  /-- `EVENT_PUSH` (R259). A queued event is sent within 10 µs in an upstream EVENT packet while EVT_PUSH is 1. -/
  | eventPush
  /-- `CLOCK_MONITOR_WINDOW` (R29). At the end of each 100-cycle AON window the clock monitor judges the REF, CORE and SEC counts against ±10 %. -/
  | clockMonitorWindow (ref core sec : BitVec 16)
  /-- `SET_MODE` (R24). A SET_MODE command is accepted or refused at once against Table 1.5, and its response leaves with MODE_STATUS. -/
  | setMode (p : Packet)
  /-- `TRIM_DONE` (R23). When all start-up calibrations and training have ended, the calibration store is written and the device enters IDLE. -/
  | trimDone (cycles : Word)
  /-- `POR` (R387). The AON supply monitor asserts the power-on reset of SYSTEM reach, released after the hold and 10 µs of good VDD_AON. -/
  | por
  /-- `NRST_IN` (R38). The NRST ball held low for 25 AON samples asserts the NRST_IN reset source. -/
  | nrstIn
  /-- `WDOG` (R36). The crown core watchdog fires and asserts its reset source at the reach in force. -/
  | wdog
  /-- `RESET` (R261). An authenticated RESET command requests a reset of the given reach, capped by HOST_CAP, after its response leaves. -/
  | reset (p : Packet)
  /-- `JTAG_RESET` (R36). The JTAG reset instruction, with debug unlocked, asserts the JTAG reset source. -/
  | jtagReset
  /-- `TILE_FAULT` (R402). An uncorrectable fault in a tile's DSP domain raises event 0x20A0 and requests the tile's quiesce before TILE_FAULT asserts. -/
  | tileFault (t : Fin 4)
  /-- `RESET_RELEASE` (R40). When the last covering reset source is released, each block runs the release sequence of the widest reach since it last ran. -/
  | resetRelease (src : Fin 10) (blk : BitVec 12) (bootsel clksel : BitVec 2)
  /-- `BLK_RESET_GO` (R42). A write of GO to BLK_RESET starts a block reset request: quiesce, wait for acknowledgements, then assert the reset. -/
  | blkResetGo (blk : BitVec 12)
  /-- `QUIESCE_ACK` (R42). The last quiesce acknowledgement arrives, and the controller asserts the block reset and records the BLK_ID. -/
  | quiesceAck
  /-- `QUIESCE_TIMEOUT` (R42). The quiesce wait reaches its limit, and the reset asserts with FORCED set. -/
  | quiesceTimeout
  /-- `BLOCK_RESTORED` (R43). The crown core ends the restore of a released block, having applied REG_INIT and reloaded trims, and raises event 0x0011. -/
  | blockRestored (blk : BitVec 12)
  /-- `MTP_PULSE_END` (R44). An MTP program pulse ends and a reset source delayed by it asserts. -/
  | mtpPulseEnd
  /-- `FLASH_BUSY_TIMEOUT` (R45). The flash busy poll reaches 500 ms, and the loader sends the JEDEC reset pair and continues. -/
  | flashBusyTimeout
  /-- `RELOAD_TRIM` (R48). A RELOAD_TRIM write starts a trim and option load in IDLE, or is refused otherwise. -/
  | reloadTrim
  /-- `TRIM_LOAD_DONE` (R50). The trim and option load ends: a verified load sets TRIM_VALID, and a failed one counts and restarts, entering SAFE at the third failure. -/
  | trimLoadDone (ok : Bool)
  /-- `START_STEP_DONE` (R51). A step of the start sequence of Table 2.7 ends and the next begins, or the start ends in IDLE or DIAG. -/
  | startStepDone (ok : Bool) (cycles : Word)
  /-- `TILE_HOLD_TIMEOUT` (R41). A tile still held 10 ms after step 5 begins is marked FAILED, and the start continues without it. -/
  | tileHoldTimeout
  /-- `RX_OVLD` (R65). An over-range ADC sample raises the overload flag, sets OVLD and OVLD_NOW, counts the episode and raises event 0x2001. -/
  | rxOvld (u : Fin 128)
  /-- `OVLD_STEP_REPEAT` (R70). Over-range samples persisting 64 ADC clocks after a step give a further step, or set AGC_FLOOR at index 31. -/
  | ovldStepRepeat (u : Fin 128)
  /-- `RX_OVLD_RECOVER` (R65). 24 ADC clocks after the last over-range sample the ADC is clean and OVLD_NOW clears. -/
  | rxOvldRecover (u : Fin 128)
  /-- `SYNC_EDGE` (R79). A rising edge on the SYNC ball is sampled on REF and schedules a realignment 130.2 ns later. -/
  | syncEdge
  /-- `SYNC_REALIGN` (R80). At the realignment ADC clock, every unit with SYNC_EN realigns decimation, NCO and FIFOs, reporting and tagging any slip. -/
  | syncRealign (rx tx : BitVec 128)
  /-- `RX_COMMIT` (R86). A write of 1 to UNIT_RX_CTRL.COMMIT commits at once while no boundaries are released, and is ignored otherwise. -/
  | rxCommit (u : Fin 128)
  /-- `RX_COEF_WRITE` (R77). A channel-filter coefficient write is made to the unselected bank, or is not made and recorded. -/
  | rxCoefWrite (u : Fin 128) (bank : Fin 2) (k : Fin 33) (v : BitVec 18)
  /-- `XFADE_END` (R78). A 64-sample cross-fade ends, and a queued second bank change starts its fade. -/
  | xfadeEnd (u : Fin 128)
  /-- `TX_COMMIT` (R113). A write of 1 to UNIT_TX_CTRL.COMMIT commits at once while no boundaries are released. -/
  | txCommit (u : Fin 128)
  /-- `CFR_PULSE_READY` (R92). The crown core completes the cancellation pulse after a carrier commit, and crest-factor iterations resume. -/
  | cfrPulseReady
  /-- `SHADOW_READY` (R99). A write of 1 to SHADOW_READY, by host or Newt firmware, starts the checks of Table 4.5 on the shadow table. -/
  | shadowReady (u : Fin 128)
  /-- `DPD_CHECKS_DONE` (R99). The shadow table checks end: a pass leaves SHD_PEND set for the moult, and a failure sets MOULT_FAIL and FAIL_CODE. -/
  | dpdChecksDone (u : Fin 128)
  /-- `DPD_TBL_DATA_ACCESS` (R98). An access to UNIT_DPD_TBL_DATA reads or writes the selected table word and advances WORD under AUTO_INC. -/
  | dpdTblDataAccess (u : Fin 128) (w : Option Word) (firmware : Bool)
  /-- `ADAPT_PERIOD` (R103). A unit's adaptation period expires, and the Newt core requests captures for a new fit. -/
  | adaptPeriod (u : Fin 128)
  /-- `ADAPT_CAPTURE_DONE` (R300). The adaptation captures are written, and completion is signalled to the requesting core. -/
  | adaptCaptureDone (u : Fin 128) (ovr : Bool)
  /-- `ADAPT_FIT_DONE` (R103). A fit ends, and a fit good enough is written to the shadow and SHADOW_READY is set. -/
  | adaptFitDone (u : Fin 128) (nmse : BitVec 16) (table : List Word)
  /-- `DPD_TRAIN_STEP_DONE` (R106). A backoff step of training converges or fails, advancing the training or ending it with TRAIN_BACKOFF. -/
  | dpdTrainStepDone (u : Fin 128) (conv : Bool)
  /-- `CLUSTER_COMMIT` (R115). A write of 1 to CLUSTER_LO_CTRL.COMMIT commits the cluster at once while no boundaries are released. -/
  | clusterCommit (c : Fin 16)
  /-- `LO_PRECAL` (R118). A write to CLUSTER_LO_PRECAL starts a full LO calibration while the LO is OFF, or is refused. -/
  | loPrecal (c : Fin 16) (freq : Word)
  /-- `LO_LOCK` (R118). The cluster LO locks from a stored entry or a full calibration, storing the result under R117. -/
  | loLock (c : Fin 16) (hop : BitVec 13)
  /-- `LO_STORED_TIMEOUT` (R118). A stored-entry lock not achieved within 4,916 REF cycles starts a full calibration. -/
  | loStoredTimeout (c : Fin 16)
  /-- `LO_FAIL` (R118). No lock within 122,880 REF cycles of the request marks the cluster LO FAILED. -/
  | loFail (c : Fin 16)
  /-- `LO_UNLOCK` (R118). Loss of lock on a LOCKED LO mutes the cluster's units at once, sets UNLOCK and restarts the search. -/
  | loUnlock (c : Fin 16)
  /-- `SCHED` (R124). A SCHED packet offers its entries in order, each accepted whole or refused with a REJ_CAUSE. -/
  | sched (p : Packet)
  /-- `PRE_WAKE` (R129). The escapement starts the wake of a gated path or region at its lead before its first claimed symbol. -/
  | preWake (kind : Fin 3) (i : Fin 128)
  /-- `RFFE_RELEASE` (R130). An RFFE entry releases its list frames at its boundary plus OFFSET. -/
  | rffeRelease (id : Nat)
  /-- `RFFE_FRAME_DONE` (R130). An RFFE frame ends and the next queued frame on the bus starts. -/
  | rffeFrameDone (c : Fin 16) (d : Byte)
  /-- `RFFE_CMD` (R130). A write to CLUSTER_RFFE_CMD issues a frame at once, queues it to the next slot boundary, or refuses a read. -/
  | rffeCmd (c : Fin 16) (w : Word)
  /-- `TILE_COMMIT` (R157). A write of 1 to BF_CTRL.COMMIT commits the TILE blocks at once while no boundaries are released. -/
  | tileCommit
  /-- `WEIGHTS` (R255). A WEIGHTS fragment is written to the shadow copy of its set, and the last fragment starts the checks. -/
  | weights (p : Packet)
  /-- `WSET_CHECKS_DONE` (R147). The weight set checks end, setting SHD_PEND or FAIL with FAIL_CODE. -/
  | wsetChecksDone (w : Fin 16)
  /-- `RX_SYMBOL_DONE` (R139). A combined receive carrier symbol is compressed into pads, or dropped for lack of pads. -/
  | rxSymbolDone (c : Fin 4) (id : BitVec 32) (sym : BitVec 32) (bins : List (List (BitVec 20 × BitVec 20))) (fft : BitVec 4)
  /-- `UL_DATA` (R252). UL_DATA packets of a completed carrier symbol leave on the upstream port in layer order. -/
  | ulData (p : Fin 2) (n : BitVec 8)
  /-- `PRACH_DONE` (R152). The output of a PRACH occasion is combined and packed into the buffer pool. -/
  | prachDone (p : Fin 4) (id : BitVec 32) (sym : BitVec 32) (bins : List (List (List (BitVec 20 × BitVec 20)))) (fft : BitVec 4)
  /-- `SOLVE_JOB_START` (R154). A solver job starts when its last sounding symbol is corrected, or fails and records RESULT. -/
  | solveJobStart (id : Nat)
  /-- `SOLVE_DONE` (R156). The weight solver writes its output set with SLOT_TAG for checking and swap. -/
  | solveDone (weights : List Word) (ill : BitVec 8)
  /-- `CORR_AGE_EXPIRED` (R154). A unit's correction becomes older than RECIP_AGE_MAX, clearing RECIP_VALID and raising event 0x2037. -/
  | corrAgeExpired (u : Fin 128)
  /-- `DL_DEADLINE` (R254). At a transmit carrier symbol's deadline each claimed layer is used if complete, or counted as incomplete or unclaimed. -/
  | dlDeadline (c : Fin 4) (sym : BitVec 32) (sat : BitVec 4)
  /-- `CHORUS_SEARCH_OPEN` (R165). RXON of listening clusters rises and the Chorus receiver enters SEARCH at CH_IDX0. -/
  | chorusSearchOpen
  /-- `CROAK_SEND` (R167). The transmitting unit sends its croak at 4,096 REF cycles into the window, or the croak is not sent or deferred. -/
  | croakSend
  /-- `CHORUS_GAIN_STEP` (R170). After each 64-chip block in SEARCH or ACQUIRE, the Chorus gain index steps by 3 outside the band. -/
  | chorusGainStep (p : Byte)
  /-- `CHORUS_DETECT` (R169). Four preamble correlation peaks lock timing and take the receiver to ACQUIRE. -/
  | chorusDetect
  /-- `CHORUS_AGC_FREEZE` (R169). Eight symbols after detection the Chorus AGC freezes and AFC starts. -/
  | chorusAgcFreeze
  /-- `CHORUS_SFD` (R169). The SFD pattern is found, freezing AFC and starting header reception, or abandoning a short preamble. -/
  | chorusSfd (n : BitVec 6)
  /-- `CHORUS_SFD_TIMEOUT` (R169). No SFD within 48 symbols of detection abandons the packet and counts SHORT_PRE. -/
  | chorusSfdTimeout
  /-- `CHORUS_HEADER` (R163). The croak header is decoded and checked, leading to payload, measurement or abandonment. -/
  | chorusHeader (bs : List Byte)
  /-- `CHORUS_PAYLOAD_END` (R169). The last payload symbol is received and its CRC-16 checked. -/
  | chorusPayloadEnd (bs : List Byte)
  /-- `CHORUS_PREEMPT` (R172). A stronger arrival by CAPTURE_DB abandons the current packet and acquires the stronger one. -/
  | chorusPreempt (db : Byte)
  /-- `CHORUS_SEARCH_CLOSE` (R169). The latest accepted preamble start passes with no detection and the receiver goes OFF. -/
  | chorusSearchClose
  /-- `CHORUS_MEASURE_DONE` (R173). The croak's measurements are written to the peer table, response store and report. -/
  | chorusMeasureDone (m : CroakMeas)
  /-- `CHORUS_PARENT_LOST` (R177). No pair with a parent for PARENT_LOSS seconds clears PARENT_OK and raises event 0x2040. -/
  | chorusParentLost
  /-- `CHORUS_COMMIT` (R181). A write of 1 to CHORUS_CTRL.COMMIT commits at once while no boundaries are released. -/
  | chorusCommit
  /-- `CAL_STEP_DONE` (R182). A calibration step ends, and a finished calibration is checked and written or failed. -/
  | calStepDone (c : Fin 16) (r : CalResult)
  /-- `CAL_REQ` (R186). A GO write to CLUSTER_CAL_REQ requests calibrations for named units in SERVE or DIAG, or is refused. -/
  | calReq (c : Fin 16) (w : Word)
  /-- `SAVE` (R200). A write of SAVE starts a save of the calibration store. -/
  | save
  /-- `CAL_STORE_AUTOSAVE` (R200). 60 s after the first change since the last save, a store save starts, at most once in 10 minutes. -/
  | calStoreAutosave
  /-- `CAL_STORE_SAVE_DONE` (R200). A store save ends with the header written, or raises event 0x2054 on a flash failure. -/
  | calStoreSaveDone (ok : Bool)
  /-- `TRIM_DATA_ACCESS` (R345). An access to CLUSTER_TRIM_DATA reads or writes the selected trim in DIAG, waking a gated region if needed. -/
  | trimDataAccess (c : Fin 16) (w : Option (BitVec 16))
  /-- `NOP` (R214). The Newt instruction NOP does nothing. -/
  | nNop (g : Fin 8) (user : Bool)
  /-- `BR` (R214). The Newt instruction BR branches to TARGET when COND holds. -/
  | nBr (g : Fin 8) (user : Bool)
  /-- `CALL` (R214). The Newt instruction CALL pushes the return index and jumps to TARGET. -/
  | nCall (g : Fin 8) (user : Bool)
  /-- `RET` (R214). The Newt instruction RET returns from the call stack. -/
  | nRet (g : Fin 8) (user : Bool)
  /-- `LOOP` (R212). The Newt instruction LOOP starts a hardware loop, filling the loop cache when it fits. -/
  | nLoop (g : Fin 8) (user : Bool)
  /-- `YIELD` (R216). The Newt instruction YIELD lets the other context run. -/
  | nYield (g : Fin 8) (user : Bool)
  /-- `WAITEV` (R216). The Newt instruction WAITEV waits for the events of MASK. -/
  | nWaitev (g : Fin 8) (user : Bool)
  /-- `HALT` (R223). The Newt instruction HALT ends a user run, going to WAITING or STOPPED. -/
  | nHalt (g : Fin 8) (user : Bool)
  /-- `SYS` (R214). The Newt instruction SYS calls a vendor service, or raises ACCESS in the user context. -/
  | nSys (g : Fin 8) (user : Bool)
  /-- `ADD` (R214). The Newt instruction ADD adds two registers and sets the flags. -/
  | nAdd (g : Fin 8) (user : Bool)
  /-- `SUB` (R214). The Newt instruction SUB subtracts two registers and sets the flags. -/
  | nSub (g : Fin 8) (user : Bool)
  /-- `AND` (R214). The Newt instruction AND forms the bitwise AND and sets the flags. -/
  | nAnd (g : Fin 8) (user : Bool)
  /-- `OR` (R214). The Newt instruction OR forms the bitwise OR and sets the flags. -/
  | nOr (g : Fin 8) (user : Bool)
  /-- `XOR` (R214). The Newt instruction XOR forms the bitwise XOR and sets the flags. -/
  | nXor (g : Fin 8) (user : Bool)
  /-- `SHL` (R214). The Newt instruction SHL shifts left by Xb[4:0]. -/
  | nShl (g : Fin 8) (user : Bool)
  /-- `SHR` (R214). The Newt instruction SHR shifts right logically by Xb[4:0]. -/
  | nShr (g : Fin 8) (user : Bool)
  /-- `SAR` (R214). The Newt instruction SAR shifts right arithmetically by Xb[4:0]. -/
  | nSar (g : Fin 8) (user : Bool)
  /-- `MIN` (R214). The Newt instruction MIN takes the signed minimum. -/
  | nMin (g : Fin 8) (user : Bool)
  /-- `MAX` (R214). The Newt instruction MAX takes the signed maximum. -/
  | nMax (g : Fin 8) (user : Bool)
  /-- `CADD` (R214). The Newt instruction CADD adds per 16-bit part with saturation. -/
  | nCadd (g : Fin 8) (user : Bool)
  /-- `CSUB` (R214). The Newt instruction CSUB subtracts per 16-bit part with saturation. -/
  | nCsub (g : Fin 8) (user : Bool)
  /-- `CCONJ` (R214). The Newt instruction CCONJ conjugates a complex register. -/
  | nCconj (g : Fin 8) (user : Bool)
  /-- `SWAPH` (R214). The Newt instruction SWAPH exchanges register halves. -/
  | nSwaph (g : Fin 8) (user : Bool)
  /-- `MOV` (R214). The Newt instruction MOV copies a register. -/
  | nMov (g : Fin 8) (user : Bool)
  /-- `ADDI` (R214). The Newt instruction ADDI adds a sign-extended immediate. -/
  | nAddi (g : Fin 8) (user : Bool)
  /-- `ANDI` (R214). The Newt instruction ANDI ANDs a zero-extended immediate. -/
  | nAndi (g : Fin 8) (user : Bool)
  /-- `ORI` (R214). The Newt instruction ORI ORs a zero-extended immediate. -/
  | nOri (g : Fin 8) (user : Bool)
  /-- `XORI` (R214). The Newt instruction XORI XORs a zero-extended immediate. -/
  | nXori (g : Fin 8) (user : Bool)
  /-- `SHLI` (R214). The Newt instruction SHLI shifts left by an immediate. -/
  | nShli (g : Fin 8) (user : Bool)
  /-- `SHRI` (R214). The Newt instruction SHRI shifts right logically by an immediate. -/
  | nShri (g : Fin 8) (user : Bool)
  /-- `SARI` (R214). The Newt instruction SARI shifts right arithmetically by an immediate. -/
  | nSari (g : Fin 8) (user : Bool)
  /-- `MOVI` (R214). The Newt instruction MOVI loads a sign-extended immediate. -/
  | nMovi (g : Fin 8) (user : Bool)
  /-- `MOVHI` (R214). The Newt instruction MOVHI loads the upper half and keeps the lower. -/
  | nMovhi (g : Fin 8) (user : Bool)
  /-- `NONE` (R214). The Newt MAC instruction NONE performs only its moves. -/
  | nNone (g : Fin 8) (user ue ce : Bool)
  /-- `CMAC` (R205). The Newt instruction CMAC adds x·y to an accumulator, with its moves. -/
  | nCmac (g : Fin 8) (user ue ce : Bool)
  /-- `CMACC` (R205). The Newt instruction CMACC adds x·conj(y) to an accumulator. -/
  | nCmacc (g : Fin 8) (user ue ce : Bool)
  /-- `CMSU` (R205). The Newt instruction CMSU subtracts x·y from an accumulator. -/
  | nCmsu (g : Fin 8) (user ue ce : Bool)
  /-- `CMUL` (R205). The Newt instruction CMUL writes x·y to an accumulator. -/
  | nCmul (g : Fin 8) (user ue ce : Bool)
  /-- `RMAC` (R205). The Newt instruction RMAC adds the part-wise real products to AR and AI. -/
  | nRmac (g : Fin 8) (user ue ce : Bool)
  /-- `CPWR` (R205). The Newt instruction CPWR adds the power of x to AR. -/
  | nCpwr (g : Fin 8) (user ue ce : Bool)
  /-- `CLR` (R205). The Newt instruction CLR zeroes an accumulator. -/
  | nClr (g : Fin 8) (user ue ce : Bool)
  /-- `TRN` (R206). The Newt instruction TRN rounds and saturates an accumulator into a register. -/
  | nTrn (g : Fin 8) (user : Bool)
  /-- `LDA` (R206). The Newt instruction LDA loads a register into an accumulator. -/
  | nLda (g : Fin 8) (user : Bool)
  /-- `ADDA` (R214). The Newt instruction ADDA adds two accumulators. -/
  | nAdda (g : Fin 8) (user : Bool)
  /-- `NEGA` (R214). The Newt instruction NEGA negates an accumulator. -/
  | nNega (g : Fin 8) (user : Bool)
  /-- `MOVP` (R214). The Newt instruction MOVP writes a pointer from a register. -/
  | nMovp (g : Fin 8) (user : Bool)
  /-- `MOVXP` (R214). The Newt instruction MOVXP reads a pointer into a register. -/
  | nMovxp (g : Fin 8) (user : Bool)
  /-- `MOVM` (R214). The Newt instruction MOVM writes a modifier from a register. -/
  | nMovm (g : Fin 8) (user : Bool)
  /-- `MOVXM` (R214). The Newt instruction MOVXM reads a modifier into a register. -/
  | nMovxm (g : Fin 8) (user : Bool)
  /-- `ADDP` (R208). The Newt instruction ADDP updates a pointer by its modifier with circular wrap. -/
  | nAddp (g : Fin 8) (user : Bool)
  /-- `CIRC` (R209). The Newt instruction CIRC writes a circular base and length together, or raises PAIR. -/
  | nCirc (g : Fin 8) (user : Bool)
  /-- `MOVWB` (R214). The Newt instruction MOVWB sets the fabric window base. -/
  | nMovwb (g : Fin 8) (user : Bool)
  /-- `LD` (R207). The Newt LDST instruction with DIR 0 loads a word with the addressing mode. -/
  | nLd (g : Fin 8) (user ue ce : Bool)
  /-- `ST` (R207). The Newt LDST instruction with DIR 1 stores a word with the addressing mode. -/
  | nSt (g : Fin 8) (user : Bool)
  /-- `LONG` (R214). The Newt LONG instruction loads a 32-bit immediate into an X, P or M register. -/
  | nLong (g : Fin 8) (user : Bool)
  /-- `NEWT_BUS_TIMEOUT` (R211). A fabric or register-window access unanswered in 20 µs raises BUS. -/
  | newtBusTimeout (g : Fin 8) (user : Bool)
  /-- `NEWT_HEARTBEAT_MISS` (R215). Three missed vendor heartbeats are treated as a vendor fault. -/
  | newtHeartbeatMiss (g : Fin 8)
  /-- `FALLBACK_ACK_TIMEOUT` (R213). The memory-die fabric is shed when every core has acknowledged fall-back or after 2 µs. -/
  | fallbackAckTimeout
  /-- `USER_START` (R223). A write of START starts the user kernel at ENTRY from STOPPED, or is refused. -/
  | userStart (g : Fin 8)
  /-- `USER_STOP` (R223). A write of STOP stops the user kernel at the points of R220, or is refused. -/
  | userStop (g : Fin 8)
  /-- `USER_TRIG` (R223). A host trigger starts a new run in WAITING, or counts an overrun. -/
  | userTrig (g : Fin 8)
  /-- `USER_PERIOD_TRIGGER` (R223). The user kernel's period expires and triggers a run. -/
  | userPeriodTrigger (g : Fin 8)
  /-- `USER_WDOG` (R215). A user run exceeding MAXCYC cycles raises the WDOG exception. -/
  | userWdog (g : Fin 8)
  /-- `LANE_SIGDET` (R230). Signal detect high for 1 µs moves a lane to CDR acquisition. -/
  | laneSigdet (p : Fin 4) (l : Fin 8)
  /-- `LANE_CDR_LOCK` (R230). CDR lock moves a lane to equaliser adaptation. -/
  | laneCdrLock (p : Fin 4) (l : Fin 8)
  /-- `LANE_EQ_CONVERGED` (R235). The equaliser converges and the lane searches for SYNC. -/
  | laneEqConverged (p : Fin 4) (l : Fin 8) (ctle : BitVec 4) (dfe1 : BitVec 7) (dfe2 : BitVec 6) (dfe3 : BitVec 5)
  /-- `LANE_MARKER_GOOD` (R230). Three consecutive good markers make the lane GOOD and set its RX_GOOD bit. -/
  | laneMarkerGood (p : Fin 4) (l : Fin 8)
  /-- `LANE_LOS` (R230). Signal detect low for 1 µs restarts a lane's attempt or loses a GOOD lane. -/
  | laneLos (p : Fin 4) (l : Fin 8)
  /-- `LANE_MARKERS_BAD` (R230). Four consecutive bad markers lose a GOOD lane and raise event 0x3005. -/
  | laneMarkersBad (p : Fin 4) (l : Fin 8)
  /-- `LANE_WINDOW_END` (R230). A lane's 2 ms window ends, failing lanes not yet GOOD and moving the port to DESKEW or BACKOFF. -/
  | laneWindowEnd (p : Fin 4) (l : Option (Fin 8)) (los : Byte)
  /-- `LANE_BACKOFF_END` (R233). A failed lane's back-off ends and it begins a new window. -/
  | laneBackoffEnd (p : Fin 4) (l : Fin 8)
  /-- `STATUS_WORD` (R229). A received status word updates LINK_PARTNER and the agreed mask, and can complete DESKEW. -/
  | statusWord (p : Fin 4) (w : BitVec 64) (aligned : Bool) (late : Byte)
  /-- `STATUS_WORD_DUE` (R229). 1,024 words after the previous status word, a new one falls due and is sent at the next packet boundary. -/
  | statusWordDue (p : Fin 4)
  /-- `PORT_DESKEW_TIMEOUT` (R232). DESKEW lasting 1 ms without reaching UP takes the port to BACKOFF. -/
  | portDeskewTimeout (p : Fin 4)
  /-- `PORT_WIDEN` (R232). A wider group agreed for 100 ms with AUTO_WIDEN takes the port through DESKEW to widen. -/
  | portWiden (p : Fin 4)
  /-- `RETRAIN` (R232). A write of RETRAIN forces the port into a new TRAIN. -/
  | retrain (p : Fin 4)
  /-- `PORT_BACKOFF_END` (R233). The port back-off ends and a new attempt starts at the rate of R234. -/
  | portBackoffEnd (p : Fin 4)
  /-- `PORT_ENABLE` (R241). A write of EN to LINK_CTRL takes the port to STOP or starts its TRAIN. -/
  | portEnable (p : Fin 4) (en : Bool)
  /-- `EYE_SCAN` (R236). A write of GO to LINK_EYE_CTRL starts an in-traffic eye scan, or is refused. -/
  | eyeScan (p : Fin 4) (w : Word)
  /-- `EYE_DONE` (R236). The eye scan completes, clears BUSY and raises event 0x3008. -/
  | eyeDone (p : Fin 4) (errors : Word) (left right top bottom : Byte)
  /-- `UPSTREAM_REVERT` (R237). P0 UP for 1 s returns upstream traffic to P0 with event 0x3009. -/
  | upstreamRevert
  /-- `UPLOSS` (R237). Neither upstream port UP for UPLOSS_HOLD raises event 0x3006 and mutes by cause 6. -/
  | uploss
  /-- `LINK_WAKE_PATTERN` (R238). The three-burst wake pattern on P0 L0 wakes the device from SENTINEL or BRUMATE. -/
  | linkWakePattern (w : Wake)
  /-- `DL_DATA` (R254). A DL_DATA section is placed in a pad, or discarded as late, early or of the wrong BFP code. -/
  | dlData (p : Packet)
  /-- `WRITE` (R257). A WRITE command writes its words to ascending or fixed addresses and reports DONE. -/
  | write (p : Packet)
  /-- `READ` (R257). A READ command returns COUNT words from a device address. -/
  | read (p : Packet) (ue : Option (BitVec 10)) (ce : BitVec 10)
  /-- `RING_POST` (R311). A RING POST writes descriptors after the last posted and rings the doorbell, or is refused. -/
  | ringPost (ch : Byte) (p : Packet)
  /-- `RING_STATUS` (R312). A RING STATUS returns a channel's ring positions and state. -/
  | ringStatus (ch : Byte) (p : Packet)
  /-- `EVENT` (R259). A downstream EVENT fetch acknowledges entries up to ACK_SEQ and returns the oldest remaining events. -/
  | event (p : Packet)
  /-- `IMAGE_WRITE` (R262). An IMAGE WRITE fragment is added to the image being assembled or written to the slot. -/
  | imageWrite (p : Packet)
  /-- `IMAGE_COMMIT` (R262). An IMAGE COMMIT verifies the image and continues the start or updates the directory. -/
  | imageCommit (p : Packet)
  /-- `IMAGE_ABORT` (R262). An IMAGE ABORT discards the partial image. -/
  | imageAbort (p : Packet)
  /-- `IMAGE_STATUS` (R262). An IMAGE STATUS reports the bytes received and the slot. -/
  | imageStatus (p : Packet)
  /-- `FORWARD_UPSTREAM` (R264). An upstream packet arriving on P2 or P3 is forwarded to the upstream port. -/
  | forwardUpstream (op : Byte) (err : Bool) (p : Packet) (full : Bool)
  /-- `UL_AGE_DISCARD` (R267). A carrier symbol whose packet reaches the queue head after UL_AGE_MAX is discarded from then on. -/
  | ulAgeDiscard (p : Fin 2)
  /-- `POOL_COMMIT` (R270). A write of 1 to POOL_CTRL.COMMIT commits the pool reserves after the pair test. -/
  | poolCommit
  /-- `PTP_SYNC` (R274). A consumed Sync message takes t2 and triggers a Delay_Req. -/
  | ptpSync (p : Fin 2) (m : PtpMsg)
  /-- `FOLLOW_UP` (R274). A Follow_Up message gives t1 of a two-step Sync. -/
  | followUp (p : Fin 2) (m : PtpMsg)
  /-- `DELAY_RESP` (R275). A Delay_Resp gives t4, completing an exchange that yields d and θ for the step detector and servo. -/
  | delayResp (p : Fin 2) (m : PtpMsg)
  /-- `ANNOUNCE` (R276). An Announce records grandmasterIdentity and clockClass for its domain. -/
  | announce (m : PtpMsg)
  /-- `PTP_FORWARD` (R277). A forwarded PTP event message has its residence time added to correctionField. -/
  | ptpForward (out : Fin 4) (corr residence : BitVec 64)
  /-- `DOMAIN_LOST` (R276). A domain missing its Announce or exchanges for its limit ceases to be valid and raises event 0x4005. -/
  | domainLost (d : Fin 2) (ann : Bool)
  /-- `STEP_HOLD_EXPIRE` (R278). A pending step with no cross-check is accepted after STEP_HOLD seconds. -/
  | stepHoldExpire (d : Fin 2)
  /-- `DOMAIN_REVERT` (R279). PREF valid for REVERT seconds returns SEL to PREF with event 0x4004. -/
  | domainRevert
  /-- `STEER_UPDATE` (R280). Every 125 µs of balance time the servo updates STEER by at most 1 ppb. -/
  | steerUpdate
  /-- `ACQUIRE_TIMEOUT` (R280). No source for 8 intervals in ACQUIRE moves the balance to HOLDOVER or FREE. -/
  | acquireTimeout
  /-- `TIME_ACQUIRE_LIMIT` (R282). Step 11 of a cold start ends at 1,000 ms, reporting each enabled domain not valid. -/
  | timeAcquireLimit (cycles : Word)
  /-- `TILE_PHASE_CHECK` (R283). Every 125 µs each tile compares its DSP clock with the balance tick and trims its word. -/
  | tilePhaseCheck (t : Fin 4) (ph : BitVec 16)
  /-- `TIME_COMMIT` (R285). A write of 1 to TIME_CTRL.COMMIT commits the domain settings after the pair test. -/
  | timeCommit
  /-- `SNAP` (R271). A write of SNAP latches the balance into TIME_SNAP. -/
  | snap
  /-- `CLR_SUSPECT` (R278). A write of CLR_SUSPECT clears SUSPECT and restarts the domain's step detector. -/
  | clrSuspect (d : Fin 2)
  /-- `PPS_OUT` (R284). PPS_OUT rises at each balance second plus OUT_OFS. -/
  | ppsOut
  /-- `PPS_IN` (R284). A rising edge on PPS_IN is timestamped against the nearest balance second. -/
  | ppsIn
  /-- `PPS_IN_LOST` (R284). No PPS_IN edge for 1.5 s sets IN_LOST and raises event 0x400A. -/
  | ppsInLost
  /-- `CAP_ARM` (R290). A write of ARM commits and checks a capture channel and arms it, or refuses with a CAUSE. -/
  | capArm (n : Fin 16) (fw : Bool)
  /-- `CAP_STOP` (R299). A write of STOP closes the channel's open record and returns it to IDLE. -/
  | capStop (n : Fin 16) (smp : List (List CapSample))
  /-- `CAP_FORCE` (R294). A write of FORCE gives a software trigger to the channel. -/
  | capForce (n : Fin 16) (p : CapPoint) (smp : List (List CapSample))
  /-- `CAP_TRIGGER` (R294). A trigger point opens a segment in ARMED, writes a mark when streaming, or counts as missed. -/
  | capTrigger (n : Fin 16) (t : CapTrig) (p : CapPoint) (smp : List (List CapSample))
  /-- `CAP_SEGMENT_DONE` (R290). The last post-trigger sample is stored, the header written and the channel goes to REARM or DONE. -/
  | capSegmentDone (n : Fin 16) (smp : List (List CapSample))
  /-- `CAP_REARM` (R294). 640 CORE cycles after a segment, and after any hold-off, the channel returns to ARMED. -/
  | capRearm (n : Fin 16)
  /-- `CAP_HOLD_END` (R295). A time hold-off of HOLD REF cycles ends. -/
  | capHoldEnd (n : Fin 16)
  /-- `CAP_AUTO_TIMEOUT` (R295). A channel ARMED for AUTO_TO opens a segment with the AUTO flag. -/
  | capAutoTimeout (n : Fin 16) (p : CapPoint)
  /-- `CAP_BUFFER_FULL` (R296). A stream with WRAP 0 fills its area, writes a stop mark and goes to DONE. -/
  | capBufferFull (n : Fin 16) (smp : List (List CapSample))
  /-- `CAP_TRUNC` (R299). A staging overflow truncates a segment or records a gap mark in a stream. -/
  | capTrunc (n : Fin 16) (lost : Word) (smp : List (List CapSample))
  /-- `SKEW_GO` (R293). A write of SKEW_GO starts capture skew calibration with a marker at one balance instant. -/
  | skewGo
  /-- `SKEW_DONE` (R293). Skew calibration ends, writes CH_SKEW and sets SKEW_OK. -/
  | skewDone (skews : List (BitVec 16))
  /-- `DMA_START` (R311). A write of START commits a channel's ring and starts it, or is refused. -/
  | dmaStart (n : Fin 16) (fromCur : Bool)
  /-- `DMA_PAUSE` (R313). A write of PAUSE stops new reads or resumes a paused channel. -/
  | dmaPause (n : Fin 16) (v : Bool)
  /-- `DMA_ABORT` (R313). A write of ABORT stops the channel and discards unwritten data, leaving it IDLE. -/
  | dmaAbort (n : Fin 16)
  /-- `DOORBELL` (R309). A doorbell makes a waiting channel read its descriptor again. -/
  | doorbell (n : Fin 16)
  /-- `DMA_DESC_FETCH` (R309). A descriptor read completes and the channel runs it, waits on OWN 0, or halts on a fault. -/
  | dmaDescFetch (n : Fin 16) (ue : Bool) (ce : BitVec 4)
  /-- `DMA_DESC_DONE` (R309). A DATA descriptor's last byte is written and the channel writes back DONE and OWN 0. -/
  | dmaDescDone (n : Fin 16) (ue : Option (BitVec 26)) (ce : BitVec 16)
  /-- `BULK` (R315). A link-destined descriptor sends a BULK packet once a stream-12 pad is free. -/
  | bulk (n : Fin 16)
  /-- `DMA_DRAINED` (R313). A pausing channel's buffered data drains and it enters PAUSED. -/
  | dmaDrained (n : Fin 16) (bytes : BitVec 15)
  /-- `DMA_BUS_TIMEOUT` (R313). A fabric access unanswered in 4 µs halts the channel with BUS_ERR. -/
  | dmaBusTimeout (n : Fin 16) (bytes : BitVec 28)
  /-- `DMA_WAKE_TIMEOUT` (R313). A gated target not awake in 20 µs halts the channel with WAKE_ERR. -/
  | dmaWakeTimeout (n : Fin 16)
  /-- `HK_GO` (R320). A write of GO triggers a housekeeping sequence, or is lost as an overrun. -/
  | hkGo (k q : Fin 2)
  /-- `HK_PERIOD_TRIGGER` (R320). A sequence's PERIOD expires and triggers it. -/
  | hkPeriodTrigger (k q : Fin 2)
  /-- `HK_VENDOR_TRIGGER` (R320). The 1 ms vendor trigger suspends host sequences and runs sequences 2 and 3 on both converters. -/
  | hkVendorTrigger
  /-- `HK_STARTUP_DONE` (R321). A powered-down converter finishes its 10 µs start-up and begins the triggered sequence. -/
  | hkStartupDone (k : Fin 2)
  /-- `HK_ENTRY_DONE` (R317). A monitor conversion entry ends and writes its result, checking range and limits. -/
  | hkEntryDone (k : Fin 2) (cs : List (BitVec 16))
  /-- `HK_SEQ_DONE` (R320). A sequence completes, triggering a chained sequence and comparing XCHK after sequence 3. -/
  | hkSeqDone (k : Fin 2)
  /-- `HK_ENABLE` (R320). A write of 1 to EN checks a host sequence and enables it, or refuses it under R11. -/
  | hkEnable (k q : Fin 2)
  /-- `HK_SELFTEST` (R324). A write of SELFTEST starts the converter self-check in IDLE or DIAG, or is refused. -/
  | hkSelftest
  /-- `HK_SELFTEST_DONE` (R324). The self-check ends and clears FAILED on a converter that passes. -/
  | hkSelftestDone (a b : List (BitVec 12))
  /-- `HK_COMMIT` (R339). A write of 1 to HK_CTRL.COMMIT commits the block's H fields at once while no boundaries are released. -/
  | hkCommit
  /-- `BIAS_ILIM_FAULT` (R329). A bias output in current limit for 10 µs is faulted. -/
  | biasIlimFault (i : Fin 32)
  /-- `BIAS_RANGE_SWITCH` (R328). A bias range change switches the buffer after the ramp to SAFE_CODE and holds SAFE_CODE in the new range. -/
  | biasRangeSwitch (i : Fin 32)
  /-- `BIAS_SINE_UPDATE` (R331). Every 1 µs a bias output in sine mode updates its code. -/
  | biasSineUpdate (i : Fin 32)
  /-- `PWM_PERIOD` (R332). A unit's PWM period starts, applying committed DUTY and checking the readback. -/
  | pwmPeriod (u : Fin 128) (bad : Bool)
  /-- `THERM_SAMPLE` (R334). Every 100 µs the sensors are sampled, Tj formed and the warning and shutdown levels compared. -/
  | thermSample (temps : List (BitVec 16)) (policy : Bool)
  /-- `THERMAL_GRACE_END` (R336). At the end of a grace period the next enforcement step is taken if Tj is at or above 115 °C. -/
  | thermalGraceEnd
  /-- `THERMAL_RELEASE` (R336). Each second below THROTTLE one enforced step is released. -/
  | thermalRelease
  /-- `THERM_SLEEP_SAMPLE` (R338). In SENTINEL and BRUMATE the AON logic samples the hub sensor every 10 ms for shutdown. -/
  | thermSleepSample (temp : BitVec 16) (w : Wake)
  /-- `TILE_IDLE_TIMEOUT` (R345). A tile without access for TILE_IDLE ms in IDLE enters QUIESCED. -/
  | tileIdleTimeout (t : Fin 4)
  /-- `MEM_IDLE_TIMEOUT` (R345). The memory die without access for MEM_IDLE µs in IDLE enters POWER-DOWN. -/
  | memIdleTimeout
  /-- `DOMAIN_WAKE_DONE` (R345). An on-demand wake completes and the stalled access proceeds. -/
  | domainWakeDone (d : Fin 20)
  /-- `ACCESS_WAKE_TIMEOUT` (R345). An access waiting 20 µs for a region wake ends with an error response. -/
  | accessWakeTimeout (p : Packet) (write : Bool) (k : BitVec 10)
  /-- `MODE_SCHEDULE_DUE` (R347). A MODE_SCHEDULE entry falls due and requests, changes or cancels sleep, or is refused. -/
  | modeScheduleDue (i : BitVec 16)
  /-- `VOTER_ANSWER` (R348). A voter accepts or refuses the sleep vote; a refusal ends the vote and the last acceptance starts the commit. -/
  | voterAnswer (v : Fin 8)
  /-- `SLEEP_VOTE_TIMEOUT` (R348). A vote not answered within 500 µs fails. -/
  | sleepVoteTimeout
  /-- `SLEEP_RETRY` (R346). The back-off of a pending sleep request ends and the vote is retried. -/
  | sleepRetry
  /-- `CANCEL` (R346). A write of CANCEL ends a pending sleep request. -/
  | cancel
  /-- `SENTINEL_SAMPLE` (R350). The AON timer starts a sentinel sample of SENT_CLUSTER. -/
  | sentinelSample (temp : BitVec 16) (w : Wake)
  /-- `SENTINEL_WINDOW_END` (R351). The sentinel window ends with a detection that wakes the device, or the domains return to sleep. -/
  | sentinelWindowEnd (nows : List (List (BitVec 8 × Bool))) (w : Wake)
  /-- `WAKE_PIN` (R352). WAKE held low for 1 µs ends BRUMATE. -/
  | wakePin (w : Wake)
  /-- `AON_TIMER` (R352). The AON timer expires and wakes the device from BRUMATE or SENTINEL. -/
  | aonTimer (entry : Option (BitVec 16)) (w : Wake)
  /-- `WAKE_STEP_TIMEOUT` (R354). A wake step exceeding its limit marks the domain FAILED and raises event 0x5004. -/
  | wakeStepTimeout (n : Fin 5) (d : Fin 20)
  /-- `AVS_LOOP` (R357). Every 1 ms each ON rail's loop reads slack and moves its target by 5 mV. -/
  | avsLoop (slack : List (BitVec 16))
  /-- `AVS_ACK_TIMEOUT` (R358). A rail change not acknowledged within 1 ms is retried, failing after the third retry. -/
  | avsAckTimeout (r : Fin 5) (nak : Bool)
  /-- `SUPPLY_STAGE_ENTER` (R359). A watched rail below a stage threshold for 16 AON cycles enters that stage and applies its actions. -/
  | supplyStageEnter (stage : Fin 7) (rail : Fin 11) (acked : Bool)
  /-- `SUPPLY_STAGE_RESTORE` (R360). Rails above the restore threshold for 10 ms restore the deepest stage and release its actions. -/
  | supplyStageRestore
  /-- `RES_CLR` (R362). A write of CLR clears every residency counter. -/
  | resClr
  /-- `STATUS` (R374). The STATUS service returns SEC_STATUS and the self-test results. -/
  | status
  /-- `SELFTEST` (R379). The SELFTEST service runs the power-on self-test set. -/
  | selftest (ok : Bool)
  /-- `ZEROISE` (R378). The ZEROISE service erases every secret and asserts a SYSTEM-reach reset. -/
  | zeroise
  /-- `IDENTITY` (R374). The IDENTITY service returns DEVICE_UID and the identity public key. -/
  | identity
  /-- `KEY_IMPORT` (R375). The KEY_IMPORT service unwraps a link key into a slot under ROOT authority. -/
  | keyImport
  /-- `KEY_DELETE` (R374). The KEY_DELETE service removes a link key from a slot. -/
  | keyDelete
  /-- `KEY_STATUS` (R373). The KEY_STATUS service returns each slot's role, lock state and last accepted COUNTER. -/
  | keyStatus
  /-- `ROLLBACK_COMMIT` (R370). The ROLLBACK_COMMIT service raises MIN_VER to the running image's ROLLBACK. -/
  | rollbackCommit
  /-- `FUSE_PROGRAM` (R375). The FUSE_PROGRAM service programs and reads back one fuse field. -/
  | fuseProgram
  /-- `FUSE_READ` (R374). The FUSE_READ service returns every fuse field except the DUK. -/
  | fuseRead
  /-- `DBG_CHALLENGE` (R376). The DBG_CHALLENGE service returns a new 52-byte debug challenge. -/
  | dbgChallenge
  /-- `DBG_RESPONSE` (R376). The DBG_RESPONSE service unlocks debug when its signature verifies over the challenge. -/
  | dbgResponse
  /-- `RANDOM` (R374). The RANDOM service returns the requested number of DRBG bytes. -/
  | random
  /-- `SEC_CHAL` (R376). The JTAG instruction SEC_CHAL obtains a debug challenge through the data register. -/
  | secChal
  /-- `SEC_RESP` (R376). The JTAG instruction SEC_RESP delivers a debug response through the data register. -/
  | secResp (dr : BitVec 768)
  /-- `KEY_LOCK_EXPIRE` (R372). A locked link-key slot's lock time ends. -/
  | keyLockExpire (k : Fin 8)
  /-- `DBG_CHALLENGE_EXPIRE` (R376). A debug challenge expires 60 s after it was issued. -/
  | dbgChallengeExpire
  /-- `TAMPER` (R378). A tamper condition zeroises the security block and asserts a SYSTEM-reach reset. -/
  | tamper (c : Fin 4)
  /-- `GRID_SLOT_BOUNDARY` (R24). IDLE to SERVE and IDLE to DIAG complete at the first grid slot boundary of R121 after acceptance, where MODE changes, BUSY clears and event 0x0001 is raised. -/
  | gridSlotBoundary
  /-- `FORWARD_DOWNSTREAM` (R264). A downstream packet that is not consumed, or is broadcast, is forwarded to P2 or P3 by POOL_ROUTE2 and POOL_ROUTE3, or discarded with NO_ROUTE. -/
  | forwardDownstream (op : Byte) (p : Packet) (full : BitVec 2)
  /-- `UNKNOWN_OPCODE` (R247). A valid packet with an unlisted opcode is answered with status 0x01. -/
  | unknownOpcode (op : Byte) (p : Packet)
  /-- `HDR_ERR` (R243). A word taken as a header that fails its HCRC or zero-field, LEN, BCAST or direction checks counts in HDR_ERR, and the receiver discards words until the next idle or status word. -/
  | hdrErr (p : Fin 4)
  /-- `PATH_WAKE_READY` (R343). A pre-woken path or region becomes ready within 1.6 µs or 12 µs of its pre-wake, and GATED clears. -/
  | pathWakeReady (kind : Fin 3) (i : Fin 128)
  deriving DecidableEq, Repr

end Sys2Proof
end

