-- ==== Sys2Proof/Decode.lean ====
section
/-! DEFINITION. Words as commands. spec/opcode_table.json gives no row of this hardware any bits (the ZC256's commands arrive as packets, register writes,
pins and events, and their operands have no common word), so no word spells a command. -/

namespace Sys2Proof

/-- The command that a word of `nbits` bits spells by the table: none, since no row has bits. -/
def decodeTableWord (_nbits _w : Nat) : Option Instr := none

end Sys2Proof
end

