-- ==== Sys2Proof/Machine/Crc.lean ====
section
/-! DEFINITION. The check codes of the spec over byte lists: CRC-32 (R55) and the plain and reflected bit steps that the
link and Chorus CRCs share. -/

namespace Sys2Proof.Machine

/-- One bit of a reflected CRC. -/
def crcBitR (poly c : Nat) : Nat := if c % 2 = 1 then (c / 2) ^^^ poly else c / 2

/-- One byte of a reflected CRC. -/
def crcByteR (poly c b : Nat) : Nat :=
  (List.range 8).foldl (fun c _ => crcBitR poly c) (c ^^^ (b % 256))

/-- CRC-32 of IEEE 802.3 (R55): polynomial 0x04C1_1DB7, each byte least significant bit first, initial value and final
XOR 0xFFFF_FFFF. -/
def crc32 (bs : List Nat) : Nat := (bs.foldl (crcByteR 0xEDB88320) 0xFFFFFFFF) ^^^ 0xFFFFFFFF

/-- One bit of a CRC of width `w`, most significant bit first. -/
def crcBit (w poly c : Nat) : Nat :=
  if c.testBit (w - 1) then ((c * 2) % 2 ^ w) ^^^ poly else (c * 2) % 2 ^ w

/-- One byte of a CRC of width `w` ≥ 8, most significant bit first. -/
def crcByte (w poly c b : Nat) : Nat :=
  (List.range 8).foldl (fun c _ => crcBit w poly c) (c ^^^ ((b % 256) <<< (w - 8)))

/-- CRC-16 of R162: polynomial 0x1021, initial value 0xFFFF, no reflection, no final XOR. -/
def crc16 (bs : List Nat) : Nat := bs.foldl (crcByte 16 0x1021) 0xFFFF

/-- CRC-8 of Table 10.2: polynomial 0x07, initial value 0x00. -/
def crc8 (bs : List Nat) : Nat := bs.foldl (crcByte 8 0x07) 0

end Sys2Proof.Machine
end

