-- ==== Sys2Proof/Machine/State.lean ====
section
/-! DEFINITION. The state of the ZC256. -/

namespace Sys2Proof.Machine

/-- A sparse table: (key, value) pairs, keys strictly rising; an unlisted key holds its default. -/
abbrev Tbl (α : Type) := List (Nat × α)

/-- Access codes of a register field (Table 0.6, R7). -/
inductive Acc where
  | ro | rw | w1c | w1s | rc | wo
  deriving DecidableEq, Repr

/-- Configuration class of a register field (R9): static, shadowed, live. -/
inductive Cls where
  | S | H | L
  deriving DecidableEq, Repr

/-- A register field: window offset of its register, lowest bit, width, access code, class and reset value. -/
structure Fld where
  off : Nat
  lo : Nat
  width : Nat
  acc : Acc
  cls : Cls
  reset : Nat
  deriving DecidableEq, Repr

/-- One entry of the event queue (R259). `pushed` says that it has been sent once in an EVENT packet. -/
structure EventEntry where
  code : Nat
  eseq : Nat
  arg : Nat
  sec : Nat
  ns : Nat
  pushed : Bool
  deriving DecidableEq, Repr

/-- The event queue (R259): entries oldest first, the next ESEQ, and whether the next EVENT packet carries LOST. -/
structure EventQueue where
  entries : List EventEntry := []
  next : Nat := 0
  lostPending : Bool := false
  deriving DecidableEq, Repr

/-- An asserted reset source (Table 2.2): its RESET_CAUSE bit, its reach code (Table 2.1), and the BLK_ID that a BLOCK,
TILE or DATAPATH reach covers (Table 2.4; 0x400 + t for a tile fault, 0x500 for the datapath). `ovr`: a wider reset has covered it
since; `host`: a host RESET command asked for it; `forced`: its quiesce wait timed out (R42). -/
structure ResetSource where
  src : Nat
  reach : Nat
  blk : Nat
  ovr : Bool := false
  host : Bool := false
  forced : Bool := false
  deriving DecidableEq, Repr

/-- A block reset request waiting for quiesce acknowledgements (R42): its BLK_ID, reach, RESET_CAUSE bit (9, or 8 of a tile fault), and
whether the host's RESET command made it. -/
structure BlkRequest where
  blk : Nat
  reach : Nat
  src : Nat
  host : Bool
  deriving DecidableEq, Repr

/-- The reset controller (R35 to R45): asserted sources, the widest reach since the package last ran, the request in its
quiesce wait, the sources whose blocks are being restored, sources that wait for an MTP pulse or for trim loading to end, whether
an MTP pulse runs, whether a block reset has been recorded since RESET_CAUSE_BLK was read, and the clocks that the monitor has declared failed
(0 REF, 1 CORE, 2 SEC). -/
structure ResetS where
  sources : List ResetSource := []
  widest : Nat := 0
  request : Option BlkRequest := none
  restoring : List ResetSource := []
  delayed : List ResetSource := []
  mtpPulse : Bool := false
  blkSeen : Bool := false
  badClocks : List Nat := []
  deriving DecidableEq, Repr
/-- The receive side of a unit beyond its registers (chapter 3). `hold` is the AGC's hold count (R69); `symOvld`
an overload in the current symbol; `stepped` an overload step that Table 3.2 may still undo, with `base` the index
before it; `fadeNext` a second bank change waiting (R78); `tag` and `idx` the running worst tag and largest index of
the symbol, `reps` the reports of the last symbols (R84, at most 256), newest first, as (symbol, tag, index, entry that claimed it); `wins` the tag windows (tag, samples) opened in the
symbol (Table 3.5); `syncIgnored` the ignored SYNC edges (R80). -/
structure RxUnit where
  hold : Nat := 0
  symOvld : Bool := false
  stepped : Bool := false
  base : Nat := 31
  fadeNext : Option Nat := none
  tag : Nat := 3
  idx : Nat := 31
  reps : List (Int × Nat × Nat × Option Nat) := []
  wins : List (Nat × Nat) := []
  syncIgnored : Nat := 0
  deriving DecidableEq, Repr

/-- Where a unit's adaptation cycle stands (R103): idle, taking captures (some left), or fitting. -/
inductive Adapt where
  | idle
  | capturing (left : Nat)
  | fitting
  deriving DecidableEq, Repr

/-- Training of a unit (R106): index into 10, 8, 6, 4, 2, 0 dB, fit cycles run at this step, and the backoff code of
the last converged step. -/
structure Training where
  step : Nat := 0
  cycles : Nat := 0
  conv : Option Nat := none
  deriving DecidableEq, Repr

/-- The transmit side of a unit beyond its registers (chapter 4). `shd` and `actv` are the shadow and active
pre-distortion tables by word (R96); `checked` says the shadow passed Table 4.5;
`b` is the total backoff in force, 0.5 dB per LSB (R89); `att` the attenuator in force (R90); `noTbl` that event
0x2010 has been raised in this period without a table (R101); `started` that a scheduled symbol has followed the
first valid table (R111); `slipZero` that the output is zero for the rest of the symbol (R109); `txNow` that the
unit transmits in the current symbol. -/
structure TxUnit where
  shd : Tbl Nat := []
  actv : Tbl Nat := []
  checked : Bool := false
  b : Nat := 0
  att : Nat := 63
  noTbl : Bool := false
  started : Bool := false
  slipZero : Bool := false
  txNow : Bool := false
  adapt : Adapt := .idle
  train : Option Training := none
  deriving DecidableEq, Repr
/-- One RFFE frame (Tables 5.8 and 5.22). -/
structure RffeFrame where
  ftype : Nat
  sid : Nat
  addr : Nat
  data : Nat
  read : Bool
  deriving DecidableEq, Repr

/-- One accepted SCHED entry (Table 5.4): `first` is the absolute number of its first symbol (R121: h × S + j, not yet
taken modulo 2^32), `id` the order of acceptance. -/
structure SchedEntry where
  id : Nat
  first : Int
  count : Nat
  kind : Nat
  clusters : Nat
  units : Nat
  period : Nat
  reps : Nat
  param : Nat
  deriving DecidableEq, Repr

/-- The escapement beyond its registers (R121 to R129): absolute number of the current symbol, accepted entries in
order of acceptance, next entry number, symbols dropped by R126 as (cluster, symbol), RFFE entries past their last
symbol whose frames may still fall due, sounding entries past their last symbol whose solver job may still start, whether TRIM is releasing calibration symbols, a sampled SYNC edge
waiting for its realignment (R79), and whether the crest-factor cancellation pulse is ready (R92). -/
structure AirS where
  sym : Int := 0
  queue : List SchedEntry := []
  nextId : Nat := 0
  drops : List (Nat × Int) := []
  rffeOld : List SchedEntry := []
  past : List SchedEntry := []
  calSym : Bool := false
  syncEdge : Bool := false
  pulse : Bool := false
  deriving DecidableEq, Repr
/-- One copy of a weight set (R145, R146): the whole set as it arrived, byte by byte, with the fields of its header that
the hardware keeps using. -/
structure WsetCopy where
  bytes : List Nat := []
  slotTag : Nat := 0
  seq : Nat := 0
  perSlot : Bool := false
  carr : Nat := 0
  lcnt : Nat := 0
  dir : Nat := 0
  deriving DecidableEq, Repr

/-- A weight set beyond its registers: active and shadow copy, whether the shadow passed its checks, and which events of
R149 have been raised in the present period. -/
structure WsetS where
  actv : WsetCopy := {}
  shd : WsetCopy := {}
  checked : Bool := false
  evtReady : Bool := false
  evtStale : Bool := false
  evtMuted : Bool := false
  deriving DecidableEq, Repr

/-- A receive carrier symbol (`prach` none) or a PRACH occasion (its configuration) in work (R137, R148, R151): entry, its kind and PARAM, first grid symbol,
grid symbols claimed, layers muted from LFIRST on, stale weights, and the weight copy active at its boundary. -/
structure RxWork where
  id : Nat
  kind : Nat
  param : Nat
  carrier : Nat
  prach : Option Nat
  sym : Int
  span : Nat
  mutes : List Bool
  stale : Bool
  copy : WsetCopy
  deriving DecidableEq, Repr

/-- The beamforming slices and solver beyond their registers (chapter 6): the sixteen sets, units whose UNIT_CORR has been
written since the last commit, balance second of each unit's correction, the running solver job with its
output set and the tag its result applies from, the archive of each set (R303), the receive symbols in work, and the carriers
whose layers are capped at 16 (R143). -/
structure BeamS where
  wsets : Tbl WsetS := []
  corrWritten : List Nat := []
  corrTime : Tbl Nat := []
  job : Option (Nat × Nat × Nat) := none
  arch : Tbl (List Nat) := []
  work : List RxWork := []
  capped : List Nat := []
  deriving DecidableEq, Repr
/-- An open croak window (R165 to R168): its first symbol, role, code set, centre offset, SELF unit and NREC, the listening
units, the transmitting unit, and whether a croak of the device's own is due. -/
structure CroakWin where
  first : Int
  role : Nat
  cset : Nat
  fofs : Nat
  unit : Nat
  nrec : Nat
  listen : List Nat
  tx : Option Nat
  due : Bool
  deriving DecidableEq, Repr

/-- One payload record of a croak (Table 7.5). -/
structure CroakRec where
  peer : Nat
  age : Nat
  arr : Nat
  phase : Nat
  freq : Nat
  corrQ : Nat
  deriving DecidableEq, Repr

/-- The croak being received: SRC_ID, NREC and SELF of its header, and its records once their CRC-16 has passed. -/
structure CroakRx where
  src : Nat
  nrec : Nat
  self : Bool
  recs : Option (List CroakRec)
  deriving DecidableEq, Repr

/-- The responses of one self-croak (R195): half-millisecond and balance second of its window, and for each unit (RE, IM, tag,
used). -/
structure SelfResp where
  half : Int
  sec : Nat
  resp : List (Nat × Nat × Nat × Bool)
  deriving DecidableEq, Repr

/-- The Chorus beyond its registers (chapter 7): open window, croak deferred under R119, gain index, croak being received,
bytes of the last croak sent, balance second at which each parent last paired, peer entries by age (least recently
heard first), change of PSI that waits for a TILE commit, the latest self-croak of each unit, and the block in STOP. -/
structure ChorusS where
  win : Option CroakWin := none
  deferred : Option CroakWin := none
  idx : Nat := 15
  rx : Option CroakRx := none
  sent : List Nat := []
  pairedAt : Tbl Nat := []
  heard : List Nat := []
  psiPend : Nat := 0
  selfs : Tbl (List SelfResp) := []
  stopped : Bool := true
  deriving DecidableEq, Repr
/-- A calibration that runs (R182): unit position, bit number of Table 8.1 (16 and 17: the one-step verifications of a warm
start, RX_IRR and TX_LOL), steps done, and attempts failed in TRIM. -/
structure CalRun where
  pos : Nat
  cal : Nat
  done : Nat := 0
  tries : Nat := 0
  deriving DecidableEq, Repr

/-- A cluster's calibration engine (R186 to R190): the running calibration, steps that still fit in the present symbol, what the
unit being served still runs, why it is served (0 not, 1 a request, 2 due, 3 TRIM), requested positions with their calibrations,
due positions (longest due first) with their due calibrations, positions whose temperature changed again, sensor
temperature when the pass began, ORX due, ORX strikes, and the record of the last ORX pass. -/
structure ClusterCal where
  run : Option CalRun := none
  left : Nat := 0
  todo : List (Nat × Nat) := []
  serving : Nat := 0
  req : List Nat := []
  reqCals : Nat := 0
  due : List Nat := []
  dueCals : Tbl Nat := []
  again : List Nat := []
  startTemp : Int := 0
  orxDue : Bool := false
  orxStrikes : Nat := 0
  orxTemp : Nat := 0
  deriving DecidableEq, Repr

/-- A unit's calibration values beyond registers: LOOP delay (1/16 ps) and phase, whether they stand, temperature record of R187,
struck-out calibrations by bit, release sought (R193), of a DPD strike-out too, and the PSI stored with its UNIT_CORR. -/
structure UnitCal where
  loopDelay : Nat := 0
  loopPhase : Nat := 0
  loopValid : Bool := false
  temp : Nat := 0
  struck : Nat := 0
  seek : Bool := false
  seekDpd : Bool := false
  corrPsi : Nat := 0
  deriving DecidableEq, Repr

/-- A bank of the calibration store (R198, R199), by its contents: SEQ, the register fields it keeps, trims, unit values, ORX
strikes and records, degraded sides, and times of measurement. -/
structure CalBank where
  seq : Nat := 0
  valid : Bool := false
  devId : Nat := 0
  grade : Nat := 0
  time : Nat := 0
  act : Tbl Nat := []
  hact : Tbl Nat := []
  trims : Tbl Nat := []
  orxTrims : Tbl Nat := []
  units : Tbl UnitCal := []
  orx : Tbl (Nat × Nat) := []
  degRx : List Nat := []
  degTx : List Nat := []
  corrTime : Tbl Nat := []
  deriving DecidableEq, Repr

/-- Calibration beyond its registers (chapter 8): unit and cluster parts; trim converters in force (key 64u + INDEX, ORX 16c + 2·POS +
INDEX − 0x11) and results that wait for a boundary; releases that wait for one, as (unit, side) and clusters; the
store's two banks, the one in use, the one being written, and
whether stored values have changed; units whose self-croak round of TRIM is still due; and whether the first LOOP pass of
a unit since a cold start is still to come. -/
structure CalS where
  units : Tbl UnitCal := []
  clusters : Tbl ClusterCal := []
  trims : Tbl Nat := []
  orxTrims : Tbl Nat := []
  pend : List (Nat × Nat) := []
  release : List (Nat × Nat) := []
  orxRelease : List Nat := []
  bankA : CalBank := {}
  bankB : CalBank := {}
  inUse : Option Nat := none
  saving : Option CalBank := none
  changed : Bool := false
  round : List Nat := []
  loopFirst : List Nat := []
  deriving DecidableEq, Repr
/-- A level of a Newt loop stack (R212): first index of the body, the index after it, and iterations left. -/
structure LoopLvl where
  start : Nat
  stop : Nat
  left : Nat
  deriving DecidableEq, Repr

/-- One context of a Newt core (Table 9.3): X, accumulator parts AR and AI, P, M, B and L by number, WB, the flags of SR, PC, loop and
call stacks (innermost first), and the event mask it waits for after a WAITEV. -/
structure CtxS where
  x : Tbl Nat := []
  ar : Tbl Int := []
  ai : Tbl Int := []
  p : Tbl Nat := []
  m : Tbl Nat := []
  b : Tbl Nat := []
  l : Tbl Nat := []
  wb : Nat := 0
  z : Bool := false
  n : Bool := false
  c : Bool := false
  v : Bool := false
  sat : Bool := false
  aov : Bool := false
  pc : Nat := 0
  loops : List LoopLvl := []
  calls : List Nat := []
  wait : Option Nat := none
  deriving DecidableEq, Repr

/-- The loop cache of a core (R212): first index of the cached body and the index after it, indices already cached, and whether it is in
use. -/
structure LoopCache where
  start : Nat
  stop : Nat
  filled : List Nat := []
  use : Bool := true
  deriving DecidableEq, Repr

/-- A Newt core beyond its registers (chapter 9): both contexts, the view of R204, the shadow copies of the user view's B and L (R204), ENTRY and FLAGS
(bit 1 ZB_USE, bit 2 DIAG_ONLY) of the slot, ENTRY of the firmware, which context ran last, the loop cache, a
STOP that waits for a point of R220, a fall-back request not yet acknowledged, cycles of the run, and busy cycles of both
contexts in the present 1 ms window. -/
structure NewtS where
  user : CtxS := {}
  vendor : CtxS := {}
  view : CtxS := {}
  bSh : Tbl Nat := []
  lSh : Tbl Nat := []
  entry : Nat := 0
  flags : Nat := 0
  fwEntry : Nat := 0
  lastUser : Bool := false
  cache : Option LoopCache := none
  stopReq : Bool := false
  auto : Bool := false
  fallReq : Bool := false
  cycles : Nat := 0
  win : Nat := 0
  vCyc : Nat := 0
  uCyc : Nat := 0
  deriving DecidableEq, Repr
/-- A packet on an output port (R242): fields of its header by name, its payload, and its authentication block as (KEY_ID, COUNTER,
MAC). The device's own packets have UP 1; a forwarded packet keeps its header (R264). -/
structure OutPkt where
  port : Nat
  op : Nat
  up : Bool := true
  bcast : Bool := false
  more : Bool := false
  ack : Bool := false
  err : Bool := false
  dev : Nat := 0
  seq : Nat := 0
  tag : Nat := 0
  aux : Nat := 0
  payload : List Nat := []
  auth : Option (Nat × Nat × Nat) := none
  deriving DecidableEq, Repr

/-- An uplink carrier symbol in the pool (R252, R253): stream, air-time tag, absolute symbol, CARRIER, PRACH, LFIRST, LCNT, and its packets not yet
sent as (layer, AUX, payload). `cause` not 0: the symbol has been replaced by a DROPPED packet of that CAUSE. -/
structure UlSym where
  stream : Nat
  tag : Nat
  sym : Int
  carrier : Nat
  prach : Bool
  lfirst : Nat
  lcnt : Nat
  pkts : List (Nat × Nat × List Nat)
  cause : Nat := 0
  deriving DecidableEq, Repr

/-- A downlink section in its pad (R254): tag, carrier, layer, first block, blocks, and its bytes. -/
structure DlSec where
  tag : Nat
  carrier : Nat
  layer : Nat
  first : Nat
  cnt : Nat
  bytes : List Nat
  deriving DecidableEq, Repr

/-- The packet engine and pool beyond their registers (chapter 11): uplink symbols in order of completion, downlink sections, the weight
set being received as (WSET, bytes), last SEQ plus 1 seen on each upstream port, next SEQ sent on each port,
the ports whose NO_ROUTE event has been raised since HDR_ERR was read, and WEIGHTS requests whose response waits for the checks, as (set, TAG, ACK, slot
that authenticated it). -/
structure PoolS where
  ul : List UlSym := []
  dl : List DlSec := []
  wfrag : Option (Nat × List Nat) := none
  seqIn : Tbl Nat := []
  seqOut : Tbl Nat := []
  noRoute : List Nat := []
  wreply : List (Nat × Nat × Bool × Option Nat) := []
  deriving DecidableEq, Repr

/-- A port beyond its registers (chapter 10): lanes that run a window of their own beside the attempt's; a lane saw signal in
this attempt; failures since the last pass (R233); failed attempts since the last pass or new start, and whether the port came UP
by fall-back (R234); the agreed mask and how many consecutive status words have shown it (R232); failures of each lane since its
last pass; lane and mode of the eye scan. -/
structure PortS where
  own : List Nat := []
  seen : Bool := false
  backoff : Nat := 0
  fails : Nat := 0
  low : Bool := false
  agree : Nat := 0
  agreeMask : Nat := 0
  laneFails : Tbl Nat := []
  eyeLane : Nat := 0
  eyeMode : Nat := 0
  deriving DecidableEq, Repr

/-- The link beyond its registers (chapters 10 and 11): packets sent, oldest first; status words sent under STATUS_WORD_DUE, as port and
bytes; neither upstream port UP for UPLOSS_HOLD; ports; the ports' first bring-up has begun (R241); the ports run from the backup
oscillator (R239); the last active upstream port. -/
structure LinkS where
  out : List OutPkt := []
  words : List (Nat × List Nat) := []
  upLost : Bool := false
  ports : Tbl PortS := []
  started : Bool := false
  backup : Bool := false
  lastUp : Option Nat := none
  deriving DecidableEq, Repr
/-- A unit: its receive and transmit sides; `quiesce` a quiesce for a reset holds its mute cause 4; `degRx` and `degTx` the
sides degraded by calibration (R191); idle symbols counted for gating (R342). -/
structure UnitS where
  rx : RxUnit := {}
  tx : TxUnit := {}
  quiesce : Bool := false
  degRx : Bool := false
  degTx : Bool := false
  idleTx : Nat := 0
  idleRx : Nat := 0
  deriving DecidableEq, Repr

/-- A cluster beyond its registers: block in STOP, the stored entry a lock uses, the frequency of a PRECAL calibration,
stored entries by age of use (oldest first), LO_EN written 0 since it was last 1, event 0x2022 raised in this
unlocked period, frames on and waiting for the RFFE bus, adaptation requests of the ORX switch and the position a
calibration asks of it. -/
structure ClusterS where
  stopped : Bool := true
  entry : Option Nat := none
  precal : Option Nat := none
  lru : List Nat := []
  enWas0 : Bool := false
  dropEvt : Bool := false
  bus : List RffeFrame := []
  cmdQ : List RffeFrame := []
  orxReq : List Nat := []
  calPos : Option Nat := none
  deriving DecidableEq, Repr
/-- A PTP domain of the device (R274 to R278), A or B. `ann` and `exch`: an Announce and an exchange lie within their limits; `gm`,
`cls` from the last Announce; `lost` it ceased to be valid, `good` good exchanges since; `seq`, `t1`, `t2`, `t3` of the
running exchange (2^−16 ns), `wait` a two-step Sync waits for its Follow_Up; `reqLog` the master's
logMinDelayReqInterval, `reqAt` when the last Delay_Req left; `acc` the last accepted offsets (newest first, 1/16 ns), `pend`
the pending ones in order, `last` the newest offset; `view0` the Chorus view at the last accepted offset; `back`
consecutive exchanges near the source while SUSPECT. -/
structure DomS where
  ann : Bool := false
  gm : Nat := 0
  cls : Nat := 255
  exch : Bool := false
  lost : Bool := false
  good : Nat := 0
  seq : Nat := 0
  wait : Bool := false
  t1 : Option Int := none
  t2 : Option Int := none
  t3 : Option Int := none
  reqLog : Option Int := none
  reqAt : Option Nat := none
  acc : List Int := []
  pend : List Int := []
  last : Option Int := none
  view0 : Option Int := none
  back : Nat := 0
  deriving DecidableEq, Repr

/-- Time (chapter 12) beyond its registers: the balance in units of 2^−40 ns; domains A and B; errors that FREE has taken for
its frequency; consecutive errors within LOCK_THR; LOCKED since release; a step that SERVE held back; last error of the
source in use (1/16 ns); STEER history, newest first, and updates run in LOCKED; the frozen STEER and start of a
HOLDOVER; PPS_IN edges arrive; balance at the last rise of PPS_OUT. -/
structure TimeS where
  bal : Nat := 0
  domA : DomS := {}
  domB : DomS := {}
  freq : Nat := 0
  near : Nat := 0
  wasLocked : Bool := false
  stepHeld : Bool := false
  srcErr : Int := 0
  hist : List Int := []
  lockTicks : Nat := 0
  holdSteer : Int := 0
  holdStart : Nat := 0
  ppsOk : Bool := false
  ppsRise : Option Nat := none
  deriving DecidableEq, Repr
/-- The open segment of a capture channel (R294, Table 13.4): flags AUTO and FORCE, index of its trigger sample counted from ARM,
TRIG_FRAC, PRE_ACT, TAG, SEC, NS, FRAC, MISSED, and the sample instants stored so far. -/
structure CapSeg where
  auto : Bool
  force : Bool
  since : Nat
  frac : Nat
  preAct : Nat
  tag : Nat
  sec : Nat
  ns : Nat
  fr : Nat
  missed : Nat
  got : List (List CapSample) := []
  deriving DecidableEq, Repr

/-- A capture channel beyond its registers (chapter 13): charged bandwidth (1/64 kB/s), segments closed, triggers missed since the
previous segment, the open segment, a time hold-off runs, trigger points still ignored, the 640 cycles after a segment are
over, marks written, and samples stored by a stream. -/
structure CapCh where
  charge : Nat := 0
  seg : Nat := 0
  missed : Nat := 0
  opn : Option CapSeg := none
  holdTime : Bool := false
  holdCnt : Nat := 0
  rearmed : Bool := false
  marks : Nat := 0
  count : Nat := 0
  deriving DecidableEq, Repr
/-- A DATA descriptor being run (Table 14.4): EVT, SWAP, DST_LINK, FIX_DST, FIX_SRC, LEN, SRC, DST and word 0 as read. -/
structure DmaDesc where
  evt : Bool
  swap : Nat
  link : Bool
  fixDst : Bool
  fixSrc : Bool
  len : Nat
  src : Nat
  dst : Nat
  word0 : Nat
  deriving DecidableEq, Repr

/-- A DMA channel beyond its registers (chapter 14): the running descriptor, a descriptor read in flight, one more read asked by a
doorbell, LINK descriptors in a row, next position of a POST, new reads stopped for a pause, a domain it touches is down. -/
structure DmaCh where
  desc : Option DmaDesc := none
  reading : Bool := false
  again : Bool := false
  links : Nat := 0
  posted : Nat := 0
  pausing : Bool := false
  lost : Bool := false
  deriving DecidableEq, Repr
/-- A monitor converter (R320 to R324): the running entry as (converter whose list it is, sequence, entry), host sequences pending and
suspended (with the next entry), phase of the vendor run (0 none, 1 asked for, 2 own sequence 2, 3 the other converter's, 4 ready for
sequence 3, 5 sequence 3), start-up delay, powered, condition (0 OK, 1 SUSPECT, 2 FAILED), next entry converted twice, and
sequence 3 of this run done. -/
structure HkConv where
  run : Option (Nat × Nat × Nat) := none
  pend : List Nat := []
  susp : Option (Nat × Nat) := none
  phase : Nat := 0
  starting : Bool := false
  powered : Bool := false
  cond : Nat := 0
  twice : Bool := false
  done3 : Bool := false
  deriving DecidableEq, Repr

/-- A bias output (R326 to R331): safe code loaded; a host CODE in force; ramp from `src` to `dst` at `rate` codes per µs (0: a step) since
balance `t0`; a range change runs; SAFE_CODE held in the new range; a fault acts; the safe code held after SAFE; sine mode
with its phase; readbacks in error. -/
structure BiasS where
  loaded : Bool := false
  host : Bool := false
  src : Nat := 0
  dst : Nat := 0
  rate : Nat := 0
  t0 : Nat := 0
  change : Bool := false
  holdSafe : Bool := false
  latched : Bool := false
  safeHold : Bool := false
  sine : Bool := false
  phi : Nat := 0
  strikes : Nat := 0
  deriving DecidableEq, Repr

/-- A PWM output (R332, R333): DUTY in force, periods with a mismatch, a fault acts. -/
structure PwmS where
  duty : Nat := 0
  strikes : Nat := 0
  latched : Bool := false
  deriving DecidableEq, Repr

/-- Housekeeping beyond its registers (chapter 15): converters, bias and PWM outputs, the option records SAFE_CODE + 4096·SAFE_RANGE, outputs
whose CODE has been written since the last commit, units whose DUTY has; samples in a row outside the range, and in a row of wide
disagreement of a cluster sensor with its tile's, by sensor. -/
structure HkS where
  convs : Tbl HkConv := []
  bias : Tbl BiasS := []
  pwm : Tbl PwmS := []
  safe : Tbl Nat := []
  codeWr : List Nat := []
  dutyWr : List Nat := []
  outside : Tbl Nat := []
  apart : Tbl Nat := []
  deriving DecidableEq, Repr
/-- A directory copy (Table 2.11) whose MAGIC and CRC match. -/
structure DirCopy where
  seq : Nat
  slotSize : Nat
  pref : Nat
  present : Nat
  devId : Nat
  verA : Nat := 0
  verB : Nat := 0
  lenA : Nat := 0
  lenB : Nat := 0
  deriving DecidableEq, Repr

/-- An entry of the flash log (R60): what it records (0 a start, 1 RESET_CAUSE, 2 a trim failure, 3 an image failure, 4 a degraded
unit), its value, and the balance when it was written. -/
structure LogEntry where
  kind : Nat
  value : Nat
  bal : Nat
  deriving DecidableEq, Repr

/-- The configuration flash (R57 to R60): size in bytes (0: none), directory copies that are valid, image slots, log. -/
structure FlashS where
  size : Nat := 0
  dir0 : Option DirCopy := none
  dir1 : Option DirCopy := none
  slotA : List Nat := []
  slotB : List Nat := []
  log : List LogEntry := []
  deriving DecidableEq, Repr

/-- A verified image by its records (Table 2.9). -/
structure ImageS where
  bytes : List Nat := []
  rollback : Nat := 0
  warmEn : Bool := false
  newtFw : List (List Nat) := []
  kernels : List (List Nat) := []
  regInit : List (Nat × Nat × Nat) := []
  dpdSeeds : List (List Nat) := []
  weightSeeds : List (List Nat) := []
  plan : Option (List Nat) := none
  schedule : List (Nat × Nat × Nat) := []
  profile : Option (List Nat) := none
  deriving DecidableEq, Repr

/-- Start and modes beyond their registers (chapters 1 and 2): running image; WARM_EN of the image that ran before and the slot it came from, kept in AON; image being
received, with the slot it goes to (0 A, 1 B, 2 LINK); units of FAILED tiles or regions; a trim load runs; the release was of SYSTEM
reach; causes of SAFE by event code (R401); step 5 still waits. -/
structure BootS where
  img : Option ImageS := none
  warmEn : Bool := false
  warmSlot : Nat := 3
  asm : Option (Nat × List Nat) := none
  loading : Bool := false
  system : Bool := false
  safe : List Nat := []
  deriving DecidableEq, Repr

/-- A link key in a slot (R367): key, role (1 USER, 2 CO), last accepted COUNTER, upstream counter, generation of its blob. -/
structure KeySlot where
  key : Nat
  role : Nat
  last : Nat := 0
  up : Nat := 0
  gen : Nat := 0
  deriving DecidableEq, Repr

/-- The security block beyond its registers (chapter 17): slots in retention, blobs in MTP with the counters' checkpoints,
consecutive failures and locks by slot, the challenge that holds, the bytes of the JTAG data register of SEC_CHAL, the service that runs as (SERVICE, role, request), copies of
MIN_VER used, MIN_VER before the last copy, and whether the last self-test set passed. -/
structure SecS where
  slots : Tbl (Option KeySlot) := []
  blobs : Tbl (Option KeySlot) := []
  fails : Tbl Nat := []
  locks : Tbl Nat := []
  challenge : Option (List Nat) := none
  dr : List Nat := []
  job : Option (Nat × Nat × List Nat) := none
  copies : Nat := 0
  minPrev : Nat := 0
  passed : Bool := false
  deriving DecidableEq, Repr

/-- The retention snapshot (R353): register fields (of class H their shadow copies), the event queue in its order, trims, and the bias outputs
whose CODE the host had committed. -/
structure Snap where
  act : Tbl Nat := []
  hsh : Tbl Nat := []
  events : EventQueue := {}
  trims : Tbl Nat := []
  orxTrims : Tbl Nat := []
  codes : List Nat := []
  deriving DecidableEq, Repr

/-- Power beyond its registers (chapter 16): voters that have accepted and refused in the open vote, target and cause of the pending or
committing sleep, failed votes in a row; the retention snapshot; schedule entries (by index) that have acted once, and those that fell due during a transition; an AVS change that waits as rail ↦ (target, retries); last ON targets; slots a region has
been idle; 1 ms ticks and gated TX paths counted for TXGATE; regions woken for a trim or calibration; LO calibrations that wait
for one, as (cluster, frequency); balance stored at BRUMATE; pre-wakes that run, as (0 RX path, 1 TX path, 2 region; index); paths that
a calibration uses in the present symbol, as (0 RX, 1 TX; unit); regions that something used in the present slot. -/
structure PowerS where
  accepted : List Nat := []
  refused : List Nat := []
  target : Nat := 0
  cause : Nat := 0
  backoff : Nat := 0
  snap : Option Snap := none
  acted : List Nat := []
  due : List Nat := []
  avs : Tbl (Nat × Nat) := []
  onTarget : Tbl Nat := []
  regIdle : Tbl Nat := []
  ticks : Nat := 0
  gated : Tbl Nat := []
  woken : List Nat := []
  precal : List (Nat × Nat) := []
  brumBal : Nat := 0
  waking : List (Nat × Nat) := []
  calBusy : List (Nat × Nat) := []
  regBusy : List Nat := []
  deriving DecidableEq, Repr
/-- What the fuses and the factory records hold (R1, R36, R37, R367): grade code, stepping, the 2-bit reach fields of R37, TAMPER_EN,
DBG_ROOT, the hashes of the root keys by slot and the revoked slots, DEVICE_UID and the DUK. -/
structure Fuses where
  grade : Nat := 1
  stepping : Nat := 0
  nrstIn : Nat := 0
  wdog : Nat := 0
  hostCap : Nat := 0
  jtag : Nat := 0
  tileFault : Nat := 0
  tamperEn : Nat := 0
  dbgRoot : Nat := 0
  roots : Tbl Nat := []
  revoked : Nat := 0
  uid : Nat := 0
  duk : Nat := 0
  deriving DecidableEq, Repr

/-- The state of the ZC256. -/
structure State where
  /-- register fields of class S and L, by place; unlisted fields hold their reset value -/
  act : Tbl Nat := []
  /-- active copies of class H fields -/
  hact : Tbl Nat := []
  /-- shadow copies of class H fields -/
  hsh : Tbl Nat := []
  /-- commit groups whose refusal has been recorded and that no shadow write has touched since (R11) -/
  silent : List Nat := []
  fuse : Fuses := {}
  rst : ResetS := {}
  events : EventQueue := {}
  time : TimeS := {}
  air : AirS := {}
  units : Tbl UnitS := []
  clusters : Tbl ClusterS := []
  beam : BeamS := {}
  cal : CalS := {}
  newts : Tbl NewtS := []
  /-- memories by byte: the memory die at device addresses, the Newt cores' memories above 2^40 -/
  mem : Tbl Byte := []
  /-- units that read absent for another cause than the grade: of a FAILED tile (R41, R33) -/
  absent : List Nat := []
  chorus : ChorusS := {}
  link : LinkS := {}
  pool : PoolS := {}
  caps : Tbl CapCh := []
  dmas : Tbl DmaCh := []
  hk : HkS := {}
  flash : FlashS := {}
  boot : BootS := {}
  sec : SecS := {}
  power : PowerS := {}
  /-- the model's own counter of free values taken -/
  free : Nat := 0
  /-- commands waiting, first in, first out -/
  pending : List Instr := []
  deriving DecidableEq, Repr

/-- Why a step stops with a fault. The type has no constructor: where the spec reports an error, the device answers with a status, an event or an error
flag and goes on, so no command stops the machine. -/
inductive Fault where
  deriving DecidableEq, Repr

/-- Why a command is refused. -/
inductive Refusal where
  /-- Raised by the dispatch alone, for a command without a meaning (none is left); safe. -/
  | notModelled (mnemonic : String)
  deriving DecidableEq, Repr

/-- The state right after reset. -/
def State.reset : State := { boot := { system := true } }

end Sys2Proof.Machine
end

