-- ==== Sys2Proof/Machine/Table.lean ====
section
/-! DEFINITION. Sparse tables in one canonical form: keys strictly rising, and no entry that holds the default of
its key. Equal tables are then equal data. -/

namespace Sys2Proof.Machine

/-- The value at key `k`, or `d` where none is listed. -/
def Tbl.get {α : Type} : Tbl α → Nat → α → α
  | [], _, d => d
  | (k', v) :: r, k, d => if k' = k then v else Tbl.get r k d

/-- The table without key `k`. -/
def Tbl.erase {α : Type} : Tbl α → Nat → Tbl α
  | [], _ => []
  | (k', v) :: r, k => if k' = k then Tbl.erase r k else (k', v) :: Tbl.erase r k

/-- The table with `(k, v)` put before the first greater key. -/
def Tbl.ins {α : Type} : Tbl α → Nat → α → Tbl α
  | [], k, v => [(k, v)]
  | (k', v') :: r, k, v => if k < k' then (k, v) :: (k', v') :: r else (k', v') :: Tbl.ins r k v

/-- Set key `k`, whose default is `d`, to `v`: a value equal to the default is not listed. -/
def Tbl.set {α : Type} [DecidableEq α] (t : Tbl α) (k : Nat) (d v : α) : Tbl α :=
  if v = d then t.erase k else (t.erase k).ins k v

/-- The table without the keys from `lo` up to, not including, `hi`. -/
def Tbl.clear {α : Type} : Tbl α → Nat → Nat → Tbl α
  | [], _, _ => []
  | (k, v) :: r, lo, hi => if lo ≤ k ∧ k < hi then Tbl.clear r lo hi else (k, v) :: Tbl.clear r lo hi

/-- The entries with keys from `lo` up to, not including, `hi`. -/
def Tbl.range {α : Type} : Tbl α → Nat → Nat → Tbl α
  | [], _, _ => []
  | (k, v) :: r, lo, hi => if lo ≤ k ∧ k < hi then (k, v) :: Tbl.range r lo hi else Tbl.range r lo hi

/-- The entries of two tables together; on a shared key the second wins. -/
def Tbl.merge {α : Type} : Tbl α → Tbl α → Tbl α
  | t, [] => t
  | t, (k, v) :: r => ((Tbl.merge t r).erase k).ins k v

/-- Keys strictly rising from `lo` on. -/
def Tbl.risingFrom {α : Type} : Nat → Tbl α → Bool
  | _, [] => true
  | lo, (k, _) :: r => decide (lo ≤ k) && Tbl.risingFrom (k + 1) r

/-- Keys strictly rising. -/
def Tbl.rising {α : Type} (t : Tbl α) : Bool := Tbl.risingFrom 0 t

end Sys2Proof.Machine
end

