-- ==== Sys2Proof/Machine/Mem.lean ====
section
/-! DEFINITION. Addressed memories: bytes and little-endian words of the memory die (Table 14.1) and of the Newt cores' memories
(Table 9.1). A byte that nothing has written reads 0x00 (DESIGN CHOICE, log 3). -/

namespace Sys2Proof.Machine

/-- An addressed memory: (address, byte) pairs. -/
abbrev Memory := Tbl (BitVec 8)

/-- The canonical form: addresses strictly rising, and no byte listed that an unlisted address reads as. -/
def Memory.wf (m : Memory) : Bool := Tbl.rising m && m.all fun p => p.2 != 0

def memByte (s : State) (a : Nat) : Nat := (s.mem.get a 0).toNat

def setMemByte (s : State) (a v : Nat) : State := { s with mem := s.mem.set a 0 (BitVec.ofNat 8 v) }

/-- The `n` bytes from `a`. -/
def memBytes (s : State) (a n : Nat) : List Nat := (List.range n).map fun i => memByte s (a + i)

/-- Write bytes from `a` on. -/
def setMemBytes : State → Nat → List Nat → State
  | s, _, [] => s
  | s, a, b :: r => setMemBytes (setMemByte s a b) (a + 1) r

/-- A little-endian 32-bit word (R5). -/
def memWord (s : State) (a : Nat) : Nat :=
  memByte s a + 256 * memByte s (a + 1) + 65536 * memByte s (a + 2) + 16777216 * memByte s (a + 3)

def setMemWord (s : State) (a v : Nat) : State :=
  setMemBytes s a [v % 256, v / 256 % 256, v / 65536 % 256, v / 16777216 % 256]

/-- Forget the bytes from `a` up to, not including, `b`: they read 0x00. -/
def clearMem (s : State) (a b : Nat) : State := { s with mem := s.mem.clear a b }

/-- The memory die ends here (R302). -/
def dieEnd : Nat := 0x200000000

/-- Host and DMA may write a die address (Table 14.1): capture and user areas. -/
def dieWritable (a : Nat) : Bool := decide (0x40000000 ≤ a) && decide (a < dieEnd)

/-- The die's user area. -/
def userArea : Nat := 0x140000000

/-- Where core `g`'s memories lie in `mem`: XM, YM and region memory at their core addresses, PM index i at 0x80_0000 + 4i. -/
def newtBase (g : Nat) : Nat := 2 ^ 40 + g * 2 ^ 24
def pmAddr (g i : Nat) : Nat := newtBase g + 0x800000 + 4 * i

/-! ### Archives of the memory die (Table 14.1, R303) -/

/-- Where the pre-distortion table of unit `u` is archived. -/
def tableArea (u : Nat) : Nat := 0x04000000 + u * 0x10000

/-- The bytes of a pre-distortion table (R96). -/
def tableBytes (t : Tbl Nat) : List Nat :=
  (List.range 973).flatMap fun w =>
    let v := t.get w 0
    [v / 16777216 % 256, v / 65536 % 256, v / 256 % 256, v % 256]

/-- Archive the table of unit `u` (R303). -/
def archiveTable (s : State) (u : Nat) (t : Tbl Nat) : State := setMemBytes s (tableArea u) (tableBytes t)

/-- The words of the archived table of unit `u`; an entry whose CRC fails counts as absent (R303). -/
def archivedTable (s : State) (u : Nat) : Option (List Nat) :=
  let bs := memBytes s (tableArea u) 3892
  let word := fun w => (List.range 4).foldl (fun a i => a * 256 + bs.getD (4 * w + i) 0) 0
  if crc32 (bs.take 3888) = word 972 then some ((List.range 973).map word) else none

/-- Where a value of the coupling matrix of region `g` is archived (R197). -/
def couplingAddr (g row col : Nat) : Nat := 0x06800000 + g * 0x400 + 4 * (16 * row + col)

end Sys2Proof.Machine
end

