-- ==== Sys2Proof/Config.lean ====
section
/-! DEFINITION. What the spec does not give: free values, and the cryptographic functions of the standards it names (Table 17.2). Each is
an opaque constant without a body, so nothing can be proved of the value it takes. -/

namespace Sys2Proof.Config

/-- An open value below `2^width`; the first argument is the state's own counter of free values taken. -/
opaque freeBits : Nat → (width : Nat) → Nat

/-- SHA-384 of a byte string, as a number (FIPS 180-4). -/
opaque sha384 : List Nat → Nat

/-- ECDSA P-384 verification with SHA-384: public key, message, signature (FIPS 186-5). -/
opaque ecdsaOk : List Nat → List Nat → List Nat → Bool

/-- The AES-256 CMAC of a message under a key, 128 bits (SP 800-38B). -/
opaque cmac : Nat → List Nat → Nat

/-- The key that a KEY_IMPORT request unwraps to (R375): DUK, DEVICE_UID, EPH_PUB and wrapped key; none where a check fails. -/
opaque unwrapKey : Nat → Nat → List Nat → List Nat → Option Nat

/-- The identity public key derived from the DUK, 96 bytes (R367). -/
opaque identityPub : Nat → List Nat

/-- The fuse field that a field byte of FUSE_PROGRAM names (R375 gives no numbers): 0 to 4 the reach fields of R37 in the order of Table 2.2, 5
TAMPER_EN, 6 DBG_ROOT, 7 to 10 the root hashes, 11 the revoke bits; other results name none. -/
opaque fuseField : Nat → Nat

/-- R136: the rounded product of a bin with E_u and c_u, from the real and imaginary part, i − REF_IDX, K_u (0.01 dB), RX_PH, RX_DLY and the
frequency in units of 0.625 kHz. -/
opaque equalise : List Int → Int × Int

end Sys2Proof.Config
end

