-- ==== Sys2Proof/Machine/Fields.lean ====
section
/-! DEFINITION. The register fields of the spec's register tables, one definition per field:
register-window offset (block offset of Table 1.11 plus the register's own offset), lowest bit, width,
access code (Table 0.6), class (R9) and reset value. A field of an indexed register takes its indexes. -/

namespace Sys2Proof.Machine

/-- Table 11.7: the reset reserve of allocation stream `s`, in pads. -/
def rsvReset (s : Nat) : Nat :=
  [512, 512, 512, 512, 1024, 1024, 1024, 1024, 256, 512, 128, 128, 256, 512, 512, 0].getD s 0

/-- Table 11.7: the reset maximum of allocation stream `s`, in pads. -/
def maxReset (s : Nat) : Nat :=
  [2560, 2560, 2560, 2560, 3072, 3072, 3072, 3072, 2304, 2560, 2176, 2176, 2304, 2560, 2560, 0].getD s 0

namespace Reg

/-! ### Block GLOBAL (Tables 0.3 to 1.13, R33) -/

/-! `DEVICE_INFO` (Table 0.3) -/
def DEVICE_INFO_GRADE : Fld := ⟨0x0, 0, 4, .ro, .L, 0x1⟩
def DEVICE_INFO_STEPPING : Fld := ⟨0x0, 4, 4, .ro, .L, 0⟩
def DEVICE_INFO_FAMILY : Fld := ⟨0x0, 8, 8, .ro, .L, 1⟩

/-! `CFG_STATUS` (Table 0.7) -/
def CFG_STATUS_CFG_IGNORED : Fld := ⟨0x10, 0, 1, .w1c, .L, 0⟩
def CFG_STATUS_CFG_PAIR_ERR : Fld := ⟨0x10, 1, 1, .w1c, .L, 0⟩
def CFG_STATUS_ERR_OVF : Fld := ⟨0x10, 2, 1, .w1c, .L, 0⟩
def CFG_STATUS_ERR_KIND : Fld := ⟨0x10, 3, 1, .ro, .L, 0⟩

/-! `CFG_ERR_ADDR` (Table 0.8) -/
def CFG_ERR_ADDR_ADDR : Fld := ⟨0x14, 0, 24, .ro, .L, 0⟩

/-! `MODE_STATUS` (Table 1.6) -/
def MODE_STATUS_MODE : Fld := ⟨0x20, 0, 3, .ro, .L, 0⟩
def MODE_STATUS_BUSY : Fld := ⟨0x20, 3, 1, .ro, .L, 1⟩
def MODE_STATUS_TARGET : Fld := ⟨0x20, 4, 3, .ro, .L, 0⟩
def MODE_STATUS_CAUSE : Fld := ⟨0x20, 8, 4, .ro, .L, 0⟩

/-! `MODE_REQ` (Table 1.7) -/
def MODE_REQ_TARGET : Fld := ⟨0x24, 0, 3, .rw, .L, 0⟩

/-! `ALERT_MASK` (Table 1.12) -/
def ALERT_MASK_CLASS_EN : Fld := ⟨0x30, 0, 8, .rw, .L, 224⟩
def ALERT_MASK_FATAL_EN : Fld := ⟨0x30, 15, 1, .ro, .L, 1⟩

/-! `ALERT_STATUS` (Table 1.13) -/
def ALERT_STATUS_CLASS_PEND : Fld := ⟨0x34, 0, 8, .w1c, .L, 0⟩
def ALERT_STATUS_FATAL_PEND : Fld := ⟨0x34, 15, 1, .w1c, .L, 0⟩

/-! ### Block RB (Tables 2.12 to 2.19) -/

/-! `RESET_CAUSE` (Table 2.12) -/
def RESET_CAUSE_SRC : Fld := ⟨0x10000, 0, 10, .rc, .L, 1⟩

/-! `RESET_CAUSE_BLK` (Table 2.13) -/
def RESET_CAUSE_BLK_BLK_ID : Fld := ⟨0x10004, 0, 12, .rc, .L, 0⟩
def RESET_CAUSE_BLK_FORCED : Fld := ⟨0x10004, 12, 1, .rc, .L, 0⟩
def RESET_CAUSE_BLK_OVF : Fld := ⟨0x10004, 13, 1, .rc, .L, 0⟩
def RESET_CAUSE_BLK_REACH : Fld := ⟨0x10004, 16, 3, .rc, .L, 0⟩

/-! `BLK_RESET` (Table 2.14) -/
def BLK_RESET_BLK_ID : Fld := ⟨0x10008, 0, 12, .rw, .L, 0⟩
def BLK_RESET_GO : Fld := ⟨0x10008, 15, 1, .wo, .L, 0⟩
def BLK_RESET_BUSY : Fld := ⟨0x10008, 16, 1, .ro, .L, 0⟩
def BLK_RESET_REFUSED : Fld := ⟨0x10008, 17, 1, .w1c, .L, 0⟩

/-! `BOOT_CTRL` (Table 2.15) -/
def BOOT_CTRL_RELOAD_TRIM : Fld := ⟨0x1000C, 0, 1, .wo, .L, 0⟩

/-! `BOOT_STATUS` (Table 2.16) -/
def BOOT_STATUS_TRIM_VALID : Fld := ⟨0x10010, 0, 1, .ro, .L, 0⟩
def BOOT_STATUS_TRIM_FAIL : Fld := ⟨0x10010, 1, 1, .ro, .L, 0⟩
def BOOT_STATUS_TRIM_FAILS : Fld := ⟨0x10010, 2, 2, .ro, .L, 0⟩
def BOOT_STATUS_WARM : Fld := ⟨0x10010, 4, 1, .ro, .L, 0⟩
def BOOT_STATUS_SLOT : Fld := ⟨0x10010, 5, 2, .ro, .L, 3⟩
def BOOT_STATUS_FALLBACK : Fld := ⟨0x10010, 7, 1, .ro, .L, 0⟩
def BOOT_STATUS_STEP : Fld := ⟨0x10010, 12, 4, .ro, .L, 1⟩

/-! `BOOT_STRAPS` (Table 2.17) -/
def BOOT_STRAPS_BOOTSEL : Fld := ⟨0x10014, 0, 2, .ro, .L, 0⟩
def BOOT_STRAPS_CLKSEL : Fld := ⟨0x10014, 2, 2, .ro, .L, 0⟩
def BOOT_STRAPS_STRAP_ERR : Fld := ⟨0x10014, 4, 1, .ro, .L, 0⟩

/-! `BOOT_TIME` (Table 2.18) -/
def BOOT_TIME_CYCLES : Fld := ⟨0x10018, 0, 32, .ro, .L, 0⟩

/-! `REACH_MAP` (Table 2.19) -/
def REACH_MAP_NRST_IN : Fld := ⟨0x10020, 0, 3, .ro, .L, 0b011⟩
def REACH_MAP_WDOG : Fld := ⟨0x10020, 3, 3, .ro, .L, 0b011⟩
def REACH_MAP_HOST_CAP : Fld := ⟨0x10020, 6, 3, .ro, .L, 0b100⟩
def REACH_MAP_JTAG : Fld := ⟨0x10020, 9, 3, .ro, .L, 0b011⟩
def REACH_MAP_TILE_FAULT : Fld := ⟨0x10020, 12, 3, .ro, .L, 0b001⟩

/-! ### Block UNIT (Tables 3.7 to 4.27) -/

/-! `UNIT_RX_CTRL` (Table 3.7) -/
def UNIT_RX_CTRL_RUN (u : Nat) : Fld := ⟨0x200000 + 0x1000 * u, 0, 1, .rw, .L, 0⟩
def UNIT_RX_CTRL_SYNC_EN (u : Nat) : Fld := ⟨0x200000 + 0x1000 * u, 1, 1, .rw, .L, 1⟩
def UNIT_RX_CTRL_SYNC_PIN_SERVE (u : Nat) : Fld := ⟨0x200000 + 0x1000 * u, 2, 1, .rw, .S, 0⟩
def UNIT_RX_CTRL_IQC_EN (u : Nat) : Fld := ⟨0x200000 + 0x1000 * u, 3, 1, .rw, .H, 1⟩
def UNIT_RX_CTRL_TRIM_LOCK (u : Nat) : Fld := ⟨0x200000 + 0x1000 * u, 4, 1, .rw, .L, 0⟩
def UNIT_RX_CTRL_COMMIT (u : Nat) : Fld := ⟨0x200000 + 0x1000 * u, 8, 1, .wo, .L, 0⟩

/-! `UNIT_RX_STATUS` (Table 3.8) -/
def UNIT_RX_STATUS_OVLD (u : Nat) : Fld := ⟨0x200004 + 0x1000 * u, 0, 1, .w1c, .L, 0⟩
def UNIT_RX_STATUS_OVLD_NOW (u : Nat) : Fld := ⟨0x200004 + 0x1000 * u, 1, 1, .ro, .L, 0⟩
def UNIT_RX_STATUS_NEIGH (u : Nat) : Fld := ⟨0x200004 + 0x1000 * u, 2, 1, .w1c, .L, 0⟩
def UNIT_RX_STATUS_AGC_FLOOR (u : Nat) : Fld := ⟨0x200004 + 0x1000 * u, 3, 1, .w1c, .L, 0⟩
def UNIT_RX_STATUS_XFADE (u : Nat) : Fld := ⟨0x200004 + 0x1000 * u, 4, 1, .ro, .L, 0⟩
def UNIT_RX_STATUS_BANK_ACT (u : Nat) : Fld := ⟨0x200004 + 0x1000 * u, 5, 1, .ro, .L, 0⟩
def UNIT_RX_STATUS_GATED (u : Nat) : Fld := ⟨0x200004 + 0x1000 * u, 6, 1, .ro, .L, 0⟩
def UNIT_RX_STATUS_STOPPED (u : Nat) : Fld := ⟨0x200004 + 0x1000 * u, 7, 1, .ro, .L, 1⟩
def UNIT_RX_STATUS_GAIN_IDX (u : Nat) : Fld := ⟨0x200004 + 0x1000 * u, 8, 5, .ro, .L, 31⟩
def UNIT_RX_STATUS_SYNC_SEEN (u : Nat) : Fld := ⟨0x200004 + 0x1000 * u, 16, 1, .w1c, .L, 0⟩
def UNIT_RX_STATUS_SYNC_SLIP (u : Nat) : Fld := ⟨0x200004 + 0x1000 * u, 17, 1, .w1c, .L, 0⟩

/-! `UNIT_RX_NCO_OFS` (Table 3.9) -/
def UNIT_RX_NCO_OFS_OFS (u : Nat) : Fld := ⟨0x200008 + 0x1000 * u, 0, 32, .rw, .H, 0⟩

/-! `UNIT_RX_NCO_PHASE` (Table 3.10) -/
def UNIT_RX_NCO_PHASE_PHASE (u : Nat) : Fld := ⟨0x20000C + 0x1000 * u, 0, 16, .rw, .H, 0⟩

/-! `UNIT_RX_DEC` (Table 3.11) -/
def UNIT_RX_DEC_RATIO (u : Nat) : Fld := ⟨0x200010 + 0x1000 * u, 0, 7, .rw, .H, 3⟩
def UNIT_RX_DEC_BANK_SEL (u : Nat) : Fld := ⟨0x200010 + 0x1000 * u, 8, 1, .rw, .H, 0⟩

/-! `UNIT_RX_GAIN` (Table 3.12) -/
def UNIT_RX_GAIN_MAN_IDX (u : Nat) : Fld := ⟨0x200014 + 0x1000 * u, 0, 5, .rw, .H, 31⟩
def UNIT_RX_GAIN_AGC_MODE (u : Nat) : Fld := ⟨0x200014 + 0x1000 * u, 8, 2, .rw, .H, 1⟩
def UNIT_RX_GAIN_OVLD_EN (u : Nat) : Fld := ⟨0x200014 + 0x1000 * u, 12, 1, .rw, .L, 1⟩

/-! `UNIT_RX_AGC` (Table 3.13) -/
def UNIT_RX_AGC_HI_THR (u : Nat) : Fld := ⟨0x200018 + 0x1000 * u, 0, 8, .rw, .H, 12⟩
def UNIT_RX_AGC_LO_THR (u : Nat) : Fld := ⟨0x200018 + 0x1000 * u, 8, 8, .rw, .H, 36⟩
def UNIT_RX_AGC_HOLD_MAX (u : Nat) : Fld := ⟨0x200018 + 0x1000 * u, 16, 4, .rw, .H, 4⟩
def UNIT_RX_AGC_STEP_MAX (u : Nat) : Fld := ⟨0x200018 + 0x1000 * u, 20, 4, .rw, .H, 6⟩
def UNIT_RX_AGC_OVLD_STEP (u : Nat) : Fld := ⟨0x200018 + 0x1000 * u, 24, 4, .rw, .H, 6⟩

/-! `UNIT_RX_FASTPWR` (Table 3.14) -/
def UNIT_RX_FASTPWR_NOW (u : Nat) : Fld := ⟨0x20001C + 0x1000 * u, 0, 8, .ro, .L, 255⟩
def UNIT_RX_FASTPWR_PEAK (u : Nat) : Fld := ⟨0x20001C + 0x1000 * u, 8, 8, .ro, .L, 255⟩
def UNIT_RX_FASTPWR_MEAN (u : Nat) : Fld := ⟨0x20001C + 0x1000 * u, 16, 8, .ro, .L, 255⟩

/-! `UNIT_RX_IRR` (Table 3.15) -/
def UNIT_RX_IRR_AMP (u : Nat) : Fld := ⟨0x200020 + 0x1000 * u, 0, 8, .rw, .H, 0⟩
def UNIT_RX_IRR_PHS (u : Nat) : Fld := ⟨0x200020 + 0x1000 * u, 8, 8, .rw, .H, 0⟩

/-! `UNIT_RX_IQC` (Table 3.16) -/
def UNIT_RX_IQC_RE (u : Nat) (k : Nat) : Fld := ⟨0x200024 + 0x1000 * u + 0x4 * k, 0, 16, .rw, .H, 0⟩
def UNIT_RX_IQC_IM (u : Nat) (k : Nat) : Fld := ⟨0x200024 + 0x1000 * u + 0x4 * k, 16, 16, .rw, .H, 0⟩

/-! `UNIT_RX_COUNT` (Table 3.17) -/
def UNIT_RX_COUNT_OVLD_CNT (u : Nat) : Fld := ⟨0x200030 + 0x1000 * u, 0, 16, .rc, .L, 0⟩
def UNIT_RX_COUNT_NEIGH_CNT (u : Nat) : Fld := ⟨0x200030 + 0x1000 * u, 16, 16, .rc, .L, 0⟩

/-! `UNIT_RX_COEFA` (Table 3.18) -/
def UNIT_RX_COEFA_COEF (u : Nat) (k : Nat) : Fld := ⟨0x200400 + 0x1000 * u + 0x4 * k, 0, 18, .rw, .L, if k = 32 then 0x10000 else 0⟩

/-! `UNIT_RX_COEFB` (Table 3.18) -/
def UNIT_RX_COEFB_COEF (u : Nat) (k : Nat) : Fld := ⟨0x200500 + 0x1000 * u + 0x4 * k, 0, 18, .rw, .L, if k = 32 then 0x10000 else 0⟩

/-! `UNIT_TX_CTRL` (Table 4.10) -/
def UNIT_TX_CTRL_RUN (u : Nat) : Fld := ⟨0x200100 + 0x1000 * u, 0, 1, .rw, .L, 0⟩
def UNIT_TX_CTRL_SYNC_EN (u : Nat) : Fld := ⟨0x200100 + 0x1000 * u, 1, 1, .rw, .L, 1⟩
def UNIT_TX_CTRL_CFR_EN (u : Nat) : Fld := ⟨0x200100 + 0x1000 * u, 2, 1, .rw, .H, 1⟩
def UNIT_TX_CTRL_DPD_EN (u : Nat) : Fld := ⟨0x200100 + 0x1000 * u, 3, 1, .rw, .H, 1⟩
def UNIT_TX_CTRL_MUTE (u : Nat) : Fld := ⟨0x200100 + 0x1000 * u, 4, 1, .rw, .L, 0⟩
def UNIT_TX_CTRL_NOTBL_MODE (u : Nat) : Fld := ⟨0x200100 + 0x1000 * u, 5, 1, .rw, .S, 0⟩
def UNIT_TX_CTRL_COMMIT (u : Nat) : Fld := ⟨0x200100 + 0x1000 * u, 8, 1, .wo, .L, 0⟩
def UNIT_TX_CTRL_NOTBL_BACKOFF (u : Nat) : Fld := ⟨0x200100 + 0x1000 * u, 16, 7, .rw, .S, 12⟩

/-! `UNIT_TX_STATUS` (Table 4.11) -/
def UNIT_TX_STATUS_MUTED (u : Nat) : Fld := ⟨0x200104 + 0x1000 * u, 0, 1, .ro, .L, 1⟩
def UNIT_TX_STATUS_GATED (u : Nat) : Fld := ⟨0x200104 + 0x1000 * u, 1, 1, .ro, .L, 0⟩
def UNIT_TX_STATUS_STOPPED (u : Nat) : Fld := ⟨0x200104 + 0x1000 * u, 2, 1, .ro, .L, 1⟩
def UNIT_TX_STATUS_TBL_NOT_READY (u : Nat) : Fld := ⟨0x200104 + 0x1000 * u, 3, 1, .w1c, .L, 0⟩
def UNIT_TX_STATUS_DAC_CLIP (u : Nat) : Fld := ⟨0x200104 + 0x1000 * u, 4, 1, .w1c, .L, 0⟩
def UNIT_TX_STATUS_TX_SYNC_SLIP (u : Nat) : Fld := ⟨0x200104 + 0x1000 * u, 5, 1, .w1c, .L, 0⟩
def UNIT_TX_STATUS_NB_MISMATCH (u : Nat) : Fld := ⟨0x200104 + 0x1000 * u, 6, 1, .ro, .L, 0⟩
def UNIT_TX_STATUS_MUTE_CAUSE (u : Nat) : Fld := ⟨0x200104 + 0x1000 * u, 8, 12, .ro, .L, 513⟩
def UNIT_TX_STATUS_ENF_BACKOFF (u : Nat) : Fld := ⟨0x200104 + 0x1000 * u, 20, 7, .ro, .L, 0⟩

/-! `UNIT_TX_NCO_OFS` (Table 4.12) -/
def UNIT_TX_NCO_OFS_OFS (u : Nat) : Fld := ⟨0x200108 + 0x1000 * u, 0, 32, .rw, .H, 0⟩

/-! `UNIT_TX_NCO_PHASE` (Table 4.13) -/
def UNIT_TX_NCO_PHASE_PHASE (u : Nat) : Fld := ⟨0x20010C + 0x1000 * u, 0, 16, .rw, .H, 0⟩

/-! `UNIT_TX_INTERP` (Table 4.14) -/
def UNIT_TX_INTERP_RATIO (u : Nat) : Fld := ⟨0x200110 + 0x1000 * u, 0, 7, .rw, .H, 6⟩
def UNIT_TX_INTERP_PRE (u : Nat) : Fld := ⟨0x200110 + 0x1000 * u, 8, 2, .rw, .H, 3⟩

/-! `UNIT_TX_LEVEL` (Table 4.15) -/
def UNIT_TX_LEVEL_BACKOFF (u : Nat) : Fld := ⟨0x200114 + 0x1000 * u, 0, 7, .rw, .H, 0⟩
def UNIT_TX_LEVEL_ATT (u : Nat) : Fld := ⟨0x200114 + 0x1000 * u, 8, 6, .rw, .H, 0⟩

/-! `UNIT_TX_LAT` (Table 4.16) -/
def UNIT_TX_LAT_LAT (u : Nat) : Fld := ⟨0x200118 + 0x1000 * u, 0, 16, .ro, .L, 666⟩

/-! `UNIT_TX_COUNT` (Table 4.17) -/
def UNIT_TX_COUNT_CLIP_CNT (u : Nat) : Fld := ⟨0x20011C + 0x1000 * u, 0, 16, .rc, .L, 0⟩
def UNIT_TX_COUNT_NOTBL_CNT (u : Nat) : Fld := ⟨0x20011C + 0x1000 * u, 16, 16, .rc, .L, 0⟩

/-! `UNIT_CFR_CTRL` (Table 4.18) -/
def UNIT_CFR_CTRL_THR (u : Nat) : Fld := ⟨0x200140 + 0x1000 * u, 0, 8, .rw, .H, 60⟩
def UNIT_CFR_CTRL_ITER (u : Nat) : Fld := ⟨0x200140 + 0x1000 * u, 8, 2, .rw, .H, 2⟩
def UNIT_CFR_CTRL_PEAKS_MAX (u : Nat) : Fld := ⟨0x200140 + 0x1000 * u, 12, 4, .rw, .H, 4⟩
def UNIT_CFR_CTRL_HARD_EN (u : Nat) : Fld := ⟨0x200140 + 0x1000 * u, 16, 1, .rw, .H, 1⟩
def UNIT_CFR_CTRL_HARD_MARGIN (u : Nat) : Fld := ⟨0x200140 + 0x1000 * u, 20, 4, .rw, .H, 4⟩

/-! `UNIT_CFR_WEIGHT` (Table 4.19) -/
def UNIT_CFR_WEIGHT_W0 (u : Nat) : Fld := ⟨0x200144 + 0x1000 * u, 0, 8, .rw, .H, 128⟩
def UNIT_CFR_WEIGHT_W1 (u : Nat) : Fld := ⟨0x200144 + 0x1000 * u, 8, 8, .rw, .H, 128⟩
def UNIT_CFR_WEIGHT_W2 (u : Nat) : Fld := ⟨0x200144 + 0x1000 * u, 16, 8, .rw, .H, 128⟩
def UNIT_CFR_WEIGHT_W3 (u : Nat) : Fld := ⟨0x200144 + 0x1000 * u, 24, 8, .rw, .H, 128⟩

/-! `UNIT_CFR_COUNT` (Table 4.20) -/
def UNIT_CFR_COUNT_PEAK_SKIP (u : Nat) : Fld := ⟨0x200148 + 0x1000 * u, 0, 16, .rc, .L, 0⟩
def UNIT_CFR_COUNT_HARD_CNT (u : Nat) : Fld := ⟨0x200148 + 0x1000 * u, 16, 16, .rc, .L, 0⟩

/-! `UNIT_DPD_CTRL` (Table 4.21) -/
def UNIT_DPD_CTRL_ADAPT_EN (u : Nat) : Fld := ⟨0x200200 + 0x1000 * u, 0, 1, .rw, .L, 1⟩
def UNIT_DPD_CTRL_MOULT_HOLD (u : Nat) : Fld := ⟨0x200200 + 0x1000 * u, 1, 1, .rw, .L, 0⟩
def UNIT_DPD_CTRL_SHADOW_READY (u : Nat) : Fld := ⟨0x200200 + 0x1000 * u, 2, 1, .w1s, .L, 0⟩

/-! `UNIT_DPD_STATUS` (Table 4.22) -/
def UNIT_DPD_STATUS_ACT_VALID (u : Nat) : Fld := ⟨0x200204 + 0x1000 * u, 0, 1, .ro, .L, 0⟩
def UNIT_DPD_STATUS_SHD_PEND (u : Nat) : Fld := ⟨0x200204 + 0x1000 * u, 1, 1, .ro, .L, 0⟩
def UNIT_DPD_STATUS_MOULT_FAIL (u : Nat) : Fld := ⟨0x200204 + 0x1000 * u, 2, 1, .w1c, .L, 0⟩
def UNIT_DPD_STATUS_TRAIN_FAIL (u : Nat) : Fld := ⟨0x200204 + 0x1000 * u, 3, 1, .ro, .L, 0⟩
def UNIT_DPD_STATUS_FAIL_CODE (u : Nat) : Fld := ⟨0x200204 + 0x1000 * u, 4, 4, .ro, .L, 0⟩
def UNIT_DPD_STATUS_NB_LIVE (u : Nat) : Fld := ⟨0x200204 + 0x1000 * u, 8, 4, .ro, .L, 0⟩
def UNIT_DPD_STATUS_ORDER_ACT (u : Nat) : Fld := ⟨0x200204 + 0x1000 * u, 12, 3, .ro, .L, 0⟩
def UNIT_DPD_STATUS_TRAIN_BACKOFF (u : Nat) : Fld := ⟨0x200204 + 0x1000 * u, 16, 8, .ro, .L, 0⟩
def UNIT_DPD_STATUS_MOULT_CNT (u : Nat) : Fld := ⟨0x200204 + 0x1000 * u, 24, 8, .rc, .L, 0⟩

/-! `UNIT_DPD_CFG` (Table 4.23) -/
def UNIT_DPD_CFG_SELF_CNT (u : Nat) : Fld := ⟨0x200208 + 0x1000 * u, 0, 4, .rw, .H, 1⟩
def UNIT_DPD_CFG_XT_CNT (u : Nat) : Fld := ⟨0x200208 + 0x1000 * u, 4, 4, .rw, .H, 0⟩

/-! `UNIT_DPD_NB` (Table 4.24) -/
def UNIT_DPD_NB_UNIT_0 (u : Nat) : Fld := ⟨0x20020C + 0x1000 * u, 0, 7, .rw, .H, 0⟩
def UNIT_DPD_NB_UNIT_1 (u : Nat) : Fld := ⟨0x20020C + 0x1000 * u, 8, 7, .rw, .H, 0⟩
def UNIT_DPD_NB_UNIT_2 (u : Nat) : Fld := ⟨0x20020C + 0x1000 * u, 16, 7, .rw, .H, 0⟩
def UNIT_DPD_NB_UNIT_3 (u : Nat) : Fld := ⟨0x20020C + 0x1000 * u, 24, 7, .rw, .H, 0⟩
def UNIT_DPD_NB_VALID_0 (u : Nat) : Fld := ⟨0x20020C + 0x1000 * u, 7, 1, .rw, .H, 0⟩
def UNIT_DPD_NB_VALID_1 (u : Nat) : Fld := ⟨0x20020C + 0x1000 * u, 15, 1, .rw, .H, 0⟩
def UNIT_DPD_NB_VALID_2 (u : Nat) : Fld := ⟨0x20020C + 0x1000 * u, 23, 1, .rw, .H, 0⟩
def UNIT_DPD_NB_VALID_3 (u : Nat) : Fld := ⟨0x20020C + 0x1000 * u, 31, 1, .rw, .H, 0⟩

/-! `UNIT_DPD_TBL_ADDR` (Table 4.25) -/
def UNIT_DPD_TBL_ADDR_WORD (u : Nat) : Fld := ⟨0x200210 + 0x1000 * u, 0, 10, .rw, .L, 0⟩
def UNIT_DPD_TBL_ADDR_SET (u : Nat) : Fld := ⟨0x200210 + 0x1000 * u, 15, 1, .rw, .L, 0⟩
def UNIT_DPD_TBL_ADDR_AUTO_INC (u : Nat) : Fld := ⟨0x200210 + 0x1000 * u, 16, 1, .rw, .L, 1⟩

/-! `UNIT_DPD_TBL_DATA` (Table 4.26) -/
def UNIT_DPD_TBL_DATA_DATA (u : Nat) : Fld := ⟨0x200214 + 0x1000 * u, 0, 32, .rw, .L, 0⟩

/-! `UNIT_DPD_FIT` (Table 4.27) -/
def UNIT_DPD_FIT_NMSE (u : Nat) : Fld := ⟨0x200218 + 0x1000 * u, 0, 16, .ro, .L, 0⟩
def UNIT_DPD_FIT_TEMP (u : Nat) : Fld := ⟨0x200218 + 0x1000 * u, 16, 16, .ro, .L, 0⟩

/-! `UNIT_DPD_SEQ` (Table 4.27) -/
def UNIT_DPD_SEQ_SEQ (u : Nat) : Fld := ⟨0x20021C + 0x1000 * u, 0, 32, .ro, .L, 0⟩

/-! ### Block REGION (Tables 4.28 to 4.31) -/

/-! `REGION_ADAPT` (Table 4.28) -/
def REGION_ADAPT_ORDER_CAP (g : Nat) : Fld := ⟨0x300000 + 0x10000 * g, 0, 3, .rw, .L, 7⟩
def REGION_ADAPT_NMSE_TARGET (g : Nat) : Fld := ⟨0x300000 + 0x10000 * g, 8, 8, .rw, .L, 76⟩
def REGION_ADAPT_PERIOD (g : Nat) : Fld := ⟨0x300000 + 0x10000 * g, 16, 8, .rw, .L, 10⟩
def REGION_ADAPT_CAPS (g : Nat) : Fld := ⟨0x300000 + 0x10000 * g, 24, 4, .rw, .L, 4⟩

/-! `REGION_ADAPT_STATUS` (Table 4.29) -/
def REGION_ADAPT_STATUS_FROZEN_S2 (g : Nat) : Fld := ⟨0x300004 + 0x10000 * g, 0, 1, .ro, .L, 0⟩
def REGION_ADAPT_STATUS_FROZEN_THERM (g : Nat) : Fld := ⟨0x300004 + 0x10000 * g, 1, 1, .ro, .L, 0⟩
def REGION_ADAPT_STATUS_ORDER_REDUCED (g : Nat) : Fld := ⟨0x300004 + 0x10000 * g, 2, 1, .ro, .L, 0⟩
def REGION_ADAPT_STATUS_FROZEN_RESET (g : Nat) : Fld := ⟨0x300004 + 0x10000 * g, 3, 1, .ro, .L, 0⟩
def REGION_ADAPT_STATUS_FIT_CNT (g : Nat) : Fld := ⟨0x300004 + 0x10000 * g, 16, 16, .rc, .L, 0⟩

/-! `REGION_ORX_CTRL` (Table 4.30) -/
def REGION_ORX_CTRL_MODE_A (g : Nat) : Fld := ⟨0x300010 + 0x10000 * g, 0, 2, .rw, .H, 0⟩
def REGION_ORX_CTRL_MODE_B (g : Nat) : Fld := ⟨0x300010 + 0x10000 * g, 8, 2, .rw, .H, 0⟩
def REGION_ORX_CTRL_FIX_POS_A (g : Nat) : Fld := ⟨0x300010 + 0x10000 * g, 2, 3, .rw, .H, 0⟩
def REGION_ORX_CTRL_FIX_POS_B (g : Nat) : Fld := ⟨0x300010 + 0x10000 * g, 10, 3, .rw, .H, 0⟩

/-! `REGION_ORX_STATUS` (Table 4.31) -/
def REGION_ORX_STATUS_POS_A (g : Nat) : Fld := ⟨0x300014 + 0x10000 * g, 0, 3, .ro, .L, 0⟩
def REGION_ORX_STATUS_POS_B (g : Nat) : Fld := ⟨0x300014 + 0x10000 * g, 8, 3, .ro, .L, 0⟩
def REGION_ORX_STATUS_OVLD_A (g : Nat) : Fld := ⟨0x300014 + 0x10000 * g, 16, 8, .rc, .L, 0⟩
def REGION_ORX_STATUS_OVLD_B (g : Nat) : Fld := ⟨0x300014 + 0x10000 * g, 24, 8, .rc, .L, 0⟩

/-! ### Block ESC (Tables 5.10 to 5.15) -/

/-! `ESC_CTRL` (Table 5.10) -/
def ESC_CTRL_MU : Fld := ⟨0x50000, 0, 2, .rw, .S, 1⟩

/-! `ESC_OFFSET` (Table 5.11) -/
def ESC_OFFSET_OFFSET : Fld := ⟨0x50004, 0, 24, .rw, .S, 0⟩

/-! `ESC_RX_ADV` (Table 5.12) -/
def ESC_RX_ADV_RX_ADV : Fld := ⟨0x50008, 0, 13, .rw, .H, 3200⟩

/-! `ESC_TAG` (Table 5.13) -/
def ESC_TAG_TAG : Fld := ⟨0x5000C, 0, 32, .ro, .L, 0⟩

/-! `ESC_STATUS` (Table 5.14) -/
def ESC_STATUS_QUEUE_USED : Fld := ⟨0x50010, 0, 15, .ro, .L, 0⟩
def ESC_STATUS_RUNNING : Fld := ⟨0x50010, 15, 1, .ro, .L, 0⟩
def ESC_STATUS_REJ : Fld := ⟨0x50010, 16, 1, .w1c, .L, 0⟩
def ESC_STATUS_REJ_CAUSE : Fld := ⟨0x50010, 17, 3, .ro, .L, 0⟩

/-! `ESC_COUNT` (Table 5.15) -/
def ESC_COUNT_SCHED_REJ : Fld := ⟨0x50014, 0, 16, .rc, .L, 0⟩
def ESC_COUNT_SCHED_TURN : Fld := ⟨0x50014, 16, 16, .rc, .L, 0⟩

/-! ### Block CLUSTER (Tables 5.16 to 5.24 and 8.7 to 8.14) -/

/-! `CLUSTER_LO_CTRL` (Table 5.16) -/
def CLUSTER_LO_CTRL_LO_EN (c : Nat) : Fld := ⟨0x100000 + 0x10000 * c, 0, 1, .rw, .L, 1⟩
def CLUSTER_LO_CTRL_IF_K (c : Nat) : Fld := ⟨0x100000 + 0x10000 * c, 1, 7, .rw, .H, 32⟩
def CLUSTER_LO_CTRL_COMMIT (c : Nat) : Fld := ⟨0x100000 + 0x10000 * c, 8, 1, .wo, .L, 0⟩

/-! `CLUSTER_LO_FREQ` (Table 5.17) -/
def CLUSTER_LO_FREQ_FREQ (c : Nat) : Fld := ⟨0x100004 + 0x10000 * c, 0, 32, .rw, .H, 0⟩

/-! `CLUSTER_LO_STATUS` (Table 5.18) -/
def CLUSTER_LO_STATUS_STATE (c : Nat) : Fld := ⟨0x100008 + 0x10000 * c, 0, 3, .ro, .L, 0⟩
def CLUSTER_LO_STATUS_LOCK (c : Nat) : Fld := ⟨0x100008 + 0x10000 * c, 3, 1, .ro, .L, 0⟩
def CLUSTER_LO_STATUS_STORED_HIT (c : Nat) : Fld := ⟨0x100008 + 0x10000 * c, 4, 1, .ro, .L, 0⟩
def CLUSTER_LO_STATUS_UNLOCK (c : Nat) : Fld := ⟨0x100008 + 0x10000 * c, 5, 1, .w1c, .L, 0⟩
def CLUSTER_LO_STATUS_STORE_FULL (c : Nat) : Fld := ⟨0x100008 + 0x10000 * c, 6, 1, .w1c, .L, 0⟩
def CLUSTER_LO_STATUS_LAST_ENTRY (c : Nat) : Fld := ⟨0x100008 + 0x10000 * c, 8, 6, .ro, .L, 0⟩
def CLUSTER_LO_STATUS_HOP_TIME (c : Nat) : Fld := ⟨0x100008 + 0x10000 * c, 19, 13, .ro, .L, 0⟩

/-! `CLUSTER_LO_PRECAL` (Table 5.19) -/
def CLUSTER_LO_PRECAL_FREQ (c : Nat) : Fld := ⟨0x10000C + 0x10000 * c, 0, 32, .wo, .L, 0⟩

/-! `CLUSTER_STROBE` (Table 5.20) -/
def CLUSTER_STROBE_TXON_POL (c : Nat) : Fld := ⟨0x100010 + 0x10000 * c, 0, 1, .rw, .S, 0⟩
def CLUSTER_STROBE_RXON_POL (c : Nat) : Fld := ⟨0x100010 + 0x10000 * c, 1, 1, .rw, .S, 0⟩
def CLUSTER_STROBE_TXON_NOW (c : Nat) : Fld := ⟨0x100010 + 0x10000 * c, 4, 1, .ro, .L, 0⟩
def CLUSTER_STROBE_RXON_NOW (c : Nat) : Fld := ⟨0x100010 + 0x10000 * c, 5, 1, .ro, .L, 0⟩

/-! `CLUSTER_RFFE_CTRL` (Table 5.21) -/
def CLUSTER_RFFE_CTRL_SPEED (c : Nat) : Fld := ⟨0x100014 + 0x10000 * c, 0, 1, .rw, .S, 0⟩
def CLUSTER_RFFE_CTRL_BUSY (c : Nat) : Fld := ⟨0x100014 + 0x10000 * c, 8, 1, .ro, .L, 0⟩
def CLUSTER_RFFE_CTRL_SLIP (c : Nat) : Fld := ⟨0x100014 + 0x10000 * c, 9, 1, .w1c, .L, 0⟩
def CLUSTER_RFFE_CTRL_REFUSED (c : Nat) : Fld := ⟨0x100014 + 0x10000 * c, 10, 1, .w1c, .L, 0⟩

/-! `CLUSTER_RFFE_CMD` (Table 5.22) -/
def CLUSTER_RFFE_CMD_DATA (c : Nat) : Fld := ⟨0x100018 + 0x10000 * c, 0, 8, .rw, .L, 0⟩
def CLUSTER_RFFE_CMD_ADDR (c : Nat) : Fld := ⟨0x100018 + 0x10000 * c, 8, 16, .rw, .L, 0⟩
def CLUSTER_RFFE_CMD_READ (c : Nat) : Fld := ⟨0x100018 + 0x10000 * c, 25, 1, .rw, .L, 0⟩
def CLUSTER_RFFE_CMD_TYPE (c : Nat) : Fld := ⟨0x100018 + 0x10000 * c, 26, 2, .rw, .L, 0⟩
def CLUSTER_RFFE_CMD_SID (c : Nat) : Fld := ⟨0x100018 + 0x10000 * c, 28, 4, .rw, .L, 0⟩

/-! `CLUSTER_RFFE_LIST` (Table 5.22) -/
def CLUSTER_RFFE_LIST_DATA (c : Nat) (i : Nat) : Fld := ⟨0x100100 + 0x10000 * c + 0x4 * i, 0, 8, .rw, .L, 0⟩
def CLUSTER_RFFE_LIST_ADDR (c : Nat) (i : Nat) : Fld := ⟨0x100100 + 0x10000 * c + 0x4 * i, 8, 16, .rw, .L, 0⟩
def CLUSTER_RFFE_LIST_READ (c : Nat) (i : Nat) : Fld := ⟨0x100100 + 0x10000 * c + 0x4 * i, 25, 1, .ro, .L, 0⟩
def CLUSTER_RFFE_LIST_TYPE (c : Nat) (i : Nat) : Fld := ⟨0x100100 + 0x10000 * c + 0x4 * i, 26, 2, .rw, .L, 0⟩
def CLUSTER_RFFE_LIST_SID (c : Nat) (i : Nat) : Fld := ⟨0x100100 + 0x10000 * c + 0x4 * i, 28, 4, .rw, .L, 0⟩

/-! `CLUSTER_COUNT` (Table 5.23) -/
def CLUSTER_COUNT_TX_DROP_UNLOCK (c : Nat) : Fld := ⟨0x10001C + 0x10000 * c, 0, 16, .rc, .L, 0⟩
def CLUSTER_COUNT_CROAK_DEFER (c : Nat) : Fld := ⟨0x10001C + 0x10000 * c, 16, 8, .rc, .L, 0⟩
def CLUSTER_COUNT_RFFE_SLIP (c : Nat) : Fld := ⟨0x10001C + 0x10000 * c, 24, 8, .rc, .L, 0⟩

/-! `CLUSTER_LO_CAL0` (Table 5.24) -/
def CLUSTER_LO_CAL0_FREQ (c : Nat) (e : Nat) : Fld := ⟨0x100200 + 0x10000 * c + 0x8 * e, 0, 32, .rw, .S, 0⟩

/-! `CLUSTER_LO_CAL1` (Table 5.24) -/
def CLUSTER_LO_CAL1_VALID (c : Nat) (e : Nat) : Fld := ⟨0x100204 + 0x10000 * c + 0x8 * e, 0, 1, .rw, .S, 0⟩
def CLUSTER_LO_CAL1_PIN (c : Nat) (e : Nat) : Fld := ⟨0x100204 + 0x10000 * c + 0x8 * e, 1, 1, .rw, .L, 0⟩
def CLUSTER_LO_CAL1_BAND (c : Nat) (e : Nat) : Fld := ⟨0x100204 + 0x10000 * c + 0x8 * e, 4, 6, .rw, .S, 0⟩
def CLUSTER_LO_CAL1_CAP (c : Nat) (e : Nat) : Fld := ⟨0x100204 + 0x10000 * c + 0x8 * e, 10, 8, .rw, .S, 0⟩
def CLUSTER_LO_CAL1_CP (c : Nat) (e : Nat) : Fld := ⟨0x100204 + 0x10000 * c + 0x8 * e, 18, 4, .rw, .S, 0⟩
def CLUSTER_LO_CAL1_TEMP (c : Nat) (e : Nat) : Fld := ⟨0x100204 + 0x10000 * c + 0x8 * e, 24, 8, .rw, .S, 0⟩

/-! `CLUSTER_CAL_CTRL` (Table 8.7) -/
def CLUSTER_CAL_CTRL_DT (c : Nat) : Fld := ⟨0x100040 + 0x10000 * c, 0, 4, .rw, .L, 4⟩
def CLUSTER_CAL_CTRL_TOUR_EN (c : Nat) : Fld := ⟨0x100040 + 0x10000 * c, 4, 1, .rw, .L, 1⟩
def CLUSTER_CAL_CTRL_SAVE (c : Nat) : Fld := ⟨0x100040 + 0x10000 * c, 5, 1, .wo, .L, 0⟩

/-! `CLUSTER_CAL_REQ` (Table 8.8) -/
def CLUSTER_CAL_REQ_CALS (c : Nat) : Fld := ⟨0x100044 + 0x10000 * c, 0, 8, .rw, .L, 0⟩
def CLUSTER_CAL_REQ_DPD_REL (c : Nat) : Fld := ⟨0x100044 + 0x10000 * c, 11, 1, .rw, .L, 0⟩
def CLUSTER_CAL_REQ_UNITS (c : Nat) : Fld := ⟨0x100044 + 0x10000 * c, 16, 8, .rw, .L, 0⟩
def CLUSTER_CAL_REQ_CLR_DEG (c : Nat) : Fld := ⟨0x100044 + 0x10000 * c, 24, 1, .rw, .L, 0⟩
def CLUSTER_CAL_REQ_GO (c : Nat) : Fld := ⟨0x100044 + 0x10000 * c, 31, 1, .wo, .L, 0⟩

/-! `CLUSTER_CAL_STATUS` (Table 8.9) -/
def CLUSTER_CAL_STATUS_DEG_RX (c : Nat) : Fld := ⟨0x100048 + 0x10000 * c, 0, 8, .ro, .L, 0⟩
def CLUSTER_CAL_STATUS_DEG_TX (c : Nat) : Fld := ⟨0x100048 + 0x10000 * c, 8, 8, .ro, .L, 0⟩
def CLUSTER_CAL_STATUS_BUSY (c : Nat) : Fld := ⟨0x100048 + 0x10000 * c, 16, 1, .ro, .L, 0⟩
def CLUSTER_CAL_STATUS_REFUSED (c : Nat) : Fld := ⟨0x100048 + 0x10000 * c, 17, 1, .w1c, .L, 0⟩
def CLUSTER_CAL_STATUS_FAIL (c : Nat) : Fld := ⟨0x100048 + 0x10000 * c, 18, 1, .w1c, .L, 0⟩
def CLUSTER_CAL_STATUS_ORX_FAIL (c : Nat) : Fld := ⟨0x100048 + 0x10000 * c, 19, 1, .ro, .L, 0⟩
def CLUSTER_CAL_STATUS_STORE_BUSY (c : Nat) : Fld := ⟨0x100048 + 0x10000 * c, 20, 1, .ro, .L, 0⟩
def CLUSTER_CAL_STATUS_DUE (c : Nat) : Fld := ⟨0x100048 + 0x10000 * c, 24, 8, .ro, .L, 0⟩

/-! `CLUSTER_CAL_LAST` (Table 8.10) -/
def CLUSTER_CAL_LAST_POS (c : Nat) : Fld := ⟨0x10004C + 0x10000 * c, 0, 3, .ro, .L, 0⟩
def CLUSTER_CAL_LAST_CAL (c : Nat) : Fld := ⟨0x10004C + 0x10000 * c, 4, 4, .ro, .L, 0⟩
def CLUSTER_CAL_LAST_REASON (c : Nat) : Fld := ⟨0x10004C + 0x10000 * c, 8, 4, .ro, .L, 0⟩
def CLUSTER_CAL_LAST_STRIKES (c : Nat) : Fld := ⟨0x10004C + 0x10000 * c, 12, 2, .ro, .L, 0⟩
def CLUSTER_CAL_LAST_TEMP (c : Nat) : Fld := ⟨0x10004C + 0x10000 * c, 16, 16, .ro, .L, 0⟩

/-! `CLUSTER_CAL_COUNT` (Table 8.11) -/
def CLUSTER_CAL_COUNT_PASS_CNT (c : Nat) : Fld := ⟨0x100050 + 0x10000 * c, 0, 16, .rc, .L, 0⟩
def CLUSTER_CAL_COUNT_FAIL_CNT (c : Nat) : Fld := ⟨0x100050 + 0x10000 * c, 16, 16, .rc, .L, 0⟩

/-! `CLUSTER_CAL_STRIKE` (Table 8.12) -/
def CLUSTER_CAL_STRIKE_STRIKES (c : Nat) (i : Nat) : Fld := ⟨0x100060 + 0x10000 * c + 0x4 * i, 0, 22, .ro, .L, 0⟩

/-! `CLUSTER_TRIM_SEL` (Table 8.13) -/
def CLUSTER_TRIM_SEL_POS (c : Nat) : Fld := ⟨0x100080 + 0x10000 * c, 0, 3, .rw, .L, 0⟩
def CLUSTER_TRIM_SEL_INDEX (c : Nat) : Fld := ⟨0x100080 + 0x10000 * c, 8, 8, .rw, .L, 0⟩

/-! `CLUSTER_TRIM_DATA` (Table 8.14) -/
def CLUSTER_TRIM_DATA_VALUE (c : Nat) : Fld := ⟨0x100084 + 0x10000 * c, 0, 16, .rw, .L, 0⟩

/-! ### Block TILES (Tables 6.8 to 6.18) -/

/-! `BF_CTRL` (Table 6.8) -/
def BF_CTRL_EXCL_INVALID : Fld := ⟨0x400000, 0, 1, .rw, .H, 1⟩
def BF_CTRL_CORR_LOCK : Fld := ⟨0x400000, 1, 1, .rw, .L, 0⟩
def BF_CTRL_REF_IDX : Fld := ⟨0x400000, 8, 5, .rw, .H, 0⟩
def BF_CTRL_COMMIT : Fld := ⟨0x400000, 16, 1, .wo, .L, 0⟩

/-! `BF_ROWMAX` (Table 6.10) -/
def BF_ROWMAX_ROW_MAX : Fld := ⟨0x400004, 0, 16, .rw, .H, 16384⟩

/-! `CARRIER_CFG0` (Table 6.11) -/
def CARRIER_CFG0_EN (c : Nat) : Fld := ⟨0x400010 + 0x10 * c, 0, 1, .rw, .H, 0⟩
def CARRIER_CFG0_SCS (c : Nat) : Fld := ⟨0x400010 + 0x10 * c, 1, 2, .rw, .H, 1⟩
def CARRIER_CFG0_NFFT (c : Nat) : Fld := ⟨0x400010 + 0x10 * c, 4, 2, .rw, .H, 3⟩
def CARRIER_CFG0_LMAX_DL (c : Nat) : Fld := ⟨0x400010 + 0x10 * c, 8, 7, .rw, .H, 32⟩
def CARRIER_CFG0_LMAX_UL (c : Nat) : Fld := ⟨0x400010 + 0x10 * c, 16, 7, .rw, .H, 32⟩
def CARRIER_CFG0_BFP_DL (c : Nat) : Fld := ⟨0x400010 + 0x10 * c, 24, 4, .rw, .H, 1⟩
def CARRIER_CFG0_BFP_UL (c : Nat) : Fld := ⟨0x400010 + 0x10 * c, 28, 4, .rw, .H, 1⟩

/-! `CARRIER_CFG1` (Table 6.11) -/
def CARRIER_CFG1_N_PRB (c : Nat) : Fld := ⟨0x400014 + 0x10 * c, 0, 9, .rw, .H, 273⟩
def CARRIER_CFG1_CF_OFS (c : Nat) : Fld := ⟨0x400014 + 0x10 * c, 16, 16, .rw, .H, 0⟩

/-! `CARRIER_CFG2` (Table 6.11) -/
def CARRIER_CFG2_WIN_ADV (c : Nat) : Fld := ⟨0x400018 + 0x10 * c, 0, 12, .rw, .H, 144⟩
def CARRIER_CFG2_TX_SHIFT (c : Nat) : Fld := ⟨0x400018 + 0x10 * c, 16, 3, .rw, .H, 0⟩
def CARRIER_CFG2_RX_SHIFT (c : Nat) : Fld := ⟨0x400018 + 0x10 * c, 24, 5, .rw, .H, 8⟩

/-! `CARRIER_CFG3` (Table 6.11) -/
def CARRIER_CFG3_CL_MASK (c : Nat) : Fld := ⟨0x40001C + 0x10 * c, 0, 16, .rw, .H, 65535⟩

/-! `WSET_DESC` (Table 6.12) -/
def WSET_DESC_EN (s : Nat) : Fld := ⟨0x400100 + 0x4 * s, 0, 1, .rw, .H, 0⟩
def WSET_DESC_DIR (s : Nat) : Fld := ⟨0x400100 + 0x4 * s, 1, 1, .rw, .H, 0⟩
def WSET_DESC_OWNER (s : Nat) : Fld := ⟨0x400100 + 0x4 * s, 2, 1, .rw, .H, 0⟩
def WSET_DESC_PER_SLOT (s : Nat) : Fld := ⟨0x400100 + 0x4 * s, 3, 1, .rw, .H, 1⟩
def WSET_DESC_CARR (s : Nat) : Fld := ⟨0x400100 + 0x4 * s, 4, 4, .rw, .H, 0⟩
def WSET_DESC_GRAN (s : Nat) : Fld := ⟨0x400100 + 0x4 * s, 8, 3, .rw, .H, 0⟩
def WSET_DESC_LCNT (s : Nat) : Fld := ⟨0x400100 + 0x4 * s, 11, 7, .rw, .H, 0⟩
def WSET_DESC_WSTALE_MAX (s : Nat) : Fld := ⟨0x400100 + 0x4 * s, 18, 4, .rw, .H, 4⟩

/-! `PRACH_CFG0` (Table 6.14) -/
def PRACH_CFG0_EN (p : Nat) : Fld := ⟨0x400180 + 0x8 * p, 0, 1, .rw, .H, 0⟩
def PRACH_CFG0_CARRIER (p : Nat) : Fld := ⟨0x400180 + 0x8 * p, 1, 2, .rw, .H, 0⟩
def PRACH_CFG0_SCS_RA (p : Nat) : Fld := ⟨0x400180 + 0x8 * p, 3, 3, .rw, .H, 0⟩
def PRACH_CFG0_N_REP (p : Nat) : Fld := ⟨0x400180 + 0x8 * p, 8, 4, .rw, .H, 1⟩
def PRACH_CFG0_K_OFS (p : Nat) : Fld := ⟨0x400180 + 0x8 * p, 16, 16, .rw, .H, 0⟩

/-! `PRACH_CFG1` (Table 6.14) -/
def PRACH_CFG1_CP_LEN (p : Nat) : Fld := ⟨0x400184 + 0x8 * p, 0, 16, .rw, .H, 0⟩
def PRACH_CFG1_START_OFS (p : Nat) : Fld := ⟨0x400184 + 0x8 * p, 16, 16, .rw, .H, 0⟩

/-! `SOLVER_CTRL` (Table 6.15) -/
def SOLVER_CTRL_EN : Fld := ⟨0x400200, 0, 1, .rw, .H, 0⟩
def SOLVER_CTRL_ALPHA : Fld := ⟨0x400200, 4, 8, .rw, .H, 0⟩
def SOLVER_CTRL_SOLVE_SLOTS : Fld := ⟨0x400200, 12, 4, .rw, .H, 2⟩
def SOLVER_CTRL_RECIP_AGE_MAX : Fld := ⟨0x400200, 16, 8, .rw, .H, 30⟩

/-! `SOLVE_PORT0` (Table 6.18) -/
def SOLVE_PORT0_LAYER (j : Nat) (p : Nat) : Fld := ⟨0x400800 + 0x200 * j + 0x8 * p, 0, 6, .rw, .H, 0⟩
def SOLVE_PORT0_CARRIER (j : Nat) (p : Nat) : Fld := ⟨0x400800 + 0x200 * j + 0x8 * p, 6, 2, .rw, .H, 0⟩
def SOLVE_PORT0_SYM (j : Nat) (p : Nat) : Fld := ⟨0x400800 + 0x200 * j + 0x8 * p, 8, 4, .rw, .H, 0⟩
def SOLVE_PORT0_COMB (j : Nat) (p : Nat) : Fld := ⟨0x400800 + 0x200 * j + 0x8 * p, 12, 2, .rw, .H, 0⟩
def SOLVE_PORT0_COMB_OFS (j : Nat) (p : Nat) : Fld := ⟨0x400800 + 0x200 * j + 0x8 * p, 14, 3, .rw, .H, 0⟩
def SOLVE_PORT0_CS (j : Nat) (p : Nat) : Fld := ⟨0x400800 + 0x200 * j + 0x8 * p, 17, 4, .rw, .H, 0⟩
def SOLVE_PORT0_VALID (j : Nat) (p : Nat) : Fld := ⟨0x400800 + 0x200 * j + 0x8 * p, 31, 1, .rw, .H, 0⟩

/-! `SOLVE_PORT1` (Table 6.18) -/
def SOLVE_PORT1_PRB_START (j : Nat) (p : Nat) : Fld := ⟨0x400804 + 0x200 * j + 0x8 * p, 0, 9, .rw, .H, 0⟩
def SOLVE_PORT1_PRB_CNT (j : Nat) (p : Nat) : Fld := ⟨0x400804 + 0x200 * j + 0x8 * p, 9, 9, .rw, .H, 0⟩
def SOLVE_PORT1_U (j : Nat) (p : Nat) : Fld := ⟨0x400804 + 0x200 * j + 0x8 * p, 18, 5, .rw, .H, 0⟩
def SOLVE_PORT1_V (j : Nat) (p : Nat) : Fld := ⟨0x400804 + 0x200 * j + 0x8 * p, 23, 1, .rw, .H, 0⟩

/-! ### Block TILE (Tables 6.13, 6.16, 6.17, 6.19 to 6.22) -/

/-! `WSET_STATUS` (Table 6.13) -/
def WSET_STATUS_ACT_VALID (t : Nat) (s : Nat) : Fld := ⟨0x402140 + 0x100000 * t + 0x4 * s, 0, 1, .ro, .L, 0⟩
def WSET_STATUS_SHD_PEND (t : Nat) (s : Nat) : Fld := ⟨0x402140 + 0x100000 * t + 0x4 * s, 1, 1, .ro, .L, 0⟩
def WSET_STATUS_FAIL (t : Nat) (s : Nat) : Fld := ⟨0x402140 + 0x100000 * t + 0x4 * s, 2, 1, .w1c, .L, 0⟩
def WSET_STATUS_WSTALE (t : Nat) (s : Nat) : Fld := ⟨0x402140 + 0x100000 * t + 0x4 * s, 3, 1, .ro, .L, 0⟩
def WSET_STATUS_MUTED (t : Nat) (s : Nat) : Fld := ⟨0x402140 + 0x100000 * t + 0x4 * s, 4, 1, .ro, .L, 0⟩
def WSET_STATUS_TBL_NOT_READY (t : Nat) (s : Nat) : Fld := ⟨0x402140 + 0x100000 * t + 0x4 * s, 5, 1, .w1c, .L, 0⟩
def WSET_STATUS_FAIL_CODE (t : Nat) (s : Nat) : Fld := ⟨0x402140 + 0x100000 * t + 0x4 * s, 8, 4, .ro, .L, 0⟩
def WSET_STATUS_AGE (t : Nat) (s : Nat) : Fld := ⟨0x402140 + 0x100000 * t + 0x4 * s, 12, 4, .ro, .L, 0⟩
def WSET_STATUS_ACT_SEQ (t : Nat) (s : Nat) : Fld := ⟨0x402140 + 0x100000 * t + 0x4 * s, 16, 16, .ro, .L, 0⟩

/-! `SOLVER_STATUS` (Table 6.16) -/
def SOLVER_STATUS_LAST_JOB (t : Nat) : Fld := ⟨0x402204 + 0x100000 * t, 0, 2, .ro, .L, 0⟩
def SOLVER_STATUS_RECIP_VALID (t : Nat) : Fld := ⟨0x402204 + 0x100000 * t, 2, 1, .ro, .L, 0⟩
def SOLVER_STATUS_BUSY (t : Nat) : Fld := ⟨0x402204 + 0x100000 * t, 3, 1, .ro, .L, 0⟩
def SOLVER_STATUS_RESULT (t : Nat) : Fld := ⟨0x402204 + 0x100000 * t, 4, 4, .ro, .L, 0⟩
def SOLVER_STATUS_ILLCOND_CNT (t : Nat) : Fld := ⟨0x402204 + 0x100000 * t, 8, 8, .rc, .L, 0⟩
def SOLVER_STATUS_RECIP_AGE (t : Nat) : Fld := ⟨0x402204 + 0x100000 * t, 16, 16, .ro, .L, 65535⟩

/-! `BF_COUNT2` (Table 6.17) -/
def BF_COUNT2_LMUTE_CNT (t : Nat) : Fld := ⟨0x402208 + 0x100000 * t, 0, 16, .rc, .L, 0⟩
def BF_COUNT2_BFP_ERR_CNT (t : Nat) : Fld := ⟨0x402208 + 0x100000 * t, 16, 16, .rc, .L, 0⟩

/-! `BF_STATUS` (Table 6.19) -/
def BF_STATUS_FFT_SAT (t : Nat) : Fld := ⟨0x401000 + 0x100000 * t, 0, 1, .w1c, .L, 0⟩
def BF_STATUS_BF_SAT (t : Nat) : Fld := ⟨0x401000 + 0x100000 * t, 1, 1, .w1c, .L, 0⟩
def BF_STATUS_RATE_MISMATCH (t : Nat) : Fld := ⟨0x401000 + 0x100000 * t, 2, 1, .w1c, .L, 0⟩
def BF_STATUS_LCAP (t : Nat) : Fld := ⟨0x401000 + 0x100000 * t, 3, 1, .ro, .L, 0⟩
def BF_STATUS_BOND_LIMIT (t : Nat) : Fld := ⟨0x401000 + 0x100000 * t, 4, 1, .ro, .L, 0⟩
def BF_STATUS_PRACH_TRUNC (t : Nat) : Fld := ⟨0x401000 + 0x100000 * t, 5, 1, .w1c, .L, 0⟩

/-! `BF_COUNT` (Table 6.20) -/
def BF_COUNT_SAT_CNT (t : Nat) : Fld := ⟨0x401004 + 0x100000 * t, 0, 16, .rc, .L, 0⟩
def BF_COUNT_EXCL_CNT (t : Nat) : Fld := ⟨0x401004 + 0x100000 * t, 16, 16, .rc, .L, 0⟩

/-! `CORR_VALID` (Table 6.21) -/
def CORR_VALID_VALID (t : Nat) : Fld := ⟨0x401080 + 0x100000 * t, 0, 32, .ro, .L, 0⟩

/-! `UNIT_CORR0` (Table 6.22) -/
def UNIT_CORR0_TX_PH (t : Nat) (i : Nat) : Fld := ⟨0x401100 + 0x100000 * t + 0x8 * i, 0, 16, .rw, .H, 0⟩
def UNIT_CORR0_RX_PH (t : Nat) (i : Nat) : Fld := ⟨0x401100 + 0x100000 * t + 0x8 * i, 16, 16, .rw, .H, 0⟩

/-! `UNIT_CORR1` (Table 6.22) -/
def UNIT_CORR1_TX_DLY (t : Nat) (i : Nat) : Fld := ⟨0x401104 + 0x100000 * t + 0x8 * i, 0, 16, .rw, .H, 0⟩
def UNIT_CORR1_RX_DLY (t : Nat) (i : Nat) : Fld := ⟨0x401104 + 0x100000 * t + 0x8 * i, 16, 16, .rw, .H, 0⟩

/-! ### Block CHORUS (Tables 7.14 to 7.23) -/

/-! `CHORUS_CTRL` (Table 7.14) -/
def CHORUS_CTRL_EN : Fld := ⟨0xA0000, 0, 1, .rw, .L, 0⟩
def CHORUS_CTRL_ROOT : Fld := ⟨0xA0000, 1, 1, .rw, .H, 0⟩
def CHORUS_CTRL_TX_EN : Fld := ⟨0xA0000, 2, 1, .rw, .H, 1⟩
def CHORUS_CTRL_TIME_EN : Fld := ⟨0xA0000, 3, 1, .rw, .H, 1⟩
def CHORUS_CTRL_PHASE_EN : Fld := ⟨0xA0000, 4, 1, .rw, .H, 1⟩
def CHORUS_CTRL_PARENT_VALID : Fld := ⟨0xA0000, 8, 4, .rw, .H, 0⟩
def CHORUS_CTRL_REPORT : Fld := ⟨0xA0000, 12, 2, .rw, .H, 0⟩
def CHORUS_CTRL_COMMIT : Fld := ⟨0xA0000, 16, 1, .wo, .L, 0⟩

/-! `CHORUS_UNITS` (Table 7.15) -/
def CHORUS_UNITS_DES_UNIT : Fld := ⟨0xA0004, 0, 7, .rw, .H, 0⟩
def CHORUS_UNITS_ALT_EN : Fld := ⟨0xA0004, 7, 1, .rw, .H, 0⟩
def CHORUS_UNITS_ALT_UNIT : Fld := ⟨0xA0004, 8, 7, .rw, .H, 0⟩
def CHORUS_UNITS_LEVEL : Fld := ⟨0xA0004, 16, 8, .rw, .H, 24⟩
def CHORUS_UNITS_PARENT_LOSS : Fld := ⟨0xA0004, 24, 8, .rw, .H, 2⟩

/-! `CHORUS_PARENT` (Table 7.16) -/
def CHORUS_PARENT_PARENT0 (k : Nat) : Fld := ⟨0xA0008 + 0x4 * k, 0, 16, .rw, .H, 0⟩
def CHORUS_PARENT_PARENT1 (k : Nat) : Fld := ⟨0xA0008 + 0x4 * k, 16, 16, .rw, .H, 0⟩

/-! `CHORUS_RXCFG` (Table 7.17) -/
def CHORUS_RXCFG_DET_THR : Fld := ⟨0xA0010, 0, 8, .rw, .H, 48⟩
def CHORUS_RXCFG_CAPTURE_DB : Fld := ⟨0xA0010, 8, 4, .rw, .H, 8⟩
def CHORUS_RXCFG_CH_IDX0 : Fld := ⟨0xA0010, 12, 5, .rw, .H, 15⟩
def CHORUS_RXCFG_PAIR_SPAN : Fld := ⟨0xA0010, 20, 8, .rw, .H, 8⟩
def CHORUS_RXCFG_PH_GAIN : Fld := ⟨0xA0010, 28, 4, .rw, .H, 2⟩

/-! `CHORUS_STATUS` (Table 7.18) -/
def CHORUS_STATUS_STATE : Fld := ⟨0xA0020, 0, 3, .ro, .L, 0⟩
def CHORUS_STATUS_ACTIVE_UNIT : Fld := ⟨0xA0020, 4, 7, .ro, .L, 0⟩
def CHORUS_STATUS_ALT_IN_USE : Fld := ⟨0xA0020, 11, 1, .ro, .L, 0⟩
def CHORUS_STATUS_ASYM_VALID : Fld := ⟨0xA0020, 12, 1, .ro, .L, 0⟩
def CHORUS_STATUS_PARENT_OK : Fld := ⟨0xA0020, 13, 1, .ro, .L, 0⟩
def CHORUS_STATUS_PLAN_ERR : Fld := ⟨0xA0020, 14, 1, .w1c, .L, 0⟩
def CHORUS_STATUS_CORR_HELD : Fld := ⟨0xA0020, 15, 1, .w1c, .L, 0⟩

/-! `CHORUS_COUNT0` (Table 7.19) -/
def CHORUS_COUNT0_RX_OK : Fld := ⟨0xA0024, 0, 16, .rc, .L, 0⟩
def CHORUS_COUNT0_HDR_FAIL : Fld := ⟨0xA0024, 16, 16, .rc, .L, 0⟩

/-! `CHORUS_COUNT1` (Table 7.19) -/
def CHORUS_COUNT1_PAY_FAIL : Fld := ⟨0xA0028, 0, 8, .rc, .L, 0⟩
def CHORUS_COUNT1_PREEMPTED : Fld := ⟨0xA0028, 8, 8, .rc, .L, 0⟩
def CHORUS_COUNT1_SHORT_PRE : Fld := ⟨0xA0028, 16, 8, .rc, .L, 0⟩
def CHORUS_COUNT1_NOT_SENT : Fld := ⟨0xA0028, 24, 8, .rc, .L, 0⟩

/-! `CHORUS_COUNT2` (Table 7.19) -/
def CHORUS_COUNT2_TX_SENT : Fld := ⟨0xA002C, 0, 16, .rc, .L, 0⟩
def CHORUS_COUNT2_SELF_IGN : Fld := ⟨0xA002C, 16, 4, .rc, .L, 0⟩
def CHORUS_COUNT2_NO_REF : Fld := ⟨0xA002C, 20, 4, .rc, .L, 0⟩
def CHORUS_COUNT2_OVERLAP : Fld := ⟨0xA002C, 24, 4, .rc, .L, 0⟩
def CHORUS_COUNT2_STAGE_SKIP : Fld := ⟨0xA002C, 28, 4, .rc, .L, 0⟩

/-! `CHORUS_RESP_TAG` (Table 7.20) -/
def CHORUS_RESP_TAG_TAG : Fld := ⟨0xA0030, 0, 32, .ro, .L, 0⟩

/-! `CHORUS_RESP_SRC` (Table 7.20) -/
def CHORUS_RESP_SRC_SRC_ID : Fld := ⟨0xA0034, 0, 16, .ro, .L, 0⟩
def CHORUS_RESP_SRC_SELF : Fld := ⟨0xA0034, 16, 1, .ro, .L, 0⟩
def CHORUS_RESP_SRC_TX_UNIT : Fld := ⟨0xA0034, 17, 7, .ro, .L, 0⟩

/-! `CHORUS_PSI` (Table 7.21) -/
def CHORUS_PSI_PSI : Fld := ⟨0xA0040, 0, 16, .ro, .L, 0⟩

/-! `CHORUS_ASYM_T` (Table 7.21) -/
def CHORUS_ASYM_T_DELTA : Fld := ⟨0xA0044, 0, 32, .ro, .L, 0⟩

/-! `CHORUS_ASYM_P` (Table 7.21) -/
def CHORUS_ASYM_P_GAMMA : Fld := ⟨0xA0048, 0, 16, .ro, .L, 0⟩
def CHORUS_ASYM_P_VALID : Fld := ⟨0xA0048, 16, 1, .ro, .L, 0⟩

/-! `CHORUS_TOFS` (Table 7.21) -/
def CHORUS_TOFS_TOFS : Fld := ⟨0xA004C, 0, 32, .ro, .L, 0⟩

/-! `CHORUS_PEER0` (Table 7.22) -/
def CHORUS_PEER0_PEER_ID (i : Nat) : Fld := ⟨0xA1000 + 0x20 * i, 0, 16, .ro, .L, 0⟩
def CHORUS_PEER0_VALID (i : Nat) : Fld := ⟨0xA1000 + 0x20 * i, 16, 1, .ro, .L, 0⟩
def CHORUS_PEER0_PARENT (i : Nat) : Fld := ⟨0xA1000 + 0x20 * i, 17, 1, .ro, .L, 0⟩
def CHORUS_PEER0_PAIRED (i : Nat) : Fld := ⟨0xA1000 + 0x20 * i, 18, 1, .ro, .L, 0⟩

/-! `CHORUS_PEER1` (Table 7.22) -/
def CHORUS_PEER1_LAST_TAG (i : Nat) : Fld := ⟨0xA1004 + 0x20 * i, 0, 32, .ro, .L, 0⟩

/-! `CHORUS_PEER2` (Table 7.22) -/
def CHORUS_PEER2_ARR (i : Nat) : Fld := ⟨0xA1008 + 0x20 * i, 0, 32, .ro, .L, 0⟩

/-! `CHORUS_PEER3` (Table 7.22) -/
def CHORUS_PEER3_OFS (i : Nat) : Fld := ⟨0xA100C + 0x20 * i, 0, 32, .ro, .L, 2147483648⟩

/-! `CHORUS_PEER4` (Table 7.22) -/
def CHORUS_PEER4_PHO (i : Nat) : Fld := ⟨0xA1010 + 0x20 * i, 0, 16, .ro, .L, 0⟩
def CHORUS_PEER4_PHASE (i : Nat) : Fld := ⟨0xA1010 + 0x20 * i, 16, 16, .ro, .L, 0⟩

/-! `CHORUS_PEER5` (Table 7.22) -/
def CHORUS_PEER5_FREQ (i : Nat) : Fld := ⟨0xA1014 + 0x20 * i, 0, 24, .ro, .L, 0⟩

/-! `CHORUS_PEER6` (Table 7.22) -/
def CHORUS_PEER6_CORR (i : Nat) : Fld := ⟨0xA1018 + 0x20 * i, 0, 16, .ro, .L, 0⟩

/-! `CHORUS_PEER7` (Table 7.22) -/
def CHORUS_PEER7_HRT (i : Nat) : Fld := ⟨0xA101C + 0x20 * i, 0, 32, .ro, .L, 2147483648⟩

/-! `CHORUS_RESP0` (Table 7.23) -/
def CHORUS_RESP0_RE (u : Nat) : Fld := ⟨0xA2000 + 0x8 * u, 0, 16, .ro, .L, 0⟩
def CHORUS_RESP0_IM (u : Nat) : Fld := ⟨0xA2000 + 0x8 * u, 16, 16, .ro, .L, 0⟩

/-! `CHORUS_RESP1` (Table 7.23) -/
def CHORUS_RESP1_DLY (u : Nat) : Fld := ⟨0xA2004 + 0x8 * u, 0, 16, .ro, .L, 0⟩
def CHORUS_RESP1_TAG (u : Nat) : Fld := ⟨0xA2004 + 0x8 * u, 16, 2, .ro, .L, 3⟩
def CHORUS_RESP1_USED (u : Nat) : Fld := ⟨0xA2004 + 0x8 * u, 18, 1, .ro, .L, 0⟩

/-! ### Block NEWT (Tables 9.10 to 9.17) -/

/-! `NEWT_STATUS` (Table 9.10) -/
def NEWT_STATUS_VSTATE (n : Nat) : Fld := ⟨0x840000 + 0x100000 * n, 0, 2, .ro, .L, 2⟩
def NEWT_STATUS_FALLBACK (n : Nat) : Fld := ⟨0x840000 + 0x100000 * n, 2, 1, .ro, .L, 0⟩
def NEWT_STATUS_HB_OK (n : Nat) : Fld := ⟨0x840000 + 0x100000 * n, 3, 1, .ro, .L, 0⟩
def NEWT_STATUS_USTATE (n : Nat) : Fld := ⟨0x840000 + 0x100000 * n, 4, 3, .ro, .L, 0⟩
def NEWT_STATUS_FW_VER (n : Nat) : Fld := ⟨0x840000 + 0x100000 * n, 16, 16, .ro, .L, 0⟩

/-! `NEWT_USER_CTRL` (Table 9.11) -/
def NEWT_USER_CTRL_START (n : Nat) : Fld := ⟨0x840004 + 0x100000 * n, 0, 1, .wo, .L, 0⟩
def NEWT_USER_CTRL_STOP (n : Nat) : Fld := ⟨0x840004 + 0x100000 * n, 1, 1, .wo, .L, 0⟩
def NEWT_USER_CTRL_TRIG (n : Nat) : Fld := ⟨0x840004 + 0x100000 * n, 2, 1, .wo, .L, 0⟩
def NEWT_USER_CTRL_AUTO_START (n : Nat) : Fld := ⟨0x840004 + 0x100000 * n, 3, 1, .rw, .S, 0⟩
def NEWT_USER_CTRL_SHARE (n : Nat) : Fld := ⟨0x840004 + 0x100000 * n, 8, 7, .rw, .S, 0⟩
def NEWT_USER_CTRL_TRIG_EN (n : Nat) : Fld := ⟨0x840004 + 0x100000 * n, 16, 3, .rw, .S, 0⟩

/-! `NEWT_USER_LIMIT` (Table 9.12) -/
def NEWT_USER_LIMIT_MAXCYC (n : Nat) : Fld := ⟨0x840008 + 0x100000 * n, 0, 32, .rw, .S, 0⟩

/-! `NEWT_USER_PERIOD` (Table 9.13) -/
def NEWT_USER_PERIOD_PERIOD (n : Nat) : Fld := ⟨0x84000C + 0x100000 * n, 0, 16, .rw, .S, 0⟩

/-! `NEWT_USER_FAULT` (Table 9.14) -/
def NEWT_USER_FAULT_CODE (n : Nat) : Fld := ⟨0x840010 + 0x100000 * n, 0, 4, .ro, .L, 0⟩
def NEWT_USER_FAULT_FAULT_PC (n : Nat) : Fld := ⟨0x840010 + 0x100000 * n, 16, 15, .ro, .L, 0⟩

/-! `NEWT_USER_COUNT` (Table 9.15) -/
def NEWT_USER_COUNT_RUNS (n : Nat) : Fld := ⟨0x840014 + 0x100000 * n, 0, 16, .rc, .L, 0⟩
def NEWT_USER_COUNT_OVERRUN (n : Nat) : Fld := ⟨0x840014 + 0x100000 * n, 16, 16, .rc, .L, 0⟩

/-! `NEWT_LOAD` (Table 9.16) -/
def NEWT_LOAD_VLOAD (n : Nat) : Fld := ⟨0x840018 + 0x100000 * n, 0, 8, .ro, .L, 0⟩
def NEWT_LOAD_ULOAD (n : Nat) : Fld := ⟨0x840018 + 0x100000 * n, 8, 8, .ro, .L, 0⟩
def NEWT_LOAD_CONFLICT (n : Nat) : Fld := ⟨0x840018 + 0x100000 * n, 16, 16, .rc, .L, 0⟩

/-! `NEWT_HOST` (Table 9.17) -/
def NEWT_HOST_RM_PAGE (n : Nat) : Fld := ⟨0x840020 + 0x100000 * n, 0, 2, .rw, .L, 0⟩

/-! ### Block LINK (Tables 10.8 to 10.17) -/

/-! `LINK_CTRL` (Table 10.8) -/
def LINK_CTRL_EN (p : Nat) : Fld := ⟨0x80000 + 0x4000 * p, 0, 1, .rw, .L, 1⟩
def LINK_CTRL_RATE (p : Nat) : Fld := ⟨0x80000 + 0x4000 * p, 1, 2, .rw, .S, 0⟩
def LINK_CTRL_FALLBACK (p : Nat) : Fld := ⟨0x80000 + 0x4000 * p, 3, 1, .rw, .S, 1⟩
def LINK_CTRL_LANE_EN (p : Nat) : Fld := ⟨0x80000 + 0x4000 * p, 4, 8, .rw, .S, 255⟩
def LINK_CTRL_TX_POL (p : Nat) : Fld := ⟨0x80000 + 0x4000 * p, 12, 8, .rw, .S, 0⟩
def LINK_CTRL_RX_POL (p : Nat) : Fld := ⟨0x80000 + 0x4000 * p, 20, 8, .rw, .S, 0⟩
def LINK_CTRL_EQ_FREEZE (p : Nat) : Fld := ⟨0x80000 + 0x4000 * p, 28, 1, .rw, .L, 0⟩
def LINK_CTRL_AUTO_WIDEN (p : Nat) : Fld := ⟨0x80000 + 0x4000 * p, 29, 1, .rw, .L, 1⟩
def LINK_CTRL_RETRAIN (p : Nat) : Fld := ⟨0x80000 + 0x4000 * p, 30, 1, .wo, .L, 0⟩

/-! `LINK_CFG` (Table 10.9) -/
def LINK_CFG_TX_PRESET (p : Nat) : Fld := ⟨0x80004 + 0x4000 * p, 0, 3, .rw, .S, 2⟩
def LINK_CFG_BOND (p : Nat) : Fld := ⟨0x80004 + 0x4000 * p, 4, 1, .rw, .S, 0⟩
def LINK_CFG_UPLOSS_HOLD (p : Nat) : Fld := ⟨0x80004 + 0x4000 * p, 16, 16, .rw, .L, 200⟩

/-! `LINK_STATUS` (Table 10.10) -/
def LINK_STATUS_STATE (p : Nat) : Fld := ⟨0x80008 + 0x4000 * p, 0, 3, .ro, .L, 6⟩
def LINK_STATUS_WIDTH (p : Nat) : Fld := ⟨0x80008 + 0x4000 * p, 3, 2, .ro, .L, 0⟩
def LINK_STATUS_GROUP (p : Nat) : Fld := ⟨0x80008 + 0x4000 * p, 5, 8, .ro, .L, 0⟩
def LINK_STATUS_RATE_ACT (p : Nat) : Fld := ⟨0x80008 + 0x4000 * p, 13, 2, .ro, .L, 0⟩
def LINK_STATUS_BACKUP (p : Nat) : Fld := ⟨0x80008 + 0x4000 * p, 15, 1, .ro, .L, 0⟩
def LINK_STATUS_NO_PARTNER (p : Nat) : Fld := ⟨0x80008 + 0x4000 * p, 16, 1, .ro, .L, 0⟩
def LINK_STATUS_DEGRADED (p : Nat) : Fld := ⟨0x80008 + 0x4000 * p, 17, 1, .ro, .L, 0⟩
def LINK_STATUS_ACTIVE_UP (p : Nat) : Fld := ⟨0x80008 + 0x4000 * p, 18, 1, .ro, .L, 0⟩
def LINK_STATUS_BOND_OK (p : Nat) : Fld := ⟨0x80008 + 0x4000 * p, 19, 1, .ro, .L, 0⟩
def LINK_STATUS_BACKOFF_MS (p : Nat) : Fld := ⟨0x80008 + 0x4000 * p, 24, 8, .ro, .L, 0⟩

/-! `LINK_LANE_STATE` (Table 10.11) -/
def LINK_LANE_STATE_LANE_0 (p : Nat) : Fld := ⟨0x8000C + 0x4000 * p, 0, 4, .ro, .L, 0⟩
def LINK_LANE_STATE_LANE_1 (p : Nat) : Fld := ⟨0x8000C + 0x4000 * p, 4, 4, .ro, .L, 0⟩
def LINK_LANE_STATE_LANE_2 (p : Nat) : Fld := ⟨0x8000C + 0x4000 * p, 8, 4, .ro, .L, 0⟩
def LINK_LANE_STATE_LANE_3 (p : Nat) : Fld := ⟨0x8000C + 0x4000 * p, 12, 4, .ro, .L, 0⟩
def LINK_LANE_STATE_LANE_4 (p : Nat) : Fld := ⟨0x8000C + 0x4000 * p, 16, 4, .ro, .L, 0⟩
def LINK_LANE_STATE_LANE_5 (p : Nat) : Fld := ⟨0x8000C + 0x4000 * p, 20, 4, .ro, .L, 0⟩
def LINK_LANE_STATE_LANE_6 (p : Nat) : Fld := ⟨0x8000C + 0x4000 * p, 24, 4, .ro, .L, 0⟩
def LINK_LANE_STATE_LANE_7 (p : Nat) : Fld := ⟨0x8000C + 0x4000 * p, 28, 4, .ro, .L, 0⟩

/-! `LINK_PARTNER` (Table 10.12) -/
def LINK_PARTNER_DEVICE_ID (p : Nat) : Fld := ⟨0x80010 + 0x4000 * p, 0, 16, .ro, .L, 0⟩
def LINK_PARTNER_RX_GOOD (p : Nat) : Fld := ⟨0x80010 + 0x4000 * p, 16, 8, .ro, .L, 0⟩
def LINK_PARTNER_FLAGS (p : Nat) : Fld := ⟨0x80010 + 0x4000 * p, 24, 6, .ro, .L, 0⟩
def LINK_PARTNER_VALID (p : Nat) : Fld := ⟨0x80010 + 0x4000 * p, 31, 1, .ro, .L, 0⟩

/-! `LINK_COUNT` (Table 10.13) -/
def LINK_COUNT_DOWN_CNT (p : Nat) : Fld := ⟨0x80014 + 0x4000 * p, 0, 16, .rc, .L, 0⟩
def LINK_COUNT_LANE_LOST_CNT (p : Nat) : Fld := ⟨0x80014 + 0x4000 * p, 16, 16, .rc, .L, 0⟩

/-! `LINK_LANE_ERR` (Table 10.14) -/
def LINK_LANE_ERR_BAD_MARKER (p : Nat) (l : Nat) : Fld := ⟨0x80040 + 0x4000 * p + 0x4 * l, 0, 16, .rc, .L, 0⟩
def LINK_LANE_ERR_STUFF_CNT (p : Nat) (l : Nat) : Fld := ⟨0x80040 + 0x4000 * p + 0x4 * l, 16, 8, .rc, .L, 0⟩
def LINK_LANE_ERR_LOS_CNT (p : Nat) (l : Nat) : Fld := ⟨0x80040 + 0x4000 * p + 0x4 * l, 24, 8, .rc, .L, 0⟩

/-! `LINK_EQ` (Table 10.15) -/
def LINK_EQ_CTLE (p : Nat) (l : Nat) : Fld := ⟨0x80080 + 0x4000 * p + 0x4 * l, 0, 4, .ro, .L, 0⟩
def LINK_EQ_DFE1 (p : Nat) (l : Nat) : Fld := ⟨0x80080 + 0x4000 * p + 0x4 * l, 4, 7, .ro, .L, 0⟩
def LINK_EQ_DFE2 (p : Nat) (l : Nat) : Fld := ⟨0x80080 + 0x4000 * p + 0x4 * l, 11, 6, .ro, .L, 0⟩
def LINK_EQ_DFE3 (p : Nat) (l : Nat) : Fld := ⟨0x80080 + 0x4000 * p + 0x4 * l, 17, 5, .ro, .L, 0⟩
def LINK_EQ_CONV (p : Nat) (l : Nat) : Fld := ⟨0x80080 + 0x4000 * p + 0x4 * l, 22, 1, .ro, .L, 0⟩

/-! `LINK_EYE_CTRL` (Table 10.16) -/
def LINK_EYE_CTRL_LANE (p : Nat) : Fld := ⟨0x80100 + 0x4000 * p, 0, 3, .rw, .L, 0⟩
def LINK_EYE_CTRL_MODE (p : Nat) : Fld := ⟨0x80100 + 0x4000 * p, 3, 1, .rw, .L, 0⟩
def LINK_EYE_CTRL_PHASE (p : Nat) : Fld := ⟨0x80100 + 0x4000 * p, 4, 6, .rw, .L, 0⟩
def LINK_EYE_CTRL_VOLT (p : Nat) : Fld := ⟨0x80100 + 0x4000 * p, 11, 7, .rw, .L, 0⟩
def LINK_EYE_CTRL_DWELL (p : Nat) : Fld := ⟨0x80100 + 0x4000 * p, 18, 4, .rw, .L, 4⟩
def LINK_EYE_CTRL_BUSY (p : Nat) : Fld := ⟨0x80100 + 0x4000 * p, 22, 1, .ro, .L, 0⟩
def LINK_EYE_CTRL_ABORT (p : Nat) : Fld := ⟨0x80100 + 0x4000 * p, 23, 1, .w1c, .L, 0⟩
def LINK_EYE_CTRL_REFUSED (p : Nat) : Fld := ⟨0x80100 + 0x4000 * p, 24, 1, .w1c, .L, 0⟩
def LINK_EYE_CTRL_GO (p : Nat) : Fld := ⟨0x80100 + 0x4000 * p, 31, 1, .wo, .L, 0⟩

/-! `LINK_EYE_RESULT` (Table 10.17) -/
def LINK_EYE_RESULT_ERRORS (p : Nat) : Fld := ⟨0x80104 + 0x4000 * p, 0, 32, .ro, .L, 0⟩

/-! `LINK_EYE_SUMMARY` (Table 10.17) -/
def LINK_EYE_SUMMARY_LEFT (p : Nat) : Fld := ⟨0x80108 + 0x4000 * p, 0, 8, .ro, .L, 0⟩
def LINK_EYE_SUMMARY_RIGHT (p : Nat) : Fld := ⟨0x80108 + 0x4000 * p, 8, 8, .ro, .L, 0⟩
def LINK_EYE_SUMMARY_TOP (p : Nat) : Fld := ⟨0x80108 + 0x4000 * p, 16, 8, .ro, .L, 0⟩
def LINK_EYE_SUMMARY_BOTTOM (p : Nat) : Fld := ⟨0x80108 + 0x4000 * p, 24, 8, .ro, .L, 0⟩

/-! ### Block POOL (Tables 11.10 to 11.17) -/

/-! `POOL_CTRL` (Table 11.10) -/
def POOL_CTRL_COMMIT : Fld := ⟨0x90000, 0, 1, .wo, .L, 0⟩
def POOL_CTRL_EVT_PUSH : Fld := ⟨0x90000, 1, 1, .rw, .L, 1⟩
def POOL_CTRL_UL_AGE_MAX : Fld := ⟨0x90000, 16, 16, .rw, .L, 1000⟩

/-! `POOL_DEVID` (Table 11.11) -/
def POOL_DEVID_DEV_ID : Fld := ⟨0x90004, 0, 16, .rw, .L, 0⟩

/-! `POOL_ROUTE` (Table 11.12) -/
def POOL_ROUTE_LO (k : Nat) : Fld := ⟨0x90008 + 0x4 * k, 0, 16, .rw, .L, 65535⟩
def POOL_ROUTE_HI (k : Nat) : Fld := ⟨0x90008 + 0x4 * k, 16, 16, .rw, .L, 0⟩

/-! `POOL_STATUS` (Table 11.13) -/
def POOL_STATUS_FREE : Fld := ⟨0x90010, 0, 15, .ro, .L, 16384⟩
def POOL_STATUS_EVT_LOST : Fld := ⟨0x90010, 15, 1, .w1c, .L, 0⟩
def POOL_STATUS_EVT_QUEUED : Fld := ⟨0x90010, 16, 10, .ro, .L, 0⟩

/-! `POOL_COUNT` (Table 11.14) -/
def POOL_COUNT_DL_LATE : Fld := ⟨0x90014, 0, 16, .rc, .L, 0⟩
def POOL_COUNT_DL_INCOMPLETE : Fld := ⟨0x90014, 16, 16, .rc, .L, 0⟩

/-! `POOL_COUNT2` (Table 11.14) -/
def POOL_COUNT2_DL_UNCLAIMED : Fld := ⟨0x90018, 0, 16, .rc, .L, 0⟩
def POOL_COUNT2_DL_EARLY : Fld := ⟨0x90018, 16, 16, .rc, .L, 0⟩

/-! `POOL_ERR` (Table 11.15) -/
def POOL_ERR_HDR_ERR (p : Nat) : Fld := ⟨0x90020 + 0x4 * p, 0, 8, .rc, .L, 0⟩
def POOL_ERR_CRC_ERR (p : Nat) : Fld := ⟨0x90020 + 0x4 * p, 8, 8, .rc, .L, 0⟩
def POOL_ERR_SEQ_GAP (p : Nat) : Fld := ⟨0x90020 + 0x4 * p, 16, 8, .rc, .L, 0⟩
def POOL_ERR_FWD_DROP (p : Nat) : Fld := ⟨0x90020 + 0x4 * p, 24, 8, .rc, .L, 0⟩

/-! `POOL_RSV` (Table 11.16) -/
def POOL_RSV_RSV (s : Nat) : Fld := ⟨0x90100 + 0x4 * s, 0, 14, .rw, .H, rsvReset s⟩
def POOL_RSV_MAX (s : Nat) : Fld := ⟨0x90100 + 0x4 * s, 16, 14, .rw, .H, maxReset s⟩

/-! `POOL_USE` (Table 11.17) -/
def POOL_USE_USED (s : Nat) : Fld := ⟨0x90140 + 0x4 * s, 0, 14, .ro, .L, 0⟩
def POOL_USE_DROP (s : Nat) : Fld := ⟨0x90140 + 0x4 * s, 16, 16, .rc, .L, 0⟩

/-! ### Block TIME (Tables 12.4 to 12.13) -/

/-! `TIME_CTRL` (Table 12.4) -/
def TIME_CTRL_COMMIT : Fld := ⟨0x40000, 0, 1, .wo, .L, 0⟩
def TIME_CTRL_SNAP : Fld := ⟨0x40000, 1, 1, .wo, .L, 0⟩
def TIME_CTRL_CLR_SUSPECT_A : Fld := ⟨0x40000, 2, 1, .wo, .L, 0⟩
def TIME_CTRL_CLR_SUSPECT_B : Fld := ⟨0x40000, 3, 1, .wo, .L, 0⟩
def TIME_CTRL_CLASS_MAX : Fld := ⟨0x40000, 8, 8, .rw, .L, 7⟩
def TIME_CTRL_REVERT : Fld := ⟨0x40000, 16, 8, .rw, .L, 60⟩
def TIME_CTRL_STEP_HOLD : Fld := ⟨0x40000, 24, 8, .rw, .L, 10⟩

/-! `TIME_DOMAIN` (Table 12.5) -/
def TIME_DOMAIN_DOMAIN_A : Fld := ⟨0x40004, 0, 8, .rw, .H, 0⟩
def TIME_DOMAIN_DOMAIN_B : Fld := ⟨0x40004, 8, 8, .rw, .H, 1⟩
def TIME_DOMAIN_EN_A : Fld := ⟨0x40004, 16, 1, .rw, .H, 1⟩
def TIME_DOMAIN_EN_B : Fld := ⟨0x40004, 17, 1, .rw, .H, 0⟩
def TIME_DOMAIN_PREF : Fld := ⟨0x40004, 18, 1, .rw, .H, 0⟩

/-! `TIME_SERVO` (Table 12.6) -/
def TIME_SERVO_BW_PTP : Fld := ⟨0x40008, 0, 3, .rw, .L, 2⟩
def TIME_SERVO_BW_CH : Fld := ⟨0x40008, 3, 3, .rw, .L, 6⟩
def TIME_SERVO_LOCK_THR : Fld := ⟨0x40008, 8, 8, .rw, .L, 100⟩
def TIME_SERVO_ASYM_STEP : Fld := ⟨0x40008, 16, 8, .rw, .L, 20⟩
def TIME_SERVO_SLEW_MAX : Fld := ⟨0x40008, 24, 4, .rw, .L, 2⟩
def TIME_SERVO_STEP_THR : Fld := ⟨0x40008, 28, 4, .rw, .L, 0⟩

/-! `TIME_STATUS` (Table 12.7) -/
def TIME_STATUS_STATE : Fld := ⟨0x4000C, 0, 2, .ro, .L, 0⟩
def TIME_STATUS_SRC : Fld := ⟨0x4000C, 2, 3, .ro, .L, 0⟩
def TIME_STATUS_SEL : Fld := ⟨0x4000C, 5, 1, .ro, .L, 0⟩
def TIME_STATUS_VALID_A : Fld := ⟨0x4000C, 6, 1, .ro, .L, 0⟩
def TIME_STATUS_VALID_B : Fld := ⟨0x4000C, 7, 1, .ro, .L, 0⟩
def TIME_STATUS_SUSPECT_A : Fld := ⟨0x4000C, 8, 1, .ro, .L, 0⟩
def TIME_STATUS_SUSPECT_B : Fld := ⟨0x4000C, 9, 1, .ro, .L, 0⟩
def TIME_STATUS_STEP_HELD : Fld := ⟨0x4000C, 10, 1, .w1c, .L, 0⟩
def TIME_STATUS_IN_LOST : Fld := ⟨0x4000C, 11, 1, .w1c, .L, 0⟩

/-! `TIME_SNAP0` (Table 12.8) -/
def TIME_SNAP0_SEC_HI : Fld := ⟨0x40010, 0, 32, .ro, .L, 0⟩

/-! `TIME_SNAP1` (Table 12.8) -/
def TIME_SNAP1_SEC_LO : Fld := ⟨0x40014, 0, 32, .ro, .L, 0⟩

/-! `TIME_SNAP2` (Table 12.8) -/
def TIME_SNAP2_NS : Fld := ⟨0x40018, 0, 32, .ro, .L, 0⟩

/-! `TIME_SNAP3` (Table 12.8) -/
def TIME_SNAP3_FRAC : Fld := ⟨0x4001C, 0, 16, .ro, .L, 0⟩

/-! `TIME_OFS` (Table 12.9) -/
def TIME_OFS_OFS (d : Nat) : Fld := ⟨0x40020 + 0x4 * d, 0, 32, .ro, .L, 0⟩

/-! `TIME_DLY` (Table 12.9) -/
def TIME_DLY_DLY (d : Nat) : Fld := ⟨0x40028 + 0x4 * d, 0, 32, .ro, .L, 0⟩

/-! `TIME_STEER` (Table 12.10) -/
def TIME_STEER_STEER : Fld := ⟨0x40030, 0, 24, .ro, .L, 0⟩

/-! `TIME_HOLD` (Table 12.10) -/
def TIME_HOLD_DRIFT : Fld := ⟨0x40034, 0, 16, .ro, .L, 0⟩
def TIME_HOLD_HOLD_ERR : Fld := ⟨0x40034, 16, 16, .ro, .L, 0⟩

/-! `TIME_PORT_LAT` (Table 12.11) -/
def TIME_PORT_LAT_LAT_IN (p : Nat) : Fld := ⟨0x40040 + 0x4 * p, 0, 16, .rw, .L, 0⟩
def TIME_PORT_LAT_LAT_OUT (p : Nat) : Fld := ⟨0x40040 + 0x4 * p, 16, 16, .rw, .L, 0⟩

/-! `TIME_ASYM` (Table 12.11) -/
def TIME_ASYM_ASYM (p : Nat) : Fld := ⟨0x40050 + 0x4 * p, 0, 32, .rw, .L, 0⟩

/-! `TIME_PPS` (Table 12.12) -/
def TIME_PPS_OUT_EN : Fld := ⟨0x40060, 0, 1, .rw, .L, 1⟩
def TIME_PPS_IN_EN : Fld := ⟨0x40060, 1, 1, .rw, .L, 0⟩
def TIME_PPS_IN_SRC_EN : Fld := ⟨0x40060, 2, 1, .rw, .L, 0⟩
def TIME_PPS_WIDTH : Fld := ⟨0x40060, 8, 8, .rw, .L, 100⟩
def TIME_PPS_OUT_OFS : Fld := ⟨0x40060, 16, 16, .rw, .L, 0⟩

/-! `TIME_PPS_IN` (Table 12.12) -/
def TIME_PPS_IN_PPS_IN : Fld := ⟨0x40064, 0, 32, .ro, .L, 0⟩

/-! `TIME_TILE_PH` (Table 12.13) -/
def TIME_TILE_PH_TILE_PH (t : Nat) : Fld := ⟨0x40070 + 0x4 * t, 0, 16, .ro, .L, 0⟩

/-! `TIME_COUNT` (Table 12.13) -/
def TIME_COUNT_OUTLIER_A : Fld := ⟨0x40080, 0, 8, .rc, .L, 0⟩
def TIME_COUNT_OUTLIER_B : Fld := ⟨0x40080, 8, 8, .rc, .L, 0⟩
def TIME_COUNT_MSG_ERR : Fld := ⟨0x40080, 16, 16, .rc, .L, 0⟩

/-! ### Block CAP (Table 13.6) -/

/-! `CAP_CTRL` (Table 13.6) -/
def CAP_CTRL_SKEW_GO : Fld := ⟨0x70000, 0, 1, .wo, .L, 0⟩
def CAP_CTRL_SKEW_BUSY : Fld := ⟨0x70000, 1, 1, .ro, .L, 0⟩
def CAP_CTRL_SKEW_OK : Fld := ⟨0x70000, 2, 1, .ro, .L, 0⟩

/-! `CAP_BW` (Table 13.6) -/
def CAP_BW_BW_USED : Fld := ⟨0x70004, 0, 12, .ro, .L, 0⟩

/-! ### Block CAPCH (Tables 13.7 to 13.15) -/

/-! `CAP_CH_CTRL` (Table 13.7) -/
def CAP_CH_CTRL_ARM (n : Nat) : Fld := ⟨0x71000 + 0x40 * n, 0, 1, .wo, .L, 0⟩
def CAP_CH_CTRL_STOP (n : Nat) : Fld := ⟨0x71000 + 0x40 * n, 1, 1, .wo, .L, 0⟩
def CAP_CH_CTRL_FORCE (n : Nat) : Fld := ⟨0x71000 + 0x40 * n, 2, 1, .wo, .L, 0⟩
def CAP_CH_CTRL_MODE (n : Nat) : Fld := ⟨0x71000 + 0x40 * n, 3, 1, .rw, .H, 0⟩
def CAP_CH_CTRL_AUTO_EN (n : Nat) : Fld := ⟨0x71000 + 0x40 * n, 4, 1, .rw, .H, 0⟩
def CAP_CH_CTRL_WRAP (n : Nat) : Fld := ⟨0x71000 + 0x40 * n, 5, 1, .rw, .H, 1⟩
def CAP_CH_CTRL_FMT (n : Nat) : Fld := ⟨0x71000 + 0x40 * n, 6, 1, .rw, .H, 1⟩
def CAP_CH_CTRL_RAW_EN (n : Nat) : Fld := ⟨0x71000 + 0x40 * n, 7, 1, .rw, .H, 1⟩
def CAP_CH_CTRL_HOLD_MODE (n : Nat) : Fld := ⟨0x71000 + 0x40 * n, 8, 2, .rw, .H, 0⟩

/-! `CAP_CH_SRC` (Table 13.8) -/
def CAP_CH_SRC_KIND (n : Nat) : Fld := ⟨0x71004 + 0x40 * n, 0, 4, .rw, .H, 0⟩
def CAP_CH_SRC_INDEX (n : Nat) : Fld := ⟨0x71004 + 0x40 * n, 4, 7, .rw, .H, 0⟩

/-! `CAP_CH_TRIG` (Table 13.8) -/
def CAP_CH_TRIG_TSRC (n : Nat) : Fld := ⟨0x71008 + 0x40 * n, 0, 4, .rw, .H, 0⟩
def CAP_CH_TRIG_EDGE (n : Nat) : Fld := ⟨0x71008 + 0x40 * n, 4, 1, .rw, .H, 0⟩
def CAP_CH_TRIG_TINDEX (n : Nat) : Fld := ⟨0x71008 + 0x40 * n, 5, 7, .rw, .H, 0⟩

/-! `CAP_CH_TRIG_ARG` (Table 13.9) -/
def CAP_CH_TRIG_ARG_ARG (n : Nat) : Fld := ⟨0x7100C + 0x40 * n, 0, 32, .rw, .H, 0⟩

/-! `CAP_CH_TRIG_ARG2` (Table 13.9) -/
def CAP_CH_TRIG_ARG2_ARG2 (n : Nat) : Fld := ⟨0x71010 + 0x40 * n, 0, 32, .rw, .H, 0⟩

/-! `CAP_CH_HOLD` (Table 13.10) -/
def CAP_CH_HOLD_HOLD (n : Nat) : Fld := ⟨0x71014 + 0x40 * n, 0, 24, .rw, .H, 0⟩

/-! `CAP_CH_AUTO` (Table 13.10) -/
def CAP_CH_AUTO_AUTO_TO (n : Nat) : Fld := ⟨0x71018 + 0x40 * n, 0, 24, .rw, .H, 245760⟩

/-! `CAP_CH_LEN` (Table 13.11) -/
def CAP_CH_LEN_PRE (n : Nat) : Fld := ⟨0x7101C + 0x40 * n, 0, 16, .rw, .H, 0⟩
def CAP_CH_LEN_POST (n : Nat) : Fld := ⟨0x7101C + 0x40 * n, 16, 16, .rw, .H, 4096⟩

/-! `CAP_CH_SEGS` (Table 13.11) -/
def CAP_CH_SEGS_SEGS (n : Nat) : Fld := ⟨0x71020 + 0x40 * n, 0, 16, .rw, .H, 1⟩

/-! `CAP_CH_BASE` (Table 13.12) -/
def CAP_CH_BASE_BASE (n : Nat) : Fld := ⟨0x71024 + 0x40 * n, 0, 27, .rw, .H, 0⟩

/-! `CAP_CH_AREA` (Table 13.12) -/
def CAP_CH_AREA_LEN (n : Nat) : Fld := ⟨0x71028 + 0x40 * n, 0, 27, .rw, .H, 0⟩

/-! `CAP_CH_RED` (Table 13.13) -/
def CAP_CH_RED_TYPE_0 (n : Nat) : Fld := ⟨0x7102C + 0x40 * n, 0, 3, .rw, .H, 0⟩
def CAP_CH_RED_TYPE_1 (n : Nat) : Fld := ⟨0x7102C + 0x40 * n, 8, 3, .rw, .H, 0⟩
def CAP_CH_RED_TYPE_2 (n : Nat) : Fld := ⟨0x7102C + 0x40 * n, 16, 3, .rw, .H, 0⟩
def CAP_CH_RED_TYPE_3 (n : Nat) : Fld := ⟨0x7102C + 0x40 * n, 24, 3, .rw, .H, 0⟩
def CAP_CH_RED_LOG2K_0 (n : Nat) : Fld := ⟨0x7102C + 0x40 * n, 3, 5, .rw, .H, 0⟩
def CAP_CH_RED_LOG2K_1 (n : Nat) : Fld := ⟨0x7102C + 0x40 * n, 11, 5, .rw, .H, 0⟩
def CAP_CH_RED_LOG2K_2 (n : Nat) : Fld := ⟨0x7102C + 0x40 * n, 19, 5, .rw, .H, 0⟩
def CAP_CH_RED_LOG2K_3 (n : Nat) : Fld := ⟨0x7102C + 0x40 * n, 27, 5, .rw, .H, 0⟩

/-! `CAP_CH_STATUS` (Table 13.14) -/
def CAP_CH_STATUS_STATE (n : Nat) : Fld := ⟨0x71030 + 0x40 * n, 0, 3, .ro, .L, 0⟩
def CAP_CH_STATUS_ARM_REJ (n : Nat) : Fld := ⟨0x71030 + 0x40 * n, 3, 1, .w1c, .L, 0⟩
def CAP_CH_STATUS_CAUSE (n : Nat) : Fld := ⟨0x71030 + 0x40 * n, 4, 4, .ro, .L, 0⟩
def CAP_CH_STATUS_TRUNC (n : Nat) : Fld := ⟨0x71030 + 0x40 * n, 8, 1, .w1c, .L, 0⟩
def CAP_CH_STATUS_STAGE (n : Nat) : Fld := ⟨0x71030 + 0x40 * n, 9, 1, .w1c, .L, 0⟩

/-! `CAP_CH_PROG` (Table 13.14) -/
def CAP_CH_PROG_PROG (n : Nat) : Fld := ⟨0x71034 + 0x40 * n, 0, 32, .ro, .L, 0⟩

/-! `CAP_CH_COUNT` (Table 13.15) -/
def CAP_CH_COUNT_MISSED (n : Nat) : Fld := ⟨0x71038 + 0x40 * n, 0, 16, .rc, .L, 0⟩
def CAP_CH_COUNT_TRUNC_CNT (n : Nat) : Fld := ⟨0x71038 + 0x40 * n, 16, 16, .rc, .L, 0⟩

/-! `CAP_CH_SKEW` (Table 13.15) -/
def CAP_CH_SKEW_SKEW (n : Nat) : Fld := ⟨0x7103C + 0x40 * n, 0, 16, .rw, .L, 0⟩

/-! ### Block DMA (Table 14.8) -/

/-! `DMA_MEM_STATUS` (Table 14.8) -/
def DMA_MEM_STATUS_READY : Fld := ⟨0x60000, 0, 1, .ro, .L, 0⟩
def DMA_MEM_STATUS_SELF_REFRESH : Fld := ⟨0x60000, 1, 1, .ro, .L, 0⟩
def DMA_MEM_STATUS_UE : Fld := ⟨0x60000, 2, 1, .w1c, .L, 0⟩
def DMA_MEM_STATUS_CE_CNT : Fld := ⟨0x60000, 16, 16, .rc, .L, 0⟩

/-! `DMA_MEM_UE_ADDR` (Table 14.8) -/
def DMA_MEM_UE_ADDR_UE_ADDR : Fld := ⟨0x60004, 0, 32, .ro, .L, 0⟩

/-! ### Block DMACH (Tables 14.9 to 14.12) -/

/-! `DMA_CH_CTRL` (Table 14.9) -/
def DMA_CH_CTRL_START (n : Nat) : Fld := ⟨0x61000 + 0x40 * n, 0, 1, .wo, .L, 0⟩
def DMA_CH_CTRL_FROM_CUR (n : Nat) : Fld := ⟨0x61000 + 0x40 * n, 1, 1, .wo, .L, 0⟩
def DMA_CH_CTRL_PAUSE (n : Nat) : Fld := ⟨0x61000 + 0x40 * n, 2, 1, .rw, .L, 0⟩
def DMA_CH_CTRL_ABORT (n : Nat) : Fld := ⟨0x61000 + 0x40 * n, 3, 1, .wo, .L, 0⟩
def DMA_CH_CTRL_DOORBELL (n : Nat) : Fld := ⟨0x61000 + 0x40 * n, 4, 1, .wo, .L, 0⟩
def DMA_CH_CTRL_PRIO (n : Nat) : Fld := ⟨0x61000 + 0x40 * n, 5, 1, .rw, .S, 0⟩

/-! `DMA_CH_STATUS` (Table 14.9) -/
def DMA_CH_STATUS_STATE (n : Nat) : Fld := ⟨0x61004 + 0x40 * n, 0, 3, .ro, .L, 0⟩
def DMA_CH_STATUS_ERR (n : Nat) : Fld := ⟨0x61004 + 0x40 * n, 3, 4, .ro, .L, 0⟩
def DMA_CH_STATUS_DOMAIN_LOST (n : Nat) : Fld := ⟨0x61004 + 0x40 * n, 7, 1, .w1c, .L, 0⟩
def DMA_CH_STATUS_REFUSED (n : Nat) : Fld := ⟨0x61004 + 0x40 * n, 8, 1, .w1c, .L, 0⟩

/-! `DMA_CH_RING_LO` (Table 14.10) -/
def DMA_CH_RING_LO_BASE_LO (n : Nat) : Fld := ⟨0x61008 + 0x40 * n, 0, 32, .rw, .H, 0⟩

/-! `DMA_CH_RING_HI` (Table 14.10) -/
def DMA_CH_RING_HI_BASE_HI (n : Nat) : Fld := ⟨0x6100C + 0x40 * n, 0, 8, .rw, .H, 0⟩
def DMA_CH_RING_HI_RLEN (n : Nat) : Fld := ⟨0x6100C + 0x40 * n, 16, 16, .rw, .H, 0⟩

/-! `DMA_CH_CUR_LO` (Table 14.11) -/
def DMA_CH_CUR_LO_CUR_LO (n : Nat) : Fld := ⟨0x61010 + 0x40 * n, 0, 32, .ro, .L, 0⟩

/-! `DMA_CH_CUR_HI` (Table 14.11) -/
def DMA_CH_CUR_HI_CUR_HI (n : Nat) : Fld := ⟨0x61014 + 0x40 * n, 0, 8, .ro, .L, 0⟩

/-! `DMA_CH_ERR_LO` (Table 14.11) -/
def DMA_CH_ERR_LO_ERR_LO (n : Nat) : Fld := ⟨0x61018 + 0x40 * n, 0, 32, .ro, .L, 0⟩

/-! `DMA_CH_ERR_HI` (Table 14.11) -/
def DMA_CH_ERR_HI_ERR_HI (n : Nat) : Fld := ⟨0x6101C + 0x40 * n, 0, 8, .ro, .L, 0⟩

/-! `DMA_CH_DONE` (Table 14.12) -/
def DMA_CH_DONE_DONE (n : Nat) : Fld := ⟨0x61020 + 0x40 * n, 0, 28, .ro, .L, 0⟩

/-! `DMA_CH_COUNT` (Table 14.12) -/
def DMA_CH_COUNT_COUNT (n : Nat) : Fld := ⟨0x61024 + 0x40 * n, 0, 32, .ro, .L, 0⟩

/-! `DMA_CH_BUDGET` (Table 14.12) -/
def DMA_CH_BUDGET_BUDGET (n : Nat) : Fld := ⟨0x61028 + 0x40 * n, 0, 32, .rw, .S, 65536⟩

/-! ### Block HK (Tables 15.4 to 15.13) -/

/-! `HK_CTRL` (Table 15.4) -/
def HK_CTRL_COMMIT : Fld := ⟨0x30000, 0, 1, .wo, .L, 0⟩
def HK_CTRL_APD_A : Fld := ⟨0x30000, 1, 1, .rw, .L, 1⟩
def HK_CTRL_APD_B : Fld := ⟨0x30000, 2, 1, .rw, .L, 1⟩
def HK_CTRL_SELFTEST : Fld := ⟨0x30000, 3, 1, .wo, .L, 0⟩
def HK_CTRL_XCHK_TOL : Fld := ⟨0x30000, 8, 8, .rw, .L, 8⟩
def HK_CTRL_TDAC_CODE : Fld := ⟨0x30000, 16, 12, .rw, .L, 0⟩
def HK_CTRL_TDAC_OUT : Fld := ⟨0x30000, 28, 1, .rw, .L, 0⟩

/-! `HK_STATUS` (Table 15.5) -/
def HK_STATUS_STATE_A : Fld := ⟨0x30004, 0, 2, .ro, .L, 3⟩
def HK_STATUS_STATE_B : Fld := ⟨0x30004, 2, 2, .ro, .L, 3⟩
def HK_STATUS_XCHK_FAIL : Fld := ⟨0x30004, 4, 1, .w1c, .L, 0⟩
def HK_STATUS_SELFTEST_BUSY : Fld := ⟨0x30004, 5, 1, .ro, .L, 0⟩
def HK_STATUS_REFUSED : Fld := ⟨0x30004, 6, 1, .w1c, .L, 0⟩

/-! `HK_SEQ` (Table 15.6) -/
def HK_SEQ_EN (k : Nat) (s : Nat) : Fld := ⟨0x30010 + 0x10 * k + 0x4 * s, 0, 1, .rw, .L, 0⟩
def HK_SEQ_GO (k : Nat) (s : Nat) : Fld := ⟨0x30010 + 0x10 * k + 0x4 * s, 1, 1, .wo, .L, 0⟩
def HK_SEQ_TRIG (k : Nat) (s : Nat) : Fld := ⟨0x30010 + 0x10 * k + 0x4 * s, 2, 2, .rw, .S, 0⟩
def HK_SEQ_ALIGN (k : Nat) (s : Nat) : Fld := ⟨0x30010 + 0x10 * k + 0x4 * s, 4, 1, .rw, .S, 0⟩
def HK_SEQ_OVERRUN (k : Nat) (s : Nat) : Fld := ⟨0x30010 + 0x10 * k + 0x4 * s, 5, 1, .w1c, .L, 0⟩
def HK_SEQ_BUSY (k : Nat) (s : Nat) : Fld := ⟨0x30010 + 0x10 * k + 0x4 * s, 6, 1, .ro, .L, 0⟩
def HK_SEQ_LEN (k : Nat) (s : Nat) : Fld := ⟨0x30010 + 0x10 * k + 0x4 * s, 8, 4, .rw, .S, 0⟩
def HK_SEQ_PERIOD (k : Nat) (s : Nat) : Fld := ⟨0x30010 + 0x10 * k + 0x4 * s, 16, 16, .rw, .S, 1000⟩

/-! `HK_ENTRY0` (Table 15.7) -/
def HK_ENTRY0_MUX (k : Nat) (s : Nat) (e : Nat) : Fld := ⟨0x30100 + 0x200 * k + 0x80 * s + 0x8 * e, 0, 7, .rw, .S, 0⟩
def HK_ENTRY0_RANGE (k : Nat) (s : Nat) (e : Nat) : Fld := ⟨0x30100 + 0x200 * k + 0x80 * s + 0x8 * e, 7, 1, .rw, .S, 0⟩
def HK_ENTRY0_ST (k : Nat) (s : Nat) (e : Nat) : Fld := ⟨0x30100 + 0x200 * k + 0x80 * s + 0x8 * e, 8, 2, .rw, .S, 1⟩
def HK_ENTRY0_AVG (k : Nat) (s : Nat) (e : Nat) : Fld := ⟨0x30100 + 0x200 * k + 0x80 * s + 0x8 * e, 10, 2, .rw, .S, 0⟩
def HK_ENTRY0_LIM_EN (k : Nat) (s : Nat) (e : Nat) : Fld := ⟨0x30100 + 0x200 * k + 0x80 * s + 0x8 * e, 12, 1, .rw, .S, 0⟩

/-! `HK_ENTRY1` (Table 15.7) -/
def HK_ENTRY1_LO (k : Nat) (s : Nat) (e : Nat) : Fld := ⟨0x30104 + 0x200 * k + 0x80 * s + 0x8 * e, 0, 12, .rw, .S, 0⟩
def HK_ENTRY1_HI (k : Nat) (s : Nat) (e : Nat) : Fld := ⟨0x30104 + 0x200 * k + 0x80 * s + 0x8 * e, 16, 12, .rw, .S, 4095⟩

/-! `HK_RESULT` (Table 15.8) -/
def HK_RESULT_VALUE (k : Nat) (s : Nat) (e : Nat) : Fld := ⟨0x30500 + 0x100 * k + 0x40 * s + 0x4 * e, 0, 16, .ro, .L, 0⟩
def HK_RESULT_OOR (k : Nat) (s : Nat) (e : Nat) : Fld := ⟨0x30500 + 0x100 * k + 0x40 * s + 0x4 * e, 16, 1, .ro, .L, 0⟩
def HK_RESULT_LIMIT (k : Nat) (s : Nat) (e : Nat) : Fld := ⟨0x30500 + 0x100 * k + 0x40 * s + 0x4 * e, 17, 1, .ro, .L, 0⟩
def HK_RESULT_FRESH (k : Nat) (s : Nat) (e : Nat) : Fld := ⟨0x30500 + 0x100 * k + 0x40 * s + 0x4 * e, 18, 1, .rc, .L, 0⟩
def HK_RESULT_MUX (k : Nat) (s : Nat) (e : Nat) : Fld := ⟨0x30500 + 0x100 * k + 0x40 * s + 0x4 * e, 19, 7, .ro, .L, 0⟩

/-! `BIAS_CFG0` (Table 15.9) -/
def BIAS_CFG0_CODE (i : Nat) : Fld := ⟨0x31000 + 0x8 * i, 0, 12, .rw, .H, 0⟩
def BIAS_CFG0_RANGE (i : Nat) : Fld := ⟨0x31000 + 0x8 * i, 12, 1, .rw, .H, 0⟩
def BIAS_CFG0_RAMP (i : Nat) : Fld := ⟨0x31000 + 0x8 * i, 13, 3, .rw, .H, 0⟩
def BIAS_CFG0_SINE_EN (i : Nat) : Fld := ⟨0x31000 + 0x8 * i, 16, 1, .rw, .H, 0⟩
def BIAS_CFG0_FAULT_ACT (i : Nat) : Fld := ⟨0x31000 + 0x8 * i, 17, 2, .rw, .L, 1⟩

/-! `BIAS_CFG1` (Table 15.9) -/
def BIAS_CFG1_AMP (i : Nat) : Fld := ⟨0x31004 + 0x8 * i, 0, 12, .rw, .H, 0⟩
def BIAS_CFG1_FREQ (i : Nat) : Fld := ⟨0x31004 + 0x8 * i, 12, 20, .rw, .H, 0⟩

/-! `BIAS_STATUS` (Table 15.10) -/
def BIAS_STATUS_READBACK (i : Nat) : Fld := ⟨0x31200 + 0x4 * i, 0, 12, .ro, .L, 0⟩
def BIAS_STATUS_STATE (i : Nat) : Fld := ⟨0x31200 + 0x4 * i, 12, 3, .ro, .L, 0⟩
def BIAS_STATUS_FAULT (i : Nat) : Fld := ⟨0x31200 + 0x4 * i, 15, 1, .w1c, .L, 0⟩
def BIAS_STATUS_ILIM (i : Nat) : Fld := ⟨0x31200 + 0x4 * i, 16, 1, .ro, .L, 0⟩
def BIAS_STATUS_RANGE_ACT (i : Nat) : Fld := ⟨0x31200 + 0x4 * i, 17, 1, .ro, .L, 0⟩

/-! `PWM_DUTY` (Table 15.11) -/
def PWM_DUTY_DUTY (u : Nat) : Fld := ⟨0x32000 + 0x4 * u, 0, 12, .rw, .H, 0⟩
def PWM_DUTY_FAULT (u : Nat) : Fld := ⟨0x32000 + 0x4 * u, 16, 1, .w1c, .L, 0⟩
def PWM_DUTY_ZERO (u : Nat) : Fld := ⟨0x32000 + 0x4 * u, 17, 1, .ro, .L, 1⟩

/-! `THERM_CTRL` (Table 15.12) -/
def THERM_CTRL_GRACE : Fld := ⟨0x33000, 0, 10, .rw, .L, 50⟩

/-! `THERM_STATUS` (Table 15.12) -/
def THERM_STATUS_LEVEL : Fld := ⟨0x33004, 0, 2, .ro, .L, 0⟩
def THERM_STATUS_STEP : Fld := ⟨0x33004, 2, 2, .ro, .L, 0⟩
def THERM_STATUS_HOT : Fld := ⟨0x33004, 4, 5, .ro, .L, 0⟩
def THERM_STATUS_TJ : Fld := ⟨0x33004, 16, 16, .ro, .L, 32768⟩

/-! `THERM_SENSOR` (Table 15.13) -/
def THERM_SENSOR_TEMP (i : Nat) : Fld := ⟨0x33100 + 0x4 * i, 0, 16, .ro, .L, 32768⟩
def THERM_SENSOR_VALID (i : Nat) : Fld := ⟨0x33100 + 0x4 * i, 16, 1, .ro, .L, 0⟩
def THERM_SENSOR_FAILED (i : Nat) : Fld := ⟨0x33100 + 0x4 * i, 17, 1, .ro, .L, 0⟩

/-! ### Block PWR (Tables 16.10 to 16.17) -/

/-! `PWR_STATUS` (Table 16.10) -/
def PWR_STATUS_STAGE : Fld := ⟨0x20000, 0, 3, .ro, .L, 0⟩
def PWR_STATUS_VOTE : Fld := ⟨0x20000, 4, 2, .ro, .L, 0⟩
def PWR_STATUS_SLEEP_PEND : Fld := ⟨0x20000, 6, 1, .ro, .L, 0⟩
def PWR_STATUS_LIMIT : Fld := ⟨0x20000, 7, 1, .w1c, .L, 0⟩
def PWR_STATUS_WAKE_LATE : Fld := ⟨0x20000, 16, 16, .rc, .L, 0⟩

/-! `PWR_SLEEP` (Table 16.11) -/
def PWR_SLEEP_CANCEL : Fld := ⟨0x20004, 0, 1, .wo, .L, 0⟩
def PWR_SLEEP_SLEEP_REFUSED : Fld := ⟨0x20004, 16, 10, .w1c, .L, 0⟩
def PWR_SLEEP_SLEEP_CNT : Fld := ⟨0x20004, 26, 6, .rc, .L, 0⟩

/-! `PWR_IDLE` (Table 16.12) -/
def PWR_IDLE_UNIT_IDLE : Fld := ⟨0x20008, 0, 4, .rw, .L, 1⟩
def PWR_IDLE_REGION_IDLE : Fld := ⟨0x20008, 4, 8, .rw, .L, 8⟩
def PWR_IDLE_TILE_IDLE : Fld := ⟨0x20008, 12, 10, .rw, .L, 100⟩
def PWR_IDLE_MEM_IDLE : Fld := ⟨0x20008, 22, 10, .rw, .L, 100⟩

/-! `PWR_SENT` (Table 16.13) -/
def PWR_SENT_SENT_CLUSTER : Fld := ⟨0x20010, 0, 4, .rw, .S, 0⟩
def PWR_SENT_SENT_UNITS : Fld := ⟨0x20010, 4, 8, .rw, .S, 255⟩
def PWR_SENT_SENT_IDX : Fld := ⟨0x20010, 12, 5, .rw, .S, 0⟩
def PWR_SENT_SENT_HITS : Fld := ⟨0x20010, 17, 3, .rw, .S, 4⟩
def PWR_SENT_SENT_PERIOD : Fld := ⟨0x20010, 20, 12, .rw, .S, 100⟩

/-! `PWR_SENT2` (Table 16.13) -/
def PWR_SENT2_SENT_THR : Fld := ⟨0x20014, 0, 8, .rw, .S, 60⟩
def PWR_SENT2_SENT_WIN : Fld := ⟨0x20014, 8, 10, .rw, .S, 200⟩

/-! `PWR_BRUM` (Table 16.14) -/
def PWR_BRUM_BRUM_TIMER : Fld := ⟨0x20018, 0, 24, .rw, .L, 0⟩
def PWR_BRUM_WAKE_PIN_EN : Fld := ⟨0x20018, 24, 1, .rw, .L, 1⟩

/-! `PWR_AVS` (Table 16.15) -/
def PWR_AVS_EN (r : Nat) : Fld := ⟨0x20040 + 0x4 * r, 0, 1, .rw, .S, 1⟩
def PWR_AVS_AVS_LO (r : Nat) : Fld := ⟨0x20040 + 0x4 * r, 1, 7, .rw, .L, 10⟩
def PWR_AVS_AVS_HI (r : Nat) : Fld := ⟨0x20040 + 0x4 * r, 8, 7, .rw, .L, 30⟩
def PWR_AVS_TARGET (r : Nat) : Fld := ⟨0x20040 + 0x4 * r, 16, 10, .ro, .L, 750⟩
def PWR_AVS_NAK_CNT (r : Nat) : Fld := ⟨0x20040 + 0x4 * r, 26, 6, .rc, .L, 0⟩

/-! `PWR_DOM` (Table 16.16) -/
def PWR_DOM_STATE (d : Nat) : Fld := ⟨0x20100 + 0x4 * d, 0, 3, .ro, .L, 0⟩
def PWR_DOM_FAILED (d : Nat) : Fld := ⟨0x20100 + 0x4 * d, 3, 1, .ro, .L, 0⟩
def PWR_DOM_FAIL_STEP (d : Nat) : Fld := ⟨0x20100 + 0x4 * d, 4, 3, .ro, .L, 0⟩

/-! `PWR_RES_MODE` (Table 16.17) -/
def PWR_RES_MODE_RES (m : Nat) : Fld := ⟨0x20200 + 0x4 * m, 0, 32, .ro, .L, 0⟩

/-! `PWR_RES_REGION` (Table 16.17) -/
def PWR_RES_REGION_RES (g : Nat) : Fld := ⟨0x20220 + 0x4 * g, 0, 32, .ro, .L, 0⟩

/-! `PWR_TXGATE` (Table 16.17) -/
def PWR_TXGATE_TXGATE (g : Nat) : Fld := ⟨0x20240 + 0x4 * g, 0, 8, .ro, .L, 0⟩

/-! `PWR_RES_CLR` (Table 16.17) -/
def PWR_RES_CLR_CLR : Fld := ⟨0x20260, 0, 1, .wo, .L, 0⟩

/-! ### Block SEC (Tables 17.6 to 17.10) -/

/-! `SEC_STATUS` (Table 17.6) -/
def SEC_STATUS_APPROVED : Fld := ⟨0xB0000, 0, 1, .ro, .L, 0⟩
def SEC_STATUS_STATE : Fld := ⟨0xB0000, 1, 2, .ro, .L, 0⟩
def SEC_STATUS_DBG_UNLOCKED : Fld := ⟨0xB0000, 3, 1, .ro, .L, 0⟩
def SEC_STATUS_SLOTS : Fld := ⟨0xB0000, 4, 8, .ro, .L, 0⟩
def SEC_STATUS_LOCKED : Fld := ⟨0xB0000, 12, 8, .ro, .L, 0⟩

/-! `SEC_MB_CTRL` (Table 17.7) -/
def SEC_MB_CTRL_SERVICE : Fld := ⟨0xB0004, 0, 8, .rw, .L, 0⟩
def SEC_MB_CTRL_LEN : Fld := ⟨0xB0004, 8, 11, .rw, .L, 0⟩
def SEC_MB_CTRL_BUSY : Fld := ⟨0xB0004, 30, 1, .ro, .L, 0⟩
def SEC_MB_CTRL_GO : Fld := ⟨0xB0004, 31, 1, .wo, .L, 0⟩

/-! `SEC_MB_RESULT` (Table 17.8) -/
def SEC_MB_RESULT_STATUS : Fld := ⟨0xB0008, 0, 8, .ro, .L, 0⟩
def SEC_MB_RESULT_RLEN : Fld := ⟨0xB0008, 8, 11, .ro, .L, 0⟩
def SEC_MB_RESULT_ROLE : Fld := ⟨0xB0008, 19, 2, .ro, .L, 0⟩
def SEC_MB_RESULT_APPROVED : Fld := ⟨0xB0008, 21, 1, .ro, .L, 0⟩

/-! `SEC_COUNT` (Table 17.9) -/
def SEC_COUNT_AUTH_FAIL_CNT : Fld := ⟨0xB000C, 0, 16, .rc, .L, 0⟩

/-! `SEC_TAMPER` (Table 17.9) -/
def SEC_TAMPER_CAUSE : Fld := ⟨0xB0010, 0, 4, .rc, .L, 0⟩
def SEC_TAMPER_ZEROISED : Fld := ⟨0xB0010, 4, 1, .rc, .L, 0⟩

/-! `SEC_MIN_VER` (Table 17.9) -/
def SEC_MIN_VER_MIN_VER : Fld := ⟨0xB0014, 0, 32, .ro, .L, 0⟩

/-! `SEC_MB_REQ` (Table 17.10) -/
def SEC_MB_REQ_REQ (i : Nat) : Fld := ⟨0xB0400 + 0x4 * i, 0, 32, .wo, .L, 0⟩

/-! `SEC_MB_RSP` (Table 17.10) -/
def SEC_MB_RSP_RSP (i : Nat) : Fld := ⟨0xB0800 + 0x4 * i, 0, 32, .ro, .L, 0⟩

end Reg

end Sys2Proof.Machine
end

