-- ==== Sys2Proof/Machine/Ops.lean ====
section
/-! DEFINITION. The named operations that the meanings share: reading and writing register fields, saturating counters,
events, recorded configuration errors, and block commits. -/

namespace Sys2Proof.Machine

/-! ### Numbers -/

/-- The two's complement value of the `w`-bit code `v` (R3). -/
def sgn (w v : Nat) : Int := if v < 2 ^ (w - 1) then (v : Int) else (v : Int) - 2 ^ w

/-- The `w`-bit code of `i`. -/
def code (w : Nat) (i : Int) : Nat := (i % (2 ^ w : Int)).toNat

/-- Bit `n` of `v`. -/
def bit (v n : Nat) : Bool := v.testBit n

/-- Bits [lo + w − 1 : lo] of `v`. -/
def bits (v lo w : Nat) : Nat := (v >>> lo) % 2 ^ w

/-- `v` with bit `n` set. -/
def setBit (v n : Nat) : Nat := if v.testBit n then v else v + 2 ^ n

/-- `v` with bit `n` clear. -/
def clrBit (v n : Nat) : Nat := if v.testBit n then v - 2 ^ n else v

/-- A count in which 0 acts as 1. -/
def atLeast1 (n : Nat) : Nat := if n = 0 then 1 else n

/-- 1 for true, 0 for false. -/
def b2n (b : Bool) : Nat := if b then 1 else 0

/-- Saturate `i` to the signed range of `w` bits. -/
def satInt (w : Nat) (i : Int) : Int :=
  if i < -(2 ^ (w - 1) : Int) then -(2 ^ (w - 1) : Int)
  else if (2 ^ (w - 1) : Int) - 1 < i then (2 ^ (w - 1) : Int) - 1 else i

/-! ### Register fields -/

/-- The place of a field in the register planes. -/
def Fld.key (f : Fld) : Nat := f.off * 32 + f.lo

/-- The value in force of field `f`: the active copy of a class H field (R9), the one copy of any other. -/
def rd (s : State) (f : Fld) : Nat :=
  match f.cls with
  | .H => s.hact.get f.key f.reset
  | _ => s.act.get f.key f.reset

/-- The shadow copy of a class H field (R9). -/
def rdSh (s : State) (f : Fld) : Nat := s.hsh.get f.key f.reset

/-- Set the value in force of field `f`, keeping its width. -/
def wr (s : State) (f : Fld) (v : Nat) : State :=
  match f.cls with
  | .H => { s with hact := s.hact.set f.key f.reset (v % 2 ^ f.width) }
  | _ => { s with act := s.act.set f.key f.reset (v % 2 ^ f.width) }

/-- Set the shadow copy of a class H field. -/
def wrSh (s : State) (f : Fld) (v : Nat) : State :=
  { s with hsh := s.hsh.set f.key f.reset (v % 2 ^ f.width) }

/-- Set both copies of a class H field: a value that hardware puts into use at once. -/
def wrBoth (s : State) (f : Fld) (v : Nat) : State := wrSh (wr s f v) f v

/-- Field `f` reads 1. -/
def on (s : State) (f : Fld) : Bool := rd s f == 1

/-- Field `f` read as a two's complement number. -/
def rdI (s : State) (f : Fld) : Int := sgn f.width (rd s f)

/-- Add `n` to a counter that saturates at its largest code. -/
def bump (s : State) (f : Fld) (n : Nat) : State := wr s f (min (rd s f + n) (2 ^ f.width - 1))

/-- Write `v` when `c` holds. -/
def wrIf (c : Bool) (s : State) (f : Fld) (v : Nat) : State := if c then wr s f v else s

/-- Apply `g` to each element in order. -/
def forEach {α : Type} (l : List α) (s : State) (g : State → α → State) : State := l.foldl g s

/-! ### Parts of the state by index -/

def State.unit (s : State) (u : Nat) : UnitS := s.units.get u {}
def State.modUnit (s : State) (u : Nat) (g : UnitS → UnitS) : State :=
  { s with units := s.units.set u {} (g (s.unit u)) }
def State.modRx (s : State) (u : Nat) (g : RxUnit → RxUnit) : State :=
  s.modUnit u fun x => { x with rx := g x.rx }
def State.modTx (s : State) (u : Nat) (g : TxUnit → TxUnit) : State :=
  s.modUnit u fun x => { x with tx := g x.tx }
def State.cluster (s : State) (c : Nat) : ClusterS := s.clusters.get c {}
def State.modCluster (s : State) (c : Nat) (g : ClusterS → ClusterS) : State :=
  { s with clusters := s.clusters.set c {} (g (s.cluster c)) }

/-! ### Levels (R1, R19) -/

/-- Units of a grade code of DEVICE_INFO.GRADE (Table 0.2). -/
def gradeUnits (g : Nat) : Nat := if g = 1 then 128 else if g = 2 then 64 else 32

def unitEnabled (s : State) (u : Nat) : Bool := decide (u < gradeUnits s.fuse.grade)
def clusterEnabled (s : State) (c : Nat) : Bool := decide (8 * c < gradeUnits s.fuse.grade)
def regionEnabled (s : State) (g : Nat) : Bool := decide (16 * g < gradeUnits s.fuse.grade)
def tileEnabled (s : State) (t : Nat) : Bool := decide (32 * t < gradeUnits s.fuse.grade)

/-- Layers per direction of the grade at 400 MHz and at ≤ 200 MHz (Table 0.2). -/
def gradeLayers (g : Nat) (wide : Bool) : Nat := if wide then 32 else if g = 4 then 32 else 64

/-- The eight units of cluster `c`. -/
def unitsOf (c : Nat) : List Nat := (List.range 8).map (8 * c + ·)

/-- The enabled units of the grade. -/
def enabledUnits (s : State) : List Nat := List.range (gradeUnits s.fuse.grade)
def enabledClusters (s : State) : List Nat := List.range (gradeUnits s.fuse.grade / 8)
def enabledRegions (s : State) : List Nat := List.range (gradeUnits s.fuse.grade / 16)
def enabledTiles (s : State) : List Nat := List.range (gradeUnits s.fuse.grade / 32)

/-! ### Modes (Table 1.4) -/

def mBoot : Nat := 0
def mTrim : Nat := 1
def mIdle : Nat := 2
def mServe : Nat := 3
def mSentinel : Nat := 4
def mBrumate : Nat := 5
def mDiag : Nat := 6
def mSafe : Nat := 7

def modeOf (s : State) : Nat := rd s Reg.MODE_STATUS_MODE

/-- The escapement is out of STOP (R122). -/
def escRunning (s : State) : Bool := on s Reg.ESC_STATUS_RUNNING

/-- The escapement is releasing boundaries: in SERVE and DIAG always, in TRIM in calibration symbols only (R42, R120). -/
def releasing (s : State) : Bool :=
  escRunning s && (modeOf s != mTrim || s.air.calSym)

/-! ### The balance (R271) -/

/-- Units of the balance in one nanosecond: 40 fractional bits. -/
def nsUnits : Nat := 2 ^ 40

def balSec (s : State) : Nat := s.time.bal / (nsUnits * 1000000000)
def balNs (s : State) : Nat := s.time.bal / nsUnits % 1000000000

/-- Whole REF cycles of balance time (R272: 1/245.76 MHz each, 3125/768 ns) in a balance count. -/
def balCycles (bal : Nat) : Nat := bal * 768 / (3125 * nsUnits)

/-- The first balance count at or after cycle `n`. -/
def cyclesBal (n : Nat) : Nat := (n * 3125 * nsUnits + 767) / 768

/-! ### Free values -/

/-- Take an open value of `w` bits. -/
def takeFree (s : State) (w : Nat) : Nat × State :=
  (Config.freeBits s.free w % 2 ^ w, { s with free := s.free + 1 })

/-! ### Events (R17, R18, R34, R259, R400) -/

/-- The class of an event code (R17). -/
def eventClass (code : Nat) : Nat := code / 0x1000

/-- The queue without its oldest entry not of class 0xF. -/
def dropOldest : List EventEntry → List EventEntry
  | [] => []
  | e :: r => if eventClass e.code = 0xF then e :: dropOldest r else r

/-- Put one entry into the queue (R259): a full queue displaces its oldest entry not of class 0xF and sets EVT_LOST. -/
def enqueue (s : State) (code arg : Nat) : State :=
  let e : EventEntry :=
    { code := code, eseq := s.events.next % 65536, arg := arg % 2 ^ 32, sec := balSec s % 2 ^ 32, ns := balNs s, pushed := false }
  if s.events.entries.length < 512 then
    { s with events := { s.events with entries := s.events.entries ++ [e], next := (s.events.next + 1) % 65536 } }
  else
    wr { s with events := { s.events with entries := dropOldest s.events.entries ++ [e], next := (s.events.next + 1) % 65536, lostPending := true } }
      Reg.POOL_STATUS_EVT_LOST 1

/-- Set the class bit of an issued event in ALERT_STATUS (R34). -/
def alertPend (s : State) (code : Nat) : State :=
  if eventClass code = 0xF then wr s Reg.ALERT_STATUS_FATAL_PEND 1
  else wr s Reg.ALERT_STATUS_CLASS_PEND (setBit (rd s Reg.ALERT_STATUS_CLASS_PEND) (eventClass code))

/-- The ALERT ball is driven low (R34). -/
def alertLow (s : State) : Bool :=
  (rd s Reg.ALERT_STATUS_CLASS_PEND &&& rd s Reg.ALERT_MASK_CLASS_EN) != 0 || on s Reg.ALERT_STATUS_FATAL_PEND

/-- A reset of PACKAGE or SYSTEM reach is held: events are then not queued (R259). -/
def packageHeld (s : State) : Bool := s.rst.sources.any fun r => decide (3 ≤ r.reach)

/-- Issue an event (R17, R259). The entry of a fatal code still queued stands for a repeat; the displacement of an
entry queues 0x3014 once until EVT_LOST is cleared. -/
def raise (s : State) (code arg : Nat) : State :=
  if packageHeld s then s
  else
    let s1 := alertPend s code
    if eventClass code = 0xF ∧ s1.events.entries.any (fun e => e.code == code) then s1
    else
      let s2 := enqueue s1 code arg
      if on s2 Reg.POOL_STATUS_EVT_LOST && !on s1 Reg.POOL_STATUS_EVT_LOST then
        enqueue (alertPend s2 0x3014) 0x3014 0
      else s2

/-- Issue an event when `c` holds. -/
def raiseIf (c : Bool) (s : State) (code arg : Nat) : State := if c then raise s code arg else s

/-- Set a sticky bit; issue the event when it changes from 0 to 1. -/
def stickyEvent (s : State) (f : Fld) (code arg : Nat) : State :=
  raiseIf (rd s f == 0) (wr s f 1) code arg

/-! ### Configuration errors (R12) -/

/-- Record an error: flag, latched address while both flags are 0, ERR_OVF otherwise, and the event. -/
def cfgError (s : State) (pair : Bool) (addr : Nat) : State :=
  let free := rd s Reg.CFG_STATUS_CFG_IGNORED == 0 && rd s Reg.CFG_STATUS_CFG_PAIR_ERR == 0
  let s1 := if free then wr (wr s Reg.CFG_ERR_ADDR_ADDR addr) Reg.CFG_STATUS_ERR_KIND (b2n pair)
            else wr s Reg.CFG_STATUS_ERR_OVF 1
  let s2 := wr s1 (if pair then Reg.CFG_STATUS_CFG_PAIR_ERR else Reg.CFG_STATUS_CFG_IGNORED) 1
  raise s2 (if pair then 0x1002 else 0x1001) addr

/-- A write that is not made (R9, R12). -/
def cfgIgnored (s : State) (addr : Nat) : State := cfgError s false addr

/-! ### Block commits (R10, R11) -/

/-- A group of class H fields that commit together: the ranges [from, to) of their field places (`Fld.key`). The first
range's start names the group. -/
structure Group where
  ranges : List (Nat × Nat)

def Group.id (g : Group) : Nat :=
  match g.ranges with
  | [] => 0
  | r :: _ => r.1

/-- The field places of the registers at window offsets from `a` up to, not including, `b`. -/
def regsAt (a b : Nat) : Nat × Nat := (a * 32, b * 32)

/-- Copy every shadow value of the group to active use. -/
def copyShadow (s : State) (g : Group) : State :=
  forEach g.ranges s fun s r =>
    { s with hact := (s.hact.clear r.1 r.2).merge (s.hsh.range r.1 r.2) }

/-- Some shadow value of the group differs from the active one. -/
def shadowChanged (s : State) (g : Group) : Bool :=
  g.ranges.any fun r => s.hact.range r.1 r.2 != s.hsh.range r.1 r.2

/-- The smallest of the failing pairs' lowest offsets. -/
def lowest : List Nat → Nat
  | [] => 0
  | a :: r => r.foldl min a

/-- Refuse the commit of a group (R11): recorded at the first refusal, and again only after a shadow write. -/
def refuseCommit (s : State) (g : Group) (fails : List Nat) : State :=
  if s.silent.contains g.id then s
  else cfgError { s with silent := g.id :: s.silent } true (lowest fails)

/-- Commit a group (R10, R11): `fails` holds the lowest offset of every failing pair, `leave` says that the block leaves STOP.
Every shadow value becomes active in one step, or none does; with no changed shadow value nothing happens, unless the
block leaves STOP. -/
def commitGroup (s : State) (g : Group) (fails : List Nat) (leave : Bool := false) : State × Bool :=
  if !leave && !shadowChanged s g then (s, true)
  else match fails with
    | [] => (copyShadow { s with silent := s.silent.filter (· != g.id) } g, true)
    | _ => (refuseCommit s g fails, false)

/-- The offset of a failing pair, when it fails. -/
def failAt (ok : Bool) (off : Nat) : List Nat := if ok then [] else [off]

end Sys2Proof.Machine
end

