-- ==== Sys2Proof/Machine/Levels.lean ====
section
/-! DEFINITION. Questions that several chapters ask of the state: what a reset source holds, the supply stage in force,
cluster temperatures, and which units the Chorus listens on. -/

namespace Sys2Proof.Machine

/-- Reset source `r` covers unit `u` (Tables 2.1 and 2.4). -/
def srcCoversUnit (r : ResetSource) (u : Nat) : Bool :=
  decide (2 ≤ r.reach) || (r.reach == 1 && r.blk == 0x400 + u / 32) ||
    (r.reach == 0 && (r.blk == u || r.blk == 0x100 + u / 8))

/-- Unit `u` is held in reset, by its own reset, its cluster's, its tile's or a wider one (R40), or its restore runs (R43). -/
def unitHeld (s : State) (u : Nat) : Bool := (s.rst.sources ++ s.rst.restoring).any fun r => srcCoversUnit r u

/-- Reset source `r` covers block `blk` of Table 2.4 that lies in tile `t` (`none`: a hub block). -/
def srcCoversBlk (r : ResetSource) (blk : Nat) (t : Option Nat) : Bool :=
  r.blk == blk && r.reach ≤ 1 || decide (3 ≤ r.reach) ||
    (r.reach == 2 && !(0x310 ≤ blk && blk ≤ 0x313)) ||
    (match t with | some t => r.reach == 1 && r.blk == 0x400 + t | none => false)

def blkHeld (s : State) (blk : Nat) (t : Option Nat) : Bool :=
  (s.rst.sources ++ s.rst.restoring).any fun r => srcCoversBlk r blk t

def clusterHeld (s : State) (c : Nat) : Bool := blkHeld s (0x100 + c) (some (c / 4))
def newtHeld (s : State) (g : Nat) : Bool := blkHeld s (0x200 + g) (some (g / 2))

/-- Supply stage in force (R359). -/
def stageOf (s : State) : Nat := rd s Reg.PWR_STATUS_STAGE

/-- The cluster's temperature in 0.1 °C: its sensor's reading, or its tile's where that sensor has failed (R334). -/
def clusterTenths (s : State) (c : Nat) : Int :=
  rdI s (Reg.THERM_SENSOR_TEMP (if on s (Reg.THERM_SENSOR_FAILED c) then 16 + c / 4 else c))

/-- The cluster's temperature in °C, rounded towards minus infinity. -/
def clusterTemp (s : State) (c : Nat) : Int := clusterTenths s c / 10

/-- Unit `u` feeds the Chorus receiver, whose own gain control then acts (R71, R170). -/
def chorusListens (s : State) (u : Nat) : Bool :=
  match s.chorus.win with
  | some w => rd s Reg.CHORUS_STATUS_STATE != 0 && w.listen.contains u
  | none => false

/-- The bonded mode is in force (R237). -/
def bonded (s : State) : Bool := on s (Reg.LINK_STATUS_BOND_OK 0)

/-- The active upstream port (R237). -/
def activeUp (s : State) : Nat := if !bonded s && on s (Reg.LINK_STATUS_ACTIVE_UP 1) then 1 else 0

/-- The device ID in force (R245). -/
def devId (s : State) : Nat := rd s Reg.POOL_DEVID_DEV_ID

/-- Put a packet of the device's own into the traffic of its output port (R248, R250): DEV_ID and SEQ are set as it is queued. -/
def send (s : State) (p : OutPkt) : State :=
  let n := s.pool.seqOut.get p.port 0
  { s with
    link := { s.link with out := s.link.out ++ [{ p with up := true, dev := devId s, seq := n }] }
    pool := { s.pool with seqOut := s.pool.seqOut.set p.port 0 ((n + 1) % 65536) } }

/-- The `n` bytes of `v`, most significant first. -/
def beBytes (n v : Nat) : List Nat := (List.range n).map fun i => bits v (8 * (n - 1 - i)) 8

/-- The number whose bytes, most significant first, are `bs`. -/
def ofBytes (bs : List Nat) : Nat := bs.foldl (fun a b => a * 256 + b % 256) 0

/-- Port `p` is UP (Table 10.5). -/
def portUp (s : State) (p : Nat) : Bool := rd s (Reg.LINK_STATUS_STATE p) == 3

/-! ### Domain states (R340, Table 16.1) -/

def domOn : Nat := 0
def domQuiesced : Nat := 1
def domRetain : Nat := 2
def domPowerDown : Nat := 3
def domSelfRefresh : Nat := 4
def domGated : Nat := 5
def domSleep : Nat := 6
def domOff : Nat := 7

def domState (s : State) (d : Nat) : Nat := rd s (Reg.PWR_DOM_STATE d)
def domFailed (s : State) (d : Nat) : Bool := on s (Reg.PWR_DOM_FAILED d)

/-- Put domain `d` into a state; a FAILED domain stays OFF (R354). -/
def setDom (s : State) (d st : Nat) : State := wr s (Reg.PWR_DOM_STATE d) (if domFailed s d then domOff else st)

/-- The memory die enters or leaves self-refresh; it is READY while trained and out of it (Table 14.8). -/
def memRefresh (s : State) (v : Bool) : State :=
  if v then wr (wr s Reg.DMA_MEM_STATUS_SELF_REFRESH 1) Reg.DMA_MEM_STATUS_READY 0
  else if on s Reg.DMA_MEM_STATUS_SELF_REFRESH then wr (wr s Reg.DMA_MEM_STATUS_SELF_REFRESH 0) Reg.DMA_MEM_STATUS_READY 1
  else s

/-- Region `g` returns to GATED in IDLE and SAFE once no calibration of its LOs runs (R345). -/
def regionRest (s : State) (g : Nat) : State :=
  if (modeOf s == mIdle || modeOf s == mSafe) && (s.cluster (2 * g)).precal.isNone && (s.cluster (2 * g + 1)).precal.isNone then
    { (setDom s (12 + g) domGated) with power := { s.power with woken := s.power.woken.filter (· != g) } }
  else s

end Sys2Proof.Machine
end

