-- ==== Sys2Proof/Machine/Rx.lean ====
section
/-! DEFINITION. Receive paths (spec/03_receive_paths.md): overload, gain control, channel commits, filter banks,
SYNC and sample tags. -/

namespace Sys2Proof.Machine

/-! ### Derived figures (R74, Table 3.3) -/

/-- Quotient rounded up. -/
def ceilDiv (a b : Nat) : Nat := (a + b - 1) / b

/-- G(D): output samples from a centre sample to its emergence. -/
def gDelay (d : Nat) : Nat := 32 + ceilDiv 36 d

/-- Samples tagged INVALID after a change: G(D) + 4. -/
def invalidCount (d : Nat) : Nat := gDelay d + 4

/-- Samples tagged SETTLE after a gain step: ceil(18/D). -/
def settleCount (d : Nat) : Nat := ceilDiv 18 d

/-- The consistency test of OFS with RATIO (Table 3.4): |f_OFS| + B(D) ≤ 221.184 MHz with
B(D) = min(0.4 × 1,474.56 MHz / D, 196.608 MHz), both sides times D × 2^32, in Hz. -/
def rxOfsRatioOk (ofs ratio : Nat) : Bool :=
  decide (1 ≤ ratio) && decide (ratio ≤ 64) &&
  decide ((sgn 32 ofs).natAbs * 1474560000 * ratio + min 589824000 (196608000 * ratio) * 2 ^ 32
    ≤ 221184000 * ratio * 2 ^ 32)

/-- The consistency test of HI_THR with LO_THR (Table 3.4). -/
def rxThrOk (hi lo : Nat) : Bool := decide (hi + 12 ≤ lo)

/-! ### Commit group and chain state -/

/-- The receive chain's commit group: offsets 0x000 to 0x0FF and 0x400 to 0x5FF of UNIT block `u` (R85). -/
def rxGroup (u : Nat) : Group :=
  ⟨[regsAt (0x200000 + 0x1000 * u) (0x200100 + 0x1000 * u), regsAt (0x200400 + 0x1000 * u) (0x200600 + 0x1000 * u)]⟩

/-- Lowest offset of every failing receive pair (Table 3.4, R12), on the shadow values. -/
def rxPairFails (s : State) (u : Nat) : List Nat :=
  failAt (rxOfsRatioOk (rdSh s (Reg.UNIT_RX_NCO_OFS_OFS u)) (rdSh s (Reg.UNIT_RX_DEC_RATIO u)))
    (Reg.UNIT_RX_NCO_OFS_OFS u).off ++
  failAt (rxThrOk (rdSh s (Reg.UNIT_RX_AGC_HI_THR u)) (rdSh s (Reg.UNIT_RX_AGC_LO_THR u)))
    (Reg.UNIT_RX_AGC_HI_THR u).off

/-- The chain may leave STOP: RUN is 1, the device is not in BOOT, the unit is not held in reset (R86). -/
def rxRunOk (s : State) (u : Nat) : Bool :=
  on s (Reg.UNIT_RX_CTRL_RUN u) && modeOf s != mBoot && !unitHeld s u

/-- The chain runs and its path is not gated. -/
def rxLive (s : State) (u : Nat) : Bool :=
  !on s (Reg.UNIT_RX_STATUS_STOPPED u) && !on s (Reg.UNIT_RX_STATUS_GATED u)

/-! ### Tags (R15, R16, Table 3.5) -/

/-- Tag `n` output samples of unit `u` with `t`: the symbol keeps its highest tag (R84). -/
def markTag (s : State) (u t n : Nat) : State :=
  s.modRx u fun x => { x with tag := max x.tag t, wins := x.wins ++ [(t, n)] }

/-- The tag that a symbol of unit `u` starts with (R65, R66, R82, R192): INVALID in STOP, gated, without LO lock, in an overload or degraded, BLEND
in a cross-fade, SETTLE in a neighbour's overload. -/
def startTag (s : State) (u : Nat) : Nat :=
  if !rxLive s u || !on s (Reg.CLUSTER_LO_STATUS_LOCK (u / 8)) || on s (Reg.UNIT_RX_STATUS_OVLD_NOW u) ||
      (s.unit u).degRx then 3
  else if on s (Reg.UNIT_RX_STATUS_XFADE u) then 2
  else b2n ((unitsOf (u / 8)).any fun v => on s (Reg.UNIT_RX_STATUS_OVLD_NOW v))

/-! ### Gain index (R63, R68 to R71) -/

/-- Put gain index `i` into force: a step tags the SETTLE count of Table 3.3. -/
def setGain (s : State) (u i : Nat) : State :=
  if rd s (Reg.UNIT_RX_STATUS_GAIN_IDX u) = i then s
  else
    let s1 := wr s (Reg.UNIT_RX_STATUS_GAIN_IDX u) i
    markTag (s1.modRx u fun x => { x with idx := max x.idx i }) u 1 (settleCount (rd s (Reg.UNIT_RX_DEC_RATIO u)))

/-- The overload step (R70): the index rises by OVLD_STEP, capped at 31. -/
def overloadStep (s : State) (u : Nat) : State :=
  let i := rd s (Reg.UNIT_RX_STATUS_GAIN_IDX u)
  let s1 := s.modRx u fun x => { x with base := if x.stepped then x.base else i, stepped := true }
  setGain s1 u (min (i + atLeast1 (rd s (Reg.UNIT_RX_AGC_OVLD_STEP u))) 31)

/-- The symbol algorithm of R69 on codes of −n/2 dBFS: new index and hold count. -/
def agcAuto (hi lo stepMax holdMax peak idx hold : Nat) (ovld : Bool) : Nat × Nat :=
  let above : Int := (hi : Int) + lo - 2 * peak   -- 4 × (peak − target), dB
  if ovld then (idx, 0)
  else if peak < hi then (min (idx + min ((above + 3) / 4).toNat stepMax) 31, 0)
  else if lo < peak then
    if holdMax ≤ hold + 1 then (idx - min ((-above) / 4).toNat stepMax, 0) else (idx, hold + 1)
  else (idx, 0)

/-- The decision at a released symbol boundary (Table 3.2, R69): the symbol's overload and PEAK decide. -/
def agcDecision (s : State) (u : Nat) : State :=
  if rxLive s u then
    let x := (s.unit u).rx
    let i := rd s (Reg.UNIT_RX_STATUS_GAIN_IDX u)
    let m := rd s (Reg.UNIT_RX_GAIN_AGC_MODE u)
    if m = 0 then
      if x.stepped && x.symOvld then s
      else setGain (s.modRx u fun x => { x with stepped := false }) u (rd s (Reg.UNIT_RX_GAIN_MAN_IDX u))
    else if m = 1 then
      let r := agcAuto (rd s (Reg.UNIT_RX_AGC_HI_THR u)) (rd s (Reg.UNIT_RX_AGC_LO_THR u))
        (atLeast1 (rd s (Reg.UNIT_RX_AGC_STEP_MAX u))) (atLeast1 (rd s (Reg.UNIT_RX_AGC_HOLD_MAX u)))
        (rd s (Reg.UNIT_RX_FASTPWR_PEAK u)) i x.hold x.symOvld
      setGain (s.modRx u fun x => { x with hold := r.2 }) u r.1
    else s
  else s

/-- A committed write of AGC_MODE or MAN_IDX (Table 3.2): HOLD gives up an index raised by overload steps, MANUAL
takes MAN_IDX. DEDUCED (log 12): the index before the steps returns. -/
def gainCommitted (s : State) (u : Nat) (modeChg manChg : Bool) : State :=
  if modeChg || manChg then
    let m := rd s (Reg.UNIT_RX_GAIN_AGC_MODE u)
    let x := (s.unit u).rx
    if 2 ≤ m ∧ x.stepped then
      setGain (s.modRx u fun x => { x with stepped := false }) u x.base
    else
      let s1 := if modeChg then s.modRx u fun x => { x with stepped := false, hold := 0 } else s
      if m = 0 ∧ !(s1.unit u).rx.stepped then setGain s1 u (rd s (Reg.UNIT_RX_GAIN_MAN_IDX u)) else s1
  else s

/-! ### Commits (R73, R75, R78, R86) -/

/-- A committed change of the channel: NCO, ratio or k (Table 3.5). -/
def channelChange (s : State) (u : Nat) : State :=
  markTag s u 3 (invalidCount (rd s (Reg.UNIT_RX_DEC_RATIO u)))

/-- A committed change of BANK_SEL (R78): with a channel change, or in STOP, the bank switches at once; during a fade
the second change waits; otherwise a 64-sample cross-fade starts. -/
def bankChange (s : State) (u new : Nat) (atOnce : Bool) : State :=
  if atOnce || on s (Reg.UNIT_RX_STATUS_STOPPED u) then
    (wr (wr s (Reg.UNIT_RX_STATUS_BANK_ACT u) new) (Reg.UNIT_RX_STATUS_XFADE u) 0).modRx u fun x => { x with fadeNext := none }
  else if on s (Reg.UNIT_RX_STATUS_XFADE u) then s.modRx u fun x => { x with fadeNext := some new }
  else markTag (wr (wr s (Reg.UNIT_RX_STATUS_BANK_ACT u) new) (Reg.UNIT_RX_STATUS_XFADE u) 1) u 2 64

/-- Refresh STOPPED (R86): a chain that may not run is in STOP at once, with its fast-path values at 0xFF and its samples INVALID. -/
def rxStopCheck (s : State) (u : Nat) : State :=
  if rxRunOk s u then s
  else (wr (wr (wr (wr (wr s (Reg.UNIT_RX_STATUS_STOPPED u) 1) (Reg.UNIT_RX_FASTPWR_NOW u) 0xFF)
    (Reg.UNIT_RX_FASTPWR_PEAK u) 0xFF) (Reg.UNIT_RX_FASTPWR_MEAN u) 0xFF) (Reg.UNIT_RX_STATUS_OVLD_NOW u) 0).modRx u
    fun x => { x with tag := 3 }

/-- The receive chain's commit (R10, R86): a chain leaving STOP commits first and leaves at the first attempt whose
pair tests pass. -/
def rxCommit (s : State) (u : Nat) : State :=
  let r := commitGroup s (rxGroup u) (rxPairFails s u) (rxRunOk s u && on s (Reg.UNIT_RX_STATUS_STOPPED u))
  if r.2 then
    let s1 := r.1
    let chan := rd s (Reg.UNIT_RX_NCO_OFS_OFS u) != rd s1 (Reg.UNIT_RX_NCO_OFS_OFS u) ||
      rd s (Reg.UNIT_RX_DEC_RATIO u) != rd s1 (Reg.UNIT_RX_DEC_RATIO u)
    let s2 := if chan then channelChange s1 u else s1
    let bank := rd s1 (Reg.UNIT_RX_DEC_BANK_SEL u)
    let s3 := if rd s (Reg.UNIT_RX_DEC_BANK_SEL u) != bank then bankChange s2 u bank chan else s2
    let s4 := gainCommitted s3 u (rd s (Reg.UNIT_RX_GAIN_AGC_MODE u) != rd s1 (Reg.UNIT_RX_GAIN_AGC_MODE u))
      (rd s (Reg.UNIT_RX_GAIN_MAN_IDX u) != rd s1 (Reg.UNIT_RX_GAIN_MAN_IDX u))
    if rxRunOk s u && on s (Reg.UNIT_RX_STATUS_STOPPED u) then
      channelChange (wr s4 (Reg.UNIT_RX_STATUS_STOPPED u) 0) u
    else s4
  else r.1

/-! ### Symbol boundaries -/

/-- The symbol ends: its report (R84) for the entry that claimed it, and the fast path's values (R67), coded as n for −n/2 dBFS. -/
def rxEndSymbol (s : State) (u now peak mean : Nat) (by' : Option Nat) : State :=
  let s1 := s.modRx u fun x => { x with reps := ((s.air.sym, x.tag, x.idx, by') :: x.reps).take 256 }
  if rxLive s u then
    wr (wr (wr s1 (Reg.UNIT_RX_FASTPWR_NOW u) now) (Reg.UNIT_RX_FASTPWR_PEAK u) peak) (Reg.UNIT_RX_FASTPWR_MEAN u) mean
  else
    wr (wr (wr s1 (Reg.UNIT_RX_FASTPWR_NOW u) 0xFF) (Reg.UNIT_RX_FASTPWR_PEAK u) 0xFF) (Reg.UNIT_RX_FASTPWR_MEAN u) 0xFF

/-- Begin the next symbol's report (R84). -/
def rxNewSymbol (s : State) (u : Nat) : State :=
  s.modRx u fun x => { x with
    symOvld := on s (Reg.UNIT_RX_STATUS_OVLD_NOW u)
    tag := startTag s u
    idx := rd s (Reg.UNIT_RX_STATUS_GAIN_IDX u)
    wins := [] }

/-! ### Overload (R65, R66, R70) -/

/-- The seven other units of `u`'s cluster. -/
def neighboursOf (u : Nat) : List Nat := (unitsOf (u / 8)).filter (· != u)

/-- A neighbour's share of an overload episode (R66). -/
def neighbourOvld (s : State) (v : Nat) : State :=
  if unitEnabled s v && rxLive s v then
    markTag (bump (wr s (Reg.UNIT_RX_STATUS_NEIGH v) 1) (Reg.UNIT_RX_COUNT_NEIGH_CNT v) 1) v 1 0
  else s

/-- An over-range sample starts an overload episode (R65, R66, R70); a further one in the episode starts none. -/
def rxOverload (s : State) (u : Nat) : State :=
  if unitEnabled s u && rxLive s u && !on s (Reg.UNIT_RX_STATUS_OVLD_NOW u) then
    let s1 := stickyEvent s (Reg.UNIT_RX_STATUS_OVLD u) 0x2001 u
    let s2 := bump (wr s1 (Reg.UNIT_RX_STATUS_OVLD_NOW u) 1) (Reg.UNIT_RX_COUNT_OVLD_CNT u) 1
    let s3 := markTag (s2.modRx u fun x => { x with symOvld := true }) u 3 0
    let s4 := forEach (neighboursOf u) s3 neighbourOvld
    if chorusListens s4 u then
      -- R170: before the freeze an over-range sample raises the Chorus gain index in place of the overload step
      if rd s4 Reg.CHORUS_STATUS_STATE ≤ 2 then { s4 with chorus := { s4.chorus with idx := min (s4.chorus.idx + 6) 31 } } else s4
    else if on s4 (Reg.UNIT_RX_GAIN_OVLD_EN u) then overloadStep s4 u else s4
  else s

/-- Over-range samples persist 64 ADC clocks after a step (R70). -/
def ovldRepeat (s : State) (u : Nat) : State :=
  if unitEnabled s u && on s (Reg.UNIT_RX_STATUS_OVLD_NOW u) && !chorusListens s u then
    if rd s (Reg.UNIT_RX_STATUS_GAIN_IDX u) = 31 then
      stickyEvent s (Reg.UNIT_RX_STATUS_AGC_FLOOR u) 0x2002 u
    else if on s (Reg.UNIT_RX_GAIN_OVLD_EN u) then overloadStep s u else s
  else s

/-! ### SYNC (R79, R80) -/

/-- The realignment of unit `u`'s receive chain; `slip` says that a phase was not at its target. -/
def rxRealign (s : State) (u : Nat) (slip : Bool) : State :=
  if on s (Reg.UNIT_RX_CTRL_SYNC_EN u) then
    let s1 := wr s (Reg.UNIT_RX_STATUS_SYNC_SEEN u) 1
    if slip then channelChange (raise (wr s1 (Reg.UNIT_RX_STATUS_SYNC_SLIP u) 1) 0x2004 0) u else s1
  else s

/-! ### Filter coefficients (R77) -/

/-- The register of coefficient `k` of bank A (0) or B (1). -/
def coefFld (u bank k : Nat) : Fld :=
  if bank = 0 then Reg.UNIT_RX_COEFA_COEF u k else Reg.UNIT_RX_COEFB_COEF u k

/-- A coefficient write: made in STOP, and to the bank not selected outside a cross-fade; otherwise not made and
recorded. -/
def coefWrite (s : State) (u bank k v : Nat) : State :=
  if on s (Reg.UNIT_RX_STATUS_STOPPED u) ||
      (!on s (Reg.UNIT_RX_STATUS_XFADE u) && rd s (Reg.UNIT_RX_STATUS_BANK_ACT u) != bank) then
    wr s (coefFld u bank k) v
  else cfgIgnored s (coefFld u bank k).off

/-! ### The commands' meanings -/

/-- RX_OVLD (R65). -/
def execRxOvld (u : Fin 128) (s : State) : Host.Outcome State Fault Refusal := .next (rxOverload s u)

/-- OVLD_STEP_REPEAT (R70). -/
def execOvldStepRepeat (u : Fin 128) (s : State) : Host.Outcome State Fault Refusal := .next (ovldRepeat s u)

/-- RX_OVLD_RECOVER (R65): 24 ADC clocks after the last over-range sample the ADC is clean. -/
def execRxOvldRecover (u : Fin 128) (s : State) : Host.Outcome State Fault Refusal :=
  .next (wr s (Reg.UNIT_RX_STATUS_OVLD_NOW u) 0)

/-- RX_COMMIT (R86): an explicit commit while no boundaries are released, ignored otherwise. -/
def execRxCommit (u : Fin 128) (s : State) : Host.Outcome State Fault Refusal :=
  .next (if unitEnabled s u && !releasing s then rxCommit s u else s)

/-- RX_COEF_WRITE (R77). -/
def execRxCoefWrite (u : Fin 128) (bank : Fin 2) (k : Fin 33) (v : BitVec 18) (s : State) :
    Host.Outcome State Fault Refusal :=
  .next (if unitEnabled s u then coefWrite s u bank k v.toNat else s)

/-- XFADE_END (R78): the fade ends; a bank change that waited starts its own fade. -/
def execXfadeEnd (u : Fin 128) (s : State) : Host.Outcome State Fault Refusal :=
  .next (if on s (Reg.UNIT_RX_STATUS_XFADE u) then
    match (s.unit u).rx.fadeNext with
    | none => wr s (Reg.UNIT_RX_STATUS_XFADE u) 0
    | some b => markTag ((wr s (Reg.UNIT_RX_STATUS_BANK_ACT u) b).modRx u fun x => { x with fadeNext := none }) u 2 64
  else s)

end Sys2Proof.Machine
end

