-- ==== Sys2Proof/Machine/Tx.lean ====
section
/-! DEFINITION. Transmit paths (spec/04_transmit_paths.md): backoff, mutes, the pre-distortion table store, the moult and
its checks, observation receivers, adaptation and training. -/

namespace Sys2Proof.Machine

/-! ### Pairs, latency and backoff (R87 to R90, Table 4.3) -/

/-- The first pair of Table 4.3, in Hz and both sides times I × 2^32. -/
def txPairOk (ofs ratio pre cfr dpd : Nat) : Bool :=
  decide (1 ≤ ratio) && decide (ratio ≤ 64) && decide (1 ≤ pre) && decide (pre ≤ 3) && decide (ratio % pre = 0) &&
  (decide (2 * pre ≤ ratio) || (cfr == 0 && dpd == 0)) &&
  decide ((sgn 32 ofs).natAbs * 1474560000 * ratio + min 1179648000 (196608000 * ratio) * 2 ^ 32
    ≤ 221184000 * ratio * 2 ^ 32)

/-- Transmit latency in DAC clocks (R88). -/
def txLat (i p : Nat) : Nat := 80 * i + 60 * (i / p) + 66

def txGroup (u : Nat) : Group :=
  ⟨[regsAt (0x200100 + 0x1000 * u) (0x200200 + 0x1000 * u)]⟩

/-- UNIT_DPD_CFG and UNIT_DPD_NB, whose commit event is the moult (R94). -/
def dpdGroup (u : Nat) : Group :=
  ⟨[regsAt (0x200208 + 0x1000 * u) (0x200210 + 0x1000 * u)]⟩

def txPairFails (s : State) (u : Nat) : List Nat :=
  failAt (txPairOk (rdSh s (Reg.UNIT_TX_NCO_OFS_OFS u)) (rdSh s (Reg.UNIT_TX_INTERP_RATIO u))
      (rdSh s (Reg.UNIT_TX_INTERP_PRE u)) (rdSh s (Reg.UNIT_TX_CTRL_CFR_EN u)) (rdSh s (Reg.UNIT_TX_CTRL_DPD_EN u)))
    (Reg.UNIT_TX_CTRL_CFR_EN u).off

/-- The unit has a table, or needs none (R111). -/
def hasTable (s : State) (u : Nat) : Bool :=
  on s (Reg.UNIT_DPD_STATUS_ACT_VALID u) || !on s (Reg.UNIT_TX_CTRL_DPD_EN u)

/-- The unit runs in bypass for lack of a table (R101). -/
def inBypass (s : State) (u : Nat) : Bool := !hasTable s u && on s (Reg.UNIT_TX_CTRL_NOTBL_MODE u)

/-- The training step's backoff code: 10, 8, 6, 4, 2 and 0 dB (R106). -/
def trainCode (step : Nat) : Nat := 20 - 4 * step

/-- The part of B that the host cannot lower (R89), 0.5 dB per LSB. -/
def enforcedB (s : State) (u : Nat) : Nat :=
  (if 3 ≤ stageOf s then 6 else 0) + (if 2 ≤ rd s Reg.THERM_STATUS_STEP then 6 else 0) +
  (match (s.unit u).tx.train with | some t => trainCode t.step | none => 0) +
  rd s (Reg.UNIT_DPD_STATUS_TRAIN_BACKOFF u) +
  (if inBypass s u then rd s (Reg.UNIT_TX_CTRL_NOTBL_BACKOFF u) else 0)

/-- Put the total backoff into force (R89): the sum, capped at 63.5 dB. -/
def updateBackoff (s : State) (u : Nat) : State :=
  (wr s (Reg.UNIT_TX_STATUS_ENF_BACKOFF u) (min (enforcedB s u) 127)).modTx u fun x =>
    { x with b := min (rd s (Reg.UNIT_TX_LEVEL_BACKOFF u) + enforcedB s u) 127 }

/-! ### Mutes (R112, Table 4.8) -/

def txRunOk (s : State) (u : Nat) : Bool :=
  on s (Reg.UNIT_TX_CTRL_RUN u) && modeOf s != mBoot && !unitHeld s u

/-- Hold mute cause `b` at once: the attenuator goes to 0x3F (R90, R112). -/
def holdCause (s : State) (u b : Nat) : State :=
  let s1 := wr s (Reg.UNIT_TX_STATUS_MUTE_CAUSE u) (setBit (rd s (Reg.UNIT_TX_STATUS_MUTE_CAUSE u)) b)
  (wr s1 (Reg.UNIT_TX_STATUS_MUTED u) 1).modTx u fun x => { x with att := 63, txNow := false }

/-- Drop mute cause `b`; the unit unmutes at a symbol boundary only (R112). -/
def dropCause (s : State) (u b : Nat) : State :=
  wr s (Reg.UNIT_TX_STATUS_MUTE_CAUSE u) (clrBit (rd s (Reg.UNIT_TX_STATUS_MUTE_CAUSE u)) b)

/-- Hold or drop cause `b` by `c`. -/
def setCause (s : State) (u b : Nat) (c : Bool) : State := if c then holdCause s u b else dropCause s u b

def causeHeld (s : State) (u b : Nat) : Bool := bit (rd s (Reg.UNIT_TX_STATUS_MUTE_CAUSE u)) b

/-- The boundary causes of Table 4.8 at a boundary of unit `u`: `slot` at a slot boundary, `sched` when a claim of kind TX
starts or goes on there. -/
def boundaryCauses (s : State) (u : Nat) (slot sched : Bool) : State :=
  let s0 := if !on s (Reg.UNIT_TX_STATUS_STOPPED u) && sched then dropCause s u 0 else s
  let s1 := setCause s0 u 1 (on s0 (Reg.UNIT_TX_CTRL_MUTE u))
  let s2 := if hasTable s1 u || on s1 (Reg.UNIT_TX_CTRL_NOTBL_MODE u) then dropCause s1 u 2
            else if sched then holdCause s1 u 2 else s1
  let s3 := if on s2 (Reg.CLUSTER_LO_STATUS_LOCK (u / 8)) then dropCause s2 u 3 else s2
  let s4 := setCause s3 u 4 (s3.unit u).quiesce
  let s5 := setCause s4 u 5 (s4.unit u).degTx
  let s6 := if slot then setCause s5 u 6 s5.link.upLost else s5
  let active := modeOf s6 == mServe || modeOf s6 == mDiag
  let s7 := if active || (s6.unit u).tx.train.isSome then (if sched then dropCause s6 u 9 else s6)
            else if slot then holdCause s6 u 9 else s6
  if rd s7 (Reg.UNIT_TX_STATUS_MUTE_CAUSE u) = 0 then
    (wr s7 (Reg.UNIT_TX_STATUS_MUTED u) 0).modTx u fun x => { x with att := rd s7 (Reg.UNIT_TX_LEVEL_ATT u) }
  else s7

/-- A chain that may not run is in STOP at once, with mute cause 0 (R113, Table 4.8). -/
def txStopCheck (s : State) (u : Nat) : State :=
  if txRunOk s u then s else holdCause (wr s (Reg.UNIT_TX_STATUS_STOPPED u) 1) u 0

/-! ### Commit (R113) -/

def txCommit (s : State) (u : Nat) : State :=
  let r := commitGroup s (txGroup u) (txPairFails s u) (txRunOk s u && on s (Reg.UNIT_TX_STATUS_STOPPED u))
  if r.2 then
    let s1 := wr r.1 (Reg.UNIT_TX_LAT_LAT u)
      (txLat (rd r.1 (Reg.UNIT_TX_INTERP_RATIO u)) (rd r.1 (Reg.UNIT_TX_INTERP_PRE u)))
    if txRunOk s1 u then wr s1 (Reg.UNIT_TX_STATUS_STOPPED u) 0 else s1
  else r.1

/-! ### Neighbours (R94, R95) -/

def nbUnit (s : State) (u k : Nat) : Nat :=
  match k with
  | 0 => rd s (Reg.UNIT_DPD_NB_UNIT_0 u)
  | 1 => rd s (Reg.UNIT_DPD_NB_UNIT_1 u)
  | 2 => rd s (Reg.UNIT_DPD_NB_UNIT_2 u)
  | _ => rd s (Reg.UNIT_DPD_NB_UNIT_3 u)

def nbValid (s : State) (u k : Nat) : Bool :=
  match k with
  | 0 => on s (Reg.UNIT_DPD_NB_VALID_0 u)
  | 1 => on s (Reg.UNIT_DPD_NB_VALID_1 u)
  | 2 => on s (Reg.UNIT_DPD_NB_VALID_2 u)
  | _ => on s (Reg.UNIT_DPD_NB_VALID_3 u)

/-- The ratios I and P of two units agree. -/
def sameRatios (s : State) (u v : Nat) : Bool :=
  rd s (Reg.UNIT_TX_INTERP_RATIO u) == rd s (Reg.UNIT_TX_INTERP_RATIO v) &&
  rd s (Reg.UNIT_TX_INTERP_PRE u) == rd s (Reg.UNIT_TX_INTERP_PRE v)

/-- NB_LIVE and NB_MISMATCH of unit `u` (R95). -/
def updateNbLive (s : State) (u : Nat) : State :=
  let live := fun k => nbValid s u k && (s.unit (nbUnit s u k)).tx.txNow && sameRatios s u (nbUnit s u k)
  let mism := fun k => nbValid s u k && !sameRatios s u (nbUnit s u k)
  let v := b2n (live 0) + 2 * b2n (live 1) + 4 * b2n (live 2) + 8 * b2n (live 3)
  wr (wr s (Reg.UNIT_DPD_STATUS_NB_LIVE u) v) (Reg.UNIT_TX_STATUS_NB_MISMATCH u)
    (b2n (mism 0 || mism 1 || mism 2 || mism 3))

/-- The units of `u`'s region. -/
def regionUnits (u : Nat) : List Nat := (List.range 16).map (16 * (u / 16) + ·)

/-- TXON falls when no unit of the cluster transmits any longer (R128). -/
def txonCheck (s : State) (c : Nat) : State :=
  if (unitsOf c).any fun v => (s.unit v).tx.txNow then s else wr s (Reg.CLUSTER_STROBE_TXON_NOW c) 0

/-- An immediate mute of unit `u` (R112): its neighbours zero its cross-terms at once (R95). -/
def immediateMute (s : State) (u b : Nat) : State :=
  txonCheck (forEach (regionUnits u) (holdCause s u b) updateNbLive) (u / 8)

/-! ### The pre-distortion table (R96, R97, R99) -/

/-- Words of a table. -/
def tblWords : Nat := 973

def tblWord (t : Tbl Nat) (w : Nat) : Nat := t.get w 0

/-- Byte `i` of a table: byte 4w in bits [31:24] of word w (R96). -/
def tblByte (t : Tbl Nat) (i : Nat) : Nat := bits (tblWord t (i / 4)) (8 * (3 - i % 4)) 8

/-- Big-endian field of `n` bytes at byte `i`. -/
def tblBE (t : Tbl Nat) (i n : Nat) : Nat := (List.range n).foldl (fun a j => a * 256 + tblByte t (i + j)) 0

/-- Entry `k` of term `t`: real and imaginary part, Q2.14 (R97). -/
def lutEntry (tb : Tbl Nat) (t k : Nat) : Int × Int :=
  let w := tblWord tb (12 + 48 * t + k)
  (sgn 16 (bits w 16 16), sgn 16 (bits w 0 16))

/-- LUT_t(A) times 64, exactly (R97). -/
def lutAt64 (tb : Tbl Nat) (t a : Nat) : Int × Int :=
  let e0 := lutEntry tb t (a / 64)
  let e1 := lutEntry tb t (a / 64 + 1)
  let f : Int := (a % 64 : Nat)
  (64 * e0.1 + (e1.1 - e0.1) * f, 64 * e0.2 + (e1.2 - e0.2) * f)

/-- |G(A)|² × 2^40: the squared static gain of the self terms at envelope A (R99). -/
def gain2 (tb : Tbl Nat) (a : Nat) : Nat :=
  let g := (List.range (tblByte tb 4)).foldl (fun (z : Int × Int) t =>
    let l := lutAt64 tb t a; (z.1 + l.1, z.2 + l.2)) (0, 0)
  (g.1 * g.1 + g.2 * g.2).toNat

/-- m/2 ≤ A_L = 2047 × 10^(−THR/200) (R91). -/
def belowLimit (thr m : Nat) : Bool := decide (m ^ 200 * 10 ^ thr ≤ (2 * 2047) ^ 200)

/-- The largest m with m/2 ≤ A_L, by bits from the top. -/
def limitHalves (thr : Nat) : Nat :=
  [2048, 1024, 512, 256, 128, 64, 32, 16, 8, 4, 2, 1].foldl
    (fun m b => if belowLimit thr (m + b) then m + b else m) 0

/-- The largest whole envelope not above A_L, and A_L rounded to the nearest whole envelope. -/
def limitFloor (thr : Nat) : Nat := limitHalves thr / 2
def limitRound (thr : Nat) : Nat := (limitHalves thr + 1) / 2

/-- |G|² lies within ±2 dB: (a/b)^5 between 1/10 and 10. -/
def within2dB (a b : Nat) : Bool := decide (a ^ 5 ≤ 10 * b ^ 5) && decide (b ^ 5 ≤ 10 * a ^ 5)

/-- The neighbour slots of a unit name units of its region, not itself, none twice (Table 4.3), on the shadow values. -/
def nbShadow (s : State) (u : Nat) : List (Nat × Bool) :=
  [(rdSh s (Reg.UNIT_DPD_NB_UNIT_0 u), rdSh s (Reg.UNIT_DPD_NB_VALID_0 u) == 1),
   (rdSh s (Reg.UNIT_DPD_NB_UNIT_1 u), rdSh s (Reg.UNIT_DPD_NB_VALID_1 u) == 1),
   (rdSh s (Reg.UNIT_DPD_NB_UNIT_2 u), rdSh s (Reg.UNIT_DPD_NB_VALID_2 u) == 1),
   (rdSh s (Reg.UNIT_DPD_NB_UNIT_3 u), rdSh s (Reg.UNIT_DPD_NB_VALID_3 u) == 1)]

/-- The second pair of Table 4.3. -/
def dpdPairOk (u : Nat) (nb : List (Nat × Bool)) (selfCnt xtCnt : Nat) : Bool :=
  let v := (nb.filter (·.2)).map (·.1)
  v.all (fun w => w != u && w / 16 == u / 16) && decide v.Nodup && decide (xtCnt ≤ 2 * v.length) &&
  decide (1 ≤ selfCnt) && decide (selfCnt ≤ 12)

/-- The slot bytes of UNIT_DPD_NB, slot 0 first. -/
def nbBytes (nb : List (Nat × Bool)) : List Nat := nb.map fun x => x.1 + 128 * b2n x.2

/-- The order cap in force (R104). -/
def orderCap (s : State) (g : Nat) : Nat :=
  let c := atLeast1 (rd s (Reg.REGION_ADAPT_ORDER_CAP g))
  if on s (Reg.REGION_ADAPT_STATUS_ORDER_REDUCED g) then min c 5 else c

/-- The header of the shadow table matches the shadow values of UNIT_DPD_CFG and UNIT_DPD_NB (Table 4.5, 0x3). -/
def headerMatches (s : State) (u : Nat) : Bool :=
  let t := (s.unit u).tx.shd
  tblByte t 4 == rdSh s (Reg.UNIT_DPD_CFG_SELF_CNT u) && tblByte t 5 == rdSh s (Reg.UNIT_DPD_CFG_XT_CNT u) &&
  (List.range 4).map (fun k => tblByte t (28 + k)) == nbBytes (nbShadow s u)

/-- The first failed check of Table 4.5, or 0. -/
def moultCheck (s : State) (u : Nat) : Nat :=
  let t := (s.unit u).tx.shd
  let thr := rd s (Reg.UNIT_CFR_CTRL_THR u)
  let selfC := tblByte t 4
  let xtC := tblByte t 5
  let cap := limitRound thr
  if !(tblBE t 0 2 == 0x4450 && tblByte t 2 == 1 && tblByte t 3 == u) then 1
  else if tblBE t 3888 4 != crc32 ((List.range 3888).map (tblByte t)) then 2
  else if !headerMatches s u then 3
  else if !dpdPairOk u (nbShadow s u) (rdSh s (Reg.UNIT_DPD_CFG_SELF_CNT u)) (rdSh s (Reg.UNIT_DPD_CFG_XT_CNT u)) then 4
  else if !((List.range 12).all (fun i => (tblByte t (8 + i)) &&& 0x88 == 0) &&
      (List.range xtC).all (fun i => bit (tblByte t (28 + tblByte t (20 + i) / 64)) 7)) then 5
  else if !((List.range (12 - selfC)).all (fun i => (List.range 48).all fun k => tblWord t (12 + 48 * (selfC + i) + k) == 0) &&
      (List.range (8 - xtC)).all (fun i => (List.range 48).all fun k => tblWord t (12 + 48 * (12 + xtC + i) + k) == 0) &&
      tblWord t 10 == 0 && tblWord t 11 == 0) then 6
  else if !(decide (1 ≤ tblByte t 6) && decide (tblByte t 6 ≤ orderCap s (u / 16))) then 7
  else if !(decide (708 ^ 2 * 2 ^ 40 ≤ gain2 t 0 * 1000000) && decide (gain2 t 0 * 1000000 ≤ 1413 ^ 2 * 2 ^ 40)) then 8
  else if !((List.range (limitFloor thr + 1)).all fun a => decide (gain2 t a ≤ 4 * 2 ^ 40)) then 9
  else if on s (Reg.UNIT_DPD_STATUS_ACT_VALID u) && !within2dB (gain2 t cap) (gain2 (s.unit u).tx.actv cap) then 10
  else 0

/-- A failed check (R99, R94): SHD_PEND clears and the failure is recorded; the active table stays. -/
def moultFail (s : State) (u fc : Nat) : State :=
  let s1 := wr (wr (wr s (Reg.UNIT_DPD_STATUS_SHD_PEND u) 0) (Reg.UNIT_DPD_STATUS_MOULT_FAIL u) 1)
    (Reg.UNIT_DPD_STATUS_FAIL_CODE u) fc
  let s2 := s1.modTx u fun x => { x with checked := false }
  let s3 := if fc = 4 then refuseCommit s2 (dpdGroup u) [(Reg.UNIT_DPD_CFG_SELF_CNT u).off] else s2
  raise s3 0x2011 0

/-- The checks end (R99). -/
def checksDone (s : State) (u : Nat) : State :=
  if on s (Reg.UNIT_DPD_STATUS_SHD_PEND u) && !(s.unit u).tx.checked then
    if moultCheck s u = 0 then s.modTx u fun x => { x with checked := true } else moultFail s u (moultCheck s u)
  else s

/-- A write of 1 to SHADOW_READY starts or restarts the checks (R99, R100). -/
def shadowReady (s : State) (u : Nat) : State :=
  (wr s (Reg.UNIT_DPD_STATUS_SHD_PEND u) 1).modTx u fun x => { x with checked := false }

/-- The shadow table becomes active with UNIT_DPD_NB and UNIT_DPD_CFG (R99), and is archived (R303). -/
def doMoult (s : State) (u : Nat) : State :=
  let t := (s.unit u).tx.shd
  let s1 := (commitGroup s (dpdGroup u) []).1.modTx u fun x => { x with actv := t, checked := false, noTbl := false }
  let s2 := wr (wr s1 (Reg.UNIT_DPD_STATUS_ACT_VALID u) 1) (Reg.UNIT_DPD_STATUS_SHD_PEND u) 0
  let s3 := wr (bump s2 (Reg.UNIT_DPD_STATUS_MOULT_CNT u) 1) (Reg.UNIT_DPD_STATUS_ORDER_ACT u) (tblByte t 6)
  archiveTable (wr (wr (wr s3 (Reg.UNIT_DPD_SEQ_SEQ u) (tblBE t 32 4)) (Reg.UNIT_DPD_FIT_TEMP u) (tblBE t 36 2))
    (Reg.UNIT_DPD_FIT_NMSE u) (tblBE t 38 2)) u t

/-- The moult at a boundary released to the cluster (R99): a checked shadow, MOULT_HOLD 0, and a header that still
matches; a header that matches no longer fails as check 0x3. -/
def moultAt (s : State) (u : Nat) : State :=
  if on s (Reg.UNIT_DPD_STATUS_SHD_PEND u) && (s.unit u).tx.checked && !on s (Reg.UNIT_DPD_CTRL_MOULT_HOLD u) then
    if headerMatches s u then doMoult s u else moultFail s u 3
  else s

/-! ### The table store (R98) -/

def wordAdvance (s : State) (u : Nat) : State :=
  if on s (Reg.UNIT_DPD_TBL_ADDR_AUTO_INC u) then
    let w := rd s (Reg.UNIT_DPD_TBL_ADDR_WORD u)
    wr s (Reg.UNIT_DPD_TBL_ADDR_WORD u) (if w = 972 then 0 else w + 1)
  else s

/-- The word a read of UNIT_DPD_TBL_DATA returns. -/
def tblDataValue (s : State) (u : Nat) : Nat :=
  let w := rd s (Reg.UNIT_DPD_TBL_ADDR_WORD u)
  if 972 < w then 0
  else if on s (Reg.UNIT_DPD_TBL_ADDR_SET u) then tblWord (s.unit u).tx.actv w else tblWord (s.unit u).tx.shd w

/-- Write a word of the shadow table: SHD_PEND clears. -/
def shdWrite (s : State) (u w v : Nat) : State :=
  (wr s (Reg.UNIT_DPD_STATUS_SHD_PEND u) 0).modTx u fun x => { x with shd := x.shd.set w 0 (v % 2 ^ 32), checked := false }

/-- A write to UNIT_DPD_TBL_DATA: the active table is read-only, and the shadow belongs to the Newt firmware while
ADAPT_EN is 1; then a host write is not made and is recorded. -/
def tblDataWrite (s : State) (u v : Nat) (firmware : Bool) : State :=
  let w := rd s (Reg.UNIT_DPD_TBL_ADDR_WORD u)
  wordAdvance
    (if 972 < w || on s (Reg.UNIT_DPD_TBL_ADDR_SET u) then s
     else if !firmware && on s (Reg.UNIT_DPD_CTRL_ADAPT_EN u) then cfgIgnored s (Reg.UNIT_DPD_TBL_DATA_DATA u).off
     else shdWrite s u w v) u

/-- Load a whole table into the shadow and set SHADOW_READY. -/
def loadShadow (s : State) (u : Nat) (words : List Nat) : State :=
  let t := (words.zipIdx).foldl (fun (t : Tbl Nat) x => t.set x.2 0 (x.1 % 2 ^ 32)) []
  shadowReady (s.modTx u fun x => { x with shd := t }) u

/-! ### Symbols with no table (R101) -/

/-- A symbol scheduled for a unit without a table. -/
def noTable (s : State) (u : Nat) : State :=
  if hasTable s u then s
  else
    let s1 := bump (wr s (Reg.UNIT_TX_STATUS_TBL_NOT_READY u) 1) (Reg.UNIT_TX_COUNT_NOTBL_CNT u) 1
    if (s1.unit u).tx.noTbl then s1 else raise (s1.modTx u fun x => { x with noTbl := true }) 0x2010 0

/-! ### Observation receivers (R102) -/

def orxMode (s : State) (c : Nat) : Nat :=
  if c % 2 = 0 then rd s (Reg.REGION_ORX_CTRL_MODE_A (c / 2)) else rd s (Reg.REGION_ORX_CTRL_MODE_B (c / 2))
def orxFix (s : State) (c : Nat) : Nat :=
  if c % 2 = 0 then rd s (Reg.REGION_ORX_CTRL_FIX_POS_A (c / 2)) else rd s (Reg.REGION_ORX_CTRL_FIX_POS_B (c / 2))
def orxPosFld (c : Nat) : Fld :=
  if c % 2 = 0 then Reg.REGION_ORX_STATUS_POS_A (c / 2) else Reg.REGION_ORX_STATUS_POS_B (c / 2)
def orxOvldFld (c : Nat) : Fld :=
  if c % 2 = 0 then Reg.REGION_ORX_STATUS_OVLD_A (c / 2) else Reg.REGION_ORX_STATUS_OVLD_B (c / 2)

/-- The H fields of REGION_ORX_CTRL that serve cluster `c`: byte c mod 2 (R113). -/
def orxGroup (c : Nat) : Group :=
  let k := (0x300010 + 0x10000 * (c / 2)) * 32 + 8 * (c % 2)
  ⟨[(k, k + 8)]⟩

/-- The switch position of cluster `c` for the new symbol: calibration in TRIM, FIXED, background calibration, then
the adaptation requests in order. -/
def orxSwitch (s : State) (c : Nat) : State :=
  let x := s.cluster c
  let pos := fun p => wr s (orxPosFld c) p
  if modeOf s = mTrim ∧ x.calPos.isSome then pos (x.calPos.getD 0)
  else if orxMode s c = 1 then pos (orxFix s c)
  else if orxMode s c = 2 then s
  else match x.calPos with
    | some p => pos p
    | none => match x.orxReq with
      | u :: _ => pos (u % 8)
      | [] => s

/-! ### Adaptation (R103, R104) -/

/-- Adaptation of unit `u` is stopped (Table 4.6), or its cluster's ORX has struck out (R191). -/
def adaptStopped (s : State) (u : Nat) : Bool :=
  on s (Reg.REGION_ADAPT_STATUS_FROZEN_S2 (u / 16)) || on s (Reg.REGION_ADAPT_STATUS_FROZEN_THERM (u / 16)) ||
  on s (Reg.REGION_ADAPT_STATUS_FROZEN_RESET (u / 16)) || !on s (Reg.UNIT_DPD_CTRL_ADAPT_EN u) ||
  on s (Reg.CLUSTER_CAL_STATUS_ORX_FAIL (u / 8))

/-- The period expires: captures are requested of a transmitting unit (R103), in the order of requests (R102). -/
def adaptPeriod (s : State) (u : Nat) : State :=
  if unitEnabled s u && !adaptStopped s u && (s.unit u).tx.txNow && (s.unit u).tx.adapt == .idle then
    (s.modTx u fun x => { x with adapt := .capturing (atLeast1 (rd s (Reg.REGION_ADAPT_CAPS (u / 16)))) }).modCluster (u / 8)
      fun x => { x with orxReq := x.orxReq ++ [u] }
  else s

/-- One capture is written (R300), or discarded for an over-range sample (R102). -/
def adaptCapture (s : State) (u : Nat) (ovr : Bool) : State :=
  match (s.unit u).tx.adapt with
  | .capturing n =>
    if ovr then
      raiseIf (rd s (orxOvldFld (u / 8)) == 0) (bump s (orxOvldFld (u / 8)) 1) 0x2015 0
    else if 1 < n then s.modTx u fun x => { x with adapt := .capturing (n - 1) }
    else (s.modTx u fun x => { x with adapt := .fitting }).modCluster (u / 8)
      fun x => { x with orxReq := x.orxReq.filter (· != u) }
  | _ => s

/-- A fit is good enough (R103): its NMSE is better than the target −NMSE_TARGET/2 dB, or more than 1 dB better than
the active table's. NMSE is signed, 0.01 dB per LSB. -/
def fitGood (s : State) (u : Nat) (nmse : Int) : Bool :=
  decide (nmse < -(50 * (rd s (Reg.REGION_ADAPT_NMSE_TARGET (u / 16)) : Int))) ||
  (on s (Reg.UNIT_DPD_STATUS_ACT_VALID u) && decide (nmse + 100 < rdI s (Reg.UNIT_DPD_FIT_NMSE u)))

/-- A fit ends (R103): counted, and a good one is written to the shadow with SHADOW_READY. A fit of a region whose
adaptation has stopped is discarded (Table 4.6). -/
def adaptFit (s : State) (u : Nat) (nmse : Int) (words : List Nat) : State :=
  if (s.unit u).tx.adapt == .fitting then
    let s1 := s.modTx u fun x => { x with
      adapt := .idle, train := x.train.map fun t => { t with cycles := t.cycles + 1 } }
    if adaptStopped s u then s1
    else
      let s2 := bump s1 (Reg.REGION_ADAPT_STATUS_FIT_CNT (u / 16)) 1
      if fitGood s u nmse then loadShadow s2 u words else s2
  else s

/-! ### SYNC (R109) -/

/-- The realignment of unit `u`'s transmit chain. -/
def txRealign (s : State) (u : Nat) (slip : Bool) : State :=
  if on s (Reg.UNIT_TX_CTRL_SYNC_EN u) && slip then
    raise ((wr s (Reg.UNIT_TX_STATUS_TX_SYNC_SLIP u) 1).modTx u fun x => { x with slipZero := true }) 0x2016 0
  else s

/-! ### Converter saturation and crest reduction counts (R91, R110) -/

/-- A symbol's counts: saturated output, peaks left uncancelled, samples hard-clipped. -/
def txEndSymbol (s : State) (u : Nat) (clip : Bool) (skip hard : Nat) : State :=
  let s1 := bump (bump s (Reg.UNIT_CFR_COUNT_PEAK_SKIP u) skip) (Reg.UNIT_CFR_COUNT_HARD_CNT u) hard
  if clip then bump (stickyEvent s1 (Reg.UNIT_TX_STATUS_DAC_CLIP u) 0x2014 0) (Reg.UNIT_TX_COUNT_CLIP_CNT u) 1 else s1

/-! ### The commands' meanings -/

/-- TX_COMMIT (R113). -/
def execTxCommit (u : Fin 128) (s : State) : Host.Outcome State Fault Refusal :=
  .next (if unitEnabled s u && !releasing s then txCommit s u else s)

/-- CFR_PULSE_READY (R92). -/
def execCfrPulseReady (s : State) : Host.Outcome State Fault Refusal :=
  .next { s with air := { s.air with pulse := true } }

/-- SHADOW_READY (R99). -/
def execShadowReady (u : Fin 128) (s : State) : Host.Outcome State Fault Refusal :=
  .next (if unitEnabled s u then shadowReady s u else s)

/-- DPD_CHECKS_DONE (R99). -/
def execDpdChecksDone (u : Fin 128) (s : State) : Host.Outcome State Fault Refusal := .next (checksDone s u)

/-- DPD_TBL_DATA_ACCESS (R98): a read (`none`; its value is `tblDataValue`) or a write of the selected word. -/
def execDpdTblDataAccess (u : Fin 128) (w : Option Word) (firmware : Bool) (s : State) :
    Host.Outcome State Fault Refusal :=
  .next (if unitEnabled s u then
    match w with
    | some v => tblDataWrite s u v.toNat firmware
    | none => wordAdvance s u
  else s)

/-- ADAPT_PERIOD (R103). -/
def execAdaptPeriod (u : Fin 128) (s : State) : Host.Outcome State Fault Refusal := .next (adaptPeriod s u)

/-- ADAPT_CAPTURE_DONE (R300): while the host holds channel 15 the request waits (R219, R286). -/
def execAdaptCaptureDone (u : Fin 128) (ovr : Bool) (s : State) : Host.Outcome State Fault Refusal :=
  .next (if rd s (Reg.CAP_CH_STATUS_STATE 15) = 0 then adaptCapture s u ovr else s)

/-- ADAPT_FIT_DONE (R103). -/
def execAdaptFitDone (u : Fin 128) (nmse : BitVec 16) (table : List Word) (s : State) :
    Host.Outcome State Fault Refusal :=
  .next (adaptFit s u nmse.toInt (table.map BitVec.toNat))

end Sys2Proof.Machine
end

