-- ==== Sys2Proof/Machine/Lo.lean ====
section
/-! DEFINITION. Cluster synthesisers (spec/05_synthesisers_and_air_timing.md, R114 to R119): stored calibrations, the LO
states of Table 5.2, and cluster commits. -/

namespace Sys2Proof.Machine

/-- LO states of Table 5.2. -/
def loOff : Nat := 0
def loLocking : Nat := 1
def loCal : Nat := 2
def loLocked : Nat := 3
def loFailed : Nat := 4

def loState (s : State) (c : Nat) : Nat := rd s (Reg.CLUSTER_LO_STATUS_STATE c)

/-- The mode uses the LOs (Table 5.2). -/
def loMode (m : Nat) : Bool := m == mTrim || m == mServe || m == mDiag

/-- Put the LO into state `st`; LOCK shows LOCKED. -/
def setLo (s : State) (c st : Nat) : State :=
  wr (wr s (Reg.CLUSTER_LO_STATUS_STATE c) st) (Reg.CLUSTER_LO_STATUS_LOCK c) (b2n (st == loLocked))

/-- Distance of stored entry `e` from `f`, 10 Hz units. -/
def loDist (s : State) (c e f : Nat) : Nat :=
  ((rd s (Reg.CLUSTER_LO_CAL0_FREQ c e) : Int) - f).natAbs

/-- Entry `e` is valid and within ±5 MHz of `f`. -/
def loNear (s : State) (c e f : Nat) : Bool :=
  on s (Reg.CLUSTER_LO_CAL1_VALID c e) && decide (loDist s c e f ≤ 500000)

/-- Entry `e` matches a lock request at `f` (R117): near, and its TEMP within ±10 °C of the cluster's. -/
def loMatches (s : State) (c e f : Nat) : Bool :=
  loNear s c e f && decide ((rdI s (Reg.CLUSTER_LO_CAL1_TEMP c e) - clusterTemp s c).natAbs ≤ 10)

/-- The nearest of the entries that satisfy `p`, the lowest-numbered of equally near ones. -/
def loNearest (s : State) (c f : Nat) (p : Nat → Bool) : Option Nat :=
  (List.range 64).foldl (fun best e =>
    if p e then
      match best with
      | some b => if loDist s c e f < loDist s c b f then some e else best
      | none => some e
    else best) none

/-- The entry that a full calibration at `f` writes (R117): near; else the lowest-numbered not valid; else the least
recently used without PIN. -/
def loStoreEntry (s : State) (c f : Nat) : Option Nat :=
  match loNearest s c f (loNear s c · f) with
  | some e => some e
  | none => match (List.range 64).find? fun e => !on s (Reg.CLUSTER_LO_CAL1_VALID c e) with
    | some e => some e
    | none =>
      let free := (List.range 64).filter fun e => !on s (Reg.CLUSTER_LO_CAL1_PIN c e)
      match free.find? fun e => !(s.cluster c).lru.contains e with
      | some e => some e
      | none => (s.cluster c).lru.find? fun e => free.contains e

/-- Entry `e` becomes the most recently used. -/
def loUse (s : State) (c e : Nat) : State :=
  (wr s (Reg.CLUSTER_LO_STATUS_LAST_ENTRY c) e).modCluster c fun x => { x with lru := x.lru.filter (· != e) ++ [e] }

/-- Start a search of the stored entries for the active FREQ (Table 5.2): LOCKING on a match, otherwise CAL. -/
def loSearch (s : State) (c : Nat) : State :=
  let f := rd s (Reg.CLUSTER_LO_FREQ_FREQ c)
  match loNearest s c f (loMatches s c · f) with
  | some e => (setLo s c loLocking).modCluster c fun x => { x with entry := some e, precal := none }
  | none => (setLo s c loCal).modCluster c fun x => { x with entry := none, precal := none }

/-- Start the search when the LO is OFF, wanted and its block out of STOP (R115, Table 5.2); a PRECAL calibration runs
to its end first (R118). -/
def loKick (s : State) (c : Nat) : State :=
  if loMode (modeOf s) && on s (Reg.CLUSTER_LO_CTRL_LO_EN c) && !(s.cluster c).stopped && loState s c == loOff then
    loSearch s c
  else s

/-- Immediate mute of the cluster's units by cause 3 while the mode uses the LOs (Table 4.8). -/
def loMute (s : State) (c : Nat) : State :=
  if loMode (modeOf s) then
    txonCheck (forEach (unitsOf c) (forEach (unitsOf c) s fun s u => holdCause s u 3) fun s u =>
      forEach (regionUnits u) s updateNbLive) c
  else s

/-- Receive samples of the cluster are INVALID (Table 3.5). -/
def loTag (s : State) (c : Nat) : State :=
  forEach (unitsOf c) s fun s u => markTag s u 3 (invalidCount (rd s (Reg.UNIT_RX_DEC_RATIO u)))

/-- Write a full calibration's result under R117: codes, TEMP and VALID; PIN stays in a rewritten entry. -/
def loStore (s : State) (c f band cap cp : Nat) : State :=
  match loStoreEntry s c f with
  | none => wr s (Reg.CLUSTER_LO_STATUS_STORE_FULL c) 1
  | some e =>
    let keep := loNear s c e f
    let s1 := wr (wr s (Reg.CLUSTER_LO_CAL0_FREQ c e) f) (Reg.CLUSTER_LO_CAL1_VALID c e) 1
    let s2 := wr (wr (wr s1 (Reg.CLUSTER_LO_CAL1_BAND c e) band) (Reg.CLUSTER_LO_CAL1_CAP c e) cap)
      (Reg.CLUSTER_LO_CAL1_CP c e) cp
    let s3 := wr s2 (Reg.CLUSTER_LO_CAL1_TEMP c e) (code 8 (clusterTemp s c))
    loUse (if keep then s3 else wr s3 (Reg.CLUSTER_LO_CAL1_PIN c e) 0) c e

/-- The LO locks (Table 5.2) after `hop` × 0.1 µs. The codes a full calibration finds are open values (R117). -/
def loLock (s : State) (c hop : Nat) : State :=
  if loState s c = loLocking then
    let s1 := match (s.cluster c).entry with
      | some e => loUse s c e
      | none => s
    loTag ((wr (wr (setLo s1 c loLocked) (Reg.CLUSTER_LO_STATUS_STORED_HIT c) 1) (Reg.CLUSTER_LO_STATUS_HOP_TIME c) hop).modCluster
      c fun x => { x with dropEvt := false }) c
  else if loState s c = loCal then
    let b := takeFree s 6
    let a := takeFree b.2 8
    let p := takeFree a.2 4
    match (s.cluster c).precal with
    | some f => regionRest (loKick ((setLo (loStore p.2 c f b.1 a.1 p.1) c loOff).modCluster c fun x => { x with precal := none }) c) (c / 2)
    | none =>
      let s1 := loStore p.2 c (rd s (Reg.CLUSTER_LO_FREQ_FREQ c)) b.1 a.1 p.1
      loTag ((wr (wr (setLo s1 c loLocked) (Reg.CLUSTER_LO_STATUS_STORED_HIT c) 0) (Reg.CLUSTER_LO_STATUS_HOP_TIME c) hop).modCluster
        c fun x => { x with dropEvt := false }) c
  else s

/-- A write to CLUSTER_LO_PRECAL (R118): a full calibration at `f` while the LO is OFF, otherwise refused. -/
def loPrecal (s : State) (c f : Nat) : State :=
  if loState s c = loOff ∧ (modeOf s = mIdle ∨ modeOf s = mDiag) then
    (setLo s c loCal).modCluster c fun x => { x with precal := some f, entry := none }
  else raise s 0x1020 0

/-- A PRECAL of a cluster whose region is GATED wakes the region, and begins when that is ready (R345). -/
def loPrecalAsk (s : State) (c f : Nat) : State :=
  if loState s c = loOff ∧ (modeOf s = mIdle ∨ modeOf s = mDiag) ∧ domState s (12 + c / 2) ≠ domOn then
    { s with power := { s.power with
        precal := (c, f) :: s.power.precal.filter fun (x : Nat × Nat) => x.1 != c
        woken := (c / 2) :: s.power.woken.filter (· != c / 2) } }
  else loPrecal s c f

/-- The mode leaves TRIM, SERVE and DIAG (Table 5.2): LOs power down but for a PRECAL, and cause 3 is released at
once (Table 4.8). -/
def loDown (s : State) (c : Nat) : State :=
  let s1 := if (loState s c == loLocked || loState s c == loLocking || loState s c == loCal) &&
      (s.cluster c).precal.isNone then setLo s c loOff else s
  forEach (unitsOf c) s1 fun s u => dropCause s u 3

/-- The CLUSTER block may run (R115). -/
def clusterRunOk (s : State) (c : Nat) : Bool :=
  on s (Reg.CLUSTER_LO_CTRL_LO_EN c) && modeOf s != mBoot && !clusterHeld s c

def clusterGroup (c : Nat) : Group := ⟨[regsAt (0x100000 + 0x10000 * c) (0x110000 + 0x10000 * c)]⟩

/-- The pair test of FREQ with IF_K (R115): f_LO + k × 7.68 MHz from 1,700 MHz to 7,200 MHz, in 10 Hz units. -/
def loPairOk (freq ifk : Nat) : Bool :=
  let k := sgn 7 ifk
  k != 0 && decide (-48 ≤ k) && decide (k ≤ 48) &&
  decide (170000000 ≤ (freq : Int) + k * 768000) && decide ((freq : Int) + k * 768000 ≤ 720000000)

def clusterPairFails (s : State) (c : Nat) : List Nat :=
  failAt (loPairOk (rdSh s (Reg.CLUSTER_LO_FREQ_FREQ c)) (rdSh s (Reg.CLUSTER_LO_CTRL_IF_K c)))
    (Reg.CLUSTER_LO_CTRL_IF_K c).off

/-- The cluster's commit (R115): a changed FREQ starts a hop, a changed IF_K alone a channel change (R61, R82). -/
def clusterCommit (s : State) (c : Nat) : State :=
  let r := commitGroup s (clusterGroup c) (clusterPairFails s c) (clusterRunOk s c && (s.cluster c).stopped)
  if r.2 then
    let s1 := r.1
    let hop := rd s (Reg.CLUSTER_LO_FREQ_FREQ c) != rd s1 (Reg.CLUSTER_LO_FREQ_FREQ c)
    let chan := rd s (Reg.CLUSTER_LO_CTRL_IF_K c) != rd s1 (Reg.CLUSTER_LO_CTRL_IF_K c)
    let s2 := if clusterRunOk s1 c then s1.modCluster c fun x => { x with stopped := false } else s1
    let s3 := if chan then loTag s2 c else s2
    let st := loState s3 c
    if hop && (st == loLocked || st == loLocking || st == loCal) && (s3.cluster c).precal.isNone then
      loSearch (loTag (loMute s3 c) c) c
    else loKick s3 c
  else r.1

/-- LO_EN is written (DEDUCED, log 13): 0 stops the block and powers the LO down but for a PRECAL; 1 after 0 takes a FAILED
LO to OFF (Table 5.2), and the block leaves STOP with a commit (R10). -/
def loEnWritten (s : State) (c : Nat) : State :=
  if on s (Reg.CLUSTER_LO_CTRL_LO_EN c) then
    if (s.cluster c).enWas0 then
      let s1 := if loState s c = loFailed then setLo s c loOff else s
      let s2 := s1.modCluster c fun x => { x with enWas0 := false }
      if clusterRunOk s2 c && (s2.cluster c).stopped then clusterCommit s2 c else s2
    else s
  else
    let s1 := s.modCluster c fun x => { x with stopped := true, enWas0 := true }
    if loState s1 c != loFailed && (s1.cluster c).precal.isNone && loState s1 c != loOff then loTag (loMute (setLo s1 c loOff) c) c else s1

/-! ### The commands' meanings -/

/-- CLUSTER_COMMIT (R115). -/
def execClusterCommit (c : Fin 16) (s : State) : Host.Outcome State Fault Refusal :=
  .next (if clusterEnabled s c && !releasing s then clusterCommit s c else s)

/-- LO_PRECAL (R118): for a cluster of a GATED region the calibration begins when the region is ready (R345). -/
def execLoPrecal (c : Fin 16) (freq : Word) (s : State) : Host.Outcome State Fault Refusal :=
  .next (if !clusterEnabled s c then s else loPrecalAsk s c freq.toNat)

/-- LO_LOCK (R118), after `hop` × 0.1 µs. -/
def execLoLock (c : Fin 16) (hop : BitVec 13) (s : State) : Host.Outcome State Fault Refusal :=
  .next (loLock s c hop.toNat)

/-- LO_STORED_TIMEOUT (R118): no lock at 4,916 REF cycles starts a full calibration. -/
def execLoStoredTimeout (c : Fin 16) (s : State) : Host.Outcome State Fault Refusal :=
  .next (if loState s c = loLocking then (setLo s c loCal).modCluster c fun x => { x with entry := none } else s)

/-- LO_FAIL (R118): no lock within 122,880 REF cycles of the request. -/
def execLoFail (c : Fin 16) (s : State) : Host.Outcome State Fault Refusal :=
  .next (if loState s c = loLocking ∨ loState s c = loCal then
    regionRest ((raise (loMute (setLo s c loFailed) c) 0x2021 0).modCluster c fun x => { x with precal := none }) (c / 2)
  else s)

/-- LO_UNLOCK (R118): immediate mute by cause 3, UNLOCK, event 0x2020, and the search starts again. -/
def execLoUnlock (c : Fin 16) (s : State) : Host.Outcome State Fault Refusal :=
  .next (if loState s c = loLocked then
    let s1 := loTag (loMute (setLo s c loLocking) c) c
    raise (wr s1 (Reg.CLUSTER_LO_STATUS_UNLOCK c) 1) 0x2020 0
  else s)

end Sys2Proof.Machine
end

