-- ==== Sys2Proof/Machine/Air.lean ====
section
/-! DEFINITION. The escapement (spec/05_synthesisers_and_air_timing.md, R120 to R130): the symbol grid, SCHED entries and
their claims, turn-round spacing, and the RFFE masters. -/

namespace Sys2Proof.Machine

/-! ### The grid (R121, Table 5.3) -/

def muOf (s : State) : Nat := rd s Reg.ESC_CTRL_MU

/-- Symbols per half-millisecond. -/
def symPerHalf (mu : Nat) : Nat := 7 * 2 ^ mu

/-- Length of a normal and of a long symbol, REF cycles. -/
def symLen (mu : Nat) : Nat := 17536 / 2 ^ mu
def longLen (mu : Nat) : Nat := symLen mu + 128

/-- First cycle of absolute symbol `n` on the grid of `mu`, shifted by `ofs` cycles. -/
def symStart (mu : Nat) (ofs n : Int) : Int :=
  let h := n / (symPerHalf mu : Int)
  let j := n % (symPerHalf mu : Int)
  h * 122880 + (if j = 0 then 0 else (longLen mu : Int) + (j - 1) * symLen mu) + ofs

/-- The absolute symbol that holds cycle `t`. -/
def symAt (mu : Nat) (ofs t : Int) : Int :=
  let r := (t - ofs) % 122880
  (t - ofs) / 122880 * symPerHalf mu + (if r < longLen mu then 0 else 1 + (r - longLen mu) / symLen mu)

def escOfs (s : State) : Int := rdI s Reg.ESC_OFFSET_OFFSET
def startOf (s : State) (n : Int) : Int := symStart (muOf s) (escOfs s) n

/-- REF cycles of balance time now. -/
def nowCycles (s : State) : Int := (balCycles s.time.bal : Nat)

def symNow (s : State) : Int := symAt (muOf s) (escOfs s) (nowCycles s)

/-- The air-time tag of a symbol. -/
def tagOf (n : Int) : Nat := code 32 n

/-- The RX advance in force (Table 5.12): values below 308 act as 308. -/
def rxAdv (s : State) : Nat := max 308 (rd s Reg.ESC_RX_ADV_RX_ADV)

/-! ### Claims (R123, R125) -/

/-- Symbol `n` is one of the entry's occurrences. -/
def covers (e : SchedEntry) (n : Int) : Bool :=
  if n < e.first then false
  else if e.period = 0 then decide (n < e.first + e.count)
  else
    let p := 14 * e.period
    let k := (n - e.first).toNat / p
    let k' := if e.reps = 0 then k else min k e.reps
    decide ((n - e.first).toNat < k' * p + e.count)

/-- Symbol `n` is the first of one of the entry's occurrences. -/
def startsAt (e : SchedEntry) (n : Int) : Bool :=
  if e.period = 0 then n == e.first
  else
    let d := (n - e.first).toNat
    decide (e.first ≤ n) && d % (14 * e.period) == 0 && (e.reps == 0 || decide (d / (14 * e.period) ≤ e.reps))

/-- The entry's last symbol has passed at symbol `n`. -/
def retired (e : SchedEntry) (n : Int) : Bool :=
  if e.period = 0 then decide (e.first + e.count ≤ n)
  else e.reps != 0 && decide (e.first + e.reps * (14 * e.period) + e.count ≤ n)

def isRadio (k : Nat) : Bool := 1 ≤ k && k ≤ 4

/-- Direction of a radio kind: transmit or receive. -/
def isTxKind (k : Nat) : Bool := k == 1

/-- Claims of a cluster's eight units in one symbol: radio claims and croak claims. -/
structure Claims where
  radio : List (Option SchedEntry)
  croak : List (Option SchedEntry)

def noClaims : Claims := ⟨List.replicate 8 none, List.replicate 8 none⟩

def Claims.held (x : Claims) : Bool := x.croak.any Option.isSome

/-- The claim that cluster `c` has in the direction other than `tx`. -/
def otherWay (x : Claims) (tx : Bool) : Bool :=
  x.radio.any fun e => match e with | some e => isTxKind e.kind != tx | none => false

/-- One accepted entry acts on the claims of cluster `c` in a symbol it covers (R125, R168). -/
def claimStep (c : Nat) (n : Int) (x : Claims) (e : SchedEntry) : Claims :=
  if !(bit e.clusters c && covers e n) then x
  else
    let named := fun i => bit e.units i
    if e.kind = 0 then
      ⟨x.radio.zipIdx.map fun p => if named p.2 then none else p.1, x.croak.zipIdx.map fun p => if named p.2 then none else p.1⟩
    else if isRadio e.kind then
      if x.held || e.units == 0 then x
      else if otherWay x (isTxKind e.kind) then
        { x with radio := (List.range 8).map fun i => if named i then some e else none }
      else { x with radio := x.radio.zipIdx.map fun p => if named p.2 then some e else p.1 }
    else if e.kind = 5 then
      ⟨x.radio.zipIdx.map fun p => if named p.2 then none else p.1, x.croak.zipIdx.map fun p => if named p.2 then some e else p.1⟩
    else x

/-- The claims of cluster `c` in symbol `n`: every accepted entry in order of acceptance. -/
def claimsAt (s : State) (c : Nat) (n : Int) : Claims := s.air.queue.foldl (claimStep c n) noClaims

/-- The radio claim of unit `u` in symbol `n`. -/
def claimOf (s : State) (u : Nat) (n : Int) : Option SchedEntry := ((claimsAt s (u / 8) n).radio.getD (u % 8) none)

/-- Symbol `n` of cluster `c` has been dropped by R126. -/
def dropped (s : State) (c : Nat) (n : Int) : Bool := s.air.drops.contains (c, n)

/-- Direction of cluster `c` in symbol `n`, when it is claimed and not dropped. -/
def dirAt (s : State) (c : Nat) (n : Int) : Option Bool :=
  if dropped s c n then none
  else match (claimsAt s c n).radio.find? Option.isSome with
    | some (some e) => some (isTxKind e.kind)
    | _ => none

/-! ### Turn-round spacing (R126) -/

/-- A symbol `n` in direction `tx` is too close to an opposite symbol `m` before it: gaps in DSP cycles, four to a
REF cycle; an RX symbol lies RX_ADV before its grid boundaries (R122). -/
def turnClose (s : State) (tx : Bool) (m n : Int) : Bool :=
  if tx then decide (4 * (startOf s n - startOf s (m + 1) + rxAdv s) < 1229)
  else decide (4 * (startOf s n - startOf s (m + 1) - rxAdv s) < 983)

/-- The symbol of cluster `c` breaks R126 against the two symbols before it. -/
def turnBad (s : State) (c : Nat) (n : Int) : Bool :=
  match dirAt s c n with
  | none => false
  | some tx => [n - 1, n - 2].any fun m => dirAt s c m == some (!tx) && turnClose s tx m n

/-- Check one symbol of one cluster: a symbol too close to the opposite direction is dropped, counted and reported. -/
def turnCheck (s : State) (c : Nat) (n : Int) : State :=
  if turnBad s c n then
    let tx := dirAt s c n == some true
    raise (bump { s with air := { s.air with drops := (c, n) :: s.air.drops } } Reg.ESC_COUNT_SCHED_TURN 1)
      0x2024 (c + 16 * b2n tx + 65536 * (tagOf n % 65536))
  else s

/-- Check the symbols of an entry's first occurrence and the two that follow, for each cluster it names. -/
def turnCheckEntry (s : State) (e : SchedEntry) : State :=
  forEach ((List.range 16).filter fun c => bit e.clusters c) s fun s c =>
    forEach ((List.range (e.count + 2)).filter fun (k : Nat) => decide (s.air.sym ≤ e.first + (k : Int))) s fun s k => turnCheck s c (e.first + k)

/-- A commit of RX_ADV checks again every entry that waits (R126). -/
def turnCheckAll (s : State) : State :=
  forEach (s.air.queue.filter fun e => isRadio e.kind) s turnCheckEntry

/-- The escapement's block commits (R10, Table 5.12): at slot boundaries, and as it leaves STOP. -/
def escCommit (s : State) (leave : Bool) : State :=
  let r := (commitGroup s ⟨[regsAt 0x50000 0x60000]⟩ [] leave).1
  if rd s Reg.ESC_RX_ADV_RX_ADV = rd r Reg.ESC_RX_ADV_RX_ADV then r else turnCheckAll r

/-! ### Acceptance (R124) -/

/-- Largest ratio of grid spacing to carrier spacing among the carriers of a PARAM's CARR that are enabled (R132). -/
def carrierRatio (s : State) (carr : Nat) : Nat :=
  (List.range 4).foldl (fun r c =>
    if bit carr c && on s (Reg.CARRIER_CFG0_EN c) then max r (2 ^ (muOf s - rd s (Reg.CARRIER_CFG0_SCS c))) else r) 1

/-- The occurrence of tag `t` nearest to symbol `n`, within half the tag range either way. -/
def nearestTag (n : Int) (t : Nat) : Int := n + sgn 32 (code 32 ((t : Int) - n))

/-- The entry's units as package units: those of every selected cluster. -/
def entryUnits (clusters units : Nat) : List Nat :=
  (List.range 128).filter fun u => bit clusters (u / 8) && bit units (u % 8)

/-- The entry as accepted: a radio claim is extended to whole carrier symbols (R132). -/
def schedEntryOf (s : State) (r : SchedRaw) : SchedEntry :=
  let n := nearestTag (symNow s) r.tag.toNat
  let q : Int := (if isRadio r.kind then carrierRatio s (r.param.toNat % 16) else 1 : Nat)
  let lo := n - n % q
  let hi := n + r.count.toNat + (-(n + r.count.toNat)) % q
  { id := s.air.nextId, first := lo, count := (hi - lo).toNat, kind := r.kind, clusters := r.clusters.toNat,
    units := r.units.toNat, period := r.period.toNat, reps := r.reps.toNat, param := r.param.toNat }

/-- The entry names grade-disabled hardware (R124). -/
def namesDisabled (s : State) (r : SchedRaw) : Bool :=
  (List.range 16).any (fun c => bit r.clusters.toNat c && !clusterEnabled s c) ||
  (entryUnits r.clusters.toNat r.units.toNat).any (fun u => !unitEnabled s u) ||
  ((r.kind : Nat) == 5 && bits r.param.toNat 0 2 == 2 && !unitEnabled s (bits r.param.toNat 11 7))

/-- The entry names a layer beyond the grade's limit (R133). -/
def beyondLayers (s : State) (r : SchedRaw) : Bool :=
  isRadio r.kind && decide (gradeLayers s.fuse.grade false < bits r.param.toNat 8 6 + bits r.param.toNat 14 7) &&
  bits r.param.toNat 14 7 != 0

/-- PARAM is out of range for the kind (R124, R133, R166). -/
def badParam (s : State) (r : SchedRaw) : Bool :=
  let p := r.param.toNat
  let k : Nat := r.kind
  if isRadio k then
    decide (64 < bits p 14 7) || bits p 21 3 != 0 || bits p 30 2 != 0 ||
    ((k == 1 || k == 2) && bits p 24 6 != 0) || (k == 4 && bits p 28 2 != 0)
  else if k = 5 then
    let n := nearestTag (symNow s) r.tag.toNat
    bits p 0 2 == 3 || decide (4 < bits p 18 3) || bits p 21 11 != 0 || n % (symPerHalf (muOf s) : Int) != 0 ||
    r.count.toNat != symPerHalf (muOf s)
  else if k = 7 then
    let ofs := sgn 16 (bits p 16 16)
    decide (ofs < -16384) || decide (16383 < ofs) || decide (63 < bits p 8 8) || decide (bits p 0 8 < 1) ||
    decide (64 < bits p 0 8) || decide (63 < bits p 8 8 + bits p 0 8 - 1)
  else false

/-- The REJ_CAUSE of an entry, or 0: the first reason in the order 0x4, 0x6, 0x3, 0x1, 0x2, 0x5 (R124). -/
def rejCause (s : State) (r : SchedRaw) : Nat :=
  let n := nearestTag (symNow s) r.tag.toNat
  if modeOf s ≠ mServe ∧ modeOf s ≠ mDiag then 4
  else if namesDisabled s r || beyondLayers s r then 6
  else if 9 ≤ (r.kind : Nat) ∨ r.count.toNat = 0 ∨ badParam s r then 3
  else if n < symNow s ∨ startOf s n - nowCycles s < 24576 then 1
  else if 2457600000 < startOf s n - nowCycles s then 2
  else if 16384 ≤ s.air.queue.length then 5
  else 0

/-- Croak windows hold a cluster: the symbols of a later radio entry that fall on it are dropped and counted (R168). -/
def overlapCount (s : State) (e : SchedEntry) : Nat :=
  if isRadio e.kind then
    ((List.range 16).filter fun c => bit e.clusters c).foldl (fun a c =>
      a + ((List.range e.count).filter fun (k : Nat) => (claimsAt s c (e.first + (k : Int))).held).length) 0
  else 0

/-- Accept an entry whole: the latest claim wins, and turn-rounds are checked (R125, R126). -/
def acceptEntry (s : State) (e : SchedEntry) : State :=
  let s1 := bump s Reg.CHORUS_COUNT2_OVERLAP (overlapCount s e)
  let fresh := fun (d : Nat × Int) => !(bit e.clusters d.1 && isRadio e.kind && covers e d.2)
  let s2 := { s1 with air := { s1.air with
    queue := s1.air.queue ++ [e], nextId := s1.air.nextId + 1, drops := s1.air.drops.filter fresh } }
  if isRadio e.kind then turnCheckEntry s2 e else s2

/-- Refuse an entry (R124): counted, recorded and reported; REJ_CAUSE 0x6 reports 0x1004 in place of 0x2023. -/
def refuseEntry (s : State) (r : SchedRaw) (cause idx : Nat) : State :=
  let s1 := bump s Reg.ESC_COUNT_SCHED_REJ 1
  let s2 := wr (wr s1 Reg.ESC_STATUS_REJ 1) Reg.ESC_STATUS_REJ_CAUSE cause
  if cause = 6 then
    raise s2 0x1004 (0x14 + 256 * (if namesDisabled s r then 1 else 2) + 65536 * (idx % 65536))
  else raise s2 0x2023 (cause + 16 * (r.kind : Nat) + 65536 * (r.tag.toNat % 65536))

/-- Offer one entry. -/
def offerEntry (s : State) (r : SchedRaw) (idx : Nat) : State × Nat :=
  let c := rejCause s r
  if c = 0 then (acceptEntry s (schedEntryOf s r), 0) else (refuseEntry s r c idx, c)

/-- Offer the entries of a payload in order (R256): entries accepted, and the first refused with its cause. -/
def offerAll : State → List SchedRaw → Nat → Nat → Option (Nat × Nat) → State × Nat × Option (Nat × Nat)
  | s, [], _, acc, rej => (s, acc, rej)
  | s, r :: rest, i, acc, rej =>
    let x := offerEntry s r i
    if x.2 = 0 then offerAll x.1 rest (i + 1) (acc + 1) rej
    else offerAll x.1 rest (i + 1) acc (match rej with | none => some (i, x.2) | some p => some p)

/-- The queue is discarded, periodic entries included (R122); data already received stays in work. -/
def discardQueue (s : State) : State :=
  { s with air := { s.air with queue := [], drops := [], rffeOld := [] } }

/-- Entries retire after their last symbol (R124). An RFFE entry is kept until its frames are released, a sounding entry while its job may
still start. -/
def retireEntries (s : State) (n : Int) : State :=
  let gone := s.air.queue.filter fun e => retired e n && e.kind == 7
  { s with air := { s.air with
      queue := s.air.queue.filter fun e => !retired e n
      rffeOld := s.air.rffeOld ++ gone
      past := (s.air.queue ++ s.air.past).filter fun e => e.kind == 3 && retired e n && !retired e (n - 64)
      drops := s.air.drops.filter fun d => decide (n - 2 ≤ d.2) } }

/-! ### RFFE masters (R130) -/

/-- List frame `i` of cluster `c`, read at release. -/
def listFrame (s : State) (c i : Nat) : RffeFrame :=
  { ftype := rd s (Reg.CLUSTER_RFFE_LIST_TYPE c i), sid := rd s (Reg.CLUSTER_RFFE_LIST_SID c i)
    addr := rd s (Reg.CLUSTER_RFFE_LIST_ADDR c i), data := rd s (Reg.CLUSTER_RFFE_LIST_DATA c i), read := false }

def cmdFrame (s : State) (c : Nat) : RffeFrame :=
  { ftype := rd s (Reg.CLUSTER_RFFE_CMD_TYPE c), sid := rd s (Reg.CLUSTER_RFFE_CMD_SID c)
    addr := rd s (Reg.CLUSTER_RFFE_CMD_ADDR c), data := rd s (Reg.CLUSTER_RFFE_CMD_DATA c)
    read := on s (Reg.CLUSTER_RFFE_CMD_READ c) }

/-- Release frames on the bus of cluster `c`; frames that find it busy are counted late. -/
def releaseFrames (s : State) (c : Nat) (fs : List RffeFrame) : State :=
  if fs.isEmpty then s
  else
    let busy := !(s.cluster c).bus.isEmpty
    let s1 := wr (s.modCluster c fun x => { x with bus := x.bus ++ fs }) (Reg.CLUSTER_RFFE_CTRL_BUSY c) 1
    if busy then raise (bump (wr s1 (Reg.CLUSTER_RFFE_CTRL_SLIP c) 1) (Reg.CLUSTER_COUNT_RFFE_SLIP c) fs.length) 0x2025 0
    else s1

/-- The RFFE entry `id` reaches its boundary plus OFFSET. -/
def rffeRelease (s : State) (id : Nat) : State :=
  match (s.air.queue ++ s.air.rffeOld).find? fun e => e.id == id && e.kind == 7 with
  | none => s
  | some e =>
    let s1 := forEach ((List.range 16).filter fun c => bit e.clusters c && clusterEnabled s c) s fun s c =>
      releaseFrames s c ((List.range (bits e.param 0 8)).map fun k => listFrame s c (bits e.param 8 8 + k))
    { s1 with air := { s1.air with rffeOld := s1.air.rffeOld.filter (·.id != id) } }

/-- The frame in progress ends (after its SCLK cycles of Table 5.8); a read's result goes to DATA. -/
def rffeFrameDone (s : State) (c d : Nat) : State :=
  match (s.cluster c).bus with
  | [] => s
  | f :: rest =>
    let s1 := s.modCluster c fun x => { x with bus := rest }
    let s2 := if f.read then wr s1 (Reg.CLUSTER_RFFE_CMD_DATA c) d else s1
    wr s2 (Reg.CLUSTER_RFFE_CTRL_BUSY c) (b2n (!rest.isEmpty))

/-- A write to CLUSTER_RFFE_CMD issues its frame: a read is refused while boundaries are released, and a register-0
read always; a write then waits for the next slot boundary. -/
def rffeCmd (s : State) (c : Nat) : State :=
  let f := cmdFrame s c
  if f.read && (releasing s || f.ftype == 1) then
    raise (wr s (Reg.CLUSTER_RFFE_CTRL_REFUSED c) 1) 0x1021 0
  else if releasing s then s.modCluster c fun x => { x with cmdQ := x.cmdQ ++ [f] }
  else releaseFrames s c [f]

/-- The frames that wait for a slot boundary go out. -/
def rffeSlot (s : State) (c : Nat) : State :=
  releaseFrames (s.modCluster c fun x => { x with cmdQ := [] }) c (s.cluster c).cmdQ

/-! ### The commands' meanings -/

/-- SYNC_EDGE (R79): a rising edge on the SYNC ball, high for at least 2 REF cycles, schedules the realignment. -/
def execSyncEdge (s : State) : Host.Outcome State Fault Refusal :=
  .next { s with air := { s.air with syncEdge := true } }

/-- RFFE_RELEASE (R130). -/
def execRffeRelease (id : Nat) (s : State) : Host.Outcome State Fault Refusal := .next (rffeRelease s id)

/-- RFFE_FRAME_DONE (R130): `d` is the data byte a read returned. -/
def execRffeFrameDone (c : Fin 16) (d : Byte) (s : State) : Host.Outcome State Fault Refusal :=
  .next (rffeFrameDone s c d.toNat)

/-- RFFE_CMD (R130): a write of `w` to CLUSTER_RFFE_CMD. -/
def execRffeCmd (c : Fin 16) (w : Word) (s : State) : Host.Outcome State Fault Refusal :=
  .next (if clusterEnabled s c then
    let v := w.toNat
    let s1 := wr (wr s (Reg.CLUSTER_RFFE_CMD_DATA c) (bits v 0 8)) (Reg.CLUSTER_RFFE_CMD_ADDR c) (bits v 8 16)
    rffeCmd (wr (wr (wr s1 (Reg.CLUSTER_RFFE_CMD_READ c) (bits v 25 1)) (Reg.CLUSTER_RFFE_CMD_TYPE c) (bits v 26 2))
      (Reg.CLUSTER_RFFE_CMD_SID c) (bits v 28 4)) c
  else s)

end Sys2Proof.Machine
end

