-- ==== Sys2Proof/Machine/Beam.lean ====
section
/-! DEFINITION. Beamforming and weights (spec/06_beamforming.md): carrier and weight-set pairs, the TILE commit, weight
checks, swaps and ageing, layer limits, block floating point, the hub's combining, and the solver's jobs. -/

namespace Sys2Proof.Machine

/-! ### Carriers (R131, R132, Table 6.1) -/

/-- N of an NFFT code, N_CP and the largest N_PRB. -/
def fftN (c : Nat) : Nat := 512 * 2 ^ c
def nCp (c : Nat) : Nat := 36 * 2 ^ c
def maxPrb (c : Nat) : Nat := [34, 68, 137, 275].getD c 0

/-- Ratio r of carrier `c` on the grid (R132). -/
def carrierR (s : State) (c : Nat) : Nat := 2 ^ (muOf s - rd s (Reg.CARRIER_CFG0_SCS c))

/-- The largest ratio among the carriers of mask `m` that are enabled. -/
def rMax (s : State) (m : Nat) : Nat := carrierRatio s m

/-- P0 and P1 run bonded and both are UP (R142, R237). -/
def bondedUp (s : State) : Bool :=
  on s (Reg.LINK_CFG_BOND 0) && portUp s 0 && portUp s 1

/-- Largest LMAX the carrier commit allows (R142). -/
def lmaxLimit (s : State) : Nat := if bondedUp s && s.fuse.grade != 4 then 64 else 32

/-- One enabled carrier of Table 6.9's first pair, on the shadow values; frequencies in kHz. -/
def carrierOk (s : State) (c : Nat) : Bool :=
  let scs := rdSh s (Reg.CARRIER_CFG0_SCS c)
  let nf := rdSh s (Reg.CARRIER_CFG0_NFFT c)
  let prb := rdSh s (Reg.CARRIER_CFG1_N_PRB c)
  let cf := (sgn 16 (rdSh s (Reg.CARRIER_CFG1_CF_OFS c))).natAbs
  scs != 3 && decide (scs ≤ muOf s) && decide (1 ≤ prb) && decide (prb ≤ maxPrb nf) &&
  decide (rdSh s (Reg.CARRIER_CFG2_WIN_ADV c) ≤ nCp nf) &&
  decide (rdSh s (Reg.CARRIER_CFG0_BFP_DL c) ≤ 5) && decide (rdSh s (Reg.CARRIER_CFG0_BFP_UL c) ≤ 5) &&
  decide (cf * 15 * 2 ^ scs + 180 * prb * 2 ^ scs ≤ 393216) &&
  decide (rdSh s (Reg.CARRIER_CFG0_LMAX_DL c) ≤ lmaxLimit s) && decide (rdSh s (Reg.CARRIER_CFG0_LMAX_UL c) ≤ lmaxLimit s)

def carrierEnSh (s : State) (c : Nat) : Bool := rdSh s (Reg.CARRIER_CFG0_EN c) == 1

/-- Σ LMAX × 12 × N_PRB × SCS over the enabled carriers, kHz (R142). -/
def layerBudget (s : State) (lmax : Nat → Fld) : Nat :=
  (List.range 4).foldl (fun a c => if carrierEnSh s c then
    a + rdSh s (lmax c) * 12 * rdSh s (Reg.CARRIER_CFG1_N_PRB c) * 15 * 2 ^ rdSh s (Reg.CARRIER_CFG0_SCS c) else a) 0

def carrierPairOk (s : State) : Bool :=
  (List.range 4).all (fun c => !carrierEnSh s c || carrierOk s c) &&
  decide (layerBudget s Reg.CARRIER_CFG0_LMAX_DL ≤ 12800000) && decide (layerBudget s Reg.CARRIER_CFG0_LMAX_UL ≤ 12800000)

/-- Groups of a set: Σ over its carriers of ceil(N_PRB / G) (R145), on values read by `r`. -/
def groupsOf (r : Fld → Nat) (w : Nat) : Nat :=
  (List.range 4).foldl (fun a c => if bit (r (Reg.WSET_DESC_CARR w)) c then
    a + ceilDiv (r (Reg.CARRIER_CFG1_N_PRB c)) (2 ^ r (Reg.WSET_DESC_GRAN w)) else a) 0

/-- Blocks of one copy of a set (R145). -/
def blocksOf (r : Fld → Nat) (w : Nat) : Nat := ceilDiv (r (Reg.WSET_DESC_LCNT w) * groupsOf r w) 32

def wsetPairOk (s : State) : Bool :=
  let r := rdSh s
  (List.range 16).all (fun w => r (Reg.WSET_DESC_EN w) != 1 ||
    ((List.range 4).all (fun c => !bit (r (Reg.WSET_DESC_CARR w)) c || carrierEnSh s c) && r (Reg.WSET_DESC_CARR w) != 0 &&
      decide (r (Reg.WSET_DESC_GRAN w) ≤ 4) && decide (1 ≤ r (Reg.WSET_DESC_LCNT w)) && decide (r (Reg.WSET_DESC_LCNT w) ≤ 64))) &&
  decide ((List.range 16).foldl (fun a w => if r (Reg.WSET_DESC_EN w) = 1 then a + 2 * blocksOf r w else a) 0 ≤ 2048)

/-- SCS_RA in units of 1.25 kHz, and L_RA (R151). -/
def scsRa (c : Nat) : Nat := [1, 4, 12, 24, 48].getD c 0
def lRa (c : Nat) : Nat := if c ≤ 1 then 839 else 139

def prachPairOk (s : State) : Bool :=
  (List.range 4).all fun p => rdSh s (Reg.PRACH_CFG0_EN p) != 1 ||
    (let c := rdSh s (Reg.PRACH_CFG0_CARRIER p)
     let k := rdSh s (Reg.PRACH_CFG0_SCS_RA p)
     let scs := rdSh s (Reg.CARRIER_CFG0_SCS c)
     let ofs := sgn 16 (rdSh s (Reg.PRACH_CFG0_K_OFS p))
     carrierEnSh s c && decide (k ≤ 4) && (decide (k ≤ 1) || k - 2 == scs) &&
     decide (1 ≤ rdSh s (Reg.PRACH_CFG0_N_REP p)) && decide (rdSh s (Reg.PRACH_CFG0_N_REP p) ≤ 12) && decide (0 ≤ ofs) &&
     decide ((ofs + lRa k) * scsRa k ≤ 12 * rdSh s (Reg.CARRIER_CFG1_N_PRB c) * 12 * 2 ^ scs))

def solvePortOk (s : State) (j p : Nat) : Bool :=
  let c := rdSh s (Reg.SOLVE_PORT0_CARRIER j p)
  let comb := rdSh s (Reg.SOLVE_PORT0_COMB j p)
  let cnt := rdSh s (Reg.SOLVE_PORT1_PRB_CNT j p)
  carrierEnSh s c && comb != 3 && decide (rdSh s (Reg.SOLVE_PORT0_COMB_OFS j p) < 2 ^ (comb + 1)) &&
  decide (rdSh s (Reg.SOLVE_PORT0_CS j p) < [8, 12, 6].getD comb 0) && cnt % 4 == 0 && decide (4 ≤ cnt) &&
  decide (rdSh s (Reg.SOLVE_PORT1_PRB_START j p) + cnt ≤ rdSh s (Reg.CARRIER_CFG1_N_PRB c)) &&
  decide (rdSh s (Reg.SOLVE_PORT1_U j p) ≤ 29)

def solvePairOk (s : State) : Bool :=
  (List.range 4).all fun j => (List.range 64).all fun p =>
    rdSh s (Reg.SOLVE_PORT0_VALID j p) != 1 || solvePortOk s j p

/-- Lowest offset of every failing pair of Table 6.9 (R12): the first pair holds ESC_CTRL, the others CARRIER_CFG(0). -/
def tilePairFails (s : State) : List Nat :=
  failAt (carrierPairOk s) Reg.ESC_CTRL_MU.off ++ failAt (wsetPairOk s) (Reg.CARRIER_CFG0_EN 0).off ++
  failAt (prachPairOk s) (Reg.CARRIER_CFG0_EN 0).off ++ failAt (solvePairOk s) (Reg.CARRIER_CFG0_EN 0).off

/-- The TILE blocks' commit group: the shared page and each tile's own page (R157). -/
def tileGroup : Group :=
  ⟨[regsAt 0x400000 0x402000, regsAt 0x501000 0x502000, regsAt 0x601000 0x602000, regsAt 0x701000 0x702000]⟩

def State.wset (s : State) (w : Nat) : WsetS := s.beam.wsets.get w {}
def State.modWset (s : State) (w : Nat) (g : WsetS → WsetS) : State :=
  { s with beam := { s.beam with wsets := s.beam.wsets.set w {} (g (s.wset w)) } }

/-- Apply `g` for every enabled tile. -/
def forTiles (s : State) (g : State → Nat → State) : State := forEach (enabledTiles s) s g

/-- Both copies of a set are discarded (R145). -/
def discardWset (s : State) (w : Nat) : State :=
  forTiles (s.modWset w fun _ => {}) fun s t =>
    wr (wr s (Reg.WSET_STATUS_ACT_VALID t w) 0) (Reg.WSET_STATUS_SHD_PEND t w) 0

/-- The fields of a set's declaration (R145). -/
def wsetDecl (s : State) (w : Nat) : List Nat :=
  [rd s (Reg.WSET_DESC_EN w), rd s (Reg.WSET_DESC_DIR w), rd s (Reg.WSET_DESC_OWNER w), rd s (Reg.WSET_DESC_PER_SLOT w),
   rd s (Reg.WSET_DESC_CARR w), rd s (Reg.WSET_DESC_GRAN w), rd s (Reg.WSET_DESC_LCNT w), rd s (Reg.WSET_DESC_WSTALE_MAX w)]

def carrierDecl (s : State) (c : Nat) : Nat × Nat := (rd s (Reg.CARRIER_CFG0_EN c), rd s (Reg.CARRIER_CFG1_N_PRB c))

/-- A committed write of a unit's UNIT_CORR sets its CORR_VALID bit and the time of measurement (Table 6.21). -/
def corrCommitted (s : State) (u : Nat) : State :=
  let f := Reg.CORR_VALID_VALID (u / 32)
  let s1 := wr s f (setBit (rd s f) (u % 32))
  { s1 with beam := { s1.beam with corrTime := s1.beam.corrTime.set u 0 (balSec s1) } }

/-! ### Reciprocity (R154) -/

/-- The unit is present under R33 and not degraded on either side. -/
def unitPresent (s : State) (u : Nat) : Bool :=
  unitEnabled s u && !s.absent.contains u && !((s.unit u).degRx && (s.unit u).degTx)
def unitWhole (s : State) (u : Nat) : Bool := unitPresent s u && !(s.unit u).degRx && !(s.unit u).degTx

/-- Age of a unit's correction, seconds. -/
def corrAge (s : State) (u : Nat) : Nat := balSec s - s.beam.corrTime.get u 0

/-- Tile `t`'s units all have corrections no older than RECIP_AGE_MAX. -/
def recipTile (s : State) (t : Nat) : Bool :=
  ((List.range 32).map (32 * t + ·)).all fun u => !unitWhole s u ||
    (bit (rd s (Reg.CORR_VALID_VALID t)) (u % 32) && decide (corrAge s u ≤ rd s Reg.SOLVER_CTRL_RECIP_AGE_MAX))

def recipAll (s : State) : Bool := (enabledTiles s).all fun t => on s (Reg.SOLVER_STATUS_RECIP_VALID t)

/-- Refresh RECIP_VALID; a change to 0 raises event 0x2037. -/
def recipUpdate (s : State) : State :=
  let was := recipAll s
  let s1 := forTiles s fun s t => wr s (Reg.SOLVER_STATUS_RECIP_VALID t) (b2n (recipTile s t))
  raiseIf (was && !recipAll s1) s1 0x2037 0

/-! ### The TILE commit (R145, R157) -/

/-- At a TILE commit every present unit's TX_PH rises and RX_PH falls by the change of PSI (R176). -/
def psiToCorr (s : State) : State :=
  let d : Int := s.chorus.psiPend
  if s.chorus.psiPend = 0 then s
  else if on s Reg.BF_CTRL_CORR_LOCK then wr s Reg.CHORUS_STATUS_CORR_HELD 1
  else
    forEach ((enabledUnits s).filter (unitPresent s)) { s with chorus := { s.chorus with psiPend := 0 } } fun s u =>
      let tx := Reg.UNIT_CORR0_TX_PH (u / 32) (u % 32)
      let rx := Reg.UNIT_CORR0_RX_PH (u / 32) (u % 32)
      let s1 := wrSh (wr s tx (code 16 (rd s tx + d))) tx (code 16 (rdSh s tx + d))
      wrSh (wr s1 rx (code 16 (rd s1 rx - d))) rx (code 16 (rdSh s1 rx - d))

def tileCommit (s : State) : State :=
  if modeOf s = mBoot then s
  else
    let r := commitGroup s tileGroup (tilePairFails s)
    if r.2 then
      let chg := fun c => carrierDecl s c != carrierDecl r.1 c
      let s1 := forEach (List.range 16) r.1 fun s' w =>
        if wsetDecl s w != wsetDecl s' w || (List.range 4).any (fun c => bit (rd s' (Reg.WSET_DESC_CARR w)) c && chg c) then
          discardWset s' w
        else s'
      let carriers := regsAt 0x400010 0x400050
      let s2 := if s.hact.range carriers.1 carriers.2 != r.1.hact.range carriers.1 carriers.2 then
        { s1 with air := { s1.air with pulse := false } } else s1
      let s3 := forEach s2.beam.corrWritten s2 corrCommitted
      recipUpdate (psiToCorr { s3 with beam := { s3.beam with corrWritten := [] } })
    else r.1

/-! ### Weight set checks (R146, R147) -/

def beAt (bs : List Nat) (i n : Nat) : Nat := ((bs.drop i).take n).foldl (fun a b => a * 256 + b % 256) 0

/-- Tag `a` is before tag `b` (R147). -/
def tagBefore (a b : Nat) : Bool :=
  let d := code 32 ((b : Int) - a)
  decide (1 ≤ d) && decide (d ≤ 2 ^ 31 - 1)

/-- Weights of a set: units × layers × groups. -/
def wsetCount (s : State) (w : Nat) : Nat :=
  gradeUnits s.fuse.grade * rd s (Reg.WSET_DESC_LCNT w) * groupsOf (rd s) w

/-- Weight `i` of the set's order, real and imaginary part, Q1.15. -/
def weightAt (bs : List Nat) (i : Nat) : Int × Int := (sgn 16 (beAt bs (32 + 4 * i) 2), sgn 16 (beAt bs (34 + 4 * i) 2))

/-- Row power × 2^30 of unit `u` in group `g` (order: groups, layers, units). -/
def rowPower (s : State) (w : Nat) (bs : List Nat) (g u : Nat) : Nat :=
  let n := gradeUnits s.fuse.grade
  let l := rd s (Reg.WSET_DESC_LCNT w)
  (List.range l).foldl (fun a k =>
    let x := weightAt bs ((g * l + k) * n + u)
    a + (x.1 * x.1 + x.2 * x.2).toNat) 0

/-- The first failed check of Table 6.5 for the shadow of set `w`, or 0. -/
def wsetCheck (s : State) (w : Nat) : Nat :=
  let bs := (s.wset w).shd.bytes
  let n := wsetCount s w
  let src := beAt bs 20 1
  if !(beAt bs 0 2 == 0x5753 && beAt bs 2 1 == 1 && beAt bs 3 1 == w) then 1
  else if bs.length != 36 + 4 * n || beAt bs (32 + 4 * n) 4 != crc32 (bs.take (32 + 4 * n)) then 2
  else if !(on s (Reg.WSET_DESC_EN w) && beAt bs 4 1 == rd s (Reg.WSET_DESC_DIR w) && beAt bs 5 1 == rd s (Reg.WSET_DESC_CARR w) &&
      beAt bs 6 1 == rd s (Reg.WSET_DESC_GRAN w) && beAt bs 7 1 == rd s (Reg.WSET_DESC_LCNT w) &&
      beAt bs 10 2 == rd s (Reg.WSET_DESC_PER_SLOT w) && beAt bs 8 2 == gradeUnits s.fuse.grade) then 3
  else if !((src == 0 && !on s (Reg.WSET_DESC_OWNER w)) || (src == 1 && on s (Reg.WSET_DESC_OWNER w)) ||
      (src == 2 && !on s (Reg.WSET_DESC_OWNER w) && !on s (Reg.WSET_DESC_PER_SLOT w))) then 4
  else if (List.range (2 * n)).any (fun i => beAt bs (32 + 2 * i) 2 == 0x8000) then 5
  else if on s (Reg.WSET_DESC_DIR w) && (List.range (groupsOf (rd s) w)).any (fun g => (List.range (gradeUnits s.fuse.grade)).any fun u =>
      decide (rd s Reg.BF_ROWMAX_ROW_MAX * 2 ^ 16 + 2 ^ 18 < rowPower s w bs g u)) then 6
  else if on s (Reg.WSET_DESC_PER_SLOT w) && (enabledTiles s).any (fun t => on s (Reg.WSET_STATUS_ACT_VALID t w)) &&
      tagBefore (beAt bs 12 4) (s.wset w).actv.slotTag then 7
  else 0

/-- A failed arrival (R147). -/
def wsetFail (s : State) (w fc : Nat) (keep : Bool) : State :=
  let s1 := forTiles s fun s t =>
    wr (wr (if keep then s else wr s (Reg.WSET_STATUS_SHD_PEND t w) 0) (Reg.WSET_STATUS_FAIL t w) 1) (Reg.WSET_STATUS_FAIL_CODE t w) fc
  raise (if keep then s1 else s1.modWset w fun x => { x with checked := false }) 0x2033 0

def wsetPending (s : State) (w : Nat) : Bool := (enabledTiles s).any fun t => on s (Reg.WSET_STATUS_SHD_PEND t w)

/-- The copy that a whole set's bytes make. -/
def wsetCopyOf (bs : List Nat) : WsetCopy :=
  { bytes := bs, slotTag := beAt bs 12 4, seq := beAt bs 16 4, perSlot := bit (beAt bs 10 2) 0, carr := beAt bs 5 1
    lcnt := beAt bs 7 1, dir := beAt bs 4 1 }

/-- A whole set has arrived for set `w`: refused while a shadow is pending, otherwise written and its checks start. -/
def wsetArrive (s : State) (w : Nat) (bs : List Nat) : State :=
  if wsetPending s w then wsetFail s w 8 true
  else forTiles (s.modWset w fun x => { x with shd := wsetCopyOf bs, checked := false }) fun s t =>
    wr s (Reg.WSET_STATUS_SHD_PEND t w) 1

/-- The checks of set `w` end. -/
def wsetChecksDone (s : State) (w : Nat) : State :=
  if wsetPending s w && !(s.wset w).checked then
    if wsetCheck s w = 0 then s.modWset w fun x => { x with checked := true } else wsetFail s w (wsetCheck s w) false
  else s

/-! ### Swaps and ageing (R148, R149) -/

/-- Symbol `n` meets the conditions of R148 for set `w`. -/
def swapDue (s : State) (w : Nat) (n : Int) : Bool :=
  let x := (s.wset w)
  wsetPending s w && x.checked && n % (rMax s x.shd.carr : Int) == 0 &&
  (!x.shd.perSlot || !tagBefore (tagOf n) x.shd.slotTag)

/-- The swap: every period of R149 ends, and the set is archived (R303). -/
def wsetSwap (s0 : State) (w : Nat) : State :=
  let s := { s0 with beam := { s0.beam with arch := s0.beam.arch.set w [] (s0.wset w).shd.bytes } }
  let s1 := s.modWset w fun x => { actv := x.shd, shd := {}, checked := false, evtReady := false, evtStale := false, evtMuted := false }
  forTiles s1 fun s t =>
    let a := wr (wr s (Reg.WSET_STATUS_ACT_VALID t w) 1) (Reg.WSET_STATUS_SHD_PEND t w) 0
    let b := wr (wr a (Reg.WSET_STATUS_WSTALE t w) 0) (Reg.WSET_STATUS_MUTED t w) 0
    wr b (Reg.WSET_STATUS_ACT_SEQ t w) (s.wset w).actv.seq

def swapAll (s : State) (n : Int) : State :=
  forEach (List.range 16) s fun s w => if swapDue s w n then wsetSwap s w else s

/-- Age of the active copy in carrier slots. -/
def wsetAge (s : State) (w : Nat) (n : Int) : Nat :=
  code 32 (n - (s.wset w).actv.slotTag) / (14 * rMax s (s.wset w).actv.carr)

/-- Raise an event once in a period: `flag` reads and `mark` sets that it has been raised. -/
def oncePer (s : State) (raised : Bool) (mark : State → State) (ev arg : Nat) : State :=
  if raised then s else raise (mark s) ev arg

/-- Evaluate set `w` at a carrier symbol that uses it (R149). -/
def wsetEvaluate (s : State) (w : Nat) (n : Int) : State :=
  let x := s.wset w
  if (enabledTiles s).any fun t => !on s (Reg.WSET_STATUS_ACT_VALID t w) then
    let s1 := forTiles s fun s t =>
      if on s (Reg.WSET_STATUS_ACT_VALID t w) then s else wr s (Reg.WSET_STATUS_TBL_NOT_READY t w) 1
    oncePer s1 x.evtReady (fun s => s.modWset w fun y => { y with evtReady := true }) 0x2030 0
  else if x.actv.perSlot then
    let a := wsetAge s w n
    let stale := decide (1 ≤ a) && decide (a ≤ rd s (Reg.WSET_DESC_WSTALE_MAX w))
    let muted := decide (rd s (Reg.WSET_DESC_WSTALE_MAX w) < a)
    let s1 := forTiles s fun s t =>
      wr (wr (wr s (Reg.WSET_STATUS_AGE t w) (min a 15)) (Reg.WSET_STATUS_WSTALE t w) (b2n stale)) (Reg.WSET_STATUS_MUTED t w) (b2n muted)
    if muted then oncePer s1 x.evtMuted (fun s => s.modWset w fun y => { y with evtMuted := true }) 0x2032 0
    else if stale then oncePer s1 x.evtStale (fun s => s.modWset w fun y => { y with evtStale := true }) 0x2031 0
    else s1
  else s

/-! ### Layers (R143) -/

/-- The thermal layer cap or supply stage S3 caps layers at 16. -/
def layerCap16 (s : State) : Bool := decide (3 ≤ stageOf s) || decide (1 ≤ rd s Reg.THERM_STATUS_STEP)

/-- Layer `l` of a symbol of carrier `c` under entry `e` is muted. -/
def layerMuted (s : State) (e : SchedEntry) (c l : Nat) : Bool :=
  let tx := isTxKind e.kind
  let w := bits e.param 4 4
  let lmax := if tx then rd s (Reg.CARRIER_CFG0_LMAX_DL c) else rd s (Reg.CARRIER_CFG0_LMAX_UL c)
  decide (bits e.param 8 6 + lmax ≤ l) || (s.beam.capped.contains c && decide (16 ≤ l)) || (!bondedUp s && decide (32 ≤ l)) ||
  (enabledTiles s).any (fun t => !on s (Reg.WSET_STATUS_ACT_VALID t w) || on s (Reg.WSET_STATUS_MUTED t w)) ||
  !on s (Reg.WSET_DESC_EN w) || rd s (Reg.WSET_DESC_DIR w) != b2n tx || !bit (rd s (Reg.WSET_DESC_CARR w)) c ||
  decide (rd s (Reg.WSET_DESC_LCNT w) ≤ l)

/-- The layers an entry serves on carrier `c`, with their mutes. -/
def entryLayers (s : State) (e : SchedEntry) (c : Nat) : List (Nat × Bool) :=
  (List.range (bits e.param 14 7)).map fun i => (bits e.param 8 6 + i, layerMuted s e c (bits e.param 8 6 + i))

/-- The enabled carriers an entry serves whose carrier symbol begins at `n`. -/
def entryCarriers (s : State) (e : SchedEntry) (n : Int) : List Nat :=
  (List.range 4).filter fun c => bit e.param c && on s (Reg.CARRIER_CFG0_EN c) && n % (carrierR s c : Int) == 0

/-- The unit meets the rate and band conditions of R134 on carrier `c` in direction `tx`: its chain rate
(1,474,560/D or 2,949,120/I kHz) is a multiple of N × SCS, and the carrier lies inside B. -/
def rateFits (s : State) (u c : Nat) (tx : Bool) : Bool :=
  let num := if tx then 2949120 else 1474560
  let d := if tx then rd s (Reg.UNIT_TX_INTERP_RATIO u) else rd s (Reg.UNIT_RX_DEC_RATIO u)
  let k := rd s (Reg.CARRIER_CFG0_SCS c)
  let rate := fftN (rd s (Reg.CARRIER_CFG0_NFFT c)) * 15 * 2 ^ k
  let edge := (rdI s (Reg.CARRIER_CFG1_CF_OFS c)).natAbs * 15 * 2 ^ k + 180 * rd s (Reg.CARRIER_CFG1_N_PRB c) * 2 ^ k
  num % (d * rate) == 0 && decide (edge * 5 * d ≤ 2 * min (2 * num) (983040 * d))

/-- The chain rate is a multiple of f_RA of every PRACH configuration that entry `e` applies (R134, R151), in units of
1.25 kHz. -/
def prachFits (s : State) (u : Nat) (e : SchedEntry) : Bool :=
  e.kind != 4 || (List.range 4).all fun p => !bit (bits e.param 24 4) p || !on s (Reg.PRACH_CFG0_EN p) ||
    1179648 % (rd s (Reg.UNIT_RX_DEC_RATIO u) * (if rd s (Reg.PRACH_CFG0_SCS_RA p) ≤ 1 then 1024 else 256) *
      scsRa (rd s (Reg.PRACH_CFG0_SCS_RA p))) == 0

/-- Unit `u`'s claim in symbol `n` is entry `e`, and R126 has not dropped the symbol. -/
def claimIs (s : State) (e : SchedEntry) (n : Int) (u : Nat) : Bool :=
  !dropped s (u / 8) n && (match claimOf s u n with | some x => x.id == e.id | none => false)

/-- Check the units an entry claims against R134: a unit excluded by rate or band sets RATE_MISMATCH of its tile. -/
def rateCheck (s : State) (e : SchedEntry) (n : Int) : State :=
  forEach (entryCarriers s e n) s fun s c =>
    forEach ((entryUnits e.clusters e.units).filter fun u => unitWhole s u && claimIs s e n u && bit (rd s (Reg.CARRIER_CFG3_CL_MASK c)) (u / 8)) s fun s u =>
      if rateFits s u c (isTxKind e.kind) && prachFits s u e then s else stickyEvent s (Reg.BF_STATUS_RATE_MISMATCH (u / 32)) 0x2039 0

/-- A carrier symbol begins under entry `e`: its weight set is evaluated, and its muted layers are counted with event 0x2034
once until LMUTE_CNT is read. -/
def symbolLayers (s : State) (e : SchedEntry) (n : Int) : State :=
  forEach (entryCarriers s e n) (rateCheck s e n) fun s c =>
    let s1 := if bits e.param 14 7 = 0 then s else wsetEvaluate s (bits e.param 4 4) n
    let k := ((entryLayers s1 e c).filter (·.2)).length
    if k = 0 then s1
    else
      let fresh := (enabledTiles s1).all fun t => rd s1 (Reg.BF_COUNT2_LMUTE_CNT t) == 0
      raiseIf fresh (forTiles s1 fun s t => bump s (Reg.BF_COUNT2_LMUTE_CNT t) k) 0x2034 0

/-- The caps come into force and go (R143): at slot boundary `n` LCAP follows the stage and the thermal step, and a carrier takes the cap over where
one of its own slots begins. BOND_LIMIT follows the ports. -/
def layerCaps (s : State) (n : Int) : State :=
  let s1 := forTiles s fun s t => wr s (Reg.BF_STATUS_BOND_LIMIT t) (b2n (!bondedUp s))
  if n % 14 = 0 then
    let new := (List.range 4).filter fun c =>
      if n % (14 * carrierR s c : Int) = 0 then layerCap16 s else s.beam.capped.contains c
    forTiles { s1 with beam := { s1.beam with capped := new } } fun s t => wr s (Reg.BF_STATUS_LCAP t) (b2n (layerCap16 s))
  else s1

/-! ### Arithmetic (R134, R137, R144) -/

/-- Round `i / d` to nearest, ties away from zero. -/
def roundDiv (i : Int) (d : Nat) : Int :=
  if i < 0 then -((2 * (-i) + d) / (2 * d)) else (2 * i + d) / (2 * d)

/-- Mantissa width of a BFP code (Table 6.3). -/
def bfpMw (c : Nat) : Nat := [16, 9, 8, 7, 12, 14].getD c 16

/-- The smallest width that holds every value (R144). -/
def bfpWidth (vs : List Int) : Nat :=
  ((List.range 17).find? fun w => decide (1 ≤ w) && vs.all fun v => decide (-(2 ^ (w - 1) : Int) ≤ v) && decide (v ≤ (2 ^ (w - 1) : Int) - 1)).getD 16

/-- The block's exponent. -/
def bfpExp (mw : Nat) (vs : List Int) : Nat := bfpWidth vs - mw

/-- The mantissas. -/
def bfpMant (mw e : Nat) (vs : List Int) : List Int := vs.map fun v => satInt mw (roundDiv v (2 ^ e))

/-- Expansion (R144): a block with e > 16 − MW expands to zero. -/
def bfpExpand (mw e : Nat) (ms : List Int) : List Int :=
  if 16 - mw < e then ms.map fun _ => 0 else ms.map fun m => m * 2 ^ e

/-- The bits of a code, most significant first. -/
def bitsOf (w v : Nat) : List Bool := ((List.range w).map fun i => v.testBit (w - 1 - i))

/-- A bit stream as bytes, most significant bit first, padded with zero bits. -/
def packBits (bs : List Bool) : List Nat :=
  (List.range (ceilDiv bs.length 8)).map fun i =>
    (List.range 8).foldl (fun a j => 2 * a + b2n (bs.getD (8 * i + j) false)) 0

/-- One resource block of 24 values in format `fmt` (Table 6.3). -/
def bfpBlock (fmt : Nat) (vs : List Int) : List Nat :=
  if fmt = 0 then vs.flatMap fun v => [code 16 v / 256, code 16 v % 256]
  else
    let mw := bfpMw fmt
    let e := bfpExp mw vs
    e :: packBits ((bfpMant mw e vs).flatMap fun m => bitsOf mw (code mw m))

/-- The hub's sum of the tiles' partials in the order T0 to T3 (R21, R137), scaled and saturated. -/
def combineRe (shift : Nat) (ps : List Int) : Int := satInt 16 (roundDiv (ps.foldl (· + ·) 0) (2 ^ shift))

/-- The unsaturated value lies outside 16 bits. -/
def combineSat (shift : Nat) (ps : List Int) : Bool :=
  roundDiv (ps.foldl (· + ·) 0) (2 ^ shift) != combineRe shift ps

/-! ### The solver (R153 to R156) -/

/-- RESULT of a job, for every tile. -/
def solveResult (s : State) (job r : Nat) : State :=
  forTiles s fun s t => wr (wr s (Reg.SOLVER_STATUS_LAST_JOB t) job) (Reg.SOLVER_STATUS_RESULT t) r

/-- The job of sounding entry `e` would end with this RESULT cause, or 0 (R154, in the order of its list). -/
def solveCause (s : State) (e : SchedEntry) : Nat :=
  let w := bits e.param 24 4
  if !on s Reg.SOLVER_CTRL_EN then 5
  else if !(on s (Reg.WSET_DESC_EN w) && on s (Reg.WSET_DESC_DIR w) && on s (Reg.WSET_DESC_OWNER w)) then 6
  else if !recipAll s then 1
  else if 2 ≤ stageOf s ∨ (enabledRegions s).any (fun g => newtHeld s g) then 2
  else if s.beam.job.isSome then 3
  else 0

/-- The last sounding symbol of entry `id` has been corrected: its job starts, or fails. -/
def solveStart (s : State) (id : Nat) : State :=
  match (s.air.queue ++ s.air.past).find? fun e => e.id == id && e.kind == 3 with
  | none => s
  | some e =>
    let job := bits e.param 28 2
    let w := bits e.param 24 4
    let c := solveCause s e
    if c = 0 then
      let r := rMax s (rd s (Reg.WSET_DESC_CARR w))
      let last := e.first + e.count - 1
      let s0 := last - last % (14 * r : Int)
      let tag := tagOf (s0 + 14 * r * atLeast1 (rd s Reg.SOLVER_CTRL_SOLVE_SLOTS))
      forTiles { s with beam := { s.beam with job := some (job, w, tag) } } fun s t => wr s (Reg.SOLVER_STATUS_BUSY t) 1
    else raise (solveResult s job c) 0x2036 0

/-- The 32-byte header of a solver's set (Table 6.4, R156). -/
def solverHeader (s : State) (w tag : Nat) : List Nat :=
  let be := fun (n v : Nat) => (List.range n).map fun i => bits v (8 * (n - 1 - i)) 8
  [0x57, 0x53, 1, w, 1, rd s (Reg.WSET_DESC_CARR w), rd s (Reg.WSET_DESC_GRAN w), rd s (Reg.WSET_DESC_LCNT w)] ++
  be 2 (gradeUnits s.fuse.grade) ++ be 2 (rd s (Reg.WSET_DESC_PER_SLOT w)) ++ be 4 tag ++ be 4 ((s.wset w).actv.seq + 1) ++
  [1] ++ List.replicate 11 0

/-- The solver has computed its weights (words in the order of R146) and counted its regularised groups. -/
def solveDone (s : State) (ws : List Nat) (ill : Nat) : State :=
  match s.beam.job with
  | none => s
  | some (job, w, tag) =>
    let be4 := fun (v : Nat) => [bits v 24 8, bits v 16 8, bits v 8 8, bits v 0 8]
    let body := solverHeader s w tag ++ ws.flatMap be4
    let s1 := forTiles { s with beam := { s.beam with job := none } } fun s t =>
      bump (wr s (Reg.SOLVER_STATUS_BUSY t) 0) (Reg.SOLVER_STATUS_ILLCOND_CNT t) ill
    let late := tagBefore tag (tagOf (symNow s))
    wsetArrive (solveResult s1 job (if late then 4 else 0)) w (body ++ be4 (crc32 body))

/-! ### The commands' meanings -/

/-- TILE_COMMIT (R157). -/
def execTileCommit (s : State) : Host.Outcome State Fault Refusal :=
  .next (if releasing s then s else tileCommit s)

/-- SOLVE_JOB_START (R154): the sounding entry whose last symbol is corrected. -/
def execSolveJobStart (id : Nat) (s : State) : Host.Outcome State Fault Refusal := .next (solveStart s id)

/-- SOLVE_DONE (R156). -/
def execSolveDone (weights : List Word) (ill : BitVec 8) (s : State) : Host.Outcome State Fault Refusal :=
  .next (solveDone s (weights.map BitVec.toNat) ill.toNat)

/-- CORR_AGE_EXPIRED (R154). -/
def execCorrAgeExpired (u : Fin 128) (s : State) : Host.Outcome State Fault Refusal :=
  .next (if unitWhole s u then
    let was := recipAll s
    let s1 := wr s (Reg.SOLVER_STATUS_RECIP_VALID ((u : Nat) / 32)) 0
    raiseIf was s1 0x2037 0
  else s)

end Sys2Proof.Machine
end

