-- ==== Sys2Proof/Machine/Time.lean ====
section
/-! DEFINITION. Time (spec/12_time.md): PTP exchanges, step detectors, source selection, the states of the balance, steering and
PPS. -/

namespace Sys2Proof.Machine

/-! ### Units and parts -/

/-- The balance in units of 2^−16 ns, as correctionField counts. -/
def now16 (s : State) : Int := (s.time.bal / 2 ^ 24 : Nat)

/-- A latency in ps as 2^−16 ns. -/
def ps16 (ps : Nat) : Int := (ps * 65536 / 1000 : Nat)

/-- The port whose exchanges count (R275): the active upstream port, P0 in the bonded mode. -/
def timePort (s : State) : Nat := activeUp s

def State.dom (s : State) (d : Nat) : DomS := if d = 0 then s.time.domA else s.time.domB
def State.modDom (s : State) (d : Nat) (g : DomS → DomS) : State :=
  if d = 0 then { s with time := { s.time with domA := g s.time.domA } }
  else { s with time := { s.time with domB := g s.time.domB } }

def domEn (s : State) (d : Nat) : Bool := on s (if d = 0 then Reg.TIME_DOMAIN_EN_A else Reg.TIME_DOMAIN_EN_B)
def domNum (s : State) (d : Nat) : Nat := rd s (if d = 0 then Reg.TIME_DOMAIN_DOMAIN_A else Reg.TIME_DOMAIN_DOMAIN_B)
def validFld (d : Nat) : Fld := if d = 0 then Reg.TIME_STATUS_VALID_A else Reg.TIME_STATUS_VALID_B
def suspectFld (d : Nat) : Fld := if d = 0 then Reg.TIME_STATUS_SUSPECT_A else Reg.TIME_STATUS_SUSPECT_B
def outlierFld (d : Nat) : Fld := if d = 0 then Reg.TIME_COUNT_OUTLIER_A else Reg.TIME_COUNT_OUTLIER_B

/-- The enabled domain with this domainNumber. -/
def domOf (s : State) (num : Nat) : Option Nat := [0, 1].find? fun d => domEn s d && domNum s d == num

/-- ASYM_STEP in 1/16 ns. -/
def asymStep (s : State) : Int := (16 * atLeast1 (rd s Reg.TIME_SERVO_ASYM_STEP) : Nat)

def tFree : Nat := 0
def tAcquire : Nat := 1
def tLocked : Nat := 2
def tHoldover : Nat := 3

/-! ### The Chorus view (R278) -/

/-- Peers paired within PARENT_LOSS seconds. -/
def pairedPeers (s : State) : List Nat :=
  (List.range 64).filter fun i =>
    let at' := s.chorus.pairedAt.get i 0
    on s (Reg.CHORUS_PEER0_VALID i) && at' != 0 &&
      decide (balSec s + 1 ≤ at' + atLeast1 (rd s Reg.CHORUS_UNITS_PARENT_LOSS))

/-- Mean of −OFS over those peers, 1/16 ns. -/
def chorusView (s : State) : Option Int :=
  let ps := pairedPeers s
  if ps.isEmpty then none
  else some (-(ps.foldl (fun a i => a + rdI s (Reg.CHORUS_PEER3_OFS i)) 0) / (1000 * ps.length : Nat))

/-! ### Sources (R279) -/

def domValid (s : State) (d : Nat) : Bool := on s (validFld d)

/-- Both domains are SUSPECT, or each disagrees with the Chorus view (R278): the balance holds over. -/
def noTrust (s : State) : Bool :=
  (on s Reg.TIME_STATUS_SUSPECT_A && on s Reg.TIME_STATUS_SUSPECT_B) ||
  (domValid s 0 && domValid s 1 &&
    match chorusView s, s.time.domA.last, s.time.domB.last with
    | some v, some a, some b => decide (asymStep s < (a - v).natAbs) && decide (asymStep s < (b - v).natAbs)
    | _, _, _ => false)

def chorusSource (s : State) : Bool :=
  on s Reg.CHORUS_CTRL_TIME_EN && !on s Reg.CHORUS_CTRL_ROOT && on s Reg.CHORUS_STATUS_PARENT_OK

/-- The first available source, as the SRC code of Table 12.7. -/
def sourceOf (s : State) : Nat :=
  let sel := rd s Reg.TIME_STATUS_SEL
  if noTrust s then 0
  else if chorusSource s then 3
  else if domValid s sel then sel + 1
  else if domValid s (1 - sel) then 2 - sel
  else if on s Reg.TIME_PPS_IN_SRC_EN && on s Reg.TIME_PPS_IN_EN && s.time.ppsOk then 4
  else 0

/-! ### Validity and selection (R276, R279) -/

/-- The conditions of R276. -/
def domHolds (s : State) (d : Nat) : Bool :=
  let x := s.dom d
  domEn s d && x.ann && decide (x.cls ≤ rd s Reg.TIME_CTRL_CLASS_MAX) && x.exch && !on s (suspectFld d)

/-- Refresh one domain: a loss of validity other than by SUSPECT raises event 0x4005, and four good exchanges end it. -/
def refreshDom (s : State) (d : Nat) : State :=
  if domValid s d && !domHolds s d then
    let s1 := wr s (validFld d) 0
    if on s (suspectFld d) then s1
    else raise (s1.modDom d fun x => { x with lost := true, good := 0 }) 0x4005 0
  else if !domValid s d && domHolds s d && !(s.dom d).lost then wr s (validFld d) 1
  else s

/-- SEL leaves PREF when it ceases to be valid. -/
def refreshSel (s : State) (prefWas : Bool) : State :=
  let p := rd s Reg.TIME_DOMAIN_PREF
  if prefWas && !domValid s p && rd s Reg.TIME_STATUS_SEL == p then
    raise (wr s Reg.TIME_STATUS_SEL (1 - p)) 0x4004 0
  else s

/-- Mean of the STEER values of the last 16 s (128,000 updates). -/
def steerMean (s : State) : Int :=
  if s.time.hist.isEmpty then rdI s Reg.TIME_STEER_STEER
  else s.time.hist.foldl (· + ·) 0 / (s.time.hist.length : Nat)

/-- Enter HOLDOVER (R280, R281): STEER is frozen at its mean; DRIFT is zero with less than 100 s of LOCKED history,
otherwise the fit's slope, an open value. -/
def enterHoldover (s : State) : State :=
  let d := if 800000 ≤ s.time.lockTicks then takeFree s 16 else (0, s)
  let s1 := wr (wr d.2 Reg.TIME_HOLD_DRIFT d.1) Reg.TIME_HOLD_HOLD_ERR 0
  let s2 := { s1 with time := { s1.time with holdSteer := steerMean s1, holdStart := s1.time.bal } }
  raise (wr s2 Reg.TIME_STATUS_STATE tHoldover) 0x4002 0

/-- Refresh validity, SEL, SRC and the loss of the last source in LOCKED. -/
def refreshTime (s : State) : State :=
  let was := domValid s (rd s Reg.TIME_DOMAIN_PREF)
  let s1 := refreshSel (refreshDom (refreshDom s 0) 1) was
  let src := sourceOf s1
  let s2 := wr s1 Reg.TIME_STATUS_SRC src
  if src = 0 ∧ rd s2 Reg.TIME_STATUS_STATE = tLocked then enterHoldover s2 else s2

/-! ### The servo's states (R280, Table 12.3) -/

/-- STEP_THR in 1/16 ns. -/
def stepThr (s : State) : Int := (16000 * 2 ^ rd s Reg.TIME_SERVO_STEP_THR : Nat)

/-- Remove an error (1/16 ns) from the balance at once. -/
def stepBalance (s : State) (e : Int) : State :=
  raise { s with time := { s.time with bal := ((s.time.bal : Int) - e * 2 ^ 36).toNat, stepHeld := false } } 0x4006 0

/-- An error above STEP_THR: stepped outside SERVE, held and slewed in SERVE. -/
def stepOrSlew (s : State) (e : Int) : State :=
  if decide (stepThr s < e.natAbs) then
    if modeOf s = mServe then
      { stickyEvent s Reg.TIME_STATUS_STEP_HELD 0x4007 0 with time := { s.time with stepHeld := true } }
    else stepBalance s e
  else s

/-- An error of the source in use reaches the servo. -/
def servoError (s0 : State) (e : Int) : State :=
  let s := { s0 with time := { s0.time with srcErr := e } }
  let st := rd s Reg.TIME_STATUS_STATE
  if st = tFree ∧ s.time.freq = 0 then { s with time := { s.time with freq := 1 } }
  else if st = tFree ∨ st = tHoldover then
    let s1 := wr (stepOrSlew s e) Reg.TIME_STATUS_STATE tAcquire
    { s1 with time := { s1.time with freq := 0, near := 0 } }
  else
    let s1 := if modeOf s = mServe ∨ s.time.stepHeld then stepOrSlew s e else s
    let near := if e.natAbs ≤ 16 * atLeast1 (rd s Reg.TIME_SERVO_LOCK_THR) then s1.time.near + 1 else 0
    let s2 := { s1 with time := { s1.time with near := near } }
    if st = tAcquire ∧ 4 ≤ near then
      raise (wr { s2 with time := { s2.time with wasLocked := true } } Reg.TIME_STATUS_STATE tLocked) 0x4001 0
    else s2

/-! ### The step detector (R278) -/

/-- `x` put into its place in a rising list. -/
def insertSorted (x : Int) : List Int → List Int
  | [] => [x]
  | y :: r => if x ≤ y then x :: y :: r else y :: insertSorted x r

/-- Median of at most four values; the mean of the two middle ones of an even number. -/
def medianOf (l : List Int) : Int :=
  let m := l.foldr insertSorted []
  let n := m.length
  if n % 2 = 1 then m.getD (n / 2) 0 else (m.getD (n / 2 - 1) 0 + m.getD (n / 2) 0) / 2

/-- A cross-check is available to domain `d`. -/
def crossAvail (s : State) (d : Nat) : Bool := domValid s (1 - d) || (chorusView s).isSome

/-- Changes `a` and `b` have one sign and are equal within ASYM_STEP/2. -/
def sameChange (s : State) (a b : Int) : Bool :=
  decide (0 < a * b) && decide (2 * (a - b).natAbs ≤ asymStep s)

/-- The pending offset of domain `d` that lies `chg` from its median is confirmed. -/
def confirmed (s : State) (d : Nat) (chg : Int) : Bool :=
  (domValid s (1 - d) && match (s.dom (1 - d)).last, (s.dom (1 - d)).acc with
    | some l, a :: r => sameChange s chg (l - medianOf (a :: r))
    | _, _ => false) ||
  (match chorusView s, (s.dom d).view0 with
    | some v, some v0 => sameChange s chg (v - v0)
    | _, _ => false)

/-- Accept one offset of domain `d`. -/
def acceptOffset (s : State) (d : Nat) (th : Int) : State :=
  let v := chorusView s
  let s1 := (wr s (Reg.TIME_OFS_OFS d) (code 32 th)).modDom d fun x => { x with acc := (th :: x.acc).take 4, view0 := v }
  if sourceOf s1 = d + 1 then servoError s1 th else s1

/-- Accept all pending offsets of domain `d` in order. -/
def acceptPending (s : State) (d : Nat) : State :=
  forEach (s.dom d).pend (s.modDom d fun x => { x with pend := [] }) fun s th => acceptOffset s d th

/-- The step detector takes the offset `th` of an exchange of domain `d`. -/
def stepDetect (s0 : State) (d : Nat) (th : Int) : State :=
  let s := s0.modDom d fun x => { x with last := some th }
  if on s (suspectFld d) then
    let n := if sourceOf s != 0 && decide ((th - s.time.srcErr).natAbs ≤ asymStep s) then (s.dom d).back + 1 else 0
    if 16 ≤ n then
      acceptOffset ((wr s (suspectFld d) 0).modDom d fun x => { x with back := 0, acc := [], pend := [] }) d th
    else s.modDom d fun x => { x with back := n }
  else
    match (s.dom d).acc with
    | [] => acceptOffset s d th
    | a :: r =>
      let med := medianOf (a :: r)
      if (th - med).natAbs ≤ asymStep s then
        let n := (s.dom d).pend.length
        acceptOffset (bump (s.modDom d fun x => { x with pend := [] }) (outlierFld d) n) d th
      else
        let s1 := s.modDom d fun x => { x with pend := x.pend ++ [th] }
        if confirmed s1 d (th - med) then acceptPending s1 d
        else if crossAvail s1 d && decide (2 ≤ (s1.dom d).pend.length) then
          raise ((wr s1 (suspectFld d) 1).modDom d fun x => { x with pend := [], back := 0 }) 0x4003 0
        else s1

/-- An exchange of domain `d` completes (R275, R276). -/
def exchangeDone (s : State) (d : Nat) (dly th : Int) : State :=
  let s1 := (wr s (Reg.TIME_DLY_DLY d) (code 32 dly)).modDom d fun x =>
    { x with exch := true, t1 := none, t2 := none, t3 := none, good := x.good + 1,
             lost := x.lost && decide (x.good + 1 < 4) }
  refreshTime (stepDetect (refreshTime s1) d th)

/-! ### Messages (R274) -/

/-- A consumed message that is well formed; any other counts in MSG_ERR. -/
def msgOk (m : PtpMsg) : Bool := m.version == 2#4 && decide (m.minor.toNat ≤ 1) && m.lenOk

/-- A message's timestamp in units of 2^−16 ns. -/
def msgTime (m : PtpMsg) : Int := ((m.sec.toNat * 1000000000 + m.ns.toNat) * 65536 : Nat)

/-- Consume message `m` of an enabled domain. -/
def consumePtp (s : State) (m : PtpMsg) (f : Nat → State) : State :=
  match domOf s m.domain.toNat with
  | none => s
  | some d => if msgOk m then f d else bump s Reg.TIME_COUNT_MSG_ERR 1

/-- clockIdentity and portNumber of the device (R274). -/
def ownIdentity (s : State) : List Nat :=
  [0xED, 0x0A, 0x11, 0xFF, 0xFE, 0x00] ++ beBytes 2 (devId s) ++ beBytes 2 (timePort s + 1)

/-- Send a Delay_Req of domain `d`, at most once per logMinDelayReqInterval; t3 is taken at egress. -/
def delayReq (s : State) (d seq : Nat) : State :=
  let x := s.dom d
  let due := match x.reqLog, x.reqAt with
    | some l, some t => if 0 ≤ l then decide (t + nsUnits * 1000000000 * 2 ^ l.toNat ≤ s.time.bal)
                        else decide (t + nsUnits * 1000000000 / 2 ^ (-l).toNat ≤ s.time.bal)
    | _, _ => true
  if due then
    let t3 := now16 s + ps16 (rd s (Reg.TIME_PORT_LAT_LAT_OUT (timePort s)))
    send (s.modDom d fun x => { x with t3 := some t3, reqAt := some s.time.bal })
      { port := timePort s, op := 0x50, payload := [0x01, 0x02] ++ beBytes 2 44 ++ beBytes 1 (domNum s d) ++ ownIdentity s ++ beBytes 2 seq }
  else s.modDom d fun x => { x with t3 := none }

/-- Sync (R273, R274): t2 at ingress; a one-step Sync carries t1. -/
def ptpSync (s : State) (p : Nat) (m : PtpMsg) : State :=
  consumePtp s m fun d =>
    if p = timePort s then
      let t2 := now16 s - ps16 (rd s (Reg.TIME_PORT_LAT_LAT_IN p))
      let t1 := msgTime m + m.corr.toInt
      delayReq (s.modDom d fun x => { x with
        seq := m.seq.toNat, t2 := some t2, wait := m.twoStep, t1 := if m.twoStep then some m.corr.toInt else some t1 }) d m.seq.toNat
    else s

/-- Follow_Up: t1 of the two-step Sync with its sequence number, within 1 s of it. -/
def followUp (s : State) (p : Nat) (m : PtpMsg) : State :=
  consumePtp s m fun d =>
    let x := s.dom d
    match x.t1, x.t2 with
    | some c, some t2 =>
      if p = timePort s ∧ x.wait ∧ x.seq = m.seq.toNat ∧ now16 s - t2 ≤ 1000000000 * 65536 then
        s.modDom d fun x => { x with wait := false, t1 := some (c + msgTime m + m.corr.toInt) }
      else s
    | _, _ => s

/-- Delay_Resp: t4 completes the exchange (R275). A correction of the request path lies in t4's correctionField. -/
def delayResp (s : State) (p : Nat) (m : PtpMsg) : State :=
  consumePtp s m fun d =>
    let x := s.dom d
    if p = timePort s ∧ m.own ∧ !x.wait then
      let s1 := s.modDom d fun x => { x with reqLog := some m.log.toInt }
      match x.t1, x.t2, x.t3 with
      | some t1, some t2, some t3 =>
        let t4 := msgTime m - m.corr.toInt
        let dd := ((t2 - t1) + (t4 - t3)) / 2
        let th := (t2 - t1) - dd - rdI s (Reg.TIME_ASYM_ASYM p) * 4096
        exchangeDone s1 d (dd / 4096) (th / 4096)
      | _, _, _ => s1
    else s

/-- Announce (R276). -/
def announce (s : State) (m : PtpMsg) : State :=
  consumePtp s m fun d =>
    refreshTime (s.modDom d fun x => { x with ann := true, gm := m.gm.toNat, cls := m.cls.toNat })

/-- After an upstream switch each domain restarts its d and its step detector (R275). -/
def timeSwitch (s : State) : State :=
  let g := fun (x : DomS) => { x with t1 := none, t2 := none, t3 := none, wait := false, acc := [], pend := [] }
  (s.modDom 0 g).modDom 1 g

/-! ### Steering (R280, R281) -/

def steerMax : Int := 2000000

/-- STEER after an update towards `target`: at most 1 ppb away from `cur`, within ±20 ppm. -/
def steerNext (cur target : Int) : Int :=
  let t := max (cur - 100) (min (cur + 100) target)
  max (-steerMax) (min steerMax t)

/-- STEER in HOLDOVER: the frozen mean plus DRIFT × elapsed time. -/
def holdTarget (s : State) : Int :=
  s.time.holdSteer + rdI s Reg.TIME_HOLD_DRIFT * ((s.time.bal - s.time.holdStart) / (nsUnits * 1000000000) : Nat) / 10

/-- One update of the servo, each 125 µs. The loop's output is an open value while a source drives it. -/
def steerUpdate (s : State) : State :=
  let st := rd s Reg.TIME_STATUS_STATE
  let cur := rdI s Reg.TIME_STEER_STEER
  let o := if st = tHoldover then (0, s) else takeFree s 32
  let target := if st = tHoldover then holdTarget s else if st = tFree then cur else sgn 32 o.1
  let nxt := steerNext cur target
  let h := if st = tHoldover then takeFree o.2 16 else (rd o.2 Reg.TIME_HOLD_HOLD_ERR, o.2)
  let s1 := wr (wr h.2 Reg.TIME_STEER_STEER (code 24 nxt)) Reg.TIME_HOLD_HOLD_ERR h.1
  let s2 := { s1 with time := { s1.time with
    hist := (nxt :: s1.time.hist).take 128000
    lockTicks := if st = tLocked then min (s1.time.lockTicks + 1) 8000000 else s1.time.lockTicks } }
  raiseIf (nxt.natAbs == steerMax.natAbs && decide (steerMax.natAbs ≤ target.natAbs) && cur.natAbs != steerMax.natAbs) s2 0x4008 0

/-! ### Commit (R285) -/

def timeGroup : Group := ⟨[regsAt 0x040000 0x050000]⟩

/-- One edge of REF: the balance advances by (10^9/f_REF) × (1 + STEER) ns, f_REF by CLKSEL (R271), rounded down to a unit of 2^−40 ns. It stands
while REF is away, in a reset of PACKAGE reach, and in BRUMATE, where TIME is off. -/
def refTick (s : State) : State :=
  let k := rd s Reg.BOOT_STRAPS_CLKSEL
  if k = 3 ∨ 0 ∈ s.rst.badClocks ∨ packageHeld s ∨ modeOf s = mBrumate then s
  else
    let num := 3125 * ([2, 1, 4].getD k 0) * nsUnits * (100000000000 + rdI s Reg.TIME_STEER_STEER).toNat
    { s with time := { s.time with bal := s.time.bal + num / (1536 * 100000000000) } }

def timePairOk (s : State) : Bool :=
  let a := rdSh s Reg.TIME_DOMAIN_EN_A == 1
  let b := rdSh s Reg.TIME_DOMAIN_EN_B == 1
  (!(a && b) || rdSh s Reg.TIME_DOMAIN_DOMAIN_A != rdSh s Reg.TIME_DOMAIN_DOMAIN_B) &&
  (if rdSh s Reg.TIME_DOMAIN_PREF = 0 then a else b)

def timeCommit (s : State) : State :=
  if modeOf s = mBoot then s
  else
    let r := commitGroup s timeGroup (failAt (timePairOk s) Reg.TIME_DOMAIN_DOMAIN_A.off)
    if r.2 then
      let restart := fun (t : State) (d : Nat) =>
        if domNum s d != domNum t d || domEn s d != domEn t d then (wr (wr t (validFld d) 0) (suspectFld d) 0).modDom d fun _ => {}
        else t
      refreshTime (restart (restart r.1 0) 1)
    else r.1

/-! ### The commands' meanings -/

/-- PTP_SYNC (R274): a Sync that arrives on port `p`. -/
def execPtpSync (p : Fin 2) (m : PtpMsg) (s : State) : Host.Outcome State Fault Refusal := .next (ptpSync s p m)

/-- FOLLOW_UP (R274). -/
def execFollowUp (p : Fin 2) (m : PtpMsg) (s : State) : Host.Outcome State Fault Refusal := .next (followUp s p m)

/-- DELAY_RESP (R275). -/
def execDelayResp (p : Fin 2) (m : PtpMsg) (s : State) : Host.Outcome State Fault Refusal := .next (delayResp s p m)

/-- ANNOUNCE (R276). -/
def execAnnounce (m : PtpMsg) (s : State) : Host.Outcome State Fault Refusal := .next (announce s m)

/-- PTP_FORWARD (R277): a forwarded event message with correctionField `corr` leaves on port `out`; its residence in units of
2^−16 ns is added. -/
def execPtpForward (out : Fin 4) (corr residence : BitVec 64) (s : State) : Host.Outcome State Fault Refusal :=
  .next (send s { port := out, op := 0x50, payload := beBytes 8 (corr + residence).toNat })

/-- DOMAIN_LOST (R276): the limit of the Announces (`ann`) or of the exchanges passes. -/
def execDomainLost (d : Fin 2) (ann : Bool) (s : State) : Host.Outcome State Fault Refusal :=
  .next (refreshTime (s.modDom d fun x => if ann then { x with ann := false } else { x with exch := false }))

/-- STEP_HOLD_EXPIRE (R278). -/
def execStepHoldExpire (d : Fin 2) (s : State) : Host.Outcome State Fault Refusal :=
  .next (if crossAvail s d || (s.dom d).pend.isEmpty then s else refreshTime (acceptPending s d))

/-- DOMAIN_REVERT (R279). -/
def execDomainRevert (s : State) : Host.Outcome State Fault Refusal :=
  let p := rd s Reg.TIME_DOMAIN_PREF
  .next (if domValid s p && rd s Reg.TIME_STATUS_SEL != p then
    refreshTime (raise (wr s Reg.TIME_STATUS_SEL p) 0x4004 0)
  else s)

/-- STEER_UPDATE (R280). -/
def execSteerUpdate (s : State) : Host.Outcome State Fault Refusal := .next (steerUpdate s)

/-- ACQUIRE_TIMEOUT (Table 12.3): no source for 8 intervals. -/
def execAcquireTimeout (s : State) : Host.Outcome State Fault Refusal :=
  .next (if rd s Reg.TIME_STATUS_STATE = tAcquire ∧ sourceOf s = 0 then
    if s.time.wasLocked then enterHoldover s else wr s Reg.TIME_STATUS_STATE tFree
  else s)

/-- TILE_PHASE_CHECK (R283): residual phase `ph` of tile `t`, ps. -/
def execTilePhaseCheck (t : Fin 4) (ph : BitVec 16) (s : State) : Host.Outcome State Fault Refusal :=
  .next (if tileEnabled s t then
    raiseIf (decide (50 < ph.toInt.natAbs)) (wr s (Reg.TIME_TILE_PH_TILE_PH t) ph.toNat) 0x4009 0
  else s)

/-- TIME_COMMIT (R285). -/
def execTimeCommit (s : State) : Host.Outcome State Fault Refusal := .next (timeCommit s)

/-- SNAP (Table 12.4). -/
def execSnap (s : State) : Host.Outcome State Fault Refusal :=
  .next (wr (wr (wr (wr s Reg.TIME_SNAP0_SEC_HI (bits (balSec s) 32 32)) Reg.TIME_SNAP1_SEC_LO (bits (balSec s) 0 32))
    Reg.TIME_SNAP2_NS (balNs s)) Reg.TIME_SNAP3_FRAC (s.time.bal / 2 ^ 24 % 65536))

/-- CLR_SUSPECT (R278): the detector restarts and takes the domain's current level as true. -/
def execClrSuspect (d : Fin 2) (s : State) : Host.Outcome State Fault Refusal :=
  .next (refreshTime ((wr s (suspectFld d) 0).modDom d fun x => { x with acc := [], pend := [], back := 0 }))

/-- PPS_OUT (R284): the ball rises at a balance second plus OUT_OFS; low in FREE. -/
def execPpsOut (s : State) : Host.Outcome State Fault Refusal :=
  .next (if on s Reg.TIME_PPS_OUT_EN && rd s Reg.TIME_STATUS_STATE != tFree then
    { s with time := { s.time with ppsRise := some s.time.bal } }
  else s)

/-- PPS_OUT is high: since its last rise, for WIDTH ms. -/
def ppsHigh (s : State) : Bool :=
  rd s Reg.TIME_STATUS_STATE != tFree && on s Reg.TIME_PPS_OUT_EN &&
  match s.time.ppsRise with
  | some t => decide (s.time.bal < t + atLeast1 (rd s Reg.TIME_PPS_WIDTH) * 1000000 * nsUnits)
  | none => false

/-- PPS_IN (R284): the edge is timestamped now against the nearest balance second. -/
def execPpsIn (s : State) : Host.Outcome State Fault Refusal :=
  .next (if on s Reg.TIME_PPS_IN_EN then
    let f : Int := (s.time.bal / 2 ^ 36 % 16000000000 : Nat)
    let ofs := if f < 8000000000 then f else f - 16000000000
    let s1 := wr s Reg.TIME_PPS_IN_PPS_IN (code 32 ofs)
    let s2 := refreshTime { s1 with time := { s1.time with ppsOk := true } }
    if sourceOf s2 = 4 then servoError s2 ofs else s2
  else s)

/-- PPS_IN_LOST (R284): no edge for 1.5 s. -/
def execPpsInLost (s : State) : Host.Outcome State Fault Refusal :=
  .next (if on s Reg.TIME_PPS_IN_EN then
    refreshTime { raise (wr s Reg.TIME_STATUS_IN_LOST 1) 0x400A 0 with time := { s.time with ppsOk := false } }
  else s)

end Sys2Proof.Machine
end

