-- ==== Sys2Proof/Machine/Cal.lean ====
section
/-! DEFINITION. Calibration (spec/08_calibration.md): running, checking and writing calibrations, the tourbillon, strikes, release,
reciprocity, coupling and the calibration store. -/

namespace Sys2Proof.Machine

/-! ### Parts -/

def State.ucal (s : State) (u : Nat) : UnitCal := s.cal.units.get u {}
def State.modUcal (s : State) (u : Nat) (g : UnitCal → UnitCal) : State :=
  { s with cal := { s.cal with units := s.cal.units.set u {} (g (s.ucal u)) } }
def State.ccal (s : State) (c : Nat) : ClusterCal := s.cal.clusters.get c {}
def State.modCcal (s : State) (c : Nat) (g : ClusterCal → ClusterCal) : State :=
  { s with cal := { s.cal with clusters := s.cal.clusters.set c {} (g (s.ccal c)) } }

/-- Write the shadow copy of a field of commit group `g`: the group is tried again at its next commit (R11). -/
def wrShIn (s : State) (g : Group) (f : Fld) (v : Nat) : State :=
  wrSh { s with silent := s.silent.filter (· != g.id) } f v

/-- Steps of a calibration (Table 8.1); one for a verification. -/
def calSteps (cal : Nat) : Nat := [2, 6, 12, 32, 4, 6, 8, 6].getD cal 1

/-- Side of a calibration: 0 RX, 1 TX, 2 the cluster's ORX. -/
def calSide (cal : Nat) : Nat := if cal ≤ 2 ∨ cal = 16 then 0 else if cal = 3 then 2 else 1

/-- A store value has changed (R200). -/
def storeChanged (s : State) : State := { s with cal := { s.cal with changed := true } }

/-! ### Trim converters (Table 8.3) -/

/-- Width and signedness of trim INDEX `i`; none for other codes. -/
def trimSpec (i : Nat) : Option (Nat × Bool) :=
  if i ≤ 3 then some (8, true) else if i = 4 then some (6, true) else if i ≤ 6 then some (10, true)
  else if i ≤ 8 then some (8, true) else if i ≤ 0x10 then some (6, false) else if i ≤ 0x12 then some (8, true)
  else if 0x20 ≤ i ∧ i ≤ 0x3F then some (16, true) else none

/-- The value held by the converter of cluster `c`, position `pos`, INDEX `i`. -/
def trimGet (s : State) (c pos i : Nat) : Nat :=
  if i = 0x11 ∨ i = 0x12 then s.cal.orxTrims.get (16 * c + 2 * pos + (i - 0x11)) 0
  else s.cal.trims.get (64 * (8 * c + pos) + i) 0

/-- Set a converter, keeping its width. -/
def trimSet (s : State) (c pos i v : Nat) : State :=
  match trimSpec i with
  | none => s
  | some (w, _) =>
    if i = 0x11 ∨ i = 0x12 then
      { s with cal := { s.cal with orxTrims := s.cal.orxTrims.set (16 * c + 2 * pos + (i - 0x11)) 0 (v % 2 ^ w) } }
    else { s with cal := { s.cal with trims := s.cal.trims.set (64 * (8 * c + pos) + i) 0 (v % 2 ^ w) } }

/-- What CLUSTER_TRIM_DATA reads: the selected trim, sign-extended to 16 bits. -/
def trimRead (s : State) (c : Nat) : Nat :=
  let i := rd s (Reg.CLUSTER_TRIM_SEL_INDEX c)
  match trimSpec i with
  | none => 0
  | some (w, sg) =>
    let v := trimGet s c (rd s (Reg.CLUSTER_TRIM_SEL_POS c)) i
    if sg then code 16 (sgn w v) else v

/-- A write of CLUSTER_TRIM_DATA: made in DIAG only. -/
def trimWrite (s : State) (c v : Nat) : State :=
  if modeOf s = mDiag then
    trimSet s c (rd s (Reg.CLUSTER_TRIM_SEL_POS c)) (rd s (Reg.CLUSTER_TRIM_SEL_INDEX c)) v
  else cfgIgnored s (Reg.CLUSTER_TRIM_DATA_VALUE c).off

/-- A result's trim waits for the next symbol boundary released to its cluster (R184); key 4096·c + 512·pos + INDEX. -/
def trimLater (s : State) (c pos i v : Nat) : State :=
  { s with cal := { s.cal with pend := s.cal.pend ++ [(4096 * c + 512 * pos + i, v)] } }

/-! ### Checks (Table 8.1, Table 8.2) -/

def valAt (r : CalResult) (k : Nat) : Nat := (r.vals.getD k 0).toNat

/-- A trim lies within `m` codes of an end of its range. -/
def nearEnd (w : Nat) (sg : Bool) (m v : Nat) : Bool :=
  if sg then decide (sgn w (v % 2 ^ w) ≤ -(2 ^ (w - 1) : Int) + m) || decide ((2 ^ (w - 1) : Int) - 1 - m ≤ sgn w (v % 2 ^ w))
  else decide (v % 2 ^ w ≤ m) || decide (2 ^ w - 1 - m ≤ v % 2 ^ w)

/-- The range-end checks on the values themselves. -/
def trimAtEnd (cal : Nat) (r : CalResult) : Bool :=
  if cal = 0 then (List.range 4).any (fun k => nearEnd 8 true 2 (valAt r k)) || nearEnd 6 true 2 (valAt r 4)
  else if cal = 1 then nearEnd 8 true 4 (valAt r 0) || nearEnd 8 true 4 (valAt r 1)
  else if cal = 4 then nearEnd 10 true 4 (valAt r 0) || nearEnd 10 true 4 (valAt r 1)
  else if cal = 5 then nearEnd 8 true 4 (valAt r 0) || nearEnd 8 true 4 (valAt r 1)
  else false

/-- The residual checks on the values themselves: W0 to W2 within ±0.125, K_u within ±3 dB. -/
def valuesBeyond (cal : Nat) (r : CalResult) : Bool :=
  if cal = 1 then (List.range 6).any fun k => decide (4096 < (sgn 16 (valAt r (2 + k) % 65536)).natAbs)
  else if cal = 2 then (List.range 32).any fun k => decide (300 < (sgn 16 (valAt r k % 65536)).natAbs)
  else false

/-- LOOP has moved more than 100 ps (1,600/16 ps) or 15° (2,730 codes) since its last pass, but for the first pass after a cold
start. -/
def loopMoved (s : State) (u : Nat) (r : CalResult) : Bool :=
  let x := s.ucal u
  x.loopValid && !s.cal.loopFirst.contains u &&
  (decide (1600 < (sgn 32 (valAt r 0) - sgn 32 x.loopDelay).natAbs) ||
   decide (2730 < (sgn 16 (code 16 ((valAt r 1 : Int) - x.loopPhase))).natAbs))

/-- The reason of a result, 0 when it passes: the lowest code that applies. -/
def calReason (s : State) (u cal : Nat) (r : CalResult) : Nat :=
  if trimAtEnd cal r then 1
  else if valuesBeyond cal r then 2
  else if (r.reason : Nat) ≠ 0 then r.reason
  else if cal = 7 ∧ loopMoved s u r then 6
  else 0

/-! ### Writing a result (R184) -/

/-- The active unit of R159. -/
def activeUnit (s : State) : Nat := rd s Reg.CHORUS_STATUS_ACTIVE_UNIT

def writeIrr (s : State) (u : Nat) (r : CalResult) : State :=
  if on s (Reg.UNIT_RX_CTRL_TRIM_LOCK u) then s
  else
    let g := rxGroup u
    let s1 := wrShIn (wrShIn s g (Reg.UNIT_RX_IRR_AMP u) (valAt r 0)) g (Reg.UNIT_RX_IRR_PHS u) (valAt r 1)
    forEach (List.range 3) s1 fun s k =>
      wrShIn (wrShIn s g (Reg.UNIT_RX_IQC_RE u k) (valAt r (2 + 2 * k))) g (Reg.UNIT_RX_IQC_IM u k) (valAt r (3 + 2 * k))

/-- LOOP's values stand for the unit, and for the active unit as the Chorus asymmetry (R175, R194). -/
def writeLoop (s : State) (u : Nat) (r : CalResult) : State :=
  let s1 := s.modUcal u fun x => { x with loopDelay := valAt r 0, loopPhase := valAt r 1 % 65536, loopValid := true }
  let s2 := { s1 with cal := { s1.cal with loopFirst := s1.cal.loopFirst.filter (· != u) } }
  if u = activeUnit s then
    wr (wr (wr (wr s2 Reg.CHORUS_ASYM_T_DELTA (valAt r 0)) Reg.CHORUS_ASYM_P_GAMMA (valAt r 1)) Reg.CHORUS_ASYM_P_VALID 1)
      Reg.CHORUS_STATUS_ASYM_VALID 1
  else s2

def writeResult (s : State) (c pos cal : Nat) (r : CalResult) : State :=
  let u := 8 * c + pos
  let trims := fun (s : State) (first n : Nat) => forEach (List.range n) s fun s k => trimLater s c pos (first + k) (valAt r k)
  storeChanged
    (if cal = 0 then trims s 0 5 else if cal = 1 then writeIrr s u r else if cal = 2 then trims s 0x20 32
     else if cal = 3 then forEach (List.range 16) s fun s k => trimLater s c (k / 2) (0x11 + k % 2) (valAt r k)
     else if cal = 4 then trims s 5 2 else if cal = 5 then trims s 7 2 else if cal = 6 then trims s 9 8
     else if cal = 7 then writeLoop s u r else s)

/-! ### Strikes and degradation (R191 to R193) -/

def strikesOf (s : State) (u cal : Nat) : Nat := bits (rd s (Reg.CLUSTER_CAL_STRIKE_STRIKES (u / 8) (u % 8))) (2 * cal) 2

def setStrikes (s : State) (u cal n : Nat) : State :=
  let f := Reg.CLUSTER_CAL_STRIKE_STRIKES (u / 8) (u % 8)
  wr s f (rd s f - strikesOf s u cal * 4 ^ cal + n * 4 ^ cal)

/-- Degrade a side of a unit (0 RX, 1 TX). -/
def degrade (s : State) (u side : Nat) : State :=
  let f := if side = 0 then Reg.CLUSTER_CAL_STATUS_DEG_RX (u / 8) else Reg.CLUSTER_CAL_STATUS_DEG_TX (u / 8)
  let s1 := wr s f (setBit (rd s f) (u % 8))
  raise (s1.modUnit u fun x => if side = 0 then { x with degRx := true } else { x with degTx := true }) 0x2051 (u + 256 * side)

/-- Bits of the struck-out calibrations of a side. -/
def struckOf (s : State) (u side : Nat) : List Nat :=
  (List.range 11).filter fun n => bit (s.ucal u).struck n && calSide n == side

/-- A failure of calibration `cal` of unit `u` (R183, R191). -/
def calFail (s : State) (u cal reason : Nat) : State :=
  let c := u / 8
  let old := if cal = 3 then (s.ccal c).orxStrikes else strikesOf s u cal
  let n := min (old + 1) 3
  let s1 := if cal = 3 then s.modCcal c fun x => { x with orxStrikes := n } else setStrikes s u cal n
  let s2 := bump (wr s1 (Reg.CLUSTER_CAL_STATUS_FAIL c) 1) (Reg.CLUSTER_CAL_COUNT_FAIL_CNT c) 1
  let s3 := wr (wr (wr s2 (Reg.CLUSTER_CAL_LAST_POS c) (u % 8)) (Reg.CLUSTER_CAL_LAST_CAL c) cal) (Reg.CLUSTER_CAL_LAST_REASON c) reason
  let s4 := wr (wr s3 (Reg.CLUSTER_CAL_LAST_STRIKES c) n) (Reg.CLUSTER_CAL_LAST_TEMP c) (code 16 (clusterTenths s c))
  let s5 := storeChanged (raise s4 0x2050 0)
  if n = 3 ∧ old = 2 then
    if cal = 3 then raise (wr s5 (Reg.CLUSTER_CAL_STATUS_ORX_FAIL c) 1) 0x2053 0
    else degrade (s5.modUcal u fun x => { x with struck := setBit x.struck cal }) u (calSide cal)
  else s5

/-- Queue the release of a side with no struck-out calibration left. -/
def seekRelease (s : State) (u side : Nat) : State :=
  let deg := if side = 0 then (s.unit u).degRx else (s.unit u).degTx
  if deg && (struckOf s u side).isEmpty then { s with cal := { s.cal with release := s.cal.release ++ [(u, side)] } } else s

/-- A pass clears the strike count, and while release is sought the strike-out (R191, R193). -/
def calPass (s : State) (u cal : Nat) : State :=
  let c := u / 8
  let s1 := bump s (Reg.CLUSTER_CAL_COUNT_PASS_CNT c) 1
  if cal = 3 then
    let s2 := s1.modCcal c fun x => { x with orxStrikes := 0, orxTemp := code 16 (clusterTenths s c) }
    if on s2 (Reg.CLUSTER_CAL_STATUS_ORX_FAIL c) then { s2 with cal := { s2.cal with orxRelease := s2.cal.orxRelease ++ [c] } } else s2
  else
    let s2 := setStrikes s1 u cal 0
    if (s2.ucal u).seek && bit (s2.ucal u).struck cal then
      seekRelease (s2.modUcal u fun x => { x with struck := clrBit x.struck cal }) u (calSide cal)
    else s2

/-- Release one side at a boundary released to its cluster (R193). -/
def releaseSide (s : State) (u side : Nat) : State :=
  let f := if side = 0 then Reg.CLUSTER_CAL_STATUS_DEG_RX (u / 8) else Reg.CLUSTER_CAL_STATUS_DEG_TX (u / 8)
  let s1 := wr s f (clrBit (rd s f) (u % 8))
  raise (s1.modUnit u fun x => if side = 0 then { x with degRx := false } else { x with degTx := false }) 0x2052 0

/-- What waits for a symbol boundary released to cluster `c`: trims, releases, and a DPD release once ACT_VALID is 1. -/
def calBoundary (s : State) (c : Nat) : State :=
  let mine := fun (p : Nat × Nat) => p.1 / 4096 == c
  let s1 := forEach (s.cal.pend.filter mine) s fun s p => trimSet s c (p.1 / 512 % 8) (p.1 % 512) p.2
  let s2 := { s1 with cal := { s1.cal with pend := s1.cal.pend.filter fun p => !mine p } }
  let s3 := forEach (unitsOf c) s2 fun s u =>
    if (s.ucal u).seekDpd && on s (Reg.UNIT_DPD_STATUS_ACT_VALID u) then
      seekRelease (s.modUcal u fun x => { x with seekDpd := false, struck := clrBit x.struck 10 }) u 1
    else s
  let s4 := forEach (s3.cal.release.filter fun p => p.1 / 8 == c) s3 fun s p => releaseSide s p.1 p.2
  let s5 := { s4 with cal := { s4.cal with release := s4.cal.release.filter fun p => p.1 / 8 != c } }
  if s5.cal.orxRelease.contains c then
    raise (wr { s5 with cal := { s5.cal with orxRelease := s5.cal.orxRelease.filter (· != c) } }
      (Reg.CLUSTER_CAL_STATUS_ORX_FAIL c) 0) 0x2052 0
  else s5

/-! ### The rotation (R185 to R190) -/

/-- The set bits of `m` below 8, as calibrations of position `pos`, in bit order. -/
def calsOf (pos m : Nat) : List (Nat × Nat) := ((List.range 8).filter fun n => bit m n).map fun n => (pos, n)

/-- DUE shows the units with calibrations due. -/
def showDue (s : State) (c : Nat) : State :=
  wr s (Reg.CLUSTER_CAL_STATUS_DUE c) ((s.ccal c).due.foldl (fun a p => setBit a p) 0)

/-- Make calibrations `m` of position `pos` due. -/
def makeDue (s : State) (c pos m : Nat) : State :=
  showDue (s.modCcal c fun x => { x with
    due := if x.due.contains pos then x.due else x.due ++ [pos]
    dueCals := x.dueCals.set pos 0 (x.dueCals.get pos 0 ||| m) }) c

/-- The temperature test of R187 at a sample: calibrations 0, 1, 2 and 4 to 7 of a unit, and ORX on the cluster's record. -/
def calDue (s : State) (c : Nat) : State :=
  let dt : Int := 10 * atLeast1 (rd s (Reg.CLUSTER_CAL_CTRL_DT c))
  let t := clusterTenths s c
  let s1 := forEach ((unitsOf c).filter (unitEnabled s)) s fun s u =>
    let x := s.ccal c
    if x.serving = 2 ∧ (x.run.map (·.pos) = some (u % 8) ∨ x.todo.any (·.1 == u % 8)) then
      if dt ≤ (t - x.startTemp).natAbs ∧ !x.again.contains (u % 8) then s.modCcal c fun x => { x with again := x.again ++ [u % 8] } else s
    else if dt ≤ (t - sgn 16 (s.ucal u).temp).natAbs ∧ !x.due.contains (u % 8) then makeDue s c (u % 8) 0xF7
    else s
  if dt ≤ (t - sgn 16 (s1.ccal c).orxTemp).natAbs then s1.modCcal c fun x => { x with orxDue := true } else s1

/-- New steps may start on cluster `c` (R190); `req` for a requested calibration. -/
def tourOk (s : State) (c : Nat) (req : Bool) : Bool :=
  (req || on s (Reg.CLUSTER_CAL_CTRL_TOUR_EN c) || modeOf s == mTrim) && decide (stageOf s < 3) &&
  on s (Reg.CLUSTER_LO_STATUS_LOCK c) && !clusterHeld s c && modeOf s != mSafe

/-- The next calibrations to run: the present unit's, then requests in ascending position, then due units. -/
def pickNext (s : State) (c : Nat) : State :=
  let x := s.ccal c
  if !x.todo.isEmpty || x.run.isSome then s
  else match x.req with
    | p :: r => s.modCcal c fun x => { x with req := r, todo := calsOf p x.reqCals, serving := 1 }
    | [] =>
      if x.orxDue then s.modCcal c fun x => { x with orxDue := false, todo := [(0, 3)], serving := 2 }
      else match x.due with
        | p :: r => showDue (s.modCcal c fun x => { x with
            due := r, todo := calsOf p (x.dueCals.get p 0), dueCals := x.dueCals.set p 0 0, serving := 2,
            startTemp := clusterTenths s c }) c
        | [] => s

/-- Calibration steps that fit in a symbol: each lasts 4,096 REF cycles. -/
def stepsPerSymbol (s : State) : Nat := symLen (muOf s) / 4096

/-- The symbol meets the conditions of R189 for calibration `cal` at position `pos`: `claimed` units of the cluster, its
direction, and TRIM, where the air belongs to calibration (R120). -/
def stepFits (s : State) (c pos cal : Nat) (n : Int) : Bool :=
  modeOf s == mTrim ||
  ((claimsAt s c n).radio.getD pos none).isNone && ((claimsAt s c n).croak.getD pos none).isNone &&
   !(s.air.queue.any fun e => e.kind == 6 && bit e.clusters c && covers e n) &&
   (if calSide cal = 0 then dirAt s c n != some true && !(claimsAt s c n).held else dirAt s c n == some true)

/-- A TX-side calibration is skipped while ORX has struck out (R191). -/
def skipTx (s : State) (c cal : Nat) : Bool := on s (Reg.CLUSTER_CAL_STATUS_ORX_FAIL c) && 4 ≤ cal && cal ≤ 7

/-- The calibration that cluster `c` runs next: the running one, or the first to run. -/
def calNext (s : State) (c : Nat) : Option CalRun :=
  match (s.ccal c).run with
  | some r => some r
  | none => (s.ccal c).todo.head?.map fun (p : Nat × Nat) => { pos := p.1, cal := p.2 }

/-- Calibrations that cannot run leave the list, and the next one is chosen. -/
def calPick (s : State) (c : Nat) : State :=
  pickNext (s.modCcal c fun x => { x with left := 0, todo := x.todo.filter fun (p : Nat × Nat) => !skipTx s c p.2 }) c

/-- A step of calibration `r` may run in symbol `n` (R189, R190), its path's power aside. -/
def stepMay (s : State) (c : Nat) (r : CalRun) (n : Int) : Bool :=
  tourOk s c ((s.ccal c).serving == 1) && stepFits s c r.pos r.cal n && !unitHeld s (8 * c + r.pos)

/-- A path of unit `u` is due for a calibration step in symbol `n`: its receive path for an RX-side step, its transmit path for another. -/
def stepDue (s : State) (u : Nat) (tx : Bool) (n : Int) : Bool :=
  let t := calPick s (u / 8)
  match calNext t (u / 8) with
  | some r => r.pos == u % 8 && (calSide r.cal != 0) == tx && stepMay t (u / 8) r n
  | none => false

/-- The path that calibration `r` of cluster `c` uses is not gated. -/
def stepAwake (s : State) (c : Nat) (r : CalRun) : Bool :=
  modeOf s == mTrim ||
  (if calSide r.cal = 0 then !on s (Reg.UNIT_RX_STATUS_GATED (8 * c + r.pos)) else !on s (Reg.UNIT_TX_STATUS_GATED (8 * c + r.pos)))

/-- Start the steps of cluster `c` in symbol `n` (R189, R190). -/
def calStart (s0 : State) (c : Nat) (n : Int) : State :=
  let s := calPick s0 c
  match calNext s c with
  | none => s
  | some r =>
    if stepMay s c r n && stepAwake s c r then
      (s.modCcal c fun x => { x with run := some r, todo := if x.run.isSome then x.todo else x.todo.drop 1, left := stepsPerSymbol s }).modCluster c
        fun y => { y with calPos := if calSide r.cal = 0 then none else some r.pos }
    else s.modCluster c fun y => { y with calPos := none }

/-- A pass of the unit ends: its temperature is recorded (R187), and a change meanwhile makes it due again. -/
def passEnd (s : State) (c pos : Nat) : State :=
  let x := s.ccal c
  if !x.todo.any (·.1 == pos) && x.serving != 1 then
    let s1 := s.modUcal (8 * c + pos) fun y => { y with temp := code 16 (clusterTenths s c) }
    if x.again.contains pos then makeDue (s1.modCcal c fun x => { x with again := x.again.filter (· != pos) }) c pos 0xF7 else s1
  else s

/-- The request's last calibration has ended: BUSY clears. -/
def reqEnd (s : State) (c : Nat) : State :=
  let x := s.ccal c
  if x.todo.isEmpty && x.run.isNone then
    let s1 := if x.serving = 1 ∧ x.req.isEmpty then wr s (Reg.CLUSTER_CAL_STATUS_BUSY c) 0 else s
    s1.modCcal c fun x => { x with serving := if x.serving = 1 && !x.req.isEmpty then 1 else 0 }
  else s

/-- A whole calibration ends with result `r`. -/
def calEnd (s : State) (c : Nat) (k : CalRun) (r : CalResult) : State :=
  let u := 8 * c + k.pos
  let cal := if k.cal = 16 then 1 else if k.cal = 17 then 4 else k.cal
  let s0 := s.modCcal c fun x => { x with run := none, left := 0 }
  if 16 ≤ k.cal then
    -- a verification of a warm start: failing it runs calibrations 0 to 7 in TRIM
    if (r.reason : Nat) = 0 ∨ (s0.ccal c).todo.any (fun (p : Nat × Nat) => p.1 == k.pos && decide (p.2 < 16)) then reqEnd s0 c
    else reqEnd (s0.modCcal c fun x => { x with todo := x.todo ++ calsOf k.pos 0xFF }) c
  else if calReason s u cal r = 0 then
    reqEnd (passEnd (calPass (writeResult s0 c k.pos cal r) u cal) c k.pos) c
  else
    let s1 := calFail s0 u cal (calReason s u cal r)
    if (s.ccal c).serving = 3 ∧ k.tries < 2 then
      s1.modCcal c fun x => { x with run := some { k with done := 0, tries := k.tries + 1 } }
    else
      let s2 := if (s.ccal c).serving = 2 then
        (if cal = 3 then s1.modCcal c fun x => { x with orxDue := true } else makeDue s1 c k.pos (2 ^ cal)) else s1
      reqEnd (passEnd s2 c k.pos) c

/-- A step of cluster `c` ends; `r` is the result when it was the last of its calibration. -/
def calStepDone (s : State) (c : Nat) (r : CalResult) : State :=
  let x := s.ccal c
  match x.run with
  | none => s
  | some k =>
    if x.left = 0 then s
    else if skipTx s c k.cal then reqEnd (s.modCcal c fun x => { x with run := none, left := 0 }) c
    else if k.done + 1 < calSteps k.cal then
      s.modCcal c fun x => { x with run := some { k with done := k.done + 1 }, left := x.left - 1 }
    else calEnd s c k r

/-- A write to CLUSTER_CAL_REQ with GO (R186, R193). -/
def calReq (s : State) (c cals units : Nat) (clr dpd : Bool) : State :=
  if (modeOf s ≠ mServe ∧ modeOf s ≠ mDiag) ∨ on s (Reg.CLUSTER_CAL_STATUS_BUSY c) then
    raise (wr s (Reg.CLUSTER_CAL_STATUS_REFUSED c) 1) 0x1030 0
  else
    let ps := (List.range 8).filter fun p => bit units p && unitEnabled s (8 * c + p)
    let s1 := if clr then forEach ps s fun s p =>
        (wr s (Reg.CLUSTER_CAL_STRIKE_STRIKES c p) 0).modUcal (8 * c + p) fun x =>
          { x with seek := true, seekDpd := x.seekDpd || dpd && bit x.struck 10 }
      else s
    if ps.isEmpty || cals == 0 then s1
    else (wr s1 (Reg.CLUSTER_CAL_STATUS_BUSY c) 1).modCcal c fun x => { x with req := ps, reqCals := cals }

/-- TRIM's calibrations of a cold start (R185): units in series, ORX before the cluster's first TX-side calibration. -/
def trimCold (s : State) : State :=
  let s1 := forEach (enabledClusters s) s fun s c =>
    s.modCcal c fun x => { x with
      serving := 3, run := none
      todo := (List.range 8).flatMap fun p => calsOf p (if p = 0 then 0xFF else 0xF7) }
  let s2 := forEach (enabledUnits s1) s1 fun s u => s.modUcal u fun x => { x with seek := true }
  { s2 with cal := { s2.cal with
      round := (enabledUnits s).filter fun u => unitPresent s u && !(s.unit u).degTx, loopFirst := enabledUnits s } }

/-- TRIM's work of a warm start: each present unit is verified; a temperature away from its record runs calibrations 0 to 7. -/
def trimWarm (s : State) : State :=
  forEach (enabledClusters s) s fun s c =>
    let dt : Int := 10 * atLeast1 (rd s (Reg.CLUSTER_CAL_CTRL_DT c))
    s.modCcal c fun x => { x with
      serving := 3, run := none
      todo := ((List.range 8).filter fun p => unitPresent s (8 * c + p)).flatMap fun p =>
        if dt ≤ (clusterTenths s c - sgn 16 (s.ucal (8 * c + p)).temp).natAbs then calsOf p 0xFF else [(p, 16), (p, 17)] }

/-- No calibration of TRIM is left. -/
def trimCalsDone (s : State) : Bool :=
  (enabledClusters s).all (fun c => (s.ccal c).run.isNone && (s.ccal c).todo.isEmpty) && s.cal.round.isEmpty

/-! ### Pre-distortion training (R106) -/

/-- A training step of unit `u` ends, converged or not. -/
def trainStep (s : State) (u : Nat) (conv : Bool) : State :=
  match (s.unit u).tx.train with
  | none => s
  | some t =>
    if conv then
      if 5 ≤ t.step then
        calPass ((wr s (Reg.UNIT_DPD_STATUS_TRAIN_BACKOFF u) 0).modTx u fun x => { x with train := none }) u 10
      else s.modTx u fun x => { x with train := some { step := t.step + 1, cycles := 0, conv := some (trainCode t.step) } }
    else
      let s1 := s.modTx u fun x => { x with train := none, adapt := .idle }
      match t.conv with
      | some b => raise (wr s1 (Reg.UNIT_DPD_STATUS_TRAIN_BACKOFF u) b) 0x2012 0
      | none =>
        let s2 := wr (wr s1 (Reg.UNIT_DPD_STATUS_TRAIN_FAIL u) 1) (Reg.UNIT_DPD_STATUS_ACT_VALID u) 0
        calFail (raise s2 0x2012 0) u 10 2

/-! ### Reciprocity and coupling (R195 to R197) -/

/-- atan(2^−i) in 2π/2^32. -/
def atanTable : List Nat :=
  [536870912, 316933406, 167458907, 85004756, 42667331, 21354465, 10679838, 5340245, 2670163, 1335087, 667544, 333772,
   166886, 83443, 41722, 20861, 10430, 5215, 2608, 1304, 652, 326, 163, 81]

/-- The angle of a vector, 2π/65,536 per LSB, rounded to nearest: a rotation towards the axis by falling angles. -/
def argOf (re im : Int) : Nat :=
  let x0 := (if re < 0 then -re else re) * 2 ^ 32
  let y0 := (if re < 0 then -im else im) * 2 ^ 32
  let z := atanTable.zipIdx.foldl (fun (p : Int × Int × Int) a =>
    if 0 ≤ p.2.1 then (p.1 + p.2.1 / 2 ^ a.2, p.2.1 - p.1 / 2 ^ a.2, p.2.2 + a.1)
    else (p.1 - p.2.1 / 2 ^ a.2, p.2.1 + p.1 / 2 ^ a.2, p.2.2 - a.1)) (x0, y0, 0)
  code 16 ((z.2.2 + (if re < 0 then 2 ^ 31 else 0) + 32768) / 65536)

/-- Half of `i`, rounded to nearest, a half up. -/
def halfOf (i : Int) : Int := (i + 1) / 2

/-- The latest self-croak of unit `v`. -/
def selfOf (s : State) (v : Nat) : Option SelfResp := (s.chorus.selfs.get v []).head?

/-- The response of unit `u` to unit `v`'s latest self-croak: usable when used, not INVALID and at least 0.01 in magnitude. -/
def respOf (s : State) (v u : Nat) : Option (Int × Int) :=
  match selfOf s v with
  | none => none
  | some r => match r.resp[u]? with
    | some (re, im, tag, used) =>
      let a := sgn 16 re
      let b := sgn 16 im
      if used ∧ tag ≠ 3 ∧ 107375 ≤ (a * a + b * b).natAbs then some (a, b) else none
    | none => none

/-- Two latest self-croaks lie within 2 s (4,000 half-milliseconds). -/
def selfsNear (s : State) (u v : Nat) : Bool :=
  match selfOf s u, selfOf s v with
  | some a, some b => decide ((a.half - b.half).natAbs ≤ 4000)
  | _, _ => false

/-- arg(H_{u→a}) − arg(H_{a→u}), when both are usable. -/
def rhoPair (s : State) (u a : Nat) : Option Int :=
  match respOf s u a, respOf s a u with
  | some x, some y => if selfsNear s u a then some (sgn 16 (code 16 ((argOf x.1 x.2 : Int) - argOf y.1 y.2))) else none
  | _, _ => none

/-- The bridge unit (R195). -/
def bridgeUnit (s : State) (a : Nat) : Option Nat :=
  let alt := rd s Reg.CHORUS_UNITS_ALT_UNIT
  if on s Reg.CHORUS_UNITS_ALT_EN && alt / 8 != a / 8 then some alt
  else (enabledUnits s).find? fun u => unitPresent s u && !(s.unit u).degTx && u / 8 != a / 8

/-- ρ_u of a unit: directly, or through the bridge for units of the active unit's cluster. -/
def rhoOf (s : State) (a u : Nat) : Option Int :=
  if u = a then some 0
  else if u / 8 ≠ a / 8 then rhoPair s u a
  else match bridgeUnit s a with
    | none => none
    | some b => match rhoPair s u b, rhoPair s b a with
      | some x, some y => some (sgn 16 (code 16 (x + y)))
      | _, _ => none

/-- The ratio agrees with LOOP within 5° (910 codes). -/
def rhoAgrees (s : State) (a u : Nat) (rho : Int) : Bool :=
  u == a || ((s.ucal u).loopValid && (s.ucal a).loopValid &&
    decide ((sgn 16 (code 16 (rho - ((s.ucal u).loopPhase - (s.ucal a).loopPhase : Int)))).natAbs ≤ 910))

def wrCorr (s : State) (u txPh rxPh txDly rxDly : Nat) : State :=
  let t := u / 32
  let i := u % 32
  let w := fun (s : State) (f : Fld) (v : Nat) => wrShIn s tileGroup f v
  w (w (w (w s (Reg.UNIT_CORR0_TX_PH t i) txPh) (Reg.UNIT_CORR0_RX_PH t i) rxPh) (Reg.UNIT_CORR1_TX_DLY t i) txDly)
    (Reg.UNIT_CORR1_RX_DLY t i) rxDly

/-- RECIP writes a unit's correction (Table 8.4); `sec` is the window time of the later croak. -/
def recipWrite (s : State) (a u : Nat) (rho : Int) (sec : Nat) : State :=
  let psi : Int := rd s Reg.CHORUS_PSI_PSI
  let dl := sgn 32 (s.ucal u).loopDelay - sgn 32 (s.ucal a).loopDelay
  let d := (dl * 5 + 8) / 16
  let s1 := wrCorr s u (code 16 (halfOf rho + psi)) (code 16 (-(halfOf rho) - psi)) (code 16 (-d)) (code 16 d)
  let f := Reg.CORR_VALID_VALID (u / 32)
  let s2 := wr s1 f (setBit (rd s1 f) (u % 32))
  storeChanged (({ s2 with beam := { s2.beam with corrTime := s2.beam.corrTime.set u 0 sec } }).modUcal u fun x =>
    { x with corrPsi := rd s Reg.CHORUS_PSI_PSI })

/-- RECIP for one unit whose ratio has completed: checked against LOOP, then written unless CORR_LOCK holds. -/
def recipUnit (s : State) (a u sec : Nat) : State :=
  match rhoOf s a u with
  | none => s
  | some rho =>
    if rhoAgrees s a u rho then
      let s1 := calPass s u 8
      if on s1 Reg.BF_CTRL_CORR_LOCK then wr s1 Reg.CHORUS_STATUS_CORR_HELD 1 else recipWrite s1 a u rho sec
    else calFail s u 8 5

/-- |a|² and |b|² lie within 1 dB: ratio between 10^−0.1 and 10^0.1. -/
def within1dB (a b : Nat) : Bool := decide (a ^ 10 ≤ 10 * b ^ 10) && decide (b ^ 10 ≤ 10 * a ^ 10)

/-- COUPLE for units `u` and `v` of one region: usable when both directions agree within 1 dB and 10° (1,820 codes) after LOOP's
phases are removed; the value kept is open, and lies in the archive of Table 14.1. -/
def couplePair (s : State) (u v : Nat) : State :=
  match respOf s u v, respOf s v u with
  | some x, some y =>
    let dphi := (argOf x.1 x.2 : Int) - argOf y.1 y.2 - ((s.ucal u).loopPhase - (s.ucal v).loopPhase : Int)
    let ok := selfsNear s u v && decide ((sgn 16 (code 16 dphi)).natAbs ≤ 1820) &&
      within1dB (x.1 * x.1 + x.2 * x.2).natAbs (y.1 * y.1 + y.2 * y.2).natAbs
    let f := if ok then takeFree s 32 else (0, s)
    let k := fun (a b : Nat) => couplingAddr (a / 16) (a % 16) (b % 16)
    setMemWord (setMemWord f.2 (k u v) f.1) (k v u) f.1
  | _, _ => s

/-- A self-croak of unit `v` has been measured: RECIP for the units whose ratio it completes, COUPLE for its pairs. -/
def selfMeasured (s : State) (v : Nat) (r : SelfResp) : State :=
  let s1 := { s with chorus := { s.chorus with selfs := s.chorus.selfs.set v [] [r] } }
  let a := activeUnit s1
  let us := (enabledUnits s1).filter fun u => unitPresent s1 u &&
    (u == v || (v == a && (u / 8 != a / 8 || u == a)) || (bridgeUnit s1 a == some v && u / 8 == a / 8 && u != a))
  let s2 := forEach us s1 fun s u => recipUnit s a u r.sec
  let s3 := forEach ((regionUnits v).filter (· != v)) s2 fun s u => couplePair s u v
  recipUpdate s3

/-! ### The calibration store (R198 to R200) -/

/-- Register ranges that the store keeps: LO calibrations and strike counts of each cluster, PSI and the asymmetry. -/
def storeActRanges : List (Nat × Nat) :=
  ((List.range 16).flatMap fun c => [regsAt (0x100060 + 0x10000 * c) (0x100080 + 0x10000 * c),
    regsAt (0x100200 + 0x10000 * c) (0x100400 + 0x10000 * c)]) ++ [regsAt 0xA0040 0xA004C]

/-- Class H ranges that the store keeps: AMP, PHS and W0 to W2 of each unit, and UNIT_CORR. -/
def storeHRanges : List (Nat × Nat) :=
  ((List.range 128).map fun u => regsAt (0x200020 + 0x1000 * u) (0x200030 + 0x1000 * u)) ++
  (List.range 4).map fun t => regsAt (0x401100 + 0x100000 * t) (0x401200 + 0x100000 * t)

def rangesOf (t : Tbl Nat) (rs : List (Nat × Nat)) : Tbl Nat := rs.foldl (fun a r => Tbl.merge a (t.range r.1 r.2)) []

/-- The ranges `rs` of a plane take the values of a bank. -/
def putRanges (t b : Tbl Nat) (rs : List (Nat × Nat)) : Tbl Nat := rs.foldl (fun a r => Tbl.merge (a.clear r.1 r.2) (b.range r.1 r.2)) t

def bank (s : State) (k : Nat) : CalBank := if k = 0 then s.cal.bankA else s.cal.bankB
def setBank (s : State) (k : Nat) (b : CalBank) : State :=
  if k = 0 then { s with cal := { s.cal with bankA := b } } else { s with cal := { s.cal with bankB := b } }

/-- The contents a save writes. -/
def bankNow (s : State) : CalBank :=
  { seq := (match s.cal.inUse with | some k => (bank s k).seq + 1 | none => 1) % 2 ^ 32
    valid := true, devId := devId s, grade := s.fuse.grade
    time := if s.time.wasLocked then balSec s else 0
    act := rangesOf s.act storeActRanges, hact := rangesOf s.hact storeHRanges
    trims := s.cal.trims, orxTrims := s.cal.orxTrims, units := s.cal.units
    orx := (List.range 16).foldl (fun t c => t.set c (0, 0) ((s.ccal c).orxStrikes, (s.ccal c).orxTemp)) []
    degRx := (enabledUnits s).filter fun u => (s.unit u).degRx
    degTx := (enabledUnits s).filter fun u => (s.unit u).degTx
    corrTime := s.beam.corrTime }

/-- STORE_BUSY reads the same in every cluster's block. -/
def storeBusy (s : State) (v : Nat) : State :=
  forEach (enabledClusters s) s fun s c => wr s (Reg.CLUSTER_CAL_STATUS_STORE_BUSY c) v

/-- The bank that a save writes: the one not in use. -/
def otherBank (s : State) : Nat := match s.cal.inUse with | some 0 => 1 | _ => 0

/-- A save starts: the other bank's header is erased first. -/
def saveStart (s : State) : State :=
  if s.cal.saving.isSome then s
  else
    let s1 := setBank { s with cal := { s.cal with saving := some (bankNow s), changed := false } } (otherBank s) {}
    storeBusy s1 1

/-- A save ends: its header is written last; a failure raises 0x2054. -/
def saveDone (s : State) (ok : Bool) : State :=
  match s.cal.saving with
  | none => s
  | some b =>
    let k := otherBank s
    let s1 := storeBusy { s with cal := { s.cal with saving := none } } 0
    if ok then
      let s2 := setBank s1 k b
      { s2 with cal := { s2.cal with inUse := some k } }
    else raise { s1 with cal := { s1.cal with changed := true } } 0x2054 0

/-- A bank is valid for this device (R198). -/
def bankOk (s : State) (k : Nat) : Bool :=
  (bank s k).valid && (bank s k).devId == devId s && (bank s k).grade == s.fuse.grade

/-- The bank a start uses: the valid one with the greater SEQ, as a signed 32-bit difference. -/
def bankChoice (s : State) : Option Nat :=
  if bankOk s 0 && bankOk s 1 then
    some (if 0 ≤ sgn 32 (code 32 (((bank s 0).seq : Int) - (bank s 1).seq)) then 0 else 1)
  else if bankOk s 0 then some 0 else if bankOk s 1 then some 1 else none

/-- Load the store (R185, R192): trims, values, strikes and degradations come back; corrections keep their time. -/
def loadStore (s : State) (k : Nat) : State :=
  let b := bank s k
  let s1 := { s with
    act := putRanges s.act b.act storeActRanges, hact := putRanges s.hact b.hact storeHRanges, hsh := putRanges s.hsh b.hact storeHRanges
    cal := { s.cal with trims := b.trims, orxTrims := b.orxTrims, units := b.units, inUse := some k }
    beam := { s.beam with corrTime := b.corrTime } }
  let s2 := forEach (List.range 16) s1 fun s c =>
    let o := b.orx.get c (0, 0)
    wr (s.modCcal c fun x => { x with orxStrikes := o.1, orxTemp := o.2 }) (Reg.CLUSTER_CAL_STATUS_ORX_FAIL c) (b2n (o.1 == 3))
  let deg := fun (s : State) (u side : Nat) =>
    let f := if side = 0 then Reg.CLUSTER_CAL_STATUS_DEG_RX (u / 8) else Reg.CLUSTER_CAL_STATUS_DEG_TX (u / 8)
    (wr s f (setBit (rd s f) (u % 8))).modUnit u fun x => if side = 0 then { x with degRx := true } else { x with degTx := true }
  forEach b.degTx (forEach b.degRx s2 fun s u => deg s u 0) fun s u => deg s u 1

/-! ### The commands' meanings -/

/-- CAL_STEP_DONE (R182): a step of cluster `c` ends; `r` is used when the calibration ends with it. -/
def execCalStepDone (c : Fin 16) (r : CalResult) (s : State) : Host.Outcome State Fault Refusal := .next (calStepDone s c r)

/-- CAL_REQ (R186): a write of `w` to CLUSTER_CAL_REQ. -/
def execCalReq (c : Fin 16) (w : Word) (s : State) : Host.Outcome State Fault Refusal :=
  .next (if clusterEnabled s c then
    let v := w.toNat
    let s1 := wr (wr s (Reg.CLUSTER_CAL_REQ_CALS c) (bits v 0 8)) (Reg.CLUSTER_CAL_REQ_DPD_REL c) (bits v 11 1)
    let s2 := wr (wr s1 (Reg.CLUSTER_CAL_REQ_UNITS c) (bits v 16 8)) (Reg.CLUSTER_CAL_REQ_CLR_DEG c) (bits v 24 1)
    if bit v 31 then calReq s2 c (bits v 0 8) (bits v 16 8) (bit v 24) (bit v 11) else s2
  else s)

/-- SAVE (R200). -/
def execSave (s : State) : Host.Outcome State Fault Refusal := .next (saveStart s)

/-- CAL_STORE_AUTOSAVE (R200): 60 s after the first change since the last save. -/
def execCalStoreAutosave (s : State) : Host.Outcome State Fault Refusal :=
  .next (if s.cal.changed then saveStart s else s)

/-- CAL_STORE_SAVE_DONE (R200). -/
def execCalStoreSaveDone (ok : Bool) (s : State) : Host.Outcome State Fault Refusal := .next (saveDone s ok)

/-- TRIM_DATA_ACCESS (Table 8.14): a read (`none`; its value is `trimRead`) or a write. -/
def execTrimDataAccess (c : Fin 16) (w : Option (BitVec 16)) (s : State) : Host.Outcome State Fault Refusal :=
  .next (match w with
    | some v => if clusterEnabled s c then trimWrite s c v.toNat else s
    | none => s)

/-- DPD_TRAIN_STEP_DONE (R106). -/
def execDpdTrainStepDone (u : Fin 128) (conv : Bool) (s : State) : Host.Outcome State Fault Refusal :=
  .next (trainStep s u conv)

end Sys2Proof.Machine
end

