-- ==== Sys2Proof/Machine/Cap.lean ====
section
/-! DEFINITION. Capture and acquisition (spec/13_capture.md, R286 to R301). -/

namespace Sys2Proof.Machine

def cpIdle : Nat := 0
def cpArmed : Nat := 1
def cpCapturing : Nat := 2
def cpRearm : Nat := 3
def cpStreaming : Nat := 4
def cpDone : Nat := 5

def State.cap (s : State) (n : Nat) : CapCh := s.caps.get n {}
def State.modCap (s : State) (n : Nat) (f : CapCh → CapCh) : State :=
  { s with caps := s.caps.set n {} (f (s.cap n)) }

def capSt (s : State) (n : Nat) : Nat := rd s (Reg.CAP_CH_STATUS_STATE n)

/-- The channel runs: ARMED, CAPTURING, REARM or STREAMING. -/
def capRuns (s : State) (n : Nat) : Bool := decide (1 ≤ capSt s n) && decide (capSt s n ≤ 4)

/-! ### Bandwidth (R289) -/

/-- BW_USED follows the charge of the running channels, to the nearest 0.1 GB/s. -/
def showBw (s : State) : State :=
  let total := (List.range 16).foldl (fun a n => a + (s.cap n).charge) 0
  wr s Reg.CAP_BW_BW_USED ((total + 3200000) / 6400000)

/-- Set a channel's state; a channel that no longer runs is charged nothing. -/
def setCap (s : State) (n st : Nat) : State :=
  let s1 := wr s (Reg.CAP_CH_STATUS_STATE n) st
  if st = cpIdle ∨ st = cpDone then showBw (s1.modCap n fun x => { x with charge := 0 }) else s1

/-- 204.8 GB/s in 1/64 kB/s. -/
def capLimit : Nat := 64 * 204800000

/-! ### A channel's configuration, read through `r` (active or shadow copy) -/

def capKind (r : Fld → Nat) (n : Nat) : Nat := r (Reg.CAP_CH_SRC_KIND n)
def capIndex (r : Fld → Nat) (n : Nat) : Nat := r (Reg.CAP_CH_SRC_INDEX n)

/-- Bytes per sample instant (R288). -/
def capSize (r : Fld → Nat) (n : Nat) : Nat :=
  if capKind r n = 6 then 4
  else (if r (Reg.CAP_CH_CTRL_FMT n) = 1 then 4 else 3) * (if capKind r n = 7 then 8 else 1)

/-- The source rate of Table 13.1 as a fraction, in kS/s. -/
def capRate (s : State) (r : Fld → Nat) (n : Nat) : Nat × Nat :=
  let i := capIndex r n
  match capKind r n with
  | 0 => (1474560, rd s (Reg.UNIT_RX_DEC_RATIO i))
  | 2 => (2949120, 1)
  | 4 => (2949120 * rd s (Reg.UNIT_TX_INTERP_PRE i), rd s (Reg.UNIT_TX_INTERP_RATIO i))
  | 5 => (2949120 * rd s (Reg.UNIT_TX_INTERP_PRE i), rd s (Reg.UNIT_TX_INTERP_RATIO i))
  | 6 => (23040, 1)
  | 7 => (1474560, rd s (Reg.UNIT_RX_DEC_RATIO (8 * i)))
  | _ => (1474560, 1)

/-- The charge of an arm in 1/64 kB/s. -/
def capCharge (s : State) (r : Fld → Nat) (n : Nat) : Nat :=
  let f := capRate s r n
  f.1 * capSize r n * (if r (Reg.CAP_CH_CTRL_RAW_EN n) = 1 then 64 else 1) / f.2

def redType (n k : Nat) : Fld :=
  [Reg.CAP_CH_RED_TYPE_0 n, Reg.CAP_CH_RED_TYPE_1 n, Reg.CAP_CH_RED_TYPE_2 n, Reg.CAP_CH_RED_TYPE_3 n].getD k (Reg.CAP_CH_RED_TYPE_0 n)

def redLog (n k : Nat) : Fld :=
  [Reg.CAP_CH_RED_LOG2K_0 n, Reg.CAP_CH_RED_LOG2K_1 n, Reg.CAP_CH_RED_LOG2K_2 n, Reg.CAP_CH_RED_LOG2K_3 n].getD k (Reg.CAP_CH_RED_LOG2K_0 n)

def capPre (r : Fld → Nat) (n : Nat) : Nat := r (Reg.CAP_CH_LEN_PRE n)
def capPost (r : Fld → Nat) (n : Nat) : Nat :=
  if r (Reg.CAP_CH_LEN_POST n) = 0 then 65536 else r (Reg.CAP_CH_LEN_POST n)
def capSegs (r : Fld → Nat) (n : Nat) : Nat :=
  if r (Reg.CAP_CH_SEGS_SEGS n) = 0 then 65536 else r (Reg.CAP_CH_SEGS_SEGS n)

/-- `v` rounded up to a multiple of 64. -/
def up64 (v : Nat) : Nat := (v + 63) / 64 * 64

/-- Output bytes of reduction `k` over `cnt` samples (R297). -/
def redLen (r : Fld → Nat) (n cnt k : Nat) : Nat :=
  let b := cnt / 2 ^ r (redLog n k)
  match r (redType n k) with
  | 1 => b * capSize r n
  | 2 => 8 * b
  | 3 => 4 * b
  | 4 => 1024
  | _ => 0

/-- Bytes of raw samples in a segment. -/
def rawLen (r : Fld → Nat) (n : Nat) : Nat :=
  if r (Reg.CAP_CH_CTRL_RAW_EN n) = 1 then (capPre r n + capPost r n) * capSize r n else 0

/-- STRIDE (R298). -/
def capStride (r : Fld → Nat) (n : Nat) : Nat :=
  up64 (64 + rawLen r n + (List.range 4).foldl (fun a k => a + up64 (redLen r n (capPre r n + capPost r n) k)) 0)

def noReductions (r : Fld → Nat) (n : Nat) : Bool := (List.range 4).all fun k => r (redType n k) == 0

/-- The pair of R290, with the codes that refuse an arm with CAUSE 0x4 (Tables 13.3 and 13.7). -/
def capPairOk (r : Fld → Nat) (n : Nat) : Bool :=
  let base := r (Reg.CAP_CH_BASE_BASE n) * 64
  let len := r (Reg.CAP_CH_AREA_LEN n) * 64
  let stream := r (Reg.CAP_CH_CTRL_MODE n) == 1
  decide (0x40000000 ≤ base) && decide (base + len ≤ userArea) &&
  (if stream then decide (131072 ≤ len) && noReductions r n else decide (capSegs r n * capStride r n ≤ len)) &&
  decide (capPre r n * capSize r n ≤ 524288) &&
  (capKind r n != 7 || noReductions r n) &&
  ((List.range 4).all fun k => decide (r (redType n k) ≤ 4) && decide (r (redLog n k) ≤ 16)) &&
  decide (r (Reg.CAP_CH_TRIG_TSRC n) ≤ 7) && r (Reg.CAP_CH_CTRL_HOLD_MODE n) != 3

/-- The source is one of Table 13.1, of enabled hardware; GROUP_RX with one D (R287). -/
def capSourceOk (s : State) (r : Fld → Nat) (n : Nat) : Bool :=
  let i := capIndex r n
  let k := capKind r n
  if k = 2 ∨ k = 3 then clusterEnabled s i
  else if k = 7 then clusterEnabled s i &&
    (List.range 8).all fun u => rd s (Reg.UNIT_RX_DEC_RATIO (8 * i + u)) == rd s (Reg.UNIT_RX_DEC_RATIO (8 * i))
  else decide (k ≤ 6) && unitEnabled s i

/-- Modes in which a host channel can be armed (R286); GROUP_RX in DIAG only. -/
def capModeOk (s : State) (r : Fld → Nat) (n : Nat) : Bool :=
  let m := modeOf s
  m == mDiag || (capKind r n != 7 && (m == mIdle || m == mServe))

/-- The cause that refuses an arm (R290), 0 where none does; of several, the lowest. An arm outside IDLE and DONE has no cause of
its own (log 45). -/
def capCause (s : State) (n : Nat) (fw : Bool) : Option Nat :=
  let r := rdSh s
  let others := (List.range 16).foldl (fun a k => a + if k = n then 0 else (s.cap k).charge) 0
  if capSt s n ≠ cpIdle ∧ capSt s n ≠ cpDone then some 0
  else if n ≠ 15 ∧ !capModeOk s r n then some 1
  else if capLimit < others + capCharge s r n then some 2
  else if !capSourceOk s r n then some 3
  else if !capPairOk r n then some 4
  else if stageOf s ≥ 1 ∧ (n ≠ 15 ∨ stageOf s ≥ 2 ∨ r (Reg.CAP_CH_CTRL_MODE n) = 1) then some 5
  else if n = 15 ∧ !fw ∧ !(modeOf s == mDiag && capSt s n == cpIdle) then some 6
  else none

def capGroup (n : Nat) : Group := ⟨[regsAt (0x71000 + 0x40 * n) (0x71040 + 0x40 * n)]⟩

/-- ARM (R290). -/
def capArm (s : State) (n : Nat) (fw : Bool) : State :=
  match capCause s n fw with
  | some c =>
    let s1 := wr (wr s (Reg.CAP_CH_STATUS_ARM_REJ n) 1) (Reg.CAP_CH_STATUS_CAUSE n) c
    raise (if c = 4 then refuseCommit s1 (capGroup n) [(Reg.CAP_CH_CTRL_MODE n).off] else s1) 0x1060 0
  | none =>
    let s1 := (commitGroup s (capGroup n) []).1
    let s2 := s1.modCap n fun _ => { charge := capCharge s1 (rd s1) n }
    let st := if on s2 (Reg.CAP_CH_CTRL_MODE n) then cpStreaming else cpArmed
    showBw (setCap (wr s2 (Reg.CAP_CH_PROG_PROG n) 0) n st)

/-! ### Sample and record formats (R288, R297, R298) -/

/-- The source is at 16-bit scale: RX_OUT and GROUP_RX, and the transmit sources (log 46). -/
def wideScale (k : Nat) : Bool := k == 0 || k == 7 || k == 4 || k == 5

/-- A part in P24: 12 bits. -/
def part12 (k : Nat) (v : BitVec 16) : Nat := code 12 (satInt 12 (if wideScale k then roundDiv v.toInt 16 else v.toInt))

/-- A part in T32: 14 bits. -/
def part14 (k : Nat) (v : BitVec 16) : Nat := code 14 (satInt 14 (if wideScale k then roundDiv v.toInt 4 else 4 * v.toInt))

/-- The bytes of one sample of a source of kind `k`. -/
def sampleBytes (k : Nat) (t32 : Bool) (x : CapSample) : List Nat :=
  if k = 6 then [x.i.toNat % 256, x.i.toNat / 256, x.q.toNat % 256, b2n x.ovr]
  else if t32 then
    beBytes 4 (part14 k x.i * 2 ^ 18 + part14 k x.q * 16 + 8 * b2n x.ovr + (if k = 0 ∨ k = 7 then x.tag.toNat else 0))
  else beBytes 3 (part12 k x.i * 4096 + part12 k x.q)

/-- The bytes of a sample instant: one sample, or the eight of GROUP_RX in ascending unit order. -/
def instantBytes (r : Fld → Nat) (n : Nat) (xs : List CapSample) : List Nat :=
  xs.flatMap (sampleBytes (capKind r n) (r (Reg.CAP_CH_CTRL_FMT n) == 1))

/-- Consecutive blocks of `k` elements, `m` of them. -/
def chunksOf {α : Type} (k : Nat) : Nat → List α → List (List α)
  | 0, _ => []
  | m + 1, l => l.take k :: chunksOf k m (l.drop k)

/-- I² + Q² at the source's scale. -/
def power (x : CapSample) : Nat := (x.i.toInt * x.i.toInt + x.q.toInt * x.q.toInt).toNat

/-- The power num/den, relative to full scale, is at least that of code `n + 1/2`. -/
def codeReached (num den n : Nat) : Bool := decide (den ^ 5120 ≤ num ^ 5120 * 10 ^ (2 * n + 1))

/-- The code n of −n/256 dBFS nearest to the level num/den (R297): bits from the top; levels above 0 dBFS read 0. -/
def dbCode (num den : Nat) : Nat :=
  if num = 0 then 0xFFFF
  else (List.range 16).foldl (fun a k => let b := a + 2 ^ (15 - k); if codeReached num den (b - 1) then a else b) 0

/-- Full-scale power (R13) at the source's scale. -/
def fullPower (k : Nat) : Nat := if wideScale k then (2047 * 16) ^ 2 else 2047 ^ 2

/-- The output of one block (R297). -/
def redBlock (r : Fld → Nat) (n ty : Nat) (xs : List CapSample) : List Nat :=
  let k := capKind r n
  let is := xs.map fun x => x.i.toInt
  let qs := xs.map fun x => x.q.toInt
  match ty with
  | 1 => sampleBytes k (r (Reg.CAP_CH_CTRL_FMT n) == 1) (xs.headD ⟨0, 0, false, 0⟩)
  | 2 => [is.foldl min (is.headD 0), is.foldl max (is.headD 0), qs.foldl min (qs.headD 0), qs.foldl max (qs.headD 0)].flatMap
      fun v => beBytes 2 (code 16 v)
  | _ =>
    let ps := xs.map power
    beBytes 2 (dbCode (ps.foldl (· + ·) 0) (fullPower k * xs.length)) ++ beBytes 2 (dbCode (ps.foldl max 0) (fullPower k))

/-- The histogram bin of a sample. -/
def histBin (k : Nat) (x : CapSample) : Nat :=
  min 255 (max x.i.toInt.natAbs x.q.toInt.natAbs / (if wideScale k then 128 else 8))

/-- The output of reduction `j` over samples `xs`. -/
def redOut (r : Fld → Nat) (n j : Nat) (xs : List CapSample) : List Nat :=
  let ty := r (redType n j)
  let kk := 2 ^ r (redLog n j)
  if ty = 0 then []
  else if ty = 4 then
    let t := xs.foldl (fun (t : Tbl Nat) x => let b := histBin (capKind r n) x; t.set b 0 (min (t.get b 0 + 1) 0xFFFFFFFF)) []
    (List.range 256).flatMap fun b => beBytes 4 (t.get b 0)
  else (chunksOf kk (xs.length / kk) xs).flatMap (redBlock r n ty)

def padTo (n : Nat) (bs : List Nat) : List Nat := bs ++ List.replicate (n - bs.length) 0

/-- The reduction outputs; of FASTPWR words, which have no I and Q, only DECIM is stated, and the rest are open values. -/
def redOuts (s : State) (n : Nat) (xs : List CapSample) : List (List Nat) × State :=
  (List.range 4).foldl (fun a j =>
    if capKind (rd s) n = 6 ∧ 2 ≤ rd s (redType n j) then
      let len := redLen (rd s) n xs.length j
      let f := takeFree a.2 (8 * len)
      (a.1 ++ [beBytes len f.1], f.2)
    else (a.1 ++ [redOut (rd s) n j xs], a.2)) ([], s)

/-- The header of a segment (Table 13.4) with `nsamp` samples and reduction lengths `lens`. -/
def capHeader (s : State) (n : Nat) (g : CapSeg) (flags nsamp : Nat) (lens : List Nat) : List Nat :=
  let h := beBytes 2 0x4341 ++ [n, flags] ++ beBytes 4 (s.cap n).seg ++
    [capKind (rd s) n, capIndex (rd s) n, rd s (Reg.CAP_CH_CTRL_FMT n), g.frac] ++ beBytes 4 nsamp ++ beBytes 2 g.preAct ++ [0, 0] ++
    beBytes 4 (capPre (rd s) n) ++ beBytes 4 g.tag ++ beBytes 4 g.sec ++ beBytes 4 g.ns ++ beBytes 2 g.fr ++
    beBytes 2 g.missed ++ lens.flatMap (beBytes 4) ++ [0, 0, 0, 0]
  h ++ beBytes 4 (crc32 h)

/-- Close the open segment: header, raw samples and reductions are written (R298); SEG_DONE rises. -/
def closeSeg (s : State) (n : Nat) (g : CapSeg) (trunc stage : Bool) : State :=
  let pre := capPre (rd s) n
  let zero : List CapSample := List.replicate (if capKind (rd s) n = 7 then 8 else 1) ⟨0, 0, false, 0⟩
  let all := (List.replicate (pre - g.preAct) zero ++ g.got).take (pre + capPost (rd s) n)
  let ovr := all.any fun xs => xs.any fun x => capKind (rd s) n != 6 && (x.ovr || x.tag == 3)
  let flags := b2n g.auto + 2 * b2n trunc + 4 * b2n stage + 8 * b2n ovr + 16 * rd s Reg.CAP_CTRL_SKEW_OK + 32 * b2n g.force
  let ro := redOuts s n (all.map fun xs => xs.headD ⟨0, 0, false, 0⟩)
  let s0 := ro.2
  let at0 := rd s0 (Reg.CAP_CH_BASE_BASE n) * 64 + (s0.cap n).seg * capStride (rd s0) n
  let s1 := setMemBytes s0 at0 (capHeader s0 n g flags all.length (ro.1.map List.length))
  let s2 := if on s1 (Reg.CAP_CH_CTRL_RAW_EN n) then setMemBytes s1 (at0 + 64) (all.flatMap (instantBytes (rd s1) n)) else s1
  let s3 := setMemBytes s2 (at0 + 64 + rawLen (rd s2) n) (ro.1.flatMap fun b => padTo (up64 b.length) b)
  let s4 := s3.modCap n fun x => { x with seg := x.seg + 1, opn := none, rearmed := false }
  wr s4 (Reg.CAP_CH_PROG_PROG n) (s4.cap n).seg

/-- Write a mark of a stream (R298); without WRAP a full table takes no more. -/
def writeMark (s : State) (n pos kind frac count ns sec : Nat) : State :=
  let m := (s.cap n).marks
  if m < 4096 ∨ on s (Reg.CAP_CH_CTRL_WRAP n) then
    let bs := beBytes 4 pos ++ [kind, frac] ++ beBytes 2 (min count 65535) ++ beBytes 4 ns ++ beBytes 4 sec
    (setMemBytes s (rd s (Reg.CAP_CH_BASE_BASE n) * 64 + 16 * (m % 4096)) bs).modCap n fun x => { x with marks := x.marks + 1 }
  else s

/-- Write stream bytes from stream position `at0` on; writing wraps to byte 65,536 of the area (R296). -/
def streamBytes (s : State) (base room : Nat) : Nat → List Nat → State
  | _, [] => s
  | k, b :: r => streamBytes (setMemByte s (base + 65536 + k % room) b) base room (k + 1) r

/-- Store sample instants: into the open segment, or into the stream's area. -/
def storeSamples (s : State) (n : Nat) (smp : List (List CapSample)) : State :=
  if capSt s n = cpStreaming then
    let x := s.cap n
    let room := rd s (Reg.CAP_CH_AREA_LEN n) * 64 - 65536
    let s1 := streamBytes s (rd s (Reg.CAP_CH_BASE_BASE n) * 64) room (x.count * capSize (rd s) n)
      (smp.flatMap (instantBytes (rd s) n))
    let s2 := s1.modCap n fun x => { x with count := x.count + smp.length }
    wr s2 (Reg.CAP_CH_PROG_PROG n) (s2.cap n).count
  else s.modCap n fun x => { x with opn := x.opn.map fun g => { g with got := g.got ++ smp } }

/-! ### Triggers (R291 to R295) -/

/-- The trigger point is one of the channel's source; for LEVEL, a crossing of the threshold on its edge. -/
def trigMatches (s : State) (n : Nat) (t : CapTrig) : Bool :=
  let arg := rd s (Reg.CAP_CH_TRIG_ARG_ARG n)
  let src := rd s (Reg.CAP_CH_TRIG_TSRC n)
  let ti := rd s (Reg.CAP_CH_TRIG_TINDEX n)
  match t with
  | .level a b =>
    let fast := capKind (rd s) n == 6
    let thr := if fast then arg % 256 else arg % 2048
    let up := decide (a.toNat < thr) && decide (thr ≤ b.toNat)
    let down := decide (thr ≤ a.toNat) && decide (b.toNat < thr)
    src == 1 && (if xor (on s (Reg.CAP_CH_TRIG_EDGE n)) fast then down else up)
  | .ovld u => src == 2 && u.val == ti
  | .symbol tag => src == 3 && (bit (rd s (Reg.CAP_CH_TRIG_ARG2_ARG2 n)) 0 || tag.toNat == arg)
  | .time => src == 4
  | .event c => src == 5 && c.toNat == arg % 65536
  | .cross k => src == 6 && k.val == ti % 16
  | .pps => src == 7

/-- TRIG_FRAC before the carry of 64 (R292): the fraction of a level crossing, 0 for an overload, else the remainder. -/
def trigFrac (s : State) (n : Nat) (t : CapTrig) (p : CapPoint) : Nat :=
  match t with
  | .level a b =>
    let thr := if capKind (rd s) n = 6 then rd s (Reg.CAP_CH_TRIG_ARG_ARG n) % 256 else rd s (Reg.CAP_CH_TRIG_ARG_ARG n) % 2048
    let d := ((b.toNat : Int) - a.toNat).natAbs
    (2 * 64 * ((thr : Int) - a.toNat).natAbs + d) / (2 * d)
  | .ovld _ => 0
  | _ => (p.rem.toNat + 512) / 1024

/-- Count a missed trigger (R294); an event hold-off counts down. -/
def missTrigger (s : State) (n : Nat) : State :=
  bump (s.modCap n fun x => { x with missed := min (x.missed + 1) 65535, holdCnt := x.holdCnt - 1 }) (Reg.CAP_CH_COUNT_MISSED n) 1

/-- Hold-off runs. -/
def holding (s : State) (n : Nat) : Bool := (s.cap n).holdTime || (s.cap n).holdCnt != 0

/-- Back to ARMED at the later of the re-arm time and the end of hold-off (R295). -/
def rearmCheck (s : State) (n : Nat) : State :=
  if capSt s n = cpRearm ∧ (s.cap n).rearmed ∧ !holding s n then setCap s n cpArmed else s

/-- Start the hold-off that follows an accepted trigger. -/
def startHold (s : State) (n : Nat) : State :=
  let h := rd s (Reg.CAP_CH_HOLD_HOLD n)
  match rd s (Reg.CAP_CH_CTRL_HOLD_MODE n) with
  | 1 => s.modCap n fun x => { x with holdTime := h != 0 }
  | 2 => s.modCap n fun x => { x with holdCnt := h }
  | _ => s

/-- Open a segment at the trigger sample `since`. -/
def openSeg (s : State) (n since frac : Nat) (p : CapPoint) (auto force : Bool) : State :=
  let tag := if escRunning s then tagOf s.air.sym else 0xFFFFFFFF
  let g : CapSeg :=
    { auto := auto, force := force, since := since, frac := frac, preAct := min since (capPre (rd s) n), tag := tag,
      sec := p.sec.toNat, ns := p.ns.toNat, fr := p.frac.toNat, missed := (s.cap n).missed }
  setCap (startHold (s.modCap n fun x => { x with opn := some g, missed := 0 }) n) n cpCapturing

/-- A trigger point (R294, R296): accepted in ARMED, one with others of its sample, marked in a stream, else missed. -/
def trigAt (s : State) (n fr : Nat) (p : CapPoint) (force : Bool) : State :=
  let since := p.since.toNat + fr / 64
  let frac := fr % 64
  let st := capSt s n
  if st = cpArmed then openSeg s n since frac p false force
  else if st = cpStreaming then
    if holding s n then missTrigger s n
    else startHold (writeMark s n (since % 2 ^ 32) 1 frac 0 p.ns.toNat p.sec.toNat) n
  else if st = cpCapturing ∨ st = cpRearm then
    match (s.cap n).opn with
    | some g =>
      if g.since = since then
        s.modCap n fun x => { x with opn := some { g with force := g.force || force } }
      else missTrigger s n
    | none => rearmCheck (missTrigger s n) n
  else s

/-- After a segment: REARM, or DONE after the last. -/
def afterSeg (s : State) (n : Nat) : State :=
  if capSegs (rd s) n ≤ (s.cap n).seg then raise (setCap s n cpDone) 0x0020 n
  else setCap s n cpRearm

/-! ### Stops (R286, R299) -/

/-- Stop a channel: its open record closes at the last complete sample, and it goes to IDLE. -/
def capStopCh (s : State) (n : Nat) : State :=
  if capRuns s n then
    let s1 := match (s.cap n).opn with
      | some g => wr (closeSeg s n g false true) (Reg.CAP_CH_STATUS_STAGE n) 1
      | none => s
    let s2 := if capSt s n = cpStreaming then
        wr (writeMark s1 n ((s1.cap n).count % 2 ^ 32) 4 0 0 (balNs s1) (balSec s1 % 2 ^ 32)) (Reg.CAP_CH_STATUS_STAGE n) 1
      else s1
    raise (setCap s2 n cpIdle) 0x2071 0
  else s

/-- Stop every channel for which `f` holds. -/
def capStopAll (s : State) (f : Nat → Bool) : State :=
  forEach (List.range 16) s fun s n => if f n then capStopCh s n else s

/-- Supply stage S1: every host channel and every stream (R299). -/
def capStageStop (s : State) : State := capStopAll s fun n => n != 15 || capSt s n == cpStreaming

/-- DIAG is left: channels on GROUP_RX (R286). -/
def capLeaveDiag (s : State) : State := capStopAll s fun n => capKind (rd s) n == 7

/-- SKEW_OK is lost (R293). -/
def capSkewLost (s : State) : State :=
  if on s Reg.CAP_CTRL_SKEW_OK then raise (wr s Reg.CAP_CTRL_SKEW_OK 0) 0x2072 0 else s

/-! ### The commands' meanings. `smp` holds the sample instants stored since the channel's previous command. -/

/-- CAP_ARM (R290), by the host or, on channel 15, by vendor firmware. -/
def execCapArm (n : Fin 16) (fw : Bool) (s : State) : Host.Outcome State Fault Refusal := .next (capArm s n fw)

/-- CAP_STOP (R299). -/
def execCapStop (n : Fin 16) (smp : List (List CapSample)) (s : State) : Host.Outcome State Fault Refusal :=
  .next (capStopCh (storeSamples s n smp) n)

/-- CAP_FORCE (R294). -/
def execCapForce (n : Fin 16) (p : CapPoint) (smp : List (List CapSample)) (s : State) : Host.Outcome State Fault Refusal :=
  .next (trigAt (storeSamples s n smp) n 0 p true)

/-- CAP_TRIGGER (R294). -/
def execCapTrigger (n : Fin 16) (t : CapTrig) (p : CapPoint) (smp : List (List CapSample)) (s : State) :
    Host.Outcome State Fault Refusal :=
  let s1 := storeSamples s n smp
  .next (if trigMatches s1 n t then trigAt s1 n (trigFrac s1 n t p) p false else s1)

/-- CAP_SEGMENT_DONE (R290). -/
def execCapSegmentDone (n : Fin 16) (smp : List (List CapSample)) (s : State) : Host.Outcome State Fault Refusal :=
  let s1 := storeSamples s n smp
  .next (match (s1.cap n).opn with
    | some g => afterSeg (closeSeg s1 n g false false) n
    | none => s1)

/-- CAP_REARM (R294): 640 CORE cycles after the last sample. -/
def execCapRearm (n : Fin 16) (s : State) : Host.Outcome State Fault Refusal :=
  .next (if capSt s n = cpRearm then rearmCheck (s.modCap n fun x => { x with rearmed := true }) n else s)

/-- CAP_HOLD_END (R295). -/
def execCapHoldEnd (n : Fin 16) (s : State) : Host.Outcome State Fault Refusal :=
  .next (rearmCheck (s.modCap n fun x => { x with holdTime := false }) n)

/-- CAP_AUTO_TIMEOUT (R295). -/
def execCapAutoTimeout (n : Fin 16) (p : CapPoint) (s : State) : Host.Outcome State Fault Refusal :=
  .next (if capSt s n = cpArmed ∧ on s (Reg.CAP_CH_CTRL_AUTO_EN n) then openSeg s n p.since.toNat 0 p true false else s)

/-- CAP_BUFFER_FULL (R296): a stream without WRAP has filled its area. -/
def execCapBufferFull (n : Fin 16) (smp : List (List CapSample)) (s : State) : Host.Outcome State Fault Refusal :=
  let s1 := storeSamples s n smp
  .next (if capSt s1 n = cpStreaming ∧ !on s1 (Reg.CAP_CH_CTRL_WRAP n) then
      setCap (writeMark s1 n ((s1.cap n).count % 2 ^ 32) 4 0 0 (balNs s1) (balSec s1 % 2 ^ 32)) n cpDone
    else s1)

/-- CAP_TRUNC (R299): staging has overflowed; a stream has lost `lost` samples. -/
def execCapTrunc (n : Fin 16) (lost : Word) (smp : List (List CapSample)) (s : State) : Host.Outcome State Fault Refusal :=
  let s1 := storeSamples s n smp
  .next (match (s1.cap n).opn with
    | some g =>
      let s2 := bump (wr (closeSeg s1 n g true false) (Reg.CAP_CH_STATUS_TRUNC n) 1) (Reg.CAP_CH_COUNT_TRUNC_CNT n) 1
      afterSeg (raise s2 0x2070 0) n
    | none =>
      if capSt s1 n = cpStreaming then
        writeMark s1 n ((s1.cap n).count % 2 ^ 32) 2 0 lost.toNat (balNs s1) (balSec s1 % 2 ^ 32)
      else s1)

/-- SKEW_GO (R293). -/
def execSkewGo (s : State) : Host.Outcome State Fault Refusal :=
  .next (if modeOf s = mIdle ∨ modeOf s = mDiag then wr s Reg.CAP_CTRL_SKEW_BUSY 1 else s)

/-- SKEW_DONE (R293): the skew measured on each channel. -/
def execSkewDone (skews : List (BitVec 16)) (s : State) : Host.Outcome State Fault Refusal :=
  .next (if on s Reg.CAP_CTRL_SKEW_BUSY then
      let s1 := forEach (List.range 16) s fun s n => wr s (Reg.CAP_CH_SKEW_SKEW n) (skews.getD n 0).toNat
      wr (wr s1 Reg.CAP_CTRL_SKEW_BUSY 0) Reg.CAP_CTRL_SKEW_OK 1
    else s)

end Sys2Proof.Machine
end

