-- ==== Sys2Proof/Machine/Chorus.lean ====
section
/-! DEFINITION. The Chorus (spec/07_chorus.md): croak windows, sending croaks, the receiver's states, measurements, peers, pairs, phase,
reports and commits. -/

namespace Sys2Proof.Machine

def setChorus (s : State) (st : Nat) : State := wr s Reg.CHORUS_STATUS_STATE st
def cState (s : State) : Nat := rd s Reg.CHORUS_STATUS_STATE

def cOff : Nat := 0
def cSearch : Nat := 1
def cAcquire : Nat := 2
def cAfc : Nat := 3
def cHeader : Nat := 4
def cPayload : Nat := 5
def cMeasure : Nat := 6

/-- The block is in STOP (R181). -/
def chorusStopped (s : State) : Bool :=
  !on s Reg.CHORUS_CTRL_EN || modeOf s == mBoot || blkHeld s 0x302 none || s.chorus.stopped

/-! ### Who transmits and who listens (R166 to R168) -/

/-- |FOFS| × 15.36 MHz + 38.4 MHz, kHz. -/
def croakEdge (fofs : Nat) : Nat := (sgn 5 fofs).natAbs * 15360 + 38400

/-- The unit can transmit a croak (R167), the LO aside; `self` for a self-croak. -/
def croakAble (s : State) (u fofs : Nat) (self : Bool) : Bool :=
  let i := rd s (Reg.UNIT_TX_INTERP_RATIO u)
  let m := clrBit (rd s (Reg.UNIT_TX_STATUS_MUTE_CAUSE u)) 3
  let only := (struckOf s u 1).all fun n => n == 7 || n == 8
  unitPresent s u && (m == 0 || (self && m == 32 && only)) && decide (1 ≤ i) && 24 % i == 0 &&
  decide (croakEdge fofs * i ≤ min 1179648 (196608 * i))

/-- A named unit listens (R168, R192). -/
def croakListens (s : State) (u fofs : Nat) : Bool :=
  let d := rd s (Reg.UNIT_RX_DEC_RATIO u)
  unitPresent s u && rxLive s u && !(s.unit u).degRx && decide (1 ≤ d) && 12 % d == 0 &&
  decide (croakEdge fofs * d ≤ min 589824 (196608 * d))

/-- The active unit becomes `u`: the asymmetry in force is that unit's (R175; DEDUCED, log 41). -/
def setActive (s : State) (u : Nat) (alt : Bool) : State :=
  let s1 := wr (wr s Reg.CHORUS_STATUS_ACTIVE_UNIT u) Reg.CHORUS_STATUS_ALT_IN_USE (b2n alt)
  if activeUnit s = u then s1
  else
    let x := s.ucal u
    wr (wr (wr (wr s1 Reg.CHORUS_ASYM_T_DELTA x.loopDelay) Reg.CHORUS_ASYM_P_GAMMA x.loopPhase) Reg.CHORUS_ASYM_P_VALID (b2n x.loopValid))
      Reg.CHORUS_STATUS_ASYM_VALID (b2n x.loopValid)

/-- Choose the active unit at a window boundary; `send` for a SEND window (R167). -/
def chooseActive (s : State) (fofs : Nat) (send : Bool) : State :=
  let des := rd s Reg.CHORUS_UNITS_DES_UNIT
  let alt := rd s Reg.CHORUS_UNITS_ALT_UNIT
  if croakAble s des fofs false then setActive s des false
  else if send && on s Reg.CHORUS_UNITS_ALT_EN && croakAble s alt fofs false then raise (setActive s alt true) 0x2042 0
  else s

def loLocked? (s : State) (u : Nat) : Bool := on s (Reg.CLUSTER_LO_STATUS_LOCK (u / 8))

/-- The croak of window `w` moves to the next window (R119). -/
def deferCroak (s : State) (w : CroakWin) (u : Nat) : State :=
  raise (bump { s with chorus := { s.chorus with deferred := some w } } (Reg.CLUSTER_COUNT_CROAK_DEFER (u / 8)) 1) 0x2026 0

/-- The units that the window's claims name. -/
def croakNamed (s : State) (e : SchedEntry) (n : Int) : List Nat :=
  (enabledUnits s).filter fun u => match (claimsAt s (u / 8) n).croak.getD (u % 8) none with
    | some x => x.id == e.id
    | none => false

/-- The units that may send in window `w`: their mutes of the window's boundary are settled before one is chosen (R127, Table 4.8). -/
def croakCands (s : State) (w : CroakWin) : List Nat :=
  (if w.role = 2 then [w.unit]
    else rd s Reg.CHORUS_UNITS_DES_UNIT :: (if on s Reg.CHORUS_UNITS_ALT_EN then [rd s Reg.CHORUS_UNITS_ALT_UNIT] else [])).filter fun u =>
      unitEnabled s u && !unitHeld s u

/-- Open the window of `w` among the units `named`. A croak that waits under R119 goes out in a window without one of its own
(DESIGN CHOICE, log 42). -/
def openWindow (s : State) (w0 : CroakWin) (named : List Nat) : State :=
  if chorusStopped s then s
  else if 2 ≤ stageOf s then bump s Reg.CHORUS_COUNT2_STAGE_SKIP 1
  else
    let sends := fun (w : CroakWin) => (w.role == 1 && on s Reg.CHORUS_CTRL_TX_EN) || w.role == 2
    let w := if sends w0 then w0 else match s.chorus.deferred with
      | some d => { d with first := w0.first }
      | none => w0
    let s1 := if sends w0 then s else { s with chorus := { s.chorus with deferred := none } }
    let s1a := if sends w then forEach (croakCands s1 w) s1 fun s u => boundaryCauses s u (w.first % 14 == 0) true else s1
    let s2 := chooseActive s1a w.fofs (w.role == 1 && sends w)
    let cand := if w.role = 2 then w.unit else activeUnit s2
    let go := sends w && croakAble s2 cand w.fofs (w.role == 2)
    let locked := loLocked? s2 cand
    let tx := if go && locked then some cand else none
    let listen := (named.filter fun u => croakListens s2 u w0.fofs).filter fun u => match tx with
      | some t => u / 8 != t / 8
      | none => true
    let s3 := if go && !locked then deferCroak s2 w cand else s2
    let s4 := setChorus s3 cOff
    { s4 with chorus := { s4.chorus with
        win := some { w with listen := listen, tx := tx, due := sends w && (locked || !go) }, rx := none } }

/-- A CROAK entry opens its window at its first symbol (R165). -/
def croakWindow (s : State) (e : SchedEntry) (n : Int) : State :=
  openWindow s
    { first := n, role := bits e.param 0 2, cset := bits e.param 2 4, fofs := bits e.param 6 5, unit := bits e.param 11 7,
      nrec := bits e.param 18 3, listen := [], tx := none, due := false }
    (croakNamed s e n)

/-- The window has ended: its units' own gain is in force again (R170). -/
def croakClose (s : State) (n : Int) : State :=
  match s.chorus.win with
  | some w =>
    if w.first + symPerHalf (muOf s) ≤ n then { setChorus s cOff with chorus := { s.chorus with win := none, rx := none } } else s
  | none => s

/-! ### Sending (R163, R164) -/

/-- Half-milliseconds between two windows' tags. -/
def halvesBetween (s : State) (later earlier : Nat) : Int :=
  sgn 32 (code 32 ((later : Int) - earlier)) / (symPerHalf (muOf s) : Int)

/-- Valid peers, most recent measurement first, of equal ones the lower PEER_ID first. -/
def peerBefore (s : State) (tag i j : Nat) : Bool :=
  let a := halvesBetween s tag (rd s (Reg.CHORUS_PEER1_LAST_TAG i))
  let b := halvesBetween s tag (rd s (Reg.CHORUS_PEER1_LAST_TAG j))
  decide (a < b) || (a == b && decide (rd s (Reg.CHORUS_PEER0_PEER_ID i) ≤ rd s (Reg.CHORUS_PEER0_PEER_ID j)))

def insertPeer (s : State) (tag i : Nat) : List Nat → List Nat
  | [] => [i]
  | j :: r => if peerBefore s tag i j then i :: j :: r else j :: insertPeer s tag i r

def peersByAge (s : State) (tag : Nat) : List Nat :=
  ((List.range 64).filter fun i => on s (Reg.CHORUS_PEER0_VALID i)).foldr (insertPeer s tag) []

/-- One payload record (Table 7.5): the device's measurement of peer entry `i`, corrected by its own asymmetry. -/
def recordOf (s : State) (tag i : Nat) : List Nat :=
  let age := min (halvesBetween s tag (rd s (Reg.CHORUS_PEER1_LAST_TAG i))).toNat 0xFFFF
  beBytes 2 (rd s (Reg.CHORUS_PEER0_PEER_ID i)) ++ beBytes 2 age ++
  beBytes 4 (code 32 (rdI s (Reg.CHORUS_PEER2_ARR i) + rdI s Reg.CHORUS_ASYM_T_DELTA)) ++
  beBytes 2 (code 16 ((rd s (Reg.CHORUS_PEER4_PHASE i) : Int) + rd s Reg.CHORUS_ASYM_P_GAMMA)) ++
  beBytes 3 (rd s (Reg.CHORUS_PEER5_FREQ i)) ++ [min (rd s (Reg.CHORUS_PEER6_CORR i) / 25) 255, 0, 0]

/-- NREC in a croak: 0 in a peer croak while ASYM_VALID is 0, and no more than there are peers. -/
def croakNrec (s : State) (w : CroakWin) : Nat :=
  if w.role = 1 ∧ !on s Reg.CHORUS_STATUS_ASYM_VALID then 0
  else min w.nrec ((List.range 64).filter fun i => on s (Reg.CHORUS_PEER0_VALID i)).length

/-- The bytes of a croak's header and payload, each with its CRC-16. -/
def croakBytes (s : State) (w : CroakWin) : List Nat :=
  let n := croakNrec s w
  let h := beBytes 3 (devId s * 256 + n * 32 + 16 * b2n (w.role == 2))
  let p := ((peersByAge s (tagOf w.first)).take n).flatMap (recordOf s (tagOf w.first))
  h ++ beBytes 2 (crc16 h) ++ (if n = 0 then [] else p ++ beBytes 2 (crc16 p))

/-- 4,096 REF cycles into the window: the croak goes out, or is not sent. -/
def croakSend (s : State) : State :=
  match s.chorus.win with
  | none => s
  | some w =>
    if w.due then
      let s1 := { s with chorus := { s.chorus with win := some { w with due := false } } }
      match w.tx with
      | some u =>
        if croakAble s u w.fofs (w.role == 2) && !on s (Reg.UNIT_TX_STATUS_GATED u) then
          bump { s1 with chorus := { s1.chorus with sent := croakBytes s w } } Reg.CHORUS_COUNT2_TX_SENT 1
        else raiseIf (rd s1 Reg.CHORUS_COUNT1_NOT_SENT == 0) (bump s1 Reg.CHORUS_COUNT1_NOT_SENT 1) 0x2041 0
      | none => raiseIf (rd s1 Reg.CHORUS_COUNT1_NOT_SENT == 0) (bump s1 Reg.CHORUS_COUNT1_NOT_SENT 1) 0x2041 0
    else s

/-! ### The receiver's states (Table 7.8) -/

/-- RXON of the listening clusters rises and the search opens. -/
def searchOpen (s : State) : State :=
  match s.chorus.win with
  | none => s
  | some w =>
    if cState s = cOff ∧ !w.listen.isEmpty ∧ !chorusStopped s then
      let s1 := forEach w.listen s fun s u => wr s (Reg.CLUSTER_STROBE_RXON_NOW (u / 8)) 1
      setChorus { s1 with chorus := { s1.chorus with idx := rd s Reg.CHORUS_RXCFG_CH_IDX0 } } cSearch
    else s

/-- One 64-chip block in SEARCH or ACQUIRE (R170): the highest 64-sample power, coded as n for −n/2 dBFS. -/
def gainStep (s : State) (p : Nat) : State :=
  if cState s = cSearch ∨ cState s = cAcquire then
    let i := s.chorus.idx
    { s with chorus := { s.chorus with idx := if p < 18 then min (i + 3) 31 else if 48 < p then i - 3 else i } }
  else s

/-- Abandon the packet and search again from the history buffer. -/
def abandon (s : State) : State := setChorus { s with chorus := { s.chorus with rx := none } } cSearch

def shortPre (s : State) : State := abandon (bump s Reg.CHORUS_COUNT1_SHORT_PRE 1)

/-- The SFD is found after `n` AFC symbols since the freeze; fewer than 8 abandon the packet. -/
def sfdFound (s : State) (n : Nat) : State :=
  if cState s = cAfc ∧ 8 ≤ n then setChorus s cHeader
  else if cState s = cAcquire ∨ cState s = cAfc then shortPre s
  else s

/-- The header fails (R163). -/
def headerOk (bs : List Nat) : Bool :=
  let h := ofBytes (bs.take 3)
  bs.length == 5 && ofBytes (bs.drop 3) == crc16 (bs.take 3) && decide (bits h 5 3 ≤ 4) && bits h 0 4 == 0

/-- A decoded header: its three bytes and CRC-16. -/
def headerIn (s : State) (bs : List Nat) : State :=
  if cState s = cHeader then
    if headerOk bs then
      let h := ofBytes (bs.take 3)
      let src := bits h 8 16
      let s1 := bump s Reg.CHORUS_COUNT0_RX_OK 1
      if bit h 4 && src != devId s then abandon (bump s1 Reg.CHORUS_COUNT2_SELF_IGN 1)
      else
        let rx : CroakRx := { src := src, nrec := bits h 5 3, self := src == devId s, recs := none }
        setChorus { s1 with chorus := { s1.chorus with rx := some rx } } (if rx.nrec = 0 then cMeasure else cPayload)
    else abandon (bump s Reg.CHORUS_COUNT0_HDR_FAIL 1)
  else s

/-- The records of a payload (Table 7.5). -/
def recsOf (n : Nat) (bs : List Nat) : List CroakRec :=
  (List.range n).map fun k =>
    let f := fun (o w : Nat) => ofBytes ((bs.drop (16 * k + o)).take w)
    { peer := f 0 2, age := f 2 2, arr := f 4 4, phase := f 8 2, freq := f 10 3, corrQ := f 13 1 }

/-- The payload and its CRC-16 are received. -/
def payloadIn (s : State) (bs : List Nat) : State :=
  match s.chorus.rx with
  | none => s
  | some x =>
    if cState s = cPayload then
      let n := 16 * x.nrec
      let ok := bs.length == n + 2 && ofBytes (bs.drop n) == crc16 (bs.take n)
      let s1 := if ok then s else bump s Reg.CHORUS_COUNT1_PAY_FAIL 1
      setChorus { s1 with chorus := { s1.chorus with rx := some { x with recs := if ok then some (recsOf x.nrec bs) else none } } } cMeasure
    else s

/-- CAPTURE_DB in force (Table 7.17). -/
def captureDb (s : State) : Nat := min 12 (max 4 (rd s Reg.CHORUS_RXCFG_CAPTURE_DB))

/-- A new peak stronger by `db` (R172). -/
def preempt (s : State) (db : Nat) : State :=
  if cAcquire ≤ cState s ∧ cState s ≤ cPayload ∧ captureDb s ≤ db then
    setChorus { bump s Reg.CHORUS_COUNT1_PREEMPTED 1 with chorus := { s.chorus with rx := none } } cAcquire
  else s

/-! ### Peers and pairs (R174 to R177) -/

/-- Parent `k`'s device ID, when valid. -/
def parentId (s : State) (k : Nat) : Option Nat :=
  if bit (rd s Reg.CHORUS_CTRL_PARENT_VALID) k then
    some (if k % 2 = 0 then rd s (Reg.CHORUS_PARENT_PARENT0 (k / 2)) else rd s (Reg.CHORUS_PARENT_PARENT1 (k / 2)))
  else none

def isParent (s : State) (id : Nat) : Bool := (List.range 4).any fun k => parentId s k == some id

/-- PARENT of every entry follows the plan in force. -/
def showParents (s : State) : State :=
  forEach (List.range 64) s fun s i =>
    wr s (Reg.CHORUS_PEER0_PARENT i) (b2n (on s (Reg.CHORUS_PEER0_VALID i) && isParent s (rd s (Reg.CHORUS_PEER0_PEER_ID i))))

def peerEntry (s : State) (id : Nat) : Option Nat :=
  (List.range 64).find? fun i => on s (Reg.CHORUS_PEER0_VALID i) && rd s (Reg.CHORUS_PEER0_PEER_ID i) == id

/-- The entry for a new peer: a free one, else the least recently heard that is not a parent (R174). -/
def newEntry (s : State) : Option Nat :=
  match (List.range 64).find? fun i => !on s (Reg.CHORUS_PEER0_VALID i) with
  | some i => some i
  | none => s.chorus.heard.find? fun i => !on s (Reg.CHORUS_PEER0_PARENT i)

/-- A peer croak updates the sender's entry, or creates it. -/
def updatePeer (s : State) (id tag : Nat) (m : CroakMeas) : State :=
  let put := fun (s : State) (i : Nat) =>
    let s1 := wr (wr (wr (wr (wr s (Reg.CHORUS_PEER1_LAST_TAG i) tag) (Reg.CHORUS_PEER2_ARR i) m.arr.toNat)
      (Reg.CHORUS_PEER4_PHASE i) m.phase.toNat) (Reg.CHORUS_PEER5_FREQ i) m.freq.toNat) (Reg.CHORUS_PEER6_CORR i) m.corr.toNat
    { s1 with chorus := { s1.chorus with heard := s1.chorus.heard.filter (· != i) ++ [i] } }
  match peerEntry s id with
  | some i => put s i
  | none => match newEntry s with
    | none => s
    | some i =>
      let s1 := wr (wr (wr s (Reg.CHORUS_PEER0_PEER_ID i) id) (Reg.CHORUS_PEER0_VALID i) 1) (Reg.CHORUS_PEER0_PARENT i) (b2n (isParent s id))
      let s2 := wr (wr (wr (wr s1 (Reg.CHORUS_PEER0_PAIRED i) 0) (Reg.CHORUS_PEER3_OFS i) 0x80000000) (Reg.CHORUS_PEER4_PHO i) 0)
        (Reg.CHORUS_PEER7_HRT i) 0x80000000
      put { s2 with chorus := { s2.chorus with pairedAt := s2.chorus.pairedAt.set i 0 0 } } i

/-- OFS, PHO and HRT of a pair (R175). PHO is the value nearer PSI (R176). -/
structure Pair where
  ofs : Int
  pho : Nat
  hrt : Int

def pairOf (s : State) (i : Nat) (r : CroakRec) : Pair :=
  let own := rdI s (Reg.CHORUS_PEER2_ARR i) + rdI s Reg.CHORUS_ASYM_T_DELTA
  let ph : Int := (rd s (Reg.CHORUS_PEER4_PHASE i) : Int) + rd s Reg.CHORUS_ASYM_P_GAMMA
  let v := halfOf (sgn 16 (code 16 ((r.phase : Int) - ph)))
  let psi : Int := rd s Reg.CHORUS_PSI_PSI
  let near := (sgn 16 (code 16 (v - psi))).natAbs ≤ 16384
  { ofs := halfOf (sgn 32 r.arr - own), pho := code 16 (if near then v else v + 32768), hrt := halfOf (sgn 32 r.arr + own) }

/-- The record pairs with peer entry `i`: valid asymmetry, and windows within PAIR_SPAN (R175). `tag` is the carrying croak's window. -/
def pairs (s : State) (i tag : Nat) (r : CroakRec) : Bool :=
  let own := halvesBetween s tag (rd s (Reg.CHORUS_PEER1_LAST_TAG i))
  r.peer == devId s && on s Reg.CHORUS_STATUS_ASYM_VALID &&
  decide (((r.age : Int) - own).natAbs ≤ atLeast1 (rd s Reg.CHORUS_RXCFG_PAIR_SPAN))

/-- PSI after a pair with a parent (R176): it rises by (PHO − PSI)/(NP × 2^PH_GAIN), rounded to nearest. -/
def updatePsi (s : State) (pho : Nat) : State :=
  if on s Reg.CHORUS_CTRL_PHASE_EN then
    if on s Reg.BF_CTRL_CORR_LOCK then wr s Reg.CHORUS_STATUS_CORR_HELD 1
    else
      let np := ((pairedPeers s).filter fun i => on s (Reg.CHORUS_PEER0_PARENT i)).length
      let d : Int := (atLeast1 np * 2 ^ rd s Reg.CHORUS_RXCFG_PH_GAIN : Nat)
      let x := sgn 16 (code 16 ((pho : Int) - rd s Reg.CHORUS_PSI_PSI))
      let dpsi := (2 * x + d) / (2 * d)
      let s1 := wr s Reg.CHORUS_PSI_PSI (code 16 ((rd s Reg.CHORUS_PSI_PSI : Int) + dpsi))
      { s1 with chorus := { s1.chorus with psiPend := code 16 ((s1.chorus.psiPend : Int) + dpsi) } }
  else s

/-- A pair forms with peer entry `i`: OFS, PHO and HRT, and with a parent PSI and a time observation (R175 to R177). -/
def formPair (s : State) (i : Nat) (r : CroakRec) : State :=
  let p := pairOf s i r
  let s1 := wr (wr (wr (wr s (Reg.CHORUS_PEER0_PAIRED i) 1) (Reg.CHORUS_PEER3_OFS i) (code 32 p.ofs)) (Reg.CHORUS_PEER4_PHO i) p.pho)
    (Reg.CHORUS_PEER7_HRT i) (code 32 p.hrt)
  let s2 := { s1 with chorus := { s1.chorus with pairedAt := s1.chorus.pairedAt.set i 0 (balSec s + 1) } }
  if on s2 (Reg.CHORUS_PEER0_PARENT i) then
    let s3 := refreshTime (updatePsi (wr s2 Reg.CHORUS_STATUS_PARENT_OK 1) p.pho)
    if on s3 Reg.CHORUS_CTRL_TIME_EN then
      let s4 := wr s3 Reg.CHORUS_TOFS_TOFS (code 32 p.ofs)
      if sourceOf s4 = 3 then refreshTime (servoError s4 (-(p.ofs) / 1000)) else s4
    else s3
  else s2

/-- The first record that pairs with entry `i`, and the state after it. -/
def tryPair (s : State) (i tag : Nat) (recs : Option (List CroakRec)) : State × Option Pair :=
  match (recs.getD []).find? fun r => pairs s i tag r with
  | some r => (formPair s i r, some (pairOf s i r))
  | none => (wr s (Reg.CHORUS_PEER0_PAIRED i) 0, none)

/-! ### Responses and reports (R173, R180) -/

def respAt (m : CroakMeas) (u : Nat) : CroakResp := m.resp.getD u ⟨0, 0, 0, 3⟩

/-- The response store takes the croak's responses of every enabled unit. -/
def storeResp (s : State) (w : CroakWin) (x : CroakRx) (m : CroakMeas) : State :=
  let s1 := wr (wr (wr (wr s Reg.CHORUS_RESP_TAG_TAG (tagOf w.first)) Reg.CHORUS_RESP_SRC_SRC_ID x.src) Reg.CHORUS_RESP_SRC_SELF (b2n x.self))
    Reg.CHORUS_RESP_SRC_TX_UNIT (if x.self then w.tx.getD 0 else 0)
  forEach (enabledUnits s) s1 fun s u =>
    let used := w.listen.contains u
    let r := if used then respAt m u else ⟨0, 0, 0, 3⟩
    wr (wr (wr (wr (wr s (Reg.CHORUS_RESP0_RE u) r.re.toNat) (Reg.CHORUS_RESP0_IM u) r.im.toNat) (Reg.CHORUS_RESP1_DLY u) r.dly.toNat)
      (Reg.CHORUS_RESP1_TAG u) r.tag.toNat) (Reg.CHORUS_RESP1_USED u) (b2n used)

/-- The responses of a report: 8 bytes for each enabled unit. -/
def respBytes (s : State) : List Nat :=
  (enabledUnits s).flatMap fun u =>
    beBytes 2 (rd s (Reg.CHORUS_RESP0_RE u)) ++ beBytes 2 (rd s (Reg.CHORUS_RESP0_IM u)) ++ beBytes 2 (rd s (Reg.CHORUS_RESP1_DLY u)) ++
    beBytes 2 (rd s (Reg.CHORUS_RESP1_TAG u) + 4 * rd s (Reg.CHORUS_RESP1_USED u))

/-- The report of a croak (Table 7.11). -/
def croakReport (s : State) (w : CroakWin) (x : CroakRx) (m : CroakMeas) (noRef : Bool) (pair : Option Pair) : State :=
  let mode := rd s Reg.CHORUS_CTRL_REPORT
  if mode = 0 then s
  else
    let more := mode == 2 || (mode == 3 && x.self)
    let flags := b2n x.self + 2 * b2n x.recs.isSome + 4 * b2n pair.isSome + 8 * b2n (isParent s x.src) + 16 * b2n more + 32 * b2n noRef +
      256 * s.chorus.idx
    let p := pair.getD ⟨-2147483648, 0, -2147483648⟩
    let sum := beBytes 4 (tagOf w.first) ++ beBytes 2 x.src ++ beBytes 2 flags ++ beBytes 4 m.arr.toNat ++ beBytes 4 (code 32 p.ofs) ++
      beBytes 4 (code 32 p.hrt) ++ beBytes 2 m.phase.toNat ++ beBytes 2 p.pho ++ beBytes 3 m.freq.toNat ++ [x.nrec] ++
      beBytes 2 m.corr.toNat ++ [if x.self then w.tx.getD 255 else 255, 0]
    send s { port := activeUp s, op := 0x60, tag := tagOf w.first, payload := sum ++ (if more then respBytes s else []) }

/-- A self-croak's responses go to its transmitting unit (R195). -/
def measureSelf (s : State) (w : CroakWin) (m : CroakMeas) : State :=
  match w.tx with
  | some v => selfMeasured s v
      { half := w.first / (symPerHalf (muOf s) : Int), sec := balSec s
        resp := (List.range 128).map fun u =>
          let y := respAt m u
          (y.re.toNat, y.im.toNat, y.tag.toNat, w.listen.contains u) }
  | none => s

/-- A peer's croak is paired with the peer's own records (R174). -/
def measurePeer (s : State) (x : CroakRx) (tag : Nat) : State × Option Pair :=
  match peerEntry s x.src with
  | some i => tryPair s i tag x.recs
  | none => (s, none)

/-- The measurements of a croak are ready (R173). -/
def measureDone (s : State) (m : CroakMeas) : State :=
  match s.chorus.win, s.chorus.rx with
  | some w, some x =>
    if cState s = cMeasure then
      let a := activeUnit s
      let noRef := !w.listen.contains a || (respAt m a).tag == 3#2
      let s1 := storeResp (if noRef then bump s Reg.CHORUS_COUNT2_NO_REF 1 else s) w x m
      let tag := tagOf w.first
      let r := if x.self then (measureSelf s1 w m, none) else if noRef then (s1, none) else measurePeer (updatePeer s1 x.src tag m) x tag
      let s3 := croakReport r.1 w x m noRef r.2
      setChorus { s3 with chorus := { s3.chorus with rx := none } } (if m.more then cSearch else cOff)
    else s
  | _, _ => s

/-! ### Commit (R181) -/

def chorusGroup : Group := ⟨[regsAt 0xA0000 0xB0000]⟩

/-- The pairs of Table 7.13, on the shadow values. -/
def chorusPairFails (s : State) : List Nat :=
  let des := rdSh s Reg.CHORUS_UNITS_DES_UNIT
  let alt := rdSh s Reg.CHORUS_UNITS_ALT_UNIT
  let unitsOk := unitPresent s des && (rdSh s Reg.CHORUS_UNITS_ALT_EN == 0 || (unitPresent s alt && alt != des))
  let ids := ((List.range 4).filter fun k => bit (rdSh s Reg.CHORUS_CTRL_PARENT_VALID) k).map fun k =>
    if k % 2 = 0 then rdSh s (Reg.CHORUS_PARENT_PARENT0 (k / 2)) else rdSh s (Reg.CHORUS_PARENT_PARENT1 (k / 2))
  let parentsOk := (rdSh s Reg.CHORUS_CTRL_ROOT == 0 || ids.isEmpty) && !ids.contains (devId s) && decide ids.Nodup
  failAt unitsOk Reg.CHORUS_UNITS_DES_UNIT.off ++ failAt parentsOk Reg.CHORUS_CTRL_EN.off

def chorusCommit (s : State) : State :=
  if modeOf s = mBoot then s
  else
    let leave := on s Reg.CHORUS_CTRL_EN && !blkHeld s 0x302 none && s.chorus.stopped
    let r := commitGroup s chorusGroup (chorusPairFails s) leave
    if r.2 then
      let s0 : State := if leave then { r.1 with chorus := { r.1.chorus with stopped := false } } else r.1
      let s1 := if on s0 Reg.CHORUS_STATUS_ALT_IN_USE then s0 else setActive s0 (rd s0 Reg.CHORUS_UNITS_DES_UNIT) false
      refreshTime (showParents s1)
    else r.1

/-- EN is written (R181): 0 puts the block in STOP and ends its window; 1 lets it leave STOP with a commit, at once while no boundaries are
released (R10). -/
def chorusEnWritten (s : State) : State :=
  if on s Reg.CHORUS_CTRL_EN then (if s.chorus.stopped && !releasing s then chorusCommit s else s)
  else setChorus { s with chorus := { s.chorus with stopped := true, win := none, rx := none, deferred := none } } cOff

/-- The restore of the block clears the peer table and the response store (R181). -/
def chorusRestored (s : State) : State :=
  let a := regsAt 0xA0030 0xA0038
  let b := regsAt 0xA1000 0xA3000
  { s with
    act := (s.act.clear a.1 a.2).clear b.1 b.2
    chorus := { s.chorus with heard := [], pairedAt := [], win := none, rx := none, deferred := none } }

/-! ### The commands' meanings -/

/-- CHORUS_SEARCH_OPEN (R165): 2,048 REF cycles into the window. -/
def execChorusSearchOpen (s : State) : Host.Outcome State Fault Refusal := .next (searchOpen s)

/-- CROAK_SEND (R167). -/
def execCroakSend (s : State) : Host.Outcome State Fault Refusal := .next (croakSend s)

/-- CHORUS_GAIN_STEP (R170): the highest 64-sample power among the listening units, −n/2 dBFS. -/
def execChorusGainStep (p : Byte) (s : State) : Host.Outcome State Fault Refusal := .next (gainStep s p.toNat)

/-- CHORUS_DETECT (R169). -/
def execChorusDetect (s : State) : Host.Outcome State Fault Refusal :=
  .next (if cState s = cSearch then setChorus s cAcquire else s)

/-- CHORUS_AGC_FREEZE (R169). -/
def execChorusAgcFreeze (s : State) : Host.Outcome State Fault Refusal :=
  .next (if cState s = cAcquire then setChorus s cAfc else s)

/-- CHORUS_SFD (R169): found `n` AFC symbols after the freeze. -/
def execChorusSfd (n : BitVec 6) (s : State) : Host.Outcome State Fault Refusal := .next (sfdFound s n.toNat)

/-- CHORUS_SFD_TIMEOUT (R169). -/
def execChorusSfdTimeout (s : State) : Host.Outcome State Fault Refusal :=
  .next (if cState s = cAcquire ∨ cState s = cAfc then shortPre s else s)

/-- CHORUS_HEADER (R163): the header's three bytes and its CRC-16 as decoded. -/
def execChorusHeader (bs : List Byte) (s : State) : Host.Outcome State Fault Refusal := .next (headerIn s (bs.map BitVec.toNat))

/-- CHORUS_PAYLOAD_END (R169): the payload and its CRC-16 as decoded. -/
def execChorusPayloadEnd (bs : List Byte) (s : State) : Host.Outcome State Fault Refusal := .next (payloadIn s (bs.map BitVec.toNat))

/-- CHORUS_PREEMPT (R172): a peak stronger by `db` dB. -/
def execChorusPreempt (db : Byte) (s : State) : Host.Outcome State Fault Refusal := .next (preempt s db.toNat)

/-- CHORUS_SEARCH_CLOSE (R169). -/
def execChorusSearchClose (s : State) : Host.Outcome State Fault Refusal :=
  .next (if cState s = cSearch then setChorus s cOff else s)

/-- CHORUS_MEASURE_DONE (R173). -/
def execChorusMeasureDone (m : CroakMeas) (s : State) : Host.Outcome State Fault Refusal := .next (measureDone s m)

/-- CHORUS_PARENT_LOST (R177). -/
def execChorusParentLost (s : State) : Host.Outcome State Fault Refusal :=
  .next (refreshTime (raise (wr s Reg.CHORUS_STATUS_PARENT_OK 0) 0x2040 0))

/-- CHORUS_COMMIT (R181): ignored while boundaries are released. -/
def execChorusCommit (s : State) : Host.Outcome State Fault Refusal :=
  .next (if releasing s then s else chorusCommit s)

end Sys2Proof.Machine
end

