-- ==== Sys2Proof/Machine/Dma.lean ====
section
/-! DEFINITION. The DMA engine's channels: starting, pausing, aborting, halting, and domains going down (spec/14_dma_and_memory.md,
R307 to R316). -/

namespace Sys2Proof.Machine

def dIdle : Nat := 0
def dRun : Nat := 1
def dWait : Nat := 2
def dPaused : Nat := 3
def dHalted : Nat := 4

def State.dma (s : State) (n : Nat) : DmaCh := s.dmas.get n {}
def State.modDma (s : State) (n : Nat) (f : DmaCh → DmaCh) : State :=
  { s with dmas := s.dmas.set n {} (f (s.dma n)) }

def dmaSt (s : State) (n : Nat) : Nat := rd s (Reg.DMA_CH_STATUS_STATE n)
def setDma (s : State) (n st : Nat) : State := wr s (Reg.DMA_CH_STATUS_STATE n) st

/-- CUR. -/
def dmaCur (s : State) (n : Nat) : Nat := rd s (Reg.DMA_CH_CUR_LO_CUR_LO n) + 2 ^ 32 * rd s (Reg.DMA_CH_CUR_HI_CUR_HI n)
def setCur (s : State) (n a : Nat) : State :=
  wr (wr s (Reg.DMA_CH_CUR_LO_CUR_LO n) a) (Reg.DMA_CH_CUR_HI_CUR_HI n) (a / 2 ^ 32)

/-- RING_BASE, bits 4:0 read 0, and the ring's length, through `r` (active or shadow copy). -/
def ringBase (r : Fld → Nat) (n : Nat) : Nat :=
  r (Reg.DMA_CH_RING_LO_BASE_LO n) / 32 * 32 + 2 ^ 32 * r (Reg.DMA_CH_RING_HI_BASE_HI n)
def ringLen (r : Fld → Nat) (n : Nat) : Nat :=
  if r (Reg.DMA_CH_RING_HI_RLEN n) = 0 then 65536 else r (Reg.DMA_CH_RING_HI_RLEN n)

/-- The ring lies wholly inside the user area (R311). -/
def ringOk (r : Fld → Nat) (n : Nat) : Bool :=
  decide (userArea ≤ ringBase r n) && decide (ringBase r n + 32 * ringLen r n ≤ dieEnd)

def dmaGroup (n : Nat) : Group := ⟨[regsAt (0x61008 + 0x40 * n) (0x61010 + 0x40 * n)]⟩

/-- Enter RUN; a PAUSE that stands stops new reads at once. -/
def enterRun (s : State) (n : Nat) : State :=
  (setDma s n dRun).modDma n fun x => { x with pausing := on s (Reg.DMA_CH_CTRL_PAUSE n) }

/-- START (R311, Table 14.6). -/
def dmaStart (s : State) (n : Nat) (fromCur : Bool) : State :=
  let refused := wr s (Reg.DMA_CH_STATUS_REFUSED n) 1
  if dmaSt s n = dIdle ∨ dmaSt s n = dHalted then
    if ringOk (rdSh s) n then
      let s1 := (commitGroup s (dmaGroup n) []).1
      let s2 := wr (wr (wr s1 (Reg.DMA_CH_COUNT_COUNT n) 0) (Reg.DMA_CH_DONE_DONE n) 0) (Reg.DMA_CH_STATUS_ERR n) 0
      let s3 := if fromCur then s2 else setCur s2 n (ringBase (rd s2) n)
      enterRun (s3.modDma n fun _ => { reading := true }) n
    else refuseCommit refused (dmaGroup n) [(Reg.DMA_CH_RING_LO_BASE_LO n).off]
  else refused

/-- A write of PAUSE (Table 14.6): a channel in RUN stops new reads; a paused channel whose domains are awake goes on. -/
def dmaPause (s : State) (n : Nat) (v : Bool) : State :=
  let s1 := wr s (Reg.DMA_CH_CTRL_PAUSE n) (b2n v)
  let lost := (s.dma n).lost
  if dmaSt s n = dRun then s1.modDma n fun x => { x with pausing := v || x.lost }
  else if dmaSt s n = dPaused ∧ !v ∧ !lost then enterRun s1 n
  else s1

/-- ABORT: reads stop, what is not written is discarded, no write-back. -/
def dmaAbort (s : State) (n : Nat) : State :=
  if dmaSt s n = dIdle then s else setDma (s.modDma n fun x => { posted := x.posted }) n dIdle

/-- A doorbell (R309). -/
def dmaDoorbell (s : State) (n : Nat) : State :=
  if dmaSt s n = dWait ∨ dmaSt s n = dRun then
    s.modDma n fun x =>
      if x.reading then { x with again := true }
      else if dmaSt s n = dWait then { x with reading := true } else x
  else s

/-- An error halts the channel (R313, Table 14.7): ERR and ERR_DESC latched, event 0x0031. -/
def dmaHalt (s : State) (n err : Nat) : State :=
  let cur := dmaCur s n
  let s1 := wr (wr (wr s (Reg.DMA_CH_STATUS_ERR n) err) (Reg.DMA_CH_ERR_LO_ERR_LO n) cur) (Reg.DMA_CH_ERR_HI_ERR_HI n) (cur / 2 ^ 32)
  raise (setDma (s1.modDma n fun x => { posted := x.posted }) n dHalted) 0x0031 (n + 256 * err)

/-! ### Domains going down (R314) -/

/-- The channel's running descriptor has its source or destination where `f` holds. -/
def dmaUses (s : State) (n : Nat) (f : Nat → Bool) : Bool :=
  match (s.dma n).desc with
  | some d => f d.src || (!d.link && f d.dst)
  | none => false

/-- The channel votes refuse on sleep (R314). -/
def dmaRefuses (s : State) (n : Nat) (f : Nat → Bool) : Bool := dmaSt s n == dRun && dmaUses s n f

/-- The channel touches addresses where `f` holds, its descriptor included. -/
def dmaTouches (s : State) (n : Nat) (f : Nat → Bool) : Bool := dmaUses s n f || f (dmaCur s n)

/-- A forced power-down: every running channel that touches the domain is paused (R314). -/
def dmaDomainDown (s : State) (f : Nat → Bool) : State :=
  forEach (List.range 16) s fun s n =>
    if dmaSt s n = dRun ∧ dmaTouches s n f then
      raise (wr (s.modDma n fun x => { x with pausing := true, lost := true }) (Reg.DMA_CH_STATUS_DOMAIN_LOST n) 1) 0x5010 0
    else s

/-- The domain wakes: its channels resume by themselves, unless PAUSE is set. -/
def dmaDomainUp (s : State) (f : Nat → Bool) : State :=
  forEach (List.range 16) s fun s n =>
    if (s.dma n).lost && dmaTouches s n f then
      let s1 := s.modDma n fun x => { x with lost := false, pausing := on s (Reg.DMA_CH_CTRL_PAUSE n) }
      if dmaSt s n = dPaused ∧ !on s (Reg.DMA_CH_CTRL_PAUSE n) then enterRun s1 n else s1
    else s

/-! ### The commands' meanings -/

/-- DMA_START (R311). -/
def execDmaStart (n : Fin 16) (fromCur : Bool) (s : State) : Host.Outcome State Fault Refusal := .next (dmaStart s n fromCur)

/-- DMA_PAUSE (R313): a write of PAUSE. -/
def execDmaPause (n : Fin 16) (v : Bool) (s : State) : Host.Outcome State Fault Refusal := .next (dmaPause s n v)

/-- DMA_ABORT (R313). -/
def execDmaAbort (n : Fin 16) (s : State) : Host.Outcome State Fault Refusal := .next (dmaAbort s n)

/-- DOORBELL (R309). -/
def execDoorbell (n : Fin 16) (s : State) : Host.Outcome State Fault Refusal := .next (dmaDoorbell s n)

/-- DMA_WAKE_TIMEOUT (R313): a gated target was not awake in 20 µs. -/
def execDmaWakeTimeout (n : Fin 16) (s : State) : Host.Outcome State Fault Refusal :=
  .next (if dmaSt s n = dRun ∨ dmaSt s n = dPaused then dmaHalt s n 6 else s)

end Sys2Proof.Machine
end

