-- ==== Sys2Proof/Machine/Image.lean ====
section
/-! DEFINITION. The configuration image, the flash directory and the flash log (spec/02_start_and_configuration.md, R55 to R60;
spec/17_security.md, R369). -/

namespace Sys2Proof.Machine

/-- A record as framed in Table 2.8: TYPE, FLAGS, payload, and the offset at which it begins. -/
structure ImgRecord where
  rtype : Nat
  flags : Nat
  payload : List Nat
  start : Nat
  deriving DecidableEq, Repr

def bytesAt (bs : List Nat) (o n : Nat) : Nat := ofBytes ((bs.drop o).take n)

/-- Cut a byte string into its records; none where a frame does not fit or a CRC fails. `fuel` bounds the records. -/
def cutRecords : Nat → Nat → List Nat → Option (List ImgRecord)
  | 0, _, _ => none
  | fuel + 1, at0, bs =>
    let len := bytesAt bs 4 4
    if bs.length < 12 + len ∨ len % 4 ≠ 0 ∨ crc32 (bs.take (8 + len)) ≠ bytesAt bs (8 + len) 4 then none
    else
      let r : ImgRecord := ⟨bytesAt bs 0 2, bytesAt bs 2 2, (bs.drop 8).take len, at0⟩
      if r.rtype = 0xFFFF then some [r]
      else (cutRecords fuel (at0 + 12 + len) (bs.drop (12 + len))).map (r :: ·)

/-- Record types of Table 2.9. -/
def knownTypes : List Nat :=
  [0x0001, 0x0003, 0x0010, 0x0011, 0x0012, 0x0020, 0x0030, 0x0031, 0x0040, 0x0050, 0x0060, 0x7FF0, 0xFFFF]

/-- Window offset `o` lies inside a block of Table 1.11. -/
def inBlock (o : Nat) : Bool :=
  decide (o < 0x0C0000) || (decide (0x100000 ≤ o) && decide (o < 0x280000)) || (decide (0x300000 ≤ o) && decide (o < 0x380000)) ||
    (decide (0x400000 ≤ o) && decide (o < 0x1000000))

/-- The REG_INIT entries of a payload. -/
def regInits (n : Nat) (bs : List Nat) : List (Nat × Nat × Nat) :=
  (List.range n).map fun i => (bytesAt bs (12 * i) 4, bytesAt bs (12 * i + 4) 4, bytesAt bs (12 * i + 8) 4)

def schedules (n : Nat) (bs : List Nat) : List (Nat × Nat × Nat) :=
  (List.range n).map fun i => (bytesAt bs (16 * i) 8, bytesAt bs (16 * i + 8) 4, bytesAt bs (16 * i + 12) 1)

/-- The signature of an image verifies (R369). -/
def sigOk (s : State) (bs : List Nat) (r : ImgRecord) : Bool :=
  let root := bytesAt r.payload 0 1
  let pub := (r.payload.drop 4).take 96
  r.payload.length == 196 && decide (root < 4) && s.fuse.roots.get root 0 != 0 && !bit s.fuse.revoked root &&
    Config.sha384 pub == s.fuse.roots.get root 0 && Config.ecdsaOk pub (bs.take r.start) ((r.payload.drop 100).take 96)

/-- Bit of GRADE_MASK for the device's grade. -/
def gradeBit (s : State) : Nat := if s.fuse.grade = 1 then 0 else if s.fuse.grade = 2 then 1 else 2

/-- The image that a byte string holds, if the loader accepts it (R56). -/
def verifyImage (s : State) (bs : List Nat) : Option ImageS :=
  match cutRecords (bs.length / 12 + 1) 0 bs with
  | none => none
  | some rs =>
    let n := rs.length
    let payloads := fun t => (rs.filter (·.rtype == t)).map (·.payload)
    match rs.head?, rs[n - 2]? with
    | some h, some sg =>
      let p := h.payload
      let inits := (payloads 0x0020).flatMap fun b => regInits (b.length / 12) b
      if h.rtype == 0x0001 && (payloads 0x0001).length == 1 && bytesAt p 0 4 == 0x5A433249 && bytesAt p 4 2 == 1 &&
          decide (2 ≤ n) && sg.rtype == 0x7FF0 && sigOk s bs sg && decide (rd s Reg.SEC_MIN_VER_MIN_VER ≤ bytesAt p 8 4) &&
          bit (bytesAt p 6 1) (gradeBit s) &&
          (rs.all fun r => knownTypes.contains r.rtype || !bit r.flags 15) &&
          (inits.all fun e => decide (e.1 < 2 ^ 24) && e.1 % 4 == 0 && inBlock e.1) then
        some { bytes := bs, rollback := bytesAt p 8 4, warmEn := (payloads 0x0003).any fun b => bit (bytesAt b 0 4) 0,
               newtFw := payloads 0x0011, kernels := payloads 0x0012, regInit := inits, dpdSeeds := payloads 0x0030,
               weightSeeds := payloads 0x0031, plan := (payloads 0x0040).head?,
               schedule := (payloads 0x0050).flatMap fun b => schedules (b.length / 16) b, profile := (payloads 0x0060).head? }
      else none
    | _, _ => none

/-! ### Directory (R58, R59) -/

/-- The signed 32-bit difference `a − b` is positive. -/
def seqAfter (a b : Nat) : Bool := decide (0 < sgn 32 ((a + 2 ^ 32 - b) % 2 ^ 32))

/-- The directory copy in use: index and copy. -/
def dirInUse (s : State) : Option (Nat × DirCopy) :=
  match s.flash.dir0, s.flash.dir1 with
  | some a, some b => if seqAfter b.seq a.seq then some (1, b) else some (0, a)
  | some a, none => some (0, a)
  | none, some b => some (1, b)
  | none, none => none

/-- The largest SLOT_SIZE of R57. -/
def maxSlot (s : State) : Nat := (s.flash.size - 0x800000) / 2 / 0x100000 * 0x100000

def slotBytes (s : State) (k : Nat) : List Nat := if k = 0 then s.flash.slotA else s.flash.slotB

/-- The slots to try, in order, with the longest image each may hold (R58). -/
def slotOrder (s : State) (alt : Bool) : List (Nat × Nat) :=
  match dirInUse s with
  | some (_, d) =>
    let first := if alt then 1 - d.pref % 2 else d.pref % 2
    ([first, 1 - first].filter fun k => bit d.present k).map fun k => (k, d.slotSize)
  | none => [(0, maxSlot s)]

/-- The image in slot `k`, no longer than `lim`. -/
def slotImage (s : State) (k lim : Nat) : Option ImageS :=
  match verifyImage s (slotBytes s k) with
  | some i => if i.bytes.length ≤ lim then some i else none
  | none => none

/-- Choose the image of a start: the slot, whether it is the second tried, and the image. -/
def chooseImage (s : State) (alt : Bool) : Option (Nat × Bool × ImageS) :=
  match slotOrder s alt with
  | [] => none
  | a :: r =>
    match slotImage s a.1 a.2 with
    | some i => some (a.1, false, i)
    | none =>
      match r with
      | [] => none
      | b :: _ => (slotImage s b.1 b.2).map fun i => (b.1, true, i)

/-- Write the directory for a new image in slot `k` (R59). -/
def writeDir (s : State) (k : Nat) (img : ImageS) : State :=
  let ver := img.rollback
  let len := img.bytes.length
  match dirInUse s with
  | some (i, d) =>
    let e : DirCopy := { d with
      seq := (d.seq + 1) % 2 ^ 32, pref := k, present := setBit d.present k,
      verA := if k = 0 then ver else d.verA, lenA := if k = 0 then len else d.lenA,
      verB := if k = 1 then ver else d.verB, lenB := if k = 1 then len else d.lenB }
    if i = 0 then { s with flash := { s.flash with dir1 := some e } } else { s with flash := { s.flash with dir0 := some e } }
  | none =>
    let e : DirCopy := {
      seq := 1, slotSize := maxSlot s, pref := k, present := 2 ^ k, devId := devId s,
      verA := if k = 0 then ver else 0, lenA := if k = 0 then len else 0,
      verB := if k = 1 then ver else 0, lenB := if k = 1 then len else 0 }
    { s with flash := { s.flash with dir0 := some e } }

/-- The slot that an image written outside BOOT goes to (R262). -/
def updateSlot (s : State) : Nat :=
  match rd s Reg.BOOT_STATUS_SLOT with
  | 0 => 1
  | 1 => 0
  | _ =>
    match dirInUse s with
    | some (_, d) => if !bit d.present 0 then 0 else if !bit d.present 1 then 1 else 1 - d.pref % 2
    | none => 0

/-! ### Log (R60) -/

/-- Write a log entry; its TIME is zero before time lock. -/
def logEntry (s : State) (kind value : Nat) : State :=
  let bal := if rd s Reg.TIME_STATUS_STATE = 2 then s.time.bal else 0
  { s with flash := { s.flash with log := s.flash.log ++ [⟨kind, value, bal⟩] } }

end Sys2Proof.Machine
end

