-- ==== Sys2Proof/Machine/Sec.lean ====
section
/-! DEFINITION. Key slots and link authentication (spec/17_security.md, R367 to R373; spec/11_link_packets.md, R263), with the framing that
MACs are taken over (R242) and the responses that carry them (R248). -/

namespace Sys2Proof.Machine

/-! ### Framing -/

/-- Header bytes 0 to 13 (Table 11.1). -/
def headerBytes (op : Nat) (up bcast auth more ack err : Bool) (dev len seq tag aux : Nat) : List Nat :=
  [op, 128 * b2n up + 64 * b2n bcast + 32 * b2n auth + 16 * b2n more + 8 * b2n ack + 4 * b2n err] ++ beBytes 2 dev ++ beBytes 2 len ++
    beBytes 2 seq ++ beBytes 4 tag ++ beBytes 2 aux

/-- A payload padded with zero bytes to a whole word. -/
def padWord (bs : List Nat) : List Nat := bs ++ List.replicate ((8 - bs.length % 8) % 8) 0

/-- What a MAC covers (R371): header bytes, padded payload, KEY_ID and COUNTER. -/
def macInput (hdr payload : List Nat) (keyId counter : Nat) : List Nat := hdr ++ padWord payload ++ beBytes 4 keyId ++ beBytes 8 counter

/-- The payload's bytes as numbers. -/
def natBytes (bs : List Byte) : List Nat := bs.map BitVec.toNat

/-- What a received packet's MAC covers; `pre` holds the payload bytes that the command fixes. -/
def packetCover (op : Nat) (pre : List Nat) (p : Packet) (a : AuthBlock) : List Nat :=
  let bs := pre ++ natBytes p.payload
  macInput (headerBytes op false p.bcast true p.more p.ack false p.dev.toNat bs.length p.seq.toNat p.tag.toNat p.aux.toNat) bs a.keyId.toNat
    a.counter.toNat

/-! ### Slots -/

def State.slot (s : State) (k : Nat) : Option KeySlot := s.sec.slots.get k none

/-- SLOTS shows which slots hold a key (Table 17.6). -/
def showSlots (s : State) : State :=
  wr s Reg.SEC_STATUS_SLOTS ((List.range 8).foldl (fun m k => if (s.slot k).isSome then setBit m k else m) 0)

def setSlot (s : State) (k : Nat) (x : Option KeySlot) : State :=
  showSlots { s with sec := { s.sec with slots := s.sec.slots.set k none x } }

/-- Slot `k` is locked (R372). -/
def slotLocked (s : State) (k : Nat) : Bool := bit (rd s Reg.SEC_STATUS_LOCKED) k

/-- The last multiple of 2^24 that a counter has passed: its checkpoint (R373). -/
def checkpoint (n : Nat) : Nat := n / 2 ^ 24 * 2 ^ 24

/-- Change a slot's counters; the checkpoints in its MTP blob follow (R373). -/
def setCounters (s : State) (k : Nat) (x : KeySlot) (last up : Nat) : State :=
  let s1 := setSlot s k (some { x with last := last, up := up })
  match s1.sec.blobs.get k none with
  | some b => { s1 with sec := { s1.sec with blobs := s1.sec.blobs.set k none (some { b with last := checkpoint last, up := checkpoint up }) } }
  | none => s1

/-- The block is in ERROR (R380). -/
def secError (s : State) : Bool := rd s Reg.SEC_STATUS_STATE == 2

/-! ### Verification (R263, R371, R372) -/

/-- Why an authentication block fails, as the cause of Table 0.11; none when it holds. `role` is the least role that may ask. -/
def authCause (s : State) (role : Nat) (op : Nat) (pre : List Nat) (p : Packet) (a : AuthBlock) : Option Nat :=
  let k := a.keyId.toNat % 8
  if slotLocked s k then some 6
  else if 8 ≤ a.keyId.toNat then some 2
  else match s.slot k with
    | none => some 2
    | some x =>
      if x.role < role then some 3
      else if secError s || Config.cmac x.key (packetCover op pre p a) % 2 ^ 128 != a.mac.toNat then some 4
      else if a.counter.toNat ≤ x.last then some 5
      else none

/-- A failed block (R372): counted and reported; the eighth failure in a row on a slot that is not locked locks it. -/
def authFail (s : State) (k : Nat) (cause : Nat) : State :=
  let s1 := raise (bump s Reg.SEC_COUNT_AUTH_FAIL_CNT 1) 0x7001 (k + 256 * cause)
  if k = 0xF ∨ cause = 6 then s1
  else
    let n := s1.sec.fails.get k 0 + 1
    if n < 8 then { s1 with sec := { s1.sec with fails := s1.sec.fails.set k 0 n } }
    else
      let j := s1.sec.locks.get k 0
      let s2 := { s1 with sec := { s1.sec with fails := s1.sec.fails.set k 0 0, locks := s1.sec.locks.set k 0 (j + 1) } }
      raise (wr s2 Reg.SEC_STATUS_LOCKED (setBit (rd s2 Reg.SEC_STATUS_LOCKED) k)) 0x7002 (k + 256 * min 64 (2 ^ j))

/-- A block that holds (R372, R373). -/
def authPass (s : State) (k : Nat) (counter : Nat) : State :=
  match s.slot k with
  | none => s
  | some x =>
    let s1 := { s with sec := { s.sec with fails := s.sec.fails.set k 0 0, locks := s.sec.locks.set k 0 0 } }
    setCounters s1 k x counter x.up

/-- What a request's authentication comes to: no block, a block that holds under a slot, or a failure. -/
inductive AuthOut where
  | absent
  | good (slot : Nat)
  | bad
  deriving DecidableEq, Repr

/-- Verify the block of a request; `need` says that Table 11.2 requires one, from `role` up. -/
def authenticate (s : State) (need : Bool) (role : Nat) (op : Nat) (pre : List Nat) (p : Packet) : AuthOut × State :=
  match p.auth with
  | none => if need then (.bad, authFail s 0xF 1) else (.absent, s)
  | some a =>
    match authCause s role op pre p a with
    | some c => (.bad, authFail s (a.keyId.toNat % 8) c)
    | none => (.good (a.keyId.toNat % 8), authPass s (a.keyId.toNat % 8) a.counter.toNat)

/-- The role of an authenticated request's key (Table 17.1): 0 none, 1 USER, 2 CO. -/
def authRole (s : State) : AuthOut → Nat
  | .good k => match s.slot k with | some x => x.role | none => 0
  | _ => 0

/-! ### Responses (R248, R371) -/

/-- Send the device's own packet with an authentication block under slot `k`: its upstream counter rises first. -/
def sendAuth (s : State) (o : OutPkt) (k : Nat) : State :=
  match s.slot k with
  | none => send s o
  | some x =>
    let n := x.up + 1
    let s1 := setCounters s k x x.last n
    let hdr := headerBytes o.op true false true o.more false o.err (devId s1) o.payload.length (s1.pool.seqOut.get o.port 0) o.tag o.aux
    send s1 { o with auth := some (k, n, Config.cmac x.key (macInput hdr o.payload k n) % 2 ^ 128) }

/-- Answer request `p` of opcode `op`: always, on ACK, or on a status that is not OK; never a broadcast (R246). A request with a valid
block is answered with one. -/
def respond (s : State) (always : Bool) (op : Nat) (p : Packet) (a : AuthOut) (status : Nat) (payload : List Nat) : State :=
  if p.bcast || !(always || p.ack || status != 0) then s
  else
    let o : OutPkt := { port := activeUp s, op := op, err := status != 0, aux := status, tag := p.tag.toNat, payload := payload }
    match a with
    | .good k => sendAuth s o k
    | _ => send s o

/-! ### Receiving (R243 to R246, R250, R269) -/

/-- Pads beyond its reserve that stream `n` holds. -/
def padsOver (s : State) (n : Nat) : Nat := rd s (Reg.POOL_USE_USED n) - rd s (Reg.POOL_RSV_RSV n)

/-- Pads left in the shared remainder (R268). -/
def padsShared (s : State) : Nat :=
  16384 - (List.range 16).foldl (fun a n => a + rd s (Reg.POOL_RSV_RSV n) + padsOver s n) 0

/-- Stream `n` can take `k` more pads (R268). -/
def padsFor (s : State) (n k : Nat) : Bool :=
  let used := rd s (Reg.POOL_USE_USED n)
  let rsv := rd s (Reg.POOL_RSV_RSV n)
  if used + k ≤ rsv then true
  else decide (used + k ≤ rd s (Reg.POOL_RSV_MAX n)) && decide (used + k - max rsv used ≤ padsShared s)

/-- Set the pads that stream `n` holds, and the pads free. -/
def setPads (s : State) (n used : Nat) : State :=
  let s1 := wr s (Reg.POOL_USE_USED n) used
  wr s1 Reg.POOL_STATUS_FREE (16384 - (List.range 16).foldl (fun a n => a + rd s1 (Reg.POOL_USE_USED n)) 0)

/-- The device consumes the packet (R246). -/
def consumed (s : State) (p : Packet) : Bool := p.bcast || p.dev.toNat == devId s

/-- The SEQ check of a consumed packet (R250). -/
def seqCheck (s : State) (p : Packet) : State :=
  if p.bcast then s
  else
    let q := p.port.val
    let last := s.pool.seqIn.get q 0
    let s1 := { s with pool := { s.pool with seqIn := s.pool.seqIn.set q 0 (p.seq.toNat + 1) } }
    if last = 0 ∨ p.seq.toNat = last % 65536 then s1
    else raiseIf (rd s1 (Reg.POOL_ERR_SEQ_GAP q) == 0) (bump s1 (Reg.POOL_ERR_SEQ_GAP q) 1) 0x3015 0

/-- The receiver's part of every command: only a port that is UP delivers packets, only consumed ones run, a failed trailer discards the packet, SEQ is
checked. `f` runs the rest. -/
def receive (s : State) (p : Packet) (f : State → State) : State :=
  if !portUp s p.port.val || !consumed s p then s
  else if !p.trailer then bump s (Reg.POOL_ERR_CRC_ERR p.port.val) 1
  else f (seqCheck s p)

/-- A command of opcode `op` that is consumed (R247 to R249, R263, R269): pads for it and its response, then authentication, then `f`, which answers with
the status and the payload of its response; `after` acts once the response has left. `fail` gives the payload that goes with status 0x06 and
0x07 (R403), and `onBad` what a failed authentication does besides R372. -/
def command (s : State) (op : Nat) (pre : List Nat) (p : Packet) (always need : Bool) (role : Nat) (fail : State → List Nat)
    (f : State → AuthOut → State × Nat × List Nat) (onBad : State → State := id) (after : Nat → State → State := fun _ x => x) : State :=
  receive s p fun s =>
    if !padsFor s 10 1 || ((always || p.ack) && !padsFor s 11 1) then
      let s1 := if padsFor s 10 1 then s else bump s (Reg.POOL_USE_DROP 10) 1
      respond s1 always op p .absent 0x07 (fail s1)
    else
      let a := authenticate s need role op pre p
      match a.1 with
      | .bad =>
        let s1 := onBad a.2
        respond s1 always op p .bad 0x06 (fail s1)
      | o =>
        let r := f a.2 o
        after r.2.1 (respond r.1 always op p o r.2.1 r.2.2)

def noBytes (_ : State) : List Nat := []

end Sys2Proof.Machine
end

