-- ==== Sys2Proof/Machine/Domains.lean ====
section
/-! DEFINITION. Power domains and datapath gating (spec/16_power.md, R340 to R344): the domain states of each mode, and gating and waking of
paths and regions. -/

namespace Sys2Proof.Machine

/-! ### Paths and regions -/

/-- The TX path of unit `u` gates (R342). -/
def gateTx (s : State) (u : Nat) : State :=
  if on s (Reg.UNIT_TX_STATUS_GATED u) then s
  else forEach (regionUnits u) ((wr s (Reg.UNIT_TX_STATUS_GATED u) 1).modTx u fun x => { x with txNow := false }) updateNbLive

/-- The RX path of unit `u` gates (R342): its samples are INVALID and its fast path reads 0xFF (R67). -/
def gateRx (s : State) (u : Nat) : State :=
  if on s (Reg.UNIT_RX_STATUS_GATED u) then s
  else
    let s1 := wr (wr s (Reg.UNIT_RX_STATUS_GATED u) 1) (Reg.UNIT_RX_STATUS_OVLD_NOW u) 0
    let s2 := wr (wr (wr s1 (Reg.UNIT_RX_FASTPWR_NOW u) 0xFF) (Reg.UNIT_RX_FASTPWR_PEAK u) 0xFF) (Reg.UNIT_RX_FASTPWR_MEAN u) 0xFF
    s2.modRx u fun x => { x with tag := 3 }

/-- The TX path is ready. -/
def wakeTx (s : State) (u : Nat) : State := (wr s (Reg.UNIT_TX_STATUS_GATED u) 0).modUnit u fun x => { x with idleTx := 0 }

/-- The RX path is ready: its first samples are INVALID (R82, Table 3.5). -/
def wakeRx (s : State) (u : Nat) : State :=
  if on s (Reg.UNIT_RX_STATUS_GATED u) then
    markTag ((wr s (Reg.UNIT_RX_STATUS_GATED u) 0).modUnit u fun x => { x with idleRx := 0 }) u 3 (invalidCount (rd s (Reg.UNIT_RX_DEC_RATIO u)))
  else s

/-- The units of region `g`. -/
def unitsOfRegion (g : Nat) : List Nat := (List.range 16).map (16 * g + ·)

/-- Region `g` gates its analogue island, with the paths of its units (R343). -/
def gateRegion (s : State) (g : Nat) : State :=
  forEach (unitsOfRegion g) (setDom s (12 + g) domGated) fun s u => gateRx (gateTx s u) u

/-- The island of region `g` is on; a FAILED region stays OFF. -/
def wakeRegion (s : State) (g : Nat) : State :=
  { (setDom s (12 + g) domOn) with power := { s.power with regIdle := s.power.regIdle.set g 0 0 } }

/-! ### Modes (R341, Table 16.2) -/

/-- Domain `d` is no part of grade-disabled hardware. -/
def domEnabled (s : State) (d : Nat) : Bool :=
  !((decide (8 ≤ d ∧ d ≤ 11) && !tileEnabled s (d - 8)) || (decide (12 ≤ d) && !regionEnabled s (d - 12)))

/-- State of domain `d` in mode `m`; BOOT, TRIM and DIAG hold the states of SERVE, where regions gate by their timers. -/
def modeDomain (s : State) (m d : Nat) : Nat :=
  let c := rd s Reg.PWR_SENT_SENT_CLUSTER
  if !domEnabled s d then domOff
  else if m = mSentinel then
    if d = 0 then domQuiesced else if d = 1 ∨ d = 3 then domOn else if d = 2 then domSelfRefresh
    else if d ≤ 7 then domSleep else if d ≤ 11 then (if d - 8 = c / 4 then domRetain else domOff) else domGated
  else if m = mBrumate then
    if d = 2 then domSelfRefresh else if d = 3 then domRetain else if 4 ≤ d ∧ d ≤ 7 then domSleep else domOff
  else if 12 ≤ d then (if m = mIdle ∨ m = mSafe then domGated else domState s d)
  else domOn

/-- Put every domain into its state of mode `m`, and gate the regions and paths of a mode that gates them. -/
def modeDomains (s : State) (m : Nat) : State :=
  let s1 := forEach (List.range 20) s fun t d => setDom t d (modeDomain s m d)
  let s2 := if m == mIdle || m == mSafe || m == mSentinel || m == mBrumate then
      forEach (enabledUnits s1) s1 fun t u => gateRx (gateTx t u) u else s1
  let low := m == mSentinel || m == mBrumate
  let s3 := memRefresh s2 (low || decide (2 ≤ stageOf s2))
  { s3 with power := { s3.power with woken := [], waking := [], precal := if m == mIdle || m == mDiag then s3.power.precal else [] } }

/-- Wake every region and path at once, for the calibrations of TRIM. -/
def wakeAll (s : State) : State :=
  forEach (enabledUnits s) (forEach (enabledRegions s) s wakeRegion) fun t u =>
    if domState t (12 + u / 16) = domOn then wakeRx (wakeTx t u) u else t

/-! ### What an address lies in (R314, Table 16.1) -/

/-- Address `a` lies in the memory die. -/
def inDie (a : Nat) : Bool := decide (a < dieEnd)

/-- The tile whose register logic or memories hold window address `a`, if one does. -/
def tileAt (a : Nat) : Option Nat :=
  if a < 0xF000000000 then none
  else
    let o := a - 0xF000000000
    if o < 0x100000 then none
    else if o < 0x200000 then some ((o - 0x100000) / 0x40000)
    else if o < 0x280000 then some ((o - 0x200000) / 0x20000)
    else if o < 0x300000 then none
    else if o < 0x380000 then some ((o - 0x300000) / 0x20000)
    else if o < 0x400000 then none
    else if o < 0x800000 then some ((o - 0x400000) / 0x100000)
    else if o < 0x1000000 then some ((o - 0x800000) / 0x200000)
    else none

/-- Address `a` lies in domain `d` (MEM or a tile). -/
def inDomain (d a : Nat) : Bool :=
  if d = 2 then inDie a else if 8 ≤ d ∧ d ≤ 11 then tileAt a == some (d - 8) else false

end Sys2Proof.Machine
end

