-- ==== Sys2Proof/Machine/Hk.lean ====
section
/-! DEFINITION. Monitor converters, precision bias outputs and PWM outputs (spec/15_housekeeping_and_thermal.md, R317 to R333,
R339). -/

namespace Sys2Proof.Machine

def State.conv (s : State) (k : Nat) : HkConv := s.hk.convs.get k {}
def State.modConv (s : State) (k : Nat) (f : HkConv → HkConv) : State :=
  { s with hk := { s.hk with convs := s.hk.convs.set k {} (f (s.conv k)) } }
def State.bias (s : State) (i : Nat) : BiasS := s.hk.bias.get i {}
def State.modBias (s : State) (i : Nat) (f : BiasS → BiasS) : State :=
  { s with hk := { s.hk with bias := s.hk.bias.set i {} (f (s.bias i)) } }
def State.pwmOf (s : State) (u : Nat) : PwmS := s.hk.pwm.get u {}
def State.modPwm (s : State) (u : Nat) (f : PwmS → PwmS) : State :=
  { s with hk := { s.hk with pwm := s.hk.pwm.set u {} (f (s.pwmOf u)) } }

def biases : List Nat := List.range 32

/-! ### Converters: states and triggers (R320, R321, R324) -/

/-- Show STATE_A or STATE_B: FAILED, powered down, SUSPECT or OK. -/
def showConv (s : State) (k : Nat) : State :=
  let x := s.conv k
  wr s (if k = 0 then Reg.HK_STATUS_STATE_A else Reg.HK_STATUS_STATE_B)
    (if x.cond = 2 then 2 else if !x.powered then 3 else x.cond)

/-- Modes in which host sequences run; the vendor's run in SAFE and TRIM too (R321). -/
def hkHostMode (s : State) : Bool := [mTrim, mIdle, mServe, mDiag].contains (modeOf s)
def hkMode (s : State) : Bool := hkHostMode s || modeOf s == mSafe

def apd (s : State) (k : Nat) : Bool := on s (if k = 0 then Reg.HK_CTRL_APD_A else Reg.HK_CTRL_APD_B)

/-- Begin the list of (kk, sq) on converter `k`. -/
def beginSeq (s : State) (k kk sq : Nat) : State := s.modConv k fun x => { x with run := some (kk, sq, 0) }

/-- A converter with nothing to do starts what waits: the vendor's run first, a suspended sequence, then sequences 0 and 1. -/
def kickConv (s : State) (k : Nat) : State :=
  let x := s.conv k
  if x.run.isSome || x.starting || x.phase = 4 then s
  else if x.phase = 0 ∧ x.susp.isNone ∧ x.pend.isEmpty then
    if apd s k then showConv (s.modConv k fun x => { x with powered := false }) k else s
  else if !x.powered then s.modConv k fun x => { x with starting := true }
  else if x.phase = 1 then (beginSeq s k k 2).modConv k fun x => { x with phase := 2 }
  else match x.susp with
    | some (q, e) => s.modConv k fun x => { x with run := some (k, q, e), susp := none }
    | none =>
      match [0, 1].find? fun q => x.pend.contains q with
      | some q => (beginSeq s k k q).modConv k fun x => { x with pend := x.pend.filter (· != q) }
      | none => s

/-- A trigger of host sequence `q` (R320): lost as an overrun when the sequence is pending or running. -/
def hkTrigger (s : State) (k q : Nat) : State :=
  if hkHostMode s && on s (Reg.HK_SEQ_EN k q) then
    if on s (Reg.HK_SEQ_BUSY k q) then stickyEvent s (Reg.HK_SEQ_OVERRUN k q) 0x2084 0
    else kickConv ((wr s (Reg.HK_SEQ_BUSY k q) 1).modConv k fun x => { x with pend := x.pend ++ [q] }) k
  else s

/-- A trigger of kind `trig` (Table 15.6) of a sequence. -/
def hkTriggerKind (s : State) (k q trig : Nat) : State :=
  if rd s (Reg.HK_SEQ_TRIG k q) = trig then hkTrigger s k q else s

/-- A slot boundary triggers the sequences of TRIG 0b10. -/
def hkSlot (s : State) : State :=
  forEach [(0, 0), (0, 1), (1, 0), (1, 1)] s fun s x => hkTriggerKind s x.1 x.2 2

/-- A sequence stops: EN 0. -/
def hkStopSeq (s : State) (k q : Nat) : State :=
  let s1 := wr (wr s (Reg.HK_SEQ_EN k q) 0) (Reg.HK_SEQ_BUSY k q) 0
  s1.modConv k fun x => { x with
    pend := x.pend.filter (· != q), susp := x.susp.filter fun y => y.1 != q, run := x.run.filter fun y => y.2.1 != q }

/-- The vendor's sequences (R320): written into their registers when the converters come on at step 9 of Table 2.7. -/
def vendorSeq (s : State) (k : Nat) : State :=
  let ent := fun (s : State) (q e mux : Nat) => wr (wr s (Reg.HK_ENTRY0_MUX k q e) mux) (Reg.HK_ENTRY0_ST k q e) 1
  let s1 := forEach (List.range 16) s fun s e => ent s 2 e (0x20 + 16 * k + e)
  let s2 := ent (ent s1 3 0 0x1A) 3 1 0x18
  let s3 := forEach (List.range 12) s2 fun s e => ent s 3 (2 + e) (0x40 + e)
  let s4 := wr (wr s3 (Reg.HK_SEQ_LEN k 2) 15) (Reg.HK_SEQ_LEN k 3) 13
  wr (wr s4 (Reg.HK_SEQ_EN k 2) 1) (Reg.HK_SEQ_EN k 3) 1

/-- The converters come on (step 9 of Table 2.7, or a wake). -/
def hkOn (s : State) : State :=
  forEach [0, 1] s fun s k => showConv ((vendorSeq s k).modConv k fun x => { x with powered := true }) k

/-- The converters go off (SENTINEL, BRUMATE, BOOT). -/
def hkOff (s : State) : State :=
  forEach [0, 1] s fun s k =>
    let s1 := forEach (List.range 4) s fun s q => wr s (Reg.HK_SEQ_BUSY k q) 0
    showConv (s1.modConv k fun x => { cond := x.cond }) k

/-- Entry to SAFE: only the vendor's sequences run. -/
def hkSafe (s : State) : State :=
  forEach [0, 1] s fun s k =>
    let s1 := wr (wr s (Reg.HK_SEQ_BUSY k 0) 0) (Reg.HK_SEQ_BUSY k 1) 0
    s1.modConv k fun x => { x with pend := [], susp := none, run := x.run.filter fun y => decide (2 ≤ y.2.1) }

/-- The 1 ms vendor trigger (R320). A converter on a host sequence first completes its entry. -/
def hkVendor (s : State) : State :=
  if hkMode s then
    forEach [0, 1] s fun s k =>
      let x := s.conv k
      if x.cond = 2 ∨ x.phase ≠ 0 then s
      else
        let s1 := wr (wr s (Reg.HK_SEQ_BUSY k 2) 1) (Reg.HK_SEQ_BUSY k 3) 1
        kickConv (s1.modConv k fun x => { x with phase := 1, done3 := false }) k
  else s

/-- Sequence 3 starts on both converters at once, or on one where the other has FAILED. -/
def startThree (s : State) : State :=
  let ready := fun k => (s.conv k).phase == 4 || (s.conv k).cond == 2
  if ready 0 && ready 1 then
    forEach [0, 1] s fun s k =>
      if (s.conv k).phase = 4 then (beginSeq s k k 3).modConv k fun x => { x with phase := 5 } else s
  else s

/-! ### Results (R317 to R319, R322, R323) -/

def muxSigned (m : Nat) : Bool := decide (0x10 ≤ m) && decide (m ≤ 0x17)

/-- The channels of Table 15.1. -/
def muxOk (m : Nat) : Bool := decide (m ≤ 0x1B) || (decide (0x20 ≤ m) && decide (m ≤ 0x4B))

def codeRange (m : Nat) : Int × Int := if muxSigned m then (-2048, 2047) else (0, 4095)

/-- The code of an entry and OOR: the mean of its conversions, or the clamped value of one out of range (R322). -/
def entryCode (m : Nat) (cs : List Int) : Int × Bool :=
  let r := codeRange m
  match cs.find? fun c => decide (c < r.1) || decide (r.2 < c) with
  | some c => (if c < r.1 then r.1 else r.2, true)
  | none => (roundDiv (cs.foldl (· + ·) 0) (atLeast1 cs.length), false)

/-- The result word's VALUE: right- or left-aligned (R319). -/
def alignCode (m : Nat) (c : Int) (left : Bool) : Nat :=
  if left then code 12 c * 16 else if muxSigned m then code 16 c else code 12 c

/-- The code is outside the limits of its entry (R323). -/
def outsideLimits (s : State) (k q e : Nat) (m : Nat) (c : Int) : Bool :=
  let f := fun (r : Fld) => if muxSigned m then sgn 12 (rd s r) else (rd s r : Int)
  on s (Reg.HK_ENTRY0_LIM_EN k q e) && (decide (c < f (Reg.HK_ENTRY1_LO k q e)) || decide (f (Reg.HK_ENTRY1_HI k q e) < c))

/-- Write the result of entry (kk, q, e). -/
def hkWriteResult (s : State) (k kk q e : Nat) (c : Int) (oor : Bool) : State :=
  let m := rd s (Reg.HK_ENTRY0_MUX kk q e)
  let lim := outsideLimits s kk q e m c
  let was := on s (Reg.HK_RESULT_LIMIT kk q e)
  let s1 := wr (wr s (Reg.HK_RESULT_VALUE kk q e) (alignCode m c (on s (Reg.HK_SEQ_ALIGN kk q)))) (Reg.HK_RESULT_OOR kk q e) (b2n oor)
  let s2 := wr (wr (wr s1 (Reg.HK_RESULT_LIMIT kk q e) (b2n lim)) (Reg.HK_RESULT_FRESH kk q e) 1) (Reg.HK_RESULT_MUX kk q e) m
  raiseIf (lim && !was) s2 0x2082 (k + 2 * q + 16 * e)

/-! ### Bias outputs (R326 to R331) -/

/-- Whole µs of balance time since `t0`. -/
def usSince (s : State) (t0 : Nat) : Nat := (s.time.bal - t0) / (nsUnits * 1000)

/-- The code in force. -/
def outCode (s : State) (i : Nat) : Nat :=
  let x := s.bias i
  if x.rate = 0 then x.dst
  else
    let n := x.rate * usSince s x.t0
    if x.src ≤ x.dst then min x.dst (x.src + n) else max x.dst (x.src - n)

/-- The output is settled (R329): not ramping, not in a range change, not within 5 µs of a change, not in sine mode. -/
def biasSettled (s : State) (i : Nat) : Bool :=
  let x := s.bias i
  let d := if x.src ≤ x.dst then x.dst - x.src else x.src - x.dst
  let reach := if x.rate = 0 then 0 else (d + x.rate - 1) / x.rate
  !x.change && !x.sine && decide (reach + 5 ≤ usSince s x.t0)

/-- Drive towards code `c`. -/
def driveTo (s : State) (i c rate : Nat) : State :=
  let x := s.bias i
  if x.dst = c ∧ x.rate = rate then s
  else
    let now := outCode s i
    s.modBias i fun x => { x with src := now, dst := c, rate := rate, t0 := s.time.bal }

/-- SAFE_CODE and SAFE_RANGE of the option records; the factory default 0 after a TRIM_FAIL (R327). -/
def safeCode (s : State) (i : Nat) : Nat := if on s Reg.BOOT_STATUS_TRIM_FAIL then 0 else s.hk.safe.get i 0 % 4096
def safeRange (s : State) (i : Nat) : Nat := if on s Reg.BOOT_STATUS_TRIM_FAIL then 0 else s.hk.safe.get i 0 / 4096 % 2

/-- The causes of R330: supply stage S4 or higher, thermal shutdown, the mode SAFE. -/
def safeCause (s : State) : Bool :=
  decide (4 ≤ stageOf s) || rd s Reg.THERM_STATUS_LEVEL == 3 || modeOf s == mSafe

def rampRate (s : State) (i : Nat) : Nat :=
  let n := rd s (Reg.BIAS_CFG0_RAMP i)
  if n = 0 then 0 else 2 ^ (n - 1)

/-- What an output shall do by the precedence of R330: BIAS_STATUS.STATE, code, range and rate; `none` is OFF. -/
def biasWant (s : State) (i : Nat) : Option (Nat × Nat × Nat × Nat) :=
  let x := s.bias i
  let act := rd s (Reg.BIAS_CFG0_FAULT_ACT i)
  if x.latched && decide (2 ≤ act) then none
  else if safeCause s || x.safeHold then some (1, safeCode s i, safeRange s i, 64)
  else if x.latched && act == 1 then some (1, safeCode s i, safeRange s i, rampRate s i)
  else if x.sine then some (4, rd s (Reg.BIAS_CFG0_CODE i), rd s (Reg.BIAS_CFG0_RANGE i), 0)
  else if x.host && !x.holdSafe then some (2, rd s (Reg.BIAS_CFG0_CODE i), rd s (Reg.BIAS_CFG0_RANGE i), rampRate s i)
  else some (1, safeCode s i, rd s (Reg.BIAS_CFG0_RANGE i), rampRate s i)

/-- Put an output onto what it shall do; through R328 when the range differs. A range change that runs is left to end. -/
def biasApply (s : State) (i : Nat) : State :=
  let x := s.bias i
  if !x.loaded || x.change then s
  else match biasWant s i with
    | none => wr s (Reg.BIAS_STATUS_STATE i) 5
    | some (st, c, r, rate) =>
      if r ≠ rd s (Reg.BIAS_STATUS_RANGE_ACT i) then
        wr ((driveTo s i (safeCode s i) rate).modBias i fun x => { x with change := true }) (Reg.BIAS_STATUS_STATE i) 3
      else wr (driveTo s i c rate) (Reg.BIAS_STATUS_STATE i) st

def biasAll (s : State) : State := forEach biases s biasApply

/-- The range switch ends: SAFE_CODE in the new range, then whatever now applies (R328). -/
def biasSwitch (s : State) (i : Nat) : State :=
  if (s.bias i).change then
    let r := match biasWant s i with
      | some (_, _, r, _) => r
      | none => rd s (Reg.BIAS_CFG0_RANGE i)
    let s1 := wr s (Reg.BIAS_STATUS_RANGE_ACT i) r
    biasApply (s1.modBias i fun x => { x with change := false, src := safeCode s i, dst := safeCode s i, rate := 0, t0 := s.time.bal }) i
  else s

/-- The option records are loaded: each output drives SAFE_CODE in SAFE_RANGE (R327). -/
def biasLoad (s : State) : State :=
  forEach biases s fun s i =>
    let s1 := wrBoth (wrBoth s (Reg.BIAS_CFG0_CODE i) (safeCode s i)) (Reg.BIAS_CFG0_RANGE i) (safeRange s i)
    let s2 := wr s1 (Reg.BIAS_STATUS_RANGE_ACT i) (safeRange s i)
    biasApply (s2.modBias i fun _ => { loaded := true, src := safeCode s i, dst := safeCode s i, t0 := s.time.bal }) i

/-- Entry to SAFE: safe codes, held after SAFE until the next CODE commit (R330). -/
def biasSafe (s : State) : State :=
  biasAll (forEach biases s fun s i => s.modBias i fun x => { x with safeHold := true, sine := false, holdSafe := false })

/-- A stage is restored or a cause ends: CODE counts as the next commit (R330). -/
def biasRestore (s : State) : State :=
  biasAll (forEach biases s fun s i => if safeCause s then s else s.modBias i fun x => { x with holdSafe := false })

/-- Entry to SERVE ends sine mode (R331). -/
def biasServe (s : State) : State := biasAll (forEach biases s fun s i => s.modBias i fun x => { x with sine := false })

/-- A fault (R329). -/
def biasFault (s : State) (i : Nat) : State :=
  let s1 := stickyEvent s (Reg.BIAS_STATUS_FAULT i) 0x2080 i
  biasApply (s1.modBias i fun x => { x with latched := true, strikes := 0 }) i

/-- A readback of output `i` by a vendor sequence (R329). -/
def biasReadback (s : State) (i : Nat) (c : Int) : State :=
  let s1 := wr s (Reg.BIAS_STATUS_READBACK i) (code 12 c)
  if (s.bias i).loaded && biasSettled s i && rd s (Reg.BIAS_STATUS_STATE i) != 5 then
    if 16 < (c - outCode s i).natAbs then
      if 2 ≤ (s.bias i).strikes then biasFault s1 i else s1.modBias i fun x => { x with strikes := x.strikes + 1 }
    else s1.modBias i fun x => { x with strikes := 0 }
  else s1

/-! ### Sine (R331): 2π and the series in units of 2^-60 -/

def one60 : Int := 2 ^ 60

/-- sin of an angle of [0, π/2], given in 2^-60 rad, by its series. -/
def sinSeries (x : Int) : Int :=
  let x2 := x * x / one60
  ((List.range 12).foldl (fun (a : Int × Int) k =>
    let t := -(a.2 * x2 / one60) / ((2 * k + 2) * (2 * k + 3) : Nat)
    (a.1 + t, t)) (x, x)).1

/-- sin(2π φ / 2^24) in 2^-60. -/
def sinTurn (phi : Nat) : Int :=
  let q := phi / 2 ^ 22 % 4
  let r := phi % 2 ^ 22
  let rad := fun (n : Nat) => ((n : Int) * 7244019458077122843) / 2 ^ 24
  let v := sinSeries (if q % 2 = 0 then rad r else rad (2 ^ 22 - r))
  if q < 2 then v else -v

/-- CODE + round(AMP × sin φ). -/
def sineCode (s : State) (i : Nat) : Nat :=
  ((rd s (Reg.BIAS_CFG0_CODE i) : Int) + roundDiv ((rd s (Reg.BIAS_CFG1_AMP i) : Int) * sinTurn (s.bias i).phi) (2 ^ 60)).toNat

/-! ### PWM outputs (R332, R333) -/

/-- The output is held at 0 % duty. -/
def pwmZero (s : State) (u : Nat) : Bool := !(s.unit u).tx.started || safeCause s || (s.pwmOf u).latched

/-! ### Commits (R339) -/

def hkGroup : Group := ⟨[regsAt 0x31000 0x31200, regsAt 0x32000 0x32200]⟩

/-- The sine pair of an output (R331). -/
def sinePairOk (s : State) (i : Nat) : Bool :=
  let c := rdSh s (Reg.BIAS_CFG0_CODE i)
  let a := rdSh s (Reg.BIAS_CFG1_AMP i)
  rdSh s (Reg.BIAS_CFG0_SINE_EN i) == 0 ||
    (decide (a ≤ c) && decide (c + a ≤ 4095) && (modeOf s == mIdle || modeOf s == mDiag))

/-- The effect of a commit on output `i`. A write of CODE counts as a CODE commit unless only RANGE has changed with it (log 47). -/
def biasCommitted (s : State) (i : Nat) (codeWr codeChg rangeChg cfgChg : Bool) : State :=
  if !codeWr && !cfgChg then s
  else
    let host := codeChg || (codeWr && !rangeChg)
    let safe := modeOf s == mSafe
    let fault := on s (Reg.BIAS_STATUS_FAULT i)
    let s1 := s.modBias i fun x => { x with
      host := x.host || host, holdSafe := if host then false else x.holdSafe || rangeChg,
      latched := x.latched && (fault || !host), safeHold := x.safeHold && (safe || !host),
      sine := on s (Reg.BIAS_CFG0_SINE_EN i), phi := 0 }
    biasApply s1 i

/-- Commit the block's H fields; DUTY takes effect at the unit's next period. -/
def hkCommit (s : State) : State :=
  let fails := biases.flatMap fun i => failAt (sinePairOk s i) (Reg.BIAS_CFG0_CODE i).off
  let codeWr := s.hk.codeWr
  let dutyWr := s.hk.dutyWr
  if !shadowChanged s hkGroup && codeWr.isEmpty && dutyWr.isEmpty then s
  else
    let r := commitGroup s hkGroup fails true
    if r.2 then
      let s1 : State := { r.1 with hk := { r.1.hk with codeWr := [], dutyWr := [] } }
      let s2 := forEach biases s1 fun t i =>
        let chg := fun (f : Fld) => rd s f != rd s1 f
        biasCommitted t i (codeWr.contains i) (chg (Reg.BIAS_CFG0_CODE i)) (chg (Reg.BIAS_CFG0_RANGE i))
          (chg (Reg.BIAS_CFG0_RANGE i) || chg (Reg.BIAS_CFG0_CODE i) || chg (Reg.BIAS_CFG0_RAMP i) || chg (Reg.BIAS_CFG0_SINE_EN i) ||
            chg (Reg.BIAS_CFG1_AMP i) || chg (Reg.BIAS_CFG1_FREQ i))
      forEach dutyWr s2 fun t u =>
        if on t (Reg.PWM_DUTY_FAULT u) then t else t.modPwm u fun x => { x with latched := false }
    else r.1

/-! ### The commands' meanings -/

/-- HK_GO (R320). -/
def execHkGo (k q : Fin 2) (s : State) : Host.Outcome State Fault Refusal := .next (hkTriggerKind s k q 0)

/-- HK_PERIOD_TRIGGER (R320). -/
def execHkPeriodTrigger (k q : Fin 2) (s : State) : Host.Outcome State Fault Refusal := .next (hkTriggerKind s k q 1)

/-- HK_VENDOR_TRIGGER (R320). -/
def execHkVendorTrigger (s : State) : Host.Outcome State Fault Refusal := .next (hkVendor s)

/-- HK_STARTUP_DONE (R321). -/
def execHkStartupDone (k : Fin 2) (s : State) : Host.Outcome State Fault Refusal :=
  .next (if (s.conv k).starting then
      kickConv (showConv (s.modConv k fun x => { x with starting := false, powered := true }) k) k
    else s)

/-- HK_ENTRY_DONE (R317, R322, R323): the codes that its conversions would give unclamped; of an entry converted twice, the second's. A
host sequence is suspended here when the vendor's run is asked for (R320). -/
def execHkEntryDone (k : Fin 2) (cs : List (BitVec 16)) (s : State) : Host.Outcome State Fault Refusal :=
  .next (match (s.conv k).run with
    | some (kk, q, e) =>
      if e ≤ rd s (Reg.HK_SEQ_LEN kk q) then
        let m := rd s (Reg.HK_ENTRY0_MUX kk q e)
        let r := entryCode m (cs.map BitVec.toInt)
        let s1 := (hkWriteResult s k kk q e r.1 r.2).modConv k fun x => { x with twice := r.2, run := some (kk, q, e + 1) }
        let s2 := if q = 2 then biasReadback s1 (m - 0x20) r.1 else s1
        if q < 2 ∧ (s2.conv k).phase = 1 ∧ e < rd s (Reg.HK_SEQ_LEN kk q) then
          kickConv (s2.modConv k fun x => { x with run := none, susp := some (q, e + 1) }) k
        else s2
      else s
    | none => s)

/-- The cross-check after sequence 3 of both converters (R324). -/
def crossCheck (s : State) : State :=
  let v := fun k e => rd s (Reg.HK_RESULT_VALUE k 3 e)
  let tol := rd s Reg.HK_CTRL_XCHK_TOL
  let gap := fun (a b : Nat) => ((a : Int) - b).natAbs
  if gap (v 0 0) (v 1 0) ≤ tol then
    forEach [0, 1] s fun s k => showConv (s.modConv k fun x => { x with cond := if x.cond = 1 then 0 else x.cond }) k
  else
    let s1 := raise (wr s Reg.HK_STATUS_XCHK_FAIL 1) 0x2083 0
    let bad := fun k => decide (tol < gap (v k 1) 0xCCD)
    if bad 0 != bad 1 then
      let k := if bad 0 then 0 else 1
      let s2 := hkStopSeq (hkStopSeq (s1.modConv k fun x => { x with cond := 2, phase := 0 }) k 0) k 1
      showConv s2 k
    else forEach [0, 1] s1 fun s k => showConv (s.modConv k fun x => { x with cond := 1 }) k

/-- HK_SEQ_DONE (R320, R324): the running sequence's last entry has ended. -/
def hkSeqDone (s : State) (k : Nat) : State :=
  match (s.conv k).run with
  | some (kk, q, e) =>
    if e ≤ rd s (Reg.HK_SEQ_LEN kk q) then s
    else
      let s1 := (wr s (Reg.HK_SEQ_BUSY kk q) 0).modConv k fun x => { x with run := none }
      let other := 1 - k
      let s2 :=
        if q = 2 ∧ kk = k ∧ (s1.conv other).cond = 2 then
          (beginSeq s1 k other 2).modConv k fun x => { x with phase := 3 }
        else if q = 2 then startThree (s1.modConv k fun x => { x with phase := 4 })
        else if q = 3 then
          let s3 := s1.modConv k fun x => { x with phase := 0, done3 := true }
          if (s3.conv other).done3 then
            crossCheck ((s3.modConv 0 fun x => { x with done3 := false }).modConv 1 fun x => { x with done3 := false })
          else s3
        else s1
      let s4 := if q = 3 then hkTriggerKind s2 k 0 3 else if q = 0 then hkTriggerKind s2 k 1 3 else s2
      kickConv s4 k
  | none => s

/-- HK_SEQ_DONE (R320). -/
def execHkSeqDone (k : Fin 2) (s : State) : Host.Outcome State Fault Refusal := .next (hkSeqDone s k)

/-- A write of 1 to EN (R320): the sequence is checked as one pair. -/
def hkEnable (s : State) (k q : Nat) : State :=
  let ok := (List.range (rd s (Reg.HK_SEQ_LEN k q) + 1)).all fun e =>
    let m := rd s (Reg.HK_ENTRY0_MUX k q e)
    let f := fun (r : Fld) => if muxSigned m then sgn 12 (rd s r) else (rd s r : Int)
    muxOk m && (!on s (Reg.HK_ENTRY0_LIM_EN k q e) || decide (f (Reg.HK_ENTRY1_LO k q e) ≤ f (Reg.HK_ENTRY1_HI k q e)))
  if on s (Reg.HK_SEQ_EN k q) || (s.conv k).cond == 2 then s
  else if ok then wr s (Reg.HK_SEQ_EN k q) 1
  else cfgError s true (Reg.HK_SEQ_EN k q).off

/-- HK_ENABLE (R320). -/
def execHkEnable (k q : Fin 2) (s : State) : Host.Outcome State Fault Refusal := .next (hkEnable s k q)

/-- Start the self-check (R324). -/
def hkSelftest (s : State) : State :=
  if modeOf s = mIdle ∨ modeOf s = mDiag then wr s Reg.HK_STATUS_SELFTEST_BUSY 1 else wr s Reg.HK_STATUS_REFUSED 1

/-- HK_SELFTEST (R324). -/
def execHkSelftest (s : State) : Host.Outcome State Fault Refusal := .next (hkSelftest s)

/-- HK_SELFTEST_DONE (R324): each converter's sixteen readings. -/
def execHkSelftestDone (a b : List (BitVec 12)) (s : State) : Host.Outcome State Fault Refusal :=
  let pass := fun (l : List (BitVec 12)) => (List.range 16).all fun n =>
    decide ((((l.getD n 0).toNat : Int) - (128 + 256 * n : Nat)).natAbs ≤ 4)
  .next (if on s Reg.HK_STATUS_SELFTEST_BUSY then
      forEach [(0, a), (1, b)] (wr s Reg.HK_STATUS_SELFTEST_BUSY 0) fun s x =>
        if pass x.2 && (s.conv x.1).cond == 2 then showConv (s.modConv x.1 fun y => { y with cond := 0 }) x.1 else s
    else s)

/-- HK_COMMIT (R339). -/
def execHkCommit (s : State) : Host.Outcome State Fault Refusal := .next (if releasing s then s else hkCommit s)

/-- BIAS_ILIM_FAULT (R329). -/
def execBiasIlimFault (i : Fin 32) (s : State) : Host.Outcome State Fault Refusal :=
  .next (if (s.bias i).loaded && rd s (Reg.BIAS_STATUS_STATE i) != 5 then biasFault (wr s (Reg.BIAS_STATUS_ILIM i) 1) i else s)

/-- BIAS_RANGE_SWITCH (R328). -/
def execBiasRangeSwitch (i : Fin 32) (s : State) : Host.Outcome State Fault Refusal := .next (biasSwitch s i)

/-- BIAS_SINE_UPDATE (R331). -/
def execBiasSineUpdate (i : Fin 32) (s : State) : Host.Outcome State Fault Refusal :=
  .next (if rd s (Reg.BIAS_STATUS_STATE i) = 4 then
      let s1 := s.modBias i fun x => { x with phi := (x.phi + rd s (Reg.BIAS_CFG1_FREQ i)) % 2 ^ 24 }
      driveTo s1 i (sineCode s1 i) 0
    else s)

/-- PWM_PERIOD (R332, R333): a period of unit `u` starts; `bad` says that the last one's readback mismatched. -/
def execPwmPeriod (u : Fin 128) (bad : Bool) (s : State) : Host.Outcome State Fault Refusal :=
  .next (if s.fuse.grade = 1 then
      let x := s.pwmOf u
      let live := !pwmZero s u && decide (64 ≤ x.duty) && decide (x.duty ≤ 4031)
      let k := if live then (if bad then x.strikes + 1 else 0) else x.strikes
      let s1 := if 3 ≤ k then
          (stickyEvent s (Reg.PWM_DUTY_FAULT u) 0x2081 u).modPwm u fun x => { x with strikes := 0, latched := true }
        else s.modPwm u fun x => { x with strikes := k }
      let s2 := s1.modPwm u fun x => { x with duty := rd s (Reg.PWM_DUTY_DUTY u) }
      wr s2 (Reg.PWM_DUTY_ZERO u) (b2n (pwmZero s2 u))
    else s)

end Sys2Proof.Machine
end

