-- ==== Sys2Proof/Machine/Link.lean ====
section
/-! DEFINITION. Dunik lanes and ports: bring-up, loss, back-off, eye scan, upstream ports and the backup oscillator
(spec/10_link_lanes.md, R225 to R241). -/

namespace Sys2Proof.Machine

/-! ### Names -/

def pTrain : Nat := 1
def pDeskew : Nat := 2
def pUp : Nat := 3
def pBackoff : Nat := 4
def pSleep : Nat := 5
def pStop : Nat := 6

def lnOff : Nat := 0
def lnSigdet : Nat := 1
def lnCdr : Nat := 2
def lnEq : Nat := 3
def lnMarker : Nat := 4
def lnGood : Nat := 5
def lnFail : Nat := 6
def lnBackoff : Nat := 7

def State.port (s : State) (p : Nat) : PortS := s.link.ports.get p {}
def State.modPort (s : State) (p : Nat) (f : PortS → PortS) : State :=
  { s with link := { s.link with ports := s.link.ports.set p {} (f (s.port p)) } }

/-- LANE_l of LINK_LANE_STATE (Table 10.11). -/
def laneFld (p l : Nat) : Fld := ⟨(Reg.LINK_LANE_STATE_LANE_0 p).off, 4 * l, 4, .ro, .L, 0⟩

def laneSt (s : State) (p l : Nat) : Nat := rd s (laneFld p l)
def setLane (s : State) (p l st : Nat) : State := wr s (laneFld p l) st
def laneOn (s : State) (p l : Nat) : Bool := bit (rd s (Reg.LINK_CTRL_LANE_EN p)) l
def portSt (s : State) (p : Nat) : Nat := rd s (Reg.LINK_STATUS_STATE p)
def setPort (s : State) (p st : Nat) : State := wr s (Reg.LINK_STATUS_STATE p) st
def lanes : List Nat := List.range 8

/-- The lane is being brought up: states 0x1 to 0x4. -/
def laneRising (s : State) (p l : Nat) : Bool := decide (1 ≤ laneSt s p l) && decide (laneSt s p l ≤ 4)

/-- The mask whose bit l is set for the lanes that `f` names. -/
def laneMask (f : Nat → Bool) : Nat := lanes.foldl (fun m l => if f l then m + 2 ^ l else m) 0

/-- The local RX_GOOD (R231). -/
def rxGood (s : State) (p : Nat) : Nat := laneMask fun l => laneSt s p l == lnGood

/-- RX_GOOD as last received from the partner. -/
def partnerGood (s : State) (p : Nat) : Nat :=
  if on s (Reg.LINK_PARTNER_VALID p) then rd s (Reg.LINK_PARTNER_RX_GOOD p) else 0

/-- The agreed mask (R231). -/
def agreedMask (s : State) (p : Nat) : Nat := rxGood s p &&& partnerGood s p

/-- The group of an agreed mask (R231): the widest, and of equals the lowest; 0 where there is none. -/
def groupOf (m : Nat) : Nat :=
  match ([0xFF, 0x0F, 0xF0, 0x03, 0x0C, 0x30, 0xC0] : List Nat).find? fun g => m &&& g == g with
  | some g => g
  | none => 0

/-- The width code of a group (Table 10.10). -/
def widthCode (g : Nat) : Nat :=
  if g = 0xFF then 3 else if g = 0x0F ∨ g = 0xF0 then 2 else if g = 0 then 0 else 1

/-- ARG of 0x3001 and 0x3003 (R400). -/
def linkUpArg (s : State) (p : Nat) : Nat :=
  p + 16 * rd s (Reg.LINK_STATUS_WIDTH p) + 256 * rd s (Reg.LINK_STATUS_GROUP p) +
    65536 * rd s (Reg.LINK_STATUS_RATE_ACT p)

/-- The group in use: GROUP and WIDTH. -/
def setGroup (s : State) (p g : Nat) : State :=
  wr (wr s (Reg.LINK_STATUS_GROUP p) g) (Reg.LINK_STATUS_WIDTH p) (widthCode g)

/-! ### Upstream ports (R237) -/

/-- Both upstream ports are UP at width 8 and at one rate. -/
def bondReady (s : State) : Bool :=
  on s (Reg.LINK_CFG_BOND 0) && portUp s 0 && portUp s 1 && rd s (Reg.LINK_STATUS_WIDTH 0) == 3 &&
    rd s (Reg.LINK_STATUS_WIDTH 1) == 3 && rd s (Reg.LINK_STATUS_RATE_ACT 0) == rd s (Reg.LINK_STATUS_RATE_ACT 1)

/-- The active upstream port by R237; in redundant mode traffic stays on an UP P1 until UPSTREAM_REVERT. -/
def chooseUp (s : State) : Option Nat :=
  let stay := !on s (Reg.LINK_CFG_BOND 0) && s.link.lastUp == some 1 && portUp s 1
  if portUp s 0 && !stay then some 0 else if portUp s 1 then some 1 else none

/-- Make `a` the active upstream port: ACTIVE_UP and BOND_OK, and in redundant mode 0x3009 on a change between P0 and P1. -/
def setUpActive (s : State) (a : Option Nat) : State :=
  let b := bondReady s
  let s1 := wr (wr (wr s (Reg.LINK_STATUS_BOND_OK 0) (b2n b)) (Reg.LINK_STATUS_ACTIVE_UP 0) (b2n (b || a == some 0)))
    (Reg.LINK_STATUS_ACTIVE_UP 1) (b2n (b || a == some 1))
  match a, s.link.lastUp with
  | some x, some y =>
    let s2 : State := { s1 with link := { s1.link with lastUp := some x, upLost := false } }
    if x = y ∨ on s (Reg.LINK_CFG_BOND 0) then s2 else timeSwitch (raise s2 0x3009 (x + 16 * y))
  | some x, none => { s1 with link := { s1.link with lastUp := some x, upLost := false } }
  | none, _ => s1

def refreshUp (s : State) : State := setUpActive s (chooseUp s)

/-! ### Eye scan (R236) -/

/-- The scan of a port whose lane has left GOOD ends at once; of a summary the points completed stand, which is an open value
(log 43). -/
def eyeAbort (s : State) (p l : Nat) : State :=
  if on s (Reg.LINK_EYE_CTRL_BUSY p) && (s.port p).eyeLane == l then
    let s1 := wr (wr s (Reg.LINK_EYE_CTRL_BUSY p) 0) (Reg.LINK_EYE_CTRL_ABORT p) 1
    if (s.port p).eyeMode = 1 then
      let f := takeFree s1 32
      wr (wr (wr (wr f.2 (Reg.LINK_EYE_SUMMARY_LEFT p) (f.1 % 256)) (Reg.LINK_EYE_SUMMARY_RIGHT p) (f.1 / 256 % 256))
        (Reg.LINK_EYE_SUMMARY_TOP p) (f.1 / 65536 % 256)) (Reg.LINK_EYE_SUMMARY_BOTTOM p) (f.1 / 16777216 % 256)
    else s1
  else s

/-! ### Ports (R232 to R234) -/

/-- Count a departure from UP. -/
def leaveUp (s : State) (p : Nat) : State :=
  if portUp s p then wr (bump s (Reg.LINK_COUNT_DOWN_CNT p) 1) (Reg.LINK_STATUS_DEGRADED p) 0 else s

/-- Lane `l` stops receiving: state `st`, not converged, an eye scan on it ended. -/
def dropLane (s : State) (p l st : Nat) : State :=
  let s1 := if laneSt s p l = lnGood then eyeAbort s p l else s
  setLane (wr s1 (Reg.LINK_EQ_CONV p l) 0) p l st

/-- Failed lanes beside a port that is UP or in DESKEW go to their back-off (Table 10.4, R233). -/
def laneBackoffs (s : State) (p : Nat) : State :=
  if portSt s p = pUp ∨ portSt s p = pDeskew then
    forEach lanes s fun s l =>
      if laneSt s p l = lnFail then
        (setLane s p l lnBackoff).modPort p fun x => { x with laneFails := x.laneFails.set l 0 (x.laneFails.get l 0 + 1) }
      else s
  else s

/-- The rate of the next attempt (R234). -/
def attemptRate (s : State) (p : Nat) : Nat :=
  let x := s.port p
  if s.link.backup ∨ x.low then 2
  else if on s (Reg.LINK_CTRL_FALLBACK p) && decide (3 ≤ x.fails) && (x.fails - 3) % 2 == 0 then 2
  else rd s (Reg.LINK_CTRL_RATE p)

/-- A new attempt (Tables 10.4 and 10.5): every enabled lane opens its window at full swing. -/
def portAttempt (s : State) (p : Nat) : State :=
  let s1 := forEach lanes (leaveUp s p) fun s l => dropLane s p l (if laneOn s p l then lnSigdet else lnOff)
  let s2 := wr s1 (Reg.LINK_STATUS_RATE_ACT p) (attemptRate s1 p)
  let s3 := wr (wr s2 (Reg.LINK_STATUS_BACKUP p) (b2n s2.link.backup)) (Reg.LINK_STATUS_BACKOFF_MS p) 0
  let s4 := s3.modPort p fun x => { x with own := [], seen := false, agree := 0 }
  refreshUp (setPort (setGroup s4 p 0) p pTrain)

/-- A TRAIN that begins at RATE again: from STOP and after RETRAIN (R234). -/
def portFresh (s : State) (p : Nat) : State :=
  portAttempt (s.modPort p fun x => { x with fails := 0, low := false }) p

/-- The back-off interval after `n` earlier failures, in ms (R233). -/
def backoffMs (n : Nat) : Nat := 2 ^ min n 6

/-- BACKOFF: the attempt has failed. -/
def portBackoff (s : State) (p : Nat) : State :=
  let x := s.port p
  let s1 := (leaveUp s p).modPort p fun x => { x with backoff := x.backoff + 1, fails := x.fails + 1 }
  refreshUp (setPort (setGroup (wr s1 (Reg.LINK_STATUS_BACKOFF_MS p) (backoffMs x.backoff)) p 0) p pBackoff)

/-- DESKEW with the group of the agreed mask. -/
def portDeskew (s : State) (p : Nat) : State :=
  let s1 := (leaveUp s p).modPort p fun x => { x with agree := 0 }
  refreshUp (laneBackoffs (setPort (setGroup s1 p (groupOf (agreedMask s1 p))) p pDeskew) p)

/-- DESKEW, or BACKOFF with no group. -/
def portRegroup (s : State) (p : Nat) : State :=
  if groupOf (agreedMask s p) = 0 then portBackoff s p else portDeskew s p

/-- STOP (or SLEEP): electrical idle on every lane. -/
def portIdle (s : State) (p st : Nat) : State :=
  let s1 := forEach lanes (leaveUp s p) fun s l => dropLane s p l lnOff
  let s2 := s1.modPort p fun x => { eyeLane := x.eyeLane, eyeMode := x.eyeMode }
  let s3 := wr (wr s2 (Reg.LINK_PARTNER_VALID p) 0) (Reg.LINK_STATUS_BACKOFF_MS p) 0
  refreshUp (setPort (setGroup s3 p 0) p st)

/-- The port is held in reset (block 0x310 + p of Table 2.4). -/
def portHeld (s : State) (p : Nat) : Bool := blkHeld s (0x310 + p) none

/-- The port may leave STOP (R241). -/
def portMayRun (s : State) (p : Nat) : Bool :=
  on s (Reg.LINK_CTRL_EN p) && !portHeld s p && s.link.started

/-- A port in STOP begins its TRAIN where R241 lets it. -/
def portStart (s : State) (p : Nat) : State :=
  if portSt s p = pStop ∧ portMayRun s p then portFresh s p else s

/-- The first bring-up of the ports (R241). -/
def linkBringUp (s : State) : State :=
  if s.link.started then s
  else forEach (List.range 4) { s with link := { s.link with started := true } } portStart

/-- UP (Table 10.5). -/
def portEnterUp (s : State) (p : Nat) : State :=
  let low := rd s (Reg.LINK_STATUS_RATE_ACT p) == 2 && rd s (Reg.LINK_CTRL_RATE p) != 2 && !s.link.backup
  let s1 := s.modPort p fun x => { x with backoff := 0, fails := 0, low := low }
  let narrow := rd s (Reg.LINK_STATUS_WIDTH p) != 3
  let s2 := wr (wr (wr s1 (Reg.LINK_STATUS_DEGRADED p) (b2n narrow)) (Reg.LINK_STATUS_NO_PARTNER p) 0)
    (Reg.LINK_STATUS_BACKOFF_MS p) 0
  let s3 := laneBackoffs (setPort s2 p pUp) p
  let arg := linkUpArg s3 p
  refreshUp (raiseIf narrow (raise s3 0x3001 arg) 0x3003 arg)

/-- TRAIN ends early: every enabled lane is GOOD and the partner's RX_GOOD covers them. -/
def trainCheck (s : State) (p : Nat) : State :=
  let en := rd s (Reg.LINK_CTRL_LANE_EN p)
  if portSt s p = pTrain ∧ en ≠ 0 ∧ rxGood s p &&& en = en ∧ partnerGood s p &&& en = en then
    wr (portDeskew s p) (Reg.LINK_STATUS_NO_PARTNER p) 0
  else s

/-- A lane of a port has left GOOD: an UP port that used it re-forms (Table 10.5). -/
def laneLeft (s : State) (p l : Nat) : State :=
  if portUp s p ∧ bit (rd s (Reg.LINK_STATUS_GROUP p)) l then portRegroup (raise s 0x3002 p) p else s

/-- A GOOD lane is lost: counted, event 0x3005, a new window. -/
def laneLost (s : State) (p l : Nat) : State :=
  let s1 := bump (dropLane s p l lnSigdet) (Reg.LINK_COUNT_LANE_LOST_CNT p) 1
  let s2 := raise (s1.modPort p fun x => { x with own := l :: x.own.filter (· != l) }) 0x3005 0
  laneLeft s2 p l

/-- LOS on a lane (Table 10.4). -/
def laneLos (s : State) (p l : Nat) : State :=
  let c := bump s (Reg.LINK_LANE_ERR_LOS_CNT p l) 1
  if laneRising s p l then dropLane c p l lnSigdet
  else if laneSt s p l = lnGood then laneLost c p l
  else s

/-- A lane that is still rising fails its window. -/
def laneFail (s : State) (p l : Nat) : State :=
  if laneRising s p l then
    (dropLane s p l lnFail).modPort p fun x => { x with own := x.own.filter (· != l) }
  else s

/-- The window of the port's attempt ends (Table 10.5). -/
def attemptEnd (s : State) (p : Nat) : State :=
  let s1 := forEach lanes s fun s l => if (s.port p).own.contains l then s else laneFail s p l
  if portSt s1 p = pTrain then
    let g := groupOf (agreedMask s1 p)
    if g = 0 then
      let none := !(s1.port p).seen
      portBackoff (raiseIf none (wr s1 (Reg.LINK_STATUS_NO_PARTNER p) (b2n none)) 0x3004 0) p
    else
      let s2 := forEach lanes s1 fun s l => if bit g l then s else laneFail s p l
      portDeskew (wr s2 (Reg.LINK_STATUS_NO_PARTNER p) 0) p
  else s1

/-- Retrain of a running port: event 0x3002 from UP. -/
def portRetrain (s : State) (p : Nat) : State := portFresh (raiseIf (portUp s p) s 0x3002 p) p

/-! ### Backup oscillator, sleep and profile (R238 to R240) -/

/-- Every running port moves to another clock and retrains. -/
def linkReclock (s : State) (backup : Bool) : State :=
  let s1 := raiseIf backup { s with link := { s.link with backup := backup } } 0x3007 0
  forEach (List.range 4) s1 fun s p =>
    let s2 := wr s (Reg.LINK_STATUS_BACKUP p) (b2n backup)
    if portSt s2 p = pStop ∨ portSt s2 p = pSleep then s2 else portRetrain s2 p

/-- REF has failed, or CLKSEL is 0b11 (R239). -/
def linkBackup (s : State) : State := if s.link.backup then s else linkReclock s true

/-- The ports return to REF (R239). -/
def linkToRef (s : State) : State := if s.link.backup then linkReclock s false else s

/-- Every port that is out of STOP enters SLEEP (R238). -/
def linkSleep (s : State) : State :=
  forEach (List.range 4) s fun s p => if portSt s p = pStop then s else portIdle s p pSleep

/-- The ports leave SLEEP through STOP and TRAIN (R238). -/
def linkWake (s : State) : State :=
  forEach (List.range 4) s fun s p => if portSt s p = pSleep then portStart (setPort s p pStop) p else s

/-- A LINK_PROFILE payload is accepted (R240). -/
def profileOk (bs : List Nat) : Bool :=
  let b := fun i => (bs.drop i).headD 0
  bs.length == 36 && b 2 == 0 && b 3 == 0 &&
    (List.range 4).all fun p =>
      let o := 4 + 8 * p
      b o == p && decide (b (o + 1) < 3) && decide (b (o + 3) < 16) && (p == 0 || !bit (b (o + 3)) 2) &&
        decide (b (o + 4) < 8) && b (o + 7) == 0

/-- The port values of one profile entry, field by field. -/
def profileVals (bs : List Nat) (p : Nat) : List (Fld × Nat) :=
  let b := fun i => (bs.drop (4 + 8 * p + i)).headD 0
  let f := b 3
  [(Reg.LINK_CTRL_EN p, f % 2), (Reg.LINK_CTRL_RATE p, b 1), (Reg.LINK_CTRL_FALLBACK p, f / 2 % 2),
   (Reg.LINK_CTRL_LANE_EN p, b 2), (Reg.LINK_CTRL_AUTO_WIDEN p, f / 8 % 2), (Reg.LINK_CFG_TX_PRESET p, b 4),
   (Reg.LINK_CTRL_TX_POL p, b 5), (Reg.LINK_CTRL_RX_POL p, b 6)] ++
    (if p = 0 then [(Reg.LINK_CFG_BOND 0, f / 4 % 2)] else [])

/-- Apply a LINK_PROFILE record (R240): a port whose values change passes through STOP. -/
def applyProfile (s : State) (bs : List Nat) : State :=
  if profileOk bs then
    let s0 := wr s (Reg.LINK_CFG_UPLOSS_HOLD 0) ((bs.headD 0) * 256 + (bs.drop 1).headD 0)
    forEach (List.range 4) s0 fun s p =>
      let vs := profileVals bs p
      if vs.all fun v => rd s v.1 == v.2 then s
      else portStart (forEach vs (if portSt s p = pStop then s else portIdle s p pStop) fun s v => wr s v.1 v.2) p
  else raise s 0x1050 0

/-! ### Status words (R229) -/

/-- The status word of a port that is UP (Table 10.3). -/
def statusBytes (s : State) (p : Nat) : List Nat :=
  let b5 := b2n (portUp s p) + 2 * b2n s.link.backup + 4 * b2n (modeOf s == mSafe) +
    8 * rd s (Reg.LINK_CFG_BOND p) + 16 * rd s (Reg.LINK_STATUS_RATE_ACT p)
  let bs := [0, 1] ++ beBytes 2 (devId s) ++ [rxGood s p, b5, 0xFF]
  bs ++ [crc8 bs]

/-- The eight bytes of a link word, byte 0 first. -/
def wordBytes (w : BitVec 64) : List Nat := beBytes 8 w.toNat

/-- The port takes in words: TRAIN, DESKEW, UP or BACKOFF. -/
def portReceives (s : State) (p : Nat) : Bool := decide (1 ≤ portSt s p) && decide (portSt s p ≤ 4)

/-- Consecutive partner status words that show one agreed mask (R232). -/
def countAgree (s : State) (p : Nat) : State :=
  let m := agreedMask s p
  s.modPort p fun x =>
    if x.agree != 0 && x.agreeMask == m then { x with agree := x.agree + 1 } else { x with agree := 1, agreeMask := m }

/-- DESKEW on a status word: late lanes fail; with the group aligned and three agreeing status words the port is UP. -/
def deskewWord (s : State) (p : Nat) (aligned : Bool) (late : Nat) : State :=
  let g := groupOf (agreedMask s p)
  if late &&& g != 0 then
    let s1 := forEach lanes s fun s l => if bit (late &&& g) l then dropLane s p l lnFail else s
    portRegroup s1 p
  else
    let s1 := setGroup (countAgree s p) p g
    if aligned ∧ g ≠ 0 ∧ 3 ≤ (s1.port p).agree then portEnterUp s1 p else s1

/-- A valid status word from the partner. An UP port whose agreed mask no longer covers its group re-forms (log 44). -/
def statusIn (s : State) (p : Nat) (bs : List Nat) (aligned : Bool) (late : Nat) : State :=
  let b := fun i => (bs.drop i).headD 0
  let s1 := wr (wr (wr (wr s (Reg.LINK_PARTNER_DEVICE_ID p) (b 2 * 256 + b 3)) (Reg.LINK_PARTNER_RX_GOOD p) (b 4))
    (Reg.LINK_PARTNER_FLAGS p) (b 5 % 64)) (Reg.LINK_PARTNER_VALID p) 1
  let st := portSt s1 p
  if st = pTrain then trainCheck s1 p
  else if st = pDeskew then deskewWord s1 p aligned late
  else if st = pUp then
    let g := rd s1 (Reg.LINK_STATUS_GROUP p)
    if agreedMask s1 p &&& g = g then s1 else portRegroup (raise s1 0x3002 p) p
  else s1

/-! ### The commands' meanings -/

/-- LANE_SIGDET (R230). -/
def execLaneSigdet (p : Fin 4) (l : Fin 8) (s : State) : Host.Outcome State Fault Refusal :=
  .next (if laneSt s p l = lnSigdet then (setLane s p l lnCdr).modPort p fun x => { x with seen := true } else s)

/-- LANE_CDR_LOCK (R230). -/
def execLaneCdrLock (p : Fin 4) (l : Fin 8) (s : State) : Host.Outcome State Fault Refusal :=
  .next (if laneSt s p l = lnCdr then setLane s p l lnEq else s)

/-- LANE_EQ_CONVERGED (R230, R235): the codes at which the equaliser has settled. -/
def execLaneEqConverged (p : Fin 4) (l : Fin 8) (ctle : BitVec 4) (dfe1 : BitVec 7) (dfe2 : BitVec 6) (dfe3 : BitVec 5)
    (s : State) : Host.Outcome State Fault Refusal :=
  .next (if laneSt s p l = lnEq then
      let s1 := wr (wr s (Reg.LINK_EQ_CTLE p l) ctle.toNat) (Reg.LINK_EQ_DFE1 p l) dfe1.toNat
      let s2 := wr (wr s1 (Reg.LINK_EQ_DFE2 p l) dfe2.toNat) (Reg.LINK_EQ_DFE3 p l) dfe3.toNat
      setLane (wr s2 (Reg.LINK_EQ_CONV p l) 1) p l lnMarker
    else s)

/-- LANE_MARKER_GOOD (R230): three consecutive good markers; a pass resets the lane's back-off (R233). -/
def execLaneMarkerGood (p : Fin 4) (l : Fin 8) (s : State) : Host.Outcome State Fault Refusal :=
  .next (if laneSt s p l = lnMarker then
      trainCheck ((setLane s p l lnGood).modPort p fun x =>
        { x with own := x.own.filter (· != l.val), laneFails := x.laneFails.set l 0 0 }) p
    else s)

/-- LANE_LOS (R230). -/
def execLaneLos (p : Fin 4) (l : Fin 8) (s : State) : Host.Outcome State Fault Refusal := .next (laneLos s p l)

/-- LANE_MARKERS_BAD (R230): four consecutive bad markers. -/
def execLaneMarkersBad (p : Fin 4) (l : Fin 8) (s : State) : Host.Outcome State Fault Refusal :=
  .next (if laneSt s p l = lnGood then laneLost (bump s (Reg.LINK_LANE_ERR_BAD_MARKER p l) 4) p l else s)

/-- LANE_WINDOW_END (R230): the window of the port's attempt (`none`) or a lane's own ends. `los` names lanes whose LOS falls in the
same AON cycle: they fail that attempt. -/
def execLaneWindowEnd (p : Fin 4) (l : Option (Fin 8)) (los : Byte) (s : State) : Host.Outcome State Fault Refusal :=
  let s0 := forEach lanes s fun s l => if bit los.toNat l && laneRising s p l then laneLos s p l else s
  .next (match l with
    | none => if portSt s p = pTrain then attemptEnd s0 p else s0
    | some l => if (s0.port p).own.contains l.val then laneBackoffs (laneFail s0 p l) p else s0)

/-- LANE_BACKOFF_END (R233). -/
def execLaneBackoffEnd (p : Fin 4) (l : Fin 8) (s : State) : Host.Outcome State Fault Refusal :=
  .next (if laneSt s p l = lnBackoff then
      (setLane s p l lnSigdet).modPort p fun x => { x with own := l.val :: x.own.filter (· != l.val) }
    else s)

/-- STATUS_WORD (R229, R231, R232): a received idle word `w`, byte 0 in bits 63:56; `aligned` says that the lanes of the group are
aligned, `late` names lanes more than 32 blocks behind the earliest. -/
def execStatusWord (p : Fin 4) (w : BitVec 64) (aligned : Bool) (late : Byte) (s : State) : Host.Outcome State Fault Refusal :=
  let bs := wordBytes w
  .next (if portReceives s p && bs.take 2 == [0, 1] && crc8 (bs.take 7) == (bs.drop 7).headD 0 then
      statusIn s p bs aligned late.toNat
    else s)

/-- STATUS_WORD_DUE (R229). -/
def execStatusWordDue (p : Fin 4) (s : State) : Host.Outcome State Fault Refusal :=
  .next (if portUp s p then { s with link := { s.link with words := s.link.words ++ [(p.val, statusBytes s p)] } } else s)

/-- PORT_DESKEW_TIMEOUT (R232). -/
def execPortDeskewTimeout (p : Fin 4) (s : State) : Host.Outcome State Fault Refusal :=
  .next (if portSt s p = pDeskew then portBackoff s p else s)

/-- PORT_WIDEN (R232): a wider group has been agreed for 100 ms. -/
def execPortWiden (p : Fin 4) (s : State) : Host.Outcome State Fault Refusal :=
  .next (if portUp s p ∧ on s (Reg.LINK_CTRL_AUTO_WIDEN p) ∧
      rd s (Reg.LINK_STATUS_WIDTH p) < widthCode (groupOf (agreedMask s p)) then portDeskew (raise s 0x3002 p) p else s)

/-- RETRAIN (R232). -/
def execRetrain (p : Fin 4) (s : State) : Host.Outcome State Fault Refusal :=
  .next (if portUp s p then portRetrain s p else s)

/-- PORT_BACKOFF_END (R233). -/
def execPortBackoffEnd (p : Fin 4) (s : State) : Host.Outcome State Fault Refusal :=
  .next (if portSt s p = pBackoff then portAttempt s p else s)

/-- A write of EN (R232, R241). -/
def portEnable (s : State) (p : Nat) (en : Bool) : State :=
  let s1 := wr s (Reg.LINK_CTRL_EN p) (b2n en)
  if en then portStart s1 p else if portSt s1 p = pStop then s1 else portIdle s1 p pStop

/-- PORT_ENABLE (R241). -/
def execPortEnable (p : Fin 4) (en : Bool) (s : State) : Host.Outcome State Fault Refusal := .next (portEnable s p en)

/-- Start an eye scan with the settings of LINK_EYE_CTRL, or refuse it (R236). -/
def eyeStart (s : State) (p : Nat) : State :=
  let l := rd s (Reg.LINK_EYE_CTRL_LANE p)
  if on s (Reg.LINK_EYE_CTRL_BUSY p) || laneSt s p l != lnGood then wr s (Reg.LINK_EYE_CTRL_REFUSED p) 1
  else (wr s (Reg.LINK_EYE_CTRL_BUSY p) 1).modPort p fun x =>
    { x with eyeLane := l, eyeMode := rd s (Reg.LINK_EYE_CTRL_MODE p) }

/-- EYE_SCAN (R236): a write of `w`, with GO in bit 31, to LINK_EYE_CTRL. -/
def execEyeScan (p : Fin 4) (w : Word) (s : State) : Host.Outcome State Fault Refusal :=
  let v := w.toNat
  let s1 := wr (wr (wr (wr (wr s (Reg.LINK_EYE_CTRL_LANE p) (bits v 0 3)) (Reg.LINK_EYE_CTRL_MODE p) (bits v 3 1))
    (Reg.LINK_EYE_CTRL_PHASE p) (bits v 4 6)) (Reg.LINK_EYE_CTRL_VOLT p) (bits v 11 7)) (Reg.LINK_EYE_CTRL_DWELL p) (bits v 18 4)
  let s2 := wrIf (bit v 24) (wrIf (bit v 23) s1 (Reg.LINK_EYE_CTRL_ABORT p) 0) (Reg.LINK_EYE_CTRL_REFUSED p) 0
  .next (if bit v 31 then eyeStart s2 p else s2)

/-- EYE_DONE (R236): the scan's error count, or its four edges. -/
def execEyeDone (p : Fin 4) (errors : Word) (left right top bottom : Byte) (s : State) : Host.Outcome State Fault Refusal :=
  .next (if on s (Reg.LINK_EYE_CTRL_BUSY p) then
      let s1 := wr s (Reg.LINK_EYE_CTRL_BUSY p) 0
      let s2 := if (s.port p).eyeMode = 0 then wr s1 (Reg.LINK_EYE_RESULT_ERRORS p) errors.toNat
        else wr (wr (wr (wr s1 (Reg.LINK_EYE_SUMMARY_LEFT p) left.toNat) (Reg.LINK_EYE_SUMMARY_RIGHT p) right.toNat)
          (Reg.LINK_EYE_SUMMARY_TOP p) top.toNat) (Reg.LINK_EYE_SUMMARY_BOTTOM p) bottom.toNat
      raise s2 0x3008 0
    else s)

/-- UPSTREAM_REVERT (R237): P0 has been UP for 1 s beside an active P1. -/
def execUpstreamRevert (s : State) : Host.Outcome State Fault Refusal :=
  .next (if !on s (Reg.LINK_CFG_BOND 0) && portUp s 0 && on s (Reg.LINK_STATUS_ACTIVE_UP 1) then setUpActive s (some 0) else s)

/-- UPLOSS (R237): neither upstream port has been UP for UPLOSS_HOLD; cause 6 follows at the next slot boundary. -/
def execUploss (s : State) : Host.Outcome State Fault Refusal :=
  .next (if !portUp s 0 && !portUp s 1 && !s.link.upLost then raise { s with link := { s.link with upLost := true } } 0x3006 0
    else s)

end Sys2Proof.Machine
end

