-- ==== Sys2Proof/Machine/NewtCtl.lean ====
section
/-! DEFINITION. Newt cores: contexts, the user-kernel slot, triggers, faults, loading and fall-back (spec/09_newt_cores.md, R203,
R204, R213, R215, R216, R220 to R224). -/

namespace Sys2Proof.Machine

def State.newt (s : State) (g : Nat) : NewtS := s.newts.get g {}
def State.modNewt (s : State) (g : Nat) (f : NewtS → NewtS) : State :=
  { s with newts := s.newts.set g {} (f (s.newt g)) }
def State.ctx (s : State) (g : Nat) (user : Bool) : CtxS := if user then (s.newt g).user else (s.newt g).vendor
def State.modCtx (s : State) (g : Nat) (user : Bool) (f : CtxS → CtxS) : State :=
  s.modNewt g fun x => if user then { x with user := f x.user } else { x with vendor := f x.vendor }

def uEmpty : Nat := 0
def uStopped : Nat := 1
def uRunning : Nat := 2
def uWaiting : Nat := 3
def uSuspended : Nat := 4
def uFault : Nat := 5
def vStop : Nat := 0
def vRun : Nat := 1
def vReset : Nat := 2
def vFault : Nat := 3

def uState (s : State) (g : Nat) : Nat := rd s (Reg.NEWT_STATUS_USTATE g)
def setU (s : State) (g st : Nat) : State := wr s (Reg.NEWT_STATUS_USTATE g) st
def vState (s : State) (g : Nat) : Nat := rd s (Reg.NEWT_STATUS_VSTATE g)
def fallback (s : State) (g : Nat) : Bool := on s (Reg.NEWT_STATUS_FALLBACK g)

/-- The kernel uses ZB; the kernel runs in DIAG only (Table 9.9). -/
def zbUse (s : State) (g : Nat) : Bool := bit (s.newt g).flags 1
def diagOnly (s : State) (g : Nat) : Bool := bit (s.newt g).flags 2

/-- Modes in which the kernel may run (R222). -/
def userMode (s : State) (g : Nat) : Bool :=
  modeOf s == mDiag || (!diagOnly s g && (modeOf s == mIdle || modeOf s == mServe))

/-- The context runs: the user kernel in RUNNING, the vendor firmware in RUN. -/
def ctxRuns (s : State) (g : Nat) (user : Bool) : Bool :=
  regionEnabled s g && if user then uState s g == uRunning else vState s g == vRun

/-! ### Circular buffers (R209) -/

/-- The memory of Table 9.1 that holds a core data address: 1 XM, 2 YM, 3 region memory, 4 fabric window, 5 register window,
0 reserved. -/
def memKind (a : Nat) : Nat :=
  if a < 0x10000 then 1 else if a < 0x20000 then 2
  else if 0x100000 ≤ a ∧ a < 0x300000 then 3
  else if 0x10000000 ≤ a ∧ a < 0x20000000 then 4
  else if 0xF0000000 ≤ a ∧ a < 0xF1000000 then 5 else 0

/-- The pair of a circular base and length is consistent. -/
def circOk (b l : Nat) : Bool :=
  l == 0 || (l % 4 == 0 && memKind b != 0 && decide (memKind b ≤ 3) && memKind b == memKind (b + l - 1))

/-! ### Loading (R220, R221) -/

/-- Write words from `bs`, big-endian fields of the payload, as PM words. -/
def loadPm (s : State) (g first : Nat) (bs : List Nat) (n : Nat) : State :=
  forEach (List.range n) s fun s k => setMemWord s (pmAddr g (first + k)) (ofBytes ((bs.drop (4 * k)).take 4))

/-- Copy image bytes into XM or YM. -/
def loadBytes (s : State) (g at' : Nat) (bs : List Nat) : State := setMemBytes s (newtBase g + at') bs

def fieldAt (bs : List Nat) (o n : Nat) : Nat := ofBytes ((bs.drop o).take n)

/-- A USER_KERNEL payload is accepted (R221). -/
def kernelOk (bs : List Nat) : Bool :=
  let entry := fieldAt bs 4 2
  let pm := fieldAt bs 6 2
  let xm := fieldAt bs 8 2
  let ym := fieldAt bs 10 2
  decide (fieldAt bs 1 1 < 8) && decide (fieldAt bs 3 1 < 8) && decide (fieldAt bs 2 1 ≤ 64) && fieldAt bs 18 2 == 0 &&
  decide (pm ≤ 8192) && decide (xm ≤ 16384) && decide (ym ≤ 16384) && xm % 4 == 0 && ym % 4 == 0 &&
  decide (0x6000 ≤ entry) && decide (entry < 0x6000 + pm)

/-- A new load of the slot sets the user view to zero (R223). -/
def clearView (s : State) (g : Nat) : State :=
  s.modNewt g fun x => { x with user := {}, view := {}, bSh := [], lSh := [], stopReq := false, auto := false }

/-- START of the kernel at ENTRY with empty stacks (R223); FAULT fields clear and RUNS counts. A kernel that uses ZB waits in
SUSPENDED through a fall-back (R213). -/
def beginRun (s : State) (g : Nat) : State :=
  let s1 := s.modNewt g fun x => { x with
    user := { x.view with pc := x.entry, loops := [], calls := [], wait := none }, cycles := 0, stopReq := false, auto := false }
  bump (setU s1 g (if fallback s g && zbUse s g then uSuspended else uRunning)) (Reg.NEWT_USER_COUNT_RUNS g) 1

/-- START accepted: the pair of each B and L commits, or the START is refused under R11 (R204). -/
def startKernel (s : State) (g : Nat) : State :=
  let x := s.newt g
  if (List.range 8).all fun i => circOk (x.bSh.get i 0) (x.lSh.get i 0) then
    let s1 := s.modNewt g fun x => { x with view := { x.view with b := x.bSh, l := x.lSh } }
    beginRun (wr (wr s1 (Reg.NEWT_USER_FAULT_CODE g) 0) (Reg.NEWT_USER_FAULT_FAULT_PC g) 0) g
  else cfgError s true (0x841000 + 0x100000 * g + 128)

/-- AUTO_START after a load (R220): at once where the mode permits the kernel, otherwise on entry to a mode that does (DEDUCED, log 100). -/
def autoStart (s : State) (g : Nat) : State :=
  if on s (Reg.NEWT_USER_CTRL_AUTO_START g) then
    if userMode s g then startKernel s g else s.modNewt g fun x => { x with auto := true }
  else s

/-- A kernel that waits to start by AUTO_START does so once the mode permits it. -/
def autoKernel (s : State) (g : Nat) : State :=
  if (s.newt g).auto && uState s g == uStopped && userMode s g then startKernel (s.modNewt g fun x => { x with auto := false }) g else s

/-- Load one USER_KERNEL payload into core `g`'s slot (R221). -/
def loadKernel (s : State) (g : Nat) (bs : List Nat) : State :=
  let pm := fieldAt bs 6 2
  let xm := fieldAt bs 8 2
  let ym := fieldAt bs 10 2
  let img := bs.drop 20
  let s1 := loadPm s g 0x6000 img pm
  let s2 := loadBytes s1 g 0xC000 ((img.drop (4 * pm)).take xm)
  let s3 := clearView (loadBytes s2 g 0x1C000 ((img.drop (4 * pm + xm)).take ym)) g
  let s4 := s3.modNewt g fun x => { x with entry := fieldAt bs 4 2, flags := fieldAt bs 1 1, cache := none }
  let s5 := wr (wr (wr s4 (Reg.NEWT_USER_CTRL_AUTO_START g) (fieldAt bs 1 1 % 2)) (Reg.NEWT_USER_CTRL_SHARE g) (fieldAt bs 2 1))
    (Reg.NEWT_USER_CTRL_TRIG_EN g) (fieldAt bs 3 1)
  let s6 := wr (wr s5 (Reg.NEWT_USER_LIMIT_MAXCYC g) (fieldAt bs 12 4)) (Reg.NEWT_USER_PERIOD_PERIOD g) (fieldAt bs 16 2)
  setU s6 g uStopped

/-- Load one NEWT_FW payload into core `g` and start the vendor context. -/
def loadFirmware (s : State) (g : Nat) (bs : List Nat) : State :=
  let pm := fieldAt bs 10 2
  let xm := fieldAt bs 12 4
  let ym := fieldAt bs 16 4
  let img := bs.drop 20
  let s1 := loadPm s g 0 img pm
  let s2 := loadBytes s1 g 0 ((img.drop (4 * pm)).take xm)
  let s3 := loadBytes s2 g 0x10000 ((img.drop (4 * pm + xm)).take ym)
  let s4 := s3.modNewt g fun x => { x with fwEntry := fieldAt bs 8 2, vendor := { pc := fieldAt bs 8 2 }, cache := none }
  wr (wr (wr s4 (Reg.NEWT_STATUS_FW_VER g) (fieldAt bs 4 4)) (Reg.NEWT_STATUS_VSTATE g) vRun) (Reg.NEWT_STATUS_HB_OK g) 1

/-- The first payload of a list that names core `g` in its CORE_MASK. -/
def payloadFor (g : Nat) (ps : List (List Nat)) : Option (List Nat) := ps.find? fun bs => bit (fieldAt bs 0 1) g

/-- Reload core `g` from the records of an image: PM, XM and YM, and the user slot (R220). Without a firmware record the core
stays in VSTATE STOP (R217); a rejected kernel leaves USTATE EMPTY (R221). -/
def loadCore (s : State) (g : Nat) (fws kernels : List (List Nat)) : State :=
  let s0 := clearMem s (newtBase g) (newtBase g + 0x280000)
  let s1 := clearMem (s0.modNewt g fun _ => {}) (pmAddr g 0) (pmAddr g 0x8000)
  let s2 := match payloadFor g fws with
    | some bs => loadFirmware s1 g bs
    | none => wr s1 (Reg.NEWT_STATUS_VSTATE g) vStop
  match payloadFor g kernels with
  | none => setU (clearView s2 g) g uEmpty
  | some bs =>
    if kernelOk bs then
      autoStart (loadKernel s2 g bs) g
    else raise (setU (clearView s2 g) g uEmpty) 0x1041 0

/-! ### Faults (R215) -/

/-- The view takes the registers of a kernel that stops, halts or faults (R204). -/
def takeView (s : State) (g : Nat) : State :=
  s.modNewt g fun x => { x with stopReq := false, view := x.user, bSh := x.user.b, lSh := x.user.l }

/-- An exception of the user kernel: FAULT, CODE and FAULT_PC latched, event 0x2060. -/
def userFault (s0 : State) (g code : Nat) : State :=
  let s := takeView s0 g
  let pc := (s.newt g).user.pc
  raise (setU (wr (wr s (Reg.NEWT_USER_FAULT_CODE g) code) (Reg.NEWT_USER_FAULT_FAULT_PC g) pc) g uFault) 0x2060 0

/-! ### The slot's states (R223, R224) -/

def userRefused (s : State) : State := raise s 0x1040 0

/-- The kernel stops: the view holds the registers as they are. -/
def stopKernel (s : State) (g : Nat) : State :=
  setU (takeView s g) g uStopped

def userStart (s : State) (g : Nat) : State :=
  if uState s g = uStopped ∧ userMode s g then startKernel s g else userRefused s

/-- STOP: at once in FAULT, WAITING and SUSPENDED, and between instructions with no loop active; otherwise at the points of
R220. -/
def userStop (s : State) (g : Nat) : State :=
  let st := uState s g
  if st = uEmpty ∨ st = uStopped then userRefused s
  else if st = uRunning ∧ !(s.newt g).user.loops.isEmpty then s.modNewt g fun x => { x with stopReq := true }
  else stopKernel s g

/-- A trigger enabled by bit `k` of TRIG_EN: a new run in WAITING, an overrun in RUNNING or SUSPENDED. -/
def userTrigger (s : State) (g k : Nat) : State :=
  if bit (rd s (Reg.NEWT_USER_CTRL_TRIG_EN g)) k then
    let st := uState s g
    if st = uWaiting then beginRun s g
    else if st = uRunning ∨ st = uSuspended then
      raiseIf (rd s (Reg.NEWT_USER_COUNT_OVERRUN g) == 0) (bump s (Reg.NEWT_USER_COUNT_OVERRUN g) 1) 0x2063 0
    else s
  else s

/-- Entry to SAFE stops the kernel. -/
def safeStopKernel (s : State) (g : Nat) : State :=
  let st := uState s g
  if st = uRunning ∨ st = uWaiting ∨ st = uSuspended then stopKernel s g else s

/-! ### Fall-back (R213) -/

/-- The fabric is shed and region memory retained: every core runs from its local memories, and kernels that use ZB are
suspended. -/
def enterFallback (s : State) : State :=
  if (enabledRegions s).any fun g => (s.newt g).fallReq then
    let s1 := forEach (enabledRegions s) s fun s g =>
      let s2 := wr (s.modNewt g fun x => { x with fallReq := false }) (Reg.NEWT_STATUS_FALLBACK g) 1
      if uState s2 g = uRunning ∧ zbUse s2 g then setU s2 g uSuspended else s2
    raise s1 0x2062 0
  else s

/-- The stage restore ends the fall-back: suspended kernels go on where they stopped. -/
def leaveFallback (s : State) : State :=
  forEach (enabledRegions s) s fun s g =>
    let s1 := wr (s.modNewt g fun x => { x with fallReq := false }) (Reg.NEWT_STATUS_FALLBACK g) 0
    if uState s1 g = uSuspended then setU s1 g uRunning else s1

/-! ### Load figures (Table 9.16) -/

/-- Close the 1 ms window when the balance has left it. -/
def rollLoad (s : State) (g : Nat) : State :=
  let w := s.time.bal / (nsUnits * 1000000)
  let x := s.newt g
  if x.win = w then s
  else
    let keep := x.win + 1 == w
    let f := fun (c : Nat) => if keep then min (c * 256 / 983040) 255 else 0
    wr (wr (s.modNewt g fun x => { x with win := w, vCyc := 0, uCyc := 0 }) (Reg.NEWT_LOAD_VLOAD g) (f x.vCyc)) (Reg.NEWT_LOAD_ULOAD g) (f x.uCyc)

/-! ### The commands' meanings -/

/-- USER_START (R223). -/
def execUserStart (g : Fin 8) (s : State) : Host.Outcome State Fault Refusal :=
  .next (if regionEnabled s g then userStart s g else s)

/-- USER_STOP (R223). -/
def execUserStop (g : Fin 8) (s : State) : Host.Outcome State Fault Refusal :=
  .next (if regionEnabled s g then userStop s g else s)

/-- USER_TRIG (R223): bit 1 of TRIG_EN enables host triggers. -/
def execUserTrig (g : Fin 8) (s : State) : Host.Outcome State Fault Refusal := .next (userTrigger s g 1)

/-- USER_PERIOD_TRIGGER (R223): bit 0 of TRIG_EN. -/
def execUserPeriodTrigger (g : Fin 8) (s : State) : Host.Outcome State Fault Refusal := .next (userTrigger s g 0)

/-- USER_WDOG (R215): a user run has exceeded MAXCYC cycles. -/
def execUserWdog (g : Fin 8) (s : State) : Host.Outcome State Fault Refusal :=
  .next (if ctxRuns s g true && rd s (Reg.NEWT_USER_LIMIT_MAXCYC g) != 0 then userFault s g 6 else s)

end Sys2Proof.Machine
end

