-- ==== Sys2Proof/Machine/Modes.lean ====
section
/-! DEFINITION. Operating modes (spec/01_architecture.md, R22 to R25, R29, R401; spec/02_start_and_configuration.md, R51): what entering and
leaving a mode does, requests for one, and entry to SAFE. -/

namespace Sys2Proof.Machine

/-! ### Pool commit (R270) -/

def poolGroup : Group := ⟨[regsAt 0x090100 0x090140]⟩

/-- The pair of POOL_RSV(0 to 15). -/
def poolPairOk (s : State) : Bool :=
  decide ((List.range 16).foldl (fun a n => a + rdSh s (Reg.POOL_RSV_RSV n)) 0 ≤ 16384) &&
    (List.range 16).all fun n => decide (rdSh s (Reg.POOL_RSV_RSV n) ≤ rdSh s (Reg.POOL_RSV_MAX n))

def poolCommit (s : State) : State :=
  if modeOf s = mBoot then s else (commitGroup s poolGroup (failAt (poolPairOk s) 0x090100)).1

/-! ### Leaving BOOT: blocks leave STOP with a commit (R10) -/

/-- The REGION block's H fields of cluster `c` (R113). -/
def orxCommit (s : State) (c : Nat) : State :=
  if newtHeld s (c / 2) then s else (commitGroup s (orxGroup c) []).1

/-- The blocks that BOOT held in STOP commit. -/
def leaveBoot (s : State) : State :=
  let s1 := hkCommit (chorusCommit (tileCommit (poolCommit (timeCommit s))))
  let s2 := forEach (enabledClusters s1) s1 orxCommit
  let s3 := forEach (List.range 16) s2 fun t n => (commitGroup t (dmaGroup n) (failAt (ringOk (rdSh t) n) (Reg.DMA_CH_RING_LO_BASE_LO n).off)).1
  let s4 := forEach (List.range 16) s3 fun t n => (commitGroup t (capGroup n) (failAt (capPairOk (rdSh t) n) (Reg.CAP_CH_CTRL_MODE n).off)).1
  let s5 := forEach (enabledClusters s4) s4 fun t c => if clusterRunOk t c && (t.cluster c).stopped then clusterCommit t c else t
  let s6 := forEach (enabledUnits s5) s5 fun t u => if rxRunOk t u && on t (Reg.UNIT_RX_STATUS_STOPPED u) then rxCommit t u else t
  forEach (enabledUnits s6) s6 fun t u => if txRunOk t u && on t (Reg.UNIT_TX_STATUS_STOPPED u) then txCommit t u else t

/-! ### Training (R106, R107) -/

/-- Words of the identity table of unit `u`, with the header of its shadow configuration (R96, R97). -/
def identityTable (s : State) (u : Nat) : List Nat :=
  let nb := nbBytes (nbShadow s u)
  let hdr := [0x4450 * 65536 + 0x100 + u,
    rdSh s (Reg.UNIT_DPD_CFG_SELF_CNT u) * 16777216 + rdSh s (Reg.UNIT_DPD_CFG_XT_CNT u) * 65536 + 0x100 + (s.unit u).tx.b,
    0, 0, 0, 0, 0, ofBytes nb, 0, 0, 0, 0]
  let body := hdr ++ List.replicate 48 0x40000000 ++ List.replicate 912 0
  body ++ [crc32 (body.flatMap (beBytes 4))]

/-- The table that the DPD_SEED records of the image give unit `u`: UNIT_MASK with unit 0 in the last byte's lowest bit, then tables in
ascending order (R96). -/
def seedTable (img : Option ImageS) (u : Nat) : Option (List Nat) :=
  match img with
  | none => none
  | some i =>
    match i.dpdSeeds.find? fun bs => bit (bs.getD (15 - u / 8) 0) (u % 8) with
    | none => none
    | some bs =>
      let k := ((List.range u).filter fun v => bit (bs.getD (15 - v / 8) 0) (v % 8)).length
      let t := (bs.drop (16 + 3892 * k)).take 3892
      if t.length = 3892 then some ((List.range 973).map fun w => bytesAt t (4 * w) 4) else none

/-- Training of unit `u` begins from its seed or the identity table. -/
def trainStart (s : State) (u : Nat) : State :=
  let s1 := wr (wr s (Reg.UNIT_DPD_STATUS_TRAIN_FAIL u) 0) (Reg.UNIT_DPD_STATUS_TRAIN_BACKOFF u) 0
  let t := (seedTable s1.boot.img u).getD (identityTable s1 u)
  loadShadow (s1.modTx u fun x => { x with train := some {}, adapt := .idle }) u t

/-- Every unit with DPD_EN trains (cold start, or after SAFE). -/
def trainAll (s : State) : State :=
  forEach (enabledUnits s) s fun t u => if on t (Reg.UNIT_TX_CTRL_DPD_EN u) && unitPresent t u then trainStart t u else t

/-- A table read from the archive goes to the shadow of unit `u` (R107); a unit without one trains in TRIM. -/
def tableLoad (s : State) (u : Nat) (t : Option (List Nat)) : State :=
  match t with
  | some ws => loadShadow s u ws
  | none => if modeOf s = mTrim ∧ on s (Reg.UNIT_TX_CTRL_DPD_EN u) then trainStart s u else s

def archiveLoad (s : State) (u : Nat) : State := tableLoad s u (archivedTable s u)

/-- Work is left for TRIM: calibrations, or training. -/
def trimWork (s : State) : Bool :=
  !trimCalsDone s || (enabledUnits s).any fun u => (s.unit u).tx.train.isSome

/-- TRIM releases calibration symbols while its work lasts. -/
def showTrimWork (s : State) : State :=
  { s with air := { s.air with calSym := modeOf s == mTrim && trimWork s } }

/-! ### Effects of a transition -/

/-- The escapement leaves STOP on the grid of the balance (R122). -/
def escStart (s : State) : State :=
  if escRunning s then s
  else
    let s1 := escCommit (wr s Reg.ESC_STATUS_RUNNING 1) true
    let s2 : State := { s1 with beam := { s1.beam with capped := if layerCap16 s1 then [0, 1, 2, 3] else [] } }
    let s3 := forTiles s2 fun s t => wr s (Reg.BF_STATUS_LCAP t) (b2n (layerCap16 s))
    { s3 with air := { s3.air with sym := symNow s3, calSym := false, drops := [] } }

/-- The escapement enters STOP: its queue is discarded (R122). -/
def escStop (s : State) : State :=
  let s1 := discardQueue (wr s Reg.ESC_STATUS_RUNNING 0)
  { s1 with air := { s1.air with calSym := false } }

/-- The radios stop: mute cause 9 on every unit, LOs down (Tables 1.5, 4.8 and 5.2), and receive symbols end. -/
def radiosOff (s : State) : State :=
  let s1 := forEach (enabledUnits s) (escStop s) fun t u => immediateMute t u 9
  forEach (enabledClusters s1) s1 loDown

def frozenTherm (s : State) (v : Nat) : State :=
  forEach (enabledRegions s) s fun t g => wr t (Reg.REGION_ADAPT_STATUS_FROZEN_THERM g) v

/-- The user slot of core `g` is loaded from the image again (R223). -/
def reloadSlot (s : State) (g : Nat) : State :=
  match payloadFor g ((s.boot.img.map ImageS.kernels).getD []) with
  | none => setU (clearView s g) g uEmpty
  | some bs =>
    if kernelOk bs then
      autoStart (loadKernel s g bs) g
    else raise (setU (clearView s g) g uEmpty) 0x1041 0

/-- The level of a temperature that SHUTDOWN has let go (Table 15.2). -/
def levelAfter (s : State) : Nat :=
  let t := rdI s Reg.THERM_STATUS_TJ
  if 1100 ≤ t then 2 else if 1000 ≤ t then 1 else 0

/-- What leaving mode `m` ends. -/
def leaveMode (s : State) (m : Nat) : State :=
  if m = mBoot then leaveBoot s
  else if m = mDiag then forEach (enabledRegions s) (capLeaveDiag s) reloadSlot
  else if m = mSafe then
    let s1 := frozenTherm (if 0 ∈ s.rst.badClocks ∨ rd s Reg.BOOT_STRAPS_CLKSEL = 3 then s else linkToRef s) 0
    let s2 := if rd s1 Reg.THERM_STATUS_LEVEL = 3 then wr s1 Reg.THERM_STATUS_LEVEL (levelAfter s1) else s1
    let s3 := forEach (enabledUnits s2) s2 fun t u => dropCause t u 8
    biasRestore { s3 with boot := { s3.boot with safe := [] } }
  else s

/-- What entering mode `m` begins. -/
def enterMode (s : State) (m : Nat) : State :=
  if m = mTrim then wakeAll (escStart (modeDomains s m))
  else if m = mIdle then modeDomains (radiosOff s) m
  else if m = mServe then biasServe (forEach (enabledClusters s) (escStart (modeDomains s m)) loKick)
  else if m = mDiag then forEach (enabledClusters s) (escStart (modeDomains s m)) loKick
  else if m = mSafe then
    let s1 := frozenTherm (capStopAll (modeDomains (radiosOff s) m) fun _ => true) 1
    linkBringUp (linkWake (biasSafe (hkSafe (forEach (enabledRegions s1) s1 safeStopKernel))))
  else s

/-- A transition begins that an action ends. -/
def beginMode (s : State) (new : Nat) : State := wr (wr s Reg.MODE_STATUS_BUSY 1) Reg.MODE_STATUS_TARGET new

def modeBusy (s : State) : Bool := on s Reg.MODE_STATUS_BUSY
def modeTarget (s : State) : Nat := rd s Reg.MODE_STATUS_TARGET
def modeCause (s : State) : Nat := rd s Reg.MODE_STATUS_CAUSE

/-! ### Requests (R23, R24) -/

/-- A refused request: the mode stays and event 0x1003 is raised. -/
def refuseMode (s : State) (target cause reason : Nat) : State :=
  raise s 0x1003 (modeOf s + 16 * target + 256 * cause + 4096 * reason)

/-- A pending or voting sleep request ends without a record (R346, R348). -/
def endSleep (s : State) : State :=
  let s1 := wr (wr s Reg.PWR_STATUS_SLEEP_PEND 0) Reg.PWR_STATUS_VOTE 0
  { s1 with power := { s1.power with accepted := [], refused := [], target := 0, cause := 0, backoff := 0 } }

/-- A vote is open. -/
def voting (s : State) : Bool := rd s Reg.PWR_STATUS_VOTE == 1

/-- The vote of R348 opens. -/
def openVote (s : State) : State :=
  let s1 := beginMode (wr s Reg.PWR_STATUS_VOTE 1) s.power.target
  { s1 with power := { s1.power with accepted := [], refused := [] } }

/-- A SENTINEL or BRUMATE request (R346): MODE_REQ is written and the vote begins. -/
def sleepRequest (s : State) (target cause : Nat) : State :=
  let s1 := wr (wr s Reg.MODE_REQ_TARGET target) Reg.PWR_STATUS_SLEEP_PEND 1
  openVote { s1 with power := { s1.power with target := target, cause := cause, backoff := 0 } }

/-- An open vote ends without any record (R348); the request stays pending, in back-off. -/
def closeVote (s : State) : State :=
  if voting s then
    let s1 := wr (wr (wr s Reg.PWR_STATUS_VOTE 3) Reg.MODE_STATUS_BUSY 0) Reg.MODE_STATUS_TARGET (modeOf s)
    { s1 with power := { s1.power with accepted := [], refused := [] } }
  else s

/-- CANCEL, or a reset: the pending request ends, with its open vote (R346). -/
def dropSleep (s : State) : State := if on s Reg.PWR_STATUS_SLEEP_PEND then endSleep (closeVote s) else s

/-! ### The mode schedule (R347) -/

def scheduleEntry (s : State) (i : Nat) : Option (Nat × Nat × Nat) := ((s.boot.img.map ImageS.schedule).getD [])[i]?

/-- Entry `i` acts, no transition running. In SENTINEL and BRUMATE the AON timer acts for it. -/
def scheduleAct (s0 : State) (i : Nat) : State :=
  match scheduleEntry s0 i with
  | none => s0
  | some (_, period, t) =>
    let m := modeOf s0
    if (period = 0 ∧ i ∈ s0.power.acted) ∨ m = mSentinel ∨ m = mBrumate then s0
    else
      let s : State := if period = 0 then { s0 with power := { s0.power with acted := s0.power.acted ++ [i] } } else s0
      if m = mIdle then
        if on s Reg.PWR_STATUS_SLEEP_PEND then
          if t = mIdle then dropSleep s
          else { (wr s Reg.MODE_REQ_TARGET t) with power := { s.power with target := t, cause := 2, backoff := 0 } }
        else if t = mIdle then s
        else sleepRequest s t 2
      else refuseMode s t 2 1

/-- Entries that fell due during a transition act when it has ended. -/
def drainDue (s : State) : State :=
  if on s Reg.MODE_STATUS_BUSY then s
  else s.power.due.foldl (fun s i => if on s Reg.MODE_STATUS_BUSY then { s with power := { s.power with due := s.power.due ++ [i] } } else scheduleAct s i)
    { s with power := { s.power with due := [] } }

/-- A transition to mode `new` completes (R23): MODE changes, BUSY clears, event 0x0001. -/
def finishMode (s : State) (new cause : Nat) : State :=
  let old := modeOf s
  let s1 := wr (wr (wr (wr s Reg.MODE_STATUS_MODE new) Reg.MODE_STATUS_BUSY 0) Reg.MODE_STATUS_TARGET new) Reg.MODE_STATUS_CAUSE cause
  let s2 := enterMode (leaveMode (raise s1 0x0001 (old + 16 * new + 256 * cause)) old) new
  drainDue (forEach (enabledRegions s2) s2 autoKernel)

/-! ### SAFE (R401, Table 1.14) -/

/-- Entry to SAFE for the cause that event `code` names: at once, in place of any other transition (R24). -/
def enterSafe (s : State) (code : Nat) : State :=
  if packageHeld s then s
  else
    let s1 : State := { s with boot := { s.boot with safe := if code ∈ s.boot.safe then s.boot.safe else s.boot.safe ++ [code] } }
    if modeOf s1 = mSafe then s1
    else
      let s2 := endSleep s1
      finishMode { s2 with power := { s2.power with snap := none } } mSafe 7

/-- A fatal event that takes the device into SAFE. -/
def fatal (s : State) (code arg : Nat) : State := enterSafe (raise s code arg) code

/-- An essential domain of R355 is FAILED: HUB, TIME, MEM, SEC, or both of LINK P0 and P1. -/
def essentialFailed (s : State) : Bool :=
  [0, 1, 2, 3].any (domFailed s) || (domFailed s 4 && domFailed s 5)

/-- A recorded cause of SAFE is still present (Table 1.14). -/
def causePresent (s : State) (code : Nat) : Bool :=
  if code = 0xF001 then decide (0 ∈ s.rst.badClocks)
  else if code = 0xF006 then decide (1200 ≤ rdI s Reg.THERM_STATUS_TJ)
  else if code = 0xF007 then essentialFailed s
  else true

/-- The exit from SAFE: start-up calibration again, from TRIM (Table 1.5). -/
def leaveSafe (s : State) : State :=
  let s1 := finishMode s mTrim 1
  showTrimWork (trainAll (trimCold s1))

/-! ### The decision on a SET_MODE request -/

/-- The request of an accepted transition that is listed in Table 1.5 for mode `m`. -/
def modeListed (m t : Nat) : Bool :=
  (m == mIdle && (t == mServe || t == mSentinel || t == mBrumate || t == mDiag)) ||
  ((m == mServe || m == mDiag || m == mSafe) && t == mIdle)

/-- Decide the request for mode `t` by the host (R24): the state after it and whether it is accepted. An accepted request ends a pending
sleep (R346); the exit from SAFE (`leaveSafe`) follows its response. -/
def setMode (s : State) (t : Nat) : State × Bool :=
  if modeBusy s then (refuseMode s t 1 2, false)
  else if !modeListed (modeOf s) t then (refuseMode s t 1 1, false)
  else if modeOf s = mSafe then
    if s.boot.safe.any (causePresent s) then (refuseMode s t 1 4, false) else (beginMode s mTrim, true)
  else if t = mSentinel ∨ t = mBrumate then (sleepRequest (endSleep s) t 1, true)
  else (beginMode (endSleep s) t, true)

/-- A transition that waits for a grid slot boundary completes at one (R24). -/
def modeBoundary (s : State) : State :=
  if modeBusy s then
    let m := modeOf s
    let t := modeTarget s
    if (m = mIdle ∧ (t = mServe ∨ t = mDiag)) ∨ ((m = mServe ∨ m = mDiag) ∧ t = mIdle) then finishMode s t 1 else s
  else s

/-! ### The grid -/

/-- The first symbol of the next slot of the grid. -/
def nextSlot (s : State) : Int := (symNow s / 14 + 1) * 14

/-- The balance reaches grid boundary `n`. -/
def advanceTo (s : State) (n : Int) : State :=
  { s with time := { s.time with bal := max s.time.bal (cyclesBal (startOf s n).toNat) } }

/-! ### Clock monitor (R29) -/

/-- A count lies within ±10 % of its nominal one, which stands a hundredfold. -/
def clockGood (nominal count : Nat) : Bool := decide (10 * (100 * (count : Int) - nominal).natAbs ≤ nominal)

/-- Edges in 4 µs, a hundredfold: REF by CLKSEL. -/
def refNominal (s : State) : Nat := [98304, 196608, 49152].getD (rd s Reg.BOOT_STRAPS_CLKSEL) 0

end Sys2Proof.Machine
end

