-- ==== Sys2Proof/Machine/RegMap.lean ====
section
/-! DEFINITION. The register map: every register of the spec's register tables at its offset in the register
window (Table 1.11, R31), with its index ranges and its fields. The generic register access reads and writes
through this table; the meanings use the same field definitions by name. -/

namespace Sys2Proof.Machine

/-- One register of the map: name, window offset of its first instance, (count, stride) of each index from the
widest stride down, and its fields at given indexes. -/
structure RegRow where
  name : String
  base : Nat
  dims : List (Nat × Nat)
  flds : Nat → Nat → Nat → List Fld

namespace RegRow

/-- Registers of block GLOBAL (Tables 0.3 to 1.13, R33). -/
def rowsGLOBAL : List RegRow := [
  ⟨"DEVICE_INFO", 0x0, [], fun _ _ _ =>
    [Reg.DEVICE_INFO_GRADE,
     Reg.DEVICE_INFO_STEPPING,
     Reg.DEVICE_INFO_FAMILY]⟩,
  ⟨"CFG_STATUS", 0x10, [], fun _ _ _ =>
    [Reg.CFG_STATUS_CFG_IGNORED,
     Reg.CFG_STATUS_CFG_PAIR_ERR,
     Reg.CFG_STATUS_ERR_OVF,
     Reg.CFG_STATUS_ERR_KIND]⟩,
  ⟨"CFG_ERR_ADDR", 0x14, [], fun _ _ _ =>
    [Reg.CFG_ERR_ADDR_ADDR]⟩,
  ⟨"MODE_STATUS", 0x20, [], fun _ _ _ =>
    [Reg.MODE_STATUS_MODE,
     Reg.MODE_STATUS_BUSY,
     Reg.MODE_STATUS_TARGET,
     Reg.MODE_STATUS_CAUSE]⟩,
  ⟨"MODE_REQ", 0x24, [], fun _ _ _ =>
    [Reg.MODE_REQ_TARGET]⟩,
  ⟨"ALERT_MASK", 0x30, [], fun _ _ _ =>
    [Reg.ALERT_MASK_CLASS_EN,
     Reg.ALERT_MASK_FATAL_EN]⟩,
  ⟨"ALERT_STATUS", 0x34, [], fun _ _ _ =>
    [Reg.ALERT_STATUS_CLASS_PEND,
     Reg.ALERT_STATUS_FATAL_PEND]⟩]

/-- Registers of block RB (Tables 2.12 to 2.19). -/
def rowsRB : List RegRow := [
  ⟨"RESET_CAUSE", 0x10000, [], fun _ _ _ =>
    [Reg.RESET_CAUSE_SRC]⟩,
  ⟨"RESET_CAUSE_BLK", 0x10004, [], fun _ _ _ =>
    [Reg.RESET_CAUSE_BLK_BLK_ID,
     Reg.RESET_CAUSE_BLK_FORCED,
     Reg.RESET_CAUSE_BLK_OVF,
     Reg.RESET_CAUSE_BLK_REACH]⟩,
  ⟨"BLK_RESET", 0x10008, [], fun _ _ _ =>
    [Reg.BLK_RESET_BLK_ID,
     Reg.BLK_RESET_GO,
     Reg.BLK_RESET_BUSY,
     Reg.BLK_RESET_REFUSED]⟩,
  ⟨"BOOT_CTRL", 0x1000C, [], fun _ _ _ =>
    [Reg.BOOT_CTRL_RELOAD_TRIM]⟩,
  ⟨"BOOT_STATUS", 0x10010, [], fun _ _ _ =>
    [Reg.BOOT_STATUS_TRIM_VALID,
     Reg.BOOT_STATUS_TRIM_FAIL,
     Reg.BOOT_STATUS_TRIM_FAILS,
     Reg.BOOT_STATUS_WARM,
     Reg.BOOT_STATUS_SLOT,
     Reg.BOOT_STATUS_FALLBACK,
     Reg.BOOT_STATUS_STEP]⟩,
  ⟨"BOOT_STRAPS", 0x10014, [], fun _ _ _ =>
    [Reg.BOOT_STRAPS_BOOTSEL,
     Reg.BOOT_STRAPS_CLKSEL,
     Reg.BOOT_STRAPS_STRAP_ERR]⟩,
  ⟨"BOOT_TIME", 0x10018, [], fun _ _ _ =>
    [Reg.BOOT_TIME_CYCLES]⟩,
  ⟨"REACH_MAP", 0x10020, [], fun _ _ _ =>
    [Reg.REACH_MAP_NRST_IN,
     Reg.REACH_MAP_WDOG,
     Reg.REACH_MAP_HOST_CAP,
     Reg.REACH_MAP_JTAG,
     Reg.REACH_MAP_TILE_FAULT]⟩]

/-- Registers of block UNIT (Tables 3.7 to 4.27). -/
def rowsUNIT0 : List RegRow := [
  ⟨"UNIT_RX_CTRL", 0x200000, [(128, 0x1000)], fun u _ _ =>
    [Reg.UNIT_RX_CTRL_RUN u,
     Reg.UNIT_RX_CTRL_SYNC_EN u,
     Reg.UNIT_RX_CTRL_SYNC_PIN_SERVE u,
     Reg.UNIT_RX_CTRL_IQC_EN u,
     Reg.UNIT_RX_CTRL_TRIM_LOCK u,
     Reg.UNIT_RX_CTRL_COMMIT u]⟩,
  ⟨"UNIT_RX_STATUS", 0x200004, [(128, 0x1000)], fun u _ _ =>
    [Reg.UNIT_RX_STATUS_OVLD u,
     Reg.UNIT_RX_STATUS_OVLD_NOW u,
     Reg.UNIT_RX_STATUS_NEIGH u,
     Reg.UNIT_RX_STATUS_AGC_FLOOR u,
     Reg.UNIT_RX_STATUS_XFADE u,
     Reg.UNIT_RX_STATUS_BANK_ACT u,
     Reg.UNIT_RX_STATUS_GATED u,
     Reg.UNIT_RX_STATUS_STOPPED u,
     Reg.UNIT_RX_STATUS_GAIN_IDX u,
     Reg.UNIT_RX_STATUS_SYNC_SEEN u,
     Reg.UNIT_RX_STATUS_SYNC_SLIP u]⟩,
  ⟨"UNIT_RX_NCO_OFS", 0x200008, [(128, 0x1000)], fun u _ _ =>
    [Reg.UNIT_RX_NCO_OFS_OFS u]⟩,
  ⟨"UNIT_RX_NCO_PHASE", 0x20000C, [(128, 0x1000)], fun u _ _ =>
    [Reg.UNIT_RX_NCO_PHASE_PHASE u]⟩,
  ⟨"UNIT_RX_DEC", 0x200010, [(128, 0x1000)], fun u _ _ =>
    [Reg.UNIT_RX_DEC_RATIO u,
     Reg.UNIT_RX_DEC_BANK_SEL u]⟩,
  ⟨"UNIT_RX_GAIN", 0x200014, [(128, 0x1000)], fun u _ _ =>
    [Reg.UNIT_RX_GAIN_MAN_IDX u,
     Reg.UNIT_RX_GAIN_AGC_MODE u,
     Reg.UNIT_RX_GAIN_OVLD_EN u]⟩,
  ⟨"UNIT_RX_AGC", 0x200018, [(128, 0x1000)], fun u _ _ =>
    [Reg.UNIT_RX_AGC_HI_THR u,
     Reg.UNIT_RX_AGC_LO_THR u,
     Reg.UNIT_RX_AGC_HOLD_MAX u,
     Reg.UNIT_RX_AGC_STEP_MAX u,
     Reg.UNIT_RX_AGC_OVLD_STEP u]⟩,
  ⟨"UNIT_RX_FASTPWR", 0x20001C, [(128, 0x1000)], fun u _ _ =>
    [Reg.UNIT_RX_FASTPWR_NOW u,
     Reg.UNIT_RX_FASTPWR_PEAK u,
     Reg.UNIT_RX_FASTPWR_MEAN u]⟩,
  ⟨"UNIT_RX_IRR", 0x200020, [(128, 0x1000)], fun u _ _ =>
    [Reg.UNIT_RX_IRR_AMP u,
     Reg.UNIT_RX_IRR_PHS u]⟩,
  ⟨"UNIT_RX_IQC", 0x200024, [(128, 0x1000), (3, 0x4)], fun u k _ =>
    [Reg.UNIT_RX_IQC_RE u k,
     Reg.UNIT_RX_IQC_IM u k]⟩,
  ⟨"UNIT_RX_COUNT", 0x200030, [(128, 0x1000)], fun u _ _ =>
    [Reg.UNIT_RX_COUNT_OVLD_CNT u,
     Reg.UNIT_RX_COUNT_NEIGH_CNT u]⟩,
  ⟨"UNIT_RX_COEFA", 0x200400, [(128, 0x1000), (33, 0x4)], fun u k _ =>
    [Reg.UNIT_RX_COEFA_COEF u k]⟩]

/-- Registers of block UNIT (Tables 3.7 to 4.27). -/
def rowsUNIT1 : List RegRow := [
  ⟨"UNIT_RX_COEFB", 0x200500, [(128, 0x1000), (33, 0x4)], fun u k _ =>
    [Reg.UNIT_RX_COEFB_COEF u k]⟩,
  ⟨"UNIT_TX_CTRL", 0x200100, [(128, 0x1000)], fun u _ _ =>
    [Reg.UNIT_TX_CTRL_RUN u,
     Reg.UNIT_TX_CTRL_SYNC_EN u,
     Reg.UNIT_TX_CTRL_CFR_EN u,
     Reg.UNIT_TX_CTRL_DPD_EN u,
     Reg.UNIT_TX_CTRL_MUTE u,
     Reg.UNIT_TX_CTRL_NOTBL_MODE u,
     Reg.UNIT_TX_CTRL_COMMIT u,
     Reg.UNIT_TX_CTRL_NOTBL_BACKOFF u]⟩,
  ⟨"UNIT_TX_STATUS", 0x200104, [(128, 0x1000)], fun u _ _ =>
    [Reg.UNIT_TX_STATUS_MUTED u,
     Reg.UNIT_TX_STATUS_GATED u,
     Reg.UNIT_TX_STATUS_STOPPED u,
     Reg.UNIT_TX_STATUS_TBL_NOT_READY u,
     Reg.UNIT_TX_STATUS_DAC_CLIP u,
     Reg.UNIT_TX_STATUS_TX_SYNC_SLIP u,
     Reg.UNIT_TX_STATUS_NB_MISMATCH u,
     Reg.UNIT_TX_STATUS_MUTE_CAUSE u,
     Reg.UNIT_TX_STATUS_ENF_BACKOFF u]⟩,
  ⟨"UNIT_TX_NCO_OFS", 0x200108, [(128, 0x1000)], fun u _ _ =>
    [Reg.UNIT_TX_NCO_OFS_OFS u]⟩,
  ⟨"UNIT_TX_NCO_PHASE", 0x20010C, [(128, 0x1000)], fun u _ _ =>
    [Reg.UNIT_TX_NCO_PHASE_PHASE u]⟩,
  ⟨"UNIT_TX_INTERP", 0x200110, [(128, 0x1000)], fun u _ _ =>
    [Reg.UNIT_TX_INTERP_RATIO u,
     Reg.UNIT_TX_INTERP_PRE u]⟩,
  ⟨"UNIT_TX_LEVEL", 0x200114, [(128, 0x1000)], fun u _ _ =>
    [Reg.UNIT_TX_LEVEL_BACKOFF u,
     Reg.UNIT_TX_LEVEL_ATT u]⟩,
  ⟨"UNIT_TX_LAT", 0x200118, [(128, 0x1000)], fun u _ _ =>
    [Reg.UNIT_TX_LAT_LAT u]⟩,
  ⟨"UNIT_TX_COUNT", 0x20011C, [(128, 0x1000)], fun u _ _ =>
    [Reg.UNIT_TX_COUNT_CLIP_CNT u,
     Reg.UNIT_TX_COUNT_NOTBL_CNT u]⟩,
  ⟨"UNIT_CFR_CTRL", 0x200140, [(128, 0x1000)], fun u _ _ =>
    [Reg.UNIT_CFR_CTRL_THR u,
     Reg.UNIT_CFR_CTRL_ITER u,
     Reg.UNIT_CFR_CTRL_PEAKS_MAX u,
     Reg.UNIT_CFR_CTRL_HARD_EN u,
     Reg.UNIT_CFR_CTRL_HARD_MARGIN u]⟩,
  ⟨"UNIT_CFR_WEIGHT", 0x200144, [(128, 0x1000)], fun u _ _ =>
    [Reg.UNIT_CFR_WEIGHT_W0 u,
     Reg.UNIT_CFR_WEIGHT_W1 u,
     Reg.UNIT_CFR_WEIGHT_W2 u,
     Reg.UNIT_CFR_WEIGHT_W3 u]⟩,
  ⟨"UNIT_CFR_COUNT", 0x200148, [(128, 0x1000)], fun u _ _ =>
    [Reg.UNIT_CFR_COUNT_PEAK_SKIP u,
     Reg.UNIT_CFR_COUNT_HARD_CNT u]⟩]

/-- Registers of block UNIT (Tables 3.7 to 4.27). -/
def rowsUNIT2 : List RegRow := [
  ⟨"UNIT_DPD_CTRL", 0x200200, [(128, 0x1000)], fun u _ _ =>
    [Reg.UNIT_DPD_CTRL_ADAPT_EN u,
     Reg.UNIT_DPD_CTRL_MOULT_HOLD u,
     Reg.UNIT_DPD_CTRL_SHADOW_READY u]⟩,
  ⟨"UNIT_DPD_STATUS", 0x200204, [(128, 0x1000)], fun u _ _ =>
    [Reg.UNIT_DPD_STATUS_ACT_VALID u,
     Reg.UNIT_DPD_STATUS_SHD_PEND u,
     Reg.UNIT_DPD_STATUS_MOULT_FAIL u,
     Reg.UNIT_DPD_STATUS_TRAIN_FAIL u,
     Reg.UNIT_DPD_STATUS_FAIL_CODE u,
     Reg.UNIT_DPD_STATUS_NB_LIVE u,
     Reg.UNIT_DPD_STATUS_ORDER_ACT u,
     Reg.UNIT_DPD_STATUS_TRAIN_BACKOFF u,
     Reg.UNIT_DPD_STATUS_MOULT_CNT u]⟩,
  ⟨"UNIT_DPD_CFG", 0x200208, [(128, 0x1000)], fun u _ _ =>
    [Reg.UNIT_DPD_CFG_SELF_CNT u,
     Reg.UNIT_DPD_CFG_XT_CNT u]⟩,
  ⟨"UNIT_DPD_NB", 0x20020C, [(128, 0x1000)], fun u _ _ =>
    [Reg.UNIT_DPD_NB_UNIT_0 u,
     Reg.UNIT_DPD_NB_UNIT_1 u,
     Reg.UNIT_DPD_NB_UNIT_2 u,
     Reg.UNIT_DPD_NB_UNIT_3 u,
     Reg.UNIT_DPD_NB_VALID_0 u,
     Reg.UNIT_DPD_NB_VALID_1 u,
     Reg.UNIT_DPD_NB_VALID_2 u,
     Reg.UNIT_DPD_NB_VALID_3 u]⟩,
  ⟨"UNIT_DPD_TBL_ADDR", 0x200210, [(128, 0x1000)], fun u _ _ =>
    [Reg.UNIT_DPD_TBL_ADDR_WORD u,
     Reg.UNIT_DPD_TBL_ADDR_SET u,
     Reg.UNIT_DPD_TBL_ADDR_AUTO_INC u]⟩,
  ⟨"UNIT_DPD_TBL_DATA", 0x200214, [(128, 0x1000)], fun u _ _ =>
    [Reg.UNIT_DPD_TBL_DATA_DATA u]⟩,
  ⟨"UNIT_DPD_FIT", 0x200218, [(128, 0x1000)], fun u _ _ =>
    [Reg.UNIT_DPD_FIT_NMSE u,
     Reg.UNIT_DPD_FIT_TEMP u]⟩,
  ⟨"UNIT_DPD_SEQ", 0x20021C, [(128, 0x1000)], fun u _ _ =>
    [Reg.UNIT_DPD_SEQ_SEQ u]⟩]

/-- Registers of block REGION (Tables 4.28 to 4.31). -/
def rowsREGION : List RegRow := [
  ⟨"REGION_ADAPT", 0x300000, [(8, 0x10000)], fun g _ _ =>
    [Reg.REGION_ADAPT_ORDER_CAP g,
     Reg.REGION_ADAPT_NMSE_TARGET g,
     Reg.REGION_ADAPT_PERIOD g,
     Reg.REGION_ADAPT_CAPS g]⟩,
  ⟨"REGION_ADAPT_STATUS", 0x300004, [(8, 0x10000)], fun g _ _ =>
    [Reg.REGION_ADAPT_STATUS_FROZEN_S2 g,
     Reg.REGION_ADAPT_STATUS_FROZEN_THERM g,
     Reg.REGION_ADAPT_STATUS_ORDER_REDUCED g,
     Reg.REGION_ADAPT_STATUS_FROZEN_RESET g,
     Reg.REGION_ADAPT_STATUS_FIT_CNT g]⟩,
  ⟨"REGION_ORX_CTRL", 0x300010, [(8, 0x10000)], fun g _ _ =>
    [Reg.REGION_ORX_CTRL_MODE_A g,
     Reg.REGION_ORX_CTRL_MODE_B g,
     Reg.REGION_ORX_CTRL_FIX_POS_A g,
     Reg.REGION_ORX_CTRL_FIX_POS_B g]⟩,
  ⟨"REGION_ORX_STATUS", 0x300014, [(8, 0x10000)], fun g _ _ =>
    [Reg.REGION_ORX_STATUS_POS_A g,
     Reg.REGION_ORX_STATUS_POS_B g,
     Reg.REGION_ORX_STATUS_OVLD_A g,
     Reg.REGION_ORX_STATUS_OVLD_B g]⟩]

/-- Registers of block ESC (Tables 5.10 to 5.15). -/
def rowsESC : List RegRow := [
  ⟨"ESC_CTRL", 0x50000, [], fun _ _ _ =>
    [Reg.ESC_CTRL_MU]⟩,
  ⟨"ESC_OFFSET", 0x50004, [], fun _ _ _ =>
    [Reg.ESC_OFFSET_OFFSET]⟩,
  ⟨"ESC_RX_ADV", 0x50008, [], fun _ _ _ =>
    [Reg.ESC_RX_ADV_RX_ADV]⟩,
  ⟨"ESC_TAG", 0x5000C, [], fun _ _ _ =>
    [Reg.ESC_TAG_TAG]⟩,
  ⟨"ESC_STATUS", 0x50010, [], fun _ _ _ =>
    [Reg.ESC_STATUS_QUEUE_USED,
     Reg.ESC_STATUS_RUNNING,
     Reg.ESC_STATUS_REJ,
     Reg.ESC_STATUS_REJ_CAUSE]⟩,
  ⟨"ESC_COUNT", 0x50014, [], fun _ _ _ =>
    [Reg.ESC_COUNT_SCHED_REJ,
     Reg.ESC_COUNT_SCHED_TURN]⟩]

/-- Registers of block CLUSTER (Tables 5.16 to 5.24 and 8.7 to 8.14). -/
def rowsCLUSTER0 : List RegRow := [
  ⟨"CLUSTER_LO_CTRL", 0x100000, [(16, 0x10000)], fun c _ _ =>
    [Reg.CLUSTER_LO_CTRL_LO_EN c,
     Reg.CLUSTER_LO_CTRL_IF_K c,
     Reg.CLUSTER_LO_CTRL_COMMIT c]⟩,
  ⟨"CLUSTER_LO_FREQ", 0x100004, [(16, 0x10000)], fun c _ _ =>
    [Reg.CLUSTER_LO_FREQ_FREQ c]⟩,
  ⟨"CLUSTER_LO_STATUS", 0x100008, [(16, 0x10000)], fun c _ _ =>
    [Reg.CLUSTER_LO_STATUS_STATE c,
     Reg.CLUSTER_LO_STATUS_LOCK c,
     Reg.CLUSTER_LO_STATUS_STORED_HIT c,
     Reg.CLUSTER_LO_STATUS_UNLOCK c,
     Reg.CLUSTER_LO_STATUS_STORE_FULL c,
     Reg.CLUSTER_LO_STATUS_LAST_ENTRY c,
     Reg.CLUSTER_LO_STATUS_HOP_TIME c]⟩,
  ⟨"CLUSTER_LO_PRECAL", 0x10000C, [(16, 0x10000)], fun c _ _ =>
    [Reg.CLUSTER_LO_PRECAL_FREQ c]⟩,
  ⟨"CLUSTER_STROBE", 0x100010, [(16, 0x10000)], fun c _ _ =>
    [Reg.CLUSTER_STROBE_TXON_POL c,
     Reg.CLUSTER_STROBE_RXON_POL c,
     Reg.CLUSTER_STROBE_TXON_NOW c,
     Reg.CLUSTER_STROBE_RXON_NOW c]⟩,
  ⟨"CLUSTER_RFFE_CTRL", 0x100014, [(16, 0x10000)], fun c _ _ =>
    [Reg.CLUSTER_RFFE_CTRL_SPEED c,
     Reg.CLUSTER_RFFE_CTRL_BUSY c,
     Reg.CLUSTER_RFFE_CTRL_SLIP c,
     Reg.CLUSTER_RFFE_CTRL_REFUSED c]⟩,
  ⟨"CLUSTER_RFFE_CMD", 0x100018, [(16, 0x10000)], fun c _ _ =>
    [Reg.CLUSTER_RFFE_CMD_DATA c,
     Reg.CLUSTER_RFFE_CMD_ADDR c,
     Reg.CLUSTER_RFFE_CMD_READ c,
     Reg.CLUSTER_RFFE_CMD_TYPE c,
     Reg.CLUSTER_RFFE_CMD_SID c]⟩,
  ⟨"CLUSTER_RFFE_LIST", 0x100100, [(16, 0x10000), (64, 0x4)], fun c i _ =>
    [Reg.CLUSTER_RFFE_LIST_DATA c i,
     Reg.CLUSTER_RFFE_LIST_ADDR c i,
     Reg.CLUSTER_RFFE_LIST_READ c i,
     Reg.CLUSTER_RFFE_LIST_TYPE c i,
     Reg.CLUSTER_RFFE_LIST_SID c i]⟩,
  ⟨"CLUSTER_COUNT", 0x10001C, [(16, 0x10000)], fun c _ _ =>
    [Reg.CLUSTER_COUNT_TX_DROP_UNLOCK c,
     Reg.CLUSTER_COUNT_CROAK_DEFER c,
     Reg.CLUSTER_COUNT_RFFE_SLIP c]⟩,
  ⟨"CLUSTER_LO_CAL0", 0x100200, [(16, 0x10000), (64, 0x8)], fun c e _ =>
    [Reg.CLUSTER_LO_CAL0_FREQ c e]⟩,
  ⟨"CLUSTER_LO_CAL1", 0x100204, [(16, 0x10000), (64, 0x8)], fun c e _ =>
    [Reg.CLUSTER_LO_CAL1_VALID c e,
     Reg.CLUSTER_LO_CAL1_PIN c e,
     Reg.CLUSTER_LO_CAL1_BAND c e,
     Reg.CLUSTER_LO_CAL1_CAP c e,
     Reg.CLUSTER_LO_CAL1_CP c e,
     Reg.CLUSTER_LO_CAL1_TEMP c e]⟩,
  ⟨"CLUSTER_CAL_CTRL", 0x100040, [(16, 0x10000)], fun c _ _ =>
    [Reg.CLUSTER_CAL_CTRL_DT c,
     Reg.CLUSTER_CAL_CTRL_TOUR_EN c,
     Reg.CLUSTER_CAL_CTRL_SAVE c]⟩]

/-- Registers of block CLUSTER (Tables 5.16 to 5.24 and 8.7 to 8.14). -/
def rowsCLUSTER1 : List RegRow := [
  ⟨"CLUSTER_CAL_REQ", 0x100044, [(16, 0x10000)], fun c _ _ =>
    [Reg.CLUSTER_CAL_REQ_CALS c,
     Reg.CLUSTER_CAL_REQ_DPD_REL c,
     Reg.CLUSTER_CAL_REQ_UNITS c,
     Reg.CLUSTER_CAL_REQ_CLR_DEG c,
     Reg.CLUSTER_CAL_REQ_GO c]⟩,
  ⟨"CLUSTER_CAL_STATUS", 0x100048, [(16, 0x10000)], fun c _ _ =>
    [Reg.CLUSTER_CAL_STATUS_DEG_RX c,
     Reg.CLUSTER_CAL_STATUS_DEG_TX c,
     Reg.CLUSTER_CAL_STATUS_BUSY c,
     Reg.CLUSTER_CAL_STATUS_REFUSED c,
     Reg.CLUSTER_CAL_STATUS_FAIL c,
     Reg.CLUSTER_CAL_STATUS_ORX_FAIL c,
     Reg.CLUSTER_CAL_STATUS_STORE_BUSY c,
     Reg.CLUSTER_CAL_STATUS_DUE c]⟩,
  ⟨"CLUSTER_CAL_LAST", 0x10004C, [(16, 0x10000)], fun c _ _ =>
    [Reg.CLUSTER_CAL_LAST_POS c,
     Reg.CLUSTER_CAL_LAST_CAL c,
     Reg.CLUSTER_CAL_LAST_REASON c,
     Reg.CLUSTER_CAL_LAST_STRIKES c,
     Reg.CLUSTER_CAL_LAST_TEMP c]⟩,
  ⟨"CLUSTER_CAL_COUNT", 0x100050, [(16, 0x10000)], fun c _ _ =>
    [Reg.CLUSTER_CAL_COUNT_PASS_CNT c,
     Reg.CLUSTER_CAL_COUNT_FAIL_CNT c]⟩,
  ⟨"CLUSTER_CAL_STRIKE", 0x100060, [(16, 0x10000), (8, 0x4)], fun c i _ =>
    [Reg.CLUSTER_CAL_STRIKE_STRIKES c i]⟩,
  ⟨"CLUSTER_TRIM_SEL", 0x100080, [(16, 0x10000)], fun c _ _ =>
    [Reg.CLUSTER_TRIM_SEL_POS c,
     Reg.CLUSTER_TRIM_SEL_INDEX c]⟩,
  ⟨"CLUSTER_TRIM_DATA", 0x100084, [(16, 0x10000)], fun c _ _ =>
    [Reg.CLUSTER_TRIM_DATA_VALUE c]⟩]

/-- Registers of block TILES (Tables 6.8 to 6.18). -/
def rowsTILES : List RegRow := [
  ⟨"BF_CTRL", 0x400000, [], fun _ _ _ =>
    [Reg.BF_CTRL_EXCL_INVALID,
     Reg.BF_CTRL_CORR_LOCK,
     Reg.BF_CTRL_REF_IDX,
     Reg.BF_CTRL_COMMIT]⟩,
  ⟨"BF_ROWMAX", 0x400004, [], fun _ _ _ =>
    [Reg.BF_ROWMAX_ROW_MAX]⟩,
  ⟨"CARRIER_CFG0", 0x400010, [(4, 0x10)], fun c _ _ =>
    [Reg.CARRIER_CFG0_EN c,
     Reg.CARRIER_CFG0_SCS c,
     Reg.CARRIER_CFG0_NFFT c,
     Reg.CARRIER_CFG0_LMAX_DL c,
     Reg.CARRIER_CFG0_LMAX_UL c,
     Reg.CARRIER_CFG0_BFP_DL c,
     Reg.CARRIER_CFG0_BFP_UL c]⟩,
  ⟨"CARRIER_CFG1", 0x400014, [(4, 0x10)], fun c _ _ =>
    [Reg.CARRIER_CFG1_N_PRB c,
     Reg.CARRIER_CFG1_CF_OFS c]⟩,
  ⟨"CARRIER_CFG2", 0x400018, [(4, 0x10)], fun c _ _ =>
    [Reg.CARRIER_CFG2_WIN_ADV c,
     Reg.CARRIER_CFG2_TX_SHIFT c,
     Reg.CARRIER_CFG2_RX_SHIFT c]⟩,
  ⟨"CARRIER_CFG3", 0x40001C, [(4, 0x10)], fun c _ _ =>
    [Reg.CARRIER_CFG3_CL_MASK c]⟩,
  ⟨"WSET_DESC", 0x400100, [(16, 0x4)], fun s _ _ =>
    [Reg.WSET_DESC_EN s,
     Reg.WSET_DESC_DIR s,
     Reg.WSET_DESC_OWNER s,
     Reg.WSET_DESC_PER_SLOT s,
     Reg.WSET_DESC_CARR s,
     Reg.WSET_DESC_GRAN s,
     Reg.WSET_DESC_LCNT s,
     Reg.WSET_DESC_WSTALE_MAX s]⟩,
  ⟨"PRACH_CFG0", 0x400180, [(4, 0x8)], fun p _ _ =>
    [Reg.PRACH_CFG0_EN p,
     Reg.PRACH_CFG0_CARRIER p,
     Reg.PRACH_CFG0_SCS_RA p,
     Reg.PRACH_CFG0_N_REP p,
     Reg.PRACH_CFG0_K_OFS p]⟩,
  ⟨"PRACH_CFG1", 0x400184, [(4, 0x8)], fun p _ _ =>
    [Reg.PRACH_CFG1_CP_LEN p,
     Reg.PRACH_CFG1_START_OFS p]⟩,
  ⟨"SOLVER_CTRL", 0x400200, [], fun _ _ _ =>
    [Reg.SOLVER_CTRL_EN,
     Reg.SOLVER_CTRL_ALPHA,
     Reg.SOLVER_CTRL_SOLVE_SLOTS,
     Reg.SOLVER_CTRL_RECIP_AGE_MAX]⟩,
  ⟨"SOLVE_PORT0", 0x400800, [(4, 0x200), (64, 0x8)], fun j p _ =>
    [Reg.SOLVE_PORT0_LAYER j p,
     Reg.SOLVE_PORT0_CARRIER j p,
     Reg.SOLVE_PORT0_SYM j p,
     Reg.SOLVE_PORT0_COMB j p,
     Reg.SOLVE_PORT0_COMB_OFS j p,
     Reg.SOLVE_PORT0_CS j p,
     Reg.SOLVE_PORT0_VALID j p]⟩,
  ⟨"SOLVE_PORT1", 0x400804, [(4, 0x200), (64, 0x8)], fun j p _ =>
    [Reg.SOLVE_PORT1_PRB_START j p,
     Reg.SOLVE_PORT1_PRB_CNT j p,
     Reg.SOLVE_PORT1_U j p,
     Reg.SOLVE_PORT1_V j p]⟩]

/-- Registers of block TILE (Tables 6.13, 6.16, 6.17, 6.19 to 6.22). -/
def rowsTILE : List RegRow := [
  ⟨"WSET_STATUS", 0x402140, [(4, 0x100000), (16, 0x4)], fun t s _ =>
    [Reg.WSET_STATUS_ACT_VALID t s,
     Reg.WSET_STATUS_SHD_PEND t s,
     Reg.WSET_STATUS_FAIL t s,
     Reg.WSET_STATUS_WSTALE t s,
     Reg.WSET_STATUS_MUTED t s,
     Reg.WSET_STATUS_TBL_NOT_READY t s,
     Reg.WSET_STATUS_FAIL_CODE t s,
     Reg.WSET_STATUS_AGE t s,
     Reg.WSET_STATUS_ACT_SEQ t s]⟩,
  ⟨"SOLVER_STATUS", 0x402204, [(4, 0x100000)], fun t _ _ =>
    [Reg.SOLVER_STATUS_LAST_JOB t,
     Reg.SOLVER_STATUS_RECIP_VALID t,
     Reg.SOLVER_STATUS_BUSY t,
     Reg.SOLVER_STATUS_RESULT t,
     Reg.SOLVER_STATUS_ILLCOND_CNT t,
     Reg.SOLVER_STATUS_RECIP_AGE t]⟩,
  ⟨"BF_COUNT2", 0x402208, [(4, 0x100000)], fun t _ _ =>
    [Reg.BF_COUNT2_LMUTE_CNT t,
     Reg.BF_COUNT2_BFP_ERR_CNT t]⟩,
  ⟨"BF_STATUS", 0x401000, [(4, 0x100000)], fun t _ _ =>
    [Reg.BF_STATUS_FFT_SAT t,
     Reg.BF_STATUS_BF_SAT t,
     Reg.BF_STATUS_RATE_MISMATCH t,
     Reg.BF_STATUS_LCAP t,
     Reg.BF_STATUS_BOND_LIMIT t,
     Reg.BF_STATUS_PRACH_TRUNC t]⟩,
  ⟨"BF_COUNT", 0x401004, [(4, 0x100000)], fun t _ _ =>
    [Reg.BF_COUNT_SAT_CNT t,
     Reg.BF_COUNT_EXCL_CNT t]⟩,
  ⟨"CORR_VALID", 0x401080, [(4, 0x100000)], fun t _ _ =>
    [Reg.CORR_VALID_VALID t]⟩,
  ⟨"UNIT_CORR0", 0x401100, [(4, 0x100000), (32, 0x8)], fun t i _ =>
    [Reg.UNIT_CORR0_TX_PH t i,
     Reg.UNIT_CORR0_RX_PH t i]⟩,
  ⟨"UNIT_CORR1", 0x401104, [(4, 0x100000), (32, 0x8)], fun t i _ =>
    [Reg.UNIT_CORR1_TX_DLY t i,
     Reg.UNIT_CORR1_RX_DLY t i]⟩]

/-- Registers of block CHORUS (Tables 7.14 to 7.23). -/
def rowsCHORUS0 : List RegRow := [
  ⟨"CHORUS_CTRL", 0xA0000, [], fun _ _ _ =>
    [Reg.CHORUS_CTRL_EN,
     Reg.CHORUS_CTRL_ROOT,
     Reg.CHORUS_CTRL_TX_EN,
     Reg.CHORUS_CTRL_TIME_EN,
     Reg.CHORUS_CTRL_PHASE_EN,
     Reg.CHORUS_CTRL_PARENT_VALID,
     Reg.CHORUS_CTRL_REPORT,
     Reg.CHORUS_CTRL_COMMIT]⟩,
  ⟨"CHORUS_UNITS", 0xA0004, [], fun _ _ _ =>
    [Reg.CHORUS_UNITS_DES_UNIT,
     Reg.CHORUS_UNITS_ALT_EN,
     Reg.CHORUS_UNITS_ALT_UNIT,
     Reg.CHORUS_UNITS_LEVEL,
     Reg.CHORUS_UNITS_PARENT_LOSS]⟩,
  ⟨"CHORUS_PARENT", 0xA0008, [(2, 0x4)], fun k _ _ =>
    [Reg.CHORUS_PARENT_PARENT0 k,
     Reg.CHORUS_PARENT_PARENT1 k]⟩,
  ⟨"CHORUS_RXCFG", 0xA0010, [], fun _ _ _ =>
    [Reg.CHORUS_RXCFG_DET_THR,
     Reg.CHORUS_RXCFG_CAPTURE_DB,
     Reg.CHORUS_RXCFG_CH_IDX0,
     Reg.CHORUS_RXCFG_PAIR_SPAN,
     Reg.CHORUS_RXCFG_PH_GAIN]⟩,
  ⟨"CHORUS_STATUS", 0xA0020, [], fun _ _ _ =>
    [Reg.CHORUS_STATUS_STATE,
     Reg.CHORUS_STATUS_ACTIVE_UNIT,
     Reg.CHORUS_STATUS_ALT_IN_USE,
     Reg.CHORUS_STATUS_ASYM_VALID,
     Reg.CHORUS_STATUS_PARENT_OK,
     Reg.CHORUS_STATUS_PLAN_ERR,
     Reg.CHORUS_STATUS_CORR_HELD]⟩,
  ⟨"CHORUS_COUNT0", 0xA0024, [], fun _ _ _ =>
    [Reg.CHORUS_COUNT0_RX_OK,
     Reg.CHORUS_COUNT0_HDR_FAIL]⟩,
  ⟨"CHORUS_COUNT1", 0xA0028, [], fun _ _ _ =>
    [Reg.CHORUS_COUNT1_PAY_FAIL,
     Reg.CHORUS_COUNT1_PREEMPTED,
     Reg.CHORUS_COUNT1_SHORT_PRE,
     Reg.CHORUS_COUNT1_NOT_SENT]⟩,
  ⟨"CHORUS_COUNT2", 0xA002C, [], fun _ _ _ =>
    [Reg.CHORUS_COUNT2_TX_SENT,
     Reg.CHORUS_COUNT2_SELF_IGN,
     Reg.CHORUS_COUNT2_NO_REF,
     Reg.CHORUS_COUNT2_OVERLAP,
     Reg.CHORUS_COUNT2_STAGE_SKIP]⟩,
  ⟨"CHORUS_RESP_TAG", 0xA0030, [], fun _ _ _ =>
    [Reg.CHORUS_RESP_TAG_TAG]⟩,
  ⟨"CHORUS_RESP_SRC", 0xA0034, [], fun _ _ _ =>
    [Reg.CHORUS_RESP_SRC_SRC_ID,
     Reg.CHORUS_RESP_SRC_SELF,
     Reg.CHORUS_RESP_SRC_TX_UNIT]⟩,
  ⟨"CHORUS_PSI", 0xA0040, [], fun _ _ _ =>
    [Reg.CHORUS_PSI_PSI]⟩,
  ⟨"CHORUS_ASYM_T", 0xA0044, [], fun _ _ _ =>
    [Reg.CHORUS_ASYM_T_DELTA]⟩]

/-- Registers of block CHORUS (Tables 7.14 to 7.23). -/
def rowsCHORUS1 : List RegRow := [
  ⟨"CHORUS_ASYM_P", 0xA0048, [], fun _ _ _ =>
    [Reg.CHORUS_ASYM_P_GAMMA,
     Reg.CHORUS_ASYM_P_VALID]⟩,
  ⟨"CHORUS_TOFS", 0xA004C, [], fun _ _ _ =>
    [Reg.CHORUS_TOFS_TOFS]⟩,
  ⟨"CHORUS_PEER0", 0xA1000, [(64, 0x20)], fun i _ _ =>
    [Reg.CHORUS_PEER0_PEER_ID i,
     Reg.CHORUS_PEER0_VALID i,
     Reg.CHORUS_PEER0_PARENT i,
     Reg.CHORUS_PEER0_PAIRED i]⟩,
  ⟨"CHORUS_PEER1", 0xA1004, [(64, 0x20)], fun i _ _ =>
    [Reg.CHORUS_PEER1_LAST_TAG i]⟩,
  ⟨"CHORUS_PEER2", 0xA1008, [(64, 0x20)], fun i _ _ =>
    [Reg.CHORUS_PEER2_ARR i]⟩,
  ⟨"CHORUS_PEER3", 0xA100C, [(64, 0x20)], fun i _ _ =>
    [Reg.CHORUS_PEER3_OFS i]⟩,
  ⟨"CHORUS_PEER4", 0xA1010, [(64, 0x20)], fun i _ _ =>
    [Reg.CHORUS_PEER4_PHO i,
     Reg.CHORUS_PEER4_PHASE i]⟩,
  ⟨"CHORUS_PEER5", 0xA1014, [(64, 0x20)], fun i _ _ =>
    [Reg.CHORUS_PEER5_FREQ i]⟩,
  ⟨"CHORUS_PEER6", 0xA1018, [(64, 0x20)], fun i _ _ =>
    [Reg.CHORUS_PEER6_CORR i]⟩,
  ⟨"CHORUS_PEER7", 0xA101C, [(64, 0x20)], fun i _ _ =>
    [Reg.CHORUS_PEER7_HRT i]⟩,
  ⟨"CHORUS_RESP0", 0xA2000, [(128, 0x8)], fun u _ _ =>
    [Reg.CHORUS_RESP0_RE u,
     Reg.CHORUS_RESP0_IM u]⟩,
  ⟨"CHORUS_RESP1", 0xA2004, [(128, 0x8)], fun u _ _ =>
    [Reg.CHORUS_RESP1_DLY u,
     Reg.CHORUS_RESP1_TAG u,
     Reg.CHORUS_RESP1_USED u]⟩]

/-- Registers of block NEWT (Tables 9.10 to 9.17). -/
def rowsNEWT : List RegRow := [
  ⟨"NEWT_STATUS", 0x840000, [(8, 0x100000)], fun n _ _ =>
    [Reg.NEWT_STATUS_VSTATE n,
     Reg.NEWT_STATUS_FALLBACK n,
     Reg.NEWT_STATUS_HB_OK n,
     Reg.NEWT_STATUS_USTATE n,
     Reg.NEWT_STATUS_FW_VER n]⟩,
  ⟨"NEWT_USER_CTRL", 0x840004, [(8, 0x100000)], fun n _ _ =>
    [Reg.NEWT_USER_CTRL_START n,
     Reg.NEWT_USER_CTRL_STOP n,
     Reg.NEWT_USER_CTRL_TRIG n,
     Reg.NEWT_USER_CTRL_AUTO_START n,
     Reg.NEWT_USER_CTRL_SHARE n,
     Reg.NEWT_USER_CTRL_TRIG_EN n]⟩,
  ⟨"NEWT_USER_LIMIT", 0x840008, [(8, 0x100000)], fun n _ _ =>
    [Reg.NEWT_USER_LIMIT_MAXCYC n]⟩,
  ⟨"NEWT_USER_PERIOD", 0x84000C, [(8, 0x100000)], fun n _ _ =>
    [Reg.NEWT_USER_PERIOD_PERIOD n]⟩,
  ⟨"NEWT_USER_FAULT", 0x840010, [(8, 0x100000)], fun n _ _ =>
    [Reg.NEWT_USER_FAULT_CODE n,
     Reg.NEWT_USER_FAULT_FAULT_PC n]⟩,
  ⟨"NEWT_USER_COUNT", 0x840014, [(8, 0x100000)], fun n _ _ =>
    [Reg.NEWT_USER_COUNT_RUNS n,
     Reg.NEWT_USER_COUNT_OVERRUN n]⟩,
  ⟨"NEWT_LOAD", 0x840018, [(8, 0x100000)], fun n _ _ =>
    [Reg.NEWT_LOAD_VLOAD n,
     Reg.NEWT_LOAD_ULOAD n,
     Reg.NEWT_LOAD_CONFLICT n]⟩,
  ⟨"NEWT_HOST", 0x840020, [(8, 0x100000)], fun n _ _ =>
    [Reg.NEWT_HOST_RM_PAGE n]⟩]

/-- Registers of block LINK (Tables 10.8 to 10.17). -/
def rowsLINK : List RegRow := [
  ⟨"LINK_CTRL", 0x80000, [(4, 0x4000)], fun p _ _ =>
    [Reg.LINK_CTRL_EN p,
     Reg.LINK_CTRL_RATE p,
     Reg.LINK_CTRL_FALLBACK p,
     Reg.LINK_CTRL_LANE_EN p,
     Reg.LINK_CTRL_TX_POL p,
     Reg.LINK_CTRL_RX_POL p,
     Reg.LINK_CTRL_EQ_FREEZE p,
     Reg.LINK_CTRL_AUTO_WIDEN p,
     Reg.LINK_CTRL_RETRAIN p]⟩,
  ⟨"LINK_CFG", 0x80004, [(4, 0x4000)], fun p _ _ =>
    [Reg.LINK_CFG_TX_PRESET p,
     Reg.LINK_CFG_BOND p,
     Reg.LINK_CFG_UPLOSS_HOLD p]⟩,
  ⟨"LINK_STATUS", 0x80008, [(4, 0x4000)], fun p _ _ =>
    [Reg.LINK_STATUS_STATE p,
     Reg.LINK_STATUS_WIDTH p,
     Reg.LINK_STATUS_GROUP p,
     Reg.LINK_STATUS_RATE_ACT p,
     Reg.LINK_STATUS_BACKUP p,
     Reg.LINK_STATUS_NO_PARTNER p,
     Reg.LINK_STATUS_DEGRADED p,
     Reg.LINK_STATUS_ACTIVE_UP p,
     Reg.LINK_STATUS_BOND_OK p,
     Reg.LINK_STATUS_BACKOFF_MS p]⟩,
  ⟨"LINK_LANE_STATE", 0x8000C, [(4, 0x4000)], fun p _ _ =>
    [Reg.LINK_LANE_STATE_LANE_0 p,
     Reg.LINK_LANE_STATE_LANE_1 p,
     Reg.LINK_LANE_STATE_LANE_2 p,
     Reg.LINK_LANE_STATE_LANE_3 p,
     Reg.LINK_LANE_STATE_LANE_4 p,
     Reg.LINK_LANE_STATE_LANE_5 p,
     Reg.LINK_LANE_STATE_LANE_6 p,
     Reg.LINK_LANE_STATE_LANE_7 p]⟩,
  ⟨"LINK_PARTNER", 0x80010, [(4, 0x4000)], fun p _ _ =>
    [Reg.LINK_PARTNER_DEVICE_ID p,
     Reg.LINK_PARTNER_RX_GOOD p,
     Reg.LINK_PARTNER_FLAGS p,
     Reg.LINK_PARTNER_VALID p]⟩,
  ⟨"LINK_COUNT", 0x80014, [(4, 0x4000)], fun p _ _ =>
    [Reg.LINK_COUNT_DOWN_CNT p,
     Reg.LINK_COUNT_LANE_LOST_CNT p]⟩,
  ⟨"LINK_LANE_ERR", 0x80040, [(4, 0x4000), (8, 0x4)], fun p l _ =>
    [Reg.LINK_LANE_ERR_BAD_MARKER p l,
     Reg.LINK_LANE_ERR_STUFF_CNT p l,
     Reg.LINK_LANE_ERR_LOS_CNT p l]⟩,
  ⟨"LINK_EQ", 0x80080, [(4, 0x4000), (8, 0x4)], fun p l _ =>
    [Reg.LINK_EQ_CTLE p l,
     Reg.LINK_EQ_DFE1 p l,
     Reg.LINK_EQ_DFE2 p l,
     Reg.LINK_EQ_DFE3 p l,
     Reg.LINK_EQ_CONV p l]⟩,
  ⟨"LINK_EYE_CTRL", 0x80100, [(4, 0x4000)], fun p _ _ =>
    [Reg.LINK_EYE_CTRL_LANE p,
     Reg.LINK_EYE_CTRL_MODE p,
     Reg.LINK_EYE_CTRL_PHASE p,
     Reg.LINK_EYE_CTRL_VOLT p,
     Reg.LINK_EYE_CTRL_DWELL p,
     Reg.LINK_EYE_CTRL_BUSY p,
     Reg.LINK_EYE_CTRL_ABORT p,
     Reg.LINK_EYE_CTRL_REFUSED p,
     Reg.LINK_EYE_CTRL_GO p]⟩,
  ⟨"LINK_EYE_RESULT", 0x80104, [(4, 0x4000)], fun p _ _ =>
    [Reg.LINK_EYE_RESULT_ERRORS p]⟩,
  ⟨"LINK_EYE_SUMMARY", 0x80108, [(4, 0x4000)], fun p _ _ =>
    [Reg.LINK_EYE_SUMMARY_LEFT p,
     Reg.LINK_EYE_SUMMARY_RIGHT p,
     Reg.LINK_EYE_SUMMARY_TOP p,
     Reg.LINK_EYE_SUMMARY_BOTTOM p]⟩]

/-- Registers of block POOL (Tables 11.10 to 11.17). -/
def rowsPOOL : List RegRow := [
  ⟨"POOL_CTRL", 0x90000, [], fun _ _ _ =>
    [Reg.POOL_CTRL_COMMIT,
     Reg.POOL_CTRL_EVT_PUSH,
     Reg.POOL_CTRL_UL_AGE_MAX]⟩,
  ⟨"POOL_DEVID", 0x90004, [], fun _ _ _ =>
    [Reg.POOL_DEVID_DEV_ID]⟩,
  ⟨"POOL_ROUTE", 0x90008, [(2, 0x4)], fun k _ _ =>
    [Reg.POOL_ROUTE_LO k,
     Reg.POOL_ROUTE_HI k]⟩,
  ⟨"POOL_STATUS", 0x90010, [], fun _ _ _ =>
    [Reg.POOL_STATUS_FREE,
     Reg.POOL_STATUS_EVT_LOST,
     Reg.POOL_STATUS_EVT_QUEUED]⟩,
  ⟨"POOL_COUNT", 0x90014, [], fun _ _ _ =>
    [Reg.POOL_COUNT_DL_LATE,
     Reg.POOL_COUNT_DL_INCOMPLETE]⟩,
  ⟨"POOL_COUNT2", 0x90018, [], fun _ _ _ =>
    [Reg.POOL_COUNT2_DL_UNCLAIMED,
     Reg.POOL_COUNT2_DL_EARLY]⟩,
  ⟨"POOL_ERR", 0x90020, [(4, 0x4)], fun p _ _ =>
    [Reg.POOL_ERR_HDR_ERR p,
     Reg.POOL_ERR_CRC_ERR p,
     Reg.POOL_ERR_SEQ_GAP p,
     Reg.POOL_ERR_FWD_DROP p]⟩,
  ⟨"POOL_RSV", 0x90100, [(16, 0x4)], fun s _ _ =>
    [Reg.POOL_RSV_RSV s,
     Reg.POOL_RSV_MAX s]⟩,
  ⟨"POOL_USE", 0x90140, [(16, 0x4)], fun s _ _ =>
    [Reg.POOL_USE_USED s,
     Reg.POOL_USE_DROP s]⟩]

/-- Registers of block TIME (Tables 12.4 to 12.13). -/
def rowsTIME0 : List RegRow := [
  ⟨"TIME_CTRL", 0x40000, [], fun _ _ _ =>
    [Reg.TIME_CTRL_COMMIT,
     Reg.TIME_CTRL_SNAP,
     Reg.TIME_CTRL_CLR_SUSPECT_A,
     Reg.TIME_CTRL_CLR_SUSPECT_B,
     Reg.TIME_CTRL_CLASS_MAX,
     Reg.TIME_CTRL_REVERT,
     Reg.TIME_CTRL_STEP_HOLD]⟩,
  ⟨"TIME_DOMAIN", 0x40004, [], fun _ _ _ =>
    [Reg.TIME_DOMAIN_DOMAIN_A,
     Reg.TIME_DOMAIN_DOMAIN_B,
     Reg.TIME_DOMAIN_EN_A,
     Reg.TIME_DOMAIN_EN_B,
     Reg.TIME_DOMAIN_PREF]⟩,
  ⟨"TIME_SERVO", 0x40008, [], fun _ _ _ =>
    [Reg.TIME_SERVO_BW_PTP,
     Reg.TIME_SERVO_BW_CH,
     Reg.TIME_SERVO_LOCK_THR,
     Reg.TIME_SERVO_ASYM_STEP,
     Reg.TIME_SERVO_SLEW_MAX,
     Reg.TIME_SERVO_STEP_THR]⟩,
  ⟨"TIME_STATUS", 0x4000C, [], fun _ _ _ =>
    [Reg.TIME_STATUS_STATE,
     Reg.TIME_STATUS_SRC,
     Reg.TIME_STATUS_SEL,
     Reg.TIME_STATUS_VALID_A,
     Reg.TIME_STATUS_VALID_B,
     Reg.TIME_STATUS_SUSPECT_A,
     Reg.TIME_STATUS_SUSPECT_B,
     Reg.TIME_STATUS_STEP_HELD,
     Reg.TIME_STATUS_IN_LOST]⟩,
  ⟨"TIME_SNAP0", 0x40010, [], fun _ _ _ =>
    [Reg.TIME_SNAP0_SEC_HI]⟩,
  ⟨"TIME_SNAP1", 0x40014, [], fun _ _ _ =>
    [Reg.TIME_SNAP1_SEC_LO]⟩,
  ⟨"TIME_SNAP2", 0x40018, [], fun _ _ _ =>
    [Reg.TIME_SNAP2_NS]⟩,
  ⟨"TIME_SNAP3", 0x4001C, [], fun _ _ _ =>
    [Reg.TIME_SNAP3_FRAC]⟩,
  ⟨"TIME_OFS", 0x40020, [(2, 0x4)], fun d _ _ =>
    [Reg.TIME_OFS_OFS d]⟩,
  ⟨"TIME_DLY", 0x40028, [(2, 0x4)], fun d _ _ =>
    [Reg.TIME_DLY_DLY d]⟩,
  ⟨"TIME_STEER", 0x40030, [], fun _ _ _ =>
    [Reg.TIME_STEER_STEER]⟩,
  ⟨"TIME_HOLD", 0x40034, [], fun _ _ _ =>
    [Reg.TIME_HOLD_DRIFT,
     Reg.TIME_HOLD_HOLD_ERR]⟩]

/-- Registers of block TIME (Tables 12.4 to 12.13). -/
def rowsTIME1 : List RegRow := [
  ⟨"TIME_PORT_LAT", 0x40040, [(4, 0x4)], fun p _ _ =>
    [Reg.TIME_PORT_LAT_LAT_IN p,
     Reg.TIME_PORT_LAT_LAT_OUT p]⟩,
  ⟨"TIME_ASYM", 0x40050, [(2, 0x4)], fun p _ _ =>
    [Reg.TIME_ASYM_ASYM p]⟩,
  ⟨"TIME_PPS", 0x40060, [], fun _ _ _ =>
    [Reg.TIME_PPS_OUT_EN,
     Reg.TIME_PPS_IN_EN,
     Reg.TIME_PPS_IN_SRC_EN,
     Reg.TIME_PPS_WIDTH,
     Reg.TIME_PPS_OUT_OFS]⟩,
  ⟨"TIME_PPS_IN", 0x40064, [], fun _ _ _ =>
    [Reg.TIME_PPS_IN_PPS_IN]⟩,
  ⟨"TIME_TILE_PH", 0x40070, [(4, 0x4)], fun t _ _ =>
    [Reg.TIME_TILE_PH_TILE_PH t]⟩,
  ⟨"TIME_COUNT", 0x40080, [], fun _ _ _ =>
    [Reg.TIME_COUNT_OUTLIER_A,
     Reg.TIME_COUNT_OUTLIER_B,
     Reg.TIME_COUNT_MSG_ERR]⟩]

/-- Registers of block CAP (Table 13.6). -/
def rowsCAP : List RegRow := [
  ⟨"CAP_CTRL", 0x70000, [], fun _ _ _ =>
    [Reg.CAP_CTRL_SKEW_GO,
     Reg.CAP_CTRL_SKEW_BUSY,
     Reg.CAP_CTRL_SKEW_OK]⟩,
  ⟨"CAP_BW", 0x70004, [], fun _ _ _ =>
    [Reg.CAP_BW_BW_USED]⟩]

/-- Registers of block CAPCH (Tables 13.7 to 13.15). -/
def rowsCAPCH0 : List RegRow := [
  ⟨"CAP_CH_CTRL", 0x71000, [(16, 0x40)], fun n _ _ =>
    [Reg.CAP_CH_CTRL_ARM n,
     Reg.CAP_CH_CTRL_STOP n,
     Reg.CAP_CH_CTRL_FORCE n,
     Reg.CAP_CH_CTRL_MODE n,
     Reg.CAP_CH_CTRL_AUTO_EN n,
     Reg.CAP_CH_CTRL_WRAP n,
     Reg.CAP_CH_CTRL_FMT n,
     Reg.CAP_CH_CTRL_RAW_EN n,
     Reg.CAP_CH_CTRL_HOLD_MODE n]⟩,
  ⟨"CAP_CH_SRC", 0x71004, [(16, 0x40)], fun n _ _ =>
    [Reg.CAP_CH_SRC_KIND n,
     Reg.CAP_CH_SRC_INDEX n]⟩,
  ⟨"CAP_CH_TRIG", 0x71008, [(16, 0x40)], fun n _ _ =>
    [Reg.CAP_CH_TRIG_TSRC n,
     Reg.CAP_CH_TRIG_EDGE n,
     Reg.CAP_CH_TRIG_TINDEX n]⟩,
  ⟨"CAP_CH_TRIG_ARG", 0x7100C, [(16, 0x40)], fun n _ _ =>
    [Reg.CAP_CH_TRIG_ARG_ARG n]⟩,
  ⟨"CAP_CH_TRIG_ARG2", 0x71010, [(16, 0x40)], fun n _ _ =>
    [Reg.CAP_CH_TRIG_ARG2_ARG2 n]⟩,
  ⟨"CAP_CH_HOLD", 0x71014, [(16, 0x40)], fun n _ _ =>
    [Reg.CAP_CH_HOLD_HOLD n]⟩,
  ⟨"CAP_CH_AUTO", 0x71018, [(16, 0x40)], fun n _ _ =>
    [Reg.CAP_CH_AUTO_AUTO_TO n]⟩,
  ⟨"CAP_CH_LEN", 0x7101C, [(16, 0x40)], fun n _ _ =>
    [Reg.CAP_CH_LEN_PRE n,
     Reg.CAP_CH_LEN_POST n]⟩,
  ⟨"CAP_CH_SEGS", 0x71020, [(16, 0x40)], fun n _ _ =>
    [Reg.CAP_CH_SEGS_SEGS n]⟩,
  ⟨"CAP_CH_BASE", 0x71024, [(16, 0x40)], fun n _ _ =>
    [Reg.CAP_CH_BASE_BASE n]⟩,
  ⟨"CAP_CH_AREA", 0x71028, [(16, 0x40)], fun n _ _ =>
    [Reg.CAP_CH_AREA_LEN n]⟩,
  ⟨"CAP_CH_RED", 0x7102C, [(16, 0x40)], fun n _ _ =>
    [Reg.CAP_CH_RED_TYPE_0 n,
     Reg.CAP_CH_RED_TYPE_1 n,
     Reg.CAP_CH_RED_TYPE_2 n,
     Reg.CAP_CH_RED_TYPE_3 n,
     Reg.CAP_CH_RED_LOG2K_0 n,
     Reg.CAP_CH_RED_LOG2K_1 n,
     Reg.CAP_CH_RED_LOG2K_2 n,
     Reg.CAP_CH_RED_LOG2K_3 n]⟩]

/-- Registers of block CAPCH (Tables 13.7 to 13.15). -/
def rowsCAPCH1 : List RegRow := [
  ⟨"CAP_CH_STATUS", 0x71030, [(16, 0x40)], fun n _ _ =>
    [Reg.CAP_CH_STATUS_STATE n,
     Reg.CAP_CH_STATUS_ARM_REJ n,
     Reg.CAP_CH_STATUS_CAUSE n,
     Reg.CAP_CH_STATUS_TRUNC n,
     Reg.CAP_CH_STATUS_STAGE n]⟩,
  ⟨"CAP_CH_PROG", 0x71034, [(16, 0x40)], fun n _ _ =>
    [Reg.CAP_CH_PROG_PROG n]⟩,
  ⟨"CAP_CH_COUNT", 0x71038, [(16, 0x40)], fun n _ _ =>
    [Reg.CAP_CH_COUNT_MISSED n,
     Reg.CAP_CH_COUNT_TRUNC_CNT n]⟩,
  ⟨"CAP_CH_SKEW", 0x7103C, [(16, 0x40)], fun n _ _ =>
    [Reg.CAP_CH_SKEW_SKEW n]⟩]

/-- Registers of block DMA (Table 14.8). -/
def rowsDMA : List RegRow := [
  ⟨"DMA_MEM_STATUS", 0x60000, [], fun _ _ _ =>
    [Reg.DMA_MEM_STATUS_READY,
     Reg.DMA_MEM_STATUS_SELF_REFRESH,
     Reg.DMA_MEM_STATUS_UE,
     Reg.DMA_MEM_STATUS_CE_CNT]⟩,
  ⟨"DMA_MEM_UE_ADDR", 0x60004, [], fun _ _ _ =>
    [Reg.DMA_MEM_UE_ADDR_UE_ADDR]⟩]

/-- Registers of block DMACH (Tables 14.9 to 14.12). -/
def rowsDMACH : List RegRow := [
  ⟨"DMA_CH_CTRL", 0x61000, [(16, 0x40)], fun n _ _ =>
    [Reg.DMA_CH_CTRL_START n,
     Reg.DMA_CH_CTRL_FROM_CUR n,
     Reg.DMA_CH_CTRL_PAUSE n,
     Reg.DMA_CH_CTRL_ABORT n,
     Reg.DMA_CH_CTRL_DOORBELL n,
     Reg.DMA_CH_CTRL_PRIO n]⟩,
  ⟨"DMA_CH_STATUS", 0x61004, [(16, 0x40)], fun n _ _ =>
    [Reg.DMA_CH_STATUS_STATE n,
     Reg.DMA_CH_STATUS_ERR n,
     Reg.DMA_CH_STATUS_DOMAIN_LOST n,
     Reg.DMA_CH_STATUS_REFUSED n]⟩,
  ⟨"DMA_CH_RING_LO", 0x61008, [(16, 0x40)], fun n _ _ =>
    [Reg.DMA_CH_RING_LO_BASE_LO n]⟩,
  ⟨"DMA_CH_RING_HI", 0x6100C, [(16, 0x40)], fun n _ _ =>
    [Reg.DMA_CH_RING_HI_BASE_HI n,
     Reg.DMA_CH_RING_HI_RLEN n]⟩,
  ⟨"DMA_CH_CUR_LO", 0x61010, [(16, 0x40)], fun n _ _ =>
    [Reg.DMA_CH_CUR_LO_CUR_LO n]⟩,
  ⟨"DMA_CH_CUR_HI", 0x61014, [(16, 0x40)], fun n _ _ =>
    [Reg.DMA_CH_CUR_HI_CUR_HI n]⟩,
  ⟨"DMA_CH_ERR_LO", 0x61018, [(16, 0x40)], fun n _ _ =>
    [Reg.DMA_CH_ERR_LO_ERR_LO n]⟩,
  ⟨"DMA_CH_ERR_HI", 0x6101C, [(16, 0x40)], fun n _ _ =>
    [Reg.DMA_CH_ERR_HI_ERR_HI n]⟩,
  ⟨"DMA_CH_DONE", 0x61020, [(16, 0x40)], fun n _ _ =>
    [Reg.DMA_CH_DONE_DONE n]⟩,
  ⟨"DMA_CH_COUNT", 0x61024, [(16, 0x40)], fun n _ _ =>
    [Reg.DMA_CH_COUNT_COUNT n]⟩,
  ⟨"DMA_CH_BUDGET", 0x61028, [(16, 0x40)], fun n _ _ =>
    [Reg.DMA_CH_BUDGET_BUDGET n]⟩]

/-- Registers of block HK (Tables 15.4 to 15.13). -/
def rowsHK0 : List RegRow := [
  ⟨"HK_CTRL", 0x30000, [], fun _ _ _ =>
    [Reg.HK_CTRL_COMMIT,
     Reg.HK_CTRL_APD_A,
     Reg.HK_CTRL_APD_B,
     Reg.HK_CTRL_SELFTEST,
     Reg.HK_CTRL_XCHK_TOL,
     Reg.HK_CTRL_TDAC_CODE,
     Reg.HK_CTRL_TDAC_OUT]⟩,
  ⟨"HK_STATUS", 0x30004, [], fun _ _ _ =>
    [Reg.HK_STATUS_STATE_A,
     Reg.HK_STATUS_STATE_B,
     Reg.HK_STATUS_XCHK_FAIL,
     Reg.HK_STATUS_SELFTEST_BUSY,
     Reg.HK_STATUS_REFUSED]⟩,
  ⟨"HK_SEQ", 0x30010, [(2, 0x10), (4, 0x4)], fun k s _ =>
    [Reg.HK_SEQ_EN k s,
     Reg.HK_SEQ_GO k s,
     Reg.HK_SEQ_TRIG k s,
     Reg.HK_SEQ_ALIGN k s,
     Reg.HK_SEQ_OVERRUN k s,
     Reg.HK_SEQ_BUSY k s,
     Reg.HK_SEQ_LEN k s,
     Reg.HK_SEQ_PERIOD k s]⟩,
  ⟨"HK_ENTRY0", 0x30100, [(2, 0x200), (4, 0x80), (16, 0x8)], fun k s e =>
    [Reg.HK_ENTRY0_MUX k s e,
     Reg.HK_ENTRY0_RANGE k s e,
     Reg.HK_ENTRY0_ST k s e,
     Reg.HK_ENTRY0_AVG k s e,
     Reg.HK_ENTRY0_LIM_EN k s e]⟩,
  ⟨"HK_ENTRY1", 0x30104, [(2, 0x200), (4, 0x80), (16, 0x8)], fun k s e =>
    [Reg.HK_ENTRY1_LO k s e,
     Reg.HK_ENTRY1_HI k s e]⟩,
  ⟨"HK_RESULT", 0x30500, [(2, 0x100), (4, 0x40), (16, 0x4)], fun k s e =>
    [Reg.HK_RESULT_VALUE k s e,
     Reg.HK_RESULT_OOR k s e,
     Reg.HK_RESULT_LIMIT k s e,
     Reg.HK_RESULT_FRESH k s e,
     Reg.HK_RESULT_MUX k s e]⟩,
  ⟨"BIAS_CFG0", 0x31000, [(32, 0x8)], fun i _ _ =>
    [Reg.BIAS_CFG0_CODE i,
     Reg.BIAS_CFG0_RANGE i,
     Reg.BIAS_CFG0_RAMP i,
     Reg.BIAS_CFG0_SINE_EN i,
     Reg.BIAS_CFG0_FAULT_ACT i]⟩,
  ⟨"BIAS_CFG1", 0x31004, [(32, 0x8)], fun i _ _ =>
    [Reg.BIAS_CFG1_AMP i,
     Reg.BIAS_CFG1_FREQ i]⟩,
  ⟨"BIAS_STATUS", 0x31200, [(32, 0x4)], fun i _ _ =>
    [Reg.BIAS_STATUS_READBACK i,
     Reg.BIAS_STATUS_STATE i,
     Reg.BIAS_STATUS_FAULT i,
     Reg.BIAS_STATUS_ILIM i,
     Reg.BIAS_STATUS_RANGE_ACT i]⟩,
  ⟨"PWM_DUTY", 0x32000, [(128, 0x4)], fun u _ _ =>
    [Reg.PWM_DUTY_DUTY u,
     Reg.PWM_DUTY_FAULT u,
     Reg.PWM_DUTY_ZERO u]⟩,
  ⟨"THERM_CTRL", 0x33000, [], fun _ _ _ =>
    [Reg.THERM_CTRL_GRACE]⟩,
  ⟨"THERM_STATUS", 0x33004, [], fun _ _ _ =>
    [Reg.THERM_STATUS_LEVEL,
     Reg.THERM_STATUS_STEP,
     Reg.THERM_STATUS_HOT,
     Reg.THERM_STATUS_TJ]⟩]

/-- Registers of block HK (Tables 15.4 to 15.13). -/
def rowsHK1 : List RegRow := [
  ⟨"THERM_SENSOR", 0x33100, [(22, 0x4)], fun i _ _ =>
    [Reg.THERM_SENSOR_TEMP i,
     Reg.THERM_SENSOR_VALID i,
     Reg.THERM_SENSOR_FAILED i]⟩]

/-- Registers of block PWR (Tables 16.10 to 16.17). -/
def rowsPWR : List RegRow := [
  ⟨"PWR_STATUS", 0x20000, [], fun _ _ _ =>
    [Reg.PWR_STATUS_STAGE,
     Reg.PWR_STATUS_VOTE,
     Reg.PWR_STATUS_SLEEP_PEND,
     Reg.PWR_STATUS_LIMIT,
     Reg.PWR_STATUS_WAKE_LATE]⟩,
  ⟨"PWR_SLEEP", 0x20004, [], fun _ _ _ =>
    [Reg.PWR_SLEEP_CANCEL,
     Reg.PWR_SLEEP_SLEEP_REFUSED,
     Reg.PWR_SLEEP_SLEEP_CNT]⟩,
  ⟨"PWR_IDLE", 0x20008, [], fun _ _ _ =>
    [Reg.PWR_IDLE_UNIT_IDLE,
     Reg.PWR_IDLE_REGION_IDLE,
     Reg.PWR_IDLE_TILE_IDLE,
     Reg.PWR_IDLE_MEM_IDLE]⟩,
  ⟨"PWR_SENT", 0x20010, [], fun _ _ _ =>
    [Reg.PWR_SENT_SENT_CLUSTER,
     Reg.PWR_SENT_SENT_UNITS,
     Reg.PWR_SENT_SENT_IDX,
     Reg.PWR_SENT_SENT_HITS,
     Reg.PWR_SENT_SENT_PERIOD]⟩,
  ⟨"PWR_SENT2", 0x20014, [], fun _ _ _ =>
    [Reg.PWR_SENT2_SENT_THR,
     Reg.PWR_SENT2_SENT_WIN]⟩,
  ⟨"PWR_BRUM", 0x20018, [], fun _ _ _ =>
    [Reg.PWR_BRUM_BRUM_TIMER,
     Reg.PWR_BRUM_WAKE_PIN_EN]⟩,
  ⟨"PWR_AVS", 0x20040, [(5, 0x4)], fun r _ _ =>
    [Reg.PWR_AVS_EN r,
     Reg.PWR_AVS_AVS_LO r,
     Reg.PWR_AVS_AVS_HI r,
     Reg.PWR_AVS_TARGET r,
     Reg.PWR_AVS_NAK_CNT r]⟩,
  ⟨"PWR_DOM", 0x20100, [(20, 0x4)], fun d _ _ =>
    [Reg.PWR_DOM_STATE d,
     Reg.PWR_DOM_FAILED d,
     Reg.PWR_DOM_FAIL_STEP d]⟩,
  ⟨"PWR_RES_MODE", 0x20200, [(8, 0x4)], fun m _ _ =>
    [Reg.PWR_RES_MODE_RES m]⟩,
  ⟨"PWR_RES_REGION", 0x20220, [(8, 0x4)], fun g _ _ =>
    [Reg.PWR_RES_REGION_RES g]⟩,
  ⟨"PWR_TXGATE", 0x20240, [(8, 0x4)], fun g _ _ =>
    [Reg.PWR_TXGATE_TXGATE g]⟩,
  ⟨"PWR_RES_CLR", 0x20260, [], fun _ _ _ =>
    [Reg.PWR_RES_CLR_CLR]⟩]

/-- Registers of block SEC (Tables 17.6 to 17.10). -/
def rowsSEC : List RegRow := [
  ⟨"SEC_STATUS", 0xB0000, [], fun _ _ _ =>
    [Reg.SEC_STATUS_APPROVED,
     Reg.SEC_STATUS_STATE,
     Reg.SEC_STATUS_DBG_UNLOCKED,
     Reg.SEC_STATUS_SLOTS,
     Reg.SEC_STATUS_LOCKED]⟩,
  ⟨"SEC_MB_CTRL", 0xB0004, [], fun _ _ _ =>
    [Reg.SEC_MB_CTRL_SERVICE,
     Reg.SEC_MB_CTRL_LEN,
     Reg.SEC_MB_CTRL_BUSY,
     Reg.SEC_MB_CTRL_GO]⟩,
  ⟨"SEC_MB_RESULT", 0xB0008, [], fun _ _ _ =>
    [Reg.SEC_MB_RESULT_STATUS,
     Reg.SEC_MB_RESULT_RLEN,
     Reg.SEC_MB_RESULT_ROLE,
     Reg.SEC_MB_RESULT_APPROVED]⟩,
  ⟨"SEC_COUNT", 0xB000C, [], fun _ _ _ =>
    [Reg.SEC_COUNT_AUTH_FAIL_CNT]⟩,
  ⟨"SEC_TAMPER", 0xB0010, [], fun _ _ _ =>
    [Reg.SEC_TAMPER_CAUSE,
     Reg.SEC_TAMPER_ZEROISED]⟩,
  ⟨"SEC_MIN_VER", 0xB0014, [], fun _ _ _ =>
    [Reg.SEC_MIN_VER_MIN_VER]⟩,
  ⟨"SEC_MB_REQ", 0xB0400, [(256, 0x4)], fun i _ _ =>
    [Reg.SEC_MB_REQ_REQ i]⟩,
  ⟨"SEC_MB_RSP", 0xB0800, [(256, 0x4)], fun i _ _ =>
    [Reg.SEC_MB_RSP_RSP i]⟩]

end RegRow

/-- Every register of the register tables. -/
def regRows : List RegRow :=
  RegRow.rowsGLOBAL ++
  RegRow.rowsRB ++
  RegRow.rowsUNIT0 ++
  RegRow.rowsUNIT1 ++
  RegRow.rowsUNIT2 ++
  RegRow.rowsREGION ++
  RegRow.rowsESC ++
  RegRow.rowsCLUSTER0 ++
  RegRow.rowsCLUSTER1 ++
  RegRow.rowsTILES ++
  RegRow.rowsTILE ++
  RegRow.rowsCHORUS0 ++
  RegRow.rowsCHORUS1 ++
  RegRow.rowsNEWT ++
  RegRow.rowsLINK ++
  RegRow.rowsPOOL ++
  RegRow.rowsTIME0 ++
  RegRow.rowsTIME1 ++
  RegRow.rowsCAP ++
  RegRow.rowsCAPCH0 ++
  RegRow.rowsCAPCH1 ++
  RegRow.rowsDMA ++
  RegRow.rowsDMACH ++
  RegRow.rowsHK0 ++
  RegRow.rowsHK1 ++
  RegRow.rowsPWR ++
  RegRow.rowsSEC

/-- The indexes at which distance `d` from a register's base is an instance of it, for (count, stride) pairs from
the widest stride down; `none` when `d` is no instance. -/
def dimIndexes : Nat → List (Nat × Nat) → Option (List Nat)
  | d, [] => if d = 0 then some [] else none
  | d, (c, st) :: r =>
    if d / st < c then
      match dimIndexes (d % st) r with
      | some l => some (d / st :: l)
      | none => none
    else none

/-- The fields of row `r` at window offset `off`, when the row has an instance there. -/
def rowAt (r : RegRow) (off : Nat) : Option (List Fld) :=
  if off < r.base then none
  else match dimIndexes (off - r.base) r.dims with
    | some l => some (r.flds (l.getD 0 0) (l.getD 1 0) (l.getD 2 0))
    | none => none

/-- The fields of the register at window offset `off` (`none`: no register of the tables there). -/
def regAt (off : Nat) : Option (List Fld) :=
  regRows.findSome? fun r => rowAt r off

end Sys2Proof.Machine
end

