-- ==== Sys2Proof/Machine/Regs.lean ====
section
/-! DEFINITION. Register words (spec/00_scope.md, R2, R5 to R9; spec/01_architecture.md, R31): hardware that an offset belongs to, what a
register word shows, and the entries of REG_INIT (spec/02_start_and_configuration.md, Table 2.9, R43). -/

namespace Sys2Proof.Machine

/-! ### Blocks of the window (Table 1.11) -/

/-- The index of the block that offset `o` lies in: UNIT, CLUSTER, REGION, TILE and Newt blocks. -/
def unitAt (o : Nat) : Option Nat := if 0x200000 ≤ o ∧ o < 0x280000 then some ((o - 0x200000) / 0x1000) else none
def clusterAt (o : Nat) : Option Nat := if 0x100000 ≤ o ∧ o < 0x200000 then some ((o - 0x100000) / 0x10000) else none
def regionAt (o : Nat) : Option Nat := if 0x300000 ≤ o ∧ o < 0x380000 then some ((o - 0x300000) / 0x10000) else none
def tileBlkAt (o : Nat) : Option Nat := if 0x400000 ≤ o ∧ o < 0x800000 then some ((o - 0x400000) / 0x100000) else none
def newtAt (o : Nat) : Option Nat := if 0x800000 ≤ o ∧ o < 0x1000000 then some ((o - 0x800000) / 0x100000) else none

/-- Offset `o` lies in the block of hardware that the grade disables (R2). -/
def gradeOff (s : State) (o : Nat) : Bool :=
  (match unitAt o with | some u => !unitEnabled s u | none => false) ||
  (match clusterAt o with | some c => !clusterEnabled s c | none => false) ||
  (match regionAt o with | some g => !regionEnabled s g | none => false) ||
  (match tileBlkAt o with | some t => !tileEnabled s t | none => false) ||
  (match newtAt o with | some g => !regionEnabled s g | none => false)

/-- An offset of the shared page in any tile's block names the one set of its registers (R157). -/
def sharedOff (o : Nat) : Nat :=
  match tileBlkAt o with
  | some t => if o % 0x100000 < 0x1000 then o - 0x100000 * t else o
  | none => o

/-- The register at offset `o`, shared pages included. -/
def fieldsAt (o : Nat) : Option (List Fld) := regAt (sharedOff o)

/-! ### Words -/

/-- What a read of a field shows before any clearing: the shadow copy of class H, 0 of a write-only field (R7, R9). -/
def fieldShow (s : State) (f : Fld) : Nat :=
  match f.acc, f.cls with
  | .wo, _ => 0
  | _, .H => rdSh s f
  | _, _ => rd s f

/-- The word of fields `fs`. -/
def wordShow (s : State) (fs : List Fld) : Nat := fs.foldl (fun a f => a + fieldShow s f * 2 ^ f.lo) 0

/-- The bits of field `f` in word `w`. -/
def fieldOf (f : Fld) (w : Nat) : Nat := bits w f.lo f.width

/-- The commit groups that hold shadow fields at offset `o`. -/
def groupsAt (o : Nat) : List Group :=
  match unitAt o, clusterAt o, regionAt o with
  | some u, _, _ => [rxGroup u, txGroup u, dpdGroup u]
  | _, some c, _ => [clusterGroup c]
  | _, _, some g => [orxGroup (2 * g), orxGroup (2 * g + 1)]
  | _, _, _ =>
    if o < 0x40000 then [hkGroup] else if o < 0x50000 then [timeGroup] else if o < 0x70000 then [dmaGroup ((o - 0x61000) / 0x40)]
    else if o < 0x80000 then [capGroup ((o - 0x71000) / 0x40)] else if o < 0xA0000 then [poolGroup] else if o < 0xB0000 then [chorusGroup]
    else [tileGroup]

/-- A shadow value is written: a later refusal of its block's commit is recorded again (R11). -/
def shadowTouched (s : State) (f : Fld) : State :=
  let ids := ((groupsAt f.off).filter fun g => g.ranges.any fun r => decide (r.1 ≤ f.key) && decide (f.key < r.2)).map Group.id
  { s with silent := s.silent.filter fun i => !ids.contains i }

/-- Write the shadow copy of a class H field. -/
def writeShadow (s : State) (f : Fld) (v : Nat) : State := shadowTouched (wrSh s f v) f

/-! ### REG_INIT (Table 2.9) -/

/-- Set one field from a REG_INIT entry: RW fields take the value, W1C bits written 1 clear; other fields ignore it. -/
def initField (s : State) (f : Fld) (v : Nat) : State :=
  match f.acc, f.cls with
  | .rw, .H => writeShadow s f v
  | .rw, _ => wr s f v
  | .w1c, _ => wr s f (rd s f - (rd s f &&& v))
  | _, _ => s

/-- Values that depend on being written: UNIT_CORR counts as written (R136). -/
def corrTouched (s : State) (o : Nat) : State :=
  match tileBlkAt o with
  | some t =>
    let d := o % 0x100000
    if 0x1100 ≤ d ∧ d < 0x1200 then
      let u := 32 * t + (d - 0x1100) / 8
      { s with beam := { s.beam with corrWritten := if u ∈ s.beam.corrWritten then s.beam.corrWritten else s.beam.corrWritten ++ [u] } }
    else s
  | none => s

/-- One entry, as a read-modify-write; entries of disabled hardware and of reserved addresses are ignored (R56). -/
def initEntry (s : State) (e : Nat × Nat × Nat) : State :=
  if gradeOff s e.1 then s
  else match fieldsAt e.1 with
    | none => s
    | some fs =>
      corrTouched (forEach fs s fun s f =>
        let m := fieldOf f e.2.1
        let old := fieldShow s f
        initField s f (old - (old &&& m) + (fieldOf f e.2.2 &&& m))) e.1

/-- Ports follow the EN that REG_INIT leaves (R241). -/
def portsAfterInit (s : State) : State :=
  forEach (List.range 4) s fun s p =>
    if on s (Reg.LINK_CTRL_EN p) then portStart s p else if portSt s p = 6 then s else portIdle s p 6

/-- Every entry of the running image, in order (step 9 of Table 2.7). -/
def applyInit (s : State) : State :=
  forEach ((s.boot.img.map ImageS.regInit).getD []) s initEntry

/-- The entries whose offset falls in [a, b) (R43). -/
def applyInitIn (s : State) (a b : Nat) : State :=
  forEach (((s.boot.img.map ImageS.regInit).getD []).filter fun e => decide (a ≤ e.1) && decide (e.1 < b)) s initEntry

end Sys2Proof.Machine
end

