-- ==== Sys2Proof/Machine/Reset.lean ====
section
/-! DEFINITION. The reset controller (spec/02_start_and_configuration.md, R35 to R50): sources, reaches, holds, block requests and the
restore of R43; and the clock monitor of R29 that feeds it. -/

namespace Sys2Proof.Machine

/-! ### Reaches (R36, R37) -/

/-- The reach of a remappable source with PACKAGE default. -/
def fuseReach (c : Nat) : Nat := if c = 1 then 4 else 3

/-- The reach in force of a source of Table 2.2, block requests apart. -/
def reachOf (s : State) (src : Nat) : Nat :=
  match src with
  | 0 => 4
  | 1 => fuseReach s.fuse.nrstIn
  | 2 => 3
  | 3 => 3
  | 4 => fuseReach s.fuse.wdog
  | 6 => 4
  | 7 => fuseReach s.fuse.jtag
  | 8 => if s.fuse.tileFault = 1 then 2 else if s.fuse.tileFault = 2 then 3 else 1
  | _ => 0

/-- The widest reach that a host RESET may ask for. -/
def hostCap (s : State) : Nat := if s.fuse.hostCap = 1 then 3 else if s.fuse.hostCap = 2 then 2 else 4

/-! ### Blocks (Table 2.4) -/

/-- The BLK_ID names a block of Table 2.4 that the grade enables. -/
def blkListed (s : State) (b : Nat) : Bool :=
  (decide (b < 0x80) && unitEnabled s b) ||
  (decide (0x100 ≤ b) && decide (b < 0x110) && clusterEnabled s (b - 0x100)) ||
  (decide (0x200 ≤ b) && decide (b < 0x208) && regionEnabled s (b - 0x200)) ||
  (decide (0x300 ≤ b) && decide (b ≤ 0x302)) || (decide (0x310 ≤ b) && decide (b ≤ 0x313)) ||
  (decide (0x400 ≤ b) && decide (b ≤ 0x403) && tileEnabled s (b - 0x400)) || b == 0x500

/-- The reach code of a BLK_ID. -/
def blkReach (b : Nat) : Nat := if 0x400 ≤ b ∧ b ≤ 0x403 then 1 else if b = 0x500 then 2 else 0

/-- The tile that a block lies in. -/
def blkTile (b : Nat) : Option Nat :=
  if b < 0x80 then some (b / 32)
  else if 0x100 ≤ b ∧ b < 0x110 then some ((b - 0x100) / 4)
  else if 0x200 ≤ b ∧ b < 0x208 then some ((b - 0x200) / 2)
  else if 0x400 ≤ b ∧ b < 0x404 then some (b - 0x400)
  else none

/-- A reset of (`reach`, `blk`) covers block `b`. -/
def reachCovers (reach blk b : Nat) : Bool :=
  decide (3 ≤ reach) || (reach == 2 && !(decide (0x310 ≤ b) && decide (b ≤ 0x313))) ||
    (reach == 1 && blkTile b == blkTile blk) || (reach == 0 && b == blk)

/-- The single blocks of Table 2.4. -/
def allBlocks (s : State) : List Nat :=
  enabledUnits s ++ (enabledClusters s).map (0x100 + ·) ++ (enabledRegions s).map (0x200 + ·) ++ [0x300, 0x301, 0x302, 0x310, 0x311, 0x312, 0x313] ++
    (enabledTiles s).map (0x400 + ·)

/-- The blocks that a BLK_ID covers. -/
def blocksUnder (s : State) (b : Nat) : List Nat := (allBlocks s).filter (reachCovers (blkReach b) b)

/-- Some asserted source covers block `b`. -/
def blockHeld (s : State) (b : Nat) : Bool := s.rst.sources.any fun r => reachCovers r.reach r.blk b

/-! ### What a reset clears -/

/-- The register fields at offsets [a, b) return to their reset values. -/
def clearRegs (s : State) (a b : Nat) : State :=
  let r := regsAt a b
  { s with act := s.act.clear r.1 r.2, hact := s.hact.clear r.1 r.2, hsh := s.hsh.clear r.1 r.2
           silent := s.silent.filter fun i => !(decide (r.1 ≤ i) && decide (i < r.2)) }

def unitOff (u : Nat) : Nat := 0x200000 + 0x1000 * u
def clusterOff (c : Nat) : Nat := 0x100000 + 0x10000 * c
def regionOff (g : Nat) : Nat := 0x300000 + 0x10000 * g
def tileOff (t : Nat) : Nat := 0x400000 + 0x100000 * t
def newtOff (g : Nat) : Nat := 0x800000 + 0x100000 * g
def portOff (p : Nat) : Nat := 0x80000 + 0x4000 * p

/-- Reset of unit `u`: ACT_VALID and SHD_PEND clear (R100), its neighbours lose it. -/
def resetUnit (s : State) (u : Nat) : State :=
  let s1 := (clearRegs s (unitOff u) (unitOff u + 0x1000)).modUnit u fun x => { degRx := x.degRx, degTx := x.degTx }
  let s2 : State := { s1 with cal := { s1.cal with trims := s1.cal.trims.clear (64 * u) (64 * u + 64) } }
  txonCheck (forEach (regionUnits u) s2 updateNbLive) (u / 8)

/-- Reset of cluster `c`: LO, ORX, RFFE master and strobes; a calibration that runs is lost. -/
def resetCluster (s : State) (c : Nat) : State :=
  let s1 := loTag (loMute s c) c
  let s2 := (clearRegs s1 (clusterOff c) (clusterOff c + 0x10000)).modCluster c fun _ => {}
  let s3 := s2.modCcal c fun x => { x with run := none, left := 0, req := [], reqCals := 0, serving := if x.serving = 3 then 3 else 0 }
  let s4 : State := { s3 with cal := { s3.cal with orxTrims := s3.cal.orxTrims.clear (16 * c) (16 * c + 16) } }
  forEach (unitsOf c) s4 fun s u => s.modTx u fun x => { x with adapt := .idle }

/-- Reset of core `g`: an unfinished shadow table is discarded, one that has passed its checks is not (R100). -/
def resetNewt (s : State) (g : Nat) : State :=
  let s1 := wr ((clearRegs s (newtOff g) (newtOff g + 0x100000)).modNewt g fun _ => {}) (Reg.REGION_ADAPT_STATUS_FROZEN_RESET g) 1
  forEach (unitsOfRegion g) s1 fun s u =>
    let s2 := s.modTx u fun x => { x with adapt := .idle }
    if (s.unit u).tx.checked then s2
    else (wr s2 (Reg.UNIT_DPD_STATUS_SHD_PEND u) 0).modTx u fun x => { x with shd := [] }

/-- Reset of tile `t`: its units, clusters, cores, REGION blocks and its slice. -/
def resetTile (s : State) (t : Nat) : State :=
  let s1 := forEach ((List.range 32).map (32 * t + ·)) s resetUnit
  let s2 := forEach ((List.range 4).map (4 * t + ·)) s1 resetCluster
  let s3 := forEach [2 * t, 2 * t + 1] s2 fun s g => resetNewt (clearRegs s (regionOff g) (regionOff g + 0x10000)) g
  let s4 := clearRegs s3 (tileOff t + 0x1000) (tileOff t + 0x100000)
  { s4 with beam := { s4.beam with
      corrTime := s4.beam.corrTime.clear (32 * t) (32 * t + 32), corrWritten := s4.beam.corrWritten.filter fun u => u / 32 != t, job := none } }

def resetDma (s : State) : State := { (clearRegs s 0x61000 0x70000) with dmas := [] }
def resetCapture (s : State) : State := { (clearRegs s 0x70000 0x80000) with caps := [] }
def resetChorus (s : State) : State := { (clearRegs s 0xA0000 0xB0000) with chorus := {} }

/-- Reset of port `p`: electrical idle, STOP. -/
def resetPort (s : State) (p : Nat) : State :=
  let s1 := if portSt s p = 6 then s else portIdle s p 6
  refreshUp ((clearRegs s1 (portOff p) (portOff p + 0x4000)).modPort p fun _ => {})

/-- Reset of the buffer pool: POOL_DEVID and the event queue are kept (R245, R259). -/
def resetPool (s : State) : State :=
  let s1 := clearRegs (clearRegs s 0x90000 0x90004) 0x90008 0x90010
  let s2 := clearRegs s1 0x90014 0xA0000
  wr { s2 with pool := { s2.pool with ul := [], dl := [], wfrag := none } } Reg.POOL_STATUS_FREE 0x4000

/-- Reset of DATAPATH reach. -/
def resetDatapath (s : State) : State :=
  let s1 := forEach (enabledTiles s) s resetTile
  let s2 := clearRegs s1 0x400000 0x401000
  resetPool (resetChorus (resetCapture (resetDma { s2 with beam := { arch := s2.beam.arch } })))

/-- What a reset of BLOCK, TILE or DATAPATH reach clears as it asserts. -/
def resetBlock (s : State) (b : Nat) : State :=
  if b < 0x80 then resetUnit s b
  else if b < 0x110 then resetCluster s (b - 0x100)
  else if b < 0x208 then resetNewt s (b - 0x200)
  else if b = 0x300 then resetDma s
  else if b = 0x301 then resetCapture s
  else if b = 0x302 then resetChorus s
  else if b < 0x314 then resetPort s (b - 0x310)
  else if b < 0x404 then resetTile s (b - 0x400)
  else resetDatapath s

/-- The AON registers that a reset of PACKAGE or SYSTEM reach keeps (R35), with SEC_MIN_VER of MTP; POR keeps the last alone. -/
def aonKept (por : Bool) : List (Nat × Nat) :=
  if por then [regsAt 0xB0014 0xB0018]
  else [regsAt 0x10000 0x10008, (0x10010 * 32 + 1, 0x10010 * 32 + 4), regsAt 0x20200 0x20240, regsAt 0xB0010 0xB0018]

/-- A reset of PACKAGE reach (3) or SYSTEM reach (4) takes hold. Kept: fuses and MTP records, flash, AON records, the record of what has left the
links; over PACKAGE also the memory die, the key slots and the debug lock. -/
def resetPackage (s : State) (reach : Nat) (por : Bool) : State :=
  let act := (aonKept por).foldl (fun t r => Tbl.merge t (s.act.range r.1 r.2)) []
  let kept : State := {
    act := act, fuse := s.fuse, free := s.free, pending := s.pending, flash := s.flash
    rst := { s.rst with widest := max s.rst.widest reach, request := none, restoring := [], delayed := [] }
    link := { out := s.link.out, words := s.link.words }
    hk := { safe := s.hk.safe }
    cal := { bankA := s.cal.bankA, bankB := s.cal.bankB }
    sec := { blobs := s.sec.blobs, copies := s.sec.copies, minPrev := s.sec.minPrev } }
  if reach = 4 then kept
  else
    let k1 : State := { kept with
      mem := s.mem.clear dieEnd (2 ^ 50), beam := { arch := s.beam.arch }, boot := { warmEn := s.boot.warmEn, warmSlot := s.boot.warmSlot }
      sec := { kept.sec with slots := s.sec.slots } }
    showSlots (wr k1 Reg.SEC_STATUS_DBG_UNLOCKED (rd s Reg.SEC_STATUS_DBG_UNLOCKED))

/-! ### Sources (R38 to R44, R49) -/

/-- The BLK_ID of a block reset is recorded (R42). -/
def recordBlk (s : State) (r : ResetSource) : State :=
  let s1 := wr (wr s Reg.RESET_CAUSE_BLK_BLK_ID r.blk) Reg.RESET_CAUSE_BLK_REACH (blkReach r.blk)
  let s2 := wr (wr s1 Reg.RESET_CAUSE_BLK_FORCED (b2n r.forced)) Reg.RESET_CAUSE_BLK_OVF (b2n s.rst.blkSeen)
  { s2 with rst := { s2.rst with blkSeen := true } }

def causeBit (s : State) (b : Nat) : State := wr s Reg.RESET_CAUSE_SRC (setBit (rd s Reg.RESET_CAUSE_SRC) b)

/-- Source `r` asserts now: RESET_CAUSE records it and every block it covers is held. -/
def assertNow (s : State) (r : ResetSource) : State :=
  if 3 ≤ r.reach then
    let others := s.rst.sources.filter fun (x : ResetSource) => !(x.src == r.src && x.blk == r.blk)
    let rst : ResetS := { s.rst with sources := { r with ovr := true } :: others.map fun (x : ResetSource) => { x with ovr := true } }
    let por := r.src == 0
    let s0 := if por && s.rst.mtpPulse then wr s Reg.SEC_MIN_VER_MIN_VER s.sec.minPrev else s
    let s1 := resetPackage { s0 with rst := { rst with mtpPulse := rst.mtpPulse && !por } } r.reach por
    if por then wr { s1 with rst := { s1.rst with blkSeen := false } } Reg.RESET_CAUSE_SRC 1 else causeBit s1 r.src
  else
    let s1 := causeBit (dropSleep s) r.src
    let s2 := if r.host then causeBit s1 5 else s1
    let s3 := if r.src = 9 then recordBlk s2 r else s2
    let ovr := packageHeld s
    let s4 : State := { s3 with rst := { s3.rst with
      sources := { r with ovr := ovr } :: s3.rst.sources.filter fun x => !(x.src == r.src && x.blk == r.blk)
      restoring := s3.rst.restoring.filter fun x => !reachCovers r.reach r.blk x.blk } }
    resetBlock s4 r.blk

/-- Source `r` is asserted: delayed to the end of an MTP program pulse (R44; POR is not), and below PACKAGE reach to the end of a trim load
(R49). -/
def assertSrc (s : State) (r : ResetSource) : State :=
  if (s.rst.mtpPulse && r.src != 0) || (s.boot.loading && decide (r.reach < 3)) then
    { s with rst := { s.rst with delayed := s.rst.delayed ++ [r] } }
  else assertNow s r

/-- The sources that a pulse or a load held off assert. -/
def assertDelayed (s : State) : State :=
  forEach s.rst.delayed { s with rst := { s.rst with delayed := [] } } assertSrc

/-- A source of Table 2.2 that is no block request. -/
def sourceOn (s : State) (src : Nat) : State := assertSrc s { src := src, reach := reachOf s src, blk := 0 }

/-- NRST is driven low by the device (R39). -/
def nrstDriven (s : State) : Bool := s.rst.sources.any fun r => decide (3 ≤ r.reach) && r.src != 1

/-! ### Release (R40, R41, R46) -/

/-- BLK_RESET.BUSY: a request, a held block or a restore is in progress. -/
def showBusy (s : State) : State :=
  wr s Reg.BLK_RESET_BUSY (b2n (s.rst.request.isSome || !s.rst.restoring.isEmpty || s.rst.delayed.any (fun r => decide (r.reach < 3)) ||
    s.rst.sources.any fun r => decide (r.reach < 3) && !r.ovr))

/-- The start sequence begins (R46, R51, R52, R259, R271): events are gone, the balance is zero, the straps are latched. -/
def startSequence (s : State) (reach : Nat) : State :=
  let warm := reach == 3 && s.boot.warmEn
  let s1 : State := { s with
    rst := { s.rst with widest := 0 }, events := {}, time := {}, boot := { s.boot with system := reach == 4, loading := false } }
  let s1 := forEach (List.range 20) s1 fun s d => if domEnabled s d then s else wr s (Reg.PWR_DOM_STATE d) domOff
  let s2 := wr (wr s1 Reg.BOOT_STATUS_WARM (b2n warm)) Reg.BOOT_STATUS_STEP (if warm then 2 else 1)
  if warm then { s2 with boot := { s2.boot with loading := true } } else s2

/-- The straps are sampled (R46, R47). -/
def latchStraps (s : State) (bootsel clksel : Nat) : State :=
  wr (wr (wr s Reg.BOOT_STRAPS_BOOTSEL bootsel) Reg.BOOT_STRAPS_CLKSEL clksel) Reg.BOOT_STRAPS_STRAP_ERR (b2n (clksel == 3))

/-- Release source (`src`, `blk`), which is asserted. The last covering source starts the sequence of the widest reach (R40); a block that no wider
reset has covered goes into its restore (R43). -/
def releaseSrc (s : State) (src blk bootsel clksel : Nat) : State :=
  match s.rst.sources.find? fun r => r.src == src && (decide (3 ≤ r.reach) || r.blk == blk) with
  | none => s
  | some r =>
    let rest := s.rst.sources.filter fun x => x != r
    let s1 : State := { s with rst := { s.rst with sources := rest } }
    if 3 ≤ r.reach then
      let s2 := latchStraps s1 bootsel clksel
      if rest.any fun x => decide (3 ≤ x.reach) then s2 else startSequence s2 s2.rst.widest
    else if r.ovr || rest.any (fun x => reachCovers x.reach x.blk r.blk) then showBusy s1
    else showBusy { s1 with rst := { s1.rst with restoring := s1.rst.restoring ++ [r] } }

/-! ### Block requests (R42, Table 2.4) -/

/-- A refused request: REFUSED where `mark`, and event 0x1011. -/
def refuseReset (s : State) (blk reach reason : Nat) (mark : Bool) : State :=
  raise (if mark then wr s Reg.BLK_RESET_REFUSED 1 else s) 0x1011 (blk + 4096 * reach + 65536 * reason)

/-- The quiesce action of one block as its request is asserted. Units act at the next boundary, or at once while none is released. -/
def quiesceBlock (s : State) (b : Nat) : State :=
  if b < 0x80 then
    let s1 := s.modUnit b fun x => { x with quiesce := true }
    if releasing s then s1 else markTag (immediateMute s1 b 4) b 3 1
  else if 0x200 ≤ b ∧ b < 0x208 then s.modNewt (b - 0x200) fun x => { x with stopReq := true }
  else if b = 0x300 then forEach (List.range 16) s fun s n => if dmaSt s n = 1 then s.modDma n fun x => { x with pausing := true } else s
  else if b = 0x301 then capStopAll s fun _ => true
  else if b = 0x302 then
    match s.chorus.win with
    | some w => if w.due ∨ cState s = 1 then setChorus { s with chorus := { s.chorus with win := none, rx := none } } 0 else s
    | none => s
  else s

/-- The blocks whose quiesce a BLK_ID asks for: a cluster's units with it. -/
def quiesceUnder (s : State) (b : Nat) : List Nat :=
  blocksUnder s b ++ (if 0x100 ≤ b ∧ b < 0x110 then unitsOf (b - 0x100) else [])

/-- Put a request into its quiesce wait. -/
def beginRequest (s : State) (q : BlkRequest) : State :=
  showBusy (forEach (quiesceUnder s q.blk) { s with rst := { s.rst with request := some q } } quiesceBlock)

/-- A block reset request for BLK_ID `b` (R42): started, or refused with its reason. -/
def requestBlk (s : State) (b : Nat) (host : Bool) : State × Bool :=
  if !blkListed s b then (refuseReset s b (blkReach b) 3 true, false)
  else if on s Reg.BLK_RESET_BUSY then (refuseReset s b (blkReach b) 1 true, false)
  else (beginRequest s { blk := b, reach := blkReach b, src := 9, host := host }, true)

/-- The quiesce wait ends (R42, step 3). -/
def endQuiesce (s : State) (forced : Bool) : State :=
  match s.rst.request with
  | none => s
  | some q =>
    let s1 : State := { s with rst := { s.rst with request := none } }
    let r : ResetSource := { src := q.src, reach := q.reach, blk := q.blk, host := q.host, forced := forced }
    showBusy (assertSrc s1 r)

/-- An uncorrectable fault of tile `t` (R402): its quiesce comes before the source. Where another request waits, the source asserts at once. -/
def tileFault (s : State) (t : Nat) : State :=
  if !tileEnabled s t || blockHeld s (0x400 + t) then s
  else
    let s1 := raise s 0x20A0 t
    let reach := reachOf s 8
    let b := if reach = 2 then 0x500 else 0x400 + t
    if s1.rst.request.isSome then showBusy (assertSrc s1 { src := 8, reach := reach, blk := b })
    else beginRequest s1 { blk := b, reach := reach, src := 8, host := false }

/-- A host RESET of `reach` for BLK_ID `b` once it is authenticated and well formed (R37, R42, R261): status and state. -/
def hostReset (s : State) (reach b : Nat) : State × Nat :=
  if hostCap s < reach then (refuseReset s (if reach ≤ 2 then b else 0) reach 2 false, 0x05)
  else if 3 ≤ reach then (s, 0)
  else
    let r := requestBlk s b true
    (r.1, if r.2 then 0 else 0x05)

/-! ### Restore (R43) -/

/-- Values of the calibration store in the register ranges [a, b). -/
def storeRegs (s : State) (a b : Nat) : State :=
  match s.cal.inUse with
  | none => s
  | some k =>
    let r := regsAt a b
    let inside := fun (x : Nat × Nat) => decide (r.1 ≤ x.1) && decide (x.2 ≤ r.2)
    let rs := storeHRanges.filter inside
    { s with act := putRanges s.act (bank s k).act (storeActRanges.filter inside)
             hact := putRanges s.hact (bank s k).hact rs, hsh := putRanges s.hsh (bank s k).hact rs }

def storeTrims (s : State) (u : Nat) : State :=
  match s.cal.inUse with
  | none => s
  | some k => { s with cal := { s.cal with trims := Tbl.merge s.cal.trims ((bank s k).trims.range (64 * u) (64 * u + 64)) } }

/-- Restore unit `u`: REG_INIT, trims, and its archived table into the shadow (R100, R107). -/
def restoreUnit (s : State) (u : Nat) : State :=
  archiveLoad (storeTrims (storeRegs (applyInitIn s (unitOff u) (unitOff u + 0x1000)) (unitOff u) (unitOff u + 0x1000)) u) u

def restoreCluster (s : State) (c : Nat) : State :=
  let s1 := storeRegs (applyInitIn s (clusterOff c) (clusterOff c + 0x10000)) (clusterOff c) (clusterOff c + 0x10000)
  match s1.cal.inUse with
  | none => s1
  | some k => showDue { s1 with cal := { s1.cal with orxTrims := Tbl.merge s1.cal.orxTrims ((bank s1 k).orxTrims.range (16 * c) (16 * c + 16)) } } c

/-- Restore core `g`: memories reloaded from the image (R220). -/
def restoreNewt (s : State) (g : Nat) : State :=
  let s1 := loadCore s g ((s.boot.img.map ImageS.newtFw).getD []) ((s.boot.img.map ImageS.kernels).getD [])
  wr (applyInitIn s1 (newtOff g) (newtOff g + 0x100000)) (Reg.REGION_ADAPT_STATUS_FROZEN_RESET g) 0

/-- Weight sets that tile `t` no longer holds come back from their archive, and swap at a boundary (R303). -/
def restoreSets (s : State) (t : Nat) : State :=
  forEach (List.range 16) s fun s w =>
    match s.beam.arch.get w [] with
    | [] => s
    | bs =>
      if rd s (Reg.WSET_STATUS_ACT_VALID t w) = 0 ∧ !(wsetCopyOf bs).perSlot ∧ !wsetPending s w then wsetArrive s w bs else s

/-- What one block's own part of a restore does. -/
def restoreOwn (s : State) (b : Nat) : State :=
  if b < 0x80 then restoreUnit s b
  else if b < 0x110 then restoreCluster s (b - 0x100)
  else if b < 0x208 then restoreNewt s (b - 0x200)
  else if b = 0x300 then applyInitIn s 0x61000 0x70000
  else if b = 0x301 then applyInitIn s 0x70000 0x80000
  else if b = 0x302 then chorusRestored (storeRegs (applyInitIn s 0xA0000 0xB0000) 0xA0000 0xB0000)
  else if b < 0x314 then portStart (applyInitIn s (portOff (b - 0x310)) (portOff (b - 0x310) + 0x4000)) (b - 0x310)
  else
    let t := b - 0x400
    let s1 := applyInitIn (applyInitIn s (regionOff (2 * t)) (regionOff (2 * t + 2))) (tileOff t + 0x1000) (tileOff t + 0x100000)
    restoreSets (storeRegs s1 (tileOff t + 0x1000) (tileOff t + 0x100000)) t

/-- The restore of source `r`'s blocks ends (R43): blocks that another source has come to hold are left to it; event 0x0011. -/
def endRestore (s : State) (r : ResetSource) : State :=
  let s1 : State := { s with rst := { s.rst with restoring := s.rst.restoring.filter fun x => x != r } }
  let s2 := if r.blk = 0x500 then applyInitIn (applyInitIn (applyInitIn s1 0x400000 0x401000) 0x90000 0x90004) 0x90008 0xA0000 else s1
  let order := (blocksUnder s2 r.blk).filter fun b => !blockHeld s2 b
  raise (showBusy (forEach (order.filter (0x400 ≤ ·) ++ order.filter (· < 0x400)) s2 restoreOwn)) 0x0011 r.blk

/-! ### Trim and option loading (R48 to R50) -/

def beginLoad (s : State) : State := { (wr s Reg.BOOT_STATUS_TRIM_VALID 0) with boot := { s.boot with loading := true } }

/-- A load ends. At step 2 of a start the option records take effect (R327) and step 3 begins. -/
def endLoad (s : State) (ok : Bool) : State :=
  if !s.boot.loading then s
  else
    let start := modeOf s == mBoot && rd s Reg.BOOT_STATUS_STEP == 2
    let s1 : State := { s with boot := { s.boot with loading := false } }
    if ok then
      let s2 := wr (wr (wr s1 Reg.BOOT_STATUS_TRIM_VALID 1) Reg.BOOT_STATUS_TRIM_FAIL 0) Reg.BOOT_STATUS_TRIM_FAILS 0
      assertDelayed (if start then wr (biasLoad s2) Reg.BOOT_STATUS_STEP 3 else s2)
    else
      let n := rd s Reg.BOOT_STATUS_TRIM_FAILS + 1
      let s2 := logEntry (wr s1 Reg.BOOT_STATUS_TRIM_FAILS (min n 3)) 2 n
      if n < 3 then { s2 with boot := { s2.boot with loading := true } }
      else
        let s3 := wr s2 Reg.BOOT_STATUS_TRIM_FAIL 1
        assertDelayed (fatal (if start then biasLoad s3 else s3) 0xF003 0)

/-! ### The commands' meanings -/

/-- POR (R36, R38): never delayed. -/
def execPor (s : State) : Host.Outcome State Fault Refusal := .next (sourceOn s 0)

/-- NRST_IN (R38): the ball is not sampled while the device drives it. -/
def execNrstIn (s : State) : Host.Outcome State Fault Refusal := .next (if nrstDriven s then s else sourceOn s 1)

/-- WDOG (R36): the crown core's watchdog; a core that is held does not run it. -/
def execWdog (s : State) : Host.Outcome State Fault Refusal := .next (if packageHeld s then s else sourceOn s 4)

/-- JTAG_RESET (R36): with debug unlocked only. -/
def execJtagReset (s : State) : Host.Outcome State Fault Refusal :=
  .next (if on s Reg.SEC_STATUS_DBG_UNLOCKED then sourceOn s 7 else s)

/-- TILE_FAULT (R402) of tile `t`. -/
def execTileFault (t : Fin 4) (s : State) : Host.Outcome State Fault Refusal := .next (tileFault s t)

/-- RESET_RELEASE (R40): source `src` of block `blk` (0 where its reach is PACKAGE or wider), with the straps seen. CORE_CLK stays while CORE
is failed (R29). -/
def execResetRelease (src : Fin 10) (blk : BitVec 12) (bootsel clksel : BitVec 2) (s : State) : Host.Outcome State Fault Refusal :=
  .next (if src.val = 3 ∧ 1 ∈ s.rst.badClocks then s else releaseSrc s src blk.toNat bootsel.toNat clksel.toNat)

/-- BLK_RESET_GO (R42): BLK_ID and GO are written together. -/
def execBlkResetGo (blk : BitVec 12) (s : State) : Host.Outcome State Fault Refusal :=
  .next (requestBlk (wr s Reg.BLK_RESET_BLK_ID blk.toNat) blk.toNat false).1

/-- No unit under the waiting request still has to mute at a boundary. -/
def unitsQuiet (s : State) : Bool :=
  match s.rst.request with
  | none => true
  | some q => !releasing s || (quiesceUnder s q.blk).all fun b => decide (0x80 ≤ b) || causeHeld s b 4

/-- QUIESCE_ACK (R42): the last acknowledgement. A unit gives its own at its boundary. -/
def execQuiesceAck (s : State) : Host.Outcome State Fault Refusal := .next (if unitsQuiet s then endQuiesce s false else s)

/-- QUIESCE_TIMEOUT (R42). -/
def execQuiesceTimeout (s : State) : Host.Outcome State Fault Refusal := .next (endQuiesce s true)

/-- BLOCK_RESTORED (R43): the restore of the blocks under `blk` ends. -/
def execBlockRestored (blk : BitVec 12) (s : State) : Host.Outcome State Fault Refusal :=
  .next (match s.rst.restoring.find? fun r => r.blk == blk.toNat with
    | some r => endRestore s r
    | none => s)

/-- MTP_PULSE_END (R44). -/
def execMtpPulseEnd (s : State) : Host.Outcome State Fault Refusal :=
  .next (if s.rst.mtpPulse then assertDelayed { s with rst := { s.rst with mtpPulse := false } } else s)

/-- FLASH_BUSY_TIMEOUT (R45): the loader resets the flash device and continues; nothing of the state changes. -/
def execFlashBusyTimeout (s : State) : Host.Outcome State Fault Refusal := .next s

/-- RELOAD_TRIM (R48): in IDLE while no load runs; otherwise refused. -/
def execReloadTrim (s : State) : Host.Outcome State Fault Refusal :=
  .next (if modeOf s = mIdle ∧ !s.boot.loading then beginLoad s else refuseReset s 0 0 4 true)

/-- TRIM_LOAD_DONE (R50): the load verified or not. -/
def execTrimLoadDone (ok : Bool) (s : State) : Host.Outcome State Fault Refusal := .next (endLoad s ok)

end Sys2Proof.Machine
end

