-- ==== Sys2Proof/Machine/SecSrv.lean ====
section
/-! DEFINITION. Services of the security block (spec/17_security.md, R374 to R381): the host mailbox, key import and deletion, anti-rollback,
fuses, debug unlock, tamper and zeroisation; and the clock monitor of R29, whose SEC failure is a tamper. -/

namespace Sys2Proof.Machine

/-! ### Indicator and result (R374, R381) -/

/-- APPROVED follows R381. -/
def showApproved (s : State) : State :=
  wr s Reg.SEC_STATUS_APPROVED (b2n (s.sec.passed && rd s Reg.SEC_STATUS_STATE == 1 && rd s Reg.SEC_STATUS_DBG_UNLOCKED == 0))

/-- Response bytes into SEC_MB_RSP, first byte most significant. -/
def putResponse (s : State) (bs : List Nat) : State :=
  forEach (List.range 256) s fun s i => wr s (Reg.SEC_MB_RSP_RSP i) (ofBytes ((List.range 4).map fun k => bs.getD (4 * i + k) 0))

/-- The request bytes that SEC_MB_REQ holds. -/
def requestBytes (s : State) (n : Nat) : List Nat :=
  ((List.range 256).flatMap fun i => beBytes 4 (rd s (Reg.SEC_MB_REQ_REQ i))).take n

/-- A service ends with a status, the role recognised and its response. -/
def serviceDone (s : State) (status role : Nat) (resp : List Nat) : State :=
  let s1 := wr (wr (wr s Reg.SEC_MB_RESULT_STATUS status) Reg.SEC_MB_RESULT_RLEN resp.length) Reg.SEC_MB_RESULT_ROLE role
  let s2 := wr (wr s1 Reg.SEC_MB_RESULT_APPROVED (rd s1 Reg.SEC_STATUS_APPROVED)) Reg.SEC_MB_CTRL_BUSY 0
  putResponse { s2 with sec := { s2.sec with job := none } } resp

/-- The services of Table 17.3. -/
def services : List Nat := [0x01, 0x02, 0x03, 0x04, 0x10, 0x11, 0x12, 0x20, 0x30, 0x31, 0x40, 0x41, 0x50]

/-- A write of GO (R374): BUSY 1 and the service waits to run; while BUSY it is not made and is recorded. -/
def serviceGo (s : State) (role : Nat) : State :=
  if on s Reg.SEC_MB_CTRL_BUSY then cfgIgnored s Reg.SEC_MB_CTRL_GO.off
  else
    let sv := rd s Reg.SEC_MB_CTRL_SERVICE
    let n := rd s Reg.SEC_MB_CTRL_LEN
    let s1 := putResponse s []
    if secError s then serviceDone s1 0x07 0 []
    else if !services.contains sv then serviceDone s1 0x01 0 []
    else if 1024 < n then serviceDone s1 0x02 0 []
    else wr { s1 with sec := { s1.sec with job := some (sv, role, requestBytes s1 n) } } Reg.SEC_MB_CTRL_BUSY 1

/-- Run the service that waits, when it is service `sv`: length `len` (`none`: any), least role, and modes come first (Table 17.8). -/
def runService (s : State) (sv : Nat) (len : Option Nat) (role : Nat) (modes : List Nat) (f : State → Nat → List Nat → State) : State :=
  match s.sec.job with
  | none => s
  | some (v, r, req) =>
    if v ≠ sv then s
    else if secError s then serviceDone s 0x07 r []
    else if len.any (· != req.length) then serviceDone s 0x02 r []
    else if r < role then serviceDone s 0x03 r []
    else if !modes.contains (modeOf s) then serviceDone s 0x04 r []
    else f s r req

def anyMode : List Nat := List.range 8

/-- `n` free bytes. -/
def freeBytes (s : State) (n : Nat) : List Nat × State :=
  let r := takeFree s (8 * n)
  (beBytes n r.1, r.2)

/-! ### Self-tests (R379, R380) -/

/-- A self-test set ends: a failure puts the block in ERROR. -/
def selfTests (s : State) (ok : Bool) : State :=
  if ok then showApproved (wr { s with sec := { s.sec with passed := true } } Reg.SEC_STATUS_STATE 1)
  else fatal (showApproved (wr { s with sec := { s.sec with passed := false } } Reg.SEC_STATUS_STATE 2)) 0xF008 0

/-! ### Tamper and zeroisation (R378) -/

/-- Every secret is erased: slots, blobs and challenge. A service in progress is abandoned. -/
def eraseSecrets (s : State) : State :=
  showSlots { s with sec := { s.sec with slots := [], blobs := [], challenge := none, dr := [], job := none, fails := [], locks := [] } }

/-- A tamper of cause `c` (Table 17.9): secrets erased, then the TAMPER source of SYSTEM reach. -/
def tamper (s : State) (c : Nat) : State :=
  sourceOn (wr (eraseSecrets s) Reg.SEC_TAMPER_CAUSE (setBit (rd s Reg.SEC_TAMPER_CAUSE) c)) 6

/-- The hub sensor's reading, 0.1 °C: below −50.0 °C or above 140.0 °C is a tamper (R378). -/
def hubTamper (s : State) (t : Int) : State := if t < -500 ∨ 1400 < t then tamper s 3 else s

/-! ### Root keys (R367, R369) -/

/-- A signature under the root key of slot `k`, programmed and not revoked. The key stands by its fused hash. -/
def rootOk (s : State) (k : Nat) (msg sig : List Nat) : Bool :=
  match s.fuse.roots.get k 0 with
  | 0 => false
  | h => !bit s.fuse.revoked k && Config.ecdsaOk (beBytes 48 h) msg sig

/-! ### Services (Table 17.3) -/

/-- KEY_IMPORT (R375, Table 17.4). -/
def keyImport (s : State) (r : Nat) (q : List Nat) : State :=
  let slot := q.getD 0 0
  let role := q.getD 1 0
  if !(decide (slot < 8) && (role == 1 || role == 2) && decide (q.getD 2 0 < 4) && q.getD 3 0 == 0) then serviceDone s 0x02 r []
  else if !rootOk s (q.getD 2 0) (beBytes 16 s.fuse.uid ++ q.take 140) (q.drop 140) then serviceDone s 0x05 r []
  else match Config.unwrapKey s.fuse.duk s.fuse.uid ((q.drop 4).take 96) ((q.drop 100).take 40) with
    | none => serviceDone s 0x05 3 []
    | some k =>
      let gen := match s.sec.blobs.get slot none with | some b => b.gen + 1 | none => 0
      let x : KeySlot := { key := k, role := role, gen := gen }
      let s1 := setSlot s slot (some x)
      serviceDone { s1 with sec := { s1.sec with blobs := s1.sec.blobs.set slot none (some x) } } 0 3 []

/-- KEY_DELETE: the key goes from retention and its blob's kill word is programmed. -/
def keyDelete (s : State) (r : Nat) (q : List Nat) : State :=
  let slot := q.getD 0 0
  if !(decide (slot < 8) && (q.drop 1).all (· == 0)) then serviceDone s 0x02 r []
  else
    let s1 := setSlot s slot none
    serviceDone { s1 with sec := { s1.sec with blobs := s1.sec.blobs.set slot none none } } 0 r []

/-- KEY_STATUS: role, lock state, two zero bytes and last accepted COUNTER of each slot. -/
def keyStatusBytes (s : State) : List Nat :=
  (List.range 8).flatMap fun k =>
    match s.slot k with
    | some x => [x.role, b2n (slotLocked s k), 0, 0] ++ beBytes 8 x.last
    | none => [0, b2n (slotLocked s k), 0, 0] ++ beBytes 8 0

/-- ROLLBACK_COMMIT (R370): an MTP pulse writes the new copy (R44). -/
def rollbackCommit (s : State) (r : Nat) : State :=
  let old := rd s Reg.SEC_MIN_VER_MIN_VER
  match s.boot.img with
  | none => serviceDone s 0x04 r []
  | some i =>
    if rd s Reg.BOOT_STATUS_SLOT = 2 ∨ i.rollback ≤ old then serviceDone s 0x04 r []
    else if 128 ≤ s.sec.copies then serviceDone s 0x06 r []
    else
      let s1 := wr { s with sec := { s.sec with copies := s.sec.copies + 1, minPrev := old }, rst := { s.rst with mtpPulse := true } }
        Reg.SEC_MIN_VER_MIN_VER i.rollback
      serviceDone (raise s1 0x7006 0) 0 r (beBytes 4 i.rollback)

/-- Bytes of a fuse field's value, its present value, and the fuses with it programmed. -/
def fuseGet (x : Fuses) (n : Nat) : Option (Nat × Nat × (Nat → Fuses)) :=
  match n with
  | 0 => some (1, x.nrstIn, fun v => { x with nrstIn := v % 4 })
  | 1 => some (1, x.wdog, fun v => { x with wdog := v % 4 })
  | 2 => some (1, x.hostCap, fun v => { x with hostCap := v % 4 })
  | 3 => some (1, x.jtag, fun v => { x with jtag := v % 4 })
  | 4 => some (1, x.tileFault, fun v => { x with tileFault := v % 4 })
  | 5 => some (1, x.tamperEn, fun v => { x with tamperEn := v % 2 })
  | 6 => some (1, x.dbgRoot, fun v => { x with dbgRoot := v % 4 })
  | 7 => some (48, x.roots.get 0 0, fun v => { x with roots := x.roots.set 0 0 v })
  | 8 => some (48, x.roots.get 1 0, fun v => { x with roots := x.roots.set 1 0 v })
  | 9 => some (48, x.roots.get 2 0, fun v => { x with roots := x.roots.set 2 0 v })
  | 10 => some (48, x.roots.get 3 0, fun v => { x with roots := x.roots.set 3 0 v })
  | 11 => some (1, x.revoked, fun v => { x with revoked := v % 16 })
  | _ => none

/-- No unrevoked root slot is left. -/
def noRoots (x : Fuses) : Bool := (List.range 4).all fun k => x.roots.get k 0 == 0 || bit x.revoked k

/-- FUSE_PROGRAM (R375): only more bits; the last unrevoked root slot stays. -/
def fuseProgram (s : State) (r : Nat) (q : List Nat) : State :=
  match fuseGet s.fuse (Config.fuseField (q.getD 0 0)) with
  | none => serviceDone s 0x02 r []
  | some (n, old, put) =>
    let v := ofBytes (q.drop 4)
    if q.length ≠ 4 + n ∨ (q.drop 1).take 3 ≠ [0, 0, 0] then serviceDone s 0x02 r []
    else if v &&& old ≠ old then serviceDone s 0x05 r []
    else if Config.fuseField (q.getD 0 0) = 11 ∧ !noRoots s.fuse ∧ noRoots (put v) then serviceDone s 0x04 r []
    else serviceDone (raise { s with fuse := put v } 0x7007 0) 0 r []

/-- FUSE_READ: every fuse field except the DUK. -/
def fuseBytes (x : Fuses) : List Nat :=
  [x.grade, x.stepping, x.nrstIn, x.wdog, x.hostCap, x.jtag, x.tileFault, x.tamperEn, x.dbgRoot, x.revoked] ++ beBytes 16 x.uid ++
    (List.range 4).flatMap fun k => beBytes 48 (x.roots.get k 0)

/-- A new debug challenge (R376): nonce, DEVICE_UID and scope. -/
def newChallenge (s : State) : List Nat × State :=
  let n := freeBytes s 32
  let ch := n.1 ++ beBytes 16 s.fuse.uid ++ [0, 0, 0, 1]
  (ch, { n.2 with sec := { n.2.sec with challenge := some ch } })

/-- A debug response (R376, R377): one that verifies unlocks; any response ends the challenge. -/
def debugResponse (s : State) (sig : List Nat) : State × Bool :=
  let s1 : State := { s with sec := { s.sec with challenge := none } }
  match s.sec.challenge with
  | none => (s1, false)
  | some ch =>
    if rootOk s s.fuse.dbgRoot ch sig then
      let s2 := showSlots (wr { s1 with sec := { s1.sec with slots := [] } } Reg.SEC_STATUS_DBG_UNLOCKED 1)
      (raise (showApproved s2) 0x7003 0, true)
    else (s1, false)

def dbgModes : List Nat := [mIdle, mDiag, mSafe]

/-! ### The commands' meanings: each runs the service that waits in the mailbox -/

/-- STATUS (R374): SEC_STATUS, and the self-test results as a free word. -/
def execStatus (s : State) : Host.Outcome State Fault Refusal :=
  .next (match s.sec.job with
    | some (0x01, r, req) =>
      if req.length ≠ 0 ∧ !secError s then serviceDone s 0x02 r []
      else
        let w := freeBytes s 4
        serviceDone w.2 (if secError s then 0x07 else 0) r
          (if secError s then [] else beBytes 4 (wordShow s ((regAt 0xB0000).getD [])) ++ w.1)
    | _ => s)

/-- SELFTEST (R379): the power-on set passes or not. -/
def execSelftest (ok : Bool) (s : State) : Host.Outcome State Fault Refusal :=
  .next (runService s 0x02 (some 0) 0 [mIdle, mDiag] fun s r _ => serviceDone (selfTests s ok) (if ok then 0 else 0x07) r [])

/-- ZEROISE (R378). -/
def execZeroise (s : State) : Host.Outcome State Fault Refusal :=
  .next (runService s 0x03 (some 0) 2 anyMode fun s r _ =>
    sourceOn (wr (eraseSecrets (serviceDone s 0 r [])) Reg.SEC_TAMPER_ZEROISED 1) 6)

/-- IDENTITY (R374). -/
def execIdentity (s : State) : Host.Outcome State Fault Refusal :=
  .next (runService s 0x04 (some 0) 0 anyMode fun s r _ => serviceDone s 0 r (beBytes 16 s.fuse.uid ++ Config.identityPub s.fuse.duk))

/-- KEY_IMPORT (R375). -/
def execKeyImport (s : State) : Host.Outcome State Fault Refusal :=
  .next (runService s 0x10 (some 236) 0 [mIdle, mSafe] keyImport)

/-- KEY_DELETE (R374). -/
def execKeyDelete (s : State) : Host.Outcome State Fault Refusal := .next (runService s 0x11 (some 4) 2 [mIdle, mSafe] keyDelete)

/-- KEY_STATUS (R373). -/
def execKeyStatus (s : State) : Host.Outcome State Fault Refusal :=
  .next (runService s 0x12 (some 0) 0 anyMode fun s r _ => serviceDone s 0 r (keyStatusBytes s))

/-- ROLLBACK_COMMIT (R370). -/
def execRollbackCommit (s : State) : Host.Outcome State Fault Refusal :=
  .next (runService s 0x20 (some 0) 2 [mIdle] fun s r _ => rollbackCommit s r)

/-- FUSE_PROGRAM (R375). -/
def execFuseProgram (s : State) : Host.Outcome State Fault Refusal := .next (runService s 0x30 none 2 [mIdle] fuseProgram)

/-- FUSE_READ (R374). -/
def execFuseRead (s : State) : Host.Outcome State Fault Refusal :=
  .next (runService s 0x31 (some 0) 0 anyMode fun s r _ => serviceDone s 0 r (fuseBytes s.fuse))

/-- DBG_CHALLENGE (R376). -/
def execDbgChallenge (s : State) : Host.Outcome State Fault Refusal :=
  .next (runService s 0x40 (some 0) 0 dbgModes fun s r _ => serviceDone (newChallenge s).2 0 r (newChallenge s).1)

/-- DBG_RESPONSE (R376). -/
def execDbgResponse (s : State) : Host.Outcome State Fault Refusal :=
  .next (runService s 0x41 (some 96) 0 dbgModes fun s r q =>
    let x := debugResponse s q
    serviceDone x.1 (if x.2 then 0 else 0x05) (if x.2 then 3 else r) [])

/-- RANDOM (R374): 1 to 1,024 free bytes. -/
def execRandom (s : State) : Host.Outcome State Fault Refusal :=
  .next (runService s 0x50 (some 2) 1 anyMode fun s r q =>
    let n := ofBytes q
    if n = 0 ∨ 1024 < n then serviceDone s 0x02 r [] else serviceDone (freeBytes s n).2 0 r (freeBytes s n).1)

/-- SEC_CHAL (R376): the challenge in the first 416 bits of the data register. -/
def execSecChal (s : State) : Host.Outcome State Fault Refusal :=
  .next (if secError s || !dbgModes.contains (modeOf s) then { s with sec := { s.sec with dr := List.replicate 96 0 } }
    else
      let c := newChallenge s
      { c.2 with sec := { c.2.sec with dr := c.1 ++ List.replicate 44 0 } })

/-- SEC_RESP (R376): the response fills the data register. -/
def execSecResp (dr : BitVec 768) (s : State) : Host.Outcome State Fault Refusal :=
  .next (
    let s1 : State := { s with sec := { s.sec with dr := beBytes 96 dr.toNat } }
    if secError s || !dbgModes.contains (modeOf s) then s1 else (debugResponse s1 (beBytes 96 dr.toNat)).1)

/-- KEY_LOCK_EXPIRE (R372): slot `k`'s lock time ends. -/
def execKeyLockExpire (k : Fin 8) (s : State) : Host.Outcome State Fault Refusal :=
  .next (wr s Reg.SEC_STATUS_LOCKED (clrBit (rd s Reg.SEC_STATUS_LOCKED) k))

/-- DBG_CHALLENGE_EXPIRE (R376). -/
def execDbgChallengeExpire (s : State) : Host.Outcome State Fault Refusal := .next { s with sec := { s.sec with challenge := none } }

/-- TAMPER (R378): cause `c` of Table 17.9; the ball counts with the TAMPER_EN fuse only. -/
def execTamper (c : Fin 4) (s : State) : Host.Outcome State Fault Refusal :=
  .next (if c.val = 0 ∧ s.fuse.tamperEn = 0 then s else tamper s c)

/-! ### Clock monitor (R29) -/

/-- The monitor's flag of clock `k`. -/
def setClock (s : State) (k : Nat) (bad : Bool) : State :=
  { s with rst := { s.rst with badClocks := (s.rst.badClocks.filter (· != k)) ++ (if bad then [k] else []) } }

/-- One clock is judged: only a change acts. -/
def judgeClock (s : State) (k : Nat) (good : Bool) : State :=
  let was := decide (k ∈ s.rst.badClocks)
  let s1 := setClock s k (!good)
  if was || good then s1
  else if k = 0 then fatal (linkBackup s1) 0xF001 0
  else if k = 1 then sourceOn s1 3
  else tamper (fatal s1 0xF002 0) 1

/-- CLOCK_MONITOR_WINDOW (R29): edges of REF, CORE and SEC in the window. CLKSEL 0b11 gives REF no nominal count. -/
def execClockMonitorWindow (ref core sec : BitVec 16) (s : State) : Host.Outcome State Fault Refusal :=
  .next (
    let s1 := if refNominal s = 0 then s else judgeClock s 0 (clockGood (refNominal s) ref.toNat)
    judgeClock (judgeClock s1 2 (clockGood 40000 sec.toNat)) 1 (clockGood 320000 core.toNat))

end Sys2Proof.Machine
end

