-- ==== Sys2Proof/Machine/Start.lean ====
section
/-! DEFINITION. The start sequence (spec/02_start_and_configuration.md, R41, R51 to R53, R58; spec/12_time.md, R282) and the end of TRIM
(spec/01_architecture.md, R23). Steps act as they end. -/

namespace Sys2Proof.Machine

/-! ### Failed domains (R41, R354, R355) -/

/-- Units that read absent with domain `d`. -/
def domUnits (d : Nat) : List Nat :=
  if 8 ≤ d ∧ d ≤ 11 then (List.range 32).map (32 * (d - 8) + ·) else if 12 ≤ d then unitsOfRegion (d - 12) else []

/-- Domain `d` is FAILED and OFF. -/
def markFailed (s : State) (d : Nat) : State :=
  let s1 := wr (wr s (Reg.PWR_DOM_STATE d) domOff) (Reg.PWR_DOM_FAILED d) 1
  { s1 with absent := s1.absent ++ (domUnits d).filter fun u => !s1.absent.contains u }

/-- Step `n` of Table 16.6 fails for domain `d`. -/
def failDomain (s : State) (d n : Nat) : State :=
  if domFailed s d || !domEnabled s d then s
  else
    let s1 := raise (wr (markFailed s d) (Reg.PWR_DOM_FAIL_STEP d) n) 0x5004 d
    if 4 ≤ d ∧ d ≤ 7 then portIdle s1 (d - 4) 6 else s1

/-- A failure of a domain, with SAFE where an essential one is lost (R355). A dead REF is known to the clock monitor's record. -/
def failStep (s : State) (d n : Nat) : State :=
  let s1 := failDomain s d n
  if n = 1 then
    let s2 : State := { s1 with rst := { s1.rst with badClocks := if 0 ∈ s1.rst.badClocks then s1.rst.badClocks else s1.rst.badClocks ++ [0] } }
    fatal (linkBackup s2) 0xF001 0
  else if essentialFailed s1 then fatal s1 0xF007 0
  else s1

/-! ### The steps of Table 2.7 -/

def stepNow (s : State) : Nat := rd s Reg.BOOT_STATUS_STEP
def setStep (s : State) (n : Nat) : State := wr s Reg.BOOT_STATUS_STEP n
def warmStart (s : State) : Bool := on s Reg.BOOT_STATUS_WARM
def bootSel (s : State) : Nat := rd s Reg.BOOT_STRAPS_BOOTSEL

/-- The start sequence runs. -/
def starting (s : State) : Bool := modeOf s == mBoot && !packageHeld s

/-- Step 6 begins: under LINK the ports come up for the host's image (R241). -/
def beginImage (s : State) : State :=
  let s1 := setStep s 6
  if bootSel s1 = 2 then linkBringUp s1 else s1

/-- Step 3: the device ID (R245), then the clock code. -/
def endStep3 (s : State) : State :=
  let s1 := wr s Reg.POOL_DEVID_DEV_ID (match dirInUse s with | some (_, d) => d.devId | none => 0)
  if rd s1 Reg.BOOT_STRAPS_CLKSEL = 3 then fatal (linkBackup s1) 0xF005 0 else setStep s1 4

/-- Slots rebuilt from their blobs, with counters at the checkpoint plus 2^24 (R368, R373). -/
def rebuildSlots (s : State) : State :=
  let up := fun n : Nat => (n / 2 ^ 24 + 1) * 2 ^ 24 % 2 ^ 64
  let slots := (List.range 8).foldl (fun (t : Tbl (Option KeySlot)) k =>
    t.set k none ((s.sec.blobs.get k none).map fun (b : KeySlot) => { b with last := up b.last, up := up b.up })) []
  showSlots { s with sec := { s.sec with slots := slots } }

/-- Step 4: the self-tests `ok` of the security block. -/
def endStep4 (s : State) (ok : Bool) : State :=
  let s1 := selfTests (if s.boot.system then rebuildSlots s else s) ok
  if ok then setStep s1 5 else s1

/-- A grade-enabled tile is held and not FAILED. -/
def tileHeldNow (s : State) (t : Nat) : Bool := tileEnabled s t && blockHeld s (0x400 + t) && !domFailed s (8 + t)

def endStep5 (s : State) : State :=
  if (List.range 4).any (tileHeldNow s) then s
  else if warmStart s then setStep s 7
  else beginImage s

/-- Step 6: the image of the slots, or the one that the host has loaded. -/
def endStep6 (s : State) : State :=
  if bootSel s = 2 then
    if s.boot.img.isSome then setStep (wr s Reg.BOOT_STATUS_SLOT 2) 8 else s
  else
    match chooseImage s (bootSel s == 1) with
    | some (k, second, img) =>
      let s1 := wr (wr s Reg.BOOT_STATUS_SLOT k) Reg.BOOT_STATUS_FALLBACK (b2n second)
      setStep (raiseIf second { s1 with boot := { s1.boot with img := some img } } 0x1010 0) 8
    | none =>
      let s1 := logEntry s 3 0
      fatal (if 0 ∈ s1.rst.badClocks then linkBackup s1 else s1) 0xF004 0

/-- Bytes of the retained image, by the IMAGE_LEN of its HEADER. -/
def retainedBytes (s : State) : List Nat :=
  let n := ofBytes (memBytes s 20 4)
  memBytes s 0 (if n ≤ 0x4000000 then n else 0)

/-- Step 7: a retained copy that fails turns the start cold. -/
def endStep7 (s : State) : State :=
  match verifyImage s (retainedBytes s) with
  | some img => setStep { (wr s Reg.BOOT_STATUS_SLOT s.boot.warmSlot) with boot := { s.boot with img := some img } } 8
  | none => beginImage (wr (logEntry s 3 0) Reg.BOOT_STATUS_WARM 0)

/-- Step 8: training or self-refresh exit of the memory die. -/
def endStep8 (s : State) (ok : Bool) : State :=
  if ok then setStep (wr (wr s Reg.DMA_MEM_STATUS_SELF_REFRESH 0) Reg.DMA_MEM_STATUS_READY 1) 9 else failStep s 2 4

/-! ### CHORUS_PLAN (R179) -/

/-- The entries of a payload, sixteen bytes each. -/
def planEntries (bs : List Nat) : List (List Nat) := (List.range (bytesAt bs 0 4)).map fun i => (bs.drop (4 + 16 * i)).take 16

def ascending : List Nat → Bool
  | a :: b :: r => decide (a < b) && ascending (b :: r)
  | _ => true

/-- An entry goes to the shadows of the CHORUS registers. -/
def loadPlanEntry (s : State) (e : List Nat) : State :=
  let f := e.getD 2 0
  let alt := e.getD 4 0
  forEach [(Reg.CHORUS_CTRL_ROOT, bits f 0 1), (Reg.CHORUS_CTRL_TX_EN, bits f 1 1), (Reg.CHORUS_CTRL_TIME_EN, bits f 2 1),
    (Reg.CHORUS_CTRL_PHASE_EN, bits f 3 1), (Reg.CHORUS_CTRL_PARENT_VALID, bits f 4 4), (Reg.CHORUS_UNITS_DES_UNIT, e.getD 3 0 % 128),
    (Reg.CHORUS_UNITS_ALT_UNIT, alt % 128), (Reg.CHORUS_UNITS_ALT_EN, alt / 128), (Reg.CHORUS_UNITS_LEVEL, e.getD 5 0),
    (Reg.CHORUS_PARENT_PARENT0 0, bytesAt e 8 2), (Reg.CHORUS_PARENT_PARENT1 0, bytesAt e 10 2),
    (Reg.CHORUS_PARENT_PARENT0 1, bytesAt e 12 2), (Reg.CHORUS_PARENT_PARENT1 1, bytesAt e 14 2)] s fun s v => writeShadow s v.1 v.2

def loadPlan (s : State) (bs : List Nat) : State :=
  let es := planEntries bs
  if ascending (es.map fun e => bytesAt e 0 2) then
    match es.find? fun e => bytesAt e 0 2 == devId s with
    | some e => loadPlanEntry s e
    | none => s
  else raise (wr s Reg.CHORUS_STATUS_PLAN_ERR 1) 0x2043 0

/-! ### Step 9 and after -/

/-- Step 9: firmware and kernels, link profile, REG_INIT, plan, the retained copy, housekeeping with its self-check (R324), the log's
start entries, and what the AON record of a tamper says (R378). -/
def endStep9 (s : State) : State :=
  match s.boot.img with
  | none => s
  | some img =>
    let s1 := forEach (enabledRegions s) s fun s g => if newtHeld s g || domFailed s (8 + g / 2) then s else loadCore s g img.newtFw img.kernels
    let s2 := match img.profile with | some bs => applyProfile s1 bs | none => s1
    let s3 := portsAfterInit (applyInit s2)
    let s4 := match img.plan with | some bs => loadPlan s3 bs | none => s3
    let s5 := setMemBytes (clearMem s4 0 0x4000000) 0 img.bytes
    let s6 : State := { s5 with boot := { s5.boot with warmEn := img.warmEn, warmSlot := rd s5 Reg.BOOT_STATUS_SLOT } }
    let s7 := wr (hkOn s6) Reg.HK_STATUS_SELFTEST_BUSY 1
    let z := rd s7 Reg.SEC_TAMPER_CAUSE + 16 * rd s7 Reg.SEC_TAMPER_ZEROISED
    let s8 := raiseIf (z != 0) s7 0x7004 z
    let s9 := linkBringUp (logEntry (logEntry s8 0 0) 1 (rd s8 Reg.RESET_CAUSE_SRC))
    setStep s9 (if warmStart s9 then 11 else 10)

/-- Step 10: the built-in self-test of the memories. -/
def endStep10 (s : State) (ok : Bool) : State := if ok then setStep s 11 else failStep s 2 4

/-- The sets of a WEIGHT_SEED payload, one after another, arrive (R146). -/
def seedSets : Nat → State → List Nat → State
  | 0, s, _ => s
  | _ + 1, s, [] => s
  | fuel + 1, s, bs =>
    let w := bs.getD 3 0 % 16
    let n := 36 + 4 * wsetCount s w
    seedSets fuel (wsetArrive s w (bs.take n)) (bs.drop n)

/-- Weight sets of a start: the archives of a warm one, the image's seeds of a cold one. -/
def startSets (s : State) : State :=
  if warmStart s then forEach (enabledTiles s) s restoreSets
  else forEach ((s.boot.img.map ImageS.weightSeeds).getD []) s (seedSets 16)

/-- STEP reads 0xD, and BOOT_TIME is latched `cycles` AON cycles after the release, once per start. -/
def startDone (s : State) (cycles : Nat) : State := if stepNow s = 13 then s else wr (setStep s 13) Reg.BOOT_TIME_CYCLES cycles

/-- TRIM of a cold start: every calibration, then training. -/
def coldTrim (s : State) : State := showTrimWork (trainAll (trimCold s))

/-- TRIM of a warm start: the store, its verification, and the archived tables. -/
def warmTrim (s : State) : State :=
  match bankChoice s with
  | none => coldTrim (wr s Reg.BOOT_STATUS_WARM 0)
  | some k =>
    let s1 := trimWarm (loadStore s k)
    showTrimWork (forEach (enabledUnits s1) s1 fun s u => if unitPresent s u then archiveLoad s u else s)

/-- A cold start uses the trims of a valid bank as its beginning, or the factory's (R198). -/
def coldStart (s : State) : State :=
  match bankChoice s with
  | none => coldTrim s
  | some k => coldTrim { s with cal := { s.cal with inUse := some k, trims := (bank s k).trims, orxTrims := (bank s k).orxTrims } }

/-- The parallel step 11 has ended: step 12, or DIAG under BOOTSEL 0b11. -/
def endStep11 (s : State) (cycles : Nat) : State :=
  if bootSel s = 3 then startSets (startDone (finishMode s mDiag 0) cycles)
  else
    let s1 := startSets (finishMode (setStep s 12) mTrim 0)
    if warmStart s1 then warmTrim s1 else coldStart s1

/-- Step 11 may end (R282). -/
def timeReady (s : State) : Bool :=
  if warmStart s then portUp s 0 || portUp s 1 else rd s Reg.TIME_STATUS_STATE == tLocked

/-- A step ends: `ok` its checks passed, `cycles` AON cycles since the release. Step 2 ends with its load and step 12 with TRIM. -/
def stepDone (s : State) (ok : Bool) (cycles : Nat) : State :=
  match stepNow s with
  | 1 => beginLoad (setStep s 2)
  | 3 => endStep3 s
  | 4 => endStep4 s ok
  | 5 => endStep5 s
  | 6 => endStep6 s
  | 7 => endStep7 s
  | 8 => endStep8 s ok
  | 9 => endStep9 s
  | 10 => endStep10 s ok
  | 11 => if timeReady s then endStep11 s cycles else s
  | _ => s

/-! ### The commands' meanings -/

/-- START_STEP_DONE (R51). -/
def execStartStepDone (ok : Bool) (cycles : Word) (s : State) : Host.Outcome State Fault Refusal :=
  .next (if starting s then stepDone s ok cycles.toNat else s)

/-- TILE_HOLD_TIMEOUT (R41). -/
def execTileHoldTimeout (s : State) : Host.Outcome State Fault Refusal :=
  .next (if starting s && stepNow s == 5 then
      endStep5 (forEach ((List.range 4).filter (tileHeldNow s)) s fun s t => markFailed s (8 + t))
    else s)

/-- TIME_ACQUIRE_LIMIT (R282): a cold start goes on with the state reached. -/
def execTimeAcquireLimit (cycles : Word) (s : State) : Host.Outcome State Fault Refusal :=
  .next (if starting s && stepNow s == 11 && !warmStart s then
      let lost := fun (en v : Fld) => on s en && !on s v
      endStep11 (raiseIf (lost Reg.TIME_DOMAIN_EN_B Reg.TIME_STATUS_VALID_B)
        (raiseIf (lost Reg.TIME_DOMAIN_EN_A Reg.TIME_STATUS_VALID_A) s 0x4005 0) 0x4005 0) cycles.toNat
    else s)

/-- TRIM_DONE (R23, R200): with no work of TRIM left, the store is written and IDLE entered. -/
def execTrimDone (cycles : Word) (s : State) : Host.Outcome State Fault Refusal :=
  .next (if modeOf s = mTrim ∧ !trimWork s then finishMode (startDone (saveStart s) cycles.toNat) mIdle (modeCause s) else s)

/-- GRID_SLOT_BOUNDARY (R24): while the escapement does not release the grid, the balance reaches the next slot boundary. -/
def execGridSlotBoundary (s : State) : Host.Outcome State Fault Refusal :=
  .next (if escRunning s then s else modeBoundary (advanceTo s (nextSlot s)))

end Sys2Proof.Machine
end

