-- ==== Sys2Proof/Machine/Sleep.lean ====
section
/-! DEFINITION. Sleep (spec/16_power.md, R346 to R355): the vote and its commit, the retention snapshot, sentinel samples, and the wakes from SENTINEL
and BRUMATE, which run whole in the command of their cause. -/

namespace Sys2Proof.Machine

/-! ### The vote (R348, Table 16.3) -/

/-- A vendor service runs (Table 9.8). -/
def serviceRuns (s : State) : Bool :=
  s.beam.job.isSome || (enabledUnits s).any fun u => (s.unit u).tx.adapt != .idle || (s.unit u).tx.train.isSome

/-- Voter `v` refuses. -/
def voterRefuses (s : State) (v : Nat) : Bool :=
  match v with
  | 0 => !s.air.queue.isEmpty || escRunning s
  | 1 => (List.range 16).any fun n => dmaSt s n == dRun && (s.dma n).desc.isSome
  | 2 => (List.range 16).any (capRuns s)
  | 3 => serviceRuns s || (enabledRegions s).any fun g => uState s g == uRunning || uState s g == uWaiting || uState s g == uSuspended
  | 4 => s.sec.job.isSome
  | 5 => [0, 1].any fun k => (s.conv k).pend.any (· < 2) || (s.conv k).susp.isSome ||
      (match (s.conv k).run with | some (_, q, _) => decide (q < 2) | none => false)
  | 6 => s.cal.saving.isSome || s.boot.asm.isSome
  | 7 =>
    let c := rd s Reg.PWR_SENT_SENT_CLUSTER
    let f := rd s (Reg.CLUSTER_LO_FREQ_FREQ c)
    s.power.target == mSentinel && (loNearest s c f (loMatches s c · f)).isNone
  | _ => false

/-- The vote fails with the voter bits `m`: recorded and counted, and the request waits in back-off. -/
def failVote (s : State) (m : Nat) : State :=
  let s1 := wr (bump s Reg.PWR_SLEEP_SLEEP_CNT 1) Reg.PWR_SLEEP_SLEEP_REFUSED (rd s Reg.PWR_SLEEP_SLEEP_REFUSED ||| m)
  let s2 := closeVote (raise s1 0x5003 m)
  drainDue { s2 with power := { s2.power with backoff := s2.power.backoff + 1 } }

/-- A command needs a block that voter `v` has put into QUIESCED: a refusal by voter HOST. -/
def voteHost (s : State) (v : Nat) : State := if voting s && s.power.accepted.contains v then failVote s 0x100 else s

/-! ### Snapshot (R353) -/

/-- Window offset `o` lies in a block that the snapshot covers. -/
def snapBlock (o : Nat) : Bool :=
  decide (o < 0x10000) || (decide (0x20000 ≤ o) && decide (o < 0x60000)) || (decide (0x80000 ≤ o) && decide (o < 0xB0000)) ||
    (decide (0x100000 ≤ o) && decide (o < 0x800000))

/-- The place of an RW field that the snapshot covers, or of CHORUS_PSI. -/
def snapKey (k : Nat) : Bool :=
  k == Reg.CHORUS_PSI_PSI.key ||
  (snapBlock (k / 32) && match regAt (k / 32) with
    | some fs => fs.any fun f => f.key == k && f.acc == .rw
    | none => false)

def takeSnap (s : State) : State :=
  { s with power := { s.power with snap := some {
      act := s.act.filter fun p => snapKey p.1, hsh := s.hsh.filter fun p => snapKey p.1, events := s.events
      trims := s.cal.trims, orxTrims := s.cal.orxTrims, codes := biases.filter fun i => (s.bias i).host } } }

/-- Window offset `o` lies in tile `t`. -/
def inTile (t o : Nat) : Bool := tileAt (0xF000000000 + o) == some t

/-- The fields of the snapshot whose offset satisfies `f` are rewritten. -/
def putSnap (s : State) (sn : Snap) (f : Nat → Bool) : State :=
  let mine := fun (p : Nat × Nat) => f (p.1 / 32) && snapKey p.1
  { s with act := Tbl.merge (s.act.filter fun p => !mine p) (sn.act.filter mine)
           hsh := Tbl.merge (s.hsh.filter fun p => !mine p) (sn.hsh.filter mine)
           silent := [] }

/-! ### The commit (R349) -/

def rails : List Nat := List.range 5

/-- The rails go to 0.62 V; their ON targets are kept. -/
def railsDown (s : State) : State :=
  forEach rails s fun s r =>
    wr { s with power := { s.power with onTarget := s.power.onTarget.set r 0 (rd s (Reg.PWR_AVS_TARGET r)), avs := s.power.avs.erase r } }
      (Reg.PWR_AVS_TARGET r) 620

/-- The rails return to their last ON targets (R357). -/
def railsUp (s : State) : State :=
  forEach rails s fun s r =>
    let v := s.power.onTarget.get r 0
    if v = 0 then s else wr s (Reg.PWR_AVS_TARGET r) v

/-- What SENTINEL loses: the tiles that go OFF, and every Newt memory (R220). -/
def sentinelLoss (s : State) : State :=
  forEach (enabledTiles s) s fun s t => if domState s (8 + t) = domOff then resetTile s t else s

/-- What BRUMATE keeps: fuses, MTP, flash and AON records, the POWER, RESET and SECURITY registers, the memory die, calibration values, and the
snapshot. -/
def brumateLoss (s : State) : State :=
  let rs := [regsAt 0x10000 0x30000, regsAt 0xB0000 0xB0400, regsAt 0x20 0x24]
  let asleep := (List.range 4).filter fun p => portSt s p == pSleep
  let s1 : State := {
    act := rangesOf s.act rs, fuse := s.fuse, rst := s.rst, flash := s.flash, boot := s.boot, sec := s.sec, free := s.free, pending := s.pending
    absent := s.absent, mem := s.mem.clear dieEnd (2 ^ 50), beam := { arch := s.beam.arch, corrTime := s.beam.corrTime }
    cal := { s.cal with trims := [], orxTrims := [] }, hk := { safe := s.hk.safe }
    units := (List.range 128).foldl (fun t u => t.set u {} { degRx := (s.unit u).degRx, degTx := (s.unit u).degTx }) []
    link := { out := s.link.out, words := s.link.words, started := true, lastUp := s.link.lastUp }
    power := { s.power with brumBal := s.time.bal } }
  wr (forEach asleep s1 fun s p => setPort s p pSleep) Reg.SEC_STATUS_STATE 3

/-- The commit: links to SLEEP, snapshot, self-refresh, rails, and the domains' states of the mode. -/
def sleepCommit (s : State) : State :=
  let t := s.power.target
  let c := s.power.cause
  let s1 := railsDown (hkOff (linkSleep (endSleep s)))
  let s2 := takeSnap (modeDomains (finishMode s1 t c) t)
  if t = mBrumate then brumateLoss s2 else sentinelLoss s2

/-- Voter `v` answers. -/
def voterAnswer (s : State) (v : Nat) : State :=
  if voting s && !s.power.accepted.contains v then
    if voterRefuses s v then failVote s (2 ^ v)
    else
      let s1 : State := { s with power := { s.power with accepted := v :: s.power.accepted } }
      let all := (List.range 8).all fun w => s1.power.accepted.contains w || (w == 7 && s1.power.target == mBrumate)
      if all then sleepCommit (wr s1 Reg.PWR_STATUS_VOTE 2) else s1
  else s

/-! ### Wakes (R351 to R355) -/

/-- Step `n` of Table 16.6 checks domain `d`. -/
def wakeStepOk (d n : Nat) : Bool :=
  (n == 1 && d == 1) || (n == 2 && (d == 0 || (decide (8 ≤ d) && decide (d ≤ 11)))) || (n == 3 && d != 1 && d != 3) || (n == 4 && d == 2)

def sleeping (s : State) : Bool := (modeOf s == mSentinel || modeOf s == mBrumate) && !packageHeld s

/-- The blocks of tile `t` leave STOP with a commit. -/
def tileLeave (s : State) (t : Nat) : State :=
  let s1 := forEach ((List.range 4).map (4 * t + ·)) s fun s c =>
    let a := orxCommit s c
    if clusterRunOk a c && (a.cluster c).stopped then clusterCommit a c else a
  forEach ((List.range 32).map (32 * t + ·)) (tileCommit s1) fun s u =>
    let a := if rxRunOk s u && on s (Reg.UNIT_RX_STATUS_STOPPED u) then rxCommit s u else s
    if txRunOk a u && on a (Reg.UNIT_TX_STATUS_STOPPED u) then txCommit a u else a

/-- Newt memories come back from the retained image (R220). -/
def wakeNewts (s : State) : State :=
  forEach (enabledRegions s) s fun s g => if newtHeld s g || domFailed s (8 + g / 2) then s else restoreNewt s g

/-- What tile `t` takes back beside registers: trims, archived tables and sets. -/
def wakeTile (s : State) (sn : Snap) (t : Nat) : State :=
  let s1 : State := { s with cal := { s.cal with
    trims := Tbl.merge s.cal.trims (sn.trims.range (2048 * t) (2048 * t + 2048))
    orxTrims := Tbl.merge s.cal.orxTrims (sn.orxTrims.range (64 * t) (64 * t + 64)) } }
  let s2 := forEach ((List.range 32).map (32 * t + ·)) s1 archiveLoad
  restoreSets (tileLeave s2 t) t

/-- The tiles that were OFF in SENTINEL and can be powered. -/
def tilesLost (s : State) : List Nat := (enabledTiles s).filter fun t => domState s (8 + t) == domOff && !domFailed s (8 + t)

/-- The restore of a wake from SENTINEL. -/
def restoreSentinel (s : State) (ok : Bool) : State :=
  let lost := tilesLost s
  let sn := (s.power.snap.filter fun _ => ok).getD {}
  let s1 := if ok && s.power.snap.isSome then putSnap s sn fun o => lost.any fun t => inTile t o
            else if lost.isEmpty then s else raise (forEach lost s fun s t => applyInitIn (applyInitIn s (unitOff (32 * t)) (unitOff (32 * t + 32)))
                (tileOff t + 0x1000) (tileOff t + 0x100000)) 0x5007 0
  wakeNewts (forEach lost s1 fun s t => wakeTile s sn t)

/-- The snapshot is rewritten; where it fails its CRC, the wake goes on from the image alone (R353). -/
def putBack (s : State) (o : Option Snap) : State :=
  match o with
  | some sn => wr (putSnap { s with events := sn.events } sn snapBlock) Reg.CHORUS_PSI_PSI (sn.act.get Reg.CHORUS_PSI_PSI.key 0)
  | none => raise s 0x5007 0

/-- The restore of a wake from BRUMATE: the retained image, REG_INIT, the snapshot; then blocks leave STOP with a commit. -/
def restoreBrumate (s : State) (w : Wake) (ok : Bool) : State :=
  let bal := s.power.brumBal + w.elapsed.toNat * 40 * nsUnits
  let s1 := applyInit { s with time := { s.time with bal := bal } }
  let s2 := putBack s1 (if ok then s1.power.snap else none)
  let sn := if ok then s1.power.snap.getD {} else {}
  let s3 := biasLoad (wr s2 Reg.DMA_MEM_STATUS_READY 1)
  let s4 := leaveBoot { s3 with hk := { s3.hk with codeWr := sn.codes } }
  wakeNewts (forEach (enabledTiles s4) s4 fun s t => wakeTile s sn t)

/-- The device is awake again in the state that the mode left had, or SAFE where an essential domain is lost. -/
def wakeRestore (s : State) (w : Wake) : State :=
  let bad := w.fails.filter fun p => wakeStepOk p.1.val p.2.val
  let s1 := forEach bad s fun s p => failDomain s p.1.val p.2.val
  let ok := w.snapOk && !domFailed s1 2
  let s2 := if modeOf s1 = mBrumate then restoreBrumate s1 w ok else restoreSentinel s1 ok
  let s3 := linkWake (hkOn (railsUp s2))
  let s4 : State := { s3 with power := { s3.power with snap := none } }
  if modeOf s1 = mBrumate then selfTests s4 w.testsOk else s4

/-- The wake for `cause` (R354): IDLE, or SAFE (R355). -/
def wakeUp (s : State) (cause : Nat) (w : Wake) : State :=
  let s1 := wakeRestore s w
  if modeOf s1 = mSafe then s1
  else if w.fails.any fun p => p.1.val == 1 && p.2.val == 1 then failStep s1 1 1
  else if essentialFailed s1 then fatal s1 0xF007 0
  else finishMode s1 mIdle cause

/-! ### Sentinel samples (R350, R351) -/

def sentCluster (s : State) : Nat := rd s Reg.PWR_SENT_SENT_CLUSTER
def sentUnits (s : State) : List Nat := (List.range 8).filter fun i => bit (rd s Reg.PWR_SENT_SENT_UNITS) i

/-- A sample runs. -/
def sampling (s : State) : Bool := modeOf s == mSentinel && domState s (8 + sentCluster s / 4) == domOn

/-- The domains return to their sleeping states. -/
def endSample (s : State) : State :=
  if sampling s then
    let c := sentCluster s
    let s1 := gateRegion (setLo s c loOff) (c / 2)
    setDom s1 (8 + c / 4) domRetain
  else s

/-- A sensor's sample: clipped to the measurement range (R334). -/
def clipTemp (t : Int) : Int := if t < -550 then -550 else if 1500 < t then 1500 else t

/-- R337: event 0xF006 with the sensor and Tj, mute cause 8 on every unit, and SAFE. -/
def shutdown (s : State) (ev arg : Nat) : State :=
  let s1 := raise (wr s Reg.THERM_STATUS_LEVEL 3) ev arg
  enterSafe (forEach (enabledUnits s1) s1 fun s u => immediateMute s u 8) ev

/-- A sample of sensor `i` alone in a sleep mode: only the shutdown comparison applies (R338). -/
def sleepSample (s : State) (i : Nat) (t : Int) (w : Wake) : State × Bool :=
  let v := clipTemp t
  let s1 := wr (wr s (Reg.THERM_SENSOR_TEMP i) (code 16 v)) (Reg.THERM_SENSOR_VALID i) 1
  if 1250 ≤ v then
    let s2 := wakeRestore (endSample s1) w
    (shutdown (wr (wr s2 Reg.THERM_STATUS_HOT i) Reg.THERM_STATUS_TJ (code 16 v)) 0xF006 (i + 65536 * code 16 v), true)
  else (s1, false)

/-- A sample begins: the tile leaves RETAIN, the cluster's sensor is read, the island is on, the LO is searched, and the listed units receive. -/
def beginSample (s : State) (t : Int) (w : Wake) : State :=
  let c := sentCluster s
  if modeOf s = mSentinel ∧ domState s (8 + c / 4) = domRetain ∧ !domFailed s (12 + c / 2) ∧ !packageHeld s then
    let r := sleepSample (setDom s (8 + c / 4) domOn) c t w
    if r.2 then r.1
    else
      let s1 := loSearch (wakeRegion r.1 (c / 2)) c
      forEach (sentUnits s1) s1 fun s i => wr (wakeRx s (8 * c + i)) (Reg.UNIT_RX_STATUS_GAIN_IDX (8 * c + i)) (rd s Reg.PWR_SENT_SENT_IDX)
  else s

/-- How many NOW values pass until `n` hits in a row have been seen; `none` where they are not. -/
def hitsAt (thr n : Nat) : Nat → Nat → List (BitVec 8 × Bool) → Option Nat
  | _, _, [] => none
  | i, run, (c, ovr) :: r =>
    let run' := if ovr || decide (c.toNat ≤ thr) then run + 1 else 0
    if n ≤ run' then some i else hitsAt thr n (i + 1) run' r

/-- The unit that a window detects: the earliest, and of equally early ones the lowest. -/
def detected (s : State) (nows : List (List (BitVec 8 × Bool))) : Option Nat :=
  let hits := (sentUnits s).filterMap fun i =>
    (hitsAt (rd s Reg.PWR_SENT2_SENT_THR) (atLeast1 (rd s Reg.PWR_SENT_SENT_HITS)) 0 0 (nows.getD i [])).map fun at0 => (at0, 8 * sentCluster s + i)
  match hits with
  | [] => none
  | h :: r => some (r.foldl (fun (a : Nat × Nat) b => if b.1 < a.1 then b else a) h).2

/-! ### The commands' meanings -/

/-- VOTER_ANSWER (R348) of voter `v` of Table 16.3. -/
def execVoterAnswer (v : Fin 8) (s : State) : Host.Outcome State Fault Refusal := .next (voterAnswer s v)

/-- SLEEP_VOTE_TIMEOUT (R348). -/
def execSleepVoteTimeout (s : State) : Host.Outcome State Fault Refusal :=
  .next (if voting s then
      failVote s (((List.range 8).filter fun v => !s.power.accepted.contains v && !(v == 7 && s.power.target == mBrumate)).foldl (fun m v => setBit m v) 0x200)
    else s)

/-- SLEEP_RETRY (R346). -/
def execSleepRetry (s : State) : Host.Outcome State Fault Refusal :=
  .next (if rd s Reg.PWR_STATUS_VOTE = 3 ∧ on s Reg.PWR_STATUS_SLEEP_PEND ∧ modeOf s = mIdle ∧ !modeBusy s then openVote s else s)

/-- CANCEL (R346). -/
def execCancel (s : State) : Host.Outcome State Fault Refusal := .next (dropSleep s)

/-- MODE_SCHEDULE_DUE (R347) of entry `i`. -/
def execModeScheduleDue (i : BitVec 16) (s : State) : Host.Outcome State Fault Refusal :=
  .next (if packageHeld s then s
    else if modeBusy s ∧ modeOf s ≠ mBoot then { s with power := { s.power with due := s.power.due ++ [i.toNat] } }
    else scheduleAct s i.toNat)

/-- LINK_WAKE_PATTERN (R238). -/
def execLinkWakePattern (w : Wake) (s : State) : Host.Outcome State Fault Refusal :=
  .next (if sleeping s then wakeUp (endSample s) 4 w else s)

/-- WAKE_PIN (R352). -/
def execWakePin (w : Wake) (s : State) : Host.Outcome State Fault Refusal :=
  .next (if sleeping s ∧ modeOf s = mBrumate ∧ on s Reg.PWR_BRUM_WAKE_PIN_EN then wakeUp s 5 w else s)

/-- Schedule entry `i` wakes the device: its TARGET is another mode, and it has not acted for good. -/
def scheduleWakes (s : State) (i : Nat) : Bool :=
  match scheduleEntry s i with
  | some (_, period, t) => t != modeOf s && !(period == 0 && s.power.acted.contains i)
  | none => false

/-- AON_TIMER (R347, R352): the timer of BRUM_TIMER, or of a schedule entry, which then makes its request as in IDLE. -/
def execAonTimer (entry : Option (BitVec 16)) (w : Wake) (s : State) : Host.Outcome State Fault Refusal :=
  .next (match entry with
    | none => if sleeping s ∧ modeOf s = mBrumate ∧ rd s Reg.PWR_BRUM_BRUM_TIMER ≠ 0 then wakeUp s 6 w else s
    | some i =>
      if sleeping s && scheduleWakes s i.toNat then
        let s1 := wakeUp (endSample s) 6 w
        if modeOf s1 = mIdle then scheduleAct s1 i.toNat else s1
      else s)

/-- SENTINEL_SAMPLE (R350, R338): `temp` is the cluster sensor's sample. -/
def execSentinelSample (temp : BitVec 16) (w : Wake) (s : State) : Host.Outcome State Fault Refusal := .next (beginSample s temp.toInt w)

/-- SENTINEL_WINDOW_END (R351): the NOW values of each unit position, with over-range marks. -/
def execSentinelWindowEnd (nows : List (List (BitVec 8 × Bool))) (w : Wake) (s : State) : Host.Outcome State Fault Refusal :=
  .next (if sampling s then
      match loState s (sentCluster s) == loLocked, detected s nows with
      | true, some u => wakeUp (raise (endSample s) 0x5008 u) 3 w
      | _, _ => endSample s
    else s)

/-- WAKE_STEP_TIMEOUT (R354): step `n` of Table 16.6 for domain `d`, in steps 3 and 5 of a start, in a sentinel sample, or in an on-demand wake. -/
def execWakeStepTimeout (n : Fin 5) (d : Fin 20) (s : State) : Host.Outcome State Fault Refusal :=
  .next (
    let st := domState s d
    let asleep := st == domQuiesced || st == domPowerDown || st == domGated || st == domRetain
    let now := (starting s && ((stepNow s == 3 && decide (d.val < 8)) || (stepNow s == 5 && decide (8 ≤ d.val)))) ||
      (!packageHeld s && modeOf s != mBoot && asleep) || (sampling s && d.val == 8 + sentCluster s / 4)
    if now && wakeStepOk d n then failStep s d n else s)

/-- THERM_SLEEP_SAMPLE (R338, R378): the hub sensor. -/
def execThermSleepSample (temp : BitVec 16) (w : Wake) (s : State) : Host.Outcome State Fault Refusal :=
  .next (if sleeping s then hubTamper (sleepSample s 20 temp.toInt w).1 temp.toInt else s)

end Sys2Proof.Machine
end

