-- ==== Sys2Proof/Machine/Power.lean ====
section
/-! DEFINITION. Idle timers and on-demand wakes, the adaptive voltage loop, supply stages and residency (spec/16_power.md, R345, R356 to
R362). -/

namespace Sys2Proof.Machine

/-! ### On-demand sleep and wake (R345) -/

/-- The tile that capture channel `n`'s source lies in. -/
def capTile (s : State) (n : Nat) : Nat :=
  let k := capKind (rd s) n
  let i := capIndex (rd s) n
  if k = 2 ∨ k = 3 ∨ k = 7 then i / 4 else i / 32

/-- A context of core `g` uses its tile and the die: a running kernel or a vendor service. -/
def newtUses (s : State) (g : Nat) : Bool :=
  uState s g == uRunning || s.beam.job.isSome || (unitsOfRegion g).any fun u => (s.unit u).tx.adapt != .idle || (s.unit u).tx.train.isSome

/-- Domain `d` (MEM or a tile) is in use by DMA, capture or a Newt context. -/
def domainUsed (s : State) (d : Nat) : Bool :=
  ((List.range 16).any fun n => dmaSt s n == dRun && dmaTouches s n (inDomain d)) ||
  ((List.range 16).any fun n => capRuns s n && (d == 2 || capTile s n == d - 8)) ||
  (enabledRegions s).any fun g => (d == 2 || g / 2 == d - 8) && newtUses s g

/-- An idle timer of domain `d` ends in IDLE. -/
def idleDown (s : State) (d st : Nat) : State :=
  if modeOf s = mIdle ∧ domState s d = domOn ∧ domEnabled s d ∧ !domainUsed s d then setDom s d st else s

/-- The memory die is shed by a supply stage (R306). -/
def memShed (s : State) : Bool := domState s 2 == domSelfRefresh

/-- Domain `d` is ready after an on-demand wake: its channels go on, and a region's waiting LO calibrations begin. -/
def domainReady (s : State) (d : Nat) : State :=
  if domFailed s d || !domEnabled s d then s
  else if d = 2 then (if domState s 2 = domPowerDown then dmaDomainUp (setDom s 2 domOn) inDie else s)
  else if 8 ≤ d ∧ d ≤ 11 then (if domState s d = domQuiesced then dmaDomainUp (setDom s d domOn) (inDomain d) else s)
  else if 12 ≤ d ∧ d - 12 ∈ s.power.woken then
    let mine := s.power.precal.filter fun p => p.1 / 2 == d - 12
    let s1 : State := { s with power := { s.power with precal := s.power.precal.filter fun p => p.1 / 2 != d - 12 } }
    regionRest (forEach mine (wakeRegion s1 (d - 12)) fun s p => loPrecal s p.1 p.2) (d - 12)
  else s

/-! ### Adaptive voltage (R357, R358) -/

/-- The rail's die is ON. -/
def railOn (s : State) (r : Nat) : Bool := domState s (if r = 4 then 0 else 8 + r) == domOn && domEnabled s (if r = 4 then 0 else 8 + r)

/-- One pass of the loop of rail `r` with `slack` ps. -/
def avsRail (s0 : State) (r : Nat) (slack : Int) : State :=
  let s : State := { s0 with power := { s0.power with avs := s0.power.avs.erase r } }
  if railOn s r && on s (Reg.PWR_AVS_EN r) then
    let t := rd s (Reg.PWR_AVS_TARGET r)
    let low := decide (slack < 5 * rd s (Reg.PWR_AVS_AVS_LO r))
    let high := decide (5 * rd s (Reg.PWR_AVS_AVS_HI r) < slack)
    let n := min 850 (max 620 (if low then t + 5 else if high then t - 5 else t))
    let s1 := if t = 850 ∧ low then stickyEvent s Reg.PWR_STATUS_LIMIT 0x5005 0 else s
    if n = t then s1
    else wr { s1 with power := { s1.power with avs := s1.power.avs.set r (0, 0) (t, 0) } } (Reg.PWR_AVS_TARGET r) n
  else s

/-- A rail change is not acknowledged in time; `nak` says that the write's SlaveAck was not 0b00. -/
def avsLate (s : State) (r : Nat) (nak : Bool) : State :=
  match s.power.avs.find? fun p => p.1 == r with
  | none => s
  | some (_, old, n) =>
    let s1 := if nak then bump s (Reg.PWR_AVS_NAK_CNT r) 1 else s
    if n < 3 then { s1 with power := { s1.power with avs := s1.power.avs.set r (0, 0) (old, n + 1) } }
    else raise (wr { s1 with power := { s1.power with avs := s1.power.avs.erase r } } (Reg.PWR_AVS_TARGET r) old) 0x5006 0

/-! ### Residency (R362) -/

/-- TX paths of region `g` that are gated now. -/
def gatedPaths (s : State) (g : Nat) : Nat := ((unitsOfRegion g).filter fun u => on s (Reg.UNIT_TX_STATUS_GATED u)).length

/-- One millisecond of residency; TXGATE is formed each second. -/
def residency (s : State) : State :=
  let inc := fun (s : State) (f : Fld) => wr s f (rd s f + 1)
  let s1 := inc s (Reg.PWR_RES_MODE_RES (modeOf s))
  let s2 := forEach (enabledRegions s1) s1 fun s g =>
    let a := if domState s (12 + g) = domGated then inc s (Reg.PWR_RES_REGION_RES g) else s
    { a with power := { a.power with gated := a.power.gated.set g 0 (a.power.gated.get g 0 + gatedPaths a g) } }
  let n := s2.power.ticks + 1
  if n < 1000 then { s2 with power := { s2.power with ticks := n } }
  else
    let s3 := forEach (enabledRegions s2) s2 fun s g => wr s (Reg.PWR_TXGATE_TXGATE g) (min 255 (s.power.gated.get g 0 * 16 / 1000))
    { s3 with power := { s3.power with ticks := 0, gated := [] } }

/-! ### Supply stages (R359, R360) -/

/-- The memory-die fabric is shed once every core has fallen back (R213, R306). -/
def shedMem (s : State) : State :=
  let s1 := enterFallback s
  if domState s1 2 = domOff then s1 else dmaDomainDown (memRefresh (setDom s1 2 domSelfRefresh) true) inDie

/-- Adaptation stops under S2 (Table 4.6), and the solver (R154). -/
def freezeS2 (s : State) : State :=
  let s1 := forEach (enabledRegions s) s fun s g => wr s (Reg.REGION_ADAPT_STATUS_FROZEN_S2 g) 1
  let s2 := raise (forEach (enabledUnits s1) s1 fun s u => s.modTx u fun x => { x with adapt := .idle }) 0x2013 0
  match s2.beam.job with
  | none => s2
  | some (job, _, _) =>
    let s3 := forTiles { s2 with beam := { s2.beam with job := none } } fun s t => wr s (Reg.SOLVER_STATUS_BUSY t) 0
    raise (solveResult s3 job 2) 0x2036 0

/-- The actions of stage `k` alone. -/
def stageAction (s : State) (k : Nat) (acked : Bool) : State :=
  match k with
  | 1 => capStageStop s
  | 2 =>
    let s1 := freezeS2 (capStopAll (closeVote s) fun n => n == 15)
    let s2 := forEach (enabledRegions s1) s1 fun s g => s.modNewt g fun x => { x with fallReq := true }
    if acked then shedMem s2 else s2
  | 4 =>
    let s1 := forEach (enabledUnits s) (closeVote s) fun s u => immediateMute s u 7
    biasAll (forEach (enabledRegions s1) s1 gateRegion)
  | 5 => { s with beam := { s.beam with work := [] } }
  | _ => s

/-- Stage `k` is entered by `rail` (Table 16.7), with the actions of every shallower one. -/
def stageEnter (s : State) (k rail : Nat) (acked : Bool) : State :=
  let cur := stageOf s
  if k ≤ cur then s
  else
    let s1 := raise (wr s Reg.PWR_STATUS_STAGE k) 0x5001 (k + 256 * rail)
    forEach ((List.range (k - cur)).map (cur + 1 + ·)) s1 fun s j => stageAction s j acked

/-- The stage in force is restored: the next shallower one is in force. -/
def stageRestore (s : State) : State :=
  let k := stageOf s
  if k = 0 then s
  else
    let s1 := raise (wr s Reg.PWR_STATUS_STAGE (k - 1)) 0x5002 (k + 0xF00)
    if k = 4 then biasRestore (forEach (enabledUnits s1) s1 fun s u => dropCause s u 7)
    else if k = 2 then
      let s2 := if domState s1 2 = domSelfRefresh then memRefresh (setDom s1 2 domOn) false else s1
      let s3 := forEach (enabledRegions s2) s2 fun s g => wr s (Reg.REGION_ADAPT_STATUS_FROZEN_S2 g) 0
      dmaDomainUp (leaveFallback s3) inDie
    else s1

/-! ### The commands' meanings -/

/-- TILE_IDLE_TIMEOUT (R345). -/
def execTileIdleTimeout (t : Fin 4) (s : State) : Host.Outcome State Fault Refusal := .next (idleDown s (8 + t) domQuiesced)

/-- MEM_IDLE_TIMEOUT (R345). -/
def execMemIdleTimeout (s : State) : Host.Outcome State Fault Refusal := .next (idleDown s 2 domPowerDown)

/-- DOMAIN_WAKE_DONE (R345). -/
def execDomainWakeDone (d : Fin 20) (s : State) : Host.Outcome State Fault Refusal := .next (if packageHeld s then s else domainReady s d)

/-- AVS_LOOP (R357, R362): the slack of each rail in ps; the same millisecond counts residency. -/
def execAvsLoop (slack : List (BitVec 16)) (s : State) : Host.Outcome State Fault Refusal :=
  .next (if packageHeld s then s
    else residency (forEach rails s fun s r => match slack[r]? with | some v => avsRail s r v.toInt | none => s))

/-- AVS_ACK_TIMEOUT (R358). -/
def execAvsAckTimeout (r : Fin 5) (nak : Bool) (s : State) : Host.Outcome State Fault Refusal := .next (avsLate s r nak)

/-- SUPPLY_STAGE_ENTER (R359): stage 1 to 5, or 6 for BROWNOUT, by the rail that crossed; `acked`: every core acknowledges the fall-back at once.
In SENTINEL and BRUMATE only BROWNOUT applies (R360). -/
def execSupplyStageEnter (stage : Fin 7) (rail : Fin 11) (acked : Bool) (s : State) : Host.Outcome State Fault Refusal :=
  .next (if stage.val = 6 then sourceOn s 2
    else if packageHeld s ∨ modeOf s = mSentinel ∨ modeOf s = mBrumate then s
    else stageEnter s stage rail acked)

/-- SUPPLY_STAGE_RESTORE (R360). -/
def execSupplyStageRestore (s : State) : Host.Outcome State Fault Refusal := .next (if packageHeld s then s else stageRestore s)

/-- FALLBACK_ACK_TIMEOUT (R213): the fabric is shed after 2 µs whether or not every core has acknowledged. -/
def execFallbackAckTimeout (s : State) : Host.Outcome State Fault Refusal :=
  .next (if (enabledRegions s).any fun g => (s.newt g).fallReq then shedMem s else s)

/-- RES_CLR (R362). -/
def execResClr (s : State) : Host.Outcome State Fault Refusal :=
  .next (forEach (List.range 8) s fun s i => wr (wr s (Reg.PWR_RES_MODE_RES i) 0) (Reg.PWR_RES_REGION_RES i) 0)

end Sys2Proof.Machine
end

