-- ==== Sys2Proof/Machine/Access.lean ====
section
/-! DEFINITION. Accesses to device addresses (spec/00_scope.md, R5 to R9; spec/01_architecture.md, R30, R31; spec/06_beamforming.md, R157, R158;
spec/09_newt_cores.md, R203, R204; spec/14_dma_and_memory.md, R302, R306; spec/16_power.md, R345): the address map, register reads and writes with what
each write starts, and the wakes that an access asks for. -/

namespace Sys2Proof.Machine

/-- Who accesses: a link command, with the role of the key that authenticated it (0 none), the DMA engine, or a context of a Newt core. -/
inductive Initiator where
  | link (role : Nat)
  | dma
  | newt (g : Nat) (user : Bool)
  deriving DecidableEq, Repr

/-- The vendor firmware of a core, which owns what is read-only to the host (R98, R320). -/
def Initiator.vendor : Initiator → Bool
  | .newt _ u => !u
  | _ => false

def Initiator.role : Initiator → Nat
  | .link r => r
  | _ => 0

/-! ### The address map (Table 1.10) -/

inductive Target where
  | err
  | die (a : Nat)
  | pad
  | reg (o : Nat)
  deriving DecidableEq, Repr

def winBase : Nat := 0xF000000000

/-- Offsets that Table 1.11 reserves between blocks. -/
def windowGap (o : Nat) : Bool :=
  (decide (0xC0000 ≤ o) && decide (o < 0x100000)) || (decide (0x280000 ≤ o) && decide (o < 0x300000)) ||
    (decide (0x380000 ≤ o) && decide (o < 0x400000))

def target (a : Nat) : Target :=
  if a < dieEnd then .die a
  else if 0xE000000000 ≤ a ∧ a < 0xE004000000 then .pad
  else if winBase ≤ a ∧ a < winBase + 0x1000000 ∧ !windowGap (a - winBase) then .reg (a - winBase)
  else .err

/-! ### Which registers exist (R6) -/

def presentReg (o : Nat) : Bool := o % 4 == 0 && decide (0x40 ≤ o) && decide (o < 0x50)

/-- Shared-page offsets of the registers that each tile holds for itself (R158): WSET_STATUS, SOLVER_STATUS, BF_COUNT2. -/
def combined (o : Nat) : Bool :=
  let d := sharedOff o - 0x400000
  (tileBlkAt o).isSome && decide (o % 0x100000 < 0x1000) && ((decide (0x140 ≤ d) && decide (d < 0x180)) || d == 0x204 || d == 0x208)

/-- Tile `t`'s own copy of the combined register at shared-page offset `o`. -/
def tileCopy (o t : Nat) : List Fld := (regAt (sharedOff o + 0x2000 + 0x100000 * t)).getD []

/-- A tile's read-only copy (R158). -/
def isCopy (o : Nat) : Bool :=
  let d := o % 0x100000
  (tileBlkAt o).isSome && ((decide (0x2140 ≤ d) && decide (d < 0x2180)) || d == 0x2204 || d == 0x2208)

/-- The offset lies in a memory or in the register view of a Newt core (Table 9.2). -/
def newtPlain (o : Nat) : Bool :=
  let d := o % 0x100000
  (newtAt o).isSome && (decide (d < 0x40000) || (decide (0x41000 ≤ d) && decide (d < 0x4110C)) || decide (0x80000 ≤ d))

/-- The manual defines a register at offset `o`. -/
def defined (o : Nat) : Bool := presentReg o || combined o || newtPlain o || (fieldsAt o).isSome

/-! ### Newt core windows (R203, R204) -/

/-- SR as a word (Table 9.3). -/
def srWord (c : CtxS) : Nat :=
  b2n c.z + 2 * b2n c.n + 4 * b2n c.c + 8 * b2n c.v + 16 * b2n c.sat + 32 * b2n c.aov + 256 * c.loops.length + 65536 * c.calls.length

/-- Word `k` of the user register view. -/
def viewRead (x : NewtS) (k : Nat) : Nat :=
  let c := x.view
  if k < 16 then c.x.get k 0
  else if k < 32 then
    let v := code 40 ((if k % 4 < 2 then c.ar else c.ai).get ((k - 16) / 4) 0)
    if k % 2 = 0 then v % 2 ^ 32 else code 32 (sgn 8 (v / 2 ^ 32))
  else if k < 40 then c.p.get (k - 32) 0
  else if k < 48 then c.m.get (k - 40) 0
  else if k < 56 then x.bSh.get (k - 48) 0
  else if k < 64 then x.lSh.get (k - 56) 0
  else if k = 64 then c.wb
  else if k = 65 then srWord c
  else c.pc

/-- Replace the low or the high part of a 40-bit accumulator. -/
def accPart (old : Int) (high : Bool) (v : Nat) : Int :=
  let o := code 40 old
  sgn 40 (if high then v % 256 * 2 ^ 32 + o % 2 ^ 32 else o / 2 ^ 32 * 2 ^ 32 + v)

/-- Write word `k` of the view: stack depths are not written. -/
def viewWrite (x : NewtS) (k v : Nat) : NewtS :=
  let c := x.view
  let a4 := v / 4 * 4
  if k < 16 then { x with view := { c with x := c.x.set k 0 v } }
  else if k < 32 then
    let a := (k - 16) / 4
    if k % 4 < 2 then { x with view := { c with ar := c.ar.set a 0 (accPart (c.ar.get a 0) (k % 2 == 1) v) } }
    else { x with view := { c with ai := c.ai.set a 0 (accPart (c.ai.get a 0) (k % 2 == 1) v) } }
  else if k < 40 then { x with view := { c with p := c.p.set (k - 32) 0 a4 } }
  else if k < 48 then { x with view := { c with m := c.m.set (k - 40) 0 a4 } }
  else if k < 56 then { x with bSh := x.bSh.set (k - 48) 0 a4 }
  else if k < 64 then { x with lSh := x.lSh.set (k - 56) 0 v }
  else if k = 64 then { x with view := { c with wb := v % 4096 } }
  else if k = 65 then
    { x with view := { c with z := bit v 0, n := bit v 1, c := bit v 2, v := bit v 3, sat := bit v 4, aov := bit v 5 } }
  else { x with view := { c with pc := v % 32768 } }

/-- The byte address in `mem` of window offset `d` of core `g`: XM, YM, PM, or the page of region memory. -/
def windowMem (s : State) (g d : Nat) : Nat :=
  if d < 0x20000 then newtBase g + d
  else if d < 0x40000 then pmAddr g 0 + (d - 0x20000)
  else newtBase g + 0x100000 + rd s (Reg.NEWT_HOST_RM_PAGE g) * 0x80000 + (d - 0x80000)

/-- A host write to the core's memories is made (R203). -/
def windowWritable (s : State) (g d : Nat) : Bool :=
  if d < 0x20000 then decide (0xC000 ≤ d % 0x10000)
  else if d < 0x40000 then decide (0x38000 ≤ d) && modeOf s == mDiag && uState s g == uStopped
  else decide (0x280000 ≤ windowMem s g d - newtBase g)

/-- A read of the window's plain words. -/
def newtRead (s : State) (g d : Nat) : Nat :=
  if 0x41000 ≤ d ∧ d < 0x42000 then viewRead (s.newt g) ((d - 0x41000) / 4) else memWord s (windowMem s g d)

/-- A write there: what R203 and R204 do not allow is not made and is recorded. A write to PM invalidates the loop cache. -/
def newtWrite (s : State) (i : Initiator) (g d v : Nat) : State :=
  if 0x41000 ≤ d ∧ d < 0x42000 then
    if modeOf s = mDiag ∧ uState s g = uStopped then s.modNewt g fun x => viewWrite x ((d - 0x41000) / 4) v
    else cfgIgnored s (newtOff g + d)
  else
    let own := match i with | .newt _ _ => true | _ => false
    if own || windowWritable s g d then
      let s1 := setMemWord s (windowMem s g d) v
      if 0x20000 ≤ d ∧ d < 0x40000 then s1.modNewt g fun x => { x with cache := none } else s1
    else cfgIgnored s (newtOff g + d)

/-! ### Register reads -/

/-- Fields whose value follows other state are refreshed before a read. -/
def refreshReg (s : State) (o : Nat) : State :=
  if 0x40000 ≤ o ∧ o < 0x50000 then refreshTime s
  else match newtAt o with
    | some g => rollLoad s g
    | none => s

/-- The seconds since the oldest correction of tile `t`'s units, saturating; 0xFFFF where one has none. -/
def recipAge (s : State) (t : Nat) : Nat :=
  ((List.range 32).map (32 * t + ·)).foldl (fun a u =>
    if unitWhole s u then (if bit (rd s (Reg.CORR_VALID_VALID t)) (u % 32) then max a (min (corrAge s u) 0xFFFF) else 0xFFFF) else a) 0

/-- What field `f` of the register at offset `o` shows. -/
def showField (s : State) (o : Nat) (f : Fld) : Nat :=
  if f = Reg.DEVICE_INFO_GRADE then s.fuse.grade
  else if f = Reg.DEVICE_INFO_STEPPING then s.fuse.stepping
  else if f = Reg.REACH_MAP_NRST_IN then reachOf s 1
  else if f = Reg.REACH_MAP_WDOG then reachOf s 4
  else if f = Reg.REACH_MAP_HOST_CAP then hostCap s
  else if f = Reg.REACH_MAP_JTAG then reachOf s 7
  else if f = Reg.REACH_MAP_TILE_FAULT then reachOf s 8
  else if f = Reg.ESC_TAG_TAG then tagOf (symNow s)
  else if f = Reg.ESC_STATUS_QUEUE_USED then s.air.queue.length
  else if f = Reg.POOL_STATUS_EVT_QUEUED then s.events.entries.length
  else match unitAt o, clusterAt o, tileBlkAt o with
    | some u, _, _ =>
      if f = Reg.UNIT_DPD_TBL_DATA_DATA u then tblDataValue s u
      else if f = Reg.UNIT_DPD_CTRL_SHADOW_READY u then rd s (Reg.UNIT_DPD_STATUS_SHD_PEND u)
      else fieldShow s f
    | _, some c, _ => if f = Reg.CLUSTER_TRIM_DATA_VALUE c then trimRead s c else fieldShow s f
    | _, _, some t => if f = Reg.SOLVER_STATUS_RECIP_AGE t then recipAge s t else fieldShow s f
    | _, _, _ =>
      if 0x61000 ≤ o ∧ o < 0x70000 ∧ f = Reg.DMA_CH_RING_LO_BASE_LO ((o - 0x61000) / 0x40) then fieldShow s f / 32 * 32
      else if 0x32000 ≤ o ∧ o < 0x32200 ∧ f.lo = 17 then b2n (pwmZero s ((o - 0x32000) / 4)) else fieldShow s f

def showWord (s : State) (o : Nat) (fs : List Fld) : Nat := fs.foldl (fun a f => a + showField s o f % 2 ^ f.width * 2 ^ f.lo) 0

/-- How R158 combines a field of the combined registers over the enabled tiles. -/
inductive Comb where
  | any | all | largest | sum | lowest | fails
  deriving DecidableEq, Repr

def combOf (d lo : Nat) : Comb :=
  if d = 0x208 then .sum
  else if d = 0x204 then (if lo = 2 then .all else if lo = 3 then .any else if lo = 8 then .sum else if lo = 16 then .largest else .lowest)
  else if lo = 0 then .all else if lo ≤ 5 then .any else if lo = 8 then .fails else if lo = 12 then .largest else .lowest

/-- One field of a combined register. -/
def combField (s : State) (o k : Nat) (f : Fld) : Nat :=
  let ts := enabledTiles s
  let at' := fun t => showField s (sharedOff o + 0x100000 * t) ((tileCopy o t).getD k f)
  match combOf (sharedOff o - 0x400000) f.lo with
  | .any => b2n (ts.any fun t => at' t == 1)
  | .all => b2n (ts.all fun t => at' t == 1)
  | .largest => ts.foldl (fun a t => max a (at' t)) 0
  | .sum => min (ts.foldl (fun a t => a + at' t) 0) (2 ^ f.width - 1)
  | .lowest => at' 0
  | .fails => match ts.find? fun t => showField s o ((tileCopy o t).getD 2 f) == 1 with
    | some t => at' t
    | none => 0

def combWord (s : State) (o : Nat) : Nat :=
  ((tileCopy o 0).zipIdx).foldl (fun a x => a + combField s o x.2 x.1 * 2 ^ x.1.lo) 0

/-- RC fields read clear (R7). -/
def clearRc (s : State) (fs : List Fld) : State := forEach fs s fun s f => if f.acc = .rc then wr s f 0 else s

/-- What a read changes besides RC fields. -/
def readHook (s : State) (o : Nat) : State :=
  if o = Reg.RESET_CAUSE_BLK_BLK_ID.off then { s with rst := { s.rst with blkSeen := false } }
  else if 0x90000 ≤ o ∧ o < 0xA0000 then
    match (List.range 4).find? fun p => o == (Reg.POOL_ERR_HDR_ERR p).off with
    | some p => { s with pool := { s.pool with noRoute := s.pool.noRoute.filter (· != p) } }
    | none => s
  else match unitAt o with
    | some u => if o = (Reg.UNIT_DPD_TBL_DATA_DATA u).off then wordAdvance s u else s
    | none => s

/-- Read the register word at window offset `o` (R6, R7, R9). -/
def readReg (s0 : State) (o : Nat) : Nat × State :=
  let s := refreshReg s0 o
  if gradeOff s o then (0, s)
  else if presentReg o then
    ((List.range 32).foldl (fun a b => a + b2n (unitPresent s (8 * (o - 0x40) + b)) * 2 ^ b) 0, s)
  else if combined o then (combWord s o, forEach (enabledTiles s) s fun s t => clearRc s (tileCopy o t))
  else if newtPlain o then (newtRead s ((newtAt o).getD 0) (o % 0x100000), s)
  else match fieldsAt o with
    | none => (0, s)
    | some fs => (showWord s o fs, readHook (if isCopy o then s else clearRc s fs) o)

/-! ### Register writes -/

/-- A reset source holds the block that offset `o` lies in. A write to it has no effect (DESIGN CHOICE, log 48). -/
def offHeld (s : State) (o : Nat) : Bool :=
  let held := fun b t => s.rst.sources.any fun r => srcCoversBlk r b t
  match unitAt o, clusterAt o, newtAt o, tileBlkAt o with
  | some u, _, _, _ => s.rst.sources.any fun r => srcCoversUnit r u
  | _, some c, _, _ => held (0x100 + c) (some (c / 4))
  | _, _, some g, _ => held (0x200 + g) (some (g / 2))
  | _, _, _, some t => decide (0x1000 ≤ o % 0x100000) && held (0x400 + t) (some t)
  | _, _, _, _ =>
    if 0x60000 ≤ o ∧ o < 0x70000 then held 0x300 none
    else if 0x70000 ≤ o ∧ o < 0x80000 then held 0x301 none
    else if 0x80000 ≤ o ∧ o < 0x90000 then held (0x310 + (o - 0x80000) / 0x4000) none
    else if 0xA0000 ≤ o ∧ o < 0xB0000 then held 0x302 none
    else false

/-- The sequence whose registers lie at offset `o`: converter and number. -/
def hkSeqAt (o : Nat) : Option (Nat × Nat) :=
  if 0x30010 ≤ o ∧ o < 0x30030 then some ((o - 0x30010) / 16, (o - 0x30010) % 16 / 4)
  else if 0x30100 ≤ o ∧ o < 0x30500 then some ((o - 0x30100) / 0x200, (o - 0x30100) % 0x200 / 0x80)
  else none

/-- The block or part of a block that offset `o` lies in is in STOP, for its class S fields (R9). -/
def inStop (s : State) (o : Nat) : Bool :=
  match unitAt o, clusterAt o, newtAt o, hkSeqAt o with
  | some u, _, _, _ =>
    on s (if o % 0x1000 < 0x100 ∨ (0x400 ≤ o % 0x1000 ∧ o % 0x1000 < 0x600) then Reg.UNIT_RX_STATUS_STOPPED u else Reg.UNIT_TX_STATUS_STOPPED u)
  | _, some c, _, _ => (s.cluster c).stopped
  | _, _, some g, _ => uState s g == uEmpty || uState s g == uStopped || uState s g == uFault
  | _, _, _, some (k, q) => !on s (Reg.HK_SEQ_EN k q)
  | _, _, _, _ =>
    if 0x50000 ≤ o ∧ o < 0x60000 then !escRunning s
    else if 0x80000 ≤ o ∧ o < 0x90000 then rd s (Reg.LINK_STATUS_STATE ((o - 0x80000) / 0x4000)) == 6
    else modeOf s == mBoot

/-- Codes that no write makes (Tables 5.10 and 10.2). -/
def badCode (f : Fld) (o v : Nat) : Bool :=
  v == 3 && (f == Reg.ESC_CTRL_MU || (decide (0x80000 ≤ o) && decide (o < 0x90000) && f == Reg.LINK_CTRL_RATE ((o - 0x80000) / 0x4000)))

/-- The write to `f` is not made and is recorded (R9, R325). A test converter field outside DIAG counts as a static field of a block that runs. -/
def notMade (s : State) (o : Nat) (f : Fld) (v : Nat) : Bool :=
  badCode f o v ||
  (f.acc == .rw && f.cls == .S && !inStop s o && rd s f != v) ||
  ((f == Reg.HK_CTRL_TDAC_CODE || f == Reg.HK_CTRL_TDAC_OUT) && modeOf s != mDiag && rd s f != v)

/-- Fields that the hook of their register writes itself. -/
def hookField (o : Nat) (f : Fld) : Bool :=
  f == Reg.MODE_REQ_TARGET ||
  (match unitAt o, clusterAt o with
   | some u, _ => f == Reg.UNIT_DPD_TBL_DATA_DATA u || (decide (0x400 ≤ o % 0x1000) && decide (o % 0x1000 < 0x600))
   | _, some c => f == Reg.CLUSTER_TRIM_DATA_VALUE c
   | _, _ => false) ||
  (match hkSeqAt o with | some (k, q) => f == Reg.HK_SEQ_EN k q | none => false) ||
  (decide (0x80000 ≤ o) && decide (o < 0x90000) && f == Reg.LINK_CTRL_EN ((o - 0x80000) / 0x4000)) ||
  (decide (0x61000 ≤ o) && decide (o < 0x70000) && f == Reg.DMA_CH_CTRL_PAUSE ((o - 0x61000) / 0x40))

/-- One field of a written word, by access code and class (R7, R9). -/
def writeField (s : State) (o : Nat) (f : Fld) (v : Nat) : State :=
  if hookField o f || notMade s o f v then s
  else match f.acc, f.cls with
    | .rw, .H => writeShadow s f v
    | .rw, _ => wr s f v
    | .w1c, _ => wr s f (rd s f - (rd s f &&& v))
    | _, _ => s

/-- Every field of the register at offset `o`; what is not made is recorded once. -/
def writeFields (s : State) (o : Nat) (fs : List Fld) (v : Nat) : State :=
  let bad := fs.any fun f => !hookField o f && notMade s o f (fieldOf f v)
  let s1 := corrTouched (forEach fs s fun t f => if notMade s o f (fieldOf f v) then t else writeField t o f (fieldOf f v)) o
  if bad then cfgIgnored s1 (sharedOff o) else s1

/-! ### What a write starts -/

/-- UNIT registers: RUN and COMMIT of both chains (R86, R113), coefficients (R77), the table port (R98), SHADOW_READY (R99). -/
def unitHook (s0 s : State) (i : Initiator) (u d v : Nat) : State :=
  if d = 0 then
    if !on s (Reg.UNIT_RX_CTRL_RUN u) then rxStopCheck s u
    else if !releasing s && (bit v 8 || (!on s0 (Reg.UNIT_RX_CTRL_RUN u) && rxRunOk s u)) then rxCommit s u else s
  else if d = 0x100 then
    if !on s (Reg.UNIT_TX_CTRL_RUN u) then
      let s1 := txStopCheck s u
      if bit v 8 && !releasing s then txCommit s1 u else s1
    else if !releasing s && (bit v 8 || (!on s0 (Reg.UNIT_TX_CTRL_RUN u) && txRunOk s u)) then txCommit s u else s
  else if d = 0x200 then (if bit v 2 then shadowReady s u else s)
  else if d = 0x214 then tblDataWrite s u v (i == .newt (u / 16) false)
  else if 0x400 ≤ d ∧ d < 0x484 then coefWrite s u 0 ((d - 0x400) / 4) (v % 2 ^ 18)
  else if 0x500 ≤ d ∧ d < 0x584 then coefWrite s u 1 ((d - 0x500) / 4) (v % 2 ^ 18)
  else s

/-- CLUSTER registers: LO_EN and COMMIT (R115), PRECAL (R118), RFFE_CMD (R130), SAVE (R200), CAL_REQ (R186), TRIM_DATA. -/
def clusterHook (s0 s : State) (c o v : Nat) : State :=
  if o = (Reg.CLUSTER_LO_CTRL_LO_EN c).off then
    let s1 := if on s0 (Reg.CLUSTER_LO_CTRL_LO_EN c) != on s (Reg.CLUSTER_LO_CTRL_LO_EN c) then loEnWritten s c else s
    if bit v 8 && !releasing s1 then clusterCommit s1 c else s1
  else if o = (Reg.CLUSTER_LO_PRECAL_FREQ c).off then loPrecalAsk s c v
  else if o = (Reg.CLUSTER_RFFE_CMD_DATA c).off then rffeCmd s c
  else if o = (Reg.CLUSTER_CAL_CTRL_SAVE c).off then (if bit v 5 then saveStart s else s)
  else if o = (Reg.CLUSTER_CAL_REQ_GO c).off then
    (if bit v 31 then calReq s c (bits v 0 8) (bits v 16 8) (bit v 24) (bit v 11) else s)
  else if o = (Reg.CLUSTER_TRIM_DATA_VALUE c).off then trimWrite s c (v % 65536)
  else s

/-- The user kernel's START, STOP and TRIG (R223). -/
def newtHook (s : State) (g o v : Nat) : State :=
  if o = (Reg.NEWT_USER_CTRL_START g).off then
    let s1 := if bit v 0 then userStart s g else s
    let s2 := if bit v 1 then userStop s1 g else s1
    if bit v 2 then userTrigger s2 g 1 else s2
  else s

/-- LINK registers: EN, RETRAIN (R232, R241), the eye scan (R236). -/
def linkHook (s0 s : State) (p o v : Nat) : State :=
  if o = (Reg.LINK_CTRL_EN p).off then
    let s1 := if on s0 (Reg.LINK_CTRL_EN p) != bit v 0 then portEnable s p (bit v 0) else s
    if bit v 30 && portUp s1 p then portRetrain s1 p else s1
  else if o = (Reg.LINK_EYE_CTRL_GO p).off then (if bit v 31 then eyeStart s p else s)
  else s

/-- A trigger point at the balance now; its place among the samples is open. -/
def pointNow (s : State) : CapPoint × State :=
  let a := takeFree s 32
  let b := takeFree a.2 16
  ({ sec := BitVec.ofNat 32 (balSec s), ns := BitVec.ofNat 32 (balNs s), frac := BitVec.ofNat 16 (s.time.bal / 2 ^ 24 % 65536),
     since := BitVec.ofNat 32 a.1, rem := BitVec.ofNat 16 b.1 }, b.2)

/-- Capture channel `n`: ARM, STOP, FORCE (R290, R294, R299). -/
def capHook (s : State) (i : Initiator) (n o v : Nat) : State :=
  if o = (Reg.CAP_CH_CTRL_ARM n).off then
    let s1 := if bit v 0 then capArm s n i.vendor else s
    let s2 := if bit v 1 then capStopCh s1 n else s1
    if bit v 2 then
      let p := pointNow s2
      trigAt p.2 n 0 p.1 true
    else s2
  else s

/-- DMA channel `n` (R309, R311, R313): PAUSE, ABORT, START, DOORBELL. -/
def dmaHook (s : State) (n o v : Nat) : State :=
  if o = (Reg.DMA_CH_CTRL_START n).off then
    let s1 := if on s (Reg.DMA_CH_CTRL_PAUSE n) != bit v 2 then dmaPause s n (bit v 2) else s
    let s2 := if bit v 3 then dmaAbort s1 n else s1
    let s3 := if bit v 0 then dmaStart s2 n (bit v 1) else s2
    if bit v 4 then dmaDoorbell s3 n else s3
  else s

/-- HOUSEKEEPING registers: COMMIT and SELFTEST, EN and GO of a sequence (R320), CODE and DUTY written (R326, R332). -/
def hkHook (s : State) (o v : Nat) : State :=
  if o = Reg.HK_CTRL_COMMIT.off then
    let s1 := if bit v 0 && !releasing s then hkCommit s else s
    if bit v 3 then hkSelftest s1 else s1
  else if 0x31000 ≤ o ∧ o < 0x31100 ∧ o % 8 = 0 then
    let i := (o - 0x31000) / 8
    { s with hk := { s.hk with codeWr := if i ∈ s.hk.codeWr then s.hk.codeWr else s.hk.codeWr ++ [i] } }
  else if 0x32000 ≤ o ∧ o < 0x32200 then
    let u := (o - 0x32000) / 4
    { s with hk := { s.hk with dutyWr := if u ∈ s.hk.dutyWr then s.hk.dutyWr else s.hk.dutyWr ++ [u] } }
  else if 0x30010 ≤ o ∧ o < 0x30030 then
    match hkSeqAt o with
    | some (k, q) =>
      let s1 := if bit v 0 then hkEnable s k q else if on s (Reg.HK_SEQ_EN k q) then hkStopSeq s k q else s
      if bit v 1 then hkTriggerKind s1 k q 0 else s1
    | none => s
  else s

/-- TIME registers (R278, R285, Table 12.4). -/
def timeHook (s : State) (o v : Nat) : State :=
  if o = Reg.TIME_CTRL_COMMIT.off then
    let s1 := if bit v 0 then timeCommit s else s
    let s2 := if bit v 1 then wr (wr (wr (wr s1 Reg.TIME_SNAP0_SEC_HI (bits (balSec s1) 32 32)) Reg.TIME_SNAP1_SEC_LO (bits (balSec s1) 0 32))
      Reg.TIME_SNAP2_NS (balNs s1)) Reg.TIME_SNAP3_FRAC (s1.time.bal / 2 ^ 24 % 65536) else s1
    let clr := fun (s : State) (d : Nat) => (wr s (suspectFld d) 0).modDom d fun x => { x with acc := [], pend := [], back := 0 }
    let s3 := if bit v 2 then clr s2 0 else s2
    refreshTime (if bit v 3 then clr s3 1 else s3)
  else refreshTime s

/-- The other hub registers. -/
def hubHook (s0 s : State) (i : Initiator) (o v : Nat) : State :=
  if o = Reg.BLK_RESET_GO.off then (if bit v 15 then (requestBlk s (v % 4096) false).1 else s)
  else if o = Reg.BOOT_CTRL_RELOAD_TRIM.off then
    (if bit v 0 then (if modeOf s = mIdle ∧ !s.boot.loading then beginLoad s else refuseReset s 0 0 4 true) else s)
  else if o = Reg.PWR_SLEEP_CANCEL.off then (if bit v Reg.PWR_SLEEP_CANCEL.lo then dropSleep s else s)
  else if o = Reg.PWR_RES_CLR_CLR.off then
    (if bit v 0 then forEach (List.range 8) s fun s k => wr (wr s (Reg.PWR_RES_MODE_RES k) 0) (Reg.PWR_RES_REGION_RES k) 0 else s)
  else if o = Reg.POOL_CTRL_COMMIT.off then (if bit v 0 then poolCommit s else s)
  else if o = Reg.CAP_CTRL_SKEW_GO.off then
    (if bit v 0 ∧ (modeOf s = mIdle ∨ modeOf s = mDiag) then wr s Reg.CAP_CTRL_SKEW_BUSY 1 else s)
  else if o = Reg.CHORUS_CTRL_EN.off then
    let s1 := if on s0 Reg.CHORUS_CTRL_EN != on s Reg.CHORUS_CTRL_EN then chorusEnWritten s else s
    if bit v 16 && !releasing s1 then chorusCommit s1 else s1
  else if o = Reg.SEC_MB_CTRL_GO.off then (if bit v 31 then serviceGo s i.role else s)
  else if 0xB0400 ≤ o ∧ o < 0xB0800 then wr s (Reg.SEC_MB_REQ_REQ ((o - 0xB0400) / 4)) v
  else s

/-- What the write of `v` at offset `o` starts, once its fields are written; `s0` is the state before. -/
def writeHook (s0 s : State) (i : Initiator) (o v : Nat) : State :=
  match unitAt o, clusterAt o, tileBlkAt o, newtAt o with
  | some u, _, _, _ => unitHook s0 s i u (o % 0x1000) v
  | _, some c, _, _ => clusterHook s0 s c o v
  | _, _, some _, _ => if sharedOff o = Reg.BF_CTRL_COMMIT.off ∧ bit v 16 ∧ !releasing s then tileCommit s else s
  | _, _, _, some g => newtHook s g o v
  | _, _, _, _ =>
    if 0x30000 ≤ o ∧ o < 0x40000 then hkHook s o v
    else if 0x40000 ≤ o ∧ o < 0x50000 then timeHook s o v
    else if 0x61000 ≤ o ∧ o < 0x70000 then dmaHook s ((o - 0x61000) / 0x40) o v
    else if 0x71000 ≤ o ∧ o < 0x80000 then capHook s i ((o - 0x71000) / 0x40) o v
    else if 0x80000 ≤ o ∧ o < 0x90000 then linkHook s0 s ((o - 0x80000) / 0x4000) o v
    else hubHook s0 s i o v

/-- Write the register word at window offset `o` (R2, R6, R7, R9). -/
def writeReg (s : State) (i : Initiator) (o v : Nat) : State :=
  if gradeOff s o || offHeld s o || isCopy o then s
  else if combined o then
    forEach (enabledTiles s) s fun s t => forEach (tileCopy o t) s fun s f => if f.acc = .w1c then wr s f (rd s f - (rd s f &&& fieldOf f v)) else s
  else if newtPlain o then newtWrite s i ((newtAt o).getD 0) (o % 0x100000) v
  else match fieldsAt o with
    | none => s
    | some fs =>
      let vendorOnly := match hkSeqAt o with | some (_, q) => decide (2 ≤ q) && !i.vendor | none => false
      if vendorOnly then s else writeHook s (writeFields s o fs v) i o v

/-! ### Domains (R306, R345) -/

/-- A register access of tile `t` finds its domain ready, or wakes it. -/
def tileWake (s : State) (t : Nat) : Option State :=
  let st := domState s (8 + t)
  if domFailed s (8 + t) then none
  else if st = domOn then some s
  else if st = domQuiesced then some (domainReady s (8 + t))
  else none

/-- An access to the die finds it ready, or wakes it from POWER-DOWN. -/
def dieWake (s : State) : Option State :=
  let st := domState s 2
  if domFailed s 2 then none
  else if st = domOn then some s
  else if st = domPowerDown then some (domainReady s 2)
  else none

/-- An access of CLUSTER_TRIM_DATA wakes its region's island; in IDLE and SAFE the region gates again at its end. -/
def trimWake (s : State) (o : Nat) : Option State :=
  match clusterAt o with
  | some c =>
    if o = (Reg.CLUSTER_TRIM_DATA_VALUE c).off ∧ (trimSpec (rd s (Reg.CLUSTER_TRIM_SEL_INDEX c))).isSome then
      if domFailed s (12 + c / 2) then none
      else if domState s (12 + c / 2) = domGated ∧ modeOf s ≠ mIdle ∧ modeOf s ≠ mSafe then some (wakeRegion s (c / 2)) else some s
    else some s
  | none => some s

/-- The state in which a register access at `o` runs; none where its domain cannot be ready. Reserved addresses and disabled hardware answer at
once. -/
def regWake (s : State) (o : Nat) : Option State :=
  if gradeOff s o || !defined o then some s
  else match tileAt (winBase + o) with
    | some t => match tileWake s t with
      | some s1 => trimWake s1 o
      | none => none
    | none => some s

/-! ### Accesses of one word -/

/-- The word at `a` has no place: a register address that is not aligned (R5), or a word that runs out of the die or of the pool. -/
def misplaced (a : Nat) : Bool :=
  a % 4 != 0 && (match target a with
    | .die d => decide (dieEnd < d + 4)
    | .pad => decide (0xE004000000 < a + 4)
    | _ => true)

/-- Read one word: status of Table 11.3 (0x00, 0x03 or 0x04), value, and state. The weight archive and the vendor working area, and pool pads, hold what
the spec does not lay out: a read there is an open value. -/
def busRead (s : State) (a : Nat) : Nat × Nat × State :=
  if misplaced a then (3, 0, s)
  else match target a with
    | .err => (3, 0, s)
    | .pad => let f := takeFree s 32; (0, f.1, f.2)
    | .die a =>
      match dieWake s with
      | none => (4, 0, s)
      | some s1 =>
        if (0x04800000 ≤ a + 3 ∧ a < 0x06800000) ∨ (0x06810000 ≤ a + 3 ∧ a < 0x40000000) then
          let f := takeFree s1 32
          (0, f.1, f.2)
        else (0, memWord s1 a, s1)
    | .reg o =>
      match regWake s o with
      | none => (4, 0, s)
      | some s1 => let r := readReg s1 o; (0, r.1, r.2)

/-- Corrected single-bit errors of the die count (R305). -/
def memCe (s : State) (n : Nat) : State := bump s Reg.DMA_MEM_STATUS_CE_CNT n

/-- A double-bit error at die address `a` (R305): UE, the address of the first, event 0x0033. -/
def memUe (s : State) (a : Nat) : State :=
  let s1 := if on s Reg.DMA_MEM_STATUS_UE then s else wr s Reg.DMA_MEM_UE_ADDR_UE_ADDR (a / 8)
  raise (wr s1 Reg.DMA_MEM_STATUS_UE 1) 0x0033 0

/-- A read in which the die word at `a` may have a double-bit error: the access ends with an error response. -/
def busReadUe (s : State) (a : Nat) (ue : Bool) : Nat × Nat × State :=
  match ue, target a with
  | true, .die d =>
    if misplaced a then busRead s a
    else match dieWake s with
      | none => busRead s a
      | some s1 => (3, 0, memUe s1 d)
  | _, _ => busRead s a

/-- Write one word: status and state. Host and DMA reach the die's writable areas only. -/
def busWrite (s : State) (i : Initiator) (a v : Nat) : Nat × State :=
  if misplaced a then (3, s)
  else match target a with
    | .err => (3, s)
    | .pad => (0, s)
    | .die a =>
      if !dieWritable a && (match i with | .newt _ _ => false | _ => true) then (3, s)
      else match dieWake s with
        | none => (4, s)
        | some s1 => (0, setMemWord s1 a v)
    | .reg o =>
      match regWake s o with
      | none => (4, s)
      | some s1 => (0, writeReg s1 i o v)

/-- The device serves accesses: no wide reset is held and it is not asleep. -/
def busOn (s : State) : Bool := !packageHeld s && modeOf s != mSentinel && modeOf s != mBrumate

/-! ### The command's meaning -/

/-- REGISTER_WRITE (R9): the host writes `v` at window offset `o`. -/
def execRegisterWrite (o : BitVec 24) (v : Word) (s : State) : Host.Outcome State Fault Refusal :=
  .next (if busOn s then (busWrite s (.link 0) (winBase + o.toNat) v.toNat).2 else s)

end Sys2Proof.Machine
end

