-- ==== Sys2Proof/Machine/DmaMove.lean ====
section
/-! DEFINITION. The DMA engine's work: reading descriptors, moving data, write-back, BULK packets, draining (spec/14_dma_and_memory.md, R307 to R315). -/

namespace Sys2Proof.Machine

/-- SWAP between read and write (Table 14.5). -/
def dmaSwap (m v : Nat) : Nat :=
  let b0 := v % 256
  let b1 := v / 256 % 256
  let b2 := v / 65536 % 256
  let b3 := v / 16777216 % 256
  let word := fun (a b c d : Nat) => a + 256 * b + 65536 * c + 16777216 * d
  if m = 1 then word b3 b2 b1 b0 else if m = 2 then word b2 b3 b0 b1 else if m = 3 then word b1 b0 b3 b2 else word b0 b1 b2 b3

/-- Address of the byte `k` of an end of the transfer. -/
def dmaAt (fix : Bool) (a k : Nat) : Nat := if fix then a else a + k

def dmaDone (s : State) (n : Nat) : Nat := rd s (Reg.DMA_CH_DONE_DONE n)

/-- An error response to an access of channel `n` halts it (Table 14.7). -/
def dmaAddrErr (s : State) (n : Nat) : State := dmaHalt s n 4

/-- An end that FIX_SRC or FIX_DST holds is not aligned (R308): its accesses end with an error response (log 102). -/
def fixBad (d : DmaDesc) : Bool := (d.fixSrc && d.src % 4 != 0) || (d.fixDst && !d.link && d.dst % 4 != 0)

/-- Move `k` more words of the running descriptor; false where the channel halted. -/
def dmaMove (s : State) (n : Nat) (d : DmaDesc) : Nat → State × Bool
  | 0 => (s, true)
  | k + 1 =>
    let done := dmaDone s n
    let r := busRead s (dmaAt d.fixSrc d.src done)
    if fixBad d then (dmaAddrErr s n, false)
    else if r.1 ≠ 0 then (dmaAddrErr r.2.2 n, false)
    else
      let w := busWrite r.2.2 .dma (dmaAt d.fixDst d.dst done) (dmaSwap d.swap r.2.1)
      if w.1 ≠ 0 then (dmaAddrErr w.2 n, false)
      else dmaMove (wr w.2 (Reg.DMA_CH_DONE_DONE n) (done + 4)) n d k

/-- Read `k` words of the running descriptor's source from byte `o` on, swapped, as bytes in address order. -/
def dmaGather (s : State) (d : DmaDesc) (o : Nat) : Nat → List Nat → Option (List Nat) × State
  | 0, acc => (some acc, s)
  | k + 1, acc =>
    let r := busRead s (dmaAt d.fixSrc d.src o)
    if fixBad d then (none, s)
    else if r.1 ≠ 0 then (none, r.2.2)
    else dmaGather r.2.2 d (o + 4) k (acc ++ (beBytes 4 (dmaSwap d.swap r.2.1)).reverse)

/-! ### Descriptors (R308, R309) -/

/-- Read `k` words from `a`. -/
def dmaWords (s : State) (a : Nat) : Nat → List Nat → Option (List Nat) × State
  | 0, acc => (some acc, s)
  | k + 1, acc =>
    let r := busRead s a
    if r.1 ≠ 0 then (none, r.2.2) else dmaWords r.2.2 (a + 4) k (acc ++ [r.2.1])

/-- A descriptor of OWN 1 breaks Table 14.4 (DESC_ERR). -/
def descBad (w : List Nat) : Bool :=
  let g := fun (k : Nat) => w.getD k 0
  let link := bits (g 0) 29 2 == 1
  let len := bits (g 1) 0 28
  decide (2 ≤ bits (g 0) 29 2) || bits (g 0) 0 23 != 0 || bits (g 1) 28 4 != 0 || bits (g 3) 8 24 != 0 || bits (g 5) 8 24 != 0 ||
    (if link then len != 0 || g 2 % 32 != 0 else decide (len < 4) || len % 4 != 0)

def descOf (w : List Nat) : DmaDesc :=
  let g := fun (k : Nat) => w.getD k 0
  { evt := bit (g 0) 28, swap := bits (g 0) 26 2, link := bit (g 0) 25, fixDst := bit (g 0) 24, fixSrc := bit (g 0) 23,
    len := bits (g 1) 0 28, src := g 2 + 2 ^ 32 * (g 3 % 256), dst := g 4 + 2 ^ 32 * (g 5 % 256), word0 := g 0 }

/-- A channel in WAIT whose descriptor now has OWN 1 runs again. -/
def dmaGo (s : State) (n : Nat) : State := if dmaSt s n = dWait then enterRun s n else s

/-- A descriptor of OWN 1 read at CUR. -/
def descRun (s : State) (n : Nat) (w : List Nat) : State :=
  let link := bits (w.getD 0 0) 29 2 == 1
  let budget := rd s (Reg.DMA_CH_BUDGET_BUDGET n)
  if descBad w then dmaHalt s n 5
  else if link && decide (16 ≤ (s.dma n).links) then dmaHalt s n 1
  else if budget ≠ 0 ∧ budget ≤ rd s (Reg.DMA_CH_COUNT_COUNT n) then dmaHalt s n 2
  else
    let s1 := dmaGo s n
    if link then
      (wr (setCur s1 n (descOf w).src) (Reg.DMA_CH_COUNT_COUNT n) (rd s (Reg.DMA_CH_COUNT_COUNT n) + 1)).modDma n fun x =>
        { x with links := x.links + 1, again := false }
    else
      (wr s1 (Reg.DMA_CH_DONE_DONE n) 0).modDma n fun x => { x with desc := some (descOf w), reading := false, again := false, links := 0 }

/-- The read of the descriptor at CUR ends (R309, step 1); `ue` a double-bit error in it (R305). -/
def descFetch (s0 : State) (n : Nat) (ue : Bool) : State :=
  let x := s0.dma n
  if x.reading && !x.pausing && (dmaSt s0 n == dRun || dmaSt s0 n == dWait) then
    let u := busReadUe s0 (dmaCur s0 n) ue
    let s := if ue then u.2.2 else s0
    let r := if ue && u.1 != 0 then (none, s) else dmaWords s (dmaCur s n) 8 []
    match r.1 with
    | none => dmaAddrErr r.2 n
    | some w =>
      if bit (w.getD 0 0) 31 then descRun r.2 n w
      else (setDma r.2 n dWait).modDma n fun x => { x with reading := x.again, again := false }
  else s0

/-- The descriptor's last byte is written (R309, step 2): word 6, then word 0 with OWN 0, CUR to the next position (R311). -/
def descDone (s : State) (n : Nat) (d : DmaDesc) : State :=
  let cur := dmaCur s n
  let w6 := busWrite s .dma (cur + 24) d.len
  if w6.1 ≠ 0 then dmaAddrErr w6.2 n
  else
    let w0 := busWrite w6.2 .dma cur (clrBit d.word0 31)
    if w0.1 ≠ 0 then dmaAddrErr w0.2 n
    else
      let base := ringBase (rd w0.2) n
      let next := if cur = base + 32 * (ringLen (rd w0.2) n - 1) then base else cur + 32
      let s1 := wr (setCur w0.2 n next) (Reg.DMA_CH_DONE_DONE n) 0
      let s2 := wr s1 (Reg.DMA_CH_COUNT_COUNT n) (rd s1 (Reg.DMA_CH_COUNT_COUNT n) + 1)
      raiseIf d.evt (s2.modDma n fun x => { x with desc := none, reading := true, again := false }) 0x0030 0

/-! ### BULK packets (R258, R315) -/

/-- Send the next BULK packet of a link-destined descriptor: at most 4,032 bytes, on the active upstream port, with a pad of stream 12. -/
def bulkSend (s : State) (n : Nat) (d : DmaDesc) : State :=
  let off := dmaDone s n
  let k := min 4032 (d.len - off)
  if k = 0 ∨ !portUp s (activeUp s) ∨ !padsFor s 12 1 then s
  else
    let r := dmaGather s d off (k / 4) []
    match r.1 with
    | none => dmaAddrErr r.2 n
    | some bs =>
      let body := [n, 0, 0, 0] ++ beBytes 4 off ++ bs
      let last := decide (d.len ≤ off + k)
      wr (send r.2 { port := activeUp r.2, op := 0x31, more := !last, tag := rd s (Reg.DMA_CH_COUNT_COUNT n), payload := body })
        (Reg.DMA_CH_DONE_DONE n) (off + k)

/-- Buffered data, at most 16 KiB, leaves for its destination (R313). -/
def dmaDrain (s : State) (n bytes : Nat) : State :=
  match (s.dma n).desc with
  | none => s
  | some d =>
    let k := min (min bytes 16384) (d.len - dmaDone s n)
    if d.link then forEach (List.range ((k + 4031) / 4032)) s fun s _ => bulkSend s n d
    else (dmaMove s n d (k / 4)).1

/-! ### The commands' meanings -/

/-- DMA_DESC_FETCH (R309): a descriptor read ends, with `ce` corrected words, or a double-bit error (R305). -/
def execDmaDescFetch (n : Fin 16) (ue : Bool) (ce : BitVec 4) (s : State) : Host.Outcome State Fault Refusal :=
  .next (memCe (descFetch s n ue) ce.toNat)

/-- DMA_DESC_DONE (R309): the rest of the descriptor's data moves and its last byte is written; a link-destined descriptor's packets have all
left. `ue` names the word of the rest whose read has a double-bit error, `ce` counts corrected ones (R305). -/
def execDmaDescDone (n : Fin 16) (ue : Option (BitVec 26)) (ce : BitVec 16) (s : State) : Host.Outcome State Fault Refusal :=
  .next (match (s.dma n).desc with
    | some d =>
      if dmaSt s n = dRun ∧ !(s.dma n).pausing then
        if d.link then (if dmaDone s n = d.len then descDone s n d else s)
        else
          let k := (d.len - dmaDone s n) / 4
          let r := dmaMove s n d (match ue with | some u => min u.toNat k | none => k)
          let s1 := memCe r.1 ce.toNat
          if !r.2 then s1
          else match ue with
            | none => descDone s1 n d
            | some _ =>
              let x := busReadUe s1 (dmaAt d.fixSrc d.src (dmaDone s1 n)) true
              if dmaDone s1 n < d.len ∧ x.1 ≠ 0 then dmaAddrErr x.2.2 n else s1
      else s
    | none => s)

/-- BULK (R315). -/
def execBulk (n : Fin 16) (s : State) : Host.Outcome State Fault Refusal :=
  .next (match (s.dma n).desc with
    | some d => if dmaSt s n = dRun ∧ !(s.dma n).pausing ∧ d.link then bulkSend s n d else s
    | none => s)

/-- DMA_DRAINED (R313): the pausing channel has drained, with `bytes` that its buffer held. -/
def execDmaDrained (n : Fin 16) (bytes : BitVec 15) (s : State) : Host.Outcome State Fault Refusal :=
  .next (if dmaSt s n = dRun ∧ (s.dma n).pausing then
    let s1 := dmaDrain s n bytes.toNat
    if dmaSt s1 n = dRun then setDma (s1.modDma n fun x => { x with pausing := false }) n dPaused else s1
  else s)

/-- DMA_BUS_TIMEOUT (R313): an access of the running channel is not answered in 4 µs; `bytes` had moved before. -/
def execDmaBusTimeout (n : Fin 16) (bytes : BitVec 28) (s : State) : Host.Outcome State Fault Refusal :=
  .next (if dmaSt s n = dRun then
    let s1 := match (s.dma n).desc with
      | some d => if d.link then s else (dmaMove s n d (min bytes.toNat (d.len - 4 - dmaDone s n) / 4)).1
      | none => s
    if dmaSt s1 n = dRun then dmaHalt s1 n 3 else s1
  else s)

end Sys2Proof.Machine
end

