-- ==== Sys2Proof/Machine/Packets.lean ====
section
/-! DEFINITION. Commands of the link (spec/11_link_packets.md, R242 to R264; spec/01_architecture.md, R23 to R25; spec/14_dma_and_memory.md, R311,
R312): modes, resets, register and memory access, rings, events, images, schedules, and forwarding. -/

namespace Sys2Proof.Machine

/-- The bytes of a packet's payload as numbers. -/
def body (p : Packet) : List Nat := natBytes p.payload

def zeros (bs : List Nat) : Bool := bs.all (· == 0)

/-! ### SET_MODE and RESET (R23 to R25, R261) -/

/-- MODE_STATUS, 4 bytes, and 4 zero bytes. -/
def modeBytes (s : State) : List Nat := beBytes 4 (wordShow s ((fieldsAt Reg.MODE_STATUS_MODE.off).getD [])) ++ [0, 0, 0, 0]

/-- A request for DIAG, or for leaving DIAG or SAFE, needs authentication (Table 11.2). -/
def modeNeedsAuth (s : State) (t : Nat) : Bool := t == mDiag || modeOf s == mDiag || modeOf s == mSafe

/-- SET_MODE (R24): `p` carries TARGET and 7 zero bytes. -/
def execSetMode (p : Packet) (s : State) : Host.Outcome State Fault Refusal :=
  let b := body p
  let t := b.getD 0 0
  .next (command s 0x71 [] p true (modeNeedsAuth s t) 1 modeBytes
    (fun s _ =>
      if b.length ≠ 8 ∨ !zeros (b.drop 1) ∨ 8 ≤ t then (s, 0x02, modeBytes s)
      else
        let r := setMode s t
        (r.1, if r.2 then 0 else 0x05, modeBytes r.1))
    (fun s => refuseMode s (t % 8) 1 3)
    (fun st s => if st = 0 ∧ modeOf s = mSafe then leaveSafe s else s))

/-- RESET (R261): REACH, a zero byte, BLK_ID and 4 zero bytes. A reset of PACKAGE or SYSTEM reach acts once its response has left. -/
def execReset (p : Packet) (s : State) : Host.Outcome State Fault Refusal :=
  let b := body p
  let reach := b.getD 0 0
  let blk := bytesAt b 2 2
  .next (command s 0x72 [] p true true 1 noBytes
    (fun s _ =>
      if b.length ≠ 8 ∨ b.getD 1 0 ≠ 0 ∨ !zeros (b.drop 4) ∨ 4 < reach ∨ (2 ≤ reach ∧ blk ≠ 0) ∨ (reach ≤ 1 ∧ blkReach blk ≠ reach) then (s, 0x02, [])
      else
        let r := hostReset s reach (if reach = 2 then 0x500 else blk)
        (r.1, r.2, []))
    id
    (fun st s => if st = 0 ∧ 3 ≤ reach then assertSrc s { src := 5, reach := reach, blk := 0 } else s))

/-! ### WRITE and READ (R257, R403) -/

/-- The voter of Table 16.3 whose block an access to `a` needs. -/
def accessVoter (a : Nat) : Option Nat :=
  match target a with
  | .reg o =>
    if 0x60000 ≤ o ∧ o < 0x70000 then some 1 else if 0x70000 ≤ o ∧ o < 0x80000 then some 2 else if 0x800000 ≤ o then some 3
    else if 0xB0000 ≤ o ∧ o < 0xC0000 then some 4 else if 0x30000 ≤ o ∧ o < 0x40000 then some 5 else none
  | _ => none

/-- A command needs the block of an address: a sleep vote in which that block is QUIESCED fails (Table 16.3). -/
def accessVote (s : State) (a : Nat) : State :=
  match accessVoter a with
  | some v => voteHost s v
  | none => s

/-- Write words from `a` on, or all to `a`; words written and the status that stopped them. -/
def writeWords (s : State) (i : Initiator) (fix : Bool) : Nat → Nat → List Nat → State × Nat × Nat
  | _, n, [] => (s, n, 0)
  | a, n, w :: r =>
    let x := busWrite s i a w
    if x.1 ≠ 0 then (x.2, n, x.1) else writeWords x.2 i fix (if fix then a else a + 4) (n + 1) r

/-- Read `n` words; the `ue`-th has a double-bit error. -/
def readWords (s : State) (fix : Bool) (ue : Option Nat) : Nat → Nat → List Nat → State × List Nat × Nat
  | 0, _, acc => (s, acc, 0)
  | n + 1, a, acc =>
    let x := busReadUe s a (ue == some acc.length)
    if x.1 ≠ 0 then (x.2.2, acc, x.1) else readWords x.2.2 fix ue n (if fix then a else a + 4) (acc ++ [x.2.1])

/-- The words of a big-endian payload. -/
def wordsOf : Nat → List Nat → List Nat
  | 0, _ => []
  | n + 1, bs => ofBytes (bs.take 4) :: wordsOf n (bs.drop 4)

/-- A WRITE payload is well formed. -/
def writeOk (p : Packet) : Bool :=
  let b := body p
  p.aux.toNat ≤ 1 && decide (12 ≤ b.length) && decide (b.length ≤ 4040) && b.length % 4 == 0 && zeros (b.take 3)

/-- The words of a WRITE, at most `lim` of them, go out; DONE follows. -/
def runWrite (s : State) (a : AuthOut) (p : Packet) (lim : Nat) : State × Nat × Nat :=
  let b := body p
  let addr := bytesAt b 0 8
  writeWords (accessVote s addr) (.link (authRole s a)) (p.aux == 1) addr 0 ((wordsOf ((b.length - 8) / 4) (b.drop 8)).take lim)

def doneBytes (n : Nat) : List Nat := beBytes 2 n ++ List.replicate 6 0

/-- WRITE (R257). -/
def execWrite (p : Packet) (s : State) : Host.Outcome State Fault Refusal :=
  .next (command s 0x20 [] p false false 0 (fun _ => doneBytes 0) fun s a =>
    if !writeOk p then (s, 0x02, doneBytes 0)
    else
      let r := runWrite s a p 1008
      (r.1, r.2.2, doneBytes r.2.1))

/-- A READ payload is well formed. -/
def readOk (p : Packet) : Bool :=
  let b := body p
  p.aux.toNat ≤ 1 && b.length == 16 && zeros (b.take 3) && zeros (b.drop 10) && decide (1 ≤ bytesAt b 8 2) && decide (bytesAt b 8 2 ≤ 1008)

def runRead (s : State) (p : Packet) (ue : Option Nat) (lim : Nat) : State × List Nat × Nat :=
  let b := body p
  let addr := bytesAt b 0 8
  readWords (accessVote s addr) (p.aux == 1) ue (min (bytesAt b 8 2) lim) addr []

/-- A broadcast READ, EVENT or RING STATUS is discarded and counts in HDR_ERR (R246). -/
def noBroadcast (s : State) (p : Packet) (f : State) : State :=
  if p.bcast && portUp s p.port.val then bump s (Reg.POOL_ERR_HDR_ERR p.port.val) 1 else f

/-- READ (R257): `ue` names the word that has a double-bit error, `ce` counts corrected ones (R305). -/
def execRead (p : Packet) (ue : Option (BitVec 10)) (ce : BitVec 10) (s : State) : Host.Outcome State Fault Refusal :=
  .next (noBroadcast s p (command s 0x21 [] p true false 0 noBytes fun s _ =>
    if !readOk p then (s, 0x02, [])
    else
      let r := runRead s p (ue.map BitVec.toNat) 1008
      (memCe r.1 ce.toNat, r.2.2, r.2.1.flatMap (beBytes 4))))

/-- The access at `a` waits for a domain that is not ready (R345). -/
def accessWaits (s : State) (a : Nat) : Bool :=
  match target a with
  | .die _ => domState s 2 == domPowerDown && !domFailed s 2
  | .reg o =>
    defined o && !gradeOff s o &&
    ((match tileAt a with | some t => domState s (8 + t) == domQuiesced && !domFailed s (8 + t) | none => false) ||
     (match clusterAt o with
      | some c => o == (Reg.CLUSTER_TRIM_DATA_VALUE c).off && (trimSpec (rd s (Reg.CLUSTER_TRIM_SEL_INDEX c))).isSome &&
          domState s (12 + c / 2) == domGated && !domFailed s (12 + c / 2)
      | none => false))
  | _ => false

/-- ACCESS_WAKE_TIMEOUT (R345): word `k` of WRITE or READ `p` waits 20 µs for a domain in vain; the words before it are done. -/
def execAccessWakeTimeout (p : Packet) (write : Bool) (k : BitVec 10) (s : State) : Host.Outcome State Fault Refusal :=
  let at' := bytesAt (body p) 0 8 + (if p.aux = 1 then 0 else 4 * k.toNat)
  let n := if write then ((body p).length - 8) / 4 else bytesAt (body p) 8 2
  let ok := decide (k.toNat < n)
  .next (if write then
      command s 0x20 [] p false false 0 (fun _ => doneBytes 0) fun s a =>
        if !writeOk p then (s, 0x02, doneBytes 0)
        else
          let r := runWrite s a p k.toNat
          if r.2.2 = 0 ∧ ok ∧ accessWaits r.1 at' then (r.1, 0x04, doneBytes r.2.1) else
            let r' := runWrite s a p 1008
            (r'.1, r'.2.2, doneBytes r'.2.1)
    else noBroadcast s p (command s 0x21 [] p true false 0 noBytes fun s _ =>
      if !readOk p then (s, 0x02, [])
      else
        let r := runRead s p none k.toNat
        if r.2.2 = 0 ∧ ok ∧ accessWaits r.1 at' then (r.1, 0x04, r.2.1.flatMap (beBytes 4)) else
          let r' := runRead s p none 1008
          (r'.1, r'.2.2, r'.2.1.flatMap (beBytes 4))))

/-! ### RING (R311, R312) -/

/-- The address of ring position `k` of channel `n`. -/
def ringAt (s : State) (n k : Nat) : Nat := ringBase (rd s) n + 32 * (k % ringLen (rd s) n)

/-- Write the 8-word descriptors of a POST at the positions after the last posted one. -/
def postWords (s : State) (n : Nat) (ws : List Nat) : State × Nat × Nat :=
  (ws.zipIdx).foldl (fun (r : State × Nat × Nat) x =>
    if r.2.2 ≠ 0 then r
    else
      let w := busWrite r.1 .dma (ringAt s n ((s.dma n).posted + x.2 / 8) + 4 * (x.2 % 8)) x.1
      (w.2, r.2.1 + 1, w.1)) (s, 0, 0)

/-- POST of `k` descriptors (R311): a descriptor still holding OWN 1 refuses it. -/
def ringPost (s : State) (n k : Nat) (bs : List Nat) : State × Nat :=
  let own := (List.range k).any fun i => bit (memWord s (ringAt s n ((s.dma n).posted + i))) 31
  if !ringOk (rd s) n then (s, 0x03)
  else if (dieWake s).isNone then (s, 0x04)
  else if own || decide (ringLen (rd s) n < k) then (s, 0x05)
  else
    let r := postWords s n (wordsOf (8 * k) bs)
    if r.2.2 ≠ 0 then (r.1, r.2.2)
    else (dmaDoorbell (r.1.modDma n fun x => { x with posted := (x.posted + k) % ringLen (rd s) n }) n, 0)

/-- RING_POST (R311): CHANNEL `ch`; `p` carries the 6 zero bytes and whole descriptors. -/
def execRingPost (ch : Byte) (p : Packet) (s : State) : Host.Outcome State Fault Refusal :=
  let b := body p
  let k := (b.length - 6) / 32
  .next (command s 0x30 [ch.toNat, 0] p false false 0 noBytes fun s _ =>
    if 16 ≤ ch.toNat ∨ b.length ≠ 6 + 32 * k ∨ k = 0 ∨ 126 < k ∨ !zeros (b.take 6) then (s, 0x02, [])
    else
      let r := ringPost (voteHost s 1) ch.toNat k (b.drop 6)
      (r.1, r.2, []))

/-- The positions of R312. -/
def ringStatus (s : State) (n : Nat) : List Nat :=
  beBytes 8 (dmaCur s n) ++ beBytes 4 (dmaDone s n) ++ beBytes 4 (rd s (Reg.DMA_CH_COUNT_COUNT n)) ++
    [dmaSt s n, rd s (Reg.DMA_CH_STATUS_ERR n), rd s (Reg.DMA_CH_STATUS_DOMAIN_LOST n) + 2 * b2n (dmaSt s n == dPaused), 0, 0, 0, 0, 0]

/-- RING_STATUS (R312). -/
def execRingStatus (ch : Byte) (p : Packet) (s : State) : Host.Outcome State Fault Refusal :=
  .next (noBroadcast s p (command s 0x30 [ch.toNat, 1] p true false 0 noBytes fun s _ =>
    if 16 ≤ ch.toNat ∨ (body p).length ≠ 6 ∨ !zeros (body p) then (s, 0x02, []) else
      let s1 := voteHost s 1
      (s1, 0, ringStatus s1 ch.toNat)))

/-! ### Events (R259) -/

def eventBytes (e : EventEntry) : List Nat := beBytes 2 e.code ++ beBytes 2 e.eseq ++ beBytes 4 e.arg ++ beBytes 4 e.sec ++ beBytes 4 e.ns

/-- An upstream EVENT payload; the LOST flag goes with it once. -/
def eventPayload (s : State) (es : List EventEntry) : List Nat × State :=
  ([b2n s.events.lostPending, es.length, 0, 0, 0, 0, 0, 0] ++ es.flatMap eventBytes, { s with events := { s.events with lostPending := false } })

/-- Mark the oldest entry not yet pushed. -/
def markPushed : List EventEntry → List EventEntry
  | [] => []
  | e :: r => if e.pushed then e :: markPushed r else { e with pushed := true } :: r

/-- EVENT_PUSH (R259): the oldest entry not yet pushed leaves on the active upstream port. -/
def execEventPush (s : State) : Host.Outcome State Fault Refusal :=
  .next (match s.events.entries.find? fun e => !e.pushed with
    | some e =>
      if on s Reg.POOL_CTRL_EVT_PUSH && portUp s (activeUp s) && padsFor s 11 1 && !packageHeld s then
        let r := eventPayload s [e]
        send { r.2 with events := { r.2.events with entries := markPushed r.2.events.entries } }
          { port := activeUp r.2, op := 0x40, aux := 1, payload := r.1 }
      else s
    | none => s)

/-- Entries at or before ACK_SEQ leave from the head of the queue. -/
def ackEvents (ack : Nat) : List EventEntry → List EventEntry
  | [] => []
  | e :: r => if code 16 ((ack : Int) - e.eseq) < 32768 then ackEvents ack r else e :: r

/-- EVENT (R259): a fetch. -/
def execEvent (p : Packet) (s : State) : Host.Outcome State Fault Refusal :=
  let b := body p
  .next (noBroadcast s p (command s 0x40 [] p true false 0 noBytes fun s _ =>
    if b.length ≠ 8 ∨ 2 ≤ b.getD 2 0 ∨ !zeros (b.drop 4) then (s, 0x02, [])
    else
      let n := if b.getD 3 0 = 0 then 252 else min (b.getD 3 0) 252
      let s1 : State := if b.getD 2 0 = 1 then { s with events := { s.events with entries := ackEvents (bytesAt b 0 2) s.events.entries } } else s
      let r := eventPayload s1 (s1.events.entries.take n)
      (r.2, 0, r.1)))

/-! ### IMAGE (R262) -/

/-- The mode accepts IMAGE. -/
def imageMode (s : State) : Bool := (modeOf s == mBoot && bootSel s == 2) || modeOf s == mIdle || modeOf s == mSafe

/-- Where an image goes, as BOOT_STATUS.SLOT. -/
def imageSlot (s : State) : Nat :=
  match s.boot.asm with
  | some (k, _) => k
  | none => if modeOf s = mBoot then 2 else updateSlot s

def imageGot (s : State) : List Nat :=
  match s.boot.asm with
  | some (_, bs) => bs
  | none => []

/-- BYTES received, SLOT, three zero bytes. -/
def imageBytes (s : State) : List Nat := beBytes 4 (imageGot s).length ++ [imageSlot s, 0, 0, 0]

/-- The longest image that slot `k` takes. -/
def imageLimit (s : State) (k : Nat) : Nat :=
  if k = 2 then 48 * 1048576
  else match dirInUse s with
    | some (_, d) => d.slotSize
    | none => maxSlot s

def putSlot (s : State) (k : Nat) (bs : List Nat) : State :=
  if k = 0 then { s with flash := { s.flash with slotA := bs } } else if k = 1 then { s with flash := { s.flash with slotB := bs } } else s

/-- An IMAGE command with SUBOP `sub`: authentication outside BOOT, then the mode, then `f`. -/
def imageCommand (s : State) (sub : Nat) (p : Packet) (f : State → State × Nat) : State :=
  command s 0x70 [sub] p true (modeOf s != mBoot) 2 imageBytes fun s _ =>
    if !zeros ((body p).take 3) ∨ (body p).length < 7 then (s, 0x02, imageBytes s)
    else if !imageMode s then (s, 0x05, imageBytes s)
    else
      let r := f (voteHost s 6)
      (r.1, r.2, imageBytes r.1)

/-- A fragment: the next byte expected, within the room of its slot. -/
def imageWrite (s : State) (off : Nat) (bs : List Nat) : State × Nat :=
  let got := imageGot s
  let k := imageSlot s
  if bs.isEmpty ∨ 4032 < bs.length ∨ off ≠ got.length ∨ imageLimit s k < off + bs.length then (s, 0x02)
  else
    let all := got ++ bs
    (putSlot { s with boot := { s.boot with asm := some (k, all) } } k all, 0)

/-- COMMIT: verify; in BOOT the start goes on from step 6, else the directory names the new slot. -/
def imageCommit (s : State) : State × Nat :=
  match verifyImage s (imageGot s) with
  | none => (s, 0x08)
  | some img =>
    let k := imageSlot s
    let s1 : State := { s with boot := { s.boot with asm := none } }
    if modeOf s = mBoot then
      let s2 : State := { s1 with boot := { s1.boot with img := some img } }
      (if starting s2 && stepNow s2 == 6 then endStep6 s2 else s2, 0)
    else (writeDir s1 k img, 0)

/-- IMAGE_WRITE (R262): `p` carries 3 zero bytes, OFFSET and the bytes. -/
def execImageWrite (p : Packet) (s : State) : Host.Outcome State Fault Refusal :=
  .next (imageCommand s 0 p fun s => imageWrite s (bytesAt (body p) 3 4) ((body p).drop 7))

/-- IMAGE_COMMIT (R262). -/
def execImageCommit (p : Packet) (s : State) : Host.Outcome State Fault Refusal :=
  .next (imageCommand s 1 p fun s => if (body p).length = 7 then imageCommit s else (s, 0x02))

/-- IMAGE_ABORT (R262). -/
def execImageAbort (p : Packet) (s : State) : Host.Outcome State Fault Refusal :=
  .next (imageCommand s 2 p fun s => if (body p).length = 7 then ({ s with boot := { s.boot with asm := none } }, 0) else (s, 0x02))

/-- IMAGE_STATUS (R262). -/
def execImageStatus (p : Packet) (s : State) : Host.Outcome State Fault Refusal :=
  .next (imageCommand s 3 p fun s => (s, if (body p).length = 7 then 0 else 0x02))

/-! ### SCHED (R256) -/

/-- One entry of 16 bytes; none where a zero field is not zero. -/
def schedRaw (b : List Nat) : Option SchedRaw :=
  if b.getD 5 0 % 16 ≠ 0 then none
  else some {
    tag := BitVec.ofNat 32 (bytesAt b 0 4), count := BitVec.ofNat 8 (b.getD 4 0), kind := Fin.ofNat 16 (b.getD 5 0 / 16),
    clusters := BitVec.ofNat 16 (bytesAt b 6 2), units := BitVec.ofNat 8 (b.getD 8 0), period := BitVec.ofNat 8 (b.getD 9 0),
    reps := BitVec.ofNat 16 (bytesAt b 10 2), param := BitVec.ofNat 32 (bytesAt b 12 4) }

/-- The entries of a payload; none where it is not well formed. -/
def schedRaws : Nat → List Nat → Option (List SchedRaw)
  | 0, _ => some []
  | n + 1, b => match schedRaw b, schedRaws n (b.drop 16) with
    | some r, some l => some (r :: l)
    | _, _ => none

/-- SCHED (R124, R256). -/
def execSched (p : Packet) (s : State) : Host.Outcome State Fault Refusal :=
  let b := body p
  let n := b.length / 16
  .next (command s 0x14 [] p false false 0 noBytes fun s _ =>
    if b.length ≠ 16 * n ∨ n = 0 ∨ 252 < n then (s, 0x02, [])
    else match schedRaws n b with
      | none => (s, 0x02, [])
      | some rs =>
        let r := offerAll (voteHost s 0) rs 0 0 none
        let rej := r.2.2.getD (0xFFFF, 0)
        (r.1, if r.2.2.isSome then 0x05 else 0, beBytes 2 r.2.1 ++ beBytes 2 rej.1 ++ [rej.2, 0, 0, 0]))

/-! ### WEIGHTS (R255) -/

/-- The response to a WEIGHTS request follows the checks (R255). -/
def weightsReply (s : State) (w : Nat) (ok : Bool) : State :=
  let mine := s.pool.wreply.filter fun r => r.1 == w
  let s1 : State := { s with pool := { s.pool with wreply := s.pool.wreply.filter fun r => r.1 != w } }
  forEach mine s1 fun s r =>
    if ok && !r.2.2.1 then s
    else
      let o : OutPkt := { port := activeUp s, op := 0x13, err := !ok, aux := if ok then 0 else 0x08, tag := r.2.1 }
      match r.2.2.2 with
      | some k => sendAuth s o k
      | none => send s o

/-- Ask for a response to `p` once the checks of set `w` have ended. -/
def weightsAsk (s : State) (w : Nat) (p : Packet) (a : AuthOut) : State :=
  if p.bcast then s
  else { s with pool := { s.pool with wreply := s.pool.wreply ++
    [(w, p.tag.toNat, p.ack, match a with | .good k => some k | _ => none)] } }

/-- The set in progress ends with a gap: it fails with FAIL_CODE 0x2, or 0x8 where its shadow was pending. -/
def weightsGap (s : State) : State :=
  match s.pool.wfrag with
  | none => s
  | some (w, _) =>
    let s1 : State := { s with pool := { s.pool with wfrag := none } }
    if wsetPending s1 w then wsetFail s1 w 8 true else wsetFail s1 w 2 false

/-- A fragment that continues or starts set `w`; the last one makes the set arrive. -/
def weightsTake (s : State) (w : Nat) (got bs : List Nat) (p : Packet) (a : AuthOut) : State × Nat × Bool :=
  if p.more then ({ s with pool := { s.pool with wfrag := some (w, got ++ bs) } }, 0, true)
  else
    let s1 : State := { s with pool := { s.pool with wfrag := none } }
    if wsetPending s1 w then (wsetArrive s1 w (got ++ bs), 0x08, true)
    else (weightsAsk (wsetArrive s1 w (got ++ bs)) w p a, 0, false)

/-- A well-formed fragment: state, status, and whether it is answered now. -/
def weightsFragment (s : State) (w off : Nat) (bs : List Nat) (p : Packet) (a : AuthOut) : State × Nat × Bool :=
  match s.pool.wfrag with
  | some (w', got) =>
    if w' = w ∧ off = got.length then weightsTake s w got bs p a
    else if off = 0 then weightsTake (weightsGap s) w [] bs p a
    else (weightsGap s, 0x08, true)
  | none => if off = 0 then weightsTake s w [] bs p a else (s, 0x08, true)

/-- WEIGHTS (R255): pads of stream 9; refused under S5 (R359). -/
def execWeights (p : Packet) (s : State) : Host.Outcome State Fault Refusal :=
  let b := body p
  .next (receive s p fun s =>
    if !padsFor s 9 1 then
      let s1 := bump s (Reg.POOL_USE_DROP 9) 1
      respond s1 false 0x13 p .absent 0x07 []
    else
      let a := authenticate s false 0 0x13 [] p
      match a.1 with
      | .bad => respond a.2 false 0x13 p .bad 0x06 []
      | o =>
        if b.length < 9 ∨ 4040 < b.length ∨ 16 ≤ b.getD 0 0 ∨ !zeros ((b.drop 1).take 3) then respond a.2 false 0x13 p o 0x02 []
        else if 5 ≤ stageOf s then respond a.2 false 0x13 p o 0x05 []
        else
          let r := weightsFragment a.2 (b.getD 0 0) (bytesAt b 4 4) (b.drop 8) p o
          if r.2.2 then respond r.1 false 0x13 p o r.2.1 [] else r.1)

/-- WSET_CHECKS_DONE (R147): the checks of set `w` end, and the response that waited for them leaves. -/
def execWsetChecksDone (w : Fin 16) (s : State) : Host.Outcome State Fault Refusal :=
  .next (if wsetPending s w && !(s.wset w).checked then
    let s1 := wsetChecksDone s w
    weightsReply s1 w (s1.wset w).checked
  else s)

/-! ### Headers, unlisted opcodes and forwarding (R243, R247, R264) -/

/-- HDR_ERR (R243): a failed header on port `p`. -/
def execHdrErr (p : Fin 4) (s : State) : Host.Outcome State Fault Refusal :=
  .next (if portUp s p then bump s (Reg.POOL_ERR_HDR_ERR p) 1 else s)

/-- UNKNOWN_OPCODE (R247): a valid packet of opcode `op` that is not a downstream opcode of Table 11.2, or of an undefined SUBOP. -/
def execUnknownOpcode (op : Byte) (p : Packet) (s : State) : Host.Outcome State Fault Refusal :=
  .next (command s op.toNat [] p true false 0 noBytes fun s _ => (s, 0x01, []))

/-- The packet as it leaves, unchanged, on port `q`. -/
def forwardPkt (up err : Bool) (q : Nat) (op : Byte) (p : Packet) : OutPkt :=
  { port := q, op := op.toNat, up := up, bcast := p.bcast, more := p.more, ack := p.ack, err := err, dev := p.dev.toNat, seq := p.seq.toNat,
    tag := p.tag.toNat, aux := p.aux.toNat, payload := natBytes p.payload,
    auth := p.auth.map fun a => (a.keyId.toNat, a.counter.toNat, a.mac.toNat) }

/-- Forward from input port `i` to output port `o.port`; a full store, no pad of stream `n`, or a port that is not UP discards the packet. -/
def forwardTo (s : State) (i n : Nat) (full : Bool) (o : OutPkt) : State :=
  if full || !padsFor s n 1 || !portUp s o.port then bump s (Reg.POOL_ERR_FWD_DROP i) 1
  else { s with link := { s.link with out := s.link.out ++ [o] } }

/-- The downstream port whose route holds device ID `d`. -/
def routeOf (s : State) (d : Nat) : Option Nat :=
  let hit := fun k => decide (rd s (Reg.POOL_ROUTE_LO k) ≤ d) && decide (d ≤ rd s (Reg.POOL_ROUTE_HI k))
  if hit 0 then some 2 else if hit 1 then some 3 else none

/-- FORWARD_DOWNSTREAM (R264): a packet of opcode `op` that is not consumed, or is broadcast; `full` names output stores that are full. -/
def execForwardDownstream (op : Byte) (p : Packet) (full : BitVec 2) (s : State) : Host.Outcome State Fault Refusal :=
  let i := p.port.val
  .next (if !portUp s i then s
    else if p.bcast then
      forEach ([2, 3].filter (portUp s)) s fun s q => forwardTo s i 13 (bit full.toNat (q - 2)) (forwardPkt false false q op p)
    else if consumed s p then s
    else match routeOf s p.dev.toNat with
      | some q => forwardTo s i 13 (bit full.toNat (q - 2)) (forwardPkt false false q op p)
      | none =>
        let s1 := bump s (Reg.POOL_ERR_HDR_ERR i) 1
        if i ∈ s1.pool.noRoute then s1
        else raise { s1 with pool := { s1.pool with noRoute := s1.pool.noRoute ++ [i] } } 0x3010 0)

/-- FORWARD_UPSTREAM (R264): a packet from P2 (`p.port` 0) or P3; in the bonded mode they leave on P0 and P1. -/
def execForwardUpstream (op : Byte) (err : Bool) (p : Packet) (full : Bool) (s : State) : Host.Outcome State Fault Refusal :=
  let i := 2 + p.port.val
  let q := if bonded s then p.port.val else activeUp s
  .next (if portUp s i then forwardTo s i 14 full (forwardPkt true err q op p) else s)

/-- POOL_COMMIT (R270). -/
def execPoolCommit (s : State) : Host.Outcome State Fault Refusal := .next (poolCommit s)

end Sys2Proof.Machine
end

