-- ==== Sys2Proof/Machine/Data.lean ====
section
/-! DEFINITION. Carrier data (spec/06_beamforming.md, R134 to R152; spec/11_link_packets.md, R251 to R254, R267 to R269): combining, packing and delivery
of uplink symbols and PRACH occasions, and downlink sections up to their deadline. -/

namespace Sys2Proof.Machine

/-! ### Opening receive symbols -/

/-- Unit `u`'s radio claim in symbol `n`, unless R126 has dropped the symbol. -/
def liveClaim (s : State) (u : Nat) (n : Int) : Option SchedEntry := if dropped s (u / 8) n then none else claimOf s u n

/-- Some unit's claim in symbol `n` is entry `e`. -/
def entryLive (s : State) (e : SchedEntry) (n : Int) : Bool :=
  (entryUnits e.clusters e.units).any fun u => match liveClaim s u n with | some x => x.id == e.id | none => false

/-- Layers served by an entry's PARAM (Table 6.2). -/
def lFirst (param : Nat) : Nat := bits param 8 6
def lCnt (param : Nat) : Nat := bits param 14 7

/-- The work that entry `e` leaves for a carrier symbol or an occasion beginning at `n` (R137, R148). -/
def workOf (s : State) (e : SchedEntry) (c : Nat) (prach : Option Nat) (n : Int) (span : Nat) : RxWork :=
  { id := e.id, kind := e.kind, param := e.param, carrier := c, prach := prach, sym := n, span := span
    mutes := (entryLayers s e c).map (·.2)
    stale := (enabledTiles s).any fun t => on s (Reg.WSET_STATUS_WSTALE t (bits e.param 4 4))
    copy := (s.wset (bits e.param 4 4)).actv }

/-- PRACH configurations that entry `e` applies. -/
def prachOf (s : State) (e : SchedEntry) : List Nat :=
  if e.kind = 4 then (List.range 4).filter fun p => bit (bits e.param 24 4) p && on s (Reg.PRACH_CFG0_EN p) else []

/-- Open the receive work of entry `e` at symbol `n`; under S5 the tile datapaths are stopped and open none (R359). -/
def openWork (s : State) (e : SchedEntry) (n : Int) : State :=
  if 2 ≤ e.kind ∧ e.kind ≤ 4 ∧ lCnt e.param ≠ 0 ∧ stageOf s < 5 ∧ entryLive s e n then
    let carriers := (entryCarriers s e n).map fun c => workOf s e c none n (carrierR s c)
    let occ := if startsAt e n then (prachOf s e).map fun p => workOf s e (rd s (Reg.PRACH_CFG0_CARRIER p)) (some p) n e.count else []
    { s with beam := { s.beam with work := (s.beam.work ++ carriers ++ occ).filter fun w => decide (n - 4096 < w.sym) } }
  else s

/-! ### Units that contribute (R84, R134, R138) -/

/-- A unit's report over a work's grid symbols that have ended: worst tag and largest gain index; none where some symbol was not the entry's. -/
def unitReport (s : State) (w : RxWork) (u : Nat) : Option (Nat × Nat) :=
  let n := min w.span (s.air.sym - w.sym).toNat
  let rs := (s.unit u).rx.reps.filter fun r => decide (w.sym ≤ r.1) && decide (r.1 < w.sym + n) && r.2.2.2 == some w.id
  if rs.length < n ∨ n = 0 then none else some (rs.foldl (fun a r => (max a.1 r.2.1, max a.2 r.2.2.1)) (0, 0))

/-- Units that take part: (unit, tag, index). -/
def takers (s : State) (w : RxWork) : List (Nat × Nat × Nat) :=
  let e : SchedEntry := { id := w.id, first := 0, count := 0, kind := w.kind, clusters := 0, units := 0, period := 0, reps := 0, param := w.param }
  ((enabledUnits s).filter fun u => unitWhole s u && bit (rd s (Reg.CARRIER_CFG3_CL_MASK w.carrier)) (u / 8) &&
      rateFits s u w.carrier false && prachFits s u e).filterMap fun u => (unitReport s w u).map fun r => (u, r.1, r.2)

/-- The unit is excluded for its INVALID tag (R138). -/
def exclInvalid (s : State) (x : Nat × Nat × Nat) : Bool := on s Reg.BF_CTRL_EXCL_INVALID && x.2.1 == 3

/-! ### Correction and combining (R136, R137) -/

/-- Frequency of subcarrier `k` of carrier `c` from the channel centre, 0.625 kHz per unit (R131). -/
def subFreq (s : State) (c k : Nat) : Int :=
  12 * 2 ^ rd s (Reg.CARRIER_CFG0_SCS c) * (rdI s (Reg.CARRIER_CFG1_CF_OFS c) + 2 * k - 12 * rd s (Reg.CARRIER_CFG1_N_PRB c))

/-- Frequency of PRACH bin `b` of configuration `p` (R151). -/
def prachFreq (s : State) (p b : Nat) : Int :=
  subFreq s (rd s (Reg.PRACH_CFG0_CARRIER p)) 0 + 2 * scsRa (rd s (Reg.PRACH_CFG0_SCS_RA p)) * (rdI s (Reg.PRACH_CFG0_K_OFS p) + b)

/-- R136: bin `x` of unit `u` at gain index `i` and frequency `f`, corrected and equalised, before saturation. -/
def equalise (s : State) (u i : Nat) (f : Int) (x : Int × Int) : Int × Int :=
  Config.equalise [x.1, x.2, (i : Int) - rd s Reg.BF_CTRL_REF_IDX, sgn 16 (s.cal.trims.get (64 * u + 0x20 + i) 0),
    rd s (Reg.UNIT_CORR0_RX_PH (u / 32) (u % 32)), rdI s (Reg.UNIT_CORR1_RX_DLY (u / 32) (u % 32)), f]

/-- sat26 of a complex value. -/
def sat26 (z : Int × Int) : Int × Int := (satInt 26 z.1, satInt 26 z.2)

/-- Groups of the carriers below `c` in the set's mask (the order of R146). -/
def groupBase (s : State) (w c : Nat) : Nat :=
  (List.range c).foldl (fun a k => if bit (rd s (Reg.WSET_DESC_CARR w)) k then
    a + ceilDiv (rd s (Reg.CARRIER_CFG1_N_PRB k)) (2 ^ rd s (Reg.WSET_DESC_GRAN w)) else a) 0

/-- The weight of unit `u`, layer `l` and group `g` of carrier `c` in a copy of set `w`. -/
def weightOf (s : State) (copy : WsetCopy) (w c u l g : Nat) : Int × Int :=
  weightAt copy.bytes (((groupBase s w c + g) * copy.lcnt + l) * gradeUnits s.fuse.grade + u)

/-- round(W × Y / 2^15), each part (R137). -/
def weighted (w y : Int × Int) : Int × Int :=
  (roundDiv (w.1 * y.1 - w.2 * y.2) (2 ^ 15), roundDiv (w.1 * y.2 + w.2 * y.1) (2 ^ 15))

def addC (a b : Int × Int) : Int × Int := (a.1 + b.1, a.2 + b.2)

/-- The bins of a work: bin `k` of unit `u`, 20-bit I and Q (R135). -/
abbrev Bins := List (List (BitVec 20 × BitVec 20))

def binAt (xs : Bins) (u k : Nat) : Int × Int :=
  let x := (xs.getD u []).getD k (0, 0)
  (x.1.toInt, x.2.toInt)

/-- The corrected bins of the contributing units: (unit, Y by bin). -/
def corrected (s : State) (us : List (Nat × Nat × Nat)) (n : Nat) (freq : Nat → Int) (xs : Bins) : List (Nat × List (Int × Int)) :=
  us.map fun x => (x.1, (List.range n).map fun k => equalise s x.1 x.2.2 (freq k) (binAt xs x.1 k))

/-- Partial sum of tile `t` for layer `l`, bin `k` (R137). -/
def partialSum (s : State) (w : RxWork) (ys : List (Nat × List (Int × Int))) (t l g k : Nat) : Int × Int :=
  (ys.filter fun y => y.1 / 32 == t).foldl (fun a y =>
    addC a (weighted (weightOf s w.copy (bits w.param 4 4) w.carrier y.1 l g) (sat26 (y.2.getD k (0, 0))))) (0, 0)

/-- RX_SHIFT: values above 18 act as 18. -/
def rxShift (s : State) (c : Nat) : Nat := min 18 (rd s (Reg.CARRIER_CFG2_RX_SHIFT c))

/-- The layer's REs as I and Q values in turn, with whether the hub saturated (R21, R137). -/
def layerRes (s : State) (w : RxWork) (ys : List (Nat × List (Int × Int))) (n l : Nat) (grp : Nat → Nat) : List Int × Bool :=
  let ps := (List.range n).map fun k => (List.range 4).map fun t => partialSum s w ys t l (grp k) k
  let sh := rxShift s w.carrier
  (ps.flatMap fun p => [combineRe sh (p.map (·.1)), combineRe sh (p.map (·.2))],
   ps.any fun p => combineSat sh (p.map (·.1)) || combineSat sh (p.map (·.2)))

/-- Tiles in which a corrected bin saturates. -/
def eqSat (ys : List (Nat × List (Int × Int))) (t : Nat) : Bool := ys.any fun y => y.1 / 32 == t && y.2.any fun z => sat26 z != z

/-- Saturation flags and counts of one carrier symbol: FFT by tile, the units' correction by tile, the hub in every enabled tile. -/
def satShow (s : State) (fft : Nat) (ys : List (Nat × List (Int × Int))) (hub : Bool) : State :=
  forTiles s fun s t =>
    let bf := hub || eqSat ys t
    let s1 := wrIf (bit fft t) s (Reg.BF_STATUS_FFT_SAT t) 1
    let s2 := wrIf bf s1 (Reg.BF_STATUS_BF_SAT t) 1
    if bf || bit fft t then bump s2 (Reg.BF_COUNT_SAT_CNT t) 1 else s2

/-! ### Packing (R144, R251, R252) -/

/-- Cut a list into blocks of 24 values, the last filled with zeros. -/
def blocks24 : Nat → List Int → List (List Int)
  | 0, _ => []
  | n + 1, vs => ((List.range 24).map fun i => vs.getD i 0) :: blocks24 n (vs.drop 24)

/-- Bytes of a block (Table 6.3). -/
def blockBytes (fmt : Nat) : Nat := [48, 28, 25, 22, 37, 43].getD fmt 48

/-- Sizes of the fewest sections for `n` blocks, larger ones first (R252). -/
def sectionSizes (fmt n : Nat) : List Nat :=
  let k := ceilDiv n (4032 / blockBytes fmt)
  (List.range k).map fun i => n / k + (if i < n % k then 1 else 0)

/-- QUAL of a layer. -/
def qualBytes (tag gain : Nat) (stale : Bool) (excl : Nat) : List Nat := [tag * 64 + (gain % 32) * 2 + b2n stale, excl % 256]

/-- The sections of one layer or window as (layer, payload), from its blocks in order. -/
def sectionsFrom (hdr0 layer window : Nat) (qual : List Nat) : List Nat → Nat → List (List Nat) → List (Nat × List Nat)
  | [], _, _ => []
  | n :: r, start, bs =>
    (layer, [hdr0, layer] ++ beBytes 2 (window * 4096 + start) ++ beBytes 2 n ++ qual ++ (bs.take n).flatten) ::
      sectionsFrom hdr0 layer window qual r (start + n) (bs.drop n)

/-- The sections of a layer's values in format `fmt`. -/
def sectionsOf (fmt hdr0 layer window nblk : Nat) (qual : List Nat) (vs : List Int) : List (Nat × List Nat) :=
  sectionsFrom hdr0 layer window qual (sectionSizes fmt nblk) 0 ((blocks24 nblk vs).map (bfpBlock fmt))

/-! ### Into the pool (R253, R268, R269) -/

/-- Count a symbol that cannot be delivered. -/
def countDrop (s : State) (st : Nat) : State :=
  raiseIf (rd s (Reg.POOL_USE_DROP st) == 0) (bump s (Reg.POOL_USE_DROP st) 1) 0x3013 0

/-- Take all pads of an uplink symbol at once and queue it, or queue its DROPPED packet. -/
def ulPut (s : State) (x : UlSym) : State :=
  if x.pkts.isEmpty then s
  else if padsFor s x.stream x.pkts.length then
    let s1 := setPads s x.stream (rd s (Reg.POOL_USE_USED x.stream) + x.pkts.length)
    { s1 with pool := { s1.pool with ul := s1.pool.ul ++ [x] } }
  else countDrop { s with pool := { s.pool with ul := s.pool.ul ++ [{ x with pkts := [], cause := 1 }] } } x.stream

/-- Symbol tag and gain of the contributing units; open values where none contributes. -/
def workQual (s : State) (us : List (Nat × Nat × Nat)) : Nat × Nat × State :=
  match us with
  | [] =>
    let a := takeFree s 2
    let b := takeFree a.2 5
    (a.1, b.1, b.2)
  | _ => (us.foldl (fun m x => max m x.2.1) 0, us.foldl (fun m x => max m x.2.2) 0, s)

/-- Count the units excluded for INVALID in their tiles. -/
def countExcl (s : State) (ex : List (Nat × Nat × Nat)) : State := forEach ex s fun s x => bump s (Reg.BF_COUNT_EXCL_CNT (x.1 / 32)) 1

/-- Finish a carrier symbol (R137 to R139). -/
def rxSymbolDone (s : State) (w : RxWork) (xs : Bins) (fft : Nat) : State :=
  let all := takers s w
  let us := all.filter fun x => !exclInvalid s x
  let ex := all.filter (exclInvalid s)
  let c := w.carrier
  let prb := rd s (Reg.CARRIER_CFG1_N_PRB c)
  let fmt := rd s (Reg.CARRIER_CFG0_BFP_UL c)
  let g := 2 ^ rd s (Reg.WSET_DESC_GRAN (bits w.param 4 4))
  let ys := corrected s us (12 * prb) (subFreq s c) xs
  let ls := w.mutes.zipIdx.map fun m =>
    let l := lFirst w.param + m.2
    (l, m.1, if m.1 then (List.replicate (24 * prb) 0, false) else layerRes s w ys (12 * prb) l fun k => k / 12 / g)
  let q := workQual (countExcl s ex) us
  let pkts := ls.flatMap fun x => sectionsOf fmt c x.1 0 prb (qualBytes (if x.2.1 then 3 else q.1) q.2.1 w.stale ex.length) x.2.2.1
  ulPut (satShow q.2.2 fft ys (ls.any fun x => x.2.2.2))
    { stream := c, tag := tagOf w.sym, sym := w.sym, carrier := c, prach := false, lfirst := lFirst w.param, lcnt := lCnt w.param
      pkts := pkts.map fun x => (x.1, fmt * 4096, x.2) }

/-- Window `i` of configuration `p` ends after `span` symbols from `n` on (R151): 196,608 REF cycles in 800 µs, the period of 1.25 kHz. -/
def windowLate (s : State) (p : Nat) (w : RxWork) (i : Nat) : Bool :=
  let k := rd s (Reg.PRACH_CFG0_SCS_RA p)
  let n := if k ≤ 1 then 1024 else 256
  let smp := rd s (Reg.PRACH_CFG1_START_OFS p) + rd s (Reg.PRACH_CFG1_CP_LEN p) + (i + 1) * n
  decide ((startOf s (w.sym + w.span) - startOf s w.sym) * (n * scsRa k : Nat) < smp * 196608)

/-- Finish a PRACH occasion (R151, R152): `xs` gives the bins of each window. -/
def prachDone (s : State) (p : Nat) (w : RxWork) (xs : List Bins) (fft : Nat) : State :=
  let all := takers s w
  let us := all.filter fun x => !exclInvalid s x
  let ex := all.filter (exclInvalid s)
  let c := w.carrier
  let fmt := rd s (Reg.CARRIER_CFG0_BFP_UL c)
  let len := lRa (rd s (Reg.PRACH_CFG0_SCS_RA p))
  let nblk := ceilDiv len 12
  let wins := List.range (rd s (Reg.PRACH_CFG0_N_REP p))
  let yw := (wins.filter fun i => !windowLate s p w i).map fun i => (i, corrected s us len (prachFreq s p) (xs.getD i []))
  let ls := yw.flatMap fun y => w.mutes.zipIdx.map fun m =>
    let l := lFirst w.param + m.2
    (y.1, l, m.1, if m.1 then (List.replicate (2 * len) 0, false) else layerRes s w y.2 len l fun _ => 0)
  let q := workQual (countExcl s ex) us
  let s1 := if wins.any (windowLate s p w) then raise (forTiles q.2.2 fun s t => wr s (Reg.BF_STATUS_PRACH_TRUNC t) 1) 0x2038 0 else q.2.2
  let pkts := ls.flatMap fun x =>
    sectionsOf fmt (c + 4 + 8 * p) x.2.1 x.1 nblk (qualBytes (if x.2.2.1 then 3 else q.1) q.2.1 w.stale ex.length) x.2.2.2.1
  ulPut (satShow s1 fft (yw.flatMap (·.2)) (ls.any fun x => x.2.2.2.2))
    { stream := 8, tag := tagOf w.sym, sym := w.sym, carrier := c, prach := true, lfirst := lFirst w.param, lcnt := lCnt w.param
      pkts := pkts.map fun x => (x.1, fmt * 4096, x.2) }

/-- Take the work of an entry out of the list; `f` finishes it. -/
def withWork (s : State) (hit : RxWork → Bool) (f : State → RxWork → State) : State :=
  match s.beam.work.find? hit with
  | some w => f { s with beam := { s.beam with work := s.beam.work.erase w } } w
  | none => s

/-- RX_SYMBOL_DONE (R135 to R139): carrier `c`'s symbol of entry `id` at `sym`, with the FFTs' bins and the tiles whose FFT saturated. -/
def execRxSymbolDone (c : Fin 4) (id : BitVec 32) (sym : BitVec 32) (bins : List (List (BitVec 20 × BitVec 20))) (fft : BitVec 4) (s : State) :
    Host.Outcome State Fault Refusal :=
  .next (withWork s (fun w => w.id == id.toNat && w.carrier == c.val && w.prach.isNone && tagOf w.sym == sym.toNat &&
      decide (w.sym + w.span ≤ s.air.sym)) fun s w => rxSymbolDone s w bins fft.toNat)

/-- PRACH_DONE (R151, R152): configuration `p`'s occasion of entry `id` that begins at `sym`, with each window's bins. -/
def execPrachDone (p : Fin 4) (id : BitVec 32) (sym : BitVec 32) (bins : List (List (List (BitVec 20 × BitVec 20)))) (fft : BitVec 4) (s : State) :
    Host.Outcome State Fault Refusal :=
  .next (withWork s (fun w => w.id == id.toNat && w.prach == some p.val && tagOf w.sym == sym.toNat && decide (w.sym < s.air.sym)) fun s w =>
    prachDone s p w bins fft.toNat)

/-! ### Leaving on the link (R252, R253, R267) -/

/-- The upstream port of a packet of layer `l` (R252). -/
def ulPort (s : State) (l : Nat) : Nat := if bonded s then (if l < 32 then 0 else 1) else activeUp s

/-- A queued symbol has something to send on port `p`. -/
def ulHas (s : State) (p : Nat) (x : UlSym) : Bool :=
  if x.cause ≠ 0 then ulPort s 0 == p else x.pkts.any fun k => ulPort s k.1 == p

/-- The symbol has aged (R267): UL_AGE_MAX in µs, 245.76 cycles each. -/
def ulAged (s : State) (x : UlSym) : Bool :=
  let lim := rd s Reg.POOL_CTRL_UL_AGE_MAX
  lim != 0 && x.cause == 0 && decide ((lim : Int) * 24576 < (nowCycles s - startOf s x.sym) * 100)

/-- Some upstream port is UP. -/
def upstreamUp (s : State) : Bool := portUp s 0 || portUp s 1

/-- Free the pads of packets that leave or are discarded. -/
def ulFree (s : State) (st n : Nat) : State := setPads s st (rd s (Reg.POOL_USE_USED st) - n)

/-- Discard the rest of symbol `x`; its DROPPED packet takes its place while an upstream port is UP. -/
def ulDiscard (s : State) (x : UlSym) : State :=
  let s1 := countDrop (ulFree s x.stream x.pkts.length) x.stream
  let ul := if upstreamUp s then s1.pool.ul.map fun y => if y == x then { y with pkts := [], cause := 2 } else y
    else s1.pool.ul.filter (· != x)
  { s1 with pool := { s1.pool with ul := ul } }

/-- The payload of a DROPPED packet (Table 11.6). -/
def droppedBytes (x : UlSym) : List Nat := [x.carrier + 4 * b2n x.prach, x.lfirst, x.lcnt, x.cause, 0, 0, 0, 0]

/-- The next packet of port `p` leaves. -/
def ulSend (s : State) (p : Nat) : State :=
  match s.pool.ul.find? (ulHas s p) with
  | none => s
  | some x =>
    if x.cause ≠ 0 then
      let s1 := { s with pool := { s.pool with ul := s.pool.ul.erase x } }
      if padsFor s 11 1 then send s1 { port := p, op := 0x12, tag := x.tag, payload := droppedBytes x } else s1
    else
      match x.pkts.find? fun k => ulPort s k.1 == p with
      | none => s
      | some k =>
        let rest := x.pkts.erase k
        let ul := if rest.isEmpty then s.pool.ul.erase x else s.pool.ul.map fun y => if y == x then { y with pkts := rest } else y
        send (ulFree { s with pool := { s.pool with ul := ul } } x.stream 1) { port := p, op := 0x11, tag := x.tag, aux := k.2.1, payload := k.2.2 }

/-- The head of port `p`'s queue is discarded when it has aged (R267). -/
def ulAgeHead (s : State) (p : Nat) : State :=
  match s.pool.ul.find? (ulHas s p) with
  | some x => if ulAged s x then ulDiscard s x else s
  | none => s

/-- UL_DATA (R252): the next `n` packets of port `p` leave; none under S5 (R359). -/
def execUlData (p : Fin 2) (n : BitVec 8) (s : State) : Host.Outcome State Fault Refusal :=
  .next (if portUp s p ∧ stageOf s < 5 then forEach (List.range n.toNat) s fun s _ => ulSend (ulAgeHead s p) p else s)

/-- UL_AGE_DISCARD (R267). -/
def execUlAgeDiscard (p : Fin 2) (s : State) : Host.Outcome State Fault Refusal := .next (ulAgeHead s p)

/-! ### Downlink (R251, R254) -/

/-- A downstream section header is well formed (Table 11.4) for format `fmt`. -/
def dlOk (s : State) (p : Packet) : Bool :=
  let b := body p
  let c := b.getD 0 0 % 4
  let start := bytesAt b 2 2
  let cnt := bytesAt b 4 2
  p.aux.toNat % 4096 == 0 && decide (8 ≤ b.length) && decide (b.getD 0 0 < 4) && decide (b.getD 1 0 < 64) && decide (start < 512) &&
    decide (1 ≤ cnt) && bytesAt b 6 2 == 0 && decide (start + cnt ≤ rd s (Reg.CARRIER_CFG1_N_PRB c)) &&
    b.length == 8 + cnt * blockBytes (p.aux.toNat / 4096)

/-- The deadline of carrier symbol `n`, in REF cycles (R254). -/
def dlDeadline (s : State) (n : Int) : Int := startOf s n - 3687

/-- A well-formed section arrives; under S5 it is discarded and counts in DL_UNCLAIMED (R359). -/
def dlArrive (s : State) (p : Packet) : State :=
  let b := body p
  let c := b.getD 0 0 % 4
  let n := nearestTag (symNow s) p.tag.toNat
  if gradeLayers s.fuse.grade false ≤ b.getD 1 0 then raise s 0x1004 0x210
  else if 5 ≤ stageOf s then bump s Reg.POOL_COUNT2_DL_UNCLAIMED 1
  else if p.aux.toNat / 4096 ≠ rd s (Reg.CARRIER_CFG0_BFP_DL c) then s
  else if n < symNow s ∨ dlDeadline s n < nowCycles s then
    raiseIf (rd s Reg.POOL_COUNT_DL_LATE == 0) (bump s Reg.POOL_COUNT_DL_LATE 1) 0x3012 0
  else if 4915200 < startOf s n - startOf s (symNow s) then bump s Reg.POOL_COUNT2_DL_EARLY 1
  else if !padsFor s (4 + c) 1 then bump s (Reg.POOL_USE_DROP (4 + c)) 1
  else
    let s1 := setPads s (4 + c) (rd s (Reg.POOL_USE_USED (4 + c)) + 1)
    { s1 with pool := { s1.pool with dl := s1.pool.dl ++
      [{ tag := p.tag.toNat, carrier := c, layer := b.getD 1 0, first := bytesAt b 2 2, cnt := bytesAt b 4 2, bytes := b.drop 8 }] } }

/-- DL_DATA (R254). -/
def execDlData (p : Packet) (s : State) : Host.Outcome State Fault Refusal :=
  .next (receive s p fun s => if dlOk s p then dlArrive s p else s)

/-- Block `k` of layer `l`: the last one received. -/
def dlBlock (secs : List DlSec) (l k fmt : Nat) : Option (List Nat) :=
  match secs.reverse.find? fun x => x.layer == l && decide (x.first ≤ k) && decide (k < x.first + x.cnt) with
  | some x => some ((x.bytes.drop ((k - x.first) * blockBytes fmt)).take (blockBytes fmt))
  | none => none

/-- Layer `l` is complete: its `prb` blocks. -/
def dlLayer (secs : List DlSec) (l prb fmt : Nat) : Option (List (List Nat)) :=
  (List.range prb).mapM fun k => dlBlock secs l k fmt

/-- A received block expands to zero (R144). -/
def blockBad (fmt : Nat) (b : List Nat) : Bool := fmt != 0 && decide (16 - bfpMw fmt < b.getD 0 0)

/-- Use one layer of a claim at its deadline. -/
def dlUse (secs : List DlSec) (prb fmt : Nat) (s : State) (l : Nat) : State :=
  match dlLayer secs l prb fmt with
  | none => bump s Reg.POOL_COUNT_DL_INCOMPLETE 1
  | some bs => forTiles s fun s t => bump s (Reg.BF_COUNT2_BFP_ERR_CNT t) (bs.filter (blockBad fmt)).length

/-- The transmit claims that serve carrier `c` in the carrier symbol at `n`; none under S5, which stops the tile datapaths (R359). -/
def dlClaims (s : State) (c : Nat) (n : Int) : List SchedEntry :=
  s.air.queue.filter fun e => decide (stageOf s < 5) && e.kind == 1 && covers e n && (entryCarriers s e n).contains c && entryLive s e n

/-- The deadline of carrier `c`'s symbol `n` (R254). -/
def dlAtDeadline (s : State) (c : Nat) (n : Int) : State :=
  let at' := fun (x : DlSec) => nearestTag (symNow s) x.tag
  let mine := s.pool.dl.filter fun x => x.carrier == c && at' x == n
  let past := s.pool.dl.filter fun x => x.carrier == c && decide (at' x ≤ n)
  let es := dlClaims s c n
  let lost := (if es.isEmpty then past else past.filter fun x => at' x != n).length
  let s1 := forEach es s fun s e =>
    forEach (List.range (lCnt e.param)) s fun s i =>
      dlUse mine (rd s (Reg.CARRIER_CFG1_N_PRB c)) (rd s (Reg.CARRIER_CFG0_BFP_DL c)) s (lFirst e.param + i)
  let s2 := setPads s1 (4 + c) (rd s1 (Reg.POOL_USE_USED (4 + c)) - past.length)
  bump { s2 with pool := { s2.pool with dl := s2.pool.dl.filter fun x => !(x.carrier == c && decide (at' x ≤ n)) } }
    Reg.POOL_COUNT2_DL_UNCLAIMED lost

/-- The balance reaches cycle `t`. -/
def advanceCycles (s : State) (t : Int) : State := { s with time := { s.time with bal := max s.time.bal (cyclesBal t.toNat) } }

/-- DL_DEADLINE (R141, R254): carrier `c`'s symbol with tag `sym` reaches its deadline, before the boundary that follows the present one; `sat` names the tiles whose
transmit stages then saturate (R140). -/
def execDlDeadline (c : Fin 4) (sym : BitVec 32) (sat : BitVec 4) (s : State) : Host.Outcome State Fault Refusal :=
  let n := nearestTag (symNow s) sym.toNat
  .next (if releasing s && on s (Reg.CARRIER_CFG0_EN c) && n % (carrierR s c : Int) == 0 && decide (symNow s < n) &&
      decide (dlDeadline s n ≤ startOf s (symNow s + 1)) then
    let s1 := dlAtDeadline (advanceCycles s (dlDeadline s n)) c n
    forTiles s1 fun s t =>
      if bit sat.toNat t then bump (wr s (Reg.BF_STATUS_BF_SAT t) 1) (Reg.BF_COUNT_SAT_CNT t) 1 else s
  else s)

end Sys2Proof.Machine
end

