-- ==== Sys2Proof/Machine/Boundary.lean ====
section
/-! DEFINITION. A released boundary (spec/05_synthesisers_and_air_timing.md, R121 to R129; spec/16_power.md, R342 to R344): the actions of Table 5.6 in
their order, gating and pre-wake, and the realignment of the SYNC ball. -/

namespace Sys2Proof.Machine

/-! ### Who uses a path in a symbol (R129, R189, R342, R343) -/

/-- A CROAK entry of symbol `n` that names unit `u` as a transmitter: the UNIT of a SELF window, the designated or the alternate unit of a SEND
window. -/
def croakSched (s : State) (u : Nat) (n : Int) : Bool :=
  s.air.queue.any fun e => e.kind == 5 && covers e n &&
    ((bits e.param 0 2 == 2 && bits e.param 11 7 == u) ||
     (bits e.param 0 2 == 1 && on s Reg.CHORUS_CTRL_TX_EN &&
       (rd s Reg.CHORUS_UNITS_DES_UNIT == u || (on s Reg.CHORUS_UNITS_ALT_EN && rd s Reg.CHORUS_UNITS_ALT_UNIT == u))))

/-- Unit `u` sends the croak of the open window. -/
def croakSends (s : State) (u : Nat) : Bool :=
  match s.chorus.win with
  | some w => w.tx == some u
  | none => false

/-- Unit `u` is claimed as a listener of a croak in symbol `n`. -/
def croakClaimed (s : State) (u : Nat) (n : Int) : Bool := ((claimsAt s (u / 8) n).croak.getD (u % 8) none).isSome

/-- The transmit (`tx`) or receive path of unit `u` is wanted in symbol `n`, calibration aside. -/
def pathWanted (s : State) (u : Nat) (tx : Bool) (n : Int) : Bool :=
  (match claimOf s u n with | some e => isTxKind e.kind == tx | none => false) ||
  (if tx then croakSched s u n else croakClaimed s u n)

/-- Unit `u` is claimed or named by a croak window in symbol `n`. -/
def unitWanted (s : State) (u : Nat) (n : Int) : Bool := pathWanted s u true n || pathWanted s u false n

/-- Lead of the pre-wake of a path, whole REF cycles: transmit by LAT (R129), receive by Table 3.3. -/
def wakeLead (s : State) (u : Nat) (tx : Bool) : Nat :=
  if tx then max 492 (ceilDiv (393216 * 12 + 1000 * rd s (Reg.UNIT_TX_LAT_LAT u)) 12000)
  else
    let d := rd s (Reg.UNIT_RX_DEC_RATIO u)
    max 492 (ceilDiv (393216 * 6 + 1000 * (gDelay d + 4) * d) 6000)

/-- The REF cycle of the pre-wake of a path for symbol `n`; an RX symbol begins RX_ADV earlier (R122). -/
def preWakeAt (s : State) (u : Nat) (tx : Bool) (n : Int) : Int :=
  startOf s n - wakeLead s u tx - (if tx then 0 else (rxAdv s : Int))

/-- The next pre-wake of a path after boundary `n` falls within `within` cycles of it. -/
def wakeSoon (s : State) (u : Nat) (tx : Bool) (n within : Int) : Bool :=
  (List.range 6).any fun k =>
    pathWanted s u tx (n + 1 + k) && decide (preWakeAt s u tx (n + 1 + k) ≤ startOf s n + within)

/-! ### The symbol that ends -/

/-- Unit `u`'s measurement; what the operand does not list is silence. -/
def measOf (ms : List SymMeas) (u : Fin 128) : SymMeas :=
  (ms.find? fun m => m.u == u).getD { u := u, now := 0xFF, peak := 0xFF, mean := 0xFF }

/-- A path's idle count at a symbol's end. -/
def idleNext (used : Bool) (n : Nat) : Nat := if used then 0 else n + 1

/-- Symbol `n` ends at unit `u`: its receive report and power, its transmit counts, and its idle counts (R342). -/
def endUnit (ms : List SymMeas) (n : Int) (s : State) (u : Nat) : State :=
  let m := measOf ms (Fin.ofNat 128 u)
  let by' := match liveClaim s u n with
    | some e => if isTxKind e.kind then none else some e.id
    | none => none
  let s1 := rxEndSymbol s u m.now.toNat m.peak.toNat m.mean.toNat by'
  let s2 := txEndSymbol s1 u m.clip m.skip.toNat m.hard.toNat
  let usedRx := pathWanted s u false n || s.power.calBusy.contains (0, u)
  let usedTx := pathWanted s u true n || croakSends s u || s.power.calBusy.contains (1, u)
  let s3 := s2.modUnit u fun x => { x with
    idleRx := idleNext usedRx x.idleRx, idleTx := idleNext usedTx x.idleTx, tx := { x.tx with slipZero := false } }
  if usedRx || usedTx then
    { s3 with power := { s3.power with regBusy := (u / 16) :: s3.power.regBusy.filter (· != u / 16) } }
  else s3

/-- Units that no reset holds. -/
def freeUnits (s : State) : List Nat := (enabledUnits s).filter fun u => !unitHeld s u
def freeClusters (s : State) : List Nat := (enabledClusters s).filter fun c => !clusterHeld s c

/-- The running symbol ends and symbol `n` begins at the balance of its boundary. -/
def turnSymbol (s : State) (ms : List SymMeas) (n : Int) : State :=
  let s1 := forEach (freeUnits s) s (endUnit ms s.air.sym)
  let s2 := advanceTo { s1 with air := { s1.air with sym := n } } n
  forEach (enabledUnits s2) s2 rxNewSymbol

/-! ### Position 3: commits -/

/-- A HOP entry begins at symbol `n` and names cluster `c` (R115). -/
def hopAt (s : State) (c : Nat) (n : Int) : Bool := s.air.queue.any fun e => e.kind == 6 && bit e.clusters c && startsAt e n

/-- Largest ratio of grid to carrier spacing among carriers enabled in active or in shadow values: TILE commits at the slots of all of them (R157). -/
def rCommit (s : State) : Nat :=
  (List.range 4).foldl (fun r c =>
    let a := if on s (Reg.CARRIER_CFG0_EN c) then carrierR s c else 1
    let b := if carrierEnSh s c then 2 ^ (muOf s - rdSh s (Reg.CARRIER_CFG0_SCS c)) else 1
    max r (max a b)) 1

/-- The blocks' commits at boundary `n` (R10), calibration's values with them. -/
def boundaryCommits (s : State) (n : Int) : State :=
  let slot := n % 14 == 0
  let s1 := if slot then escCommit s false else s
  let s2 := forEach ((freeClusters s1).filter fun c => slot || hopAt s1 c n) s1 clusterCommit
  let s3 := forEach (freeUnits s2) s2 fun s u => txCommit (rxCommit s u) u
  let s4 := forEach (freeClusters s3) s3 orxCommit
  let s5 := if n % (14 * rCommit s4 : Int) = 0 then tileCommit s4 else s4
  let s6 := if n % (symPerHalf (muOf s5) : Int) = 0 ∧ !blkHeld s5 0x302 none then chorusCommit s5 else s5
  let s7 := if slot then hkCommit s6 else s6
  forEach (freeClusters s7) s7 calBoundary

/-! ### Position 4: SYNC (R79, R80, R109) -/

/-- Realign the chains of `us`; a slip loses the capture's skew calibration (R293). -/
def realignUnits (s : State) (us : List Nat) (rx tx : Nat → Bool) : State :=
  let s1 := forEach us s fun s u => txRealign (rxRealign s u (rx u)) u (tx u)
  if us.any fun u => (rx u && on s (Reg.UNIT_RX_CTRL_SYNC_EN u)) || (tx u && on s (Reg.UNIT_TX_CTRL_SYNC_EN u)) then capSkewLost s1 else s1

/-- SYNC entries that begin at symbol `n` realign their clusters (R123). -/
def boundarySync (s : State) (ms : List SymMeas) (n : Int) : State :=
  forEach (s.air.queue.filter fun e => e.kind == 8 && startsAt e n) s fun s e =>
    realignUnits s ((freeUnits s).filter fun u => bit e.clusters (u / 8))
      (fun u => (measOf ms (Fin.ofNat 128 u)).rxSlip) (fun u => (measOf ms (Fin.ofNat 128 u)).txSlip)

/-! ### Position 5: moults, weight sets, the symbol's entries -/

/-- Moults, weight-set swaps and, with the sets in force, the entries that claim symbol `n`; croak windows end and open. -/
def boundarySets (s : State) (n : Int) : State :=
  let s1 := swapAll (forEach (freeUnits s) s moultAt) n
  let s2 := forEach (s1.air.queue.filter fun e => isRadio e.kind && entryLive s1 e n) s1 fun s e => openWork (symbolLayers s e n) e n
  forEach (s2.air.queue.filter fun e => e.kind == 5 && startsAt e n) (croakClose s2 n) fun s e => croakWindow s e n

/-! ### Gating (R129, R342, R343) -/

/-- The path's idle timer gates it at boundary `n`. -/
def pathGates (s : State) (u : Nat) (tx : Bool) (n : Int) : Bool :=
  let idle := if tx then (s.unit u).idleTx else (s.unit u).idleRx
  decide (atLeast1 (rd s Reg.PWR_IDLE_UNIT_IDLE) ≤ idle) && !pathWanted s u tx n && !(tx && croakSends s u) &&
  !stepDue s u tx n && !stepDue s u tx (n + 1) && !wakeSoon s u tx n 984

/-- Region `g`'s idle timer gates it at slot boundary `n`: not while an access or calibration has woken it, nor with a pre-wake near. -/
def regionGates (s : State) (g : Nat) (n : Int) : Bool :=
  decide (atLeast1 (rd s Reg.PWR_IDLE_REGION_IDLE) ≤ s.power.regIdle.get g 0) && domState s (12 + g) == domOn &&
  !s.power.woken.contains g && !(unitsOfRegion g).any fun u =>
    unitWanted s u n || stepDue s u true n || stepDue s u false n || stepDue s u true (n + 1) || stepDue s u false (n + 1) ||
    wakeSoon s u true n (7373 + 3687) || wakeSoon s u false n (7373 + 3687)

/-- Gating at boundary `n`: idle timers run in SERVE and DIAG. -/
def boundaryGates (s : State) (n : Int) : State :=
  if modeOf s = mServe ∨ modeOf s = mDiag then
    let s1 := forEach (enabledUnits s) s fun s u =>
      let a := if pathGates s u true n then gateTx s u else s
      if pathGates a u false n then gateRx a u else a
    if n % 14 = 0 then
      let s2 := forEach (enabledRegions s1) s1 fun s g =>
        let t : State := { s with power := { s.power with regIdle := s.power.regIdle.set g 0 (idleNext (s.power.regBusy.contains g) (s.power.regIdle.get g 0)) } }
        if regionGates t g n then gateRegion t g else t
      { s2 with power := { s2.power with regBusy := [] } }
    else s1
  else s

/-! ### Positions 1, 2 and 6: mutes and liveness -/

/-- A boundary at which transmission of unit `u` is scheduled: a claim, a croak of its own, or training (R106, Table 4.8). -/
def txScheduled (s : State) (u : Nat) (n : Int) : Bool :=
  (match liveClaim s u n with | some e => isTxKind e.kind | none => false) || croakSched s u n ||
  (modeOf s == mTrim && (s.unit u).tx.train.isSome)

/-- A path that is not ready loses the symbol (R344). -/
def wakeLate (s : State) : State := raiseIf (rd s Reg.PWR_STATUS_WAKE_LATE == 0) (bump s Reg.PWR_STATUS_WAKE_LATE 1) 0x5009 0

/-- A TX symbol falls while the LO is not LOCKED (R119). -/
def dropUnlocked (s : State) (c : Nat) : State :=
  let s1 := bump s (Reg.CLUSTER_COUNT_TX_DROP_UNLOCK c) 1
  if (s1.cluster c).dropEvt then s1 else raise (s1.modCluster c fun x => { x with dropEvt := true }) 0x2022 0

/-- The transmit side of unit `u` in the new symbol: mutes, table, backoff, and whether it transmits. -/
def startTx (n : Int) (s : State) (u : Nat) : State :=
  let sched := txScheduled s u n
  let runs := !on s (Reg.UNIT_TX_STATUS_STOPPED u)
  let s1 := boundaryCauses s u (n % 14 == 0) sched
  let s2 := updateBackoff (if sched && runs then noTable s1 u else s1) u
  let s3 := if sched && hasTable s2 u then s2.modTx u fun x => { x with started := true }
    else if sched && on s2 (Reg.UNIT_TX_CTRL_NOTBL_MODE u) then s2.modTx u fun x => { x with started := true } else s2
  let lock := on s3 (Reg.CLUSTER_LO_STATUS_LOCK (u / 8))
  let gated := on s3 (Reg.UNIT_TX_STATUS_GATED u)
  let s4 := if sched && !lock then dropUnlocked s3 (u / 8) else s3
  let s5 := if sched && gated then wakeLate s4 else s4
  let go := (sched && !croakSched s5 u n || croakSends s5 u) && lock && !gated && runs && rd s5 (Reg.UNIT_TX_STATUS_MUTE_CAUSE u) == 0
  s5.modTx u fun x => { x with txNow := go }

/-! ### Positions 7 and 8 -/

/-- The receive side of unit `u` in the new symbol: the AGC's decision, and the symbol's tag and index. -/
def startRx (n : Int) (s : State) (u : Nat) : State :=
  let s1 := if chorusListens s u then s else agcDecision s u
  let s2 := s1.modRx u fun x => { x with idx := rd s1 (Reg.UNIT_RX_STATUS_GAIN_IDX u) }
  let s3 := if (s2.unit u).quiesce then markTag s2 u 3 1 else s2
  let claimed := (match liveClaim s3 u n with | some e => !isTxKind e.kind | none => false) || croakClaimed s3 u n
  if claimed && on s3 (Reg.UNIT_RX_STATUS_GATED u) then wakeLate s3 else s3

/-- Unit `u` receives in symbol `n`: claimed, listening, or served by an RX-side calibration step (R128, R189). -/
def receives (s : State) (u : Nat) (n : Int) : Bool :=
  rxLive s u && !unitHeld s u &&
  ((match liveClaim s u n with | some e => !isTxKind e.kind | none => false) || chorusListens s u || s.power.calBusy.contains (0, u))

/-- The strobes of cluster `c` (R128, Table 5.7). -/
def strobes (n : Int) (s : State) (c : Nat) : State :=
  let tx := (unitsOf c).any fun u => (s.unit u).tx.txNow
  wr (wr s (Reg.CLUSTER_STROBE_TXON_NOW c) (b2n tx)) (Reg.CLUSTER_STROBE_RXON_NOW c) (b2n (!tx && (unitsOf c).any fun u => receives s u n))

/-- The paths that calibration uses in the new symbol. -/
def calPaths (s : State) : List (Nat × Nat) :=
  (enabledClusters s).filterMap fun c =>
    match (s.ccal c).run with
    | some r => if 0 < (s.ccal c).left then some (if calSide r.cal = 0 then 0 else 1, 8 * c + r.pos) else none
    | none => none

/-- Symbol start: calibration steps, the ORX switch, strobes, and what a slot boundary triggers. -/
def boundaryStart (s : State) (n : Int) : State :=
  let s1 := forEach (freeClusters s) s fun s c => calStart s c n
  let s2 := forEach (freeClusters s1) { s1 with power := { s1.power with calBusy := calPaths s1 } } orxSwitch
  let s3 := forEach (freeClusters s2) s2 (strobes n)
  let s4 := if n % 14 = 0 then
      forEach (freeClusters s3) (forEach (enabledRegions s3) (hkSlot s3) fun s g => userTrigger s g 2) rffeSlot
    else s3
  let s5 := retireEntries s4 n
  if modeOf s5 = mTrim then showTrimWork s5 else s5

/-- Every action of the boundary of symbol `n` (Table 5.6). -/
def boundaryActions (s : State) (ms : List SymMeas) (n : Int) : State :=
  let s1 := boundaryCommits s n
  let s2 := forEach (enabledClusters s1) s1 fun s c => turnCheck s c n
  let s3 := boundarySets (layerCaps (boundarySync s2 ms n) n) n
  let s4 := boundaryGates s3 n
  let s5 := forEach (freeUnits s4) s4 (startTx n)
  let s6 := forEach (enabledUnits s5) s5 updateNbLive
  boundaryStart (forEach (freeUnits s6) s6 (startRx n)) n

/-- The boundary of the next symbol is released. A mode change that stops the escapement there ends it at position 2. -/
def symbolBoundary (s : State) (ms : List SymMeas) : State :=
  let n := max (s.air.sym + 1) (symNow s)
  let s1 := turnSymbol s ms n
  let s2 := if n % 14 = 0 then modeBoundary s1 else s1
  if releasing s2 then boundaryActions s2 ms n else s2

/-! ### The SYNC ball (R79, R80) -/

/-- The realignment of a sampled edge: in SERVE, units without SYNC_PIN_SERVE count it as ignored. -/
def syncRealign (s : State) (rx tx : Nat → Bool) : State :=
  if s.air.syncEdge then
    let s1 : State := { s with air := { s.air with syncEdge := false } }
    let acts := fun (u : Nat) => modeOf s != mServe || on s (Reg.UNIT_RX_CTRL_SYNC_PIN_SERVE u)
    let ign := (freeUnits s1).filter fun u => !acts u
    let s2 := forEach ign s1 fun s u => s.modRx u fun x => { x with syncIgnored := x.syncIgnored + 1 }
    realignUnits (raiseIf (!ign.isEmpty) s2 0x2003 0) ((freeUnits s1).filter acts) rx tx
  else s

/-! ### Pre-wake (R129, R343) -/

/-- The paths of unit `u` are due within `k` symbols. -/
def pathDue (s : State) (u : Nat) (tx : Bool) (k : Nat) : Bool :=
  (List.range k).any (fun i => pathWanted s u tx (s.air.sym + 1 + i)) || stepDue s u tx (s.air.sym + 1) || stepDue s u tx (s.air.sym + 2)

/-- A wake of kind `k` (0 RX path, 1 TX path, 2 region) of `i` may start. -/
def wakeWanted (s : State) (k i : Nat) : Bool :=
  releasing s &&
  (if k = 2 then
    regionEnabled s i && domState s (12 + i) != domOn && !domFailed s (12 + i) && decide (stageOf s < 4) &&
    (unitsOfRegion i).any fun u => pathDue s u true 7 || pathDue s u false 7
  else unitEnabled s i && on s (if k = 1 then Reg.UNIT_TX_STATUS_GATED i else Reg.UNIT_RX_STATUS_GATED i) && pathDue s i (k == 1) 4)

def preWake (s : State) (k i : Nat) : State :=
  if wakeWanted s k i && !s.power.waking.contains (k, i) then { s with power := { s.power with waking := s.power.waking ++ [(k, i)] } } else s

/-- The wake ends. A path needs its region's island on. -/
def wakeReady (s : State) (k i : Nat) : State :=
  if s.power.waking.contains (k, i) then
    let s1 : State := { s with power := { s.power with waking := s.power.waking.filter (· != (k, i)) } }
    if k = 2 then (if domFailed s1 (12 + i) then s1 else wakeRegion s1 i)
    else if domState s1 (12 + i / 16) ≠ domOn then s1
    else if k = 1 then wakeTx s1 i else wakeRx s1 i
  else s

/-! ### The commands' meanings -/

/-- SYMBOL_BOUNDARY (R127); `ms` is what the ending symbol measured. Where no boundary is released nothing happens. -/
def execSymbolBoundary (ms : List SymMeas) (s : State) : Host.Outcome State Fault Refusal :=
  .next (if releasing s then symbolBoundary s ms else s)

/-- SYNC_REALIGN (R80): bit u of `rx` and `tx` says that unit u's phase is not at its target. -/
def execSyncRealign (rx tx : BitVec 128) (s : State) : Host.Outcome State Fault Refusal :=
  .next (syncRealign s (bit rx.toNat) (bit tx.toNat))

/-- PRE_WAKE (R129): `kind` 0 RX path, 1 TX path, 2 region. -/
def execPreWake (kind : Fin 3) (i : Fin 128) (s : State) : Host.Outcome State Fault Refusal := .next (preWake s kind i)

/-- PATH_WAKE_READY (R343). -/
def execPathWakeReady (kind : Fin 3) (i : Fin 128) (s : State) : Host.Outcome State Fault Refusal := .next (wakeReady s kind i)

end Sys2Proof.Machine
end

