-- ==== Sys2Proof/Machine/Flags.lean ====
section
/-! DEFINITION. Flags of a Newt context (Table 9.3, R214): what ADD, SUB and the logical operations set, and the conditions of BR. -/

namespace Sys2Proof.Machine

/-- Z and N of a 32-bit result. -/
def flagsZN (c : CtxS) (r : Nat) : CtxS := { c with z := r == 0, n := bit r 31 }

/-- Flags of ADD: C is the carry out of bit 31, V a signed overflow. -/
def flagsAdd (c : CtxS) (a b : Nat) : CtxS :=
  let r := (a + b) % 2 ^ 32
  { flagsZN c r with c := decide (2 ^ 32 ≤ a + b), v := bit a 31 == bit b 31 && bit r 31 != bit a 31 }

/-- Flags of SUB: V is a signed overflow; the spec does not say which way C runs, so C is the open value `f`. -/
def flagsSub (c : CtxS) (a b : Nat) (f : Bool) : CtxS :=
  let r := (a + 2 ^ 32 - b) % 2 ^ 32
  { flagsZN c r with c := f, v := bit a 31 != bit b 31 && bit r 31 != bit a 31 }

/-- Flags of AND, OR and XOR: the spec states no C and no V, so both are open values. -/
def flagsLogic (c : CtxS) (r : Nat) (f g : Bool) : CtxS := { flagsZN c r with c := f, v := g }

/-- COND of BR (Table 9.6). -/
def condHolds (c : CtxS) (k : Nat) : Bool :=
  match k with
  | 0 => true
  | 1 => c.z
  | 2 => !c.z
  | 3 => c.n != c.v
  | 4 => c.n == c.v
  | 5 => c.c
  | 6 => !c.c
  | _ => c.sat

end Sys2Proof.Machine
end

