-- ==== Sys2Proof/Machine/NewtCode.lean ====
section
/-! DEFINITION. Newt instruction words (spec/09_newt_cores.md, R214, Tables 9.5 and 9.6): the instructions, and their decoder. -/

namespace Sys2Proof.Machine

/-- Operations of class ALU, in the order of their codes. -/
inductive AluOp where
  | add | sub | and | or | xor | shl | shr | sar | min | max | cadd | csub | cconj | swaph | mov
  deriving DecidableEq, Repr

/-- Operations of class ALUI, in the order of their codes. -/
inductive ImmOp where
  | addi | andi | ori | xori | shli | shri | sari | movi | movhi
  deriving DecidableEq, Repr

/-- Operations of class MAC, in the order of their codes. -/
inductive MacOp where
  | none | cmac | cmacc | cmsu | cmul | rmac | cpwr | clr
  deriving DecidableEq, Repr

/-- Operations of class PTR, in the order of their codes. -/
inductive PtrOp where
  | movp | movxp | movm | movxm | addp | circ | movwb
  deriving DecidableEq, Repr

/-- A move: store or load, register, pointer index and mode (R207). -/
structure Move where
  store : Bool
  x : Nat
  p : Nat
  mode : Nat
  deriving DecidableEq, Repr

/-- An instruction of Table 9.6. -/
inductive NI where
  | nop
  | br (cond target : Nat)
  | call (target : Nat)
  | ret
  /-- LEN, the register that gives COUNT (SRC 1), and COUNT (SRC 0) -/
  | loop (len : Nat) (reg : Option Nat) (count : Nat)
  | yield
  | waitev (mask : Nat)
  | halt
  | sys (svc : Nat)
  | alu (op : AluOp) (d a b : Nat)
  | imm (op : ImmOp) (d a v : Nat)
  | mac (op : MacOp) (acc a b : Nat) (moves : List Move)
  | ldst (m : Move)
  | trn (d acc sh rnd : Nat)
  | lda (acc x : Nat)
  | adda (acc acc2 : Nat)
  | nega (acc : Nat)
  | ptr (op : PtrOp) (n x x2 : Nat)
  | long (file index v : Nat)
  deriving DecidableEq, Repr

/-- Words of an instruction whose first word is `w`: two for class 0x3 with EXT and for class 0x7. -/
def sizeOf' (w : Nat) : Nat := if bits w 28 4 = 7 ∨ (bits w 28 4 = 3 ∧ bit w 0) then 2 else 1

def decodeCtrl (w : Nat) : Option NI :=
  match bits w 24 4 with
  | 0 => some .nop
  | 1 => if bits w 20 4 ≤ 7 then some (.br (bits w 20 4) (bits w 0 15)) else none
  | 2 => some (.call (bits w 0 15))
  | 3 => some .ret
  | 4 => if bits w 11 12 = 0 then none
    else some (.loop (bits w 11 12) (if bit w 23 then some (bits w 0 4) else none) (bits w 0 11))
  | 5 => some .yield
  | 6 => some (.waitev (bits w 0 8))
  | 7 => some .halt
  | 8 => some (.sys (bits w 0 8))
  | _ => none

def aluOps : List AluOp := [.add, .sub, .and, .or, .xor, .shl, .shr, .sar, .min, .max, .cadd, .csub, .cconj, .swaph, .mov]

def decodeAlu (w : Nat) : Option NI :=
  if bits w 20 2 ≠ 0 ∨ bits w 0 8 ≠ 0 ∨ (12 ≤ bits w 22 6 ∧ bits w 8 4 ≠ 0) then none
  else (aluOps[bits w 22 6]?).map fun op => .alu op (bits w 16 4) (bits w 12 4) (bits w 8 4)

def immOps : List ImmOp := [.addi, .andi, .ori, .xori, .shli, .shri, .sari, .movi, .movhi]

def decodeImm (w : Nat) : Option NI :=
  if 7 ≤ bits w 24 4 ∧ bits w 16 4 ≠ 0 then none
  else (immOps[bits w 24 4]?).map fun op => .imm op (bits w 20 4) (bits w 16 4) (bits w 0 16)

def macOps : List MacOp := [.none, .cmac, .cmacc, .cmsu, .cmul, .rmac, .cpwr, .clr]

/-- Class MAC: `w1` is the extension word. -/
def decodeMac (w w1 : Nat) : Option NI :=
  let m1 := if bit w 16 then [{ store := false, x := bits w 13 3, p := bits w 11 2, mode := bits w 9 2 : Move }] else []
  let m2 := if bit w 8 then [{ store := false, x := 8 + bits w 5 3, p := 4 + bits w 3 2, mode := bits w 1 2 : Move }] else []
  let m3 := if bit w 0 then [{ store := bit w1 31, x := bits w1 27 4, p := bits w1 24 3, mode := bits w1 22 2 : Move }] else []
  if bit w 0 && bits w1 0 22 != 0 then none
  else (macOps[bits w 25 3]?).map fun op => .mac op (bits w 23 2) (bits w 20 3) (8 + bits w 17 3) (m1 ++ m2 ++ m3)

def decodeLdst (w : Nat) : Option NI :=
  if bits w 0 18 ≠ 0 then none else some (.ldst { store := bit w 27, x := bits w 23 4, p := bits w 20 3, mode := bits w 18 2 })

def decodeAcc (w : Nat) : Option NI :=
  if bits w 0 10 ≠ 0 then none
  else match bits w 24 4 with
    | 0 => if bits w 10 2 = 3 then none else some (.trn (bits w 16 4) (bits w 22 2) (bits w 12 4) (bits w 10 2))
    | 1 => some (.lda (bits w 22 2) (bits w 16 4))
    | 2 => some (.adda (bits w 22 2) (bits w 20 2))
    | 3 => some (.nega (bits w 22 2))
    | _ => none

def ptrOps : List PtrOp := [.movp, .movxp, .movm, .movxm, .addp, .circ, .movwb]

def decodePtr (w : Nat) : Option NI :=
  if bit w 20 || bits w 0 12 != 0 then none
  else (ptrOps[bits w 24 4]?).map fun op => .ptr op (bits w 21 3) (bits w 16 4) (bits w 12 4)

/-- Class LONG: FILE 0b11, and an index above 7 of P or M, are reserved. -/
def decodeLong (w w1 : Nat) : Option NI :=
  let file := bits w 26 2
  let i := bits w 22 4
  if bits w 0 22 ≠ 0 ∨ file = 3 ∨ (file ≠ 0 ∧ 8 ≤ i) then none else some (.long file i w1)

/-- The instruction of word `w`, with `w1` the word after it; none where R214 raises ILLEGAL. -/
def newtDecode (w w1 : Nat) : Option NI :=
  match bits w 28 4 with
  | 0 => decodeCtrl w
  | 1 => decodeAlu w
  | 2 => decodeImm w
  | 3 => decodeMac w w1
  | 4 => decodeLdst w
  | 5 => decodeAcc w
  | 6 => decodePtr w
  | 7 => decodeLong w w1
  | _ => none

end Sys2Proof.Machine
end

