-- ==== Sys2Proof/Machine/Operands.lean ====
section
/-! DEFINITION. Operands of Newt instructions (spec/09_newt_cores.md, R207 to R211, R213, R222): registers, addressing modes, permitted addresses,
and the moves of one instruction. -/

namespace Sys2Proof.Machine

/-! ### Registers -/

def w32 (i : Int) : Nat := code 32 i

def CtxS.getX (c : CtxS) (k : Nat) : Nat := c.x.get k 0
def CtxS.setX (c : CtxS) (k v : Nat) : CtxS := { c with x := c.x.set k 0 (v % 2 ^ 32) }
def CtxS.getP (c : CtxS) (k : Nat) : Nat := c.p.get k 0
/-- Bits 1:0 of a pointer, modifier or base are forced to 0 (Table 9.3). -/
def CtxS.setP (c : CtxS) (k v : Nat) : CtxS := { c with p := c.p.set k 0 (v % 2 ^ 32 / 4 * 4) }
def CtxS.getM (c : CtxS) (k : Nat) : Nat := c.m.get k 0
def CtxS.setM (c : CtxS) (k v : Nat) : CtxS := { c with m := c.m.set k 0 (v % 2 ^ 32 / 4 * 4) }

/-- I and Q of a complex register. -/
def xI (v : Nat) : Int := sgn 16 (bits v 16 16)
def xQ (v : Nat) : Int := sgn 16 (bits v 0 16)

/-- The register of parts I and Q. -/
def xIQ (i q : Int) : Nat := code 16 i * 65536 + code 16 q

/-! ### Addressing (R207, R208) -/

/-- Pn moved by `step`, circular where Ln is not 0. -/
def stepPtr (c : CtxS) (n : Nat) (step : Int) : Nat :=
  let p : Int := c.getP n
  let l := c.l.get n 0
  if l = 0 then w32 (p + step)
  else
    let b : Int := c.b.get n 0
    w32 (b + (p + step - b) % (l : Int))

/-- The address that a move accesses. -/
def moveAddr (c : CtxS) (m : Move) : Nat := if m.mode = 2 then stepPtr c m.p (sgn 32 (c.getM m.p)) else c.getP m.p

/-- The update of a move's pointer. -/
def moveUpdate (c : CtxS) (m : Move) : CtxS :=
  if m.mode = 1 then c.setP m.p (stepPtr c m.p (sgn 32 (c.getM m.p)))
  else if m.mode = 3 then c.setP m.p (stepPtr c m.p 4)
  else c

/-! ### Permitted addresses (R202, R213, R222) -/

/-- The device address of core address `a` (Table 9.1). -/
def fabricAddr (c : CtxS) (a : Nat) : Nat := c.wb * 2 ^ 28 + (a - 0x10000000)

/-- The registers that a user kernel may read outside DIAG: its region's UNIT, CLUSTER and REGION blocks, and TIME. -/
def userReg (g o : Nat) : Bool :=
  (match unitAt o with | some u => u / 16 == g | none => false) ||
  (match clusterAt o with | some c => c / 2 == g | none => false) ||
  regionAt o == some g || (decide (0x40000 ≤ o) && decide (o < 0x50000))

/-- The access is permitted: otherwise it raises ACCESS. -/
def permitted (s : State) (g : Nat) (user : Bool) (c : CtxS) (store : Bool) (a : Nat) : Bool :=
  let k := memKind a
  k != 0 && !((k == 3 || k == 4) && fallback s g) &&
  (!user || modeOf s == mDiag ||
    (if k = 1 then decide (0xC000 ≤ a)
     else if k = 2 then decide (0x1C000 ≤ a)
     else if k = 3 then decide (0x280000 ≤ a)
     else if k = 4 then decide (userArea ≤ fabricAddr c a) && decide (fabricAddr c a < dieEnd)
     else !store && userReg g (a - 0xF0000000)))

/-! ### One access -/

/-- Device address of a fabric or register-window access. -/
def deviceAddr (c : CtxS) (a : Nat) : Nat := if memKind a = 4 then fabricAddr c a else winBase + (a - 0xF0000000)

/-- The access goes outside the core. -/
def outside (a : Nat) : Bool := memKind a == 4 || memKind a == 5

/-- Read one word; `ue` says that a die word has a double-bit error, `ce` that a single-bit error was corrected (R305). An error response is status
not 0. -/
def coreRead (s : State) (g : Nat) (c : CtxS) (ue ce : Bool) (a : Nat) : Nat × Nat × State :=
  if outside a then
    let r := busReadUe s (deviceAddr c a) ue
    match target (deviceAddr c a) with
    | .die _ => if r.1 = 0 ∧ ce then (r.1, r.2.1, memCe r.2.2 1) else r
    | _ => r
  else (0, memWord s (newtBase g + a), s)

/-- Write one word. -/
def coreWrite (s : State) (g : Nat) (user : Bool) (c : CtxS) (a v : Nat) : Nat × State :=
  if outside a then busWrite s (.newt g user) (deviceAddr c a) v else (0, setMemWord s (newtBase g + a) v)

/-! ### The moves of one instruction (R210, R215) -/

/-- Loads in order: values by register, or the status of the first error. -/
def runLoads (g : Nat) (c : CtxS) (ue ce : Bool) : State → List Move → State × Option (List (Nat × Nat))
  | s, [] => (s, some [])
  | s, m :: r =>
    if m.store then runLoads g c ue ce s r
    else
      let x := coreRead s g c ue ce (moveAddr c m)
      if x.1 ≠ 0 then (x.2.2, none)
      else
        let y := runLoads g c ue ce x.2.2 r
        (y.1, y.2.map fun l => (m.x, x.2.1) :: l)

/-- The store, when there is one. -/
def runStores (g : Nat) (user : Bool) (c : CtxS) : State → List Move → State × Bool
  | s, [] => (s, true)
  | s, m :: r =>
    if m.store then
      let x := coreWrite s g user c (moveAddr c m) (c.getX m.x)
      if x.1 ≠ 0 then (x.2, false) else runStores g user c x.2 r
    else runStores g user c s r

/-- What the moves of an instruction come to: an exception, or the state and registers after them. Every access is checked before the first is made;
registers change only when all have succeeded. -/
def runMoves (s : State) (g : Nat) (user ue ce : Bool) (c0 c : CtxS) (ms : List Move) : Except (Nat × State) (State × CtxS) :=
  if ms.any fun m => !permitted s g user c0 m.store (moveAddr c0 m) then .error (2, s)
  else match runLoads g c0 ue ce s ms with
    | (s1, none) => .error (3, s1)
    | (s1, some vs) =>
      let r := runStores g user c0 s1 ms
      if r.2 then .ok (r.1, ms.foldl moveUpdate (vs.foldl (fun c x => c.setX x.1 x.2) c))
      else .error (3, r.1)

/-- Accesses of the moves on XB, YB and ZB (R211). -/
def moveBuses (c : CtxS) (ms : List Move) : Nat × Nat × Nat :=
  let n := fun (k : Nat) => (ms.filter fun m => (if memKind (moveAddr c m) ≤ 2 then memKind (moveAddr c m) else 3) == k).length
  (n 1, n 2, n 3)

end Sys2Proof.Machine
end

