-- ==== Sys2Proof/Machine/NewtRun.lean ====
section
/-! DEFINITION. How a Newt context runs one instruction (spec/09_newt_cores.md, R211, R212, R215, R216, R220): fetch, exceptions, the loop stack, the loop
cache, cycles, and the points at which a STOP acts. -/

namespace Sys2Proof.Machine

/-! ### Exceptions (R215) -/

/-- The vendor context faults: VSTATE, event 0x2061, and the block reset that the crown core requests. -/
def vendorFault (s : State) (g : Nat) : State :=
  (requestBlk (raise (wr s (Reg.NEWT_STATUS_VSTATE g) vFault) 0x2061 0) (0x200 + g) false).1

/-- An exception suspends the use of the loop cache (R212). -/
def suspendCache (s : State) (g : Nat) : State :=
  s.modNewt g fun x => { x with cache := x.cache.map fun k => { k with use := false } }

/-- Exception `e` of a context. -/
def newtFault (s : State) (g : Nat) (user : Bool) (e : Nat) : State :=
  if user then userFault (suspendCache s g) g e else vendorFault (suspendCache s g) g

/-! ### Fetch -/

/-- The PM word at index `i`; PC has 15 bits. -/
def pmWord (s : State) (g i : Nat) : Nat := memWord s (pmAddr g (i % 32768))

/-- Instruction at `pc` with its words, or the exception of its fetch: outside DIAG the user context runs only from its area of PM (R222). -/
def fetchInstr (s : State) (g : Nat) (user : Bool) (pc : Nat) : Except Nat (NI × Nat) :=
  if user && modeOf s != mDiag && decide (pc < 0x6000) then .error 2
  else match newtDecode (pmWord s g pc) (pmWord s g (pc + 1)) with
    | none => .error 1
    | some i => .ok (i, sizeOf' (pmWord s g pc))

/-- The index after `n` instructions from `i` on. -/
def afterInstrs (s : State) (g : Nat) : Nat → Nat → Nat
  | 0, i => i
  | n + 1, i => afterInstrs s g n (i + sizeOf' (pmWord s g i))

/-! ### What an instruction leaves -/

/-- The state and registers after an instruction, before PC moves: the next index, whether a branch, CALL or RET took it there, whether a YIELD, WAITEV or
HALT ran, the body of a LOOP that starts with its LEN, and accesses on XB, YB and ZB. -/
structure NOut where
  s : State
  c : CtxS
  pc : Nat
  jump : Bool := false
  point : Bool := false
  halt : Bool := false
  body : Option (Nat × Nat × Nat) := none
  bus : Nat × Nat × Nat := (0, 0, 0)

abbrev NRes := Except (Nat × State) NOut

/-- The loop stack at index `pc`, reached in sequence (R212): levels, index, and whether an iteration of the outermost loop has ended. -/
def loopEnd : List LoopLvl → Nat → List LoopLvl × Nat × Bool
  | [], pc => ([], pc, false)
  | l :: r, pc =>
    if pc = l.stop % 32768 then
      if 1 < l.left then ({ l with left := l.left - 1 } :: r, l.start, r.isEmpty)
      else
        let x := loopEnd r pc
        (x.1, x.2.1, r.isEmpty || x.2.2)
    else (l :: r, pc, false)

/-! ### The loop cache (R212) -/

/-- The cache once a context switch has suspended it: it refills. -/
def cacheSwitch (k : Option LoopCache) : Option LoopCache := k.map fun k => { k with use := false, filled := [] }

/-- The cache after the instruction at `pc`, with `next` the index that follows. -/
def cacheAfter (k : Option LoopCache) (pc next : Nat) (jump : Bool) (body : Option (Nat × Nat × Nat)) : Option LoopCache :=
  let k1 := k.map fun k =>
    let ran := if k.use && decide (k.start ≤ pc) && decide (pc < k.stop) && !k.filled.contains pc then { k with filled := pc :: k.filled } else k
    if jump && !(decide (k.start ≤ next) && decide (next < k.stop)) then { ran with use := false }
    else if !jump && next == k.start then { ran with use := true }
    else ran
  match body with
  | none => k1
  | some (a, b, len) =>
    match k1 with
    | some k => if k.start ≤ a ∧ b ≤ k.stop then some k else if len ≤ 256 then some { start := a, stop := b } else none
    | none => if len ≤ 256 then some { start := a, stop := b } else none

/-- Cycles of an instruction of `w` words (R211), without and with the accesses' share. -/
def newtCycles (cached : Bool) (w : Nat) (bus : Nat × Nat × Nat) : Nat × Nat :=
  let add := (bus.1 - 1) + (bus.2.1 - 1)
  if cached then (1, max 1 bus.2.2 + add) else (w, w + bus.2.2 + add)

/-! ### One instruction -/

/-- HALT (R223): the user kernel waits for a trigger or stops, and the view holds its registers; the vendor context stops. -/
def haltCtx (s : State) (g : Nat) (user : Bool) : State :=
  if user then
    if rd s (Reg.NEWT_USER_CTRL_TRIG_EN g) ≠ 0 then setU (takeView s g) g uWaiting else stopKernel s g
  else wr s (Reg.NEWT_STATUS_VSTATE g) vStop

/-- A quiesce request for core `g` waits: it stops the vendor context too (R220). -/
def vendorQuiesce (s : State) (g : Nat) : Bool :=
  match s.rst.request with
  | some q => (quiesceUnder s q.blk).contains (0x200 + g)
  | none => false

/-- Complete an instruction of `w` words that ran at `pc`. -/
def newtFinish (o : NOut) (g : Nat) (user : Bool) (pc w : Nat) : State :=
  let x := o.s.newt g
  let switch := x.lastUser != user
  let k0 := if switch then cacheSwitch x.cache else x.cache
  let cached := match k0 with | some k => k.use && k.filled.contains pc | none => false
  let l := if o.jump then (o.c.loops, o.pc, false) else loopEnd o.c.loops o.pc
  let cyc := newtCycles cached w o.bus
  let n := cyc.2 + (if switch then 4 else 0)
  let c : CtxS := { o.c with loops := l.1, pc := l.2.1 % 32768 }
  let s1 := (rollLoad o.s g).modNewt g fun x => { x with
    user := if user then c else x.user, vendor := if user then x.vendor else c, lastUser := user
    cache := cacheAfter k0 pc (l.2.1 % 32768) o.jump o.body
    cycles := if user then x.cycles + n else x.cycles
    uCyc := if user then x.uCyc + n else x.uCyc, vCyc := if user then x.vCyc else x.vCyc + n }
  let s2 := bump s1 (Reg.NEWT_LOAD_CONFLICT g) (cyc.2 - cyc.1)
  if o.halt then haltCtx s2 g user
  else if (o.point || c.loops.isEmpty || l.2.2) && (if user then (s2.newt g).stopReq else vendorQuiesce s2 g) then
    if user then stopKernel s2 g else wr s2 (Reg.NEWT_STATUS_VSTATE g) vStop
  else s2

/-- Run the instruction at the context's PC when `eff` knows it: `eff` is given the registers, a wait ended, and the index after the instruction. -/
def newtRun (s : State) (g : Nat) (user : Bool) (eff : NI → Option (CtxS → Nat → NRes)) : State :=
  if !ctxRuns s g user then s
  else
    let c : CtxS := { s.ctx g user with wait := none }
    match fetchInstr s g user c.pc with
    | .error e => newtFault s g user e
    | .ok (i, w) =>
      match eff i with
      | none => s
      | some f =>
        match f c ((c.pc + w) % 32768) with
        | .error (e, s1) => newtFault s1 g user e
        | .ok o => newtFinish o g user c.pc w

/-- An instruction that only changes registers. -/
def plain (s : State) (f : CtxS → CtxS) : Option (CtxS → Nat → NRes) := some fun c nx => .ok { s := s, c := f c, pc := nx }

/-- The instruction at PC makes a fabric or register-window access (R211). -/
def accessesOutside (s : State) (g : Nat) (user : Bool) : Bool :=
  let c := s.ctx g user
  match fetchInstr s g user c.pc with
  | .ok (.mac _ _ _ _ ms, _) => ms.any fun m => outside (moveAddr c m) && permitted s g user c m.store (moveAddr c m)
  | .ok (.ldst m, _) => outside (moveAddr c m) && permitted s g user c m.store (moveAddr c m)
  | _ => false

/-- NEWT_BUS_TIMEOUT (R211). -/
def execNewtBusTimeout (g : Fin 8) (user : Bool) (s : State) : Host.Outcome State Fault Refusal :=
  .next (if ctxRuns s g user && accessesOutside s g user then newtFault s g user 3 else s)

/-- NEWT_HEARTBEAT_MISS (R215). -/
def execNewtHeartbeatMiss (g : Fin 8) (s : State) : Host.Outcome State Fault Refusal :=
  .next (if regionEnabled s g && vState s g == vRun then vendorFault (wr s (Reg.NEWT_STATUS_HB_OK g) 0) g else s)

end Sys2Proof.Machine
end

