-- ==== Sys2Proof/Machine/NewtAlu.lean ====
section
/-! DEFINITION. Newt instructions of classes ALU and ALUI (Table 9.6). -/

namespace Sys2Proof.Machine

/-- An ALU operation `op` with effect `f` on the registers, from Xd, Xa and Xb. -/
def aluRow (s : State) (g : Nat) (user : Bool) (op : AluOp) (f : CtxS → Nat → Nat → Nat → CtxS) : State :=
  newtRun s g user fun i => match i with
    | .alu o d a b => if o = op then plain s fun c => f c d (c.getX a) (c.getX b) else none
    | _ => none

/-- An ALUI operation, from Xd, Xa and IMM. -/
def immRow (s : State) (g : Nat) (user : Bool) (op : ImmOp) (f : CtxS → Nat → Nat → Nat → CtxS) : State :=
  newtRun s g user fun i => match i with
    | .imm o d a v => if o = op then plain s fun c => f c d (c.getX a) v else none
    | _ => none

/-- IMM sign-extended. -/
def immSign (v : Nat) : Int := sgn 16 v

/-- Shift right arithmetically by `n`. -/
def sarWord (v n : Nat) : Nat := w32 (sgn 32 v / (2 ^ n : Nat))

/-- A per-part operation, each part saturated; SAT is set where one saturates. -/
def partsSat (c : CtxS) (d : Nat) (i q : Int) : CtxS :=
  let c1 := c.setX d (xIQ (satInt 16 i) (satInt 16 q))
  { c1 with sat := c1.sat || satInt 16 i != i || satInt 16 q != q }

/-- ADD: sets Z, N, C, V. -/
def execNAdd (g : Fin 8) (user : Bool) (s : State) : Host.Outcome State Fault Refusal :=
  .next (aluRow s g user .add fun c d a b => (flagsAdd c a b).setX d (a + b))

/-- SUB: sets Z, N, C, V; C is open. -/
def execNSub (g : Fin 8) (user : Bool) (s : State) : Host.Outcome State Fault Refusal :=
  let f := takeFree s 1
  .next (aluRow f.2 g user .sub fun c d a b => (flagsSub c a b (f.1 == 1)).setX d (a + 2 ^ 32 - b))

/-- AND: sets Z and N; C and V are open. -/
def execNAnd (g : Fin 8) (user : Bool) (s : State) : Host.Outcome State Fault Refusal :=
  let f := takeFree s 2
  .next (aluRow f.2 g user .and fun c d a b => (flagsLogic c (a &&& b) (bit f.1 0) (bit f.1 1)).setX d (a &&& b))

/-- OR: sets Z and N; C and V are open. -/
def execNOr (g : Fin 8) (user : Bool) (s : State) : Host.Outcome State Fault Refusal :=
  let f := takeFree s 2
  .next (aluRow f.2 g user .or fun c d a b => (flagsLogic c (a ||| b) (bit f.1 0) (bit f.1 1)).setX d (a ||| b))

/-- XOR: sets Z and N; C and V are open. -/
def execNXor (g : Fin 8) (user : Bool) (s : State) : Host.Outcome State Fault Refusal :=
  let f := takeFree s 2
  .next (aluRow f.2 g user .xor fun c d a b => (flagsLogic c (a ^^^ b) (bit f.1 0) (bit f.1 1)).setX d (a ^^^ b))

/-- SHL by Xb[4:0]. -/
def execNShl (g : Fin 8) (user : Bool) (s : State) : Host.Outcome State Fault Refusal :=
  .next (aluRow s g user .shl fun c d a b => c.setX d (a * 2 ^ (b % 32)))

/-- SHR by Xb[4:0]. -/
def execNShr (g : Fin 8) (user : Bool) (s : State) : Host.Outcome State Fault Refusal :=
  .next (aluRow s g user .shr fun c d a b => c.setX d (a / 2 ^ (b % 32)))

/-- SAR by Xb[4:0]. -/
def execNSar (g : Fin 8) (user : Bool) (s : State) : Host.Outcome State Fault Refusal :=
  .next (aluRow s g user .sar fun c d a b => c.setX d (sarWord a (b % 32)))

/-- MIN, signed. -/
def execNMin (g : Fin 8) (user : Bool) (s : State) : Host.Outcome State Fault Refusal :=
  .next (aluRow s g user .min fun c d a b => c.setX d (if sgn 32 a ≤ sgn 32 b then a else b))

/-- MAX, signed. -/
def execNMax (g : Fin 8) (user : Bool) (s : State) : Host.Outcome State Fault Refusal :=
  .next (aluRow s g user .max fun c d a b => c.setX d (if sgn 32 a ≤ sgn 32 b then b else a))

/-- CADD per part, saturating. -/
def execNCadd (g : Fin 8) (user : Bool) (s : State) : Host.Outcome State Fault Refusal :=
  .next (aluRow s g user .cadd fun c d a b => partsSat c d (xI a + xI b) (xQ a + xQ b))

/-- CSUB per part, saturating. -/
def execNCsub (g : Fin 8) (user : Bool) (s : State) : Host.Outcome State Fault Refusal :=
  .next (aluRow s g user .csub fun c d a b => partsSat c d (xI a - xI b) (xQ a - xQ b))

/-- CCONJ: Q is negated; the result for Q = −32,768 is open. -/
def execNCconj (g : Fin 8) (user : Bool) (s : State) : Host.Outcome State Fault Refusal :=
  let f := takeFree s 16
  .next (aluRow f.2 g user .cconj fun c d a _ => c.setX d (xIQ (xI a) (if xQ a = -32768 then (f.1 : Int) else -xQ a)))

/-- SWAPH exchanges halves. -/
def execNSwaph (g : Fin 8) (user : Bool) (s : State) : Host.Outcome State Fault Refusal :=
  .next (aluRow s g user .swaph fun c d a _ => c.setX d (a % 65536 * 65536 + a / 65536))

/-- MOV. -/
def execNMov (g : Fin 8) (user : Bool) (s : State) : Host.Outcome State Fault Refusal :=
  .next (aluRow s g user .mov fun c d a _ => c.setX d a)

/-- ADDI. -/
def execNAddi (g : Fin 8) (user : Bool) (s : State) : Host.Outcome State Fault Refusal :=
  .next (immRow s g user .addi fun c d a v => c.setX d (w32 (a + immSign v)))

/-- ANDI. -/
def execNAndi (g : Fin 8) (user : Bool) (s : State) : Host.Outcome State Fault Refusal :=
  .next (immRow s g user .andi fun c d a v => c.setX d (a &&& v))

/-- ORI. -/
def execNOri (g : Fin 8) (user : Bool) (s : State) : Host.Outcome State Fault Refusal :=
  .next (immRow s g user .ori fun c d a v => c.setX d (a ||| v))

/-- XORI. -/
def execNXori (g : Fin 8) (user : Bool) (s : State) : Host.Outcome State Fault Refusal :=
  .next (immRow s g user .xori fun c d a v => c.setX d (a ^^^ v))

/-- SHLI by IMM[4:0]. -/
def execNShli (g : Fin 8) (user : Bool) (s : State) : Host.Outcome State Fault Refusal :=
  .next (immRow s g user .shli fun c d a v => c.setX d (a * 2 ^ (v % 32)))

/-- SHRI by IMM[4:0]. -/
def execNShri (g : Fin 8) (user : Bool) (s : State) : Host.Outcome State Fault Refusal :=
  .next (immRow s g user .shri fun c d a v => c.setX d (a / 2 ^ (v % 32)))

/-- SARI by IMM[4:0]. -/
def execNSari (g : Fin 8) (user : Bool) (s : State) : Host.Outcome State Fault Refusal :=
  .next (immRow s g user .sari fun c d a v => c.setX d (sarWord a (v % 32)))

/-- MOVI: sign-extended IMM. -/
def execNMovi (g : Fin 8) (user : Bool) (s : State) : Host.Outcome State Fault Refusal :=
  .next (immRow s g user .movi fun c d _ v => c.setX d (w32 (immSign v)))

/-- MOVHI: the low half of Xd is kept. -/
def execNMovhi (g : Fin 8) (user : Bool) (s : State) : Host.Outcome State Fault Refusal :=
  .next (immRow s g user .movhi fun c d _ v => c.setX d (v * 65536 + c.getX d % 65536))

end Sys2Proof.Machine
end

