-- ==== Sys2Proof/Machine/NewtFlow.lean ====
section
/-! DEFINITION. Newt instructions of class CTRL (Table 9.6): branches, calls, loops and waits. -/

namespace Sys2Proof.Machine

/-- NOP. -/
def execNNop (g : Fin 8) (user : Bool) (s : State) : Host.Outcome State Fault Refusal :=
  .next (newtRun s g user fun i => match i with | .nop => plain s id | _ => none)

/-- BR: to TARGET when COND holds. -/
def execNBr (g : Fin 8) (user : Bool) (s : State) : Host.Outcome State Fault Refusal :=
  .next (newtRun s g user fun i => match i with
    | .br k t => some fun c nx => .ok (if condHolds c k then { s := s, c := c, pc := t, jump := true } else { s := s, c := c, pc := nx })
    | _ => none)

/-- CALL: a seventeenth level raises STACK (R215). -/
def execNCall (g : Fin 8) (user : Bool) (s : State) : Host.Outcome State Fault Refusal :=
  .next (newtRun s g user fun i => match i with
    | .call t => some fun c nx =>
      if 16 ≤ c.calls.length then .error (4, s)
      else .ok { s := s, c := { c with calls := nx :: c.calls }, pc := t, jump := true }
    | _ => none)

/-- RET: an empty call stack raises STACK. -/
def execNRet (g : Fin 8) (user : Bool) (s : State) : Host.Outcome State Fault Refusal :=
  .next (newtRun s g user fun i => match i with
    | .ret => some fun c _ => match c.calls with
      | [] => .error (4, s)
      | a :: r => .ok { s := s, c := { c with calls := r }, pc := a, jump := true }
    | _ => none)

/-- LOOP: LEN instructions, COUNT times; COUNT 0 skips the body, a body past index 0x7FFF is illegal, a fifth level raises STACK. -/
def execNLoop (g : Fin 8) (user : Bool) (s : State) : Host.Outcome State Fault Refusal :=
  .next (newtRun s g user fun i => match i with
    | .loop len reg count => some fun c nx =>
      let stop := afterInstrs s g len nx
      let n := match reg with | some x => c.getX x % 65536 | none => count
      if 0x8000 < stop then .error (1, s)
      else if n = 0 then .ok { s := s, c := c, pc := stop }
      else if 4 ≤ c.loops.length then .error (4, s)
      else .ok { s := s, c := { c with loops := { start := nx, stop := stop, left := n } :: c.loops }, pc := nx, body := some (nx, stop, len) }
    | _ => none)

/-- YIELD (R216): the other context may run next; a STOP acts here. -/
def execNYield (g : Fin 8) (user : Bool) (s : State) : Host.Outcome State Fault Refusal :=
  .next (newtRun s g user fun i => match i with
    | .yield => some fun c nx => .ok { s := s, c := c, pc := nx, point := true }
    | _ => none)

/-- WAITEV: the context waits for an event of MASK; its next instruction runs once one has come. -/
def execNWaitev (g : Fin 8) (user : Bool) (s : State) : Host.Outcome State Fault Refusal :=
  .next (newtRun s g user fun i => match i with
    | .waitev m => some fun c nx => .ok { s := s, c := { c with wait := some m }, pc := nx, point := true }
    | _ => none)

/-- HALT (R223). -/
def execNHalt (g : Fin 8) (user : Bool) (s : State) : Host.Outcome State Fault Refusal :=
  .next (newtRun s g user fun i => match i with
    | .halt => some fun c nx => .ok { s := s, c := c, pc := nx, point := true, halt := true }
    | _ => none)

/-- SYS: in the user context it raises ACCESS; in the vendor context the service SVC is called, whose work is the firmware's own. -/
def execNSys (g : Fin 8) (user : Bool) (s : State) : Host.Outcome State Fault Refusal :=
  .next (newtRun s g user fun i => match i with
    | .sys _ => some fun c nx => if user then .error (2, s) else .ok { s := s, c := c, pc := nx }
    | _ => none)

end Sys2Proof.Machine
end

