-- ==== Sys2Proof/Machine/NewtMac.lean ====
section
/-! DEFINITION. Newt instructions of class MAC (R205, R210): the complex accumulators, and the moves beside them. -/

namespace Sys2Proof.Machine

/-- The range of an accumulator part: −2^39 to 2^39 − 1. -/
def accClamp (v : Int) : Int := satInt 40 v

/-- Write both parts of accumulator `k`. -/
def CtxS.setAcc (c : CtxS) (k : Nat) (r i : Int) : CtxS := { c with ar := c.ar.set k 0 r, ai := c.ai.set k 0 i }

/-- Add to both parts: a sum outside the range clamps and sets AOV. -/
def accAdd (c : CtxS) (k : Nat) (r i : Int) : CtxS :=
  let a := c.ar.get k 0 + r
  let b := c.ai.get k 0 + i
  let c1 := c.setAcc k (accClamp a) (accClamp b)
  { c1 with aov := c1.aov || accClamp a != a || accClamp b != b }

/-- x · y and x · conj(y), exact. -/
def mulC (x y : Nat) : Int × Int := (xI x * xI y - xQ x * xQ y, xI x * xQ y + xQ x * xI y)
def mulConj (x y : Nat) : Int × Int := (xI x * xI y + xQ x * xQ y, xQ x * xI y - xI x * xQ y)

/-- A MAC operation `op` with effect `f` from accumulator number, x and y; the multiply uses the values from before the loads. -/
def macRow (s : State) (g : Nat) (user ue ce : Bool) (op : MacOp) (f : CtxS → Nat → Nat → Nat → CtxS) : State :=
  newtRun s g user fun i => match i with
    | .mac o k a b ms =>
      if o = op then some fun c nx =>
        match runMoves s g user ue ce c (f c k (c.getX a) (c.getX b)) ms with
        | .error e => .error e
        | .ok r => .ok { s := r.1, c := r.2, pc := nx, bus := moveBuses c ms }
      else none
    | _ => none

/-- NONE: moves only. -/
def execNNone (g : Fin 8) (user ue ce : Bool) (s : State) : Host.Outcome State Fault Refusal :=
  .next (macRow s g user ue ce .none fun c _ _ _ => c)

/-- CMAC adds x · y. -/
def execNCmac (g : Fin 8) (user ue ce : Bool) (s : State) : Host.Outcome State Fault Refusal :=
  .next (macRow s g user ue ce .cmac fun c k x y => accAdd c k (mulC x y).1 (mulC x y).2)

/-- CMACC adds x · conj(y). -/
def execNCmacc (g : Fin 8) (user ue ce : Bool) (s : State) : Host.Outcome State Fault Refusal :=
  .next (macRow s g user ue ce .cmacc fun c k x y => accAdd c k (mulConj x y).1 (mulConj x y).2)

/-- CMSU subtracts x · y. -/
def execNCmsu (g : Fin 8) (user ue ce : Bool) (s : State) : Host.Outcome State Fault Refusal :=
  .next (macRow s g user ue ce .cmsu fun c k x y => accAdd c k (-(mulC x y).1) (-(mulC x y).2))

/-- CMUL writes x · y. -/
def execNCmul (g : Fin 8) (user ue ce : Bool) (s : State) : Host.Outcome State Fault Refusal :=
  .next (macRow s g user ue ce .cmul fun c k x y => c.setAcc k (mulC x y).1 (mulC x y).2)

/-- RMAC adds the part-wise products. -/
def execNRmac (g : Fin 8) (user ue ce : Bool) (s : State) : Host.Outcome State Fault Refusal :=
  .next (macRow s g user ue ce .rmac fun c k x y => accAdd c k (xI x * xI y) (xQ x * xQ y))

/-- CPWR adds the power of x to AR. -/
def execNCpwr (g : Fin 8) (user ue ce : Bool) (s : State) : Host.Outcome State Fault Refusal :=
  .next (macRow s g user ue ce .cpwr fun c k x _ => accAdd c k (xI x * xI x + xQ x * xQ x) 0)

/-- CLR writes zero to both parts. -/
def execNClr (g : Fin 8) (user ue ce : Bool) (s : State) : Host.Outcome State Fault Refusal :=
  .next (macRow s g user ue ce .clr fun c k _ _ => c.setAcc k 0 0)

end Sys2Proof.Machine
end

