-- ==== Sys2Proof/Machine/NewtMove.lean ====
section
/-! DEFINITION. Newt instructions of classes LDST, ACC, PTR and LONG (R206 to R210). -/

namespace Sys2Proof.Machine

/-! ### ACC (R206) -/

/-- RND of v × 2^(−n) (Table 9.4). -/
def trnRound (rnd : Nat) (v : Int) (n : Nat) : Int :=
  let d : Nat := 2 ^ n
  if rnd = 0 then roundDiv v d
  else if rnd = 1 then v / (d : Int)
  else
    let q := v / (d : Int)
    let r := 2 * (v % (d : Int))
    if r < d then q else if (d : Int) < r then q + 1 else if q % 2 = 0 then q else q + 1

/-- SH is signed from −8 to +7: the shift right by 15 − SH. -/
def trnShift (sh : Nat) : Nat := (15 - sgn 4 sh).toNat

/-- TRN: an accumulator reduced to 16-bit parts; a saturation sets SAT. -/
def execNTrn (g : Fin 8) (user : Bool) (s : State) : Host.Outcome State Fault Refusal :=
  .next (newtRun s g user fun i => match i with
    | .trn d k sh rnd => plain s fun c => partsSat c d (trnRound rnd (c.ar.get k 0) (trnShift sh)) (trnRound rnd (c.ai.get k 0) (trnShift sh))
    | _ => none)

/-- LDA: each part of Xs, times 2^15. -/
def execNLda (g : Fin 8) (user : Bool) (s : State) : Host.Outcome State Fault Refusal :=
  .next (newtRun s g user fun i => match i with
    | .lda k x => plain s fun c => c.setAcc k (xI (c.getX x) * 2 ^ 15) (xQ (c.getX x) * 2 ^ 15)
    | _ => none)

/-- A part whose value fits 40 bits, or else the open value `f`. -/
def accOr (v : Int) (f : Nat) : Int := if accClamp v = v then v else sgn 40 f

/-- ADDA: Ad ← Ad + second. R205 clamps the operations of class MAC; for a sum outside the range here the part and AOV are open. -/
def execNAdda (g : Fin 8) (user : Bool) (s : State) : Host.Outcome State Fault Refusal :=
  let a := takeFree s 40
  let b := takeFree a.2 40
  let f := takeFree b.2 1
  .next (newtRun f.2 g user fun i => match i with
    | .adda k j => plain f.2 fun c =>
      let r := c.ar.get k 0 + c.ar.get j 0
      let q := c.ai.get k 0 + c.ai.get j 0
      let c1 := c.setAcc k (accOr r a.1) (accOr q b.1)
      { c1 with aov := c1.aov || ((accClamp r != r || accClamp q != q) && f.1 == 1) }
    | _ => none)

/-- NEGA: Ad ← −Ad; for −2^39 the part and AOV are open. -/
def execNNega (g : Fin 8) (user : Bool) (s : State) : Host.Outcome State Fault Refusal :=
  let a := takeFree s 40
  let b := takeFree a.2 40
  let f := takeFree b.2 1
  .next (newtRun f.2 g user fun i => match i with
    | .nega k => plain f.2 fun c =>
      let r := -(c.ar.get k 0)
      let q := -(c.ai.get k 0)
      let c1 := c.setAcc k (accOr r a.1) (accOr q b.1)
      { c1 with aov := c1.aov || ((accClamp r != r || accClamp q != q) && f.1 == 1) }
    | _ => none)

/-! ### PTR -/

/-- A PTR operation with effect `f` from n, X and second X. -/
def ptrRow (s : State) (g : Nat) (user : Bool) (op : PtrOp) (f : CtxS → Nat → Nat → Nat → CtxS) : State :=
  newtRun s g user fun i => match i with
    | .ptr o n x x2 => if o = op then plain s fun c => f c n x x2 else none
    | _ => none

/-- MOVP: Pn ← X. -/
def execNMovp (g : Fin 8) (user : Bool) (s : State) : Host.Outcome State Fault Refusal :=
  .next (ptrRow s g user .movp fun c n x _ => c.setP n (c.getX x))

/-- MOVXP: X ← Pn. -/
def execNMovxp (g : Fin 8) (user : Bool) (s : State) : Host.Outcome State Fault Refusal :=
  .next (ptrRow s g user .movxp fun c n x _ => c.setX x (c.getP n))

/-- MOVM: Mn ← X. -/
def execNMovm (g : Fin 8) (user : Bool) (s : State) : Host.Outcome State Fault Refusal :=
  .next (ptrRow s g user .movm fun c n x _ => c.setM n (c.getX x))

/-- MOVXM: X ← Mn. -/
def execNMovxm (g : Fin 8) (user : Bool) (s : State) : Host.Outcome State Fault Refusal :=
  .next (ptrRow s g user .movxm fun c n x _ => c.setX x (c.getM n))

/-- ADDP: Pn updated by Mn (R208). -/
def execNAddp (g : Fin 8) (user : Bool) (s : State) : Host.Outcome State Fault Refusal :=
  .next (ptrRow s g user .addp fun c n _ _ => c.setP n (stepPtr c n (sgn 32 (c.getM n))))

/-- CIRC: Bn and Ln together, or PAIR (R209). -/
def execNCirc (g : Fin 8) (user : Bool) (s : State) : Host.Outcome State Fault Refusal :=
  .next (newtRun s g user fun i => match i with
    | .ptr .circ n x x2 => some fun c nx =>
      let b := c.getX x / 4 * 4
      let l := c.getX x2
      if circOk b l then .ok { s := s, c := { c with b := c.b.set n 0 b, l := c.l.set n 0 l }, pc := nx } else .error (5, s)
    | _ => none)

/-- MOVWB: WB ← X[11:0]. -/
def execNMovwb (g : Fin 8) (user : Bool) (s : State) : Host.Outcome State Fault Refusal :=
  .next (ptrRow s g user .movwb fun c _ x _ => { c with wb := c.getX x % 4096 })

/-! ### LDST and LONG -/

/-- A load or store alone. -/
def ldstRow (s : State) (g : Nat) (user ue ce store : Bool) : State :=
  newtRun s g user fun i => match i with
    | .ldst m =>
      if m.store = store then some fun c nx =>
        match runMoves s g user ue ce c c [m] with
        | .error e => .error e
        | .ok r => .ok { s := r.1, c := r.2, pc := nx, bus := moveBuses c [m] }
      else none
    | _ => none

/-- LD: `ue` and `ce` say whether a word of the memory die has a double-bit or a corrected error (R305). -/
def execNLd (g : Fin 8) (user ue ce : Bool) (s : State) : Host.Outcome State Fault Refusal := .next (ldstRow s g user ue ce false)

/-- ST. -/
def execNSt (g : Fin 8) (user : Bool) (s : State) : Host.Outcome State Fault Refusal := .next (ldstRow s g user false false true)

/-- LONG: IMM32 to an X, P or M register. -/
def execNLong (g : Fin 8) (user : Bool) (s : State) : Host.Outcome State Fault Refusal :=
  .next (newtRun s g user fun i => match i with
    | .long file k v => plain s fun c => if file = 0 then c.setX k v else if file = 1 then c.setP k v else c.setM k v
    | _ => none)

end Sys2Proof.Machine
end

