-- ==== Sys2Proof/Machine/Therm.lean ====
section
/-! DEFINITION. Temperature (spec/15_housekeeping_and_thermal.md, R334 to R337, R404): sensors, levels, and the throttle policy. -/

namespace Sys2Proof.Machine

/-! ### Sensors (R334) -/

def sensors : List Nat := List.range 22

/-- Sensor `i` is no part of grade-disabled hardware. -/
def sensorEnabled (s : State) (i : Nat) : Bool :=
  if i < 16 then clusterEnabled s i else if i < 20 then tileEnabled s (i - 16) else true

/-- Sensors are sampled: from step 9 in BOOT, and in every mode that runs. -/
def sampled (s : State) : Bool :=
  !packageHeld s && (if modeOf s = mBoot then decide (9 ≤ stepNow s) else modeOf s != mSentinel && modeOf s != mBrumate)

/-- Sensor `i` is FAILED. -/
def sensorFail (s : State) (i : Nat) : State :=
  let s1 := wr (wr (wr s (Reg.THERM_SENSOR_FAILED i) 1) (Reg.THERM_SENSOR_VALID i) 0) (Reg.THERM_SENSOR_TEMP i) 0x8000
  raise s1 0x6005 0

/-- A sample of sensor `i`. -/
def senseOne (s : State) (i : Nat) (t : Int) : State :=
  if !sensorEnabled s i || on s (Reg.THERM_SENSOR_FAILED i) then s
  else
    let n := if t < -550 ∨ 1500 < t then s.hk.outside.get i 0 + 1 else 0
    let s1 : State := { s with hk := { s.hk with outside := s.hk.outside.set i 0 n } }
    if 2 ≤ n then sensorFail s1 i
    else wr (wr s1 (Reg.THERM_SENSOR_TEMP i) (code 16 (clipTemp t))) (Reg.THERM_SENSOR_VALID i) 1

/-- The agreement test of cluster sensor `i` with its tile's: 1 s is 10,000 sample periods. -/
def agreeOne (s : State) (i : Nat) : State :=
  let k := 16 + i / 4
  if on s (Reg.THERM_SENSOR_VALID i) && on s (Reg.THERM_SENSOR_VALID k) then
    let wide := decide (200 < (rdI s (Reg.THERM_SENSOR_TEMP i) - rdI s (Reg.THERM_SENSOR_TEMP k)).natAbs)
    let n := if wide then s.hk.apart.get i 0 + 1 else 0
    let s1 : State := { s with hk := { s.hk with apart := s.hk.apart.set i 0 n } }
    if 10000 < n then sensorFail s1 i else s1
  else { s with hk := { s.hk with apart := s.hk.apart.set i 0 0 } }

/-- The hottest valid sensor, the lowest of equally hot ones. -/
def hottest (s : State) : Option Nat :=
  sensors.foldl (fun (b : Option Nat) i =>
    if on s (Reg.THERM_SENSOR_VALID i) then
      match b with
      | none => some i
      | some j => if rdI s (Reg.THERM_SENSOR_TEMP j) < rdI s (Reg.THERM_SENSOR_TEMP i) then some i else b
    else b) none

/-! ### Levels (R335, Table 15.2) -/

/-- The hardware's comparisons: warning and shutdown. -/
def levelHw (s : State) (i : Nat) (t : Int) : State :=
  let l := rd s Reg.THERM_STATUS_LEVEL
  let s1 := if l = 0 ∧ 1050 ≤ t then raise (wr s Reg.THERM_STATUS_LEVEL 1) 0x6001 0
            else if l = 1 ∧ t < 1000 then wr s Reg.THERM_STATUS_LEVEL 0 else s
  if 1250 ≤ t ∧ l ≠ 3 then shutdown s1 0xF006 (i + 65536 * code 16 t) else s1

/-- The crown core's comparisons at its 1 ms tick: throttle. -/
def levelPolicy (s : State) (i : Nat) (t : Int) : State :=
  let l := rd s Reg.THERM_STATUS_LEVEL
  if l < 2 ∧ 1150 ≤ t then raise (wr s Reg.THERM_STATUS_LEVEL 2) 0x6002 (i + 65536 * code 16 t)
  else if l = 2 ∧ t < 1100 then wr s Reg.THERM_STATUS_LEVEL (if t < 1000 then 0 else 1)
  else s

/-- Tj and what follows from it; with no valid sensor the device is blind (R404). -/
def judgeTemp (s : State) (policy : Bool) : State :=
  match hottest s with
  | none =>
    let blind := rd s Reg.THERM_STATUS_HOT == 0x1F
    let s1 := wr (wr s Reg.THERM_STATUS_TJ 0x8000) Reg.THERM_STATUS_HOT 0x1F
    if blind then s1 else shutdown s1 0xF009 0
  | some i =>
    let t := rdI s (Reg.THERM_SENSOR_TEMP i)
    let s1 := levelHw (wr (wr s Reg.THERM_STATUS_TJ (code 16 t)) Reg.THERM_STATUS_HOT i) i t
    if policy && rd s1 Reg.THERM_STATUS_LEVEL != 3 then levelPolicy s1 i t else s1

/-! ### Steps (R336) -/

/-- The steps in force; the third caps the order of every region (R104). -/
def setThermStep (s : State) (n : Nat) : State :=
  forEach (enabledRegions s) (wr s Reg.THERM_STATUS_STEP n) fun s g => wr s (Reg.REGION_ADAPT_STATUS_ORDER_REDUCED g) (b2n (n == 3))

/-! ### The commands' meanings -/

/-- A valid hub sensor's sample outside R378's band is a tamper. -/
def hubCheck (s0 s : State) (temps : List (BitVec 16)) : State :=
  match temps[20]? with
  | some t => if on s0 (Reg.THERM_SENSOR_VALID 20) then hubTamper s t.toInt else s
  | none => s

/-- THERM_SAMPLE (R334): the raw samples in sensor order, 0.1 °C; `policy` marks the samples of the crown core's 1 ms tick. -/
def execThermSample (temps : List (BitVec 16)) (policy : Bool) (s : State) : Host.Outcome State Fault Refusal :=
  .next (if sampled s then
      let s1 := forEach sensors s fun s i => match temps[i]? with | some t => senseOne s i t.toInt | none => s
      let s2 := judgeTemp (forEach ((List.range 16).filter (sensorEnabled s1)) s1 agreeOne) policy
      hubCheck s1 (if modeOf s2 = mBoot ∨ modeOf s2 = mSafe then s2 else forEach (enabledClusters s2) s2 calDue) temps
    else s)

/-- THERMAL_GRACE_END (R336). -/
def execThermalGraceEnd (s : State) : Host.Outcome State Fault Refusal :=
  .next (if rd s Reg.THERM_STATUS_LEVEL = 2 ∧ 1150 ≤ rdI s Reg.THERM_STATUS_TJ ∧ rd s Reg.THERM_STATUS_STEP < 3 then
      raise (setThermStep s (rd s Reg.THERM_STATUS_STEP + 1)) 0x6003 0
    else s)

/-- THERMAL_RELEASE (R336). -/
def execThermalRelease (s : State) : Host.Outcome State Fault Refusal :=
  .next (if rd s Reg.THERM_STATUS_LEVEL < 2 ∧ rd s Reg.THERM_STATUS_STEP ≠ 0 then
      let n := rd s Reg.THERM_STATUS_STEP - 1
      raiseIf (n == 0) (setThermStep s n) 0x6004 0
    else s)

end Sys2Proof.Machine
end

