-- ==== Sys2Proof/Machine/Dispatch.lean ====
section
/-! DEFINITION. The dispatch: one arm per command, each one direct call of that command's meaning. -/

namespace Sys2Proof.Machine

def exec (i : Instr) (s : State) : Host.Outcome State Fault Refusal :=
  match i with
  | .registerWrite o v => Sys2Proof.Machine.execRegisterWrite o v s
  | .symbolBoundary ms => Sys2Proof.Machine.execSymbolBoundary ms s
  | .eventPush => Sys2Proof.Machine.execEventPush s
  | .clockMonitorWindow ref core sec => Sys2Proof.Machine.execClockMonitorWindow ref core sec s
  | .setMode p => Sys2Proof.Machine.execSetMode p s
  | .trimDone cycles => Sys2Proof.Machine.execTrimDone cycles s
  | .por => Sys2Proof.Machine.execPor s
  | .nrstIn => Sys2Proof.Machine.execNrstIn s
  | .wdog => Sys2Proof.Machine.execWdog s
  | .reset p => Sys2Proof.Machine.execReset p s
  | .jtagReset => Sys2Proof.Machine.execJtagReset s
  | .tileFault t => Sys2Proof.Machine.execTileFault t s
  | .resetRelease src blk bootsel clksel => Sys2Proof.Machine.execResetRelease src blk bootsel clksel s
  | .blkResetGo blk => Sys2Proof.Machine.execBlkResetGo blk s
  | .quiesceAck => Sys2Proof.Machine.execQuiesceAck s
  | .quiesceTimeout => Sys2Proof.Machine.execQuiesceTimeout s
  | .blockRestored blk => Sys2Proof.Machine.execBlockRestored blk s
  | .mtpPulseEnd => Sys2Proof.Machine.execMtpPulseEnd s
  | .flashBusyTimeout => Sys2Proof.Machine.execFlashBusyTimeout s
  | .reloadTrim => Sys2Proof.Machine.execReloadTrim s
  | .trimLoadDone ok => Sys2Proof.Machine.execTrimLoadDone ok s
  | .startStepDone ok cycles => Sys2Proof.Machine.execStartStepDone ok cycles s
  | .tileHoldTimeout => Sys2Proof.Machine.execTileHoldTimeout s
  | .rxOvld u => Sys2Proof.Machine.execRxOvld u s
  | .ovldStepRepeat u => Sys2Proof.Machine.execOvldStepRepeat u s
  | .rxOvldRecover u => Sys2Proof.Machine.execRxOvldRecover u s
  | .syncEdge => Sys2Proof.Machine.execSyncEdge s
  | .syncRealign rx tx => Sys2Proof.Machine.execSyncRealign rx tx s
  | .rxCommit u => Sys2Proof.Machine.execRxCommit u s
  | .rxCoefWrite u bank k v => Sys2Proof.Machine.execRxCoefWrite u bank k v s
  | .xfadeEnd u => Sys2Proof.Machine.execXfadeEnd u s
  | .txCommit u => Sys2Proof.Machine.execTxCommit u s
  | .cfrPulseReady => Sys2Proof.Machine.execCfrPulseReady s
  | .shadowReady u => Sys2Proof.Machine.execShadowReady u s
  | .dpdChecksDone u => Sys2Proof.Machine.execDpdChecksDone u s
  | .dpdTblDataAccess u w firmware => Sys2Proof.Machine.execDpdTblDataAccess u w firmware s
  | .adaptPeriod u => Sys2Proof.Machine.execAdaptPeriod u s
  | .adaptCaptureDone u ovr => Sys2Proof.Machine.execAdaptCaptureDone u ovr s
  | .adaptFitDone u nmse table => Sys2Proof.Machine.execAdaptFitDone u nmse table s
  | .dpdTrainStepDone u conv => Sys2Proof.Machine.execDpdTrainStepDone u conv s
  | .clusterCommit c => Sys2Proof.Machine.execClusterCommit c s
  | .loPrecal c freq => Sys2Proof.Machine.execLoPrecal c freq s
  | .loLock c hop => Sys2Proof.Machine.execLoLock c hop s
  | .loStoredTimeout c => Sys2Proof.Machine.execLoStoredTimeout c s
  | .loFail c => Sys2Proof.Machine.execLoFail c s
  | .loUnlock c => Sys2Proof.Machine.execLoUnlock c s
  | .sched p => Sys2Proof.Machine.execSched p s
  | .preWake kind index => Sys2Proof.Machine.execPreWake kind index s
  | .rffeRelease id => Sys2Proof.Machine.execRffeRelease id s
  | .rffeFrameDone c d => Sys2Proof.Machine.execRffeFrameDone c d s
  | .rffeCmd c w => Sys2Proof.Machine.execRffeCmd c w s
  | .tileCommit => Sys2Proof.Machine.execTileCommit s
  | .weights p => Sys2Proof.Machine.execWeights p s
  | .wsetChecksDone w => Sys2Proof.Machine.execWsetChecksDone w s
  | .rxSymbolDone c id sym bins fft => Sys2Proof.Machine.execRxSymbolDone c id sym bins fft s
  | .ulData p n => Sys2Proof.Machine.execUlData p n s
  | .prachDone p id sym bins fft => Sys2Proof.Machine.execPrachDone p id sym bins fft s
  | .solveJobStart id => Sys2Proof.Machine.execSolveJobStart id s
  | .solveDone weights ill => Sys2Proof.Machine.execSolveDone weights ill s
  | .corrAgeExpired u => Sys2Proof.Machine.execCorrAgeExpired u s
  | .dlDeadline c sym sat => Sys2Proof.Machine.execDlDeadline c sym sat s
  | .chorusSearchOpen => Sys2Proof.Machine.execChorusSearchOpen s
  | .croakSend => Sys2Proof.Machine.execCroakSend s
  | .chorusGainStep p => Sys2Proof.Machine.execChorusGainStep p s
  | .chorusDetect => Sys2Proof.Machine.execChorusDetect s
  | .chorusAgcFreeze => Sys2Proof.Machine.execChorusAgcFreeze s
  | .chorusSfd n => Sys2Proof.Machine.execChorusSfd n s
  | .chorusSfdTimeout => Sys2Proof.Machine.execChorusSfdTimeout s
  | .chorusHeader bs => Sys2Proof.Machine.execChorusHeader bs s
  | .chorusPayloadEnd bs => Sys2Proof.Machine.execChorusPayloadEnd bs s
  | .chorusPreempt db => Sys2Proof.Machine.execChorusPreempt db s
  | .chorusSearchClose => Sys2Proof.Machine.execChorusSearchClose s
  | .chorusMeasureDone m => Sys2Proof.Machine.execChorusMeasureDone m s
  | .chorusParentLost => Sys2Proof.Machine.execChorusParentLost s
  | .chorusCommit => Sys2Proof.Machine.execChorusCommit s
  | .calStepDone c r => Sys2Proof.Machine.execCalStepDone c r s
  | .calReq c w => Sys2Proof.Machine.execCalReq c w s
  | .save => Sys2Proof.Machine.execSave s
  | .calStoreAutosave => Sys2Proof.Machine.execCalStoreAutosave s
  | .calStoreSaveDone ok => Sys2Proof.Machine.execCalStoreSaveDone ok s
  | .trimDataAccess c w => Sys2Proof.Machine.execTrimDataAccess c w s
  | .nNop g user => Sys2Proof.Machine.execNNop g user s
  | .nBr g user => Sys2Proof.Machine.execNBr g user s
  | .nCall g user => Sys2Proof.Machine.execNCall g user s
  | .nRet g user => Sys2Proof.Machine.execNRet g user s
  | .nLoop g user => Sys2Proof.Machine.execNLoop g user s
  | .nYield g user => Sys2Proof.Machine.execNYield g user s
  | .nWaitev g user => Sys2Proof.Machine.execNWaitev g user s
  | .nHalt g user => Sys2Proof.Machine.execNHalt g user s
  | .nSys g user => Sys2Proof.Machine.execNSys g user s
  | .nAdd g user => Sys2Proof.Machine.execNAdd g user s
  | .nSub g user => Sys2Proof.Machine.execNSub g user s
  | .nAnd g user => Sys2Proof.Machine.execNAnd g user s
  | .nOr g user => Sys2Proof.Machine.execNOr g user s
  | .nXor g user => Sys2Proof.Machine.execNXor g user s
  | .nShl g user => Sys2Proof.Machine.execNShl g user s
  | .nShr g user => Sys2Proof.Machine.execNShr g user s
  | .nSar g user => Sys2Proof.Machine.execNSar g user s
  | .nMin g user => Sys2Proof.Machine.execNMin g user s
  | .nMax g user => Sys2Proof.Machine.execNMax g user s
  | .nCadd g user => Sys2Proof.Machine.execNCadd g user s
  | .nCsub g user => Sys2Proof.Machine.execNCsub g user s
  | .nCconj g user => Sys2Proof.Machine.execNCconj g user s
  | .nSwaph g user => Sys2Proof.Machine.execNSwaph g user s
  | .nMov g user => Sys2Proof.Machine.execNMov g user s
  | .nAddi g user => Sys2Proof.Machine.execNAddi g user s
  | .nAndi g user => Sys2Proof.Machine.execNAndi g user s
  | .nOri g user => Sys2Proof.Machine.execNOri g user s
  | .nXori g user => Sys2Proof.Machine.execNXori g user s
  | .nShli g user => Sys2Proof.Machine.execNShli g user s
  | .nShri g user => Sys2Proof.Machine.execNShri g user s
  | .nSari g user => Sys2Proof.Machine.execNSari g user s
  | .nMovi g user => Sys2Proof.Machine.execNMovi g user s
  | .nMovhi g user => Sys2Proof.Machine.execNMovhi g user s
  | .nNone g user ue ce => Sys2Proof.Machine.execNNone g user ue ce s
  | .nCmac g user ue ce => Sys2Proof.Machine.execNCmac g user ue ce s
  | .nCmacc g user ue ce => Sys2Proof.Machine.execNCmacc g user ue ce s
  | .nCmsu g user ue ce => Sys2Proof.Machine.execNCmsu g user ue ce s
  | .nCmul g user ue ce => Sys2Proof.Machine.execNCmul g user ue ce s
  | .nRmac g user ue ce => Sys2Proof.Machine.execNRmac g user ue ce s
  | .nCpwr g user ue ce => Sys2Proof.Machine.execNCpwr g user ue ce s
  | .nClr g user ue ce => Sys2Proof.Machine.execNClr g user ue ce s
  | .nTrn g user => Sys2Proof.Machine.execNTrn g user s
  | .nLda g user => Sys2Proof.Machine.execNLda g user s
  | .nAdda g user => Sys2Proof.Machine.execNAdda g user s
  | .nNega g user => Sys2Proof.Machine.execNNega g user s
  | .nMovp g user => Sys2Proof.Machine.execNMovp g user s
  | .nMovxp g user => Sys2Proof.Machine.execNMovxp g user s
  | .nMovm g user => Sys2Proof.Machine.execNMovm g user s
  | .nMovxm g user => Sys2Proof.Machine.execNMovxm g user s
  | .nAddp g user => Sys2Proof.Machine.execNAddp g user s
  | .nCirc g user => Sys2Proof.Machine.execNCirc g user s
  | .nMovwb g user => Sys2Proof.Machine.execNMovwb g user s
  | .nLd g user ue ce => Sys2Proof.Machine.execNLd g user ue ce s
  | .nSt g user => Sys2Proof.Machine.execNSt g user s
  | .nLong g user => Sys2Proof.Machine.execNLong g user s
  | .newtBusTimeout g user => Sys2Proof.Machine.execNewtBusTimeout g user s
  | .newtHeartbeatMiss g => Sys2Proof.Machine.execNewtHeartbeatMiss g s
  | .fallbackAckTimeout => Sys2Proof.Machine.execFallbackAckTimeout s
  | .userStart g => Sys2Proof.Machine.execUserStart g s
  | .userStop g => Sys2Proof.Machine.execUserStop g s
  | .userTrig g => Sys2Proof.Machine.execUserTrig g s
  | .userPeriodTrigger g => Sys2Proof.Machine.execUserPeriodTrigger g s
  | .userWdog g => Sys2Proof.Machine.execUserWdog g s
  | .laneSigdet p l => Sys2Proof.Machine.execLaneSigdet p l s
  | .laneCdrLock p l => Sys2Proof.Machine.execLaneCdrLock p l s
  | .laneEqConverged p l ctle dfe1 dfe2 dfe3 => Sys2Proof.Machine.execLaneEqConverged p l ctle dfe1 dfe2 dfe3 s
  | .laneMarkerGood p l => Sys2Proof.Machine.execLaneMarkerGood p l s
  | .laneLos p l => Sys2Proof.Machine.execLaneLos p l s
  | .laneMarkersBad p l => Sys2Proof.Machine.execLaneMarkersBad p l s
  | .laneWindowEnd p l los => Sys2Proof.Machine.execLaneWindowEnd p l los s
  | .laneBackoffEnd p l => Sys2Proof.Machine.execLaneBackoffEnd p l s
  | .statusWord p w aligned late => Sys2Proof.Machine.execStatusWord p w aligned late s
  | .statusWordDue p => Sys2Proof.Machine.execStatusWordDue p s
  | .portDeskewTimeout p => Sys2Proof.Machine.execPortDeskewTimeout p s
  | .portWiden p => Sys2Proof.Machine.execPortWiden p s
  | .retrain p => Sys2Proof.Machine.execRetrain p s
  | .portBackoffEnd p => Sys2Proof.Machine.execPortBackoffEnd p s
  | .portEnable p en => Sys2Proof.Machine.execPortEnable p en s
  | .eyeScan p w => Sys2Proof.Machine.execEyeScan p w s
  | .eyeDone p errors left right top bottom => Sys2Proof.Machine.execEyeDone p errors left right top bottom s
  | .upstreamRevert => Sys2Proof.Machine.execUpstreamRevert s
  | .uploss => Sys2Proof.Machine.execUploss s
  | .linkWakePattern w => Sys2Proof.Machine.execLinkWakePattern w s
  | .dlData p => Sys2Proof.Machine.execDlData p s
  | .write p => Sys2Proof.Machine.execWrite p s
  | .read p ue ce => Sys2Proof.Machine.execRead p ue ce s
  | .ringPost ch p => Sys2Proof.Machine.execRingPost ch p s
  | .ringStatus ch p => Sys2Proof.Machine.execRingStatus ch p s
  | .event p => Sys2Proof.Machine.execEvent p s
  | .imageWrite p => Sys2Proof.Machine.execImageWrite p s
  | .imageCommit p => Sys2Proof.Machine.execImageCommit p s
  | .imageAbort p => Sys2Proof.Machine.execImageAbort p s
  | .imageStatus p => Sys2Proof.Machine.execImageStatus p s
  | .forwardUpstream op err p full => Sys2Proof.Machine.execForwardUpstream op err p full s
  | .ulAgeDiscard p => Sys2Proof.Machine.execUlAgeDiscard p s
  | .poolCommit => Sys2Proof.Machine.execPoolCommit s
  | .ptpSync p m => Sys2Proof.Machine.execPtpSync p m s
  | .followUp p m => Sys2Proof.Machine.execFollowUp p m s
  | .delayResp p m => Sys2Proof.Machine.execDelayResp p m s
  | .announce m => Sys2Proof.Machine.execAnnounce m s
  | .ptpForward out corr residence => Sys2Proof.Machine.execPtpForward out corr residence s
  | .domainLost d ann => Sys2Proof.Machine.execDomainLost d ann s
  | .stepHoldExpire d => Sys2Proof.Machine.execStepHoldExpire d s
  | .domainRevert => Sys2Proof.Machine.execDomainRevert s
  | .steerUpdate => Sys2Proof.Machine.execSteerUpdate s
  | .acquireTimeout => Sys2Proof.Machine.execAcquireTimeout s
  | .timeAcquireLimit cycles => Sys2Proof.Machine.execTimeAcquireLimit cycles s
  | .tilePhaseCheck t ph => Sys2Proof.Machine.execTilePhaseCheck t ph s
  | .timeCommit => Sys2Proof.Machine.execTimeCommit s
  | .snap => Sys2Proof.Machine.execSnap s
  | .clrSuspect d => Sys2Proof.Machine.execClrSuspect d s
  | .ppsOut => Sys2Proof.Machine.execPpsOut s
  | .ppsIn => Sys2Proof.Machine.execPpsIn s
  | .ppsInLost => Sys2Proof.Machine.execPpsInLost s
  | .capArm n fw => Sys2Proof.Machine.execCapArm n fw s
  | .capStop n smp => Sys2Proof.Machine.execCapStop n smp s
  | .capForce n p smp => Sys2Proof.Machine.execCapForce n p smp s
  | .capTrigger n t p smp => Sys2Proof.Machine.execCapTrigger n t p smp s
  | .capSegmentDone n smp => Sys2Proof.Machine.execCapSegmentDone n smp s
  | .capRearm n => Sys2Proof.Machine.execCapRearm n s
  | .capHoldEnd n => Sys2Proof.Machine.execCapHoldEnd n s
  | .capAutoTimeout n p => Sys2Proof.Machine.execCapAutoTimeout n p s
  | .capBufferFull n smp => Sys2Proof.Machine.execCapBufferFull n smp s
  | .capTrunc n lost smp => Sys2Proof.Machine.execCapTrunc n lost smp s
  | .skewGo => Sys2Proof.Machine.execSkewGo s
  | .skewDone skews => Sys2Proof.Machine.execSkewDone skews s
  | .dmaStart n fromCur => Sys2Proof.Machine.execDmaStart n fromCur s
  | .dmaPause n v => Sys2Proof.Machine.execDmaPause n v s
  | .dmaAbort n => Sys2Proof.Machine.execDmaAbort n s
  | .doorbell n => Sys2Proof.Machine.execDoorbell n s
  | .dmaDescFetch n ue ce => Sys2Proof.Machine.execDmaDescFetch n ue ce s
  | .dmaDescDone n ue ce => Sys2Proof.Machine.execDmaDescDone n ue ce s
  | .bulk n => Sys2Proof.Machine.execBulk n s
  | .dmaDrained n bytes => Sys2Proof.Machine.execDmaDrained n bytes s
  | .dmaBusTimeout n bytes => Sys2Proof.Machine.execDmaBusTimeout n bytes s
  | .dmaWakeTimeout n => Sys2Proof.Machine.execDmaWakeTimeout n s
  | .hkGo k q => Sys2Proof.Machine.execHkGo k q s
  | .hkPeriodTrigger k q => Sys2Proof.Machine.execHkPeriodTrigger k q s
  | .hkVendorTrigger => Sys2Proof.Machine.execHkVendorTrigger s
  | .hkStartupDone k => Sys2Proof.Machine.execHkStartupDone k s
  | .hkEntryDone k cs => Sys2Proof.Machine.execHkEntryDone k cs s
  | .hkSeqDone k => Sys2Proof.Machine.execHkSeqDone k s
  | .hkEnable k q => Sys2Proof.Machine.execHkEnable k q s
  | .hkSelftest => Sys2Proof.Machine.execHkSelftest s
  | .hkSelftestDone a b => Sys2Proof.Machine.execHkSelftestDone a b s
  | .hkCommit => Sys2Proof.Machine.execHkCommit s
  | .biasIlimFault index => Sys2Proof.Machine.execBiasIlimFault index s
  | .biasRangeSwitch index => Sys2Proof.Machine.execBiasRangeSwitch index s
  | .biasSineUpdate index => Sys2Proof.Machine.execBiasSineUpdate index s
  | .pwmPeriod u bad => Sys2Proof.Machine.execPwmPeriod u bad s
  | .thermSample temps policy => Sys2Proof.Machine.execThermSample temps policy s
  | .thermalGraceEnd => Sys2Proof.Machine.execThermalGraceEnd s
  | .thermalRelease => Sys2Proof.Machine.execThermalRelease s
  | .thermSleepSample temp w => Sys2Proof.Machine.execThermSleepSample temp w s
  | .tileIdleTimeout t => Sys2Proof.Machine.execTileIdleTimeout t s
  | .memIdleTimeout => Sys2Proof.Machine.execMemIdleTimeout s
  | .domainWakeDone d => Sys2Proof.Machine.execDomainWakeDone d s
  | .accessWakeTimeout p write k => Sys2Proof.Machine.execAccessWakeTimeout p write k s
  | .modeScheduleDue index => Sys2Proof.Machine.execModeScheduleDue index s
  | .voterAnswer v => Sys2Proof.Machine.execVoterAnswer v s
  | .sleepVoteTimeout => Sys2Proof.Machine.execSleepVoteTimeout s
  | .sleepRetry => Sys2Proof.Machine.execSleepRetry s
  | .cancel => Sys2Proof.Machine.execCancel s
  | .sentinelSample temp w => Sys2Proof.Machine.execSentinelSample temp w s
  | .sentinelWindowEnd nows w => Sys2Proof.Machine.execSentinelWindowEnd nows w s
  | .wakePin w => Sys2Proof.Machine.execWakePin w s
  | .aonTimer entry w => Sys2Proof.Machine.execAonTimer entry w s
  | .wakeStepTimeout n d => Sys2Proof.Machine.execWakeStepTimeout n d s
  | .avsLoop slack => Sys2Proof.Machine.execAvsLoop slack s
  | .avsAckTimeout r nak => Sys2Proof.Machine.execAvsAckTimeout r nak s
  | .supplyStageEnter stage rail acked => Sys2Proof.Machine.execSupplyStageEnter stage rail acked s
  | .supplyStageRestore => Sys2Proof.Machine.execSupplyStageRestore s
  | .resClr => Sys2Proof.Machine.execResClr s
  | .status => Sys2Proof.Machine.execStatus s
  | .selftest ok => Sys2Proof.Machine.execSelftest ok s
  | .zeroise => Sys2Proof.Machine.execZeroise s
  | .identity => Sys2Proof.Machine.execIdentity s
  | .keyImport => Sys2Proof.Machine.execKeyImport s
  | .keyDelete => Sys2Proof.Machine.execKeyDelete s
  | .keyStatus => Sys2Proof.Machine.execKeyStatus s
  | .rollbackCommit => Sys2Proof.Machine.execRollbackCommit s
  | .fuseProgram => Sys2Proof.Machine.execFuseProgram s
  | .fuseRead => Sys2Proof.Machine.execFuseRead s
  | .dbgChallenge => Sys2Proof.Machine.execDbgChallenge s
  | .dbgResponse => Sys2Proof.Machine.execDbgResponse s
  | .random => Sys2Proof.Machine.execRandom s
  | .secChal => Sys2Proof.Machine.execSecChal s
  | .secResp dr => Sys2Proof.Machine.execSecResp dr s
  | .keyLockExpire k => Sys2Proof.Machine.execKeyLockExpire k s
  | .dbgChallengeExpire => Sys2Proof.Machine.execDbgChallengeExpire s
  | .tamper c => Sys2Proof.Machine.execTamper c s
  | .gridSlotBoundary => Sys2Proof.Machine.execGridSlotBoundary s
  | .forwardDownstream op p full => Sys2Proof.Machine.execForwardDownstream op p full s
  | .unknownOpcode op p => Sys2Proof.Machine.execUnknownOpcode op p s
  | .hdrErr p => Sys2Proof.Machine.execHdrErr p s
  | .pathWakeReady kind index => Sys2Proof.Machine.execPathWakeReady kind index s

end Sys2Proof.Machine
end

