-- ==== Sys2Proof/WellFormed.lean ====
section
/-! DEFINITION. Which commands are well-formed: what the spec fixes about an operand beside its type. The machine's meanings are total; a
command that is not well-formed stands for nothing a sender can put on the wire or the device can measure. -/

namespace Sys2Proof

/-- A packet fits its pad: LEN is at most 4,040 (R242). -/
def Packet.wf (p : Packet) : Bool := decide (p.payload.length ≤ 4040)

/-- The check of each command: a packet's length (R242); a boundary's measurements name no unit twice; a pre-distortion table has 973 words (R96);
a region number lies below 8 (R343); a croak's header is 5 bytes and its payload at most 66 (R163); skew and temperature lists have an entry
for each channel and sensor; at most 128 units have bins; a monitor entry makes at least one conversion. -/
def Instr.wf : Instr → Bool
  | .registerWrite _ _ => true
  | .symbolBoundary ms => decide ((ms.map SymMeas.u).Nodup)
  | .eventPush => true
  | .clockMonitorWindow _ _ _ => true
  | .setMode p => p.wf
  | .trimDone _ => true
  | .por => true
  | .nrstIn => true
  | .wdog => true
  | .reset p => p.wf
  | .jtagReset => true
  | .tileFault _ => true
  | .resetRelease _ _ _ _ => true
  | .blkResetGo _ => true
  | .quiesceAck => true
  | .quiesceTimeout => true
  | .blockRestored _ => true
  | .mtpPulseEnd => true
  | .flashBusyTimeout => true
  | .reloadTrim => true
  | .trimLoadDone _ => true
  | .startStepDone _ _ => true
  | .tileHoldTimeout => true
  | .rxOvld _ => true
  | .ovldStepRepeat _ => true
  | .rxOvldRecover _ => true
  | .syncEdge => true
  | .syncRealign _ _ => true
  | .rxCommit _ => true
  | .rxCoefWrite _ _ _ _ => true
  | .xfadeEnd _ => true
  | .txCommit _ => true
  | .cfrPulseReady => true
  | .shadowReady _ => true
  | .dpdChecksDone _ => true
  | .dpdTblDataAccess _ _ _ => true
  | .adaptPeriod _ => true
  | .adaptCaptureDone _ _ => true
  | .adaptFitDone _ _ table => table.length == 973
  | .dpdTrainStepDone _ _ => true
  | .clusterCommit _ => true
  | .loPrecal _ _ => true
  | .loLock _ _ => true
  | .loStoredTimeout _ => true
  | .loFail _ => true
  | .loUnlock _ => true
  | .sched p => p.wf
  | .preWake kind i => kind != 2 || decide (i.val < 8)
  | .rffeRelease _ => true
  | .rffeFrameDone _ _ => true
  | .rffeCmd _ _ => true
  | .tileCommit => true
  | .weights p => p.wf
  | .wsetChecksDone _ => true
  | .rxSymbolDone _ _ _ bins _ => decide (bins.length ≤ 128)
  | .ulData _ _ => true
  | .prachDone _ _ _ _ _ => true
  | .solveJobStart _ => true
  | .solveDone _ _ => true
  | .corrAgeExpired _ => true
  | .dlDeadline _ _ _ => true
  | .chorusSearchOpen => true
  | .croakSend => true
  | .chorusGainStep _ => true
  | .chorusDetect => true
  | .chorusAgcFreeze => true
  | .chorusSfd _ => true
  | .chorusSfdTimeout => true
  | .chorusHeader bs => bs.length == 5
  | .chorusPayloadEnd bs => decide (bs.length ≤ 66)
  | .chorusPreempt _ => true
  | .chorusSearchClose => true
  | .chorusMeasureDone _ => true
  | .chorusParentLost => true
  | .chorusCommit => true
  | .calStepDone _ _ => true
  | .calReq _ _ => true
  | .save => true
  | .calStoreAutosave => true
  | .calStoreSaveDone _ => true
  | .trimDataAccess _ _ => true
  | .nNop _ _ => true
  | .nBr _ _ => true
  | .nCall _ _ => true
  | .nRet _ _ => true
  | .nLoop _ _ => true
  | .nYield _ _ => true
  | .nWaitev _ _ => true
  | .nHalt _ _ => true
  | .nSys _ _ => true
  | .nAdd _ _ => true
  | .nSub _ _ => true
  | .nAnd _ _ => true
  | .nOr _ _ => true
  | .nXor _ _ => true
  | .nShl _ _ => true
  | .nShr _ _ => true
  | .nSar _ _ => true
  | .nMin _ _ => true
  | .nMax _ _ => true
  | .nCadd _ _ => true
  | .nCsub _ _ => true
  | .nCconj _ _ => true
  | .nSwaph _ _ => true
  | .nMov _ _ => true
  | .nAddi _ _ => true
  | .nAndi _ _ => true
  | .nOri _ _ => true
  | .nXori _ _ => true
  | .nShli _ _ => true
  | .nShri _ _ => true
  | .nSari _ _ => true
  | .nMovi _ _ => true
  | .nMovhi _ _ => true
  | .nNone _ _ _ _ => true
  | .nCmac _ _ _ _ => true
  | .nCmacc _ _ _ _ => true
  | .nCmsu _ _ _ _ => true
  | .nCmul _ _ _ _ => true
  | .nRmac _ _ _ _ => true
  | .nCpwr _ _ _ _ => true
  | .nClr _ _ _ _ => true
  | .nTrn _ _ => true
  | .nLda _ _ => true
  | .nAdda _ _ => true
  | .nNega _ _ => true
  | .nMovp _ _ => true
  | .nMovxp _ _ => true
  | .nMovm _ _ => true
  | .nMovxm _ _ => true
  | .nAddp _ _ => true
  | .nCirc _ _ => true
  | .nMovwb _ _ => true
  | .nLd _ _ _ _ => true
  | .nSt _ _ => true
  | .nLong _ _ => true
  | .newtBusTimeout _ _ => true
  | .newtHeartbeatMiss _ => true
  | .fallbackAckTimeout => true
  | .userStart _ => true
  | .userStop _ => true
  | .userTrig _ => true
  | .userPeriodTrigger _ => true
  | .userWdog _ => true
  | .laneSigdet _ _ => true
  | .laneCdrLock _ _ => true
  | .laneEqConverged _ _ _ _ _ _ => true
  | .laneMarkerGood _ _ => true
  | .laneLos _ _ => true
  | .laneMarkersBad _ _ => true
  | .laneWindowEnd _ _ _ => true
  | .laneBackoffEnd _ _ => true
  | .statusWord _ _ _ _ => true
  | .statusWordDue _ => true
  | .portDeskewTimeout _ => true
  | .portWiden _ => true
  | .retrain _ => true
  | .portBackoffEnd _ => true
  | .portEnable _ _ => true
  | .eyeScan _ _ => true
  | .eyeDone _ _ _ _ _ _ => true
  | .upstreamRevert => true
  | .uploss => true
  | .linkWakePattern _ => true
  | .dlData p => p.wf
  | .write p => p.wf
  | .read p _ _ => p.wf
  | .ringPost _ p => p.wf
  | .ringStatus _ p => p.wf
  | .event p => p.wf
  | .imageWrite p => p.wf
  | .imageCommit p => p.wf
  | .imageAbort p => p.wf
  | .imageStatus p => p.wf
  | .forwardUpstream _ _ p _ => p.wf
  | .ulAgeDiscard _ => true
  | .poolCommit => true
  | .ptpSync _ _ => true
  | .followUp _ _ => true
  | .delayResp _ _ => true
  | .announce _ => true
  | .ptpForward _ _ _ => true
  | .domainLost _ _ => true
  | .stepHoldExpire _ => true
  | .domainRevert => true
  | .steerUpdate => true
  | .acquireTimeout => true
  | .timeAcquireLimit _ => true
  | .tilePhaseCheck _ _ => true
  | .timeCommit => true
  | .snap => true
  | .clrSuspect _ => true
  | .ppsOut => true
  | .ppsIn => true
  | .ppsInLost => true
  | .capArm _ _ => true
  | .capStop _ _ => true
  | .capForce _ _ _ => true
  | .capTrigger _ _ _ _ => true
  | .capSegmentDone _ _ => true
  | .capRearm _ => true
  | .capHoldEnd _ => true
  | .capAutoTimeout _ _ => true
  | .capBufferFull _ _ => true
  | .capTrunc _ _ _ => true
  | .skewGo => true
  | .skewDone skews => skews.length == 16
  | .dmaStart _ _ => true
  | .dmaPause _ _ => true
  | .dmaAbort _ => true
  | .doorbell _ => true
  | .dmaDescFetch _ _ _ => true
  | .dmaDescDone _ _ _ => true
  | .bulk _ => true
  | .dmaDrained _ _ => true
  | .dmaBusTimeout _ _ => true
  | .dmaWakeTimeout _ => true
  | .hkGo _ _ => true
  | .hkPeriodTrigger _ _ => true
  | .hkVendorTrigger => true
  | .hkStartupDone _ => true
  | .hkEntryDone _ cs => !cs.isEmpty
  | .hkSeqDone _ => true
  | .hkEnable _ _ => true
  | .hkSelftest => true
  | .hkSelftestDone _ _ => true
  | .hkCommit => true
  | .biasIlimFault _ => true
  | .biasRangeSwitch _ => true
  | .biasSineUpdate _ => true
  | .pwmPeriod _ _ => true
  | .thermSample temps _ => temps.length == 22
  | .thermalGraceEnd => true
  | .thermalRelease => true
  | .thermSleepSample _ _ => true
  | .tileIdleTimeout _ => true
  | .memIdleTimeout => true
  | .domainWakeDone _ => true
  | .accessWakeTimeout p _ _ => p.wf
  | .modeScheduleDue _ => true
  | .voterAnswer _ => true
  | .sleepVoteTimeout => true
  | .sleepRetry => true
  | .cancel => true
  | .sentinelSample _ _ => true
  | .sentinelWindowEnd _ _ => true
  | .wakePin _ => true
  | .aonTimer _ _ => true
  | .wakeStepTimeout _ _ => true
  | .avsLoop _ => true
  | .avsAckTimeout _ _ => true
  | .supplyStageEnter _ _ _ => true
  | .supplyStageRestore => true
  | .resClr => true
  | .status => true
  | .selftest _ => true
  | .zeroise => true
  | .identity => true
  | .keyImport => true
  | .keyDelete => true
  | .keyStatus => true
  | .rollbackCommit => true
  | .fuseProgram => true
  | .fuseRead => true
  | .dbgChallenge => true
  | .dbgResponse => true
  | .random => true
  | .secChal => true
  | .secResp _ => true
  | .keyLockExpire _ => true
  | .dbgChallengeExpire => true
  | .tamper _ => true
  | .gridSlotBoundary => true
  | .forwardDownstream _ p _ => p.wf
  | .unknownOpcode _ p => p.wf
  | .hdrErr _ => true
  | .pathWakeReady kind i => kind != 2 || decide (i.val < 8)

end Sys2Proof
end

