-- ==== Sys2Proof/Safety.lean ====
section
/-! DEFINITION. What a legal state is, in the terms the statements use: the canonical form of the addressed memories, and the event queue within
its size (R259), in the state and in the retention snapshot. -/

namespace Sys2Proof.Machine

/-- The event queue keeps R259: at most 512 entries other than class 0xF (which a full queue never displaces), and ESEQ counts modulo 2^16. -/
def EventQueue.wf (q : EventQueue) : Bool :=
  decide ((q.entries.filter fun e => eventClass e.code != 0xF).length ≤ 512) && decide (q.next < 65536) &&
    q.entries.all fun e => decide (e.eseq < 65536)

/-- A retention snapshot, where one is held, keeps the event queue's form (R352). -/
def snapWf (o : Option Snap) : Bool :=
  match o with
  | none => true
  | some sn => sn.events.wf

/-- A legal state: memory in canonical form, event queue and snapshot within R259. -/
def Legal (s : State) : Prop := Memory.wf s.mem = true ∧ s.events.wf = true ∧ snapWf s.power.snap = true

/-- The outcome is a next state. -/
def Completes (o : Host.Outcome State Fault Refusal) : Prop := ∃ t, o = .next t

/-- The command answers a next state, and that state has the property. -/
def Gives (c : Instr) (s : State) (P : State → Prop) : Prop := ∃ t, exec c s = .next t ∧ P t

/-- The parts of the state beside the registers' values in force and the queue of commands; `shadow` is the shadow copies. -/
inductive Part where
  | silent | fuse | rst | events | time | air | units | clusters | beam | cal | newts | mem | absent | chorus | link | pool
  | caps | dmas | hk | flash | boot | sec | power | free | shadow
  deriving DecidableEq, Repr

/-- A part is the same in both states. -/
def SamePart (s t : State) : Part → Prop
  | .silent => t.silent = s.silent
  | .fuse => t.fuse = s.fuse
  | .rst => t.rst = s.rst
  | .events => t.events = s.events
  | .time => t.time = s.time
  | .air => t.air = s.air
  | .units => t.units = s.units
  | .clusters => t.clusters = s.clusters
  | .beam => t.beam = s.beam
  | .cal => t.cal = s.cal
  | .newts => t.newts = s.newts
  | .mem => t.mem = s.mem
  | .absent => t.absent = s.absent
  | .chorus => t.chorus = s.chorus
  | .link => t.link = s.link
  | .pool => t.pool = s.pool
  | .caps => t.caps = s.caps
  | .dmas => t.dmas = s.dmas
  | .hk => t.hk = s.hk
  | .flash => t.flash = s.flash
  | .boot => t.boot = s.boot
  | .sec => t.sec = s.sec
  | .power => t.power = s.power
  | .free => t.free = s.free
  | .shadow => t.hsh = s.hsh

/-- The frame: no register field but `regs`, no part but `parts` and no waiting command differs. -/
def Frame (s t : State) (regs : List Fld) (parts : List Part) : Prop :=
  (∀ g : Fld, (∀ f ∈ regs, g.key ≠ f.key) → rd t g = rd s g) ∧ (∀ p : Part, p ∉ parts → SamePart s t p) ∧ t.pending = s.pending

/-- Every next state of the command differs from `s` in no part but `parts`. -/
def Within (c : Instr) (s : State) (parts : List Part) : Prop :=
  ∀ t, exec c s = .next t → ∀ p : Part, p ∉ parts → SamePart s t p

/-- The fields that issuing an event writes (R34, R259): the pending classes, the fatal bit and EVT_LOST. -/
def eventRegs : List Fld := [Reg.ALERT_STATUS_CLASS_PEND, Reg.ALERT_STATUS_FATAL_PEND, Reg.POOL_STATUS_EVT_LOST]

/-- Events are queued, and the queue has room (R259). -/
def Room (s : State) : Prop := packageHeld s = false ∧ s.events.entries.length < 512

/-- The queue of `s` has one entry more in `t`, of this code and ARG, not yet sent. -/
def Queued (s t : State) (code arg : Nat) : Prop :=
  ∃ e : EventEntry, t.events.entries = s.events.entries ++ [e] ∧ e.code = code ∧ e.arg = arg % 2 ^ 32 ∧ e.pushed = false

/-- A packet is taken: its port is UP, it is not a broadcast, it carries the device's ID, its CRC holds, and its SEQ is the next of its port (R243 to R246, R250). -/
def Taken (s : State) (p : Packet) : Prop :=
  portUp s p.port.val = true ∧ p.bcast = false ∧ consumed s p = true ∧ p.trailer = true ∧
    (s.pool.seqIn.get p.port.val 0 = 0 ∨ p.seq.toNat = s.pool.seqIn.get p.port.val 0 % 65536)

/-- A packet reaches its command: it is taken, and pads are left for it and for its response (R269). -/
def Arrives (s : State) (p : Packet) : Prop := Taken s p ∧ padsFor s 10 1 = true ∧ padsFor s 11 1 = true

/-- The response to `p` of this opcode, status and payload leaves on the active upstream port (R248). -/
def Answered (s t : State) (p : Packet) (op status : Nat) (payload : List Nat) : Prop :=
  ∃ o : OutPkt, t.link.out = s.link.out ++ [o] ∧ o.port = activeUp s ∧ o.op = op ∧ o.up = true ∧ o.tag = p.tag.toNat ∧ o.aux = status ∧
    o.err = (status != 0) ∧ o.payload = payload ∧ o.dev = devId s

/-- A Newt context runs, and the instruction at its PC is `i`, of `w` words (R212, R214). -/
def AtPC (s : State) (g : Nat) (user : Bool) (i : NI) (w : Nat) : Prop :=
  ctxRuns s g user = true ∧ fetchInstr s g user (s.ctx g user).pc = .ok (i, w)

/-- Registers `c` once an instruction of `w` words has ended in sequence: its wait is over, and PC has moved on, back to a loop's start where a body ends (R212). -/
def stepOn (s : State) (g : Nat) (user : Bool) (w : Nat) (c : CtxS) : CtxS :=
  let l := loopEnd c.loops (((s.ctx g user).pc + w) % 32768)
  { c with wait := none, loops := l.1, pc := l.2.1 % 32768 }

/-- The register fields of a core that any of its instructions may write: its load figures, and the states of its contexts. -/
def newtRegs (g : Nat) : List Fld :=
  [Reg.NEWT_LOAD_CONFLICT g, Reg.NEWT_LOAD_VLOAD g, Reg.NEWT_LOAD_ULOAD g, Reg.NEWT_STATUS_USTATE g, Reg.NEWT_STATUS_VSTATE g]

/-- Exception `e` of a Newt context (R215): the user kernel is in FAULT with its code and PC and event 0x2060, its registers in the view; the vendor context raises 0x2061 and
asks for a block reset of its region's core. -/
def NewtFaults (s t : State) (g : Nat) (user : Bool) (e : Nat) : Prop :=
  if user then
    uState t g = uFault ∧ rd t (Reg.NEWT_USER_FAULT_CODE g) = e ∧
      rd t (Reg.NEWT_USER_FAULT_FAULT_PC g) = (s.newt g).user.pc % 2 ^ (Reg.NEWT_USER_FAULT_FAULT_PC g).width ∧ (t.newt g).view = (s.newt g).user ∧
      (Room s → Queued s t 0x2060 0) ∧
      Frame s t ([Reg.NEWT_STATUS_USTATE g, Reg.NEWT_USER_FAULT_CODE g, Reg.NEWT_USER_FAULT_FAULT_PC g] ++ eventRegs) [.newts, .events]
  else t = (requestBlk (raise (wr (suspendCache s g) (Reg.NEWT_STATUS_VSTATE g) vFault) 0x2061 0) (0x200 + g) false).1

/-- Every part of the state. -/
def allParts : List Part :=
  [.silent, .fuse, .rst, .events, .time, .air, .units, .clusters, .beam, .cal, .newts, .mem, .absent, .chorus, .link, .pool, .caps, .dmas,
    .hk, .flash, .boot, .sec, .power, .free, .shadow]

/-- Every part but those listed. -/
def allBut (ps : List Part) : List Part := allParts.filter fun p => !ps.contains p

/-- The class of an event is pending in ALERT_STATUS (R34). -/
def Announced (t : State) (code : Nat) : Prop := bit (rd t Reg.ALERT_STATUS_CLASS_PEND) (eventClass code) = true

/-- The commands that can end in another mode: resets and what leads to one, start steps and faults, the mode machine itself, sleep and
wakes, a shutdown, and every access that can write a register. No other command changes MODE. -/
def mayChangeMode : Instr → Bool
  | .registerWrite _ _ => true
  | .symbolBoundary _ => true
  | .clockMonitorWindow _ _ _ => true
  | .setMode _ => true
  | .trimDone _ => true
  | .por => true
  | .nrstIn => true
  | .wdog => true
  | .reset _ => true
  | .jtagReset => true
  | .tileFault _ => true
  | .quiesceAck => true
  | .quiesceTimeout => true
  | .blockRestored _ => true
  | .mtpPulseEnd => true
  | .trimLoadDone _ => true
  | .startStepDone _ _ => true
  | .nNone _ _ _ _ => true
  | .nCmac _ _ _ _ => true
  | .nCmacc _ _ _ _ => true
  | .nCmsu _ _ _ _ => true
  | .nCmul _ _ _ _ => true
  | .nRmac _ _ _ _ => true
  | .nCpwr _ _ _ _ => true
  | .nClr _ _ _ _ => true
  | .nLd _ _ _ _ => true
  | .nSt _ _ => true
  | .linkWakePattern _ => true
  | .write _ => true
  | .read _ _ _ => true
  | .ringPost _ _ => true
  | .imageCommit _ => true
  | .timeAcquireLimit _ => true
  | .dmaDescFetch _ _ _ => true
  | .dmaDescDone _ _ _ => true
  | .bulk _ => true
  | .dmaDrained _ _ => true
  | .dmaBusTimeout _ _ => true
  | .thermSample _ _ => true
  | .thermSleepSample _ _ => true
  | .accessWakeTimeout _ _ _ => true
  | .voterAnswer _ => true
  | .sentinelSample _ _ => true
  | .sentinelWindowEnd _ _ => true
  | .wakePin _ => true
  | .aonTimer _ _ => true
  | .wakeStepTimeout _ _ => true
  | .supplyStageEnter _ _ _ => true
  | .selftest _ => true
  | .zeroise => true
  | .tamper _ => true
  | .gridSlotBoundary => true
  | _ => false

/-- The commands that can write the configuration flash. -/
def mayWriteFlash : Instr → Bool
  | .trimLoadDone _ => true
  | .startStepDone _ _ => true
  | .imageWrite _ => true
  | .imageCommit _ => true
  | _ => false

/-- The commands that can write a byte of the memory die or of a Newt core's memories. -/
def mayWriteMemory : Instr → Bool
  | .registerWrite _ _ => true
  | .symbolBoundary _ => true
  | .clockMonitorWindow _ _ _ => true
  | .setMode _ => true
  | .trimDone _ => true
  | .por => true
  | .nrstIn => true
  | .wdog => true
  | .reset _ => true
  | .jtagReset => true
  | .tileFault _ => true
  | .blkResetGo _ => true
  | .quiesceAck => true
  | .quiesceTimeout => true
  | .blockRestored _ => true
  | .mtpPulseEnd => true
  | .trimLoadDone _ => true
  | .startStepDone _ _ => true
  | .chorusMeasureDone _ => true
  | .nNop _ _ => true
  | .nBr _ _ => true
  | .nCall _ _ => true
  | .nRet _ _ => true
  | .nLoop _ _ => true
  | .nYield _ _ => true
  | .nWaitev _ _ => true
  | .nHalt _ _ => true
  | .nSys _ _ => true
  | .nAdd _ _ => true
  | .nSub _ _ => true
  | .nAnd _ _ => true
  | .nOr _ _ => true
  | .nXor _ _ => true
  | .nShl _ _ => true
  | .nShr _ _ => true
  | .nSar _ _ => true
  | .nMin _ _ => true
  | .nMax _ _ => true
  | .nCadd _ _ => true
  | .nCsub _ _ => true
  | .nCconj _ _ => true
  | .nSwaph _ _ => true
  | .nMov _ _ => true
  | .nAddi _ _ => true
  | .nAndi _ _ => true
  | .nOri _ _ => true
  | .nXori _ _ => true
  | .nShli _ _ => true
  | .nShri _ _ => true
  | .nSari _ _ => true
  | .nMovi _ _ => true
  | .nMovhi _ _ => true
  | .nNone _ _ _ _ => true
  | .nCmac _ _ _ _ => true
  | .nCmacc _ _ _ _ => true
  | .nCmsu _ _ _ _ => true
  | .nCmul _ _ _ _ => true
  | .nRmac _ _ _ _ => true
  | .nCpwr _ _ _ _ => true
  | .nClr _ _ _ _ => true
  | .nTrn _ _ => true
  | .nLda _ _ => true
  | .nAdda _ _ => true
  | .nNega _ _ => true
  | .nMovp _ _ => true
  | .nMovxp _ _ => true
  | .nMovm _ _ => true
  | .nMovxm _ _ => true
  | .nAddp _ _ => true
  | .nCirc _ _ => true
  | .nMovwb _ _ => true
  | .nLd _ _ _ _ => true
  | .nSt _ _ => true
  | .nLong _ _ => true
  | .newtBusTimeout _ _ => true
  | .newtHeartbeatMiss _ => true
  | .linkWakePattern _ => true
  | .write _ => true
  | .ringPost _ _ => true
  | .imageCommit _ => true
  | .timeAcquireLimit _ => true
  | .capStop _ _ => true
  | .capForce _ _ _ => true
  | .capTrigger _ _ _ _ => true
  | .capSegmentDone _ _ => true
  | .capBufferFull _ _ => true
  | .capTrunc _ _ _ => true
  | .dmaDescDone _ _ _ => true
  | .dmaDrained _ _ => true
  | .dmaBusTimeout _ _ => true
  | .thermSample _ _ => true
  | .thermSleepSample _ _ => true
  | .accessWakeTimeout _ _ _ => true
  | .voterAnswer _ => true
  | .sentinelSample _ _ => true
  | .sentinelWindowEnd _ _ => true
  | .wakePin _ => true
  | .aonTimer _ _ => true
  | .wakeStepTimeout _ _ => true
  | .supplyStageEnter _ _ _ => true
  | .selftest _ => true
  | .zeroise => true
  | .tamper _ => true
  | .gridSlotBoundary => true
  | _ => false

end Sys2Proof.Machine
end

