-- ==== Sys2Proof/Certificates/Slice0/Obligations.lean ====
section
/-! DEFINITION. The statements for the provers. -/

open Sys2Proof Sys2Proof.Machine

/-! ### The machine as a whole -/

/-- A step runs the command at the front of the queue on the state with the queue's rest. -/
def Obligations.StepRunsTheFrontCommand : Prop :=
  ∀ (c : Instr) (rest : List Instr) (s : State), s.pending = c :: rest → step s = exec c { s with pending := rest }

/-- On an empty queue the step lets one REF edge pass (the model's choice, log 2): only the balance changes, and it never runs back. It stands
where no REF edge comes. -/
def Obligations.EmptyQueueAdvancesOnlyTheBalance : Prop :=
  ∀ s : State, s.pending = [] → ∃ t, step s = .next t ∧ Frame s t [] [.time] ∧ s.time.bal ≤ t.time.bal ∧
    { t.time with bal := s.time.bal } = s.time ∧
    (packageHeld s = true ∨ modeOf s = mBrumate ∨ rd s Reg.BOOT_STRAPS_CLKSEL = 3 → t = s)

/-- The state after reset: every field reads its reset value in both copies, nothing is queued, no event waits, no memory is written, and the
state is legal. -/
def Obligations.ResetHoldsTheResetValues : Prop :=
  (∀ f : Fld, rd State.reset f = f.reset ∧ rdSh State.reset f = f.reset) ∧ State.reset.pending = [] ∧ State.reset.events.entries = [] ∧
    (∀ a, memByte State.reset a = 0) ∧ Legal State.reset

/-- A legal state stays legal whatever command runs, and on an empty queue: the memories keep their canonical form, and the event queue (with the
one kept in the retention snapshot) never holds more than 512 entries beside the fatal ones. -/
def Obligations.EveryStepKeepsTheStateLegal : Prop := ∀ s t : State, Legal s → step s = .next t → Legal t

/-- No command stops the block: each answers a next state. None puts another command into the queue or takes one out, changes the grade fuse, or gives a free value
back. -/
def Obligations.CommandsCompleteAndKeepTheQueue : Prop :=
  ∀ (c : Instr) (s : State), ∃ t, exec c s = .next t ∧ t.pending = s.pending ∧ t.fuse.grade = s.fuse.grade ∧ s.free ≤ t.free

/-- A little-endian word written to an addressed memory reads back, and every byte outside its four reads as before. -/
def Obligations.MemoryWordReadsBack : Prop :=
  ∀ (s : State) (a v : Nat), v < 2 ^ 32 → memWord (setMemWord s a v) a = v ∧ Frame s (setMemWord s a v) [] [.mem] ∧
    ∀ b, (b < a ∨ a + 4 ≤ b) → memByte (setMemWord s a v) b = memByte s b

/-- A commit moves every shadow value of the group to active use at once, or none: with no failing pair every H field in the group's ranges
takes its shadow copy and every other active copy stays; with a failing pair every active copy of an H field stays, the pair error is shown and
recorded at the first refusal; a commit with nothing changed, of a block that does not leave STOP, does nothing. The shadow copies stay always. -/
def Obligations.CommitIsAllOrNothing : Prop :=
  ∀ (s : State) (g : Group) (fails : List Nat) (leave : Bool),
    let t := (commitGroup s g fails leave).1
    (∀ f, rdSh t f = rdSh s f) ∧
    (shadowChanged s g = false → leave = false → t = s) ∧
    (shadowChanged s g = true ∨ leave = true → fails = [] →
      ∀ f : Fld, f.cls = .H → rd t f = if g.ranges.any (fun r => decide (r.1 ≤ f.key) && decide (f.key < r.2)) then rdSh s f else rd s f) ∧
    (shadowChanged s g = true ∨ leave = true → fails ≠ [] →
      (∀ f : Fld, f.cls = .H → rd t f = rd s f) ∧ (commitGroup s g fails leave).2 = false ∧
      (s.silent.contains g.id = true → t = s) ∧
      (s.silent.contains g.id = false → rd t Reg.CFG_STATUS_CFG_PAIR_ERR = 1 ∧ (Room s → Queued s t 0x1002 (lowest fails))))

/-- Issuing an event (R17, R259): nothing while a reset of PACKAGE or SYSTEM reach is held; with room one entry more, and its class pending; on a full
queue the oldest entry not of class 0xF makes room, no fatal entry is lost, and EVT_LOST is set; a fatal code still queued is not queued again. -/
def Obligations.RaisingAnEvent : Prop :=
  ∀ (s : State) (c a : Nat),
    (packageHeld s = true → raise s c a = s) ∧
    (Frame s (raise s c a) eventRegs [.events]) ∧
    (Room s → eventClass c ≠ 0xF → Queued s (raise s c a) c a) ∧
    (packageHeld s = false → 512 ≤ s.events.entries.length → eventClass c ≠ 0xF →
      rd (raise s c a) Reg.POOL_STATUS_EVT_LOST = 1 ∧ ∀ e ∈ s.events.entries, eventClass e.code = 0xF → e ∈ (raise s c a).events.entries) ∧
    (packageHeld s = false → eventClass c = 0xF → (∃ e ∈ s.events.entries, e.code = c) → (raise s c a).events = s.events ∧
      rd (raise s c a) Reg.ALERT_STATUS_FATAL_PEND = 1)

/-- Writes to registers, field by field (R7, R9): a live RW field takes the value at once; the shadow copy of an H field takes it and the active copy stays; a static
field takes it where the write is made, and a write that is not made leaves everything; W1C clears the bits written 1; a read-only field keeps its value. Fields that their
register's own action writes are left out. By REGISTER_WRITE: the register window takes no access while a reset of PACKAGE or SYSTEM reach is held or the device sleeps; in
every other state ALERT_MASK takes CLASS_EN from bits 7:0 at once and nothing else changes; the bits of CFG_STATUS written 1 clear. -/
def Obligations.RegisterWritesByAccessAndClass : Prop :=
  (∀ (s : State) (o : Nat) (f : Fld) (v : Nat), hookField o f = false → v < 2 ^ f.width →
    (notMade s o f v = true → writeField s o f v = s) ∧
    (notMade s o f v = false →
      (f.acc = .rw → f.cls = .L → rd (writeField s o f v) f = v) ∧
      (f.acc = .rw → f.cls = .S → rd (writeField s o f v) f = v) ∧
      (f.acc = .rw → f.cls = .H → rdSh (writeField s o f v) f = v ∧ rd (writeField s o f v) f = rd s f) ∧
      (f.acc = .w1c → rd s f < 2 ^ f.width → ∀ n, (rd (writeField s o f v) f).testBit n = ((rd s f).testBit n && !v.testBit n)) ∧
      (f.acc = .ro → writeField s o f v = s) ∧
      (∀ g : Fld, g.key ≠ f.key → rd (writeField s o f v) g = rd s g ∧ rdSh (writeField s o f v) g = rdSh s g))) ∧
  ∀ (s : State) (v : Word),
    (∀ o : BitVec 24, busOn s = false → exec (.registerWrite o v) s = .next s) ∧
    (busOn s = true →
      Gives (.registerWrite 0x30 v) s (fun t => rd t Reg.ALERT_MASK_CLASS_EN = v.toNat % 256 ∧ Frame s t [Reg.ALERT_MASK_CLASS_EN] []) ∧
      Gives (.registerWrite 0x10 v) s (fun t =>
        (v.toNat.testBit 0 = true → rd t Reg.CFG_STATUS_CFG_IGNORED = 0) ∧ (v.toNat.testBit 0 = false → rd t Reg.CFG_STATUS_CFG_IGNORED = rd s Reg.CFG_STATUS_CFG_IGNORED) ∧
        Frame s t [Reg.CFG_STATUS_CFG_IGNORED, Reg.CFG_STATUS_CFG_PAIR_ERR, Reg.CFG_STATUS_ERR_OVF] []))

/-- What most commands never touch: the mode, the flash, the addressed memories and the fuses. -/
def Obligations.WhatNoOtherCommandTouches : Prop :=
  ∀ (c : Instr) (s t : State), exec c s = .next t →
    (mayChangeMode c = false → modeOf t = modeOf s) ∧ (mayWriteFlash c = false → t.flash = s.flash) ∧
    (mayWriteMemory c = false → ∀ a, memByte t a = memByte s a) ∧ (c ≠ .fuseProgram → t.fuse = s.fuse)

/-! ### Resets (chapter 2) -/

/-- A source of PACKAGE or SYSTEM reach (Table 2.2): it is recorded in RESET_CAUSE, everything is held in BOOT with no event queued; the flash and the
fuses stay, and over a PACKAGE reach the memory die; over a SYSTEM reach and POR no byte of memory stays. While an MTP pulse runs the source waits (R44); POR does
not, and leaves its own bit alone in RESET_CAUSE (log 60). NRST is not sampled while the device drives it, WDOG not while its core is held, and JTAG acts with debug unlocked only. -/
def Obligations.PackageResetsHoldTheDeviceInBoot : Prop :=
  ∀ s : State,
    (∀ c src, (c = Instr.nrstIn ∧ src = 1 ∧ nrstDriven s = false) ∨ (c = Instr.wdog ∧ src = 4 ∧ packageHeld s = false) ∨
        (c = Instr.jtagReset ∧ src = 7 ∧ on s Reg.SEC_STATUS_DBG_UNLOCKED = true) →
      (s.rst.mtpPulse = false → Gives c s fun t =>
        rd t Reg.RESET_CAUSE_SRC = setBit (rd s Reg.RESET_CAUSE_SRC) src % 2 ^ 10 ∧ packageHeld t = true ∧ modeOf t = mBoot ∧
        t.events.entries = [] ∧ t.air = {} ∧ t.flash = s.flash ∧ t.fuse = s.fuse ∧
        (reachOf s src = 3 → ∀ a, a < dieEnd → memByte t a = memByte s a) ∧ (reachOf s src = 4 → ∀ a, memByte t a = 0)) ∧
      (s.rst.mtpPulse = true → Gives c s fun t =>
        t.rst = { s.rst with delayed := s.rst.delayed ++ [{ src := src, reach := reachOf s src, blk := 0 }] } ∧ Frame s t [] [.rst])) ∧
    Gives .por s (fun t => rd t Reg.RESET_CAUSE_SRC = 1 ∧ packageHeld t = true ∧ modeOf t = mBoot ∧ t.events.entries = [] ∧
      (∀ a, memByte t a = 0) ∧ t.flash = s.flash ∧ t.fuse = s.fuse) ∧
    (nrstDriven s = true → exec .nrstIn s = .next s) ∧ (packageHeld s = true → exec .wdog s = .next s) ∧
    (on s Reg.SEC_STATUS_DBG_UNLOCKED = false → exec .jtagReset s = .next s)

/-- Block resets (R42, R43, R402): a listed BLK_ID while none is busy starts a request and shows BUSY; any other is refused with event 0x1011 and its
reason. The last acknowledgement, or the end of the wait, puts the source in force; the restore's end takes it out; a tile's fault starts a request of its own. -/
def Obligations.BlockResetRequests : Prop :=
  ∀ (s : State) (blk : BitVec 12) (tile : Fin 4),
    (blkListed s blk.toNat = true → on s Reg.BLK_RESET_BUSY = false → Gives (.blkResetGo blk) s fun t =>
      t.rst.request = some { blk := blk.toNat, reach := blkReach blk.toNat, src := 9, host := false } ∧ rd t Reg.BLK_RESET_BUSY = 1) ∧
    ((blkListed s blk.toNat = false ∨ on s Reg.BLK_RESET_BUSY = true) → Gives (.blkResetGo blk) s fun t =>
      rd t Reg.BLK_RESET_REFUSED = 1 ∧ t.rst = s.rst ∧
      (Room s → Queued s t 0x1011 (blk.toNat + 4096 * blkReach blk.toNat + 65536 * (if blkListed s blk.toNat then 1 else 3))) ∧
      Frame s t ([Reg.BLK_RESET_BLK_ID, Reg.BLK_RESET_REFUSED] ++ eventRegs) [.events]) ∧
    (∀ (q : BlkRequest) (c : Instr), s.rst.request = some q → q.reach < 3 → s.rst.mtpPulse = false → s.boot.loading = false →
      (c = .quiesceAck ∧ unitsQuiet s = true) ∨ c = .quiesceTimeout → Gives c s fun t =>
        t.rst.request = none ∧ ∃ r ∈ t.rst.sources, r.src = q.src ∧ r.blk = q.blk ∧ r.reach = q.reach ∧ r.forced = decide (c = .quiesceTimeout)) ∧
    (∀ c, (c = Instr.quiesceAck ∨ c = .quiesceTimeout) → s.rst.request = none → exec c s = .next s) ∧
    (∀ r, s.rst.restoring.find? (fun r => r.blk == blk.toNat) = some r → packageHeld s = false → Gives (.blockRestored blk) s fun t =>
      t.rst.restoring = s.rst.restoring.filter (fun x => x != r) ∧ Announced t 0x0011 ∧ t.flash = s.flash) ∧
    (s.rst.restoring.find? (fun r => r.blk == blk.toNat) = none → exec (.blockRestored blk) s = .next s) ∧
    (tileEnabled s tile = true → blockHeld s (0x400 + tile) = false → s.rst.request = none → Gives (.tileFault tile) s fun t =>
      rd t Reg.BLK_RESET_BUSY = 1 ∧
      t.rst.request = some { blk := if reachOf s 8 = 2 then 0x500 else 0x400 + tile, reach := reachOf s 8, src := 8, host := false }) ∧
    Within (.blkResetGo blk) s [.rst, .events, .units, .newts, .mem, .chorus, .caps, .dmas, .free]

/-- The release of a source (R40, R41, R46): a block's source not covered by another goes into its restore with BUSY shown; the last source of PACKAGE or
SYSTEM reach begins the start sequence with the straps latched, the balance at zero and no event queued; a source that is not asserted changes nothing. CORE_CLK stays
while CORE is failed (R29). -/
def Obligations.ResetRelease : Prop :=
  ∀ (s : State) (src : Fin 10) (blk : BitVec 12) (bs cs : BitVec 2), ¬(src.val = 3 ∧ 1 ∈ s.rst.badClocks) →
    (∀ r, s.rst.sources.find? (fun r => r.src == src.val && (decide (3 ≤ r.reach) || r.blk == blk.toNat)) = some r →
      (r.reach < 3 → r.ovr = false → (∀ x ∈ s.rst.sources, x ≠ r → reachCovers x.reach x.blk r.blk = false) → Gives (.resetRelease src blk bs cs) s fun t =>
        t.rst.sources = s.rst.sources.filter (fun x => x != r) ∧ t.rst.restoring = s.rst.restoring ++ [r] ∧ rd t Reg.BLK_RESET_BUSY = 1 ∧
        Frame s t [Reg.BLK_RESET_BUSY] [.rst]) ∧
      (3 ≤ r.reach → (∀ x ∈ s.rst.sources, x ≠ r → x.reach < 3) → Gives (.resetRelease src blk bs cs) s fun t =>
        t.time = {} ∧ t.events = {} ∧ rd t Reg.BOOT_STRAPS_BOOTSEL = bs.toNat ∧ rd t Reg.BOOT_STRAPS_CLKSEL = cs.toNat ∧
        rd t Reg.BOOT_STRAPS_STRAP_ERR = b2n (cs.toNat == 3) ∧
        rd t Reg.BOOT_STATUS_STEP = (if s.rst.widest = 3 ∧ s.boot.warmEn = true then 2 else 1) ∧ t.rst.widest = 0 ∧ t.mem = s.mem)) ∧
    (s.rst.sources.find? (fun r => r.src == src.val && (decide (3 ≤ r.reach) || r.blk == blk.toNat)) = none →
      exec (.resetRelease src blk bs cs) s = .next s) ∧
    Within (.resetRelease src blk bs cs) s [.rst, .events, .time, .boot]

/-- Trim loading (R48, R50), the MTP pulse (R44) and the flash wait (R45): RELOAD_TRIM starts a load in IDLE and is refused elsewhere; a load that
verifies shows TRIM_VALID; one that does not is counted, logged in the flash and tried again until the third; the pulse's end lets a held-off source assert. -/
def Obligations.TrimLoadsAndPulses : Prop :=
  ∀ s : State,
    (modeOf s = mIdle → s.boot.loading = false → Gives .reloadTrim s fun t =>
      rd t Reg.BOOT_STATUS_TRIM_VALID = 0 ∧ t.boot = { s.boot with loading := true } ∧ Frame s t [Reg.BOOT_STATUS_TRIM_VALID] [.boot]) ∧
    (modeOf s ≠ mIdle ∨ s.boot.loading = true → Gives .reloadTrim s fun t =>
      rd t Reg.BLK_RESET_REFUSED = 1 ∧ (Room s → Queued s t 0x1011 (65536 * 4)) ∧ Frame s t (Reg.BLK_RESET_REFUSED :: eventRegs) [.events]) ∧
    (s.boot.loading = true → modeOf s ≠ mBoot → s.rst.delayed = [] → Gives (.trimLoadDone true) s fun t =>
      rd t Reg.BOOT_STATUS_TRIM_VALID = 1 ∧ rd t Reg.BOOT_STATUS_TRIM_FAIL = 0 ∧ rd t Reg.BOOT_STATUS_TRIM_FAILS = 0 ∧
      t.boot = { s.boot with loading := false } ∧
      Frame s t [Reg.BOOT_STATUS_TRIM_VALID, Reg.BOOT_STATUS_TRIM_FAIL, Reg.BOOT_STATUS_TRIM_FAILS] [.boot, .rst]) ∧
    (s.boot.loading = true → rd s Reg.BOOT_STATUS_TRIM_FAILS < 2 → Gives (.trimLoadDone false) s fun t =>
      rd t Reg.BOOT_STATUS_TRIM_FAILS = rd s Reg.BOOT_STATUS_TRIM_FAILS + 1 ∧ t.boot = s.boot ∧
      t.flash.log.length = s.flash.log.length + 1 ∧ Frame s t [Reg.BOOT_STATUS_TRIM_FAILS] [.flash]) ∧
    (∀ ok, s.boot.loading = false → exec (.trimLoadDone ok) s = .next s) ∧
    (s.rst.mtpPulse = true → s.rst.delayed = [] → Gives .mtpPulseEnd s fun t =>
      t.rst = { s.rst with mtpPulse := false } ∧ Frame s t [] [.rst]) ∧
    (∀ r, s.rst.mtpPulse = true → s.rst.delayed = [r] → s.boot.loading = false → Gives .mtpPulseEnd s fun t =>
      t.rst.mtpPulse = false ∧ ∃ x ∈ t.rst.sources, x.src = r.src ∧ x.reach = r.reach ∧ x.blk = r.blk) ∧
    (s.rst.mtpPulse = false → exec .mtpPulseEnd s = .next s) ∧ exec .flashBusyTimeout s = .next s

/-! ### The start sequence and the modes (chapters 1, 2 and 12) -/

/-- The steps of Table 2.7 (R51, R282): a step's end outside a running start changes nothing; each step shows the one that follows; step 5 waits for
its tiles, step 11 for a port in a warm start and for LOCKED in a cold one; step 11 ends in DIAG under BOOTSEL 0b11 and in TRIM otherwise. -/
def Obligations.StartStepsFollowTheTable : Prop :=
  ∀ (s : State) (ok : Bool) (cyc : Word),
    (starting s = false → exec (.startStepDone ok cyc) s = .next s) ∧
    (starting s = true →
      (stepNow s = 3 → rd s Reg.BOOT_STRAPS_CLKSEL ≠ 3 → Gives (.startStepDone ok cyc) s fun t =>
        stepNow t = 4 ∧ Frame s t [Reg.BOOT_STATUS_STEP, Reg.POOL_DEVID_DEV_ID] []) ∧
      (stepNow s = 5 → (List.range 4).any (tileHeldNow s) = true → exec (.startStepDone ok cyc) s = .next s) ∧
      (stepNow s = 5 → (List.range 4).any (tileHeldNow s) = false → bootSel s ≠ 2 ∨ warmStart s = true → Gives (.startStepDone ok cyc) s fun t =>
        stepNow t = (if warmStart s then 7 else 6) ∧ Frame s t [Reg.BOOT_STATUS_STEP] []) ∧
      (stepNow s = 6 → bootSel s = 2 → s.boot.img.isSome = true → Gives (.startStepDone ok cyc) s fun t =>
        stepNow t = 8 ∧ rd t Reg.BOOT_STATUS_SLOT = 2 ∧ Frame s t [Reg.BOOT_STATUS_STEP, Reg.BOOT_STATUS_SLOT] []) ∧
      (stepNow s = 6 → bootSel s = 2 → s.boot.img = none → exec (.startStepDone ok cyc) s = .next s) ∧
      (stepNow s = 8 → ok = true → Gives (.startStepDone ok cyc) s fun t =>
        stepNow t = 9 ∧ rd t Reg.DMA_MEM_STATUS_READY = 1 ∧ rd t Reg.DMA_MEM_STATUS_SELF_REFRESH = 0 ∧
        Frame s t [Reg.BOOT_STATUS_STEP, Reg.DMA_MEM_STATUS_READY, Reg.DMA_MEM_STATUS_SELF_REFRESH] []) ∧
      (stepNow s = 10 → ok = true → Gives (.startStepDone ok cyc) s fun t => stepNow t = 11 ∧ Frame s t [Reg.BOOT_STATUS_STEP] []) ∧
      (stepNow s = 11 → timeReady s = false → exec (.startStepDone ok cyc) s = .next s) ∧
      (stepNow s = 11 → timeReady s = true → Gives (.startStepDone ok cyc) s fun t => modeOf t = if bootSel s = 3 then mDiag else mTrim))

/-- Limits of the start and the ends of transitions: a tile still held 10 ms into step 5 is FAILED and OFF and the start goes on (R41);
a cold start leaves step 11 at 1,000 ms with the time reached (R282); TRIM ends in IDLE when its work has ended, not before (R23); at a grid slot
boundary a transition between IDLE and SERVE or DIAG completes, and without one only the balance moves (R24). -/
def Obligations.StartLimitsAndTransitionsEnd : Prop :=
  ∀ (s : State) (cyc : Word),
    (starting s = true → stepNow s = 5 → bootSel s ≠ 2 ∨ warmStart s = true → Gives .tileHoldTimeout s fun t =>
      stepNow t = (if warmStart s then 7 else 6) ∧
      ∀ k < 4, tileHeldNow s k = true → domFailed t (8 + k) = true ∧ rd t (Reg.PWR_DOM_STATE (8 + k)) = domOff) ∧
    (starting s = false ∨ stepNow s ≠ 5 → exec .tileHoldTimeout s = .next s) ∧
    (starting s = true → stepNow s = 11 → warmStart s = false → Gives (.timeAcquireLimit cyc) s fun t =>
      modeOf t = if bootSel s = 3 then mDiag else mTrim) ∧
    (starting s = false ∨ stepNow s ≠ 11 ∨ warmStart s = true → exec (.timeAcquireLimit cyc) s = .next s) ∧
    (modeOf s = mTrim → trimWork s = false → Gives (.trimDone cyc) s fun t => modeOf t = mIdle) ∧
    (modeOf s ≠ mTrim ∨ trimWork s = true → exec (.trimDone cyc) s = .next s) ∧
    (escRunning s = true → exec .gridSlotBoundary s = .next s) ∧
    (escRunning s = false → modeBusy s = false → Gives .gridSlotBoundary s fun t =>
      t.time = { s.time with bal := max s.time.bal (cyclesBal (startOf s (nextSlot s)).toNat) } ∧ Frame s t [] [.time]) ∧
    (escRunning s = false → modeBusy s = true →
      (modeOf s = mIdle ∧ (modeTarget s = mServe ∨ modeTarget s = mDiag)) ∨ ((modeOf s = mServe ∨ modeOf s = mDiag) ∧ modeTarget s = mIdle) →
      Gives .gridSlotBoundary s fun t => modeOf t = modeTarget s)

/-! ### Receive paths (chapter 3) -/

/-- Overload episodes (R65, R66, R70): the first over-range sample of a running, ungated path sets OVLD and OVLD_NOW, counts the episode, marks the
running neighbours and steps the index by OVLD_STEP, at most to 31; a further sample of the episode starts none. A persisting overload steps again, or sets AGC_FLOOR
at 31; the recovery clears OVLD_NOW. -/
def Obligations.OverloadEpisodes : Prop :=
  ∀ (s : State) (u : Fin 128),
    let idx := rd s (Reg.UNIT_RX_STATUS_GAIN_IDX u)
    let up := min (idx + atLeast1 (rd s (Reg.UNIT_RX_AGC_OVLD_STEP u))) 31
    (unitEnabled s u = false ∨ rxLive s u = false ∨ on s (Reg.UNIT_RX_STATUS_OVLD_NOW u) = true → exec (.rxOvld u) s = .next s) ∧
    (unitEnabled s u = true → rxLive s u = true → on s (Reg.UNIT_RX_STATUS_OVLD_NOW u) = false → Gives (.rxOvld u) s fun t =>
      rd t (Reg.UNIT_RX_STATUS_OVLD_NOW u) = 1 ∧ rd t (Reg.UNIT_RX_STATUS_OVLD u) = 1 ∧
      rd t (Reg.UNIT_RX_COUNT_OVLD_CNT u) = min (rd s (Reg.UNIT_RX_COUNT_OVLD_CNT u) + 1) (2 ^ (Reg.UNIT_RX_COUNT_OVLD_CNT u).width - 1) ∧
      (chorusListens s u = false → on s (Reg.UNIT_RX_GAIN_OVLD_EN u) = true → rd t (Reg.UNIT_RX_STATUS_GAIN_IDX u) = up) ∧
      (on s (Reg.UNIT_RX_GAIN_OVLD_EN u) = false → rd t (Reg.UNIT_RX_STATUS_GAIN_IDX u) = idx) ∧
      (∀ v ∈ neighboursOf u, unitEnabled s v = true → rxLive s v = true →
        rd t (Reg.UNIT_RX_STATUS_NEIGH v) = 1 ∧ rd t (Reg.UNIT_RX_STATUS_GAIN_IDX v) = rd s (Reg.UNIT_RX_STATUS_GAIN_IDX v)) ∧
      (rd s (Reg.UNIT_RX_STATUS_OVLD u) = 0 → Room s → Queued s t 0x2001 u)) ∧
    (unitEnabled s u = true → on s (Reg.UNIT_RX_STATUS_OVLD_NOW u) = true → chorusListens s u = false →
      (idx = 31 → Gives (.ovldStepRepeat u) s fun t => rd t (Reg.UNIT_RX_STATUS_AGC_FLOOR u) = 1 ∧
        (rd s (Reg.UNIT_RX_STATUS_AGC_FLOOR u) = 0 → Room s → Queued s t 0x2002 u) ∧
        Frame s t (Reg.UNIT_RX_STATUS_AGC_FLOOR u :: eventRegs) [.events]) ∧
      (idx ≠ 31 → on s (Reg.UNIT_RX_GAIN_OVLD_EN u) = true → Gives (.ovldStepRepeat u) s fun t =>
        rd t (Reg.UNIT_RX_STATUS_GAIN_IDX u) = up ∧ Frame s t [Reg.UNIT_RX_STATUS_GAIN_IDX u] [.units]) ∧
      (idx ≠ 31 → on s (Reg.UNIT_RX_GAIN_OVLD_EN u) = false → exec (.ovldStepRepeat u) s = .next s)) ∧
    (unitEnabled s u = false ∨ on s (Reg.UNIT_RX_STATUS_OVLD_NOW u) = false → exec (.ovldStepRepeat u) s = .next s) ∧
    Gives (.rxOvldRecover u) s (fun t => rd t (Reg.UNIT_RX_STATUS_OVLD_NOW u) = 0 ∧ Frame s t [Reg.UNIT_RX_STATUS_OVLD_NOW u] []) ∧
    Within (.rxOvld u) s [.events, .units, .chorus]

/-- Receive commits and fades (R78, R86): COMMIT is ignored while boundaries are released; otherwise a chain that may run leaves STOP at the first commit
whose pair tests pass, with every shadow value in force, and a failing pair puts none into force. A fade ends, or a waiting bank change starts its own. -/
def Obligations.ReceiveCommitsAndFades : Prop :=
  ∀ (s : State) (u : Fin 128),
    (unitEnabled s u = false ∨ releasing s = true → exec (.rxCommit u) s = .next s) ∧
    (unitEnabled s u = true → releasing s = false → rxRunOk s u = true → on s (Reg.UNIT_RX_STATUS_STOPPED u) = true →
      (rxPairFails s u = [] → Gives (.rxCommit u) s fun t => rd t (Reg.UNIT_RX_STATUS_STOPPED u) = 0 ∧
        ∀ f : Fld, f.cls = .H → (rxGroup u).ranges.any (fun r => decide (r.1 ≤ f.key) && decide (f.key < r.2)) = true → rd t f = rdSh s f) ∧
      (rxPairFails s u ≠ [] → Gives (.rxCommit u) s fun t => rd t (Reg.UNIT_RX_STATUS_STOPPED u) = 1 ∧ ∀ f : Fld, f.cls = .H → rd t f = rd s f)) ∧
    (on s (Reg.UNIT_RX_STATUS_XFADE u) = false → exec (.xfadeEnd u) s = .next s) ∧
    (on s (Reg.UNIT_RX_STATUS_XFADE u) = true → (s.unit u).rx.fadeNext = none → Gives (.xfadeEnd u) s fun t =>
      rd t (Reg.UNIT_RX_STATUS_XFADE u) = 0 ∧ Frame s t [Reg.UNIT_RX_STATUS_XFADE u] []) ∧
    (∀ b < 2, on s (Reg.UNIT_RX_STATUS_XFADE u) = true → (s.unit u).rx.fadeNext = some b → Gives (.xfadeEnd u) s fun t =>
      rd t (Reg.UNIT_RX_STATUS_BANK_ACT u) = b ∧ (t.unit u).rx.fadeNext = none ∧ (t.unit u).rx.wins = (s.unit u).rx.wins ++ [(2, 64)] ∧
      Frame s t [Reg.UNIT_RX_STATUS_BANK_ACT u] [.units])

/-- Coefficient writes (R77): to the bank not selected, and in STOP to both, at once; to the selected bank while the chain runs, or to either during a cross-fade, not made,
with CFG_IGNORED set and the write recorded. A unit without hardware takes none. -/
def Obligations.CoefficientWrites : Prop :=
  ∀ (s : State) (u : Fin 128) (b : Fin 2) (k : Fin 33) (v : BitVec 18),
    (unitEnabled s u = false → exec (.rxCoefWrite u b k v) s = .next s) ∧
    (unitEnabled s u = true →
      (on s (Reg.UNIT_RX_STATUS_STOPPED u) = true ∨ (on s (Reg.UNIT_RX_STATUS_XFADE u) = false ∧ rd s (Reg.UNIT_RX_STATUS_BANK_ACT u) ≠ b) →
        Gives (.rxCoefWrite u b k v) s fun t => rd t (coefFld u b k) = v.toNat ∧ Frame s t [coefFld u b k] []) ∧
      (on s (Reg.UNIT_RX_STATUS_STOPPED u) = false → on s (Reg.UNIT_RX_STATUS_XFADE u) = true ∨ rd s (Reg.UNIT_RX_STATUS_BANK_ACT u) = b →
        Gives (.rxCoefWrite u b k v) s fun t => rd t Reg.CFG_STATUS_CFG_IGNORED = 1 ∧ rd t (coefFld u b k) = rd s (coefFld u b k) ∧
          (rd s Reg.CFG_STATUS_CFG_IGNORED = 0 → rd s Reg.CFG_STATUS_CFG_PAIR_ERR = 0 → rd t Reg.CFG_ERR_ADDR_ADDR = (coefFld u b k).off ∧ rd t Reg.CFG_STATUS_ERR_KIND = 0) ∧
          (rd s Reg.CFG_STATUS_CFG_IGNORED ≠ 0 ∨ rd s Reg.CFG_STATUS_CFG_PAIR_ERR ≠ 0 → rd t Reg.CFG_STATUS_ERR_OVF = 1 ∧ rd t Reg.CFG_ERR_ADDR_ADDR = rd s Reg.CFG_ERR_ADDR_ADDR) ∧
          (Room s → Queued s t 0x1001 (coefFld u b k).off) ∧
          Frame s t ([Reg.CFG_STATUS_CFG_IGNORED, Reg.CFG_STATUS_ERR_OVF, Reg.CFG_STATUS_ERR_KIND, Reg.CFG_ERR_ADDR_ADDR] ++ eventRegs) [.events]))

/-! ### Transmit paths (chapter 4) -/

/-- Transmit commits, the cancellation pulse and the table store (R88, R92, R99, R113): COMMIT is ignored while boundaries are released; otherwise a chain
that may run leaves STOP when its pair tests pass, with LAT of R88 in force. A shadow table written word by word loses its pending mark; SHADOW_READY sets it;
the end of the checks leaves it for the moult or records the first failed check. A table write past word 972 has no effect but the advance of WORD (the model's choice, log 70). -/
def Obligations.TransmitCommitsAndTables : Prop :=
  ∀ (s : State) (u : Fin 128),
    (unitEnabled s u = false ∨ releasing s = true → exec (.txCommit u) s = .next s) ∧
    (unitEnabled s u = true → releasing s = false → txRunOk s u = true → on s (Reg.UNIT_TX_STATUS_STOPPED u) = true →
      (txPairFails s u = [] → Gives (.txCommit u) s fun t => rd t (Reg.UNIT_TX_STATUS_STOPPED u) = 0 ∧
        rd t (Reg.UNIT_TX_LAT_LAT u) = txLat (rdSh s (Reg.UNIT_TX_INTERP_RATIO u)) (rdSh s (Reg.UNIT_TX_INTERP_PRE u)) % 65536 ∧
        ∀ f : Fld, f.cls = .H → (txGroup u).ranges.any (fun r => decide (r.1 ≤ f.key) && decide (f.key < r.2)) = true → rd t f = rdSh s f) ∧
      (txPairFails s u ≠ [] → Gives (.txCommit u) s fun t => rd t (Reg.UNIT_TX_STATUS_STOPPED u) = 1 ∧ ∀ f : Fld, f.cls = .H → rd t f = rd s f)) ∧
    Gives .cfrPulseReady s (fun t => t.air = { s.air with pulse := true } ∧ Frame s t [] [.air]) ∧
    (unitEnabled s u = true → Gives (.shadowReady u) s fun t =>
      rd t (Reg.UNIT_DPD_STATUS_SHD_PEND u) = 1 ∧ (t.unit u).tx = { (s.unit u).tx with checked := false } ∧
      Frame s t [Reg.UNIT_DPD_STATUS_SHD_PEND u] [.units]) ∧
    (unitEnabled s u = false → exec (.shadowReady u) s = .next s) ∧
    (on s (Reg.UNIT_DPD_STATUS_SHD_PEND u) = true → (s.unit u).tx.checked = false →
      (moultCheck s u = 0 → Gives (.dpdChecksDone u) s fun t => (t.unit u).tx = { (s.unit u).tx with checked := true } ∧ Frame s t [] [.units]) ∧
      (moultCheck s u ≠ 0 → Gives (.dpdChecksDone u) s fun t => rd t (Reg.UNIT_DPD_STATUS_SHD_PEND u) = 0 ∧
        rd t (Reg.UNIT_DPD_STATUS_MOULT_FAIL u) = 1 ∧ rd t (Reg.UNIT_DPD_STATUS_FAIL_CODE u) = moultCheck s u ∧
        (moultCheck s u ≠ 4 → Room s → Queued s t 0x2011 0) ∧ (t.unit u).tx = { (s.unit u).tx with checked := false })) ∧
    (on s (Reg.UNIT_DPD_STATUS_SHD_PEND u) = false ∨ (s.unit u).tx.checked = true → exec (.dpdChecksDone u) s = .next s) ∧
    (∀ v fw, unitEnabled s u = true → 972 < rd s (Reg.UNIT_DPD_TBL_ADDR_WORD u) →
      exec (.dpdTblDataAccess u (some v) fw) s = exec (.dpdTblDataAccess u none fw) s) ∧
    (∀ w fw, unitEnabled s u = false → exec (.dpdTblDataAccess u w fw) s = .next s) ∧
    Within (.dpdChecksDone u) s [.silent, .events, .units]

/-- UNIT_DPD_TBL_DATA (R98), with TBL_ADDR at a word of the table: an access takes the word that SET and WORD select and, under AUTO_INC, advances WORD by 1, wrapping
after 972. The active table takes no write. The shadow table takes the host's while ADAPT_EN is 0, and the firmware's, and clears SHD_PEND; a host write while ADAPT_EN is 1 is not
made and recorded. -/
def Obligations.TableDataAccess : Prop :=
  ∀ (s : State) (u : Fin 128) (v : Word) (fw : Bool),
    let w := rd s (Reg.UNIT_DPD_TBL_ADDR_WORD u)
    let next := if on s (Reg.UNIT_DPD_TBL_ADDR_AUTO_INC u) = true then (if w = 972 then 0 else w + 1) else w
    unitEnabled s u = true → w ≤ 972 →
      Gives (.dpdTblDataAccess u none fw) s (fun t => rd t (Reg.UNIT_DPD_TBL_ADDR_WORD u) = next ∧ Frame s t [Reg.UNIT_DPD_TBL_ADDR_WORD u] []) ∧
      (on s (Reg.UNIT_DPD_TBL_ADDR_SET u) = false → fw = true ∨ on s (Reg.UNIT_DPD_CTRL_ADAPT_EN u) = false →
        Gives (.dpdTblDataAccess u (some v) fw) s fun t => rd t (Reg.UNIT_DPD_TBL_ADDR_WORD u) = next ∧ rd t (Reg.UNIT_DPD_STATUS_SHD_PEND u) = 0 ∧
          tblWord (t.unit u).tx.shd w = v.toNat ∧ (∀ k, k ≠ w → tblWord (t.unit u).tx.shd k = tblWord (s.unit u).tx.shd k) ∧
          (t.unit u).tx.actv = (s.unit u).tx.actv ∧ Frame s t [Reg.UNIT_DPD_TBL_ADDR_WORD u, Reg.UNIT_DPD_STATUS_SHD_PEND u] [.units]) ∧
      (on s (Reg.UNIT_DPD_TBL_ADDR_SET u) = true → Gives (.dpdTblDataAccess u (some v) fw) s fun t =>
        rd t (Reg.UNIT_DPD_TBL_ADDR_WORD u) = next ∧ Frame s t [Reg.UNIT_DPD_TBL_ADDR_WORD u] []) ∧
      (on s (Reg.UNIT_DPD_TBL_ADDR_SET u) = false → on s (Reg.UNIT_DPD_CTRL_ADAPT_EN u) = true →
        Gives (.dpdTblDataAccess u (some v) false) s fun t => rd t (Reg.UNIT_DPD_TBL_ADDR_WORD u) = next ∧ rd t Reg.CFG_STATUS_CFG_IGNORED = 1 ∧
          (rd s Reg.CFG_STATUS_CFG_IGNORED = 0 → rd s Reg.CFG_STATUS_CFG_PAIR_ERR = 0 → rd t Reg.CFG_ERR_ADDR_ADDR = (Reg.UNIT_DPD_TBL_DATA_DATA u).off ∧
            rd t Reg.CFG_STATUS_ERR_KIND = 0) ∧
          (rd s Reg.CFG_STATUS_CFG_IGNORED ≠ 0 ∨ rd s Reg.CFG_STATUS_CFG_PAIR_ERR ≠ 0 → rd t Reg.CFG_STATUS_ERR_OVF = 1 ∧ rd t Reg.CFG_ERR_ADDR_ADDR = rd s Reg.CFG_ERR_ADDR_ADDR) ∧
          (Room s → Queued s t 0x1001 (Reg.UNIT_DPD_TBL_DATA_DATA u).off) ∧
          Frame s t ([Reg.UNIT_DPD_TBL_ADDR_WORD u, Reg.CFG_STATUS_CFG_IGNORED, Reg.CFG_STATUS_ERR_OVF, Reg.CFG_STATUS_ERR_KIND,
            Reg.CFG_ERR_ADDR_ADDR] ++ eventRegs) [.events])

/-- Adaptation and training (R102, R103, R106, R300): the period requests captures of a transmitting unit whose adaptation is not stopped; each capture
counts down to the fit, an over-range one is discarded and counted; a good fit goes to the shadow as SHADOW_READY does, and one of a stopped region nowhere.
A training step that converges goes on to the next backoff, the last one ends the training; a failed one falls back to the backoff that had converged. -/
def Obligations.AdaptationAndTraining : Prop :=
  ∀ (s : State) (u : Fin 128),
    (unitEnabled s u = true → adaptStopped s u = false → (s.unit u).tx.txNow = true → (s.unit u).tx.adapt = .idle → Gives (.adaptPeriod u) s fun t =>
      (t.unit u).tx.adapt = .capturing (atLeast1 (rd s (Reg.REGION_ADAPT_CAPS (u / 16)))) ∧
      (t.cluster (u / 8)).orxReq = (s.cluster (u / 8)).orxReq ++ [u.val] ∧ Frame s t [] [.units, .clusters]) ∧
    (adaptStopped s u = true ∨ (s.unit u).tx.txNow = false ∨ (s.unit u).tx.adapt ≠ .idle → exec (.adaptPeriod u) s = .next s) ∧
    (∀ n, rd s (Reg.CAP_CH_STATUS_STATE 15) = 0 → (s.unit u).tx.adapt = .capturing n →
      Gives (.adaptCaptureDone u true) s (fun t =>
        rd t (orxOvldFld (u / 8)) = min (rd s (orxOvldFld (u / 8)) + 1) (2 ^ (orxOvldFld (u / 8)).width - 1) ∧
        Frame s t (orxOvldFld (u / 8) :: eventRegs) [.events]) ∧
      (1 < n → Gives (.adaptCaptureDone u false) s fun t => (t.unit u).tx.adapt = .capturing (n - 1) ∧ Frame s t [] [.units]) ∧
      (n ≤ 1 → Gives (.adaptCaptureDone u false) s fun t => (t.unit u).tx.adapt = .fitting ∧
        (t.cluster (u / 8)).orxReq = (s.cluster (u / 8)).orxReq.filter (· != u.val) ∧ Frame s t [] [.units, .clusters])) ∧
    (∀ ovr, rd s (Reg.CAP_CH_STATUS_STATE 15) ≠ 0 → exec (.adaptCaptureDone u ovr) s = .next s) ∧
    (∀ (nmse : BitVec 16) (table : List Word), (s.unit u).tx.adapt = .fitting →
      (adaptStopped s u = true → Gives (.adaptFitDone u nmse table) s fun t =>
        (t.unit u).tx.adapt = .idle ∧ (t.unit u).tx.shd = (s.unit u).tx.shd ∧ Frame s t [] [.units]) ∧
      (adaptStopped s u = false → fitGood s u nmse.toInt = true → Gives (.adaptFitDone u nmse table) s fun t =>
        (t.unit u).tx.adapt = .idle ∧ rd t (Reg.UNIT_DPD_STATUS_SHD_PEND u) = 1 ∧ (t.unit u).tx.checked = false ∧
        Frame s t [Reg.UNIT_DPD_STATUS_SHD_PEND u, Reg.REGION_ADAPT_STATUS_FIT_CNT (u / 16)] [.units]) ∧
      (adaptStopped s u = false → fitGood s u nmse.toInt = false → Gives (.adaptFitDone u nmse table) s fun t =>
        (t.unit u).tx.adapt = .idle ∧ (t.unit u).tx.shd = (s.unit u).tx.shd ∧
        rd t (Reg.REGION_ADAPT_STATUS_FIT_CNT (u / 16)) = min (rd s (Reg.REGION_ADAPT_STATUS_FIT_CNT (u / 16)) + 1) 65535 ∧
        Frame s t [Reg.REGION_ADAPT_STATUS_FIT_CNT (u / 16)] [.units])) ∧
    (∀ (nmse : BitVec 16) (table : List Word), (s.unit u).tx.adapt ≠ .fitting → exec (.adaptFitDone u nmse table) s = .next s) ∧
    (∀ conv, (s.unit u).tx.train = none → exec (.dpdTrainStepDone u conv) s = .next s) ∧
    (∀ x, (s.unit u).tx.train = some x →
      (x.step < 5 → Gives (.dpdTrainStepDone u true) s fun t =>
        (t.unit u).tx.train = some { step := x.step + 1, cycles := 0, conv := some (trainCode x.step) } ∧ Frame s t [] [.units]) ∧
      (5 ≤ x.step → Gives (.dpdTrainStepDone u true) s fun t => (t.unit u).tx.train = none ∧ rd t (Reg.UNIT_DPD_STATUS_TRAIN_BACKOFF u) = 0) ∧
      (∀ b < 256, x.conv = some b → Gives (.dpdTrainStepDone u false) s fun t => (t.unit u).tx.train = none ∧
        rd t (Reg.UNIT_DPD_STATUS_TRAIN_BACKOFF u) = b ∧ (Room s → Queued s t 0x2012 0) ∧
        Frame s t (Reg.UNIT_DPD_STATUS_TRAIN_BACKOFF u :: eventRegs) [.units, .events]) ∧
      (x.conv = none → Gives (.dpdTrainStepDone u false) s fun t => (t.unit u).tx.train = none ∧
        rd t (Reg.UNIT_DPD_STATUS_TRAIN_FAIL u) = 1 ∧ rd t (Reg.UNIT_DPD_STATUS_ACT_VALID u) = 0)) ∧
    Within (.dpdTrainStepDone u true) s [.events, .units, .cal] ∧ Within (.dpdTrainStepDone u false) s [.events, .units, .cal]

/-! ### Synthesisers and air timing (chapter 5) -/

/-- The SYNC ball (R79, R80): an edge schedules a realignment, and without one a realignment does nothing; outside SERVE every unit not held in reset
with SYNC_EN shows SYNC_SEEN, and where its receive phase was away from the target, the slip too. -/
def Obligations.SyncEdgesAndRealignment : Prop :=
  ∀ (s : State) (rx tx : BitVec 128),
    Gives .syncEdge s (fun t => t.air = { s.air with syncEdge := true } ∧ Frame s t [] [.air]) ∧
    (s.air.syncEdge = false → exec (.syncRealign rx tx) s = .next s) ∧
    (s.air.syncEdge = true → modeOf s ≠ mServe →
      (Gives (.syncRealign rx tx) s fun t => t.air = { s.air with syncEdge := false } ∧ ∀ u ∈ freeUnits s, on s (Reg.UNIT_RX_CTRL_SYNC_EN u) = true →
        rd t (Reg.UNIT_RX_STATUS_SYNC_SEEN u) = 1 ∧ (bit rx.toNat u = true → rd t (Reg.UNIT_RX_STATUS_SYNC_SLIP u) = 1)) ∧
      Gives (.syncRealign 0 0) s fun t => Frame s t ((List.range 128).map Reg.UNIT_RX_STATUS_SYNC_SEEN) [.air]) ∧
    Within (.syncRealign rx tx) s [.events, .air, .units]

/-- Boundaries and wakes (R127, R129, R343): where no boundary is released nothing happens; otherwise the next symbol becomes the current one, or the symbol of the balance
where that lies further on. A pre-wake starts once for a path or region that is wanted; its end opens the path, if the region's island is on, or the region, unless
FAILED. -/
def Obligations.BoundariesAndWakes : Prop :=
  ∀ (s : State) (ms : List SymMeas) (k : Fin 3) (i : Fin 128),
    (releasing s = false → exec (.symbolBoundary ms) s = .next s) ∧
    (releasing s = true → max (s.air.sym + 1) (symNow s) % 14 ≠ 0 → Gives (.symbolBoundary ms) s fun t => t.air.sym = max (s.air.sym + 1) (symNow s)) ∧
    (wakeWanted s k i = true → (k.val, i.val) ∉ s.power.waking → Gives (.preWake k i) s fun t =>
      t.power = { s.power with waking := s.power.waking ++ [(k.val, i.val)] } ∧ Frame s t [] [.power]) ∧
    (wakeWanted s k i = false ∨ (k.val, i.val) ∈ s.power.waking → exec (.preWake k i) s = .next s) ∧
    ((k.val, i.val) ∉ s.power.waking → exec (.pathWakeReady k i) s = .next s) ∧
    ((1, i.val) ∈ s.power.waking → domState s (12 + i / 16) = domOn → Gives (.pathWakeReady 1 i) s fun t =>
      rd t (Reg.UNIT_TX_STATUS_GATED i) = 0 ∧ (t.unit i).idleTx = 0 ∧ (1, i.val) ∉ t.power.waking ∧
      Frame s t [Reg.UNIT_TX_STATUS_GATED i] [.power, .units]) ∧
    ((0, i.val) ∈ s.power.waking → domState s (12 + i / 16) = domOn → on s (Reg.UNIT_RX_STATUS_GATED i) = true → Gives (.pathWakeReady 0 i) s fun t =>
      rd t (Reg.UNIT_RX_STATUS_GATED i) = 0 ∧ (t.unit i).idleRx = 0 ∧ 3 ≤ (t.unit i).rx.tag ∧ (0, i.val) ∉ t.power.waking ∧
      Frame s t [Reg.UNIT_RX_STATUS_GATED i] [.power, .units]) ∧
    ((2, i.val) ∈ s.power.waking → domFailed s (12 + i) = false → Gives (.pathWakeReady 2 i) s fun t =>
      domState t (12 + i) = domOn ∧ (2, i.val) ∉ t.power.waking ∧ Frame s t [Reg.PWR_DOM_STATE (12 + i)] [.power]) ∧
    ((2, i.val) ∈ s.power.waking → domFailed s (12 + i) = true → Gives (.pathWakeReady 2 i) s fun t =>
      (2, i.val) ∉ t.power.waking ∧ Frame s t [] [.power]) ∧
    Within (.symbolBoundary ms) s (allBut [.fuse, .rst, .absent, .pool, .dmas, .flash, .sec])

/-- Synthesisers (R115, R118, Table 5.2): COMMIT is ignored while boundaries are released, and a failing pair puts nothing into force; PRECAL is refused with event
0x1020 unless the LO is OFF in IDLE or DIAG; the stored-entry limit turns LOCKING into CAL; the last limit gives FAILED, and the loss of lock shows UNLOCK,
mutes by cause 3 and searches again. -/
def Obligations.SynthesiserStates : Prop :=
  ∀ (s : State) (c : Fin 16) (f : Word) (hop : BitVec 13),
    (clusterEnabled s c = false ∨ releasing s = true → exec (.clusterCommit c) s = .next s) ∧
    (clusterEnabled s c = true → releasing s = false → clusterRunOk s c = true → (s.cluster c).stopped = true →
      (clusterPairFails s c = [] → loState s c = loOff → loMode (modeOf s) = false → Gives (.clusterCommit c) s fun t => (t.cluster c).stopped = false ∧
        ∀ f : Fld, f.cls = .H → (clusterGroup c).ranges.any (fun r => decide (r.1 ≤ f.key) && decide (f.key < r.2)) = true → rd t f = rdSh s f) ∧
      (clusterPairFails s c ≠ [] → Gives (.clusterCommit c) s fun t => (t.cluster c).stopped = true ∧ ∀ f : Fld, f.cls = .H → rd t f = rd s f)) ∧
    (clusterEnabled s c = true → loState s c = loOff → modeOf s = mIdle ∨ modeOf s = mDiag → domState s (12 + c / 2) = domOn →
      Gives (.loPrecal c f) s fun t => loState t c = loCal ∧ (t.cluster c).precal = some f.toNat ∧
        Frame s t [Reg.CLUSTER_LO_STATUS_STATE c, Reg.CLUSTER_LO_STATUS_LOCK c] [.clusters]) ∧
    (clusterEnabled s c = true → loState s c ≠ loOff ∨ (modeOf s ≠ mIdle ∧ modeOf s ≠ mDiag) → Room s →
      Gives (.loPrecal c f) s fun t => Queued s t 0x1020 0 ∧ Frame s t eventRegs [.events]) ∧
    (loState s c = loLocking → Gives (.loLock c hop) s fun t => loState t c = loLocked ∧ rd t (Reg.CLUSTER_LO_STATUS_LOCK c) = 1 ∧
      rd t (Reg.CLUSTER_LO_STATUS_STORED_HIT c) = 1 ∧ rd t (Reg.CLUSTER_LO_STATUS_HOP_TIME c) = hop.toNat) ∧
    (loState s c = loCal → (s.cluster c).precal = none → Gives (.loLock c hop) s fun t => loState t c = loLocked ∧
      rd t (Reg.CLUSTER_LO_STATUS_LOCK c) = 1 ∧ rd t (Reg.CLUSTER_LO_STATUS_STORED_HIT c) = 0 ∧ t.free = s.free + 3) ∧
    (loState s c = loLocking → Gives (.loStoredTimeout c) s fun t => loState t c = loCal ∧ (t.cluster c).entry = none ∧
      Frame s t [Reg.CLUSTER_LO_STATUS_STATE c, Reg.CLUSTER_LO_STATUS_LOCK c] [.clusters]) ∧
    (loState s c ≠ loLocking → exec (.loStoredTimeout c) s = .next s) ∧
    (loState s c = loLocking ∨ loState s c = loCal → Gives (.loFail c) s fun t => loState t c = loFailed ∧
      rd t (Reg.CLUSTER_LO_STATUS_LOCK c) = 0 ∧ (t.cluster c).precal = none) ∧
    (loState s c ≠ loLocking → loState s c ≠ loCal → exec (.loLock c hop) s = .next s ∧ exec (.loFail c) s = .next s) ∧
    (loState s c = loLocked → Gives (.loUnlock c) s fun t => loState t c = loLocking ∧ rd t (Reg.CLUSTER_LO_STATUS_LOCK c) = 0 ∧
      rd t (Reg.CLUSTER_LO_STATUS_UNLOCK c) = 1 ∧
      (loMode (modeOf s) = true → ∀ u ∈ unitsOf c, causeHeld t u 3 = true ∧ (t.unit u).tx.txNow = false ∧ (t.unit u).tx.att = 63)) ∧
    (loState s c ≠ loLocked → exec (.loUnlock c) s = .next s) ∧
    Within (.loLock c hop) s [.units, .clusters, .power, .free] ∧ Within (.loFail c) s [.events, .units, .clusters, .power] ∧ Within (.loUnlock c) s [.events, .units] ∧ Within (.clusterCommit c) s [.silent, .events, .units, .clusters]

/-- RFFE masters (R130): a write frame goes out at once on an idle bus while no boundaries are released and waits for the slot otherwise; a read is refused with event
0x1021 while boundaries are released, a register-0 read always; a frame's end starts the next and shows BUSY while any is left; an entry's frames are
released on each bus that it names. -/
def Obligations.RffeMasters : Prop :=
  ∀ (s : State) (c : Fin 16) (w : Word) (d : Byte) (id : Nat),
    let v := w.toNat
    let fr : RffeFrame := { ftype := bits v 26 2, sid := bits v 28 4, addr := bits v 8 16, data := bits v 0 8, read := v.testBit 25 }
    let cmd := [Reg.CLUSTER_RFFE_CMD_DATA c, Reg.CLUSTER_RFFE_CMD_ADDR c, Reg.CLUSTER_RFFE_CMD_READ c, Reg.CLUSTER_RFFE_CMD_TYPE c, Reg.CLUSTER_RFFE_CMD_SID c]
    (clusterEnabled s c = false → exec (.rffeCmd c w) s = .next s) ∧
    (clusterEnabled s c = true →
      (fr.read = true → releasing s = true ∨ fr.ftype = 1 → Gives (.rffeCmd c w) s fun t => rd t (Reg.CLUSTER_RFFE_CTRL_REFUSED c) = 1 ∧
        (Room s → Queued s t 0x1021 0) ∧ Frame s t (Reg.CLUSTER_RFFE_CTRL_REFUSED c :: cmd ++ eventRegs) [.events]) ∧
      (fr.read = false → releasing s = true → Gives (.rffeCmd c w) s fun t => (t.cluster c).cmdQ = (s.cluster c).cmdQ ++ [fr] ∧ Frame s t cmd [.clusters]) ∧
      (fr.read = false ∨ fr.ftype ≠ 1 → releasing s = false → (s.cluster c).bus = [] → Gives (.rffeCmd c w) s fun t => (t.cluster c).bus = [fr] ∧
        rd t (Reg.CLUSTER_RFFE_CTRL_BUSY c) = 1 ∧ Frame s t (Reg.CLUSTER_RFFE_CTRL_BUSY c :: cmd) [.clusters])) ∧
    ((s.cluster c).bus = [] → exec (.rffeFrameDone c d) s = .next s) ∧
    (∀ f rest, (s.cluster c).bus = f :: rest → Gives (.rffeFrameDone c d) s fun t => (t.cluster c).bus = rest ∧
      rd t (Reg.CLUSTER_RFFE_CTRL_BUSY c) = b2n (!rest.isEmpty) ∧ rd t (Reg.CLUSTER_RFFE_CMD_DATA c) = (if f.read then d.toNat else rd s (Reg.CLUSTER_RFFE_CMD_DATA c)) ∧
      Frame s t [Reg.CLUSTER_RFFE_CTRL_BUSY c, Reg.CLUSTER_RFFE_CMD_DATA c] [.clusters]) ∧
    ((∀ e ∈ s.air.queue ++ s.air.rffeOld, ¬(e.id = id ∧ e.kind = 7)) → exec (.rffeRelease id) s = .next s) ∧
    (∀ e, (s.air.queue ++ s.air.rffeOld).find? (fun e => e.id == id && e.kind == 7) = some e → e.clusters = 2 ^ c.val → clusterEnabled s c = true →
      0 < bits e.param 0 8 → (s.cluster c).bus = [] → Gives (.rffeRelease id) s fun t =>
        (t.cluster c).bus = (List.range (bits e.param 0 8)).map (fun k => listFrame s c (bits e.param 8 8 + k)) ∧
        rd t (Reg.CLUSTER_RFFE_CTRL_BUSY c) = 1 ∧ Frame s t [Reg.CLUSTER_RFFE_CTRL_BUSY c] [.clusters, .air])

/-! ### Beamforming and weights (chapter 6) -/

/-- The TILE commit, weight-set checks and the solver (R147, R153 to R157): COMMIT is ignored while boundaries are released and in BOOT, moves every shadow value into
use where the pair tests pass, and none otherwise. The end of a set's checks leaves it for the swap or shows the first failed check. A sounding entry starts its job, or ends it with
its cause; the solver's end frees it and delivers the set. An expired correction clears RECIP_VALID of its tile. -/
def Obligations.TileCommitsAndSolver : Prop :=
  ∀ (s : State) (w : Fin 16) (u : Fin 128) (id : Nat) (ws : List Word) (ill : BitVec 8),
    (releasing s = true ∨ modeOf s = mBoot → exec .tileCommit s = .next s) ∧
    (releasing s = false → modeOf s ≠ mBoot → shadowChanged s tileGroup = true →
      (tilePairFails s = [] → s.chorus.psiPend = 0 → Gives .tileCommit s fun t =>
        ∀ f : Fld, f.cls = .H → tileGroup.ranges.any (fun r => decide (r.1 ≤ f.key) && decide (f.key < r.2)) = true → rd t f = rdSh s f) ∧
      (tilePairFails s ≠ [] → Gives .tileCommit s fun t => ∀ f : Fld, f.cls = .H → rd t f = rd s f)) ∧
    (wsetPending s w = true → (s.wset w).checked = false → (∀ r ∈ s.pool.wreply, r.1 ≠ w) →
      (wsetCheck s w = 0 → Gives (.wsetChecksDone w) s fun t => (t.wset w) = { s.wset w with checked := true } ∧ Frame s t [] [.beam, .pool]) ∧
      (wsetCheck s w ≠ 0 → Gives (.wsetChecksDone w) s fun t => ∀ k ∈ enabledTiles s,
        rd t (Reg.WSET_STATUS_FAIL k w) = 1 ∧ rd t (Reg.WSET_STATUS_FAIL_CODE k w) = wsetCheck s w ∧ rd t (Reg.WSET_STATUS_SHD_PEND k w) = 0)) ∧
    (wsetPending s w = false ∨ (s.wset w).checked = true → exec (.wsetChecksDone w) s = .next s) ∧
    ((∀ e ∈ s.air.queue ++ s.air.past, ¬(e.id = id ∧ e.kind = 3)) → exec (.solveJobStart id) s = .next s) ∧
    (∀ e, (s.air.queue ++ s.air.past).find? (fun e => e.id == id && e.kind == 3) = some e →
      (solveCause s e = 0 → Gives (.solveJobStart id) s fun t =>
        (∃ tag, t.beam = { s.beam with job := some (bits e.param 28 2, bits e.param 24 4, tag) }) ∧
        (∀ k ∈ enabledTiles s, rd t (Reg.SOLVER_STATUS_BUSY k) = 1) ∧ Frame s t ((enabledTiles s).map Reg.SOLVER_STATUS_BUSY) [.beam]) ∧
      (solveCause s e ≠ 0 → Gives (.solveJobStart id) s fun t => t.beam = s.beam ∧ (Room s → Queued s t 0x2036 0) ∧
        ∀ k ∈ enabledTiles s, rd t (Reg.SOLVER_STATUS_RESULT k) = solveCause s e ∧ rd t (Reg.SOLVER_STATUS_LAST_JOB k) = bits e.param 28 2)) ∧
    (s.beam.job = none → exec (.solveDone ws ill) s = .next s) ∧
    (∀ job tag, ∀ k < 16, s.beam.job = some (job, k, tag) → wsetPending s k = false → Gives (.solveDone ws ill) s fun t => t.beam.job = none ∧
      (t.wset k).checked = false ∧ beAt (t.wset k).shd.bytes 12 4 = tag % 2 ^ 32 ∧
      ∀ x ∈ enabledTiles s, rd t (Reg.SOLVER_STATUS_BUSY x) = 0 ∧ rd t (Reg.WSET_STATUS_SHD_PEND x k) = 1 ∧
        rd t (Reg.SOLVER_STATUS_RESULT x) = if tagBefore tag (tagOf (symNow s)) then 4 else 0) ∧
    (unitWhole s u = true → Gives (.corrAgeExpired u) s fun t => rd t (Reg.SOLVER_STATUS_RECIP_VALID (u / 32)) = 0 ∧
      (recipAll s = true → Room s → Queued s t 0x2037 0) ∧ Frame s t (Reg.SOLVER_STATUS_RECIP_VALID (u / 32) :: eventRegs) [.events]) ∧
    (unitWhole s u = false → exec (.corrAgeExpired u) s = .next s) ∧
    Within .tileCommit s [.silent, .events, .air, .beam, .chorus, .shadow] ∧ Within (.wsetChecksDone w) s [.events, .beam, .link, .pool, .sec] ∧ Within (.solveJobStart id) s [.events, .beam] ∧ Within (.solveDone ws ill) s [.events, .beam]

/-- WEIGHTS (R147, R255): the first fragment opens a set, further ones go on where the last ended, and the last makes the set's checks start; a set whose
shadow waits already is refused with 0x08 and FAIL_CODE 0x8, and so is a fragment out of order. Under supply stage S5 a fragment is answered 0x05 (R359). -/
def Obligations.WeightsFragments : Prop :=
  ∀ (s : State) (p : Packet),
    let b := body p
    let w := b.getD 0 0
    Taken s p → padsFor s 9 1 = true → p.auth = none → 9 ≤ b.length → b.length ≤ 4040 → w < 16 → zeros ((b.drop 1).take 3) = true →
      (5 ≤ stageOf s → Gives (.weights p) s fun t => Answered s t p 0x13 0x05 [] ∧ t.beam = s.beam ∧ t.pool.wfrag = s.pool.wfrag) ∧
      (stageOf s < 5 → ∀ got, (s.pool.wfrag = none ∧ bytesAt b 4 4 = 0 ∧ got = []) ∨ (s.pool.wfrag = some (w, got) ∧ bytesAt b 4 4 = got.length) →
        (p.more = true → Gives (.weights p) s fun t => t.pool.wfrag = some (w, got ++ b.drop 8) ∧ t.beam = s.beam ∧
          (p.ack = true → Answered s t p 0x13 0 [])) ∧
        (p.more = false → wsetPending s w = false → Gives (.weights p) s fun t => t.pool.wfrag = none ∧ t.link.out = s.link.out ∧
          (t.wset w).shd = wsetCopyOf (got ++ b.drop 8) ∧ (t.wset w).checked = false ∧ (t.wset w).actv = (s.wset w).actv ∧
          ∀ k ∈ enabledTiles s, rd t (Reg.WSET_STATUS_SHD_PEND k w) = 1) ∧
        (p.more = false → wsetPending s w = true → Gives (.weights p) s fun t => Answered s t p 0x13 0x08 [] ∧ t.beam = s.beam ∧
          ∀ k ∈ enabledTiles s, rd t (Reg.WSET_STATUS_FAIL k w) = 1 ∧ rd t (Reg.WSET_STATUS_FAIL_CODE k w) = 8)) ∧
      (stageOf s < 5 → s.pool.wfrag = none → bytesAt b 4 4 ≠ 0 → Gives (.weights p) s fun t => Answered s t p 0x13 0x08 [] ∧ t.beam = s.beam ∧ t.pool.wfrag = none) ∧
      Within (.weights p) s [.events, .beam, .link, .pool, .sec]

/-! ### Packets (chapters 1, 2, 11 and 14) -/

/-- How a port takes a packet (R243 to R247, R250, R269): none on a port that is not UP or for another device; a bad CRC is counted, a gap in SEQ too, and a
header error; a packet without a pad is answered 0x07, one of an opcode without a row 0x01. -/
def Obligations.PacketReception : Prop :=
  ∀ (s : State) (p : Packet) (op : Byte) (q : Fin 4),
    (∀ c ∈ [Instr.setMode p, .reset p, .sched p, .weights p, .write p, .imageWrite p, .imageCommit p, .imageAbort p, .imageStatus p, .unknownOpcode op p],
      (portUp s p.port.val = false ∨ consumed s p = false → exec c s = .next s) ∧
      (portUp s p.port.val = true → consumed s p = true → p.trailer = false → Gives c s fun t =>
        rd t (Reg.POOL_ERR_CRC_ERR p.port.val) = min (rd s (Reg.POOL_ERR_CRC_ERR p.port.val) + 1) (2 ^ (Reg.POOL_ERR_CRC_ERR p.port.val).width - 1) ∧
        Frame s t [Reg.POOL_ERR_CRC_ERR p.port.val] [])) ∧
    (Arrives s p → p.auth = none → Gives (.unknownOpcode op p) s fun t => Answered s t p op.toNat 0x01 [] ∧ Frame s t [] [.pool, .link]) ∧
    (Taken s p → padsFor s 10 1 = false → Gives (.unknownOpcode op p) s fun t => Answered s t p op.toNat 0x07 [] ∧
      rd t (Reg.POOL_USE_DROP 10) = min (rd s (Reg.POOL_USE_DROP 10) + 1) (2 ^ (Reg.POOL_USE_DROP 10).width - 1) ∧
      Frame s t [Reg.POOL_USE_DROP 10] [.pool, .link]) ∧
    (portUp s p.port.val = true → p.bcast = false → consumed s p = true → p.trailer = true → s.pool.seqIn.get p.port.val 0 ≠ 0 →
      p.seq.toNat ≠ s.pool.seqIn.get p.port.val 0 % 65536 → Gives (.unknownOpcode op p) s fun t =>
        rd t (Reg.POOL_ERR_SEQ_GAP p.port.val) = min (rd s (Reg.POOL_ERR_SEQ_GAP p.port.val) + 1) (2 ^ (Reg.POOL_ERR_SEQ_GAP p.port.val).width - 1) ∧
        t.pool.seqIn.get p.port.val 0 = p.seq.toNat + 1) ∧
    (portUp s q = true → Gives (.hdrErr q) s fun t =>
      rd t (Reg.POOL_ERR_HDR_ERR q) = min (rd s (Reg.POOL_ERR_HDR_ERR q) + 1) (2 ^ (Reg.POOL_ERR_HDR_ERR q).width - 1) ∧ Frame s t [Reg.POOL_ERR_HDR_ERR q] []) ∧
    (portUp s q = false → exec (.hdrErr q) s = .next s) ∧
    Within (.unknownOpcode op p) s [.events, .link, .pool, .sec]

/-- SET_MODE (R24, R346; Table 1.5): an accepted request from IDLE begins its transition, or its sleep vote, and is answered OK with MODE_STATUS; one that
comes during a transition, is not listed, or lacks the authentication that it needs is refused, and the mode stays. -/
def Obligations.SetModeDecision : Prop :=
  ∀ (s : State) (p : Packet),
    let b := body p
    let m := b.getD 0 0
    Arrives s p → p.auth = none →
      (b.length ≠ 8 → modeNeedsAuth s m = false → Gives (.setMode p) s fun t => Answered s t p 0x71 0x02 (modeBytes t) ∧ Frame s t [] [.pool, .link]) ∧
      (b.length = 8 → zeros (b.drop 1) = true → m < 8 → modeNeedsAuth s m = false →
        (modeBusy s = false → modeOf s = mIdle → m = mServe → Gives (.setMode p) s fun t =>
          modeOf t = mIdle ∧ modeBusy t = true ∧ modeTarget t = m ∧ Answered s t p 0x71 0 (modeBytes t)) ∧
        (modeBusy s = false → modeOf s = mIdle → m = mSentinel ∨ m = mBrumate → Gives (.setMode p) s fun t =>
          modeOf t = mIdle ∧ modeBusy t = true ∧ modeTarget t = m ∧ voting t = true ∧ rd t Reg.PWR_STATUS_SLEEP_PEND = 1 ∧ t.power.target = m ∧
          Answered s t p 0x71 0 (modeBytes t)) ∧
        (modeBusy s = false → modeOf s = mServe → m = mIdle → Gives (.setMode p) s fun t =>
          modeOf t = mServe ∧ modeBusy t = true ∧ modeTarget t = m ∧ Answered s t p 0x71 0 (modeBytes t)) ∧
        (modeBusy s = true ∨ modeListed (modeOf s) m = false → Gives (.setMode p) s fun t => Answered s t p 0x71 0x05 (modeBytes t) ∧
          (Room s → ∃ e ∈ t.events.entries, e.code = 0x1003 ∧
            e.arg = (modeOf s + 16 * m + 256 + 4096 * (if modeBusy s then 2 else 1)) % 2 ^ 32) ∧ Frame s t eventRegs [.pool, .link, .events])) ∧
      (modeNeedsAuth s m = true → Gives (.setMode p) s fun t => Answered s t p 0x71 0x06 (modeBytes t) ∧ modeOf t = modeOf s) ∧
      Within (.setMode p) s (allBut [.fuse, .rst, .absent, .dmas, .flash])

/-- RESET (R261, R263, R370 to R372): without an authentication block, or with one that fails, it is refused with 0x06 and counted; with one that holds, a reach above HOST_CAP is refused
with 0x05, and a reset of PACKAGE or SYSTEM reach acts once its response has left. -/
def Obligations.HostResetNeedsAuthentication : Prop :=
  ∀ (s : State) (p : Packet),
    let b := body p
    let reach := b.getD 0 0
    Arrives s p →
      (p.auth = none → Gives (.reset p) s fun t => Answered s t p 0x72 0x06 [] ∧ t.rst = s.rst ∧ t.sec = s.sec ∧
        rd t Reg.SEC_COUNT_AUTH_FAIL_CNT = min (rd s Reg.SEC_COUNT_AUTH_FAIL_CNT + 1) (2 ^ (Reg.SEC_COUNT_AUTH_FAIL_CNT).width - 1)) ∧
      (∀ a, p.auth = some a → authCause s 1 0x72 [] p a = none → b.length = 8 → b.getD 1 0 = 0 → zeros (b.drop 4) = true → bytesAt b 2 2 = 0 →
        3 ≤ reach → reach ≤ 4 →
        (hostCap s < reach → Gives (.reset p) s fun t => Answered s t p 0x72 0x05 [] ∧ t.rst = s.rst) ∧
        (reach ≤ hostCap s → s.rst.mtpPulse = false → Gives (.reset p) s fun t => packageHeld t = true ∧ modeOf t = mBoot ∧
          ∃ r ∈ t.rst.sources, r.src = 5 ∧ r.reach = reach)) ∧
      Within (.reset p) s (allBut [.fuse, .flash])

/-- SCHED (R124, R256): outside SERVE and DIAG every entry is refused with REJ_CAUSE 0x4, counted, and none joins the queue; an entry with no reason
against it joins the queue at its end, as the one next to act on what came before (R125). -/
def Obligations.ScheduleEntries : Prop :=
  ∀ (s : State) (p : Packet) (rs : List SchedRaw),
    let b := body p
    let n := b.length / 16
    Arrives s p → p.auth = none → b.length = 16 * n → 0 < n → n ≤ 252 → schedRaws n b = some rs → voting s = false →
      (modeOf s ≠ mServe → modeOf s ≠ mDiag → Gives (.sched p) s fun t => t.air = s.air ∧ rd t Reg.ESC_STATUS_REJ = 1 ∧ rd t Reg.ESC_STATUS_REJ_CAUSE = 4 ∧
        rd t Reg.ESC_COUNT_SCHED_REJ = min (rd s Reg.ESC_COUNT_SCHED_REJ + n) (2 ^ (Reg.ESC_COUNT_SCHED_REJ).width - 1) ∧
        Answered s t p 0x14 0x05 [0, 0, 0, 0, 4, 0, 0, 0]) ∧
      (∀ r, rs = [r] → rejCause s r = 0 → Gives (.sched p) s fun t => t.air.queue = s.air.queue ++ [schedEntryOf s r] ∧ t.air.nextId = s.air.nextId + 1 ∧
        rd t Reg.ESC_STATUS_REJ = rd s Reg.ESC_STATUS_REJ ∧ (p.ack = true → Answered s t p 0x14 0 [0, 1, 255, 255, 0, 0, 0, 0])) ∧
      Within (.sched p) s [.events, .air, .link, .pool, .sec, .power]

/-- WRITE and READ of the memory die (R257, R345, R403): a word of the host's area goes to its four bytes and no other, and reads back; a malformed
request is answered 0x02; a word that runs out of the die, or a register address that is not aligned (R5), 0x03; and one whose domain does not come up in its 20 µs 0x04, with the words before it done. -/
def Obligations.HostMemoryAccess : Prop :=
  ∀ (s : State) (p : Packet) (v : Word) (ce : BitVec 10),
    let b := body p
    let a := bytesAt b 0 8
    Arrives s p → p.auth = none → p.ack = true →
      (writeOk p = false → Gives (.write p) s fun t => Answered s t p 0x20 0x02 (doneBytes 0) ∧ Frame s t [] [.pool, .link]) ∧
      (readOk p = false → Gives (.read p none ce) s fun t => Answered s t p 0x21 0x02 [] ∧ ∀ x, memByte t x = memByte s x) ∧
      (writeOk p = true → winBase ≤ a → a % 4 ≠ 0 → voting s = false → Gives (.write p) s fun t => Answered s t p 0x20 0x03 (doneBytes 0) ∧ Frame s t [] [.pool, .link]) ∧
      (writeOk p = true → b.length = 12 → bytesAt b 8 4 = v.toNat → dieWritable a = true → domFailed s 2 = false →
        (a + 4 ≤ dieEnd → domState s 2 = domOn → Gives (.write p) s fun t => memWord t a = v.toNat ∧ (∀ x, (x < a ∨ a + 4 ≤ x) → memByte t x = memByte s x) ∧
          Answered s t p 0x20 0 (doneBytes 1) ∧ Frame s t [] [.pool, .link, .mem]) ∧
        (dieEnd < a + 4 → Gives (.write p) s fun t => Answered s t p 0x20 0x03 (doneBytes 0) ∧ Frame s t [] [.pool, .link]) ∧
        (a + 4 ≤ dieEnd → domState s 2 = domPowerDown → Gives (.accessWakeTimeout p true 0) s fun t =>
          Answered s t p 0x20 0x04 (doneBytes 0) ∧ Frame s t [] [.pool, .link])) ∧
      (readOk p = true → bytesAt b 8 2 = 1 → dieWritable a = true → domFailed s 2 = false →
        (a + 4 ≤ dieEnd → domState s 2 = domOn → Gives (.read p none ce) s fun t => Answered s t p 0x21 0 (beBytes 4 (memWord s a)) ∧
          rd t Reg.DMA_MEM_STATUS_CE_CNT = min (rd s Reg.DMA_MEM_STATUS_CE_CNT + ce.toNat) (2 ^ (Reg.DMA_MEM_STATUS_CE_CNT).width - 1) ∧
          Frame s t [Reg.DMA_MEM_STATUS_CE_CNT] [.pool, .link]) ∧
        (a + 4 ≤ dieEnd → domState s 2 = domPowerDown → Gives (.accessWakeTimeout p false 0) s fun t =>
          Answered s t p 0x21 0x04 [] ∧ Frame s t [] [.pool, .link]))

/-- Rings and events (R259, R311, R312): a POST goes after the last posted descriptor or is refused, with a status of its own for a ring outside the die; a
STATUS returns the positions; a fetch takes away the entries up to ACK_SEQ and returns the oldest left; a push sends the oldest entry not yet
sent and keeps it. -/
def Obligations.RingsAndEvents : Prop :=
  ∀ (s : State) (p : Packet) (ch : Byte),
    let b := body p
    let n := ch.toNat
    (Arrives s p → p.auth = none → p.ack = true → n < 16 → voting s = false →
      (b = List.replicate 6 0 → Gives (.ringStatus ch p) s fun t => Answered s t p 0x30 0 (ringStatus s n) ∧ Frame s t [] [.pool, .link]) ∧
      (b.length = 38 → zeros (b.take 6) = true →
        (ringOk (rd s) n = false → Gives (.ringPost ch p) s fun t => Answered s t p 0x30 0x03 [] ∧ Frame s t [] [.pool, .link]) ∧
        (ringOk (rd s) n = true → domState s 2 = domOn → domFailed s 2 = false →
          (bit (memWord s (ringAt s n (s.dma n).posted)) 31 = true → Gives (.ringPost ch p) s fun t => Answered s t p 0x30 0x05 [] ∧ Frame s t [] [.pool, .link]) ∧
          (bit (memWord s (ringAt s n (s.dma n).posted)) 31 = false → Gives (.ringPost ch p) s fun t =>
            (t.dma n).posted = ((s.dma n).posted + 1) % ringLen (rd s) n ∧
            (∀ j < 8, memWord t (ringAt s n (s.dma n).posted + 4 * j) = bytesAt (b.drop 6) (4 * j) 4) ∧
            (∀ x, (x < ringAt s n (s.dma n).posted ∨ ringAt s n (s.dma n).posted + 32 ≤ x) → memByte t x = memByte s x) ∧
            Answered s t p 0x30 0 [] ∧ Frame s t [] [.pool, .link, .mem, .dmas])))) ∧
    (Arrives s p → p.auth = none → b.length = 8 → zeros (b.drop 4) = true → b.getD 2 0 < 2 → Gives (.event p) s fun t =>
      (let es := if b.getD 2 0 = 1 then ackEvents (bytesAt b 0 2) s.events.entries else s.events.entries
       let out := es.take (if b.getD 3 0 = 0 then 252 else min (b.getD 3 0) 252)
       t.events = { s.events with entries := es, lostPending := false } ∧
       Answered s t p 0x40 0 ([b2n s.events.lostPending, out.length, 0, 0, 0, 0, 0, 0] ++ out.flatMap eventBytes)) ∧ Frame s t [] [.pool, .link, .events]) ∧
    (∀ e, s.events.entries.find? (fun e => !e.pushed) = some e → on s Reg.POOL_CTRL_EVT_PUSH = true → portUp s (activeUp s) = true →
      padsFor s 11 1 = true → packageHeld s = false → Gives .eventPush s fun t =>
        (∃ o, t.link.out = s.link.out ++ [o] ∧ o.op = 0x40 ∧ o.port = activeUp s ∧ o.payload = [b2n s.events.lostPending, 1, 0, 0, 0, 0, 0, 0] ++ eventBytes e) ∧
        t.events = { s.events with entries := markPushed s.events.entries, lostPending := false } ∧ Frame s t [] [.pool, .link, .events]) ∧
    (on s Reg.POOL_CTRL_EVT_PUSH = false ∨ (∀ e ∈ s.events.entries, e.pushed = true) → exec .eventPush s = .next s) ∧
    Within (.ringPost ch p) s (allBut [.fuse, .absent, .flash])

/-- Images (R262): in BOOT under BOOTSEL LINK a fragment at the next offset is added, ABORT discards what is there, STATUS reports it, and COMMIT makes the
verified image the start's, or answers 0x08 and changes nothing of the start. -/
def Obligations.ImageCommands : Prop :=
  ∀ (s : State) (p : Packet),
    let b := body p
    Arrives s p → p.auth = none → modeOf s = mBoot → bootSel s = 2 → voting s = false → zeros (b.take 3) = true →
      (7 < b.length → b.length ≤ 4039 → bytesAt b 3 4 = (imageGot s).length → imageSlot s = 2 → (imageGot s).length + (b.length - 7) ≤ 48 * 1048576 →
        Gives (.imageWrite p) s fun t => t.boot = { s.boot with asm := some (2, imageGot s ++ b.drop 7) } ∧
          Answered s t p 0x70 0 (beBytes 4 ((imageGot s).length + (b.length - 7)) ++ [2, 0, 0, 0]) ∧ Frame s t [] [.pool, .link, .boot]) ∧
      (7 < b.length → bytesAt b 3 4 ≠ (imageGot s).length → Gives (.imageWrite p) s fun t =>
        Answered s t p 0x70 0x02 (imageBytes s) ∧ Frame s t [] [.pool, .link]) ∧
      (b.length = 7 →
        Gives (.imageAbort p) s (fun t => t.boot = { s.boot with asm := none } ∧ Answered s t p 0x70 0 [0, 0, 0, 0, 2, 0, 0, 0] ∧
          Frame s t [] [.pool, .link, .boot]) ∧
        Gives (.imageStatus p) s (fun t => Answered s t p 0x70 0 (imageBytes s) ∧ Frame s t [] [.pool, .link]) ∧
        (starting s = false ∨ stepNow s ≠ 6 → Gives (.imageCommit p) s fun t =>
          (∀ img, verifyImage s (imageGot s) = some img → t.boot = { s.boot with asm := none, img := some img } ∧ Answered s t p 0x70 0 [0, 0, 0, 0, 2, 0, 0, 0]) ∧
          (verifyImage s (imageGot s) = none → t.boot = s.boot ∧ Answered s t p 0x70 0x08 (imageBytes s)) ∧ Frame s t [] [.pool, .link, .boot])) ∧
      Within (.imageCommit p) s (allBut [.fuse, .rst, .cal, .absent, .dmas])

/-- Forwarding and the pool's commit (R264, R270): a packet for another device leaves unchanged on the port of its route, one without a route is counted as a header error, and
one that finds its store full is dropped and counted; from below, it leaves on the active upstream port. The pool's reserves take force together or not at all, and not in
BOOT. -/
def Obligations.ForwardingAndPool : Prop :=
  ∀ (s : State) (p : Packet) (op : Byte) (full : BitVec 2) (err up : Bool),
    let i := p.port.val
    (portUp s i = false → exec (.forwardDownstream op p full) s = .next s) ∧
    (portUp s i = true → p.bcast = false →
      (consumed s p = true → exec (.forwardDownstream op p full) s = .next s) ∧
      (∀ q, consumed s p = false → routeOf s p.dev.toNat = some q → portUp s q = true → padsFor s 13 1 = true → bit full.toNat (q - 2) = false →
        Gives (.forwardDownstream op p full) s fun t => t.link.out = s.link.out ++ [forwardPkt false false q op p] ∧ Frame s t [] [.link]) ∧
      (∀ q, consumed s p = false → routeOf s p.dev.toNat = some q → portUp s q = false ∨ padsFor s 13 1 = false ∨ bit full.toNat (q - 2) = true →
        Gives (.forwardDownstream op p full) s fun t => rd t (Reg.POOL_ERR_FWD_DROP i) = min (rd s (Reg.POOL_ERR_FWD_DROP i) + 1) (2 ^ (Reg.POOL_ERR_FWD_DROP i).width - 1) ∧
          Frame s t [Reg.POOL_ERR_FWD_DROP i] []) ∧
      (consumed s p = false → routeOf s p.dev.toNat = none → Gives (.forwardDownstream op p full) s fun t =>
        rd t (Reg.POOL_ERR_HDR_ERR i) = min (rd s (Reg.POOL_ERR_HDR_ERR i) + 1) (2 ^ (Reg.POOL_ERR_HDR_ERR i).width - 1) ∧ i ∈ t.pool.noRoute ∧
        (i ∉ s.pool.noRoute → Room s → Queued s t 0x3010 0) ∧ Frame s t (Reg.POOL_ERR_HDR_ERR i :: eventRegs) [.pool, .events])) ∧
    (portUp s (2 + i) = false → exec (.forwardUpstream op err p up) s = .next s) ∧
    (portUp s (2 + i) = true → bonded s = false → padsFor s 14 1 = true → portUp s (activeUp s) = true → Gives (.forwardUpstream op err p false) s fun t =>
      t.link.out = s.link.out ++ [forwardPkt true err (activeUp s) op p] ∧ Frame s t [] [.link]) ∧
    (portUp s (2 + i) = true → Gives (.forwardUpstream op err p true) s fun t =>
      rd t (Reg.POOL_ERR_FWD_DROP (2 + i)) = min (rd s (Reg.POOL_ERR_FWD_DROP (2 + i)) + 1) (2 ^ (Reg.POOL_ERR_FWD_DROP (2 + i)).width - 1) ∧
      Frame s t [Reg.POOL_ERR_FWD_DROP (2 + i)] []) ∧
    (modeOf s = mBoot → exec .poolCommit s = .next s) ∧
    (modeOf s ≠ mBoot → shadowChanged s poolGroup = true →
      (poolPairOk s = true → Gives .poolCommit s fun t => ∀ k < 16, rd t (Reg.POOL_RSV_RSV k) = rdSh s (Reg.POOL_RSV_RSV k) ∧ rd t (Reg.POOL_RSV_MAX k) = rdSh s (Reg.POOL_RSV_MAX k)) ∧
      (poolPairOk s = false → Gives .poolCommit s fun t => ∀ f : Fld, f.cls = .H → rd t f = rd s f))

/-! ### Carrier data (chapters 6 and 11) -/

/-- A finished receive symbol or PRACH occasion (R137 to R139, R152, R253, R269): its work is taken out once, and its packets are queued for the link behind what
waits there, with all their pads at once, or as one DROPPED packet; without such a work nothing happens. -/
def Obligations.ReceivedSymbolsAreQueued : Prop :=
  ∀ (s : State) (c : Fin 4) (id sym : BitVec 32) (bins : List (List (BitVec 20 × BitVec 20))) (wins : List (List (List (BitVec 20 × BitVec 20)))) (fft : BitVec 4),
    let hitRx := fun (w : RxWork) => w.id == id.toNat && w.carrier == c.val && w.prach.isNone && tagOf w.sym == sym.toNat && decide (w.sym + w.span ≤ s.air.sym)
    let hitPrach := fun (w : RxWork) => w.id == id.toNat && w.prach == some c.val && tagOf w.sym == sym.toNat && decide (w.sym < s.air.sym)
    (s.beam.work.find? hitRx = none → exec (.rxSymbolDone c id sym bins fft) s = .next s) ∧
    (∀ w, s.beam.work.find? hitRx = some w → w.mutes ≠ [] → 0 < rd s (Reg.CARRIER_CFG1_N_PRB c) → Gives (.rxSymbolDone c id sym bins fft) s fun t =>
      t.beam = { s.beam with work := s.beam.work.erase w } ∧ ∃ x, t.pool.ul = s.pool.ul ++ [x] ∧ x.stream = c.val ∧ x.sym = w.sym ∧ x.tag = tagOf w.sym ∧
        x.carrier = c.val ∧ x.prach = false ∧ x.lfirst = lFirst w.param ∧ x.lcnt = lCnt w.param ∧ ((x.cause = 0 ∧ x.pkts ≠ []) ∨ (x.cause = 1 ∧ x.pkts = []))) ∧
    (s.beam.work.find? hitPrach = none → exec (.prachDone c id sym wins fft) s = .next s) ∧
    (∀ w, s.beam.work.find? hitPrach = some w → Gives (.prachDone c id sym wins fft) s fun t =>
      t.beam = { s.beam with work := s.beam.work.erase w } ∧ (t.pool.ul = s.pool.ul ∨ ∃ x, t.pool.ul = s.pool.ul ++ [x] ∧ x.stream = 8 ∧ x.sym = w.sym ∧
        x.prach = true ∧ x.lfirst = lFirst w.param ∧ x.lcnt = lCnt w.param)) ∧
    Within (.rxSymbolDone c id sym bins fft) s [.events, .beam, .pool, .free] ∧ Within (.prachDone c id sym wins fft) s [.events, .beam, .pool, .free]

/-- Uplink delivery (R252, R253, R267, R359): a port that is not UP, or has nothing to send, sends nothing, nor does any under supply stage S5; the oldest symbol's packet leaves with its tag, and its pad is free; a
symbol counted as dropped leaves as one DROPPED packet; an aged symbol is counted, and discarded where no upstream port is UP. -/
def Obligations.UplinkDelivery : Prop :=
  ∀ (s : State) (p : Fin 2) (n : BitVec 8),
    (portUp s p = false ∨ s.pool.ul.find? (ulHas s p) = none ∨ 5 ≤ stageOf s → exec (.ulData p n) s = .next s) ∧
    (∀ x, portUp s p = true → stageOf s < 5 → s.pool.ul.find? (ulHas s p) = some x → ulAged s x = false →
      (x.cause ≠ 0 → padsFor s 11 1 = true → Gives (.ulData p 1) s fun t => t.pool.ul = s.pool.ul.erase x ∧ Frame s t [] [.pool, .link] ∧
        ∃ o, t.link.out = s.link.out ++ [o] ∧ o.op = 0x12 ∧ o.port = p.val ∧ o.tag = x.tag ∧ o.payload = droppedBytes x) ∧
      (∀ k, x.cause = 0 → x.pkts = [k] → Gives (.ulData p 1) s fun t => t.pool.ul = s.pool.ul.erase x ∧
        ∃ o, t.link.out = s.link.out ++ [o] ∧ o.op = 0x11 ∧ o.port = p.val ∧ o.tag = x.tag ∧ o.aux = k.2.1 ∧ o.payload = k.2.2)) ∧
    (s.pool.ul.find? (ulHas s p) = none → exec (.ulAgeDiscard p) s = .next s) ∧
    (∀ x, s.pool.ul.find? (ulHas s p) = some x → x.stream < 16 →
      (ulAged s x = false → exec (.ulAgeDiscard p) s = .next s) ∧
      (ulAged s x = true → Gives (.ulAgeDiscard p) s fun t =>
        rd t (Reg.POOL_USE_DROP x.stream) = min (rd s (Reg.POOL_USE_DROP x.stream) + 1) (2 ^ (Reg.POOL_USE_DROP x.stream).width - 1) ∧
        (upstreamUp s = false → t.pool.ul = s.pool.ul.filter (· != x)) ∧ t.link = s.link)) ∧
    Within (.ulData p n) s [.events, .link, .pool] ∧ Within (.ulAgeDiscard p) s [.events, .pool]

/-- Downlink (R251, R254, R359): under supply stage S5 a well-formed section is discarded and counted as unclaimed; otherwise a well-formed section in time takes a pad and waits; one of the wrong BFP code is discarded, one after its symbol's deadline is counted as late
and discarded. At the deadline of an enabled carrier's symbol the balance stands there, and no section up to that symbol is left. -/
def Obligations.DownlinkSections : Prop :=
  ∀ (s : State) (p : Packet) (c : Fin 4) (sym : BitVec 32) (sat : BitVec 4),
    let b := body p
    let k := b.getD 0 0 % 4
    let n := nearestTag (symNow s) p.tag.toNat
    let m := nearestTag (symNow s) sym.toNat
    let due := releasing s && on s (Reg.CARRIER_CFG0_EN c) && m % (carrierR s c : Int) == 0 && decide (symNow s < m) &&
      decide (dlDeadline s m ≤ startOf s (symNow s + 1))
    (Taken s p → dlOk s p = true → b.getD 1 0 < gradeLayers s.fuse.grade false → 5 ≤ stageOf s → Gives (.dlData p) s fun t => t.pool.dl = s.pool.dl ∧
      rd t Reg.POOL_COUNT2_DL_UNCLAIMED = min (rd s Reg.POOL_COUNT2_DL_UNCLAIMED + 1) (2 ^ (Reg.POOL_COUNT2_DL_UNCLAIMED).width - 1) ∧
      Frame s t [Reg.POOL_COUNT2_DL_UNCLAIMED] [.pool]) ∧
    (Taken s p → dlOk s p = true → b.getD 1 0 < gradeLayers s.fuse.grade false → stageOf s < 5 →
      (p.aux.toNat / 4096 ≠ rd s (Reg.CARRIER_CFG0_BFP_DL k) → Gives (.dlData p) s fun t => t.pool.dl = s.pool.dl ∧ Frame s t [] [.pool]) ∧
      (p.aux.toNat / 4096 = rd s (Reg.CARRIER_CFG0_BFP_DL k) → n < symNow s ∨ dlDeadline s n < nowCycles s → Gives (.dlData p) s fun t =>
        t.pool.dl = s.pool.dl ∧ rd t Reg.POOL_COUNT_DL_LATE = min (rd s Reg.POOL_COUNT_DL_LATE + 1) (2 ^ (Reg.POOL_COUNT_DL_LATE).width - 1) ∧
        Frame s t (Reg.POOL_COUNT_DL_LATE :: eventRegs) [.pool, .events]) ∧
      (p.aux.toNat / 4096 = rd s (Reg.CARRIER_CFG0_BFP_DL k) → symNow s ≤ n → nowCycles s ≤ dlDeadline s n → startOf s n - startOf s (symNow s) ≤ 4915200 →
        padsFor s (4 + k) 1 = true → Gives (.dlData p) s fun t =>
          t.pool.dl = s.pool.dl ++ [{ tag := p.tag.toNat, carrier := k, layer := b.getD 1 0, first := bytesAt b 2 2, cnt := bytesAt b 4 2, bytes := b.drop 8 }])) ∧
    (Taken s p → dlOk s p = false → Gives (.dlData p) s fun t => t.pool.dl = s.pool.dl ∧ Frame s t [] [.pool]) ∧
    (due = false → exec (.dlDeadline c sym sat) s = .next s) ∧
    (due = true → Gives (.dlDeadline c sym sat) s fun t => t.time = { s.time with bal := max s.time.bal (cyclesBal (dlDeadline s m).toNat) } ∧
      ∀ x ∈ t.pool.dl, ¬(x.carrier = c.val ∧ nearestTag (symNow t) x.tag ≤ m)) ∧
    Within (.dlData p) s [.events, .pool] ∧ Within (.dlDeadline c sym sat) s [.time, .pool]

/-! ### Chorus (chapter 7) -/

/-- Croak windows and the receiver's way to the header (R163, R165, R167, R169, R170; Table 7.8): in each state only the events that Table 7.8 lists for it act. -/
def Obligations.ChorusReceiverStates : Prop :=
  ∀ (s : State) (p : Byte) (n : BitVec 6) (bs : List Byte),
    (∀ w, s.chorus.win = some w →
      (cState s = cOff → w.listen ≠ [] → chorusStopped s = false → Gives .chorusSearchOpen s fun t =>
        cState t = cSearch ∧ t.chorus = { s.chorus with idx := rd s Reg.CHORUS_RXCFG_CH_IDX0 } ∧
        Frame s t (Reg.CHORUS_STATUS_STATE :: w.listen.map fun u => Reg.CLUSTER_STROBE_RXON_NOW (u / 8)) [.chorus]) ∧
      (cState s ≠ cOff ∨ w.listen = [] ∨ chorusStopped s = true → exec .chorusSearchOpen s = .next s) ∧
      (w.due = false → exec .croakSend s = .next s) ∧
      (∀ u, w.due = true → w.tx = some u → croakAble s u w.fofs (w.role == 2) = true → on s (Reg.UNIT_TX_STATUS_GATED u) = false → Gives .croakSend s fun t =>
        t.chorus = { s.chorus with win := some { w with due := false }, sent := croakBytes s w } ∧
        rd t Reg.CHORUS_COUNT2_TX_SENT = min (rd s Reg.CHORUS_COUNT2_TX_SENT + 1) (2 ^ (Reg.CHORUS_COUNT2_TX_SENT).width - 1) ∧
        Frame s t [Reg.CHORUS_COUNT2_TX_SENT] [.chorus]) ∧
      (w.due = true → w.tx = none → Gives .croakSend s fun t =>
        t.chorus = { s.chorus with win := some { w with due := false } } ∧
        rd t Reg.CHORUS_COUNT1_NOT_SENT = min (rd s Reg.CHORUS_COUNT1_NOT_SENT + 1) (2 ^ (Reg.CHORUS_COUNT1_NOT_SENT).width - 1) ∧
        (rd s Reg.CHORUS_COUNT1_NOT_SENT = 0 → Room s → Queued s t 0x2041 0) ∧ Frame s t (Reg.CHORUS_COUNT1_NOT_SENT :: eventRegs) [.chorus, .events])) ∧
    (s.chorus.win = none → exec .chorusSearchOpen s = .next s ∧ exec .croakSend s = .next s) ∧
    (cState s = cSearch ∨ cState s = cAcquire → Gives (.chorusGainStep p) s fun t =>
      t.chorus = { s.chorus with idx := if p.toNat < 18 then min (s.chorus.idx + 3) 31 else if 48 < p.toNat then s.chorus.idx - 3 else s.chorus.idx } ∧
      Frame s t [] [.chorus]) ∧
    (cState s = cSearch → Gives .chorusDetect s (fun t => cState t = cAcquire ∧ Frame s t [Reg.CHORUS_STATUS_STATE] []) ∧
      Gives .chorusSearchClose s (fun t => cState t = cOff ∧ Frame s t [Reg.CHORUS_STATUS_STATE] [])) ∧
    (cState s = cAcquire → Gives .chorusAgcFreeze s fun t => cState t = cAfc ∧ Frame s t [Reg.CHORUS_STATUS_STATE] []) ∧
    (cState s = cAfc → 8 ≤ n.toNat → Gives (.chorusSfd n) s fun t => cState t = cHeader ∧ Frame s t [Reg.CHORUS_STATUS_STATE] []) ∧
    ((cState s = cAfc ∧ n.toNat < 8) ∨ cState s = cAcquire →
      (∀ c ∈ [Instr.chorusSfd n, .chorusSfdTimeout], Gives c s fun t => cState t = cSearch ∧ t.chorus = { s.chorus with rx := none } ∧
        rd t Reg.CHORUS_COUNT1_SHORT_PRE = min (rd s Reg.CHORUS_COUNT1_SHORT_PRE + 1) (2 ^ (Reg.CHORUS_COUNT1_SHORT_PRE).width - 1) ∧
        Frame s t [Reg.CHORUS_STATUS_STATE, Reg.CHORUS_COUNT1_SHORT_PRE] [.chorus])) ∧
    (cState s ≠ cSearch → exec .chorusDetect s = .next s ∧ exec .chorusSearchClose s = .next s) ∧
    (cState s ≠ cAcquire → exec .chorusAgcFreeze s = .next s) ∧
    (cState s ≠ cAcquire → cState s ≠ cAfc → exec (.chorusSfd n) s = .next s ∧ exec .chorusSfdTimeout s = .next s) ∧
    (cState s = cHeader → headerOk (bs.map BitVec.toNat) = false → Gives (.chorusHeader bs) s fun t => cState t = cSearch ∧
      rd t Reg.CHORUS_COUNT0_HDR_FAIL = min (rd s Reg.CHORUS_COUNT0_HDR_FAIL + 1) (2 ^ (Reg.CHORUS_COUNT0_HDR_FAIL).width - 1) ∧
      Frame s t [Reg.CHORUS_STATUS_STATE, Reg.CHORUS_COUNT0_HDR_FAIL] [.chorus])

/-- From the header to the measurement (R163, R169, R172 to R181): a good header is counted and leads to the payload, or to the measurement when it has no
record; a payload is kept only with a good CRC; a stronger croak takes over; the measurement stores the responses and ends the packet. A lost parent is shown; EN,
out of STOP, commits the plan and nothing of it where a pair fails. -/
def Obligations.ChorusPacketsAndCommit : Prop :=
  ∀ (s : State) (bs : List Byte) (db : Byte) (m : CroakMeas),
    let b := bs.map BitVec.toNat
    let h := ofBytes (b.take 3)
    (cState s ≠ cHeader → exec (.chorusHeader bs) s = .next s) ∧
    (cState s = cHeader → headerOk b = true → Gives (.chorusHeader bs) s fun t =>
      rd t Reg.CHORUS_COUNT0_RX_OK = min (rd s Reg.CHORUS_COUNT0_RX_OK + 1) (2 ^ (Reg.CHORUS_COUNT0_RX_OK).width - 1) ∧
      (h.testBit 4 = true → bits h 8 16 ≠ devId s → cState t = cSearch ∧ t.chorus.rx = none) ∧
      (h.testBit 4 = false ∨ bits h 8 16 = devId s → t.chorus.rx = some { src := bits h 8 16, nrec := bits h 5 3, self := bits h 8 16 == devId s, recs := none } ∧
        cState t = if bits h 5 3 = 0 then cMeasure else cPayload)) ∧
    (∀ x, s.chorus.rx = some x → cState s = cPayload → Gives (.chorusPayloadEnd bs) s fun t => cState t = cMeasure ∧
      (b.length = 16 * x.nrec + 2 → ofBytes (b.drop (16 * x.nrec)) = crc16 (b.take (16 * x.nrec)) →
        t.chorus.rx = some { x with recs := some (recsOf x.nrec b) } ∧ Frame s t [Reg.CHORUS_STATUS_STATE] [.chorus]) ∧
      (b.length ≠ 16 * x.nrec + 2 → t.chorus.rx = some { x with recs := none } ∧
        rd t Reg.CHORUS_COUNT1_PAY_FAIL = min (rd s Reg.CHORUS_COUNT1_PAY_FAIL + 1) (2 ^ (Reg.CHORUS_COUNT1_PAY_FAIL).width - 1))) ∧
    (s.chorus.rx = none ∨ cState s ≠ cPayload → exec (.chorusPayloadEnd bs) s = .next s) ∧
    (cAcquire ≤ cState s → cState s ≤ cPayload → captureDb s ≤ db.toNat → Gives (.chorusPreempt db) s fun t => cState t = cAcquire ∧
      t.chorus = { s.chorus with rx := none } ∧ rd t Reg.CHORUS_COUNT1_PREEMPTED = min (rd s Reg.CHORUS_COUNT1_PREEMPTED + 1) (2 ^ (Reg.CHORUS_COUNT1_PREEMPTED).width - 1) ∧
      Frame s t [Reg.CHORUS_STATUS_STATE, Reg.CHORUS_COUNT1_PREEMPTED] [.chorus]) ∧
    (cState s < cAcquire ∨ cPayload < cState s ∨ db.toNat < captureDb s → exec (.chorusPreempt db) s = .next s) ∧
    (∀ w x, s.chorus.win = some w → s.chorus.rx = some x → cState s = cMeasure → x.self = false → peerEntry s x.src = none → m.resp = [] →
      Gives (.chorusMeasureDone m) s fun t => t.chorus.rx = none ∧ cState t = (if m.more then cSearch else cOff) ∧
        rd t Reg.CHORUS_RESP_TAG_TAG = tagOf w.first ∧ rd t Reg.CHORUS_RESP_SRC_SRC_ID = x.src % 65536 ∧
        rd t Reg.CHORUS_COUNT2_NO_REF = min (rd s Reg.CHORUS_COUNT2_NO_REF + 1) (2 ^ (Reg.CHORUS_COUNT2_NO_REF).width - 1) ∧ peerEntry t x.src = none) ∧
    (∀ w x, ∀ i < 64, s.chorus.win = some w → s.chorus.rx = some x → cState s = cMeasure → x.self = false → x.recs = none → x.src < 65536 →
      w.listen.contains (activeUnit s) = true → (respAt m (activeUnit s)).tag ≠ 3#2 → peerEntry s x.src = none → newEntry s = some i →
      Gives (.chorusMeasureDone m) s fun t => t.chorus.rx = none ∧ rd t (Reg.CHORUS_PEER0_PEER_ID i) = x.src ∧ rd t (Reg.CHORUS_PEER0_VALID i) = 1 ∧
        rd t (Reg.CHORUS_PEER1_LAST_TAG i) = tagOf w.first ∧ rd t (Reg.CHORUS_PEER2_ARR i) = m.arr.toNat ∧ rd t (Reg.CHORUS_PEER0_PAIRED i) = 0) ∧
    (s.chorus.win = none ∨ s.chorus.rx = none ∨ cState s ≠ cMeasure → exec (.chorusMeasureDone m) s = .next s) ∧
    (packageHeld s = false → s.events.entries.length < 500 → Gives .chorusParentLost s fun t => rd t Reg.CHORUS_STATUS_PARENT_OK = 0 ∧ ∃ e ∈ t.events.entries, e.code = 0x2040) ∧
    (releasing s = true ∨ modeOf s = mBoot → exec .chorusCommit s = .next s) ∧
    (releasing s = false → modeOf s ≠ mBoot → on s Reg.CHORUS_CTRL_EN = true → blkHeld s 0x302 none = false → s.chorus.stopped = true →
      (chorusPairFails s = [] → Gives .chorusCommit s fun t => t.chorus.stopped = false ∧
        ∀ f : Fld, f.cls = .H → chorusGroup.ranges.any (fun r => decide (r.1 ≤ f.key) && decide (f.key < r.2)) = true → rd t f = rdSh s f) ∧
      (chorusPairFails s ≠ [] → Gives .chorusCommit s fun t => t.chorus = s.chorus ∧ ∀ f : Fld, f.cls = .H → rd t f = rd s f)) ∧
    Within (.chorusMeasureDone m) s [.silent, .events, .time, .units, .beam, .cal, .mem, .chorus, .link, .pool, .free, .shadow] ∧ Within .chorusParentLost s [.events, .time, .free] ∧ Within (.chorusHeader bs) s [.chorus]

/-! ### Calibration (chapter 8) -/

/-- Calibration steps and requests (R182 to R191): a step counts down to its calibration's end; a pass is counted and frees the cluster, a failure is recorded with its lowest
reason and reported, and in TRIM tried again, three times in all. A request outside SERVE and DIAG, or while one runs, is refused with event 0x1030. -/
def Obligations.CalibrationStepsAndRequests : Prop :=
  ∀ (s : State) (c : Fin 16) (r : CalResult) (w : Word),
    let v := w.toNat
    let x := s.ccal c
    let req := [Reg.CLUSTER_CAL_REQ_CALS c, Reg.CLUSTER_CAL_REQ_DPD_REL c, Reg.CLUSTER_CAL_REQ_UNITS c, Reg.CLUSTER_CAL_REQ_CLR_DEG c]
    (x.run = none ∨ x.left = 0 → exec (.calStepDone c r) s = .next s) ∧
    (∀ k, x.run = some k → x.left ≠ 0 → skipTx s c k.cal = false →
      (k.done + 1 < calSteps k.cal → Gives (.calStepDone c r) s fun t =>
        t.ccal c = { x with run := some { k with done := k.done + 1 }, left := x.left - 1 } ∧ Frame s t [] [.cal]) ∧
      (calSteps k.cal ≤ k.done + 1 → k.cal ≤ 7 → k.pos < 8 →
        (calReason s (8 * c + k.pos) k.cal r = 0 → Gives (.calStepDone c r) s fun t => (t.ccal c).run = none ∧ t.cal.changed = true ∧
          rd t (Reg.CLUSTER_CAL_COUNT_PASS_CNT c) = min (rd s (Reg.CLUSTER_CAL_COUNT_PASS_CNT c) + 1) (2 ^ (Reg.CLUSTER_CAL_COUNT_PASS_CNT c).width - 1)) ∧
        (calReason s (8 * c + k.pos) k.cal r ≠ 0 → Gives (.calStepDone c r) s fun t => rd t (Reg.CLUSTER_CAL_STATUS_FAIL c) = 1 ∧
          rd t (Reg.CLUSTER_CAL_LAST_POS c) = k.pos ∧ rd t (Reg.CLUSTER_CAL_LAST_CAL c) = k.cal ∧
          rd t (Reg.CLUSTER_CAL_LAST_REASON c) = calReason s (8 * c + k.pos) k.cal r ∧
          rd t (Reg.CLUSTER_CAL_COUNT_FAIL_CNT c) = min (rd s (Reg.CLUSTER_CAL_COUNT_FAIL_CNT c) + 1) (2 ^ (Reg.CLUSTER_CAL_COUNT_FAIL_CNT c).width - 1) ∧
          (t.ccal c).run = if x.serving = 3 ∧ k.tries < 2 then some { k with done := 0, tries := k.tries + 1 } else none))) ∧
    (clusterEnabled s c = false → exec (.calReq c w) s = .next s) ∧
    (clusterEnabled s c = true →
      (v.testBit 31 = false → Gives (.calReq c w) s fun t => Frame s t req []) ∧
      (v.testBit 31 = true → (modeOf s ≠ mServe ∧ modeOf s ≠ mDiag) ∨ on s (Reg.CLUSTER_CAL_STATUS_BUSY c) = true → Gives (.calReq c w) s fun t =>
        rd t (Reg.CLUSTER_CAL_STATUS_REFUSED c) = 1 ∧ (Room s → Queued s t 0x1030 0) ∧ Frame s t (Reg.CLUSTER_CAL_STATUS_REFUSED c :: req ++ eventRegs) [.events]) ∧
      (v.testBit 31 = true → v.testBit 24 = false → modeOf s = mServe ∨ modeOf s = mDiag → on s (Reg.CLUSTER_CAL_STATUS_BUSY c) = false →
        bits v 0 8 ≠ 0 → (∃ p < 8, bit (bits v 16 8) p = true ∧ unitEnabled s (8 * c + p) = true) → Gives (.calReq c w) s fun t =>
          rd t (Reg.CLUSTER_CAL_STATUS_BUSY c) = 1 ∧ (t.ccal c).reqCals = bits v 0 8 ∧
          (t.ccal c).req = (List.range 8).filter (fun p => bit (bits v 16 8) p && unitEnabled s (8 * c + p)) ∧
          Frame s t (Reg.CLUSTER_CAL_STATUS_BUSY c :: req) [.cal])) ∧
    Within (.calStepDone c r) s [.silent, .events, .units, .cal, .shadow] ∧ Within (.calReq c w) s [.events, .cal]

/-- The calibration store and trims (R198 to R200, Table 8.14): a save takes the contents as it starts, with the other bank's header erased; its end makes that bank the one in use,
or reports event 0x2054 and leaves the old one in use. A trim is written in DIAG only; elsewhere the write is not made and recorded. -/
def Obligations.CalibrationStore : Prop :=
  ∀ (s : State) (c : Fin 16) (v : BitVec 16),
    let k := otherBank s
    let busy := (enabledClusters s).map Reg.CLUSTER_CAL_STATUS_STORE_BUSY
    (s.cal.saving = none → Gives .save s fun t => t.cal.saving = some (bankNow s) ∧ t.cal.changed = false ∧ (bank t k).valid = false ∧ bank t (1 - k) = bank s (1 - k) ∧
      (∀ c ∈ enabledClusters s, rd t (Reg.CLUSTER_CAL_STATUS_STORE_BUSY c) = 1) ∧ Frame s t busy [.cal]) ∧
    (s.cal.saving ≠ none → exec .save s = .next s) ∧
    (s.cal.changed = false → exec .calStoreAutosave s = .next s) ∧
    (s.cal.changed = true → exec .calStoreAutosave s = exec .save s) ∧
    (∀ b, s.cal.saving = some b →
      Gives (.calStoreSaveDone true) s (fun t => t.cal.saving = none ∧ bank t k = b ∧ bank t (1 - k) = bank s (1 - k) ∧ t.cal.inUse = some k ∧
        (∀ c ∈ enabledClusters s, rd t (Reg.CLUSTER_CAL_STATUS_STORE_BUSY c) = 0) ∧ Frame s t busy [.cal]) ∧
      Gives (.calStoreSaveDone false) s (fun t => t.cal = { s.cal with saving := none, changed := true } ∧ (Room s → Queued s t 0x2054 0) ∧
        Frame s t (busy ++ eventRegs) [.cal, .events])) ∧
    (∀ ok, s.cal.saving = none → exec (.calStoreSaveDone ok) s = .next s) ∧
    exec (.trimDataAccess c none) s = .next s ∧
    (clusterEnabled s c = false → exec (.trimDataAccess c (some v)) s = .next s) ∧
    (∀ n sg, clusterEnabled s c = true → modeOf s = mDiag → trimSpec (rd s (Reg.CLUSTER_TRIM_SEL_INDEX c)) = some (n, sg) →
      Gives (.trimDataAccess c (some v)) s fun t =>
        trimGet t c (rd s (Reg.CLUSTER_TRIM_SEL_POS c)) (rd s (Reg.CLUSTER_TRIM_SEL_INDEX c)) = v.toNat % 2 ^ n ∧ Frame s t [] [.cal]) ∧
    (clusterEnabled s c = true → modeOf s ≠ mDiag → Gives (.trimDataAccess c (some v)) s fun t => rd t Reg.CFG_STATUS_CFG_IGNORED = 1 ∧
      (Room s → Queued s t 0x1001 (Reg.CLUSTER_TRIM_DATA_VALUE c).off) ∧
      Frame s t ([Reg.CFG_STATUS_CFG_IGNORED, Reg.CFG_STATUS_ERR_OVF, Reg.CFG_STATUS_ERR_KIND, Reg.CFG_ERR_ADDR_ADDR] ++ eventRegs) [.events])

/-! ### Time (chapter 12) -/

/-- PTP messages (R273 to R277): one of no enabled domain has no effect, a malformed one is counted; on the port whose exchanges count a Sync takes t2 and t1, a
Follow_Up completes t1, a Delay_Resp completes the exchange with d and θ, an Announce gives the grandmaster and class. A forwarded message's residence is added
to its correctionField. -/
def Obligations.PtpMessages : Prop :=
  ∀ (s : State) (p : Fin 2) (m : PtpMsg) (out : Fin 4) (corr res : BitVec 64),
    (∀ c ∈ [Instr.ptpSync p m, .followUp p m, .delayResp p m, .announce m],
      (domOf s m.domain.toNat = none → exec c s = .next s) ∧
      (domOf s m.domain.toNat ≠ none → msgOk m = false → Gives c s fun t =>
        rd t Reg.TIME_COUNT_MSG_ERR = min (rd s Reg.TIME_COUNT_MSG_ERR + 1) (2 ^ (Reg.TIME_COUNT_MSG_ERR).width - 1) ∧ Frame s t [Reg.TIME_COUNT_MSG_ERR] [])) ∧
    (∀ d, domOf s m.domain.toNat = some d → msgOk m = true →
      (p ≠ timePort s → exec (.ptpSync p m) s = .next s ∧ exec (.followUp p m) s = .next s ∧ exec (.delayResp p m) s = .next s) ∧
      (p = timePort s → Gives (.ptpSync p m) s fun t => (t.dom d).seq = m.seq.toNat ∧ (t.dom d).wait = m.twoStep ∧
        (t.dom d).t2 = some (now16 s - ps16 (rd s (Reg.TIME_PORT_LAT_LAT_IN p))) ∧
        (t.dom d).t1 = some (if m.twoStep then m.corr.toInt else msgTime m + m.corr.toInt) ∧ Frame s t [] [.time, .link, .pool]) ∧
      (∀ x y, p = timePort s → (s.dom d).t1 = some x → (s.dom d).t2 = some y →
        ((s.dom d).wait = true → (s.dom d).seq = m.seq.toNat → now16 s - y ≤ 65536000000000 → Gives (.followUp p m) s fun t =>
          t.dom d = { s.dom d with wait := false, t1 := some (x + msgTime m + m.corr.toInt) } ∧ Frame s t [] [.time]) ∧
        ((s.dom d).wait = false ∨ (s.dom d).seq ≠ m.seq.toNat → exec (.followUp p m) s = .next s) ∧
        (∀ z, m.own = true → (s.dom d).wait = false → (s.dom d).t3 = some z → Gives (.delayResp p m) s fun t =>
          let dd := ((y - x) + (msgTime m - m.corr.toInt - z)) / 2
          (t.dom d).exch = true ∧ (t.dom d).t1 = none ∧ (t.dom d).last = some (((y - x) - dd - rdI s (Reg.TIME_ASYM_ASYM p) * 4096) / 4096) ∧
          rd t (Reg.TIME_DLY_DLY d) = code 32 (dd / 4096))) ∧
      (m.own = false ∨ (s.dom d).wait = true → exec (.delayResp p m) s = .next s) ∧
      (Gives (.announce m) s fun t => (t.dom d).ann = true ∧ (t.dom d).gm = m.gm.toNat ∧ (t.dom d).cls = m.cls.toNat)) ∧
    (Gives (.ptpForward out corr res) s fun t => (∃ o, t.link.out = s.link.out ++ [o] ∧ o.port = out.val ∧ o.op = 0x50 ∧
      o.payload = beBytes 8 (corr + res).toNat) ∧ Frame s t [] [.link, .pool]) ∧
    Within (.delayResp p m) s [.events, .time, .free] ∧ Within (.announce m) s [.events, .time, .free]

/-- Sources and the step detector (R276, R278, R279; Table 12.3): a domain past its limit is no longer valid; held offsets are accepted at STEP_HOLD where nothing can check
them; PREF comes back when valid; ACQUIRE without a source ends in HOLDOVER after a lock and in FREE before; CLR_SUSPECT restarts the detector. -/
def Obligations.TimeSources : Prop :=
  ∀ (s : State) (d : Fin 2),
    (∀ ann, Gives (.domainLost d ann) s fun t => domValid t d = false ∧ (t.dom d).ann = ((s.dom d).ann && !ann) ∧ (t.dom d).exch = ((s.dom d).exch && ann)) ∧
    (crossAvail s d = true ∨ (s.dom d).pend = [] → exec (.stepHoldExpire d) s = .next s) ∧
    (crossAvail s d = false → (s.dom d).pend ≠ [] → Gives (.stepHoldExpire d) s fun t => (t.dom d).pend = []) ∧
    (let p := rd s Reg.TIME_DOMAIN_PREF
     (domValid s p = false ∨ rd s Reg.TIME_STATUS_SEL = p → exec .domainRevert s = .next s) ∧
     (domValid s p = true → domHolds s p = true → p < 2 → rd s Reg.TIME_STATUS_SEL ≠ p → Gives .domainRevert s fun t => rd t Reg.TIME_STATUS_SEL = p)) ∧
    (rd s Reg.TIME_STATUS_STATE ≠ tAcquire ∨ sourceOf s ≠ 0 → exec .acquireTimeout s = .next s) ∧
    (rd s Reg.TIME_STATUS_STATE = tAcquire → sourceOf s = 0 →
      (s.time.wasLocked = true → Gives .acquireTimeout s fun t => rd t Reg.TIME_STATUS_STATE = tHoldover ∧ t.time.holdStart = s.time.bal ∧ (Room s → Queued s t 0x4002 0)) ∧
      (s.time.wasLocked = false → Gives .acquireTimeout s fun t => rd t Reg.TIME_STATUS_STATE = tFree ∧ Frame s t [Reg.TIME_STATUS_STATE] [])) ∧
    (Gives (.clrSuspect d) s fun t => rd t (suspectFld d) = 0 ∧ (t.dom d).acc = [] ∧ (t.dom d).pend = [] ∧ (t.dom d).back = 0) ∧
    (∀ ann, Within (.domainLost d ann) s [.events, .time, .free]) ∧ Within (.stepHoldExpire d) s [.events, .time, .free] ∧ Within .domainRevert s [.events, .time, .free] ∧ Within .acquireTimeout s [.events, .time, .free] ∧ Within (.clrSuspect d) s [.events, .time, .free]

/-- The servo's reach (R280, R281): whatever drives it, STEER stays within ±20 ppm and moves at most 1 ppb in an update; in HOLDOVER it follows the frozen mean and DRIFT,
and in FREE it stays. -/
def Obligations.SteerMovesByOnePpb : Prop :=
  ∀ s : State, Gives .steerUpdate s fun t =>
    (rdI t Reg.TIME_STEER_STEER).natAbs ≤ 2000000 ∧
    ((rdI s Reg.TIME_STEER_STEER).natAbs ≤ 2000000 → (rdI t Reg.TIME_STEER_STEER - rdI s Reg.TIME_STEER_STEER).natAbs ≤ 100) ∧
    (rd s Reg.TIME_STATUS_STATE = tHoldover → rdI t Reg.TIME_STEER_STEER = steerNext (rdI s Reg.TIME_STEER_STEER) (holdTarget s)) ∧
    (rd s Reg.TIME_STATUS_STATE = tFree → (rdI s Reg.TIME_STEER_STEER).natAbs ≤ 2000000 → rdI t Reg.TIME_STEER_STEER = rdI s Reg.TIME_STEER_STEER) ∧
    t.time.bal = s.time.bal ∧ Frame s t ([Reg.TIME_STEER_STEER, Reg.TIME_HOLD_HOLD_ERR] ++ eventRegs) [.time, .free, .events]

/-- Tile phases, PPS, SNAP and the commit (R271, R283 to R285; Table 12.4): a tile's residual phase is shown, above 50 ps with event 0x4009; PPS edges act only where
enabled; SNAP latches the balance whole; the commit takes every shadow value or none, and not in BOOT. -/
def Obligations.PpsSnapAndTimeCommit : Prop :=
  ∀ (s : State) (k : Fin 4) (ph : BitVec 16),
    (tileEnabled s k = false → exec (.tilePhaseCheck k ph) s = .next s) ∧
    (tileEnabled s k = true → Gives (.tilePhaseCheck k ph) s fun t => rd t (Reg.TIME_TILE_PH_TILE_PH k) = ph.toNat ∧
      (50 < ph.toInt.natAbs → Room s → Queued s t 0x4009 0) ∧ (ph.toInt.natAbs ≤ 50 → t.events = s.events) ∧
      Frame s t (Reg.TIME_TILE_PH_TILE_PH k :: eventRegs) [.events]) ∧
    (on s Reg.TIME_PPS_OUT_EN = true → rd s Reg.TIME_STATUS_STATE ≠ tFree → Gives .ppsOut s fun t =>
      t.time = { s.time with ppsRise := some s.time.bal } ∧ Frame s t [] [.time]) ∧
    (on s Reg.TIME_PPS_OUT_EN = false ∨ rd s Reg.TIME_STATUS_STATE = tFree → exec .ppsOut s = .next s) ∧
    (on s Reg.TIME_PPS_IN_EN = false → exec .ppsIn s = .next s ∧ exec .ppsInLost s = .next s) ∧
    (on s Reg.TIME_PPS_IN_EN = true →
      (Gives .ppsIn s fun t => t.time.ppsOk = true ∧ rd t Reg.TIME_PPS_IN_PPS_IN = code 32
        (if s.time.bal / 2 ^ 36 % 16000000000 < 8000000000 then ((s.time.bal / 2 ^ 36 % 16000000000 : Nat) : Int) else ((s.time.bal / 2 ^ 36 % 16000000000 : Nat) : Int) - 16000000000)) ∧
      (Gives .ppsInLost s fun t => t.time.ppsOk = false ∧ rd t Reg.TIME_STATUS_IN_LOST = 1)) ∧
    (Gives .snap s fun t => rd t Reg.TIME_SNAP0_SEC_HI * 2 ^ 32 + rd t Reg.TIME_SNAP1_SEC_LO = balSec s % 2 ^ 64 ∧ rd t Reg.TIME_SNAP2_NS = balNs s ∧
      rd t Reg.TIME_SNAP3_FRAC = s.time.bal / 2 ^ 24 % 65536 ∧
      Frame s t [Reg.TIME_SNAP0_SEC_HI, Reg.TIME_SNAP1_SEC_LO, Reg.TIME_SNAP2_NS, Reg.TIME_SNAP3_FRAC] []) ∧
    (modeOf s = mBoot → exec .timeCommit s = .next s) ∧
    (modeOf s ≠ mBoot → shadowChanged s timeGroup = true →
      (timePairOk s = true → Gives .timeCommit s fun t =>
        ∀ f : Fld, f.cls = .H → timeGroup.ranges.any (fun r => decide (r.1 ≤ f.key) && decide (f.key < r.2)) = true → rd t f = rdSh s f) ∧
      (timePairOk s = false → Gives .timeCommit s fun t => ∀ f : Fld, f.cls = .H → rd t f = rd s f)) ∧
    Within .ppsIn s [.events, .time, .free] ∧ Within .ppsInLost s [.events, .time, .free] ∧ Within .timeCommit s [.silent, .events, .time, .free]

/-! ### Capture (chapter 13) -/

/-- Arming and triggers (R286, R290 to R295): an arm is refused with its cause, event 0x1060 and no change of state, or puts the shadow values in force and the channel into
ARMED or STREAMING; a trigger in ARMED opens a segment at its sample, one in CAPTURING at another sample is missed; the last segment ends in DONE with event 0x0020, another
in REARM; REARM and the end of hold-off lead back to ARMED. -/
def Obligations.CaptureArmsAndTriggers : Prop :=
  ∀ (s : State) (n : Fin 16) (fw : Bool) (p : CapPoint) (k : CapTrig) (smp : List (List CapSample)),
    (∀ c, capCause s n fw = some c → Gives (.capArm n fw) s fun t => rd t (Reg.CAP_CH_STATUS_ARM_REJ n) = 1 ∧ rd t (Reg.CAP_CH_STATUS_CAUSE n) = c ∧
      capSt t n = capSt s n ∧ t.caps = s.caps ∧ (c ≠ 4 → (Room s → Queued s t 0x1060 0) ∧
        Frame s t ([Reg.CAP_CH_STATUS_ARM_REJ n, Reg.CAP_CH_STATUS_CAUSE n] ++ eventRegs) [.events])) ∧
    (capCause s n fw = none → Gives (.capArm n fw) s fun t => capSt t n = (if rdSh s (Reg.CAP_CH_CTRL_MODE n) ≠ 0 then cpStreaming else cpArmed) ∧
      rd t (Reg.CAP_CH_PROG_PROG n) = 0 ∧ (t.cap n).opn = none ∧ (t.cap n).seg = 0 ∧
      ∀ f : Fld, f.cls = .H → (capGroup n).ranges.any (fun r => decide (r.1 ≤ f.key) && decide (f.key < r.2)) = true → rd t f = rdSh s f) ∧
    (capSt s n = cpArmed →
      (Gives (.capForce n p smp) s fun t => capSt t n = cpCapturing ∧ (t.cap n).missed = 0 ∧ ∃ g, (t.cap n).opn = some g ∧ g.since = p.since.toNat ∧ g.frac = 0 ∧
        g.force = true ∧ g.preAct = min p.since.toNat (capPre (rd s) n) ∧ g.sec = p.sec.toNat ∧ g.ns = p.ns.toNat ∧ g.fr = p.frac.toNat ∧ g.missed = (s.cap n).missed) ∧
      (trigMatches s n k = true → Gives (.capTrigger n k p smp) s fun t => capSt t n = cpCapturing ∧ ∃ g, (t.cap n).opn = some g ∧
        g.since = p.since.toNat + trigFrac s n k p / 64 ∧ g.frac = trigFrac s n k p % 64 ∧ g.force = false ∧ g.auto = false) ∧
      (trigMatches s n k = false → Gives (.capTrigger n k p smp) s fun t => capSt t n = cpArmed ∧ Frame s t [] [.caps]) ∧
      (on s (Reg.CAP_CH_CTRL_AUTO_EN n) = true → Gives (.capAutoTimeout n p) s fun t => capSt t n = cpCapturing ∧ ∃ g, (t.cap n).opn = some g ∧ g.auto = true ∧ g.since = p.since.toNat)) ∧
    (capSt s n ≠ cpArmed ∨ on s (Reg.CAP_CH_CTRL_AUTO_EN n) = false → exec (.capAutoTimeout n p) s = .next s) ∧
    (∀ g, capSt s n = cpCapturing → (s.cap n).opn = some g →
      (g.since ≠ p.since.toNat → Gives (.capForce n p smp) s fun t => capSt t n = cpCapturing ∧
        rd t (Reg.CAP_CH_COUNT_MISSED n) = min (rd s (Reg.CAP_CH_COUNT_MISSED n) + 1) 65535) ∧
      Gives (.capSegmentDone n smp) s fun t => (t.cap n).opn = none ∧ (t.cap n).seg = (s.cap n).seg + 1 ∧
        rd t (Reg.CAP_CH_PROG_PROG n) = ((s.cap n).seg + 1) % 2 ^ 32 ∧
        capSt t n = (if capSegs (rd s) n ≤ (s.cap n).seg + 1 then cpDone else cpRearm) ∧
        (capSegs (rd s) n ≤ (s.cap n).seg + 1 → Room s → Queued s t 0x0020 n) ∧
        ∀ a, a < rd s (Reg.CAP_CH_BASE_BASE n) * 64 + (s.cap n).seg * capStride (rd s) n → memByte t a = memByte s a) ∧
    (capSt s n = cpRearm →
      (holding s n = false → Gives (.capRearm n) s fun t => capSt t n = cpArmed ∧ Frame s t [Reg.CAP_CH_STATUS_STATE n] [.caps]) ∧
      (holding s n = true → Gives (.capRearm n) s fun t => (t.cap n) = { s.cap n with rearmed := true } ∧ Frame s t [] [.caps]) ∧
      ((s.cap n).rearmed = true → (s.cap n).holdCnt = 0 → Gives (.capHoldEnd n) s fun t => capSt t n = cpArmed ∧ (t.cap n).holdTime = false ∧
        Frame s t [Reg.CAP_CH_STATUS_STATE n] [.caps])) ∧
    (capSt s n ≠ cpRearm → exec (.capRearm n) s = .next s) ∧
    Within (.capSegmentDone n smp) s [.events, .mem, .caps, .free] ∧ Within (.capTrigger n k p smp) s [.mem, .caps]

/-- Stops, streams and skew (R286, R293, R296, R299): a running channel that is stopped goes to IDLE with event 0x2071, its open segment closed and STAGE set; a stream without
WRAP ends in DONE at the end of its area; an overflow of the staging closes the segment with TRUNC and is counted; the skew calibration runs in IDLE and DIAG. -/
def Obligations.CaptureStopsAndSkew : Prop :=
  ∀ (s : State) (n : Fin 16) (lost : Word) (smp : List (List CapSample)) (sk : List (BitVec 16)),
    (capRuns s n = true → Gives (.capStop n smp) s fun t => capSt t n = cpIdle ∧ (t.cap n).charge = 0 ∧ (Room s → Queued s t 0x2071 0) ∧
      (capSt s n ≠ cpStreaming → (s.cap n).opn ≠ none → rd t (Reg.CAP_CH_STATUS_STAGE n) = 1 ∧ (t.cap n).opn = none ∧ (t.cap n).seg = (s.cap n).seg + 1)) ∧
    (capRuns s n = false → Gives (.capStop n smp) s fun t => Frame s t [] [.caps]) ∧
    (capSt s n = cpStreaming → on s (Reg.CAP_CH_CTRL_WRAP n) = false → Gives (.capBufferFull n smp) s fun t => capSt t n = cpDone ∧ (t.cap n).charge = 0 ∧
      (t.cap n).count = (s.cap n).count + smp.length) ∧
    (capSt s n ≠ cpStreaming → Gives (.capBufferFull n smp) s fun t => Frame s t [] [.caps]) ∧
    (capSt s n ≠ cpStreaming → (s.cap n).opn ≠ none → Gives (.capTrunc n lost smp) s fun t => rd t (Reg.CAP_CH_STATUS_TRUNC n) = 1 ∧ (t.cap n).opn = none ∧
      rd t (Reg.CAP_CH_COUNT_TRUNC_CNT n) = min (rd s (Reg.CAP_CH_COUNT_TRUNC_CNT n) + 1) 65535 ∧
      capSt t n = (if capSegs (rd s) n ≤ (s.cap n).seg + 1 then cpDone else cpRearm)) ∧
    (modeOf s = mIdle ∨ modeOf s = mDiag → Gives .skewGo s fun t => rd t Reg.CAP_CTRL_SKEW_BUSY = 1 ∧ Frame s t [Reg.CAP_CTRL_SKEW_BUSY] []) ∧
    (modeOf s ≠ mIdle → modeOf s ≠ mDiag → exec .skewGo s = .next s) ∧
    (on s Reg.CAP_CTRL_SKEW_BUSY = true → Gives (.skewDone sk) s fun t => rd t Reg.CAP_CTRL_SKEW_BUSY = 0 ∧ rd t Reg.CAP_CTRL_SKEW_OK = 1 ∧
      (∀ k < 16, rd t (Reg.CAP_CH_SKEW_SKEW k) = (sk.getD k 0).toNat) ∧
      Frame s t ([Reg.CAP_CTRL_SKEW_BUSY, Reg.CAP_CTRL_SKEW_OK] ++ (List.range 16).map Reg.CAP_CH_SKEW_SKEW) []) ∧
    (on s Reg.CAP_CTRL_SKEW_BUSY = false → exec (.skewDone sk) s = .next s) ∧
    Within (.capStop n smp) s [.events, .mem, .caps, .free] ∧ Within (.capBufferFull n smp) s [.mem, .caps] ∧ Within (.capTrunc n lost smp) s [.events, .mem, .caps, .free]

/-! ### The DMA engine (chapter 14) -/

/-- A channel's control (R309, R311, R313; Tables 14.6 and 14.7): START runs an idle or halted channel on a ring inside the user area and is refused otherwise; PAUSE stops its reads,
ABORT takes it to IDLE without a write-back, a doorbell lets it read again, and an error halts it with its code and event 0x0031. -/
def Obligations.DmaChannelControl : Prop :=
  ∀ (s : State) (n : Fin 16) (fromCur v : Bool) (bytes : BitVec 15) (moved : BitVec 28),
    let halted := fun (t : State) (err : Nat) => dmaSt t n = dHalted ∧ rd t (Reg.DMA_CH_STATUS_ERR n) = err ∧ (t.dma n) = { posted := (s.dma n).posted } ∧
      rd t (Reg.DMA_CH_ERR_LO_ERR_LO n) = dmaCur s n % 2 ^ 32 ∧ (Room s → Queued s t 0x0031 (n + 256 * err)) ∧
      Frame s t ([Reg.DMA_CH_STATUS_STATE n, Reg.DMA_CH_STATUS_ERR n, Reg.DMA_CH_ERR_LO_ERR_LO n, Reg.DMA_CH_ERR_HI_ERR_HI n] ++ eventRegs) [.dmas, .events]
    (dmaSt s n ≠ dIdle → dmaSt s n ≠ dHalted → Gives (.dmaStart n fromCur) s fun t => rd t (Reg.DMA_CH_STATUS_REFUSED n) = 1 ∧
      Frame s t [Reg.DMA_CH_STATUS_REFUSED n] []) ∧
    (dmaSt s n = dIdle ∨ dmaSt s n = dHalted →
      (ringOk (rdSh s) n = false → Gives (.dmaStart n fromCur) s fun t => rd t (Reg.DMA_CH_STATUS_REFUSED n) = 1 ∧ dmaSt t n = dmaSt s n ∧ t.dmas = s.dmas ∧
        ∀ f : Fld, f.cls = .H → rd t f = rd s f) ∧
      (ringOk (rdSh s) n = true → Gives (.dmaStart n fromCur) s fun t => dmaSt t n = dRun ∧ (t.dma n).reading = true ∧ (t.dma n).posted = 0 ∧
        rd t (Reg.DMA_CH_COUNT_COUNT n) = 0 ∧ rd t (Reg.DMA_CH_DONE_DONE n) = 0 ∧ rd t (Reg.DMA_CH_STATUS_ERR n) = 0 ∧
        rd t (Reg.DMA_CH_RING_LO_BASE_LO n) = rdSh s (Reg.DMA_CH_RING_LO_BASE_LO n) ∧
        rd t (Reg.DMA_CH_CUR_LO_CUR_LO n) = (if fromCur then rd s (Reg.DMA_CH_CUR_LO_CUR_LO n) else ringBase (rdSh s) n % 2 ^ 32))) ∧
    (dmaSt s n = dRun → Gives (.dmaPause n v) s fun t => rd t (Reg.DMA_CH_CTRL_PAUSE n) = b2n v ∧ dmaSt t n = dRun ∧
      (t.dma n) = { s.dma n with pausing := v || (s.dma n).lost } ∧ Frame s t [Reg.DMA_CH_CTRL_PAUSE n] [.dmas]) ∧
    (dmaSt s n = dPaused → (s.dma n).lost = false → Gives (.dmaPause n false) s fun t => dmaSt t n = dRun ∧ (t.dma n).pausing = false ∧
      Frame s t [Reg.DMA_CH_CTRL_PAUSE n, Reg.DMA_CH_STATUS_STATE n] [.dmas]) ∧
    (dmaSt s n = dIdle → exec (.dmaAbort n) s = .next s) ∧
    (dmaSt s n ≠ dIdle → Gives (.dmaAbort n) s fun t => dmaSt t n = dIdle ∧ (t.dma n) = { posted := (s.dma n).posted } ∧
      Frame s t [Reg.DMA_CH_STATUS_STATE n] [.dmas]) ∧
    (dmaSt s n ≠ dWait → dmaSt s n ≠ dRun → exec (.doorbell n) s = .next s) ∧
    (dmaSt s n = dWait ∨ dmaSt s n = dRun → (s.dma n).reading = true → Gives (.doorbell n) s fun t => (t.dma n) = { s.dma n with again := true } ∧ Frame s t [] [.dmas]) ∧
    (dmaSt s n = dWait → (s.dma n).reading = false → Gives (.doorbell n) s fun t => (t.dma n) = { s.dma n with reading := true } ∧ Frame s t [] [.dmas]) ∧
    (dmaSt s n = dRun ∨ dmaSt s n = dPaused → Gives (.dmaWakeTimeout n) s fun t => halted t 6) ∧
    (dmaSt s n ≠ dRun → dmaSt s n ≠ dPaused → exec (.dmaWakeTimeout n) s = .next s) ∧
    (dmaSt s n = dRun → (s.dma n).desc = none → Gives (.dmaBusTimeout n moved) s fun t => halted t 3) ∧
    (dmaSt s n ≠ dRun → exec (.dmaBusTimeout n moved) s = .next s) ∧
    (dmaSt s n = dRun → (s.dma n).pausing = true → (s.dma n).desc = none → Gives (.dmaDrained n bytes) s fun t => dmaSt t n = dPaused ∧
      (t.dma n) = { s.dma n with pausing := false } ∧ Frame s t [Reg.DMA_CH_STATUS_STATE n] [.dmas]) ∧
    (dmaSt s n ≠ dRun ∨ (s.dma n).pausing = false → exec (.dmaDrained n bytes) s = .next s) ∧
    Within (.dmaBusTimeout n moved) s (allBut [.fuse, .absent, .flash]) ∧ Within (.dmaDrained n bytes) s (allBut [.fuse, .absent, .flash])

/-- Descriptors and their data (R307 to R315): a descriptor of OWN 0 leaves the channel waiting, a malformed one halts it with DESC_ERR, and a good one runs; its last word moves, swapped, to its
destination, and the write-back gives word 6 the length and word 0 OWN 0, steps CUR and counts; a link-destined descriptor leaves in BULK packets. -/
def Obligations.DmaDescriptors : Prop :=
  ∀ (s : State) (n : Fin 16),
    let x := s.dma n
    let cur := dmaCur s n
    let w := (List.range 8).map fun k => memWord s (cur + 4 * k)
    domState s 2 = domOn → domFailed s 2 = false → userArea ≤ cur → cur + 32 ≤ dieEnd → cur % 32 = 0 →
      (x.reading = true → x.pausing = false → dmaSt s n = dRun ∨ dmaSt s n = dWait →
        (bit (w.getD 0 0) 31 = false → Gives (.dmaDescFetch n false 0) s fun t => dmaSt t n = dWait ∧ (t.dma n) = { x with reading := x.again, again := false } ∧ t.mem = s.mem) ∧
        (bit (w.getD 0 0) 31 = true → descBad w = true → Gives (.dmaDescFetch n false 0) s fun t => dmaSt t n = dHalted ∧ rd t (Reg.DMA_CH_STATUS_ERR n) = 5 ∧
          (Room s → Queued s t 0x0031 (n + 256 * 5))) ∧
        (bit (w.getD 0 0) 31 = true → descBad w = false → bits (w.getD 0 0) 29 2 = 0 → rd s (Reg.DMA_CH_BUDGET_BUDGET n) = 0 →
          Gives (.dmaDescFetch n false 0) s fun t => dmaSt t n = dRun ∧ (t.dma n).desc = some (descOf w) ∧ (t.dma n).reading = false ∧ (t.dma n).links = 0 ∧
            rd t (Reg.DMA_CH_DONE_DONE n) = 0 ∧ t.mem = s.mem)) ∧
      (∀ d, x.desc = some d → dmaSt s n = dRun → x.pausing = false →
        (d.link = false → dmaDone s n = d.len → d.evt = false → Gives (.dmaDescDone n none 0) s fun t => (t.dma n).desc = none ∧ (t.dma n).reading = true ∧ dmaSt t n = dRun ∧
          memWord t (cur + 24) = d.len % 2 ^ 32 ∧ memWord t cur = clrBit d.word0 31 % 2 ^ 32 ∧ rd t (Reg.DMA_CH_DONE_DONE n) = 0 ∧
          rd t (Reg.DMA_CH_CUR_LO_CUR_LO n) = (if cur = ringBase (rd s) n + 32 * (ringLen (rd s) n - 1) then ringBase (rd s) n else cur + 32) % 2 ^ 32 ∧
          (∀ a, (a < cur ∨ (cur + 4 ≤ a ∧ a < cur + 24) ∨ cur + 28 ≤ a) → memByte t a = memByte s a)) ∧
        (d.link = false → dmaDone s n + 4 = d.len → d.len < 2 ^ 28 → d.evt = false → d.fixSrc = false → d.fixDst = false →
          userArea ≤ d.src + dmaDone s n → d.src + d.len ≤ dieEnd → userArea ≤ d.dst + dmaDone s n → d.dst + d.len ≤ dieEnd →
          (d.dst + d.len ≤ cur ∨ cur + 32 ≤ d.dst + dmaDone s n) →
          Gives (.dmaDescDone n none 0) s fun t => (t.dma n).desc = none ∧
            memWord t (d.dst + dmaDone s n) = dmaSwap d.swap (memWord s (d.src + dmaDone s n))) ∧
        (d.link = true → dmaDone s n + 4 = d.len → d.len < 2 ^ 28 → d.fixSrc = false → userArea ≤ d.src + dmaDone s n → d.src + d.len ≤ dieEnd →
          portUp s (activeUp s) = true → padsFor s 12 1 = true → Gives (.bulk n) s fun t =>
            rd t (Reg.DMA_CH_DONE_DONE n) = d.len ∧ (∃ o, t.link.out = s.link.out ++ [o] ∧ o.op = 0x31 ∧ o.port = activeUp s ∧ o.more = false ∧
              o.tag = rd s (Reg.DMA_CH_COUNT_COUNT n) ∧ o.payload = [n.val, 0, 0, 0] ++ beBytes 4 (dmaDone s n) ++
                (beBytes 4 (dmaSwap d.swap (memWord s (d.src + dmaDone s n)))).reverse) ∧ Frame s t [Reg.DMA_CH_DONE_DONE n] [.link, .pool]) ∧
        (d.link = false → exec (.bulk n) s = .next s)) ∧
      (dmaSt s n ≠ dRun → exec (.bulk n) s = .next s) ∧
      Within (.dmaDescFetch n false 0) s [.rst, .events, .time, .clusters, .newts, .pool, .dmas, .power, .free] ∧ Within (.dmaDescDone n none 0) s (allBut [.fuse, .absent, .flash])

/-! ### Newt instructions (chapter 9) -/

/-- Control flow (R212, R214 to R216, R220, R223; Table 9.6): the next PC, the loop and call stacks, the waits and stops of each control instruction, the exceptions STACK, ILLEGAL and
ACCESS, and the frame: nothing but the context's own registers, its core's load figures and the state of a context that stops. -/
def Obligations.NewtControlFlow : Prop :=
  ∀ (s : State) (g : Fin 8) (user : Bool),
    let c := s.ctx g user
    let nx := (c.pc + 1) % 32768
    let on' := stepOn s g user 1 c
    let left := fun (t : State) (c' : CtxS) => t.ctx g user = c' ∧ t.ctx g (!user) = s.ctx g (!user) ∧ Frame s t (newtRegs g) [.newts]
    (c.loops = [] → on' = { c with wait := none, pc := nx }) ∧
    (∀ l r, c.loops = l :: r →
      (nx ≠ l.stop → on' = { c with wait := none, pc := nx }) ∧
      (nx = l.stop → 1 < l.left → on' = { c with wait := none, loops := { l with left := l.left - 1 } :: r, pc := l.start % 32768 }) ∧
      (nx = l.stop → l.left ≤ 1 → r = [] → on' = { c with wait := none, loops := [], pc := nx })) ∧
    (AtPC s g user .nop 1 → Gives (.nNop g user) s fun t => left t on' ∧
      (user = true → c.loops = [] → uState t g = if (s.newt g).stopReq then uStopped else uState s g)) ∧
    (∀ k tg, AtPC s g user (.br k tg) 1 → Gives (.nBr g user) s fun t =>
      left t (if condHolds c k then { c with wait := none, pc := tg % 32768 } else on')) ∧
    (∀ tg, AtPC s g user (.call tg) 1 →
      (c.calls.length < 16 → Gives (.nCall g user) s fun t => left t { c with wait := none, calls := nx :: c.calls, pc := tg % 32768 }) ∧
      (16 ≤ c.calls.length → Gives (.nCall g user) s fun t => NewtFaults s t g user 4)) ∧
    (AtPC s g user .ret 1 →
      (∀ a r, c.calls = a :: r → Gives (.nRet g user) s fun t => left t { c with wait := none, calls := r, pc := a % 32768 }) ∧
      (c.calls = [] → Gives (.nRet g user) s fun t => NewtFaults s t g user 4)) ∧
    (∀ len reg count, AtPC s g user (.loop len reg count) 1 → 0 < len →
      let stop := afterInstrs s g len nx
      let n := match reg with | some x => c.getX x % 65536 | none => count
      (0x8000 < stop → Gives (.nLoop g user) s fun t => NewtFaults s t g user 1) ∧
      (stop ≤ 0x8000 → n = 0 → Gives (.nLoop g user) s fun t =>
        left t { c with wait := none, loops := (loopEnd c.loops stop).1, pc := (loopEnd c.loops stop).2.1 % 32768 }) ∧
      (stop ≤ 0x8000 → n ≠ 0 → 4 ≤ c.loops.length → Gives (.nLoop g user) s fun t => NewtFaults s t g user 4) ∧
      (stop ≤ 0x8000 → n ≠ 0 → c.loops.length < 4 → Gives (.nLoop g user) s fun t =>
        left t { c with wait := none, loops := { start := nx, stop := stop, left := n } :: c.loops, pc := nx })) ∧
    (AtPC s g user .yield 1 → Gives (.nYield g user) s fun t => left t on' ∧
      (user = true → uState t g = (if (s.newt g).stopReq then uStopped else uState s g) ∧ vState t g = vState s g) ∧
      (user = false → vState t g = (if vendorQuiesce s g then vStop else vState s g) ∧ uState t g = uState s g)) ∧
    (∀ m, AtPC s g user (.waitev m) 1 → Gives (.nWaitev g user) s fun t => left t { on' with wait := some m }) ∧
    (AtPC s g user .halt 1 → Gives (.nHalt g user) s fun t => left t on' ∧
      (user = true → uState t g = (if rd s (Reg.NEWT_USER_CTRL_TRIG_EN g) ≠ 0 then uWaiting else uStopped) ∧ (t.newt g).view = on') ∧
      (user = false → vState t g = vStop)) ∧
    (∀ v, AtPC s g user (.sys v) 1 →
      (user = false → Gives (.nSys g user) s fun t => left t on') ∧ (user = true → Gives (.nSys g user) s fun t => NewtFaults s t g user 2)) ∧
    (∀ e, ctxRuns s g user = true → fetchInstr s g user c.pc = .error e → Gives (.nNop g user) s fun t => NewtFaults s t g user e) ∧
    (user = true → c.pc < 0x6000 → modeOf s ≠ mDiag → fetchInstr s g user c.pc = .error 2) ∧
    (ctxRuns s g user = false → ∀ q ∈ [Instr.nNop g user, .nBr g user, .nCall g user, .nRet g user, .nLoop g user, .nYield g user, .nWaitev g user, .nHalt g user, .nSys g user],
      exec q s = .next s)

/-- Instructions of classes ALU and ALUI (R214; Table 9.6): the value each writes to Xd and the flags, and the frame. The carry of SUB, carry and overflow of the logical operations, and the
conjugate of Q = −32,768 are open values. -/
def Obligations.NewtArithmetic : Prop :=
  ∀ (s : State) (g : Fin 8) (user : Bool) (d a b v : Nat),
    let c := s.ctx g user
    let x := c.getX a
    let y := c.getX b
    let left := fun (t : State) (c' : CtxS) => t.ctx g user = stepOn s g user 1 c' ∧ t.ctx g (!user) = s.ctx g (!user) ∧ Frame s t (newtRegs g) [.newts, .free]
    let sum := (x + y) % 2 ^ 32
    let dif := (x + 2 ^ 32 - y) % 2 ^ 32
    (AtPC s g user (.alu .add d a b) 1 → Gives (.nAdd g user) s fun t => left t { c with
      x := c.x.set d 0 sum, z := decide (sum = 0), n := bit sum 31, c := decide (2 ^ 32 ≤ x + y), v := bit x 31 == bit y 31 && bit sum 31 != bit x 31 }) ∧
    (AtPC s g user (.alu .sub d a b) 1 → Gives (.nSub g user) s fun t => ∃ f, left t { c with
      x := c.x.set d 0 dif, z := decide (dif = 0), n := bit dif 31, c := f, v := bit x 31 != bit y 31 && bit dif 31 != bit x 31 }) ∧
    (∀ e ∈ [(AluOp.and, Instr.nAnd g user, x &&& y), (.or, .nOr g user, x ||| y), (.xor, .nXor g user, x ^^^ y)], AtPC s g user (.alu e.1 d a b) 1 →
      Gives e.2.1 s fun t => ∃ f h, left t { c with x := c.x.set d 0 (e.2.2 % 2 ^ 32), z := decide (e.2.2 = 0), n := bit e.2.2 31, c := f, v := h }) ∧
    (∀ e ∈ [(AluOp.shl, Instr.nShl g user, x * 2 ^ (y % 32)), (.shr, .nShr g user, x / 2 ^ (y % 32)), (.sar, .nSar g user, code 32 (sgn 32 x / (2 ^ (y % 32) : Nat))),
        (.min, .nMin g user, if sgn 32 x ≤ sgn 32 y then x else y), (.max, .nMax g user, if sgn 32 x ≤ sgn 32 y then y else x),
        (.swaph, .nSwaph g user, x % 65536 * 65536 + x / 65536), (.mov, .nMov g user, x)], AtPC s g user (.alu e.1 d a b) 1 →
      Gives e.2.1 s fun t => left t { c with x := c.x.set d 0 (e.2.2 % 2 ^ 32) }) ∧
    (∀ e ∈ [(AluOp.cadd, Instr.nCadd g user, xI x + xI y, xQ x + xQ y), (.csub, .nCsub g user, xI x - xI y, xQ x - xQ y)], AtPC s g user (.alu e.1 d a b) 1 →
      let i := max (-32768) (min 32767 e.2.2.1)
      let q := max (-32768) (min 32767 e.2.2.2)
      Gives e.2.1 s fun t => left t { c with x := c.x.set d 0 (code 16 i * 65536 + code 16 q), sat := c.sat || decide (i ≠ e.2.2.1) || decide (q ≠ e.2.2.2) }) ∧
    (AtPC s g user (.alu .cconj d a b) 1 → Gives (.nCconj g user) s fun t => ∃ q, (xQ x ≠ -32768 → q = code 16 (-xQ x)) ∧ q < 65536 ∧
      left t { c with x := c.x.set d 0 (code 16 (xI x) * 65536 + q) }) ∧
    (∀ e ∈ [(ImmOp.addi, Instr.nAddi g user, code 32 (x + sgn 16 v)), (.andi, .nAndi g user, x &&& v), (.ori, .nOri g user, x ||| v), (.xori, .nXori g user, x ^^^ v),
        (.shli, .nShli g user, x * 2 ^ (v % 32)), (.shri, .nShri g user, x / 2 ^ (v % 32)), (.sari, .nSari g user, code 32 (sgn 32 x / (2 ^ (v % 32) : Nat))),
        (.movi, .nMovi g user, code 32 (sgn 16 v)), (.movhi, .nMovhi g user, v * 65536 + c.getX d % 65536)], AtPC s g user (.imm e.1 d a v) 1 →
      Gives e.2.1 s fun t => left t { c with x := c.x.set d 0 (e.2.2 % 2 ^ 32) }) ∧
    (∀ e, ctxRuns s g user = true → fetchInstr s g user c.pc = .error e → Gives (.nMov g user) s fun t => NewtFaults s t g user e)

/-- Instructions of classes MAC, LDST, ACC, PTR and LONG (R205 to R210, R215): the accumulators, with products from the values before the loads and sums clamped to 40 bits; the moves, each
checked before any access, loads from and stores to the addresses of their modes, pointer updates in turn; and the register moves. Memory changes in the stored words only. -/
def Obligations.NewtAccumulatorsAndMoves : Prop :=
  ∀ (s : State) (g : Fin 8) (user ue ce : Bool) (k a b w : Nat) (ms : List Move),
    let c := s.ctx g user
    let x := c.getX a
    let y := c.getX b
    let left := fun (t : State) (w : Nat) (c' : CtxS) => t.ctx g user = stepOn s g user w c' ∧ t.ctx g (!user) = s.ctx g (!user)
    let clamp := fun (v : Int) => max (-(2 ^ 39)) (min (2 ^ 39 - 1) v)
    let put := fun (r i : Int) => { c with ar := c.ar.set k 0 r, ai := c.ai.set k 0 i }
    let add := fun (r i : Int) =>
      let p := c.ar.get k 0 + r
      let q := c.ai.get k 0 + i
      { put (clamp p) (clamp q) with aov := c.aov || decide (clamp p ≠ p) || decide (clamp q ≠ q) }
    let after := fun (c' : CtxS) (vs : List (Nat × Nat)) => ms.foldl moveUpdate (vs.foldl (fun c e => c.setX e.1 e.2) c')
    let local' := fun (m : Move) => permitted s g user c m.store (moveAddr c m) && !outside (moveAddr c m)
    let words := (ms.filter fun m => !m.store).map fun m => (m.x, memWord s (newtBase g + moveAddr c m))
    (∀ e ∈ [(MacOp.none, Instr.nNone g user ue ce, c), (.cmac, .nCmac g user ue ce, add (xI x * xI y - xQ x * xQ y) (xI x * xQ y + xQ x * xI y)),
        (.cmacc, .nCmacc g user ue ce, add (xI x * xI y + xQ x * xQ y) (xQ x * xI y - xI x * xQ y)),
        (.cmsu, .nCmsu g user ue ce, add (-(xI x * xI y - xQ x * xQ y)) (-(xI x * xQ y + xQ x * xI y))),
        (.cmul, .nCmul g user ue ce, put (xI x * xI y - xQ x * xQ y) (xI x * xQ y + xQ x * xI y)),
        (.rmac, .nRmac g user ue ce, add (xI x * xI y) (xQ x * xQ y)), (.cpwr, .nCpwr g user ue ce, add (xI x * xI x + xQ x * xQ x) 0),
        (.clr, .nClr g user ue ce, put 0 0)], AtPC s g user (.mac e.1 k a b ms) w →
      (ms.all local' = true → Gives e.2.1 s fun t => left t w (after e.2.2 words) ∧ Frame s t (newtRegs g) [.newts, .mem] ∧
        ∀ n, (∀ m ∈ ms, m.store = true → n < newtBase g + moveAddr c m ∨ newtBase g + moveAddr c m + 4 ≤ n) → memByte t n = memByte s n) ∧
      ((∀ m ∈ ms, permitted s g user c m.store (moveAddr c m) = true) → ∀ s1 vs s2, runLoads g { c with wait := none } ue ce s ms = (s1, some vs) →
        runStores g user { c with wait := none } s1 ms = (s2, true) → s2.newts = s1.newts → s1.newts = s.newts →
        Gives e.2.1 s fun t => left t w (after e.2.2 vs) ∧ t.mem = s2.mem) ∧
      (∀ m ∈ ms, permitted s g user c m.store (moveAddr c m) = false → Gives e.2.1 s fun t => NewtFaults s t g user 2)) ∧
    (∀ m, AtPC s g user (.ldst m) 1 → local' m = true →
      (m.store = false → Gives (.nLd g user ue ce) s fun t =>
        left t 1 (moveUpdate (c.setX m.x (memWord s (newtBase g + moveAddr c m))) m) ∧ t.mem = s.mem ∧ Frame s t (newtRegs g) [.newts]) ∧
      (m.store = true → Gives (.nSt g user) s fun t => left t 1 (moveUpdate c m) ∧ memWord t (newtBase g + moveAddr c m) = c.getX m.x % 2 ^ 32 ∧
        Frame s t (newtRegs g) [.newts, .mem] ∧ ∀ n, (n < newtBase g + moveAddr c m ∨ newtBase g + moveAddr c m + 4 ≤ n) → memByte t n = memByte s n)) ∧
    (∀ m, AtPC s g user (.ldst m) 1 → permitted s g user c m.store (moveAddr c m) = false →
      Gives (if m.store then .nSt g user else .nLd g user ue ce) s fun t => NewtFaults s t g user 2) ∧
    (∀ d sh rnd, AtPC s g user (.trn d k sh rnd) 1 →
      let r := trnRound rnd (c.ar.get k 0) (trnShift sh)
      let q := trnRound rnd (c.ai.get k 0) (trnShift sh)
      Gives (.nTrn g user) s fun t => left t 1 { c with
        x := c.x.set d 0 (code 16 (max (-32768) (min 32767 r)) * 65536 + code 16 (max (-32768) (min 32767 q)))
        sat := c.sat || decide (max (-32768) (min 32767 r) ≠ r) || decide (max (-32768) (min 32767 q) ≠ q) }) ∧
    (AtPC s g user (.lda k a) 1 → Gives (.nLda g user) s fun t => left t 1 (put (xI x * 2 ^ 15) (xQ x * 2 ^ 15))) ∧
    (∀ e ∈ [(NI.adda k b, Instr.nAdda g user, c.ar.get k 0 + c.ar.get b 0, c.ai.get k 0 + c.ai.get b 0), (.nega k, .nNega g user, -(c.ar.get k 0), -(c.ai.get k 0))],
      AtPC s g user e.1 1 → Gives e.2.1 s fun t => ∃ r q o, (clamp e.2.2.1 = e.2.2.1 → r = e.2.2.1) ∧ (clamp e.2.2.2 = e.2.2.2 → q = e.2.2.2) ∧
        (clamp e.2.2.1 = e.2.2.1 → clamp e.2.2.2 = e.2.2.2 → o = c.aov) ∧ left t 1 { put r q with aov := o } ∧ Frame s t (newtRegs g) [.newts, .free]) ∧
    (∀ e ∈ [(PtrOp.movp, Instr.nMovp g user, c.setP k x), (.movxp, .nMovxp g user, c.setX a (c.getP k)), (.movm, .nMovm g user, c.setM k x),
        (.movxm, .nMovxm g user, c.setX a (c.getM k)), (.addp, .nAddp g user, c.setP k (stepPtr c k (sgn 32 (c.getM k)))),
        (.movwb, .nMovwb g user, { c with wb := x % 4096 })], AtPC s g user (.ptr e.1 k a b) 1 →
      Gives e.2.1 s fun t => left t 1 e.2.2 ∧ Frame s t (newtRegs g) [.newts]) ∧
    (AtPC s g user (.ptr .circ k a b) 1 →
      (circOk (x / 4 * 4) y = true → Gives (.nCirc g user) s fun t => left t 1 { c with b := c.b.set k 0 (x / 4 * 4), l := c.l.set k 0 y } ∧ Frame s t (newtRegs g) [.newts]) ∧
      (circOk (x / 4 * 4) y = false → Gives (.nCirc g user) s fun t => NewtFaults s t g user 5)) ∧
    (∀ file v, AtPC s g user (.long file k v) 2 → Gives (.nLong g user) s fun t =>
      left t 2 (if file = 0 then c.setX k v else if file = 1 then c.setP k v else c.setM k v) ∧ Frame s t (newtRegs g) [.newts])

/-- The addressing modes of a load or store (R207, R208): IND and POSTM and POST4 access [Pn], IDX accesses [Pn + Mn]; POSTM updates Pn by Mn and POST4 by 4; with Ln = 0 an
update or an index adds, and otherwise it gives Bn + ((Pn + step − Bn) mod Ln); pointers hold word addresses (Table 9.3). A load takes the word at that address, a store writes it there and nowhere else. -/
def Obligations.NewtAddressingModes : Prop :=
  ∀ (s : State) (g : Fin 8) (user ue ce store : Bool) (x n mode : Nat),
    let c := s.ctx g user
    let p := c.getP n
    let b := c.b.get n 0
    let l := c.l.get n 0
    let moved := fun (k : Int) => if l = 0 then (((p : Int) + k) % 2 ^ 32).toNat else (((b : Int) + ((p : Int) + k - b) % (l : Int)) % 2 ^ 32).toNat
    let m := sgn 32 (c.getM n)
    let a := if mode = 2 then moved m else p
    let upd := fun (c : CtxS) => if mode = 1 then { c with p := c.p.set n 0 (moved m / 4 * 4) } else if mode = 3 then { c with p := c.p.set n 0 (moved 4 / 4 * 4) } else c
    AtPC s g user (.ldst ⟨store, x, n, mode⟩) 1 → permitted s g user c store a = true → outside a = false →
      (store = false → Gives (.nLd g user ue ce) s fun t => t.mem = s.mem ∧ Frame s t (newtRegs g) [.newts] ∧
        t.ctx g user = stepOn s g user 1 (upd { c with x := c.x.set x 0 (memWord s (newtBase g + a)) })) ∧
      (store = true → Gives (.nSt g user) s fun t => memWord t (newtBase g + a) = c.getX x % 2 ^ 32 ∧ Frame s t (newtRegs g) [.newts, .mem] ∧
        (∀ k, (k < newtBase g + a ∨ newtBase g + a + 4 ≤ k) → memByte t k = memByte s k) ∧
        t.ctx g user = stepOn s g user 1 (upd c))

/-- The kernel slot and the core's own faults (R213, R215, R220 to R224): START, STOP and triggers by the slot's state, with their refusals and overruns; bus timeout, missed heartbeats and
watchdog; and the fall-back, by which every enabled core reads FALLBACK 1, a running kernel that uses ZB is SUSPENDED and the memory die refreshes itself. -/
def Obligations.NewtKernelSlotAndFaults : Prop :=
  ∀ (s : State) (g : Fin 8) (user : Bool),
    let x := s.newt g
    let pairs := (List.range 8).all fun i => circOk (x.bSh.get i 0) (x.lSh.get i 0)
    let begins := fun (t : State) (v : CtxS) =>
      uState t g = (if fallback s g && zbUse s g then uSuspended else uRunning) ∧ (t.newt g).cycles = 0 ∧ (t.newt g).stopReq = false ∧
        t.ctx g true = { v with pc := x.entry, loops := [], calls := [], wait := none } ∧ t.ctx g false = s.ctx g false ∧
        rd t (Reg.NEWT_USER_COUNT_RUNS g) = min (rd s (Reg.NEWT_USER_COUNT_RUNS g) + 1) (2 ^ (Reg.NEWT_USER_COUNT_RUNS g).width - 1)
    let refused := fun (t : State) => (Room s → Queued s t 0x1040 0) ∧ Frame s t eventRegs [.events]
    (regionEnabled s g = true →
      (uState s g = uStopped → userMode s g = true → pairs = true → Gives (.userStart g) s fun t => begins t { x.view with b := x.bSh, l := x.lSh } ∧
        rd t (Reg.NEWT_USER_FAULT_CODE g) = 0 ∧ rd t (Reg.NEWT_USER_FAULT_FAULT_PC g) = 0 ∧
        Frame s t [Reg.NEWT_STATUS_USTATE g, Reg.NEWT_USER_FAULT_CODE g, Reg.NEWT_USER_FAULT_FAULT_PC g, Reg.NEWT_USER_COUNT_RUNS g] [.newts]) ∧
      (uState s g = uStopped → userMode s g = true → pairs = false → Gives (.userStart g) s fun t => uState t g = uStopped ∧ t.newts = s.newts ∧
        rd t Reg.CFG_STATUS_CFG_PAIR_ERR = 1) ∧
      (uState s g ≠ uStopped ∨ userMode s g = false → Gives (.userStart g) s refused) ∧
      (uState s g = uEmpty ∨ uState s g = uStopped → Gives (.userStop g) s refused) ∧
      (uState s g = uRunning → x.user.loops ≠ [] → Gives (.userStop g) s fun t => (t.newt g) = { x with stopReq := true } ∧ Frame s t [] [.newts]) ∧
      (uState s g = uRunning ∧ x.user.loops = [] ∨ uState s g = uWaiting ∨ uState s g = uSuspended ∨ uState s g = uFault → Gives (.userStop g) s fun t =>
        uState t g = uStopped ∧ (t.newt g).view = x.user ∧ Frame s t [Reg.NEWT_STATUS_USTATE g] [.newts])) ∧
    (regionEnabled s g = false → exec (.userStart g) s = .next s ∧ exec (.userStop g) s = .next s) ∧
    (∀ e ∈ [(0, Instr.userPeriodTrigger g), (1, .userTrig g)],
      (bit (rd s (Reg.NEWT_USER_CTRL_TRIG_EN g)) e.1 = true →
        (uState s g = uWaiting → Gives e.2 s fun t => begins t x.view ∧ Frame s t [Reg.NEWT_STATUS_USTATE g, Reg.NEWT_USER_COUNT_RUNS g] [.newts]) ∧
        (uState s g = uRunning ∨ uState s g = uSuspended → Gives e.2 s fun t =>
          rd t (Reg.NEWT_USER_COUNT_OVERRUN g) = min (rd s (Reg.NEWT_USER_COUNT_OVERRUN g) + 1) (2 ^ (Reg.NEWT_USER_COUNT_OVERRUN g).width - 1) ∧
          (rd s (Reg.NEWT_USER_COUNT_OVERRUN g) = 0 → Room s → Queued s t 0x2063 0) ∧ Frame s t (Reg.NEWT_USER_COUNT_OVERRUN g :: eventRegs) [.events])) ∧
      (bit (rd s (Reg.NEWT_USER_CTRL_TRIG_EN g)) e.1 = false ∨ uState s g = uEmpty ∨ uState s g = uStopped ∨ uState s g = uFault → exec e.2 s = .next s)) ∧
    (ctxRuns s g true = true → rd s (Reg.NEWT_USER_LIMIT_MAXCYC g) ≠ 0 → Gives (.userWdog g) s fun t => NewtFaults s t g true 6) ∧
    (ctxRuns s g true = false ∨ rd s (Reg.NEWT_USER_LIMIT_MAXCYC g) = 0 → exec (.userWdog g) s = .next s) ∧
    (ctxRuns s g user = true → accessesOutside s g user = true → Gives (.newtBusTimeout g user) s fun t => NewtFaults s t g user 3) ∧
    (ctxRuns s g user = false ∨ accessesOutside s g user = false → exec (.newtBusTimeout g user) s = .next s) ∧
    (regionEnabled s g = true → vState s g = vRun → Gives (.newtHeartbeatMiss g) s fun t =>
      t = (requestBlk (raise (wr (wr s (Reg.NEWT_STATUS_HB_OK g) 0) (Reg.NEWT_STATUS_VSTATE g) vFault) 0x2061 0) (0x200 + g) false).1) ∧
    (regionEnabled s g = false ∨ vState s g ≠ vRun → exec (.newtHeartbeatMiss g) s = .next s) ∧
    (regionEnabled s g = true → x.fallReq = true → Gives .fallbackAckTimeout s fun t =>
      fallback t g = true ∧ (t.newt g).fallReq = false ∧ t.ctx g true = s.ctx g true ∧ t.ctx g false = s.ctx g false ∧
      uState t g = (if uState s g = uRunning ∧ zbUse s g = true then uSuspended else uState s g) ∧
      domState t 2 = (if domState s 2 = domOff ∨ domFailed s 2 = true then domOff else domSelfRefresh) ∧ ∀ a, memByte t a = memByte s a) ∧
    ((∀ r : Fin 8, regionEnabled s r = true → (s.newt r).fallReq = false) → exec .fallbackAckTimeout s = .next s) ∧
    Within .fallbackAckTimeout s [.events, .newts, .dmas] ∧ Within (.newtHeartbeatMiss g) s [.rst, .events, .units, .newts, .mem, .chorus, .caps, .dmas, .free] ∧ Within (.newtBusTimeout g user) s [.rst, .events, .units, .newts, .mem, .chorus, .caps, .dmas, .free]

/-! ### Lanes and ports (chapter 10) -/

/-- Lanes, ports, status words and eye scans (R229 to R237, R241): each lane event acts only in its own state; a lost lane and a failed window lead where Tables 10.4 and 10.5 say; a port in TRAIN
ends its window in DESKEW with the group of the agreed mask or in BACKOFF without one; three agreeing status words bring an aligned port UP; retraining and enabling begin TRAIN on the enabled lanes. -/
def Obligations.LanesAndPorts : Prop :=
  ∀ (s : State) (p : Fin 4) (l : Fin 8) (e0 : BitVec 4) (e1 : BitVec 7) (e2 : BitVec 6) (e3 : BitVec 5) (los late : Byte) (w : BitVec 64) (al : Bool) (v errs : Word) (x0 x1 x2 x3 : Byte),
    let moved := fun (t : State) (st : Nat) (regs : List Fld) (parts : List Part) => laneSt t p l = st ∧ Frame s t (laneFld p l :: regs) parts
    let count := fun (t : State) (f : Fld) (n : Nat) => rd t f = min (rd s f + n) (2 ^ f.width - 1)
    let room := packageHeld s = false ∧ s.events.entries.length + 3 ≤ 512
    let event := fun (t : State) (c : Nat) => ∃ e ∈ t.events.entries, e.code = c
    let training := fun (t : State) (rate : Nat) => portSt t p = pTrain ∧ rd t (Reg.LINK_STATUS_RATE_ACT p) = rate ∧ rd t (Reg.LINK_STATUS_GROUP p) = 0 ∧
      ∀ k < 8, laneSt t p k = if laneOn s p k then lnSigdet else lnOff
    let backoff := fun (t : State) => portSt t p = pBackoff ∧ rd t (Reg.LINK_STATUS_BACKOFF_MS p) = 2 ^ min (s.port p).backoff 6 ∧
      (t.port p).backoff = (s.port p).backoff + 1 ∧ rd t (Reg.LINK_STATUS_GROUP p) = 0
    let good := groupOf (agreedMask s p)
    let fresh := if s.link.backup then 2 else rd s (Reg.LINK_CTRL_RATE p) % 4
    let b := wordBytes w
    let m := rxGood s p &&& b.getD 4 0
    let valid := portReceives s p && b.take 2 == [0, 1] && crc8 (b.take 7) == b.getD 7 0
    (laneSt s p l = lnSigdet → Gives (.laneSigdet p l) s fun t => moved t lnCdr [] [.link] ∧ (t.port p).seen = true) ∧
    (laneSt s p l ≠ lnSigdet → exec (.laneSigdet p l) s = .next s) ∧
    (laneSt s p l = lnCdr → Gives (.laneCdrLock p l) s fun t => moved t lnEq [] []) ∧
    (laneSt s p l ≠ lnCdr → exec (.laneCdrLock p l) s = .next s) ∧
    (laneSt s p l = lnEq → Gives (.laneEqConverged p l e0 e1 e2 e3) s fun t => rd t (Reg.LINK_EQ_CTLE p l) = e0.toNat ∧ rd t (Reg.LINK_EQ_DFE1 p l) = e1.toNat ∧
      rd t (Reg.LINK_EQ_DFE2 p l) = e2.toNat ∧ rd t (Reg.LINK_EQ_DFE3 p l) = e3.toNat ∧ rd t (Reg.LINK_EQ_CONV p l) = 1 ∧
      moved t lnMarker [Reg.LINK_EQ_CTLE p l, Reg.LINK_EQ_DFE1 p l, Reg.LINK_EQ_DFE2 p l, Reg.LINK_EQ_DFE3 p l, Reg.LINK_EQ_CONV p l] []) ∧
    (laneSt s p l ≠ lnEq → exec (.laneEqConverged p l e0 e1 e2 e3) s = .next s) ∧
    (laneSt s p l = lnMarker → Gives (.laneMarkerGood p l) s fun t => laneSt t p l = lnGood ∧ (t.port p).laneFails.get l 0 = 0 ∧
      (portSt s p ≠ pTrain → Frame s t [laneFld p l] [.link])) ∧
    (laneSt s p l ≠ lnMarker → exec (.laneMarkerGood p l) s = .next s) ∧
    (laneRising s p l = true → Gives (.laneLos p l) s fun t => count t (Reg.LINK_LANE_ERR_LOS_CNT p l) 1 ∧
      moved t lnSigdet [Reg.LINK_LANE_ERR_LOS_CNT p l, Reg.LINK_EQ_CONV p l] []) ∧
    (laneSt s p l = lnGood → ∀ c ∈ [(Instr.laneLos p l, Reg.LINK_LANE_ERR_LOS_CNT p l, 1), (.laneMarkersBad p l, Reg.LINK_LANE_ERR_BAD_MARKER p l, 4)],
      Gives c.1 s fun t => count t c.2.1 c.2.2 ∧ count t (Reg.LINK_COUNT_LANE_LOST_CNT p) 1 ∧ laneSt t p l = lnSigdet ∧ (room → event t 0x3005) ∧
        (portUp s p = true → bit (rd s (Reg.LINK_STATUS_GROUP p)) l = true → (portSt t p = pDeskew ∨ portSt t p = pBackoff) ∧ (room → event t 0x3002))) ∧
    (laneRising s p l = false → laneSt s p l ≠ lnGood → exec (.laneLos p l) s = .next s) ∧
    (laneSt s p l ≠ lnGood → exec (.laneMarkersBad p l) s = .next s) ∧
    (portSt s p = pTrain →
      (good = 0 → Gives (.laneWindowEnd p none los) s fun t => backoff t ∧ (room → (s.port p).seen = false → event t 0x3004)) ∧
      (good ≠ 0 → Gives (.laneWindowEnd p none los) s fun t => portSt t p = pDeskew ∧ rd t (Reg.LINK_STATUS_GROUP p) = good ∧
        rd t (Reg.LINK_STATUS_WIDTH p) = widthCode good ∧ rd t (Reg.LINK_STATUS_NO_PARTNER p) = 0)) ∧
    (portSt s p ≠ pTrain → Gives (.laneWindowEnd p none los) s fun t => portSt t p = portSt s p ∧
      ∀ k < 8, laneSt t p k = if bit los.toNat k && laneRising s p k then lnSigdet else laneSt s p k) ∧
    ((s.port p).own.contains l.val = true → laneRising s p l = true → Gives (.laneWindowEnd p (some l) los) s fun t =>
      laneSt t p l = (if portSt s p = pUp ∨ portSt s p = pDeskew then lnBackoff else lnFail) ∧ (t.port p).own.contains l.val = false) ∧
    ((s.port p).own.contains l.val = false → exec (.laneWindowEnd p (some l) 0) s = .next s) ∧
    (laneSt s p l = lnBackoff → Gives (.laneBackoffEnd p l) s fun t => moved t lnSigdet [] [.link] ∧ (t.port p).own.contains l.val = true) ∧
    (laneSt s p l ≠ lnBackoff → exec (.laneBackoffEnd p l) s = .next s) ∧
    (valid = false → exec (.statusWord p w al late) s = .next s) ∧
    (valid = true → Gives (.statusWord p w al late) s fun t => rd t (Reg.LINK_PARTNER_DEVICE_ID p) = b.getD 2 0 * 256 + b.getD 3 0 ∧
      rd t (Reg.LINK_PARTNER_RX_GOOD p) = b.getD 4 0 ∧ rd t (Reg.LINK_PARTNER_FLAGS p) = b.getD 5 0 % 64 ∧ rd t (Reg.LINK_PARTNER_VALID p) = 1 ∧
      (portSt s p = pBackoff → portSt t p = pBackoff) ∧
      (portSt s p = pDeskew → late = 0 → groupOf m ≠ 0 → al = true → 2 ≤ (s.port p).agree → (s.port p).agreeMask = m →
        portSt t p = pUp ∧ rd t (Reg.LINK_STATUS_GROUP p) = groupOf m ∧ (t.port p).backoff = 0) ∧
      (portSt s p = pDeskew → late = 0 → al = false ∨ groupOf m = 0 ∨ (s.port p).agree < 2 ∨ (s.port p).agreeMask ≠ m → portSt t p = pDeskew) ∧
      (portSt s p = pUp → m &&& rd s (Reg.LINK_STATUS_GROUP p) = rd s (Reg.LINK_STATUS_GROUP p) → portSt t p = pUp)) ∧
    (portUp s p = true → Gives (.statusWordDue p) s fun t => t.link.words = s.link.words ++ [(p.val, statusBytes s p)] ∧ Frame s t [] [.link]) ∧
    (portUp s p = false → exec (.statusWordDue p) s = .next s ∧ exec (.retrain p) s = .next s) ∧
    (portSt s p = pDeskew → Gives (.portDeskewTimeout p) s backoff) ∧
    (portSt s p ≠ pDeskew → exec (.portDeskewTimeout p) s = .next s) ∧
    (portUp s p = true → on s (Reg.LINK_CTRL_AUTO_WIDEN p) = true → rd s (Reg.LINK_STATUS_WIDTH p) < widthCode good → Gives (.portWiden p) s fun t =>
      portSt t p = pDeskew ∧ rd t (Reg.LINK_STATUS_GROUP p) = good ∧ (room → event t 0x3002)) ∧
    (portUp s p = false ∨ on s (Reg.LINK_CTRL_AUTO_WIDEN p) = false ∨ widthCode good ≤ rd s (Reg.LINK_STATUS_WIDTH p) → exec (.portWiden p) s = .next s) ∧
    (portUp s p = true → Gives (.retrain p) s fun t => training t fresh ∧ count t (Reg.LINK_COUNT_DOWN_CNT p) 1 ∧ (room → event t 0x3002)) ∧
    (portSt s p = pBackoff → Gives (.portBackoffEnd p) s fun t => training t (attemptRate s p % 4) ∧ rd t (Reg.LINK_STATUS_BACKOFF_MS p) = 0) ∧
    (portSt s p ≠ pBackoff → exec (.portBackoffEnd p) s = .next s) ∧
    (portSt s p = pStop → portHeld s p = false → s.link.started = true → Gives (.portEnable p true) s fun t => training t fresh ∧ rd t (Reg.LINK_CTRL_EN p) = 1) ∧
    (portSt s p ≠ pStop → Gives (.portEnable p true) s fun t => rd t (Reg.LINK_CTRL_EN p) = 1 ∧ Frame s t [Reg.LINK_CTRL_EN p] []) ∧
    (portSt s p ≠ pStop → Gives (.portEnable p false) s fun t => rd t (Reg.LINK_CTRL_EN p) = 0 ∧ portSt t p = pStop ∧ (∀ k < 8, laneSt t p k = lnOff) ∧
      rd t (Reg.LINK_PARTNER_VALID p) = 0) ∧
    (portSt s p = pStop → Gives (.portEnable p false) s fun t => rd t (Reg.LINK_CTRL_EN p) = 0 ∧ Frame s t [Reg.LINK_CTRL_EN p] []) ∧
    (let n := v.toNat
      let scan := [Reg.LINK_EYE_CTRL_LANE p, Reg.LINK_EYE_CTRL_MODE p, Reg.LINK_EYE_CTRL_PHASE p, Reg.LINK_EYE_CTRL_VOLT p, Reg.LINK_EYE_CTRL_DWELL p,
        Reg.LINK_EYE_CTRL_ABORT p, Reg.LINK_EYE_CTRL_REFUSED p]
      (bit n 31 = true → on s (Reg.LINK_EYE_CTRL_BUSY p) = true ∨ laneSt s p (bits n 0 3) ≠ lnGood → Gives (.eyeScan p v) s fun t =>
        rd t (Reg.LINK_EYE_CTRL_REFUSED p) = 1 ∧ Frame s t scan []) ∧
      (bit n 31 = true → on s (Reg.LINK_EYE_CTRL_BUSY p) = false → laneSt s p (bits n 0 3) = lnGood → Gives (.eyeScan p v) s fun t =>
        rd t (Reg.LINK_EYE_CTRL_BUSY p) = 1 ∧ (t.port p).eyeLane = bits n 0 3 ∧ (t.port p).eyeMode = bits n 3 1 ∧ rd t (Reg.LINK_EYE_CTRL_PHASE p) = bits n 4 6 ∧
        rd t (Reg.LINK_EYE_CTRL_VOLT p) = bits n 11 7 ∧ rd t (Reg.LINK_EYE_CTRL_DWELL p) = bits n 18 4 ∧ Frame s t (Reg.LINK_EYE_CTRL_BUSY p :: scan) [.link]) ∧
      (bit n 31 = false → Gives (.eyeScan p v) s fun t => rd t (Reg.LINK_EYE_CTRL_LANE p) = bits n 0 3 ∧ Frame s t scan [])) ∧
    (on s (Reg.LINK_EYE_CTRL_BUSY p) = true → Gives (.eyeDone p errs x0 x1 x2 x3) s fun t => rd t (Reg.LINK_EYE_CTRL_BUSY p) = 0 ∧ (Room s → Queued s t 0x3008 0) ∧
      ((s.port p).eyeMode = 0 → rd t (Reg.LINK_EYE_RESULT_ERRORS p) = errs.toNat) ∧
      ((s.port p).eyeMode ≠ 0 → rd t (Reg.LINK_EYE_SUMMARY_LEFT p) = x0.toNat ∧ rd t (Reg.LINK_EYE_SUMMARY_RIGHT p) = x1.toNat ∧
        rd t (Reg.LINK_EYE_SUMMARY_TOP p) = x2.toNat ∧ rd t (Reg.LINK_EYE_SUMMARY_BOTTOM p) = x3.toNat)) ∧
    (on s (Reg.LINK_EYE_CTRL_BUSY p) = false → exec (.eyeDone p errs x0 x1 x2 x3) s = .next s) ∧
    (on s (Reg.LINK_CFG_BOND 0) = false → portUp s 0 = true → on s (Reg.LINK_STATUS_ACTIVE_UP 1) = true → Gives .upstreamRevert s fun t =>
      rd t (Reg.LINK_STATUS_ACTIVE_UP 0) = 1 ∧ rd t (Reg.LINK_STATUS_ACTIVE_UP 1) = 0 ∧ t.link.lastUp = some 0 ∧
      (s.link.lastUp = some 1 → Room s → Queued s t 0x3009 16)) ∧
    (on s (Reg.LINK_CFG_BOND 0) = true ∨ portUp s 0 = false ∨ on s (Reg.LINK_STATUS_ACTIVE_UP 1) = false → exec .upstreamRevert s = .next s) ∧
    (portUp s 0 = false → portUp s 1 = false → s.link.upLost = false → Gives .uploss s fun t => t.link.upLost = true ∧ (Room s → Queued s t 0x3006 0) ∧
      Frame s t eventRegs [.link, .events]) ∧
    (portUp s 0 = true ∨ portUp s 1 = true ∨ s.link.upLost = true → exec .uploss s = .next s) ∧
    Within (.laneMarkerGood p l) s [.events, .time, .link] ∧ Within (.laneLos p l) s [.events, .time, .link, .free] ∧ Within (.laneMarkersBad p l) s [.events, .time, .link, .free] ∧ Within (.laneWindowEnd p none los) s [.events, .time, .link, .free] ∧ Within (.statusWord p w al late) s [.events, .time, .link, .free] ∧ Within (.portDeskewTimeout p) s [.events, .time, .link] ∧ Within (.portWiden p) s [.events, .time, .link] ∧
    Within (.retrain p) s [.events, .time, .link, .free] ∧ Within (.portBackoffEnd p) s [.events, .time, .link, .free] ∧ Within (.portEnable p al) s [.events, .time, .link, .free] ∧ Within (.eyeDone p errs x0 x1 x2 x3) s [.events] ∧ Within .upstreamRevert s [.events, .time, .link]

/-! ### Housekeeping and temperature (chapter 15) -/

/-- Converters, bias outputs, PWM outputs and sensors (R317 to R336, R338, R339, R378): triggers and overruns, the vendor's run and the suspended host sequence, results, limits, the cross-check and the
self-check, the enable check, the commit, faults, range switches, sine updates, PWM periods, samples with the thermal level they give, the tamper of a hub reading outside R378's band, and the enforced steps. -/
def Obligations.HousekeepingAndTemperature : Prop :=
  ∀ (s : State) (k q : Fin 2) (i : Fin 32) (u : Fin 128) (cs : List (BitVec 16)) (xs ys : List (BitVec 12)) (temps : List (BitVec 16)) (tp : BitVec 16) (b : Bool) (w : Wake),
    let x := s.conv k
    let other := s.conv (1 - k.val)
    let enabled := enabledRegions s
    (∀ e ∈ [(0, Instr.hkGo k q), (1, .hkPeriodTrigger k q)],
      (rd s (Reg.HK_SEQ_TRIG k q) ≠ e.1 ∨ hkHostMode s = false ∨ on s (Reg.HK_SEQ_EN k q) = false → exec e.2 s = .next s) ∧
      (rd s (Reg.HK_SEQ_TRIG k q) = e.1 → hkHostMode s = true → on s (Reg.HK_SEQ_EN k q) = true →
        (on s (Reg.HK_SEQ_BUSY k q) = true → Gives e.2 s fun t => rd t (Reg.HK_SEQ_OVERRUN k q) = 1 ∧
          (rd s (Reg.HK_SEQ_OVERRUN k q) = 0 → Room s → Queued s t 0x2084 0) ∧ Frame s t (Reg.HK_SEQ_OVERRUN k q :: eventRegs) [.events]) ∧
        (on s (Reg.HK_SEQ_BUSY k q) = false → x.run.isSome = true → Gives e.2 s fun t => rd t (Reg.HK_SEQ_BUSY k q) = 1 ∧
          (t.conv k) = { x with pend := x.pend ++ [q.val] } ∧ Frame s t [Reg.HK_SEQ_BUSY k q] [.hk]) ∧
        (on s (Reg.HK_SEQ_BUSY k q) = false → x.run = none → x.powered = true → x.starting = false → x.phase = 0 → x.susp = none → x.pend = [] →
          Gives e.2 s fun t => rd t (Reg.HK_SEQ_BUSY k q) = 1 ∧ (t.conv k) = { x with run := some (k.val, q.val, 0) } ∧ Frame s t [Reg.HK_SEQ_BUSY k q] [.hk]))) ∧
    (hkMode s = false → exec .hkVendorTrigger s = .next s) ∧
    (hkMode s = true → x.cond ≠ 2 → x.phase = 0 → Gives .hkVendorTrigger s fun t => rd t (Reg.HK_SEQ_BUSY k 2) = 1 ∧ rd t (Reg.HK_SEQ_BUSY k 3) = 1 ∧
      (x.run.isSome = true → (t.conv k).phase = 1 ∧ (t.conv k).run = x.run) ∧
      (x.run = none → x.starting = false → x.powered = true → (t.conv k).phase = 2 ∧ (t.conv k).run = some (k.val, 2, 0)) ∧
      (x.run = none → x.starting = false → x.powered = false → (t.conv k).phase = 1 ∧ (t.conv k).starting = true)) ∧
    (x.starting = false → exec (.hkStartupDone k) s = .next s) ∧
    (x.starting = true → x.run = none → x.phase = 1 → Gives (.hkStartupDone k) s fun t => (t.conv k).powered = true ∧ (t.conv k).starting = false ∧
      (t.conv k).run = some (k.val, 2, 0)) ∧
    (x.run = none → exec (.hkEntryDone k cs) s = .next s ∧ exec (.hkSeqDone k) s = .next s) ∧
    (∀ (kk : Fin 2) (sq : Fin 4) (e : Fin 17), x.run = some (kk.val, sq.val, e.val) →
      let m := rd s (Reg.HK_ENTRY0_MUX kk sq e)
      let r := entryCode m (cs.map BitVec.toInt)
      let lim := outsideLimits s kk sq e m r.1
      (e ≤ rd s (Reg.HK_SEQ_LEN kk sq) → exec (.hkSeqDone k) s = .next s) ∧
      (rd s (Reg.HK_SEQ_LEN kk sq) < e → exec (.hkEntryDone k cs) s = .next s) ∧
      (e ≤ rd s (Reg.HK_SEQ_LEN kk sq) → Gives (.hkEntryDone k cs) s fun t =>
        rd t (Reg.HK_RESULT_VALUE kk sq e) = alignCode m r.1 (on s (Reg.HK_SEQ_ALIGN kk sq)) ∧ rd t (Reg.HK_RESULT_OOR kk sq e) = b2n r.2 ∧
        rd t (Reg.HK_RESULT_LIMIT kk sq e) = b2n lim ∧ rd t (Reg.HK_RESULT_FRESH kk sq e) = 1 ∧ rd t (Reg.HK_RESULT_MUX kk sq e) = m % 128 ∧
        (sq.val ≠ 2 → lim = true → on s (Reg.HK_RESULT_LIMIT kk sq e) = false → Room s → Queued s t 0x2082 (k + 2 * sq + 16 * e)) ∧
        (2 ≤ sq.val ∨ x.phase ≠ 1 ∨ e = rd s (Reg.HK_SEQ_LEN kk sq) → (t.conv k).run = some (kk.val, sq.val, e.val + 1)) ∧
        (sq.val < 2 → x.phase = 1 → e < rd s (Reg.HK_SEQ_LEN kk sq) → x.powered = true → x.starting = false →
          (t.conv k).run = some (k.val, 2, 0) ∧ (t.conv k).phase = 2 ∧ (t.conv k).susp = some (sq.val, e.val + 1))) ∧
      (rd s (Reg.HK_SEQ_LEN kk sq) < e →
        (sq.val = 1 → x.phase = 0 → x.starting = false → x.susp = none → x.pend = [] → Gives (.hkSeqDone k) s fun t => (t.conv k).run = none ∧ rd t (Reg.HK_SEQ_BUSY kk 1) = 0 ∧
          (t.conv k).powered = (x.powered && !apd s k)) ∧
        (sq.val = 2 → other.cond ≠ 2 → other.phase ≠ 4 → Gives (.hkSeqDone k) s fun t => (t.conv k).phase = 4 ∧ (t.conv k).run = none ∧ rd t (Reg.HK_SEQ_BUSY kk 2) = 0) ∧
        (sq.val = 2 → other.cond ≠ 2 → other.phase = 4 → Gives (.hkSeqDone k) s fun t => ∀ j : Fin 2, (t.conv j).phase = 5 ∧ (t.conv j).run = some (j.val, 3, 0)) ∧
        (sq.val = 3 → other.done3 = true →
          let v := fun (j e : Nat) => (rd s (Reg.HK_RESULT_VALUE j 3 e) : Int)
          let tol := rd s Reg.HK_CTRL_XCHK_TOL
          let bad := fun (j : Nat) => decide (tol < (v j 1 - 0xCCD).natAbs)
          ((v 0 0 - v 1 0).natAbs ≤ tol → Gives (.hkSeqDone k) s fun t => ∀ j : Fin 2, (t.conv j).cond = if (s.conv j).cond = 1 then 0 else (s.conv j).cond) ∧
          (tol < (v 0 0 - v 1 0).natAbs → Gives (.hkSeqDone k) s fun t => rd t Reg.HK_STATUS_XCHK_FAIL = 1 ∧
            (bad 0 = bad 1 → ∀ j : Fin 2, (t.conv j).cond = 1) ∧
            ∀ j : Fin 2, bad j = true → bad (1 - j.val) = false → (t.conv j).cond = 2 ∧ (t.conv (1 - j.val)).cond = (s.conv (1 - j.val)).cond ∧
              rd t (Reg.HK_SEQ_EN j 0) = 0 ∧ rd t (Reg.HK_SEQ_EN j 1) = 0)))) ∧
    (
      let ok := (List.range (rd s (Reg.HK_SEQ_LEN k q) + 1)).all fun e =>
        let m := rd s (Reg.HK_ENTRY0_MUX k q e)
        let f := fun (r : Fld) => if muxSigned m then sgn 12 (rd s r) else (rd s r : Int)
        muxOk m && (!on s (Reg.HK_ENTRY0_LIM_EN k q e) || decide (f (Reg.HK_ENTRY1_LO k q e) ≤ f (Reg.HK_ENTRY1_HI k q e)))
      (on s (Reg.HK_SEQ_EN k q) = true ∨ x.cond = 2 → exec (.hkEnable k q) s = .next s) ∧
      (on s (Reg.HK_SEQ_EN k q) = false → x.cond ≠ 2 → ok = true → Gives (.hkEnable k q) s fun t => rd t (Reg.HK_SEQ_EN k q) = 1 ∧ Frame s t [Reg.HK_SEQ_EN k q] []) ∧
      (on s (Reg.HK_SEQ_EN k q) = false → x.cond ≠ 2 → ok = false → Gives (.hkEnable k q) s fun t => rd t (Reg.HK_SEQ_EN k q) = 0 ∧
        rd t Reg.CFG_STATUS_CFG_PAIR_ERR = 1 ∧ t.hk = s.hk)) ∧
    (modeOf s = mIdle ∨ modeOf s = mDiag → Gives .hkSelftest s fun t => rd t Reg.HK_STATUS_SELFTEST_BUSY = 1 ∧ Frame s t [Reg.HK_STATUS_SELFTEST_BUSY] []) ∧
    (modeOf s ≠ mIdle → modeOf s ≠ mDiag → Gives .hkSelftest s fun t => rd t Reg.HK_STATUS_REFUSED = 1 ∧ Frame s t [Reg.HK_STATUS_REFUSED] []) ∧
    (on s Reg.HK_STATUS_SELFTEST_BUSY = false → exec (.hkSelftestDone xs ys) s = .next s) ∧
    (on s Reg.HK_STATUS_SELFTEST_BUSY = true → Gives (.hkSelftestDone xs ys) s fun t => rd t Reg.HK_STATUS_SELFTEST_BUSY = 0 ∧
      let l := if k.val = 0 then xs else ys
      ((∀ n < 16, (((l.getD n 0).toNat : Int) - (128 + 256 * n : Nat)).natAbs ≤ 4) → x.cond = 2 → (t.conv k).cond = 0) ∧
      (x.cond ≠ 2 → (t.conv k).cond = x.cond) ∧ ∀ n < 16, 4 < (((l.getD n 0).toNat : Int) - (128 + 256 * n : Nat)).natAbs → (t.conv k).cond = x.cond) ∧
    (releasing s = true → exec .hkCommit s = .next s) ∧
    (releasing s = false →
      (shadowChanged s hkGroup = false → s.hk.codeWr = [] → s.hk.dutyWr = [] → exec .hkCommit s = .next s) ∧
      (shadowChanged s hkGroup = true → (∀ j < 32, sinePairOk s j = true) → Gives .hkCommit s fun t => t.hk.codeWr = [] ∧ t.hk.dutyWr = [] ∧
        ∀ f : Fld, f.cls = .H → hkGroup.ranges.any (fun r => decide (r.1 ≤ f.key) && decide (f.key < r.2)) = true → rd t f = rdSh s f) ∧
      (shadowChanged s hkGroup = true → sinePairOk s i = false → Gives .hkCommit s fun t => (∀ f : Fld, f.cls = .H → rd t f = rd s f) ∧ t.hk = s.hk)) ∧
    ((s.bias i).loaded = false ∨ rd s (Reg.BIAS_STATUS_STATE i) = 5 → exec (.biasIlimFault i) s = .next s) ∧
    ((s.bias i).loaded = true → rd s (Reg.BIAS_STATUS_STATE i) ≠ 5 → Gives (.biasIlimFault i) s fun t => rd t (Reg.BIAS_STATUS_ILIM i) = 1 ∧
      rd t (Reg.BIAS_STATUS_FAULT i) = 1 ∧ (t.bias i).latched = true ∧ (rd s (Reg.BIAS_STATUS_FAULT i) = 0 → Room s → Queued s t 0x2080 i) ∧
      ((s.bias i).change = false → 2 ≤ rd s (Reg.BIAS_CFG0_FAULT_ACT i) → rd t (Reg.BIAS_STATUS_STATE i) = 5)) ∧
    ((s.bias i).change = false → exec (.biasRangeSwitch i) s = .next s) ∧
    ((s.bias i).change = true → Gives (.biasRangeSwitch i) s fun t => rd t (Reg.BIAS_STATUS_RANGE_ACT i) =
      (match biasWant s i with | some r => r.2.2.1 | none => rd s (Reg.BIAS_CFG0_RANGE i)) % 2) ∧
    (rd s (Reg.BIAS_STATUS_STATE i) ≠ 4 → exec (.biasSineUpdate i) s = .next s) ∧
    (rd s (Reg.BIAS_STATUS_STATE i) = 4 →
      let phi := ((s.bias i).phi + rd s (Reg.BIAS_CFG1_FREQ i)) % 2 ^ 24
      Gives (.biasSineUpdate i) s fun t => (t.bias i).phi = phi ∧ (t.bias i).rate = 0 ∧
        (t.bias i).dst = ((rd s (Reg.BIAS_CFG0_CODE i) : Int) + roundDiv ((rd s (Reg.BIAS_CFG1_AMP i) : Int) * sinTurn phi) (2 ^ 60)).toNat ∧ Frame s t [] [.hk]) ∧
    (s.fuse.grade ≠ 1 → exec (.pwmPeriod u b) s = .next s) ∧
    (s.fuse.grade = 1 →
      let y := s.pwmOf u
      let live := !pwmZero s u && decide (64 ≤ y.duty) && decide (y.duty ≤ 4031)
      Gives (.pwmPeriod u b) s fun t => (t.pwmOf u).duty = rd s (Reg.PWM_DUTY_DUTY u) ∧ rd t (Reg.PWM_DUTY_ZERO u) = b2n (pwmZero t u) ∧
        (live = true → b = false → (t.pwmOf u).strikes = 0 ∧ (t.pwmOf u).latched = y.latched) ∧
        (live = true → b = true → y.strikes < 2 → (t.pwmOf u).strikes = y.strikes + 1) ∧
        (live = true → b = true → 2 ≤ y.strikes → (t.pwmOf u).latched = true ∧ rd t (Reg.PWM_DUTY_FAULT u) = 1 ∧
          (rd s (Reg.PWM_DUTY_FAULT u) = 0 → Room s → Queued s t 0x2081 u)) ∧ Frame s t ([Reg.PWM_DUTY_ZERO u, Reg.PWM_DUTY_FAULT u] ++ eventRegs) [.hk, .events]) ∧
    (sampled s = false → exec (.thermSample temps b) s = .next s) ∧
    (sampled s = true → ∀ v, temps[20]? = some v → on s (Reg.THERM_SENSOR_FAILED 20) = false → (-550 ≤ v.toInt ∧ v.toInt < -500) ∨ (1400 < v.toInt ∧ v.toInt ≤ 1500) →
      Gives (.thermSample temps b) s fun t => t.sec.slots = [] ∧ t.sec.blobs = [] ∧ bit (rd t Reg.SEC_TAMPER_CAUSE) 3 = true ∧
        (s.rst.mtpPulse = false → packageHeld t = true ∧ modeOf t = mBoot)) ∧
    (sampled s = true → (on s (Reg.THERM_SENSOR_FAILED 20) = true ∨ ∀ v, temps[20]? = some v → -500 ≤ v.toInt ∧ v.toInt ≤ 1400) →
      Gives (.thermSample temps b) s fun t => rd t Reg.THERM_STATUS_LEVEL ≠ 3 →
      (∀ n < 22, ∀ v, sensorEnabled s n = true → on s (Reg.THERM_SENSOR_FAILED n) = false → temps[n]? = some v → -550 ≤ v.toInt → v.toInt ≤ 1500 →
        16 ≤ n ∨ s.hk.apart.get n 0 < 10000 → rdI t (Reg.THERM_SENSOR_TEMP n) = v.toInt ∧ rd t (Reg.THERM_SENSOR_VALID n) = 1) ∧
      (∀ n < 22, ∀ v, sensorEnabled s n = true → on s (Reg.THERM_SENSOR_FAILED n) = false → temps[n]? = some v → v.toInt < -550 ∨ 1500 < v.toInt →
        1 ≤ s.hk.outside.get n 0 → rd t (Reg.THERM_SENSOR_FAILED n) = 1 ∧ rd t (Reg.THERM_SENSOR_VALID n) = 0) ∧
      ((∃ n < 22, on t (Reg.THERM_SENSOR_VALID n) = true) →
        let hot := rd t Reg.THERM_STATUS_HOT
        let tj := rdI t (Reg.THERM_SENSOR_TEMP hot)
        let l := rd s Reg.THERM_STATUS_LEVEL
        let h := if l = 0 then (if 1050 ≤ tj then 1 else 0) else if l = 1 then (if tj < 1000 then 0 else 1) else l
        tj < 1250 ∧ hot < 22 ∧ on t (Reg.THERM_SENSOR_VALID hot) = true ∧ rd t Reg.THERM_STATUS_TJ = code 16 tj ∧
        (∀ n < 22, on t (Reg.THERM_SENSOR_VALID n) = true → rdI t (Reg.THERM_SENSOR_TEMP n) ≤ tj) ∧
        rd t Reg.THERM_STATUS_LEVEL = if b = false then h else if h < 2 ∧ 1150 ≤ tj then 2 else if h = 2 ∧ tj < 1100 then (if tj < 1000 then 0 else 1) else h)) ∧
    (
      let steps := Reg.THERM_STATUS_STEP :: (enabled.map Reg.REGION_ADAPT_STATUS_ORDER_REDUCED ++ eventRegs)
      let st := rd s Reg.THERM_STATUS_STEP
      let l := rd s Reg.THERM_STATUS_LEVEL
      let tj := rdI s Reg.THERM_STATUS_TJ
      (l = 2 → 1150 ≤ tj → st < 3 → Gives .thermalGraceEnd s fun t => rd t Reg.THERM_STATUS_STEP = st + 1 ∧ (Room s → Queued s t 0x6003 0) ∧
        (∀ g ∈ enabled, rd t (Reg.REGION_ADAPT_STATUS_ORDER_REDUCED g) = b2n (st == 2)) ∧ Frame s t steps [.events]) ∧
      (l ≠ 2 ∨ tj < 1150 ∨ 3 ≤ st → exec .thermalGraceEnd s = .next s) ∧
      (l < 2 → 0 < st → st ≤ 3 → Gives .thermalRelease s fun t => rd t Reg.THERM_STATUS_STEP = st - 1 ∧ (st = 1 → Room s → Queued s t 0x6004 0) ∧
        (∀ g ∈ enabled, rd t (Reg.REGION_ADAPT_STATUS_ORDER_REDUCED g) = 0) ∧ Frame s t steps [.events]) ∧
      (2 ≤ l ∨ st = 0 → exec .thermalRelease s = .next s)) ∧
    (sleeping s = false → exec (.thermSleepSample tp w) s = .next s) ∧
    (sleeping s = true → -500 ≤ tp.toInt → tp.toInt < 1250 → Gives (.thermSleepSample tp w) s fun t => rdI t (Reg.THERM_SENSOR_TEMP 20) = tp.toInt ∧
      rd t (Reg.THERM_SENSOR_VALID 20) = 1 ∧ Frame s t [Reg.THERM_SENSOR_TEMP 20, Reg.THERM_SENSOR_VALID 20] []) ∧
    (sleeping s = true → 1250 ≤ tp.toInt → tp.toInt ≤ 1400 → Gives (.thermSleepSample tp w) s fun t => rd t Reg.THERM_STATUS_LEVEL = 3) ∧
    (sleeping s = true → tp.toInt < -500 ∨ 1400 < tp.toInt → Gives (.thermSleepSample tp w) s fun t => t.sec.slots = [] ∧ t.sec.blobs = [] ∧
      bit (rd t Reg.SEC_TAMPER_CAUSE) 3 = true) ∧
    Within (.hkGo k q) s [.events, .hk] ∧ Within .hkVendorTrigger s [.hk] ∧ Within (.hkStartupDone k) s [.hk] ∧ Within (.hkEntryDone k cs) s [.events, .hk] ∧ Within (.hkSeqDone k) s [.events, .hk] ∧ Within (.hkSelftestDone xs ys) s [.hk] ∧ Within .hkCommit s [.silent, .events, .hk] ∧ Within (.biasIlimFault i) s [.events, .hk] ∧
    Within (.biasRangeSwitch i) s [.hk]

/-! ### Power, sleep and supply (chapter 16) -/

/-- Idle timers, the sleep vote and its commit, the mode schedule, wakes, sentinel samples, voltage, residency, supply stages and the clock monitor (R29, R345 to R362): each request
and answer in the states in which it counts, an accepted vote that ends in its sleep mode with a snapshot, a refused one in back-off, wakes into IDLE, stages that never change the mode. -/
def Obligations.PowerSleepAndSupply : Prop :=
  ∀ (s : State) (tile : Fin 4) (d : Fin 20) (v : Fin 8) (n r : Fin 5) (st : Fin 7) (rail : Fin 11) (ack nak : Bool) (ix : BitVec 16) (w : Wake) (tp ref core sec : BitVec 16)
    (slack : List (BitVec 16)) (nows : List (List (BitVec 8 × Bool))),
    let asleep := s.power.target = mSentinel ∨ s.power.target = mBrumate
    let failed := fun (t : State) (m : Nat) => rd t Reg.PWR_STATUS_VOTE = 3 ∧ modeBusy t = false ∧ t.power.backoff = s.power.backoff + 1 ∧
      rd t Reg.PWR_SLEEP_SLEEP_REFUSED = (rd s Reg.PWR_SLEEP_SLEEP_REFUSED ||| m) % 1024 ∧ rd t Reg.PWR_SLEEP_SLEEP_CNT = min (rd s Reg.PWR_SLEEP_SLEEP_CNT + 1) 63 ∧
      (Room s → Queued s t 0x5003 m) ∧ Frame s t ([Reg.PWR_STATUS_VOTE, Reg.MODE_STATUS_BUSY, Reg.MODE_STATUS_TARGET, Reg.PWR_SLEEP_SLEEP_REFUSED,
        Reg.PWR_SLEEP_SLEEP_CNT] ++ eventRegs) [.power, .events]
    let acc := fun (k : Nat) => s.power.accepted.contains k
    let all := ∀ k < 8, acc k = true ∨ k = v ∨ (k = 7 ∧ s.power.target = mBrumate)
    let awake := fun (t : State) => modeOf t = mIdle ∧ t.power.snap = none
    let safe := w.fails = [] ∧ essentialFailed s = false
    let c := sentCluster s
    let k := stageOf s
    (∀ e ∈ [(Instr.tileIdleTimeout tile, 8 + tile.val, domQuiesced), (.memIdleTimeout, 2, domPowerDown)],
      (modeOf s = mIdle → domState s e.2.1 = domOn → domEnabled s e.2.1 = true → domainUsed s e.2.1 = false → Gives e.1 s fun t =>
        domState t e.2.1 = (if domFailed s e.2.1 then domOff else e.2.2) ∧ Frame s t [Reg.PWR_DOM_STATE e.2.1] []) ∧
      (modeOf s ≠ mIdle ∨ domState s e.2.1 ≠ domOn ∨ domEnabled s e.2.1 = false ∨ domainUsed s e.2.1 = true → exec e.1 s = .next s)) ∧
    (packageHeld s = true ∨ domFailed s d = true ∨ domEnabled s d = false → exec (.domainWakeDone d) s = .next s) ∧
    (packageHeld s = false → domFailed s d = false → domEnabled s d = true →
      (d.val = 2 ∧ domState s 2 = domPowerDown ∨ 8 ≤ d.val ∧ d.val ≤ 11 ∧ domState s d = domQuiesced → Gives (.domainWakeDone d) s fun t => domState t d = domOn) ∧
      (d.val = 2 ∧ domState s 2 ≠ domPowerDown ∨ 8 ≤ d.val ∧ d.val ≤ 11 ∧ domState s d ≠ domQuiesced ∨ 12 ≤ d.val ∧ d.val - 12 ∉ s.power.woken →
        exec (.domainWakeDone d) s = .next s)) ∧
    (packageHeld s = true → exec (.modeScheduleDue ix) s = .next s) ∧
    (packageHeld s = false → modeBusy s = true → modeOf s ≠ mBoot → Gives (.modeScheduleDue ix) s fun t =>
      t.power = { s.power with due := s.power.due ++ [ix.toNat] } ∧ Frame s t [] [.power]) ∧
    (packageHeld s = false → modeBusy s = false →
      (scheduleEntry s ix.toNat = none ∨ modeOf s = mSentinel ∨ modeOf s = mBrumate → exec (.modeScheduleDue ix) s = .next s) ∧
      (∀ at' period target, scheduleEntry s ix.toNat = some (at', period, target) → (period = 0 → ix.toNat ∉ s.power.acted) →
        (modeOf s = mIdle → on s Reg.PWR_STATUS_SLEEP_PEND = false → target = mSentinel ∨ target = mBrumate → Gives (.modeScheduleDue ix) s fun t =>
          voting t = true ∧ rd t Reg.PWR_STATUS_SLEEP_PEND = 1 ∧ modeBusy t = true ∧ modeTarget t = target ∧ t.power.target = target ∧ t.power.cause = 2) ∧
        (modeOf s = mIdle → on s Reg.PWR_STATUS_SLEEP_PEND = true → target = mIdle → Gives (.modeScheduleDue ix) s fun t => rd t Reg.PWR_STATUS_SLEEP_PEND = 0) ∧
        (modeOf s ≠ mIdle → modeOf s ≠ mSentinel → modeOf s ≠ mBrumate → Gives (.modeScheduleDue ix) s fun t =>
          (Room s → Queued s t 0x1003 (modeOf s + 16 * target + 512 + 4096)) ∧ Frame s t eventRegs [.power, .events]))) ∧
    (voting s = false ∨ acc v = true → exec (.voterAnswer v) s = .next s) ∧
    (voting s = true → acc v = false →
      (voterRefuses s v = true → s.power.due = [] → Gives (.voterAnswer v) s fun t => failed t (2 ^ v.val)) ∧
      (voterRefuses s v = false → ¬all → Gives (.voterAnswer v) s fun t => t.power = { s.power with accepted := v.val :: s.power.accepted } ∧ Frame s t [] [.power]) ∧
      (voterRefuses s v = false → all → asleep → Gives (.voterAnswer v) s fun t => modeOf t = s.power.target ∧ t.power.snap.isSome = true)) ∧
    (voting s = false → exec .sleepVoteTimeout s = .next s) ∧
    (voting s = true → s.power.due = [] → Gives .sleepVoteTimeout s fun t =>
      failed t (((List.range 8).filter fun j => !acc j && !(j == 7 && s.power.target == mBrumate)).foldl (fun m j => setBit m j) 512)) ∧
    (rd s Reg.PWR_STATUS_VOTE = 3 → on s Reg.PWR_STATUS_SLEEP_PEND = true → modeOf s = mIdle → modeBusy s = false → Gives .sleepRetry s fun t =>
      voting t = true ∧ modeBusy t = true ∧ modeTarget t = s.power.target % 8 ∧ t.power = { s.power with accepted := [], refused := [] } ∧
      Frame s t [Reg.PWR_STATUS_VOTE, Reg.MODE_STATUS_BUSY, Reg.MODE_STATUS_TARGET] [.power]) ∧
    (rd s Reg.PWR_STATUS_VOTE ≠ 3 ∨ on s Reg.PWR_STATUS_SLEEP_PEND = false ∨ modeOf s ≠ mIdle ∨ modeBusy s = true → exec .sleepRetry s = .next s) ∧
    (on s Reg.PWR_STATUS_SLEEP_PEND = true → Gives .cancel s fun t => rd t Reg.PWR_STATUS_SLEEP_PEND = 0 ∧ rd t Reg.PWR_STATUS_VOTE = 0 ∧ t.power.target = 0 ∧
      modeBusy t = (modeBusy s && !voting s) ∧ Frame s t [Reg.PWR_STATUS_VOTE, Reg.PWR_STATUS_SLEEP_PEND, Reg.MODE_STATUS_BUSY, Reg.MODE_STATUS_TARGET] [.power]) ∧
    (on s Reg.PWR_STATUS_SLEEP_PEND = false → exec .cancel s = .next s) ∧
    (modeOf s ≠ mSentinel ∨ domState s (8 + c / 4) ≠ domRetain ∨ domFailed s (12 + c / 2) = true ∨ packageHeld s = true → exec (.sentinelSample tp w) s = .next s) ∧
    (modeOf s = mSentinel → domState s (8 + c / 4) = domRetain → domFailed s (8 + c / 4) = false → domFailed s (12 + c / 2) = false → packageHeld s = false → c < 16 →
      tp.toInt < 1250 → Gives (.sentinelSample tp w) s fun t => domState t (8 + c / 4) = domOn ∧ domState t (12 + c / 2) = domOn ∧
        rdI t (Reg.THERM_SENSOR_TEMP c) = max (-550) tp.toInt ∧ (loState t c = loLocking ∨ loState t c = loCal)) ∧
    (sampling s = false → exec (.sentinelWindowEnd nows w) s = .next s) ∧
    (sampling s = true → c < 16 → loState s c ≠ loLocked ∨ detected s nows = none → Gives (.sentinelWindowEnd nows w) s fun t => modeOf t = mSentinel ∧ loState t c = loOff ∧
      domState t (8 + c / 4) = (if domFailed s (8 + c / 4) then domOff else domRetain)) ∧
    (sampling s = true → sleeping s = true → loState s c = loLocked → (detected s nows).isSome = true → safe → Gives (.sentinelWindowEnd nows w) s awake) ∧
    (sleeping s = false → exec (.linkWakePattern w) s = .next s ∧ exec (.wakePin w) s = .next s ∧ exec (.aonTimer none w) s = .next s ∧ exec (.aonTimer (some ix) w) s = .next s) ∧
    (sleeping s = true → safe → w.testsOk = true → Gives (.linkWakePattern w) s awake ∧
      (modeOf s = mBrumate → on s Reg.PWR_BRUM_WAKE_PIN_EN = true → Gives (.wakePin w) s awake) ∧
      (modeOf s = mBrumate → rd s Reg.PWR_BRUM_BRUM_TIMER ≠ 0 → Gives (.aonTimer none w) s awake) ∧
      (scheduleWakes s ix.toNat = true → Gives (.aonTimer (some ix) w) s awake)) ∧
    (modeOf s ≠ mBrumate ∨ on s Reg.PWR_BRUM_WAKE_PIN_EN = false → exec (.wakePin w) s = .next s) ∧
    (modeOf s ≠ mBrumate ∨ rd s Reg.PWR_BRUM_BRUM_TIMER = 0 → exec (.aonTimer none w) s = .next s) ∧
    (scheduleWakes s ix.toNat = false → exec (.aonTimer (some ix) w) s = .next s) ∧
    (
      let st := domState s d
      let now := (starting s && ((stepNow s == 3 && decide (d.val < 8)) || (stepNow s == 5 && decide (8 ≤ d.val)))) ||
        (!packageHeld s && modeOf s != mBoot && (st == domQuiesced || st == domPowerDown || st == domGated || st == domRetain)) || (sampling s && d.val == 8 + c / 4)
      (now = false ∨ wakeStepOk d n = false → exec (.wakeStepTimeout n d) s = .next s) ∧
      (now = true → wakeStepOk d n = true → domFailed s d = false → domEnabled s d = true → essentialFailed s = false → n.val ≠ 1 → 8 ≤ d.val →
        Gives (.wakeStepTimeout n d) s fun t => domFailed t d = true ∧ domState t d = domOff ∧ rd t (Reg.PWR_DOM_FAIL_STEP d) = n ∧ (Room s → Queued s t 0x5004 d) ∧
          Frame s t ([Reg.PWR_DOM_FAILED d, Reg.PWR_DOM_STATE d, Reg.PWR_DOM_FAIL_STEP d] ++ eventRegs) [.events, .absent])) ∧
    (packageHeld s = true → exec (.avsLoop slack) s = .next s) ∧
    (packageHeld s = false → modeOf s < 8 → Gives (.avsLoop slack) s fun t => rd t (Reg.PWR_RES_MODE_RES (modeOf s)) = (rd s (Reg.PWR_RES_MODE_RES (modeOf s)) + 1) % 2 ^ 32 ∧
      ∀ x, slack[r.val]? = some x →
        let y := rd s (Reg.PWR_AVS_TARGET r)
        rd t (Reg.PWR_AVS_TARGET r) = if railOn s r = true ∧ on s (Reg.PWR_AVS_EN r) = true then
          min 850 (max 620 (if x.toInt < 5 * rd s (Reg.PWR_AVS_AVS_LO r) then y + 5 else if 5 * rd s (Reg.PWR_AVS_AVS_HI r) < x.toInt then y - 5 else y)) else y) ∧
    (s.power.avs.find? (fun p => p.1 == r.val) = none → exec (.avsAckTimeout r nak) s = .next s) ∧
    (∀ rr old m, s.power.avs.find? (fun p => p.1 == r.val) = some (rr, old, m) →
      (m < 3 → Gives (.avsAckTimeout r nak) s fun t => t.power.avs.get r (0, 0) = (old, m + 1) ∧ Frame s t [Reg.PWR_AVS_NAK_CNT r] [.power]) ∧
      (3 ≤ m → Gives (.avsAckTimeout r nak) s fun t => rd t (Reg.PWR_AVS_TARGET r) = old % 1024 ∧ (Room s → Queued s t 0x5006 0) ∧
        Frame s t ([Reg.PWR_AVS_NAK_CNT r, Reg.PWR_AVS_TARGET r] ++ eventRegs) [.power, .events])) ∧
    (s.rst.mtpPulse = false → Gives (.supplyStageEnter 6 rail ack) s fun t => packageHeld t = true ∧ modeOf t = mBoot) ∧
    (st.val < 6 → packageHeld s = true ∨ modeOf s = mSentinel ∨ modeOf s = mBrumate ∨ st.val ≤ k → exec (.supplyStageEnter st rail ack) s = .next s) ∧
    (st.val < 6 → packageHeld s = false → modeOf s ≠ mSentinel → modeOf s ≠ mBrumate → k < st.val → Gives (.supplyStageEnter st rail ack) s fun t => stageOf t = st.val ∧
      modeOf t = modeOf s ∧ (k < 2 → 2 ≤ st.val → ∀ g ∈ enabledRegions s, rd t (Reg.REGION_ADAPT_STATUS_FROZEN_S2 g) = 1)) ∧
    (packageHeld s = true ∨ k = 0 → exec .supplyStageRestore s = .next s) ∧
    (packageHeld s = false → 0 < k → k ≤ 5 → Gives .supplyStageRestore s fun t => stageOf t = k - 1 ∧ modeOf t = modeOf s ∧
      (k = 1 ∨ k = 3 ∨ k = 5 → (Room s → Queued s t 0x5002 (k + 0xF00)) ∧ Frame s t (Reg.PWR_STATUS_STAGE :: eventRegs) [.events]) ∧
      (k = 2 → ∀ g ∈ enabledRegions s, rd t (Reg.REGION_ADAPT_STATUS_FROZEN_S2 g) = 0 ∧ fallback t g = false)) ∧
    Gives .resClr s (fun t => (∀ j < 8, rd t (Reg.PWR_RES_MODE_RES j) = 0 ∧ rd t (Reg.PWR_RES_REGION_RES j) = 0) ∧
      Frame s t ((List.range 8).map Reg.PWR_RES_MODE_RES ++ (List.range 8).map Reg.PWR_RES_REGION_RES) []) ∧
    (
      let good := fun (nominal : Nat) (x : BitVec 16) => 10 * (100 * (x.toNat : Int) - nominal).natAbs ≤ nominal
      (good (refNominal s) ref → good 320000 core → good 40000 sec → refNominal s ≠ 0 → Gives (.clockMonitorWindow ref core sec) s fun t =>
        (∀ j < 3, j ∉ t.rst.badClocks) ∧ modeOf t = modeOf s) ∧
      (good 40000 sec → ¬good 320000 core → 1 ∉ s.rst.badClocks → good (refNominal s) ref → s.rst.mtpPulse = false → Gives (.clockMonitorWindow ref core sec) s fun t =>
        packageHeld t = true ∧ modeOf t = mBoot) ∧
      (refNominal s ≠ 0 → ¬good (refNominal s) ref → 0 ∉ s.rst.badClocks → packageHeld s = false → good 320000 core → good 40000 sec →
        Gives (.clockMonitorWindow ref core sec) s fun t => modeOf t = mSafe ∧ 0 ∈ t.rst.badClocks)) ∧
    Within (.voterAnswer v) s (allBut [.fuse, .rst, .absent, .flash, .sec]) ∧ Within (.supplyStageEnter st rail ack) s (allBut [.fuse, .flash]) ∧ Within .supplyStageRestore s [.events, .newts, .dmas, .hk] ∧ Within (.avsLoop slack) s [.events, .power] ∧ Within (.domainWakeDone d) s [.events, .clusters, .dmas, .power] ∧ Within (.modeScheduleDue ix) s [.events, .power] ∧ Within (.sentinelSample tp w) s (allBut [.fuse, .rst, .pool, .dmas, .flash]) ∧
    Within (.sentinelWindowEnd nows w) s (allBut [.fuse, .pool, .dmas, .flash])

/-! ### Security services (chapter 17) -/

/-- The mailbox services, the debug port and tamper (R368 to R381, Tables 17.3 to 17.9): a service runs only when it waits in the mailbox; ERROR, length, role and mode refuse it in that
order; each gives its status, role, response and effect; and a tamper or a ZEROISE erases every key and asserts the TAMPER source. The values of keys, signatures and random bytes are open. -/
def Obligations.SecurityServices : Prop :=
  ∀ (s : State) (ok : Bool) (dr : BitVec 768) (k : Fin 8) (c : Fin 4),
    let ends := fun (t : State) (status role : Nat) (resp : List Nat) => rd t Reg.SEC_MB_RESULT_STATUS = status ∧ rd t Reg.SEC_MB_RESULT_RLEN = resp.length % 2048 ∧
      rd t Reg.SEC_MB_RESULT_ROLE = role % 4 ∧ rd t Reg.SEC_MB_CTRL_BUSY = 0 ∧ t.sec.job = none ∧
      ∀ i < 256, rd t (Reg.SEC_MB_RSP_RSP i) = ofBytes ((List.range 4).map fun j => resp.getD (4 * i + j) 0)
    let services := [(Instr.selftest ok, 0x02, some 0, 0, [mIdle, mDiag]), (.zeroise, 0x03, some 0, 2, anyMode), (.identity, 0x04, some 0, 0, anyMode), (.keyImport, 0x10, some 236, 0, [mIdle, mSafe]),
      (.keyDelete, 0x11, some 4, 2, [mIdle, mSafe]), (.keyStatus, 0x12, some 0, 0, anyMode), (.rollbackCommit, 0x20, some 0, 2, [mIdle]), (.fuseProgram, 0x30, none, 2, [mIdle]),
      (.fuseRead, 0x31, some 0, 0, anyMode), (.dbgChallenge, 0x40, some 0, 0, [mIdle, mDiag, mSafe]), (.dbgResponse, 0x41, some 96, 0, [mIdle, mDiag, mSafe]), (.random, 0x50, some 2, 1, anyMode)]
    let erased := fun (t : State) => t.sec.slots = [] ∧ t.sec.blobs = [] ∧ t.sec.challenge = none ∧ t.sec.job = none
    let halted := fun (t : State) => s.rst.mtpPulse = false → packageHeld t = true ∧ modeOf t = mBoot
    (s.sec.job = none → ∀ e ∈ services, exec e.1 s = .next s) ∧
    (∀ sv r req, s.sec.job = some (sv, r, req) → ∀ e ∈ services,
      (sv ≠ e.2.1 → exec e.1 s = .next s) ∧
      (sv = e.2.1 →
        (secError s = true → Gives e.1 s fun t => ends t 0x07 r []) ∧
        (secError s = false →
          (e.2.2.1.any (· != req.length) = true → Gives e.1 s fun t => ends t 0x02 r []) ∧
          (e.2.2.1.any (· != req.length) = false → r < e.2.2.2.1 → Gives e.1 s fun t => ends t 0x03 r []) ∧
          (e.2.2.1.any (· != req.length) = false → e.2.2.2.1 ≤ r → e.2.2.2.2.contains (modeOf s) = false → Gives e.1 s fun t => ends t 0x04 r [])))) ∧
    (∀ r, s.sec.job = some (0x01, r, []) → secError s = false → Gives .status s fun t => ∃ w, w < 2 ^ 32 ∧ ends t 0 r (beBytes 4 (wordShow s ((regAt 0xB0000).getD [])) ++ beBytes 4 w)) ∧
    (∀ r req, s.sec.job = some (0x01, r, req) → secError s = true → Gives .status s fun t => ends t 0x07 r []) ∧
    (secError s = false → ∀ r q, modeOf s < 8 →
      (s.sec.job = some (0x02, r, []) → modeOf s = mIdle ∨ modeOf s = mDiag → packageHeld s = false → Gives (.selftest ok) s fun t => ends t (if ok then 0 else 7) r [] ∧
        rd t Reg.SEC_STATUS_STATE = (if ok then 1 else 2) ∧ rd t Reg.SEC_STATUS_APPROVED = b2n (ok && rd s Reg.SEC_STATUS_DBG_UNLOCKED == 0) ∧
        modeOf t = (if ok then modeOf s else mSafe)) ∧
      (s.sec.job = some (0x03, r, []) → 2 ≤ r → Gives .zeroise s fun t => erased t ∧ rd t Reg.SEC_TAMPER_ZEROISED = 1 ∧ halted t) ∧
      (s.sec.job = some (0x04, r, []) → Gives .identity s fun t => ends t 0 r (beBytes 16 s.fuse.uid ++ Config.identityPub s.fuse.duk)) ∧
      (s.sec.job = some (0x10, r, q) → q.length = 236 → modeOf s = mIdle ∨ modeOf s = mSafe →
        let slot := q.getD 0 0
        let good := decide (slot < 8) && (q.getD 1 0 == 1 || q.getD 1 0 == 2) && decide (q.getD 2 0 < 4) && q.getD 3 0 == 0
        (good = false → Gives .keyImport s fun t => ends t 0x02 r [] ∧ t.sec.slots = s.sec.slots) ∧
        (good = true → Gives .keyImport s fun t =>
          if rootOk s (q.getD 2 0) (beBytes 16 s.fuse.uid ++ q.take 140) (q.drop 140) = false then ends t 0x05 r [] ∧ t.sec.slots = s.sec.slots
          else match Config.unwrapKey s.fuse.duk s.fuse.uid ((q.drop 4).take 96) ((q.drop 100).take 40) with
            | none => ends t 0x05 3 [] ∧ t.sec.slots = s.sec.slots
            | some x => ends t 0 3 [] ∧ (∃ y, t.slot slot = some y ∧ y.key = x ∧ y.role = q.getD 1 0 ∧ y.last = 0 ∧ y.up = 0 ∧ t.sec.blobs.get slot none = some y) ∧
              ∀ j, j ≠ slot → t.slot j = s.slot j)) ∧
      (s.sec.job = some (0x11, r, q) → q.length = 4 → 2 ≤ r → modeOf s = mIdle ∨ modeOf s = mSafe →
        (q.getD 0 0 < 8 → (q.drop 1).all (· == 0) = true → Gives .keyDelete s fun t => ends t 0 r [] ∧ t.slot (q.getD 0 0) = none ∧ t.sec.blobs.get (q.getD 0 0) none = none ∧
          bit (rd t Reg.SEC_STATUS_SLOTS) (q.getD 0 0) = false ∧ ∀ j, j ≠ q.getD 0 0 → t.slot j = s.slot j) ∧
        (8 ≤ q.getD 0 0 ∨ (q.drop 1).all (· == 0) = false → Gives .keyDelete s fun t => ends t 0x02 r [] ∧ t.sec.slots = s.sec.slots)) ∧
      (s.sec.job = some (0x12, r, []) → Gives .keyStatus s fun t => ends t 0 r (keyStatusBytes s)) ∧
      (s.sec.job = some (0x20, r, []) → 2 ≤ r → modeOf s = mIdle →
        let old := rd s Reg.SEC_MIN_VER_MIN_VER
        (s.boot.img = none → Gives .rollbackCommit s fun t => ends t 0x04 r [] ∧ rd t Reg.SEC_MIN_VER_MIN_VER = old) ∧
        ∀ i, s.boot.img = some i →
          (rd s Reg.BOOT_STATUS_SLOT = 2 ∨ i.rollback ≤ old → Gives .rollbackCommit s fun t => ends t 0x04 r [] ∧ rd t Reg.SEC_MIN_VER_MIN_VER = old) ∧
          (rd s Reg.BOOT_STATUS_SLOT ≠ 2 → old < i.rollback → 128 ≤ s.sec.copies → Gives .rollbackCommit s fun t => ends t 0x06 r [] ∧ rd t Reg.SEC_MIN_VER_MIN_VER = old) ∧
          (rd s Reg.BOOT_STATUS_SLOT ≠ 2 → old < i.rollback → s.sec.copies < 128 → Gives .rollbackCommit s fun t => ends t 0 r (beBytes 4 i.rollback) ∧
            rd t Reg.SEC_MIN_VER_MIN_VER = i.rollback % 2 ^ 32 ∧ t.sec.copies = s.sec.copies + 1 ∧ t.rst.mtpPulse = true ∧ (Room s → Queued s t 0x7006 0))) ∧
      (s.sec.job = some (0x30, r, q) → 2 ≤ r → modeOf s = mIdle → Gives .fuseProgram s fun t =>
        match fuseGet s.fuse (Config.fuseField (q.getD 0 0)) with
        | none => ends t 0x02 r [] ∧ t.fuse = s.fuse
        | some (n, old, put) =>
          let v := ofBytes (q.drop 4)
          if q.length ≠ 4 + n ∨ (q.drop 1).take 3 ≠ [0, 0, 0] then ends t 0x02 r [] ∧ t.fuse = s.fuse
          else if v &&& old ≠ old then ends t 0x05 r [] ∧ t.fuse = s.fuse
          else if Config.fuseField (q.getD 0 0) = 11 ∧ noRoots s.fuse = false ∧ noRoots (put v) = true then ends t 0x04 r [] ∧ t.fuse = s.fuse
          else ends t 0 r [] ∧ t.fuse = put v ∧ (Room s → Queued s t 0x7007 0)) ∧
      (s.sec.job = some (0x31, r, []) → Gives .fuseRead s fun t => ends t 0 r (fuseBytes s.fuse)) ∧
      (modeOf s = mIdle ∨ modeOf s = mDiag ∨ modeOf s = mSafe →
        (s.sec.job = some (0x40, r, []) → Gives .dbgChallenge s fun t => ∃ nonce : List Nat, nonce.length = 32 ∧
          ends t 0 r (nonce ++ beBytes 16 s.fuse.uid ++ [0, 0, 0, 1]) ∧ t.sec.challenge = some (nonce ++ beBytes 16 s.fuse.uid ++ [0, 0, 0, 1])) ∧
        (s.sec.job = some (0x41, r, q) → q.length = 96 →
          (s.sec.challenge = none → Gives .dbgResponse s fun t => ends t 0x05 r [] ∧ t.sec.challenge = none ∧ t.sec.slots = s.sec.slots) ∧
          ∀ ch, s.sec.challenge = some ch → Gives .dbgResponse s fun t => t.sec.challenge = none ∧ t.sec.blobs = s.sec.blobs ∧
            if rootOk s s.fuse.dbgRoot ch q = true then ends t 0 3 [] ∧ rd t Reg.SEC_STATUS_DBG_UNLOCKED = 1 ∧ t.sec.slots = [] ∧ rd t Reg.SEC_STATUS_APPROVED = 0 ∧
              (Room s → Queued s t 0x7003 0)
            else ends t 0x05 r [] ∧ t.sec.slots = s.sec.slots)) ∧
      (s.sec.job = some (0x50, r, q) → q.length = 2 → 1 ≤ r →
        (1 ≤ ofBytes q → ofBytes q ≤ 1024 → Gives .random s fun t => ∃ bs : List Nat, bs.length = ofBytes q ∧ ends t 0 r bs) ∧
        (ofBytes q = 0 ∨ 1024 < ofBytes q → Gives .random s fun t => ends t 0x02 r []))) ∧
    (secError s = true ∨ (modeOf s ≠ mIdle ∧ modeOf s ≠ mDiag ∧ modeOf s ≠ mSafe) →
      Gives .secChal s (fun t => t.sec = { s.sec with dr := List.replicate 96 0 } ∧ Frame s t [] [.sec]) ∧
      Gives (.secResp dr) s fun t => t.sec = { s.sec with dr := beBytes 96 dr.toNat } ∧ Frame s t [] [.sec]) ∧
    (secError s = false → modeOf s = mIdle ∨ modeOf s = mDiag ∨ modeOf s = mSafe →
      (Gives .secChal s fun t => ∃ nonce : List Nat, nonce.length = 32 ∧ t.sec.challenge = some (nonce ++ beBytes 16 s.fuse.uid ++ [0, 0, 0, 1]) ∧
        t.sec.dr = nonce ++ beBytes 16 s.fuse.uid ++ [0, 0, 0, 1] ++ List.replicate 44 0 ∧ Frame s t [] [.sec, .free]) ∧
      (s.sec.challenge = none → Gives (.secResp dr) s fun t => t.sec = { s.sec with dr := beBytes 96 dr.toNat } ∧ Frame s t [] [.sec]) ∧
      (∀ ch, s.sec.challenge = some ch → Gives (.secResp dr) s fun t => t.sec.challenge = none ∧ t.sec.dr = beBytes 96 dr.toNat ∧
        if rootOk s s.fuse.dbgRoot ch (beBytes 96 dr.toNat) = true then rd t Reg.SEC_STATUS_DBG_UNLOCKED = 1 ∧ t.sec.slots = [] else Frame s t [] [.sec])) ∧
    Gives (.keyLockExpire k) s (fun t => rd t Reg.SEC_STATUS_LOCKED = clrBit (rd s Reg.SEC_STATUS_LOCKED) k % 256 ∧ Frame s t [Reg.SEC_STATUS_LOCKED] []) ∧
    Gives .dbgChallengeExpire s (fun t => t.sec = { s.sec with challenge := none } ∧ Frame s t [] [.sec]) ∧
    (c.val = 0 → s.fuse.tamperEn = 0 → exec (.tamper c) s = .next s) ∧
    (c.val ≠ 0 ∨ s.fuse.tamperEn ≠ 0 → Gives (.tamper c) s fun t => erased t ∧ rd t Reg.SEC_TAMPER_CAUSE = setBit (rd s Reg.SEC_TAMPER_CAUSE) c % 16 ∧ halted t) ∧
    Within .identity s [.sec] ∧ Within .keyImport s [.sec] ∧ Within .keyDelete s [.sec] ∧ Within .keyStatus s [.sec] ∧ Within .rollbackCommit s [.rst, .events, .sec] ∧ Within .fuseProgram s [.fuse, .events, .sec] ∧ Within .fuseRead s [.sec] ∧ Within .dbgChallenge s [.sec, .free] ∧ Within .dbgResponse s [.events, .sec] ∧ Within .random s [.sec, .free] ∧ Within .status s [.sec, .free]
end

