-- ==== Sys2Proof/Laws/State.lean ====
section
/-! SUPPORT. What each update of one part of the state leaves alone: one lemma per part and update. -/

set_option Elab.async false

namespace Sys2Proof.Laws

open Sys2Proof.Machine

/-! ### wr -/

@[simp] theorem wr_hsh (s : State) (f : Fld) (v : Nat) : (wr s f v).hsh = s.hsh := by
  unfold wr; split <;> rfl
@[simp] theorem wr_silent (s : State) (f : Fld) (v : Nat) : (wr s f v).silent = s.silent := by
  unfold wr; split <;> rfl
@[simp] theorem wr_fuse (s : State) (f : Fld) (v : Nat) : (wr s f v).fuse = s.fuse := by
  unfold wr; split <;> rfl
@[simp] theorem wr_rst (s : State) (f : Fld) (v : Nat) : (wr s f v).rst = s.rst := by
  unfold wr; split <;> rfl
@[simp] theorem wr_events (s : State) (f : Fld) (v : Nat) : (wr s f v).events = s.events := by
  unfold wr; split <;> rfl
@[simp] theorem wr_time (s : State) (f : Fld) (v : Nat) : (wr s f v).time = s.time := by
  unfold wr; split <;> rfl
@[simp] theorem wr_air (s : State) (f : Fld) (v : Nat) : (wr s f v).air = s.air := by
  unfold wr; split <;> rfl
@[simp] theorem wr_units (s : State) (f : Fld) (v : Nat) : (wr s f v).units = s.units := by
  unfold wr; split <;> rfl
@[simp] theorem wr_clusters (s : State) (f : Fld) (v : Nat) : (wr s f v).clusters = s.clusters := by
  unfold wr; split <;> rfl
@[simp] theorem wr_beam (s : State) (f : Fld) (v : Nat) : (wr s f v).beam = s.beam := by
  unfold wr; split <;> rfl
@[simp] theorem wr_cal (s : State) (f : Fld) (v : Nat) : (wr s f v).cal = s.cal := by
  unfold wr; split <;> rfl
@[simp] theorem wr_newts (s : State) (f : Fld) (v : Nat) : (wr s f v).newts = s.newts := by
  unfold wr; split <;> rfl
@[simp] theorem wr_mem (s : State) (f : Fld) (v : Nat) : (wr s f v).mem = s.mem := by
  unfold wr; split <;> rfl
@[simp] theorem wr_absent (s : State) (f : Fld) (v : Nat) : (wr s f v).absent = s.absent := by
  unfold wr; split <;> rfl
@[simp] theorem wr_chorus (s : State) (f : Fld) (v : Nat) : (wr s f v).chorus = s.chorus := by
  unfold wr; split <;> rfl
@[simp] theorem wr_link (s : State) (f : Fld) (v : Nat) : (wr s f v).link = s.link := by
  unfold wr; split <;> rfl
@[simp] theorem wr_pool (s : State) (f : Fld) (v : Nat) : (wr s f v).pool = s.pool := by
  unfold wr; split <;> rfl
@[simp] theorem wr_caps (s : State) (f : Fld) (v : Nat) : (wr s f v).caps = s.caps := by
  unfold wr; split <;> rfl
@[simp] theorem wr_dmas (s : State) (f : Fld) (v : Nat) : (wr s f v).dmas = s.dmas := by
  unfold wr; split <;> rfl
@[simp] theorem wr_hk (s : State) (f : Fld) (v : Nat) : (wr s f v).hk = s.hk := by
  unfold wr; split <;> rfl
@[simp] theorem wr_flash (s : State) (f : Fld) (v : Nat) : (wr s f v).flash = s.flash := by
  unfold wr; split <;> rfl
@[simp] theorem wr_boot (s : State) (f : Fld) (v : Nat) : (wr s f v).boot = s.boot := by
  unfold wr; split <;> rfl
@[simp] theorem wr_sec (s : State) (f : Fld) (v : Nat) : (wr s f v).sec = s.sec := by
  unfold wr; split <;> rfl
@[simp] theorem wr_power (s : State) (f : Fld) (v : Nat) : (wr s f v).power = s.power := by
  unfold wr; split <;> rfl
@[simp] theorem wr_free (s : State) (f : Fld) (v : Nat) : (wr s f v).free = s.free := by
  unfold wr; split <;> rfl
@[simp] theorem wr_pending (s : State) (f : Fld) (v : Nat) : (wr s f v).pending = s.pending := by
  unfold wr; split <;> rfl

/-! ### wrSh -/

@[simp] theorem wrSh_act (s : State) (f : Fld) (v : Nat) : (wrSh s f v).act = s.act := rfl
@[simp] theorem wrSh_hact (s : State) (f : Fld) (v : Nat) : (wrSh s f v).hact = s.hact := rfl
@[simp] theorem wrSh_silent (s : State) (f : Fld) (v : Nat) : (wrSh s f v).silent = s.silent := rfl
@[simp] theorem wrSh_fuse (s : State) (f : Fld) (v : Nat) : (wrSh s f v).fuse = s.fuse := rfl
@[simp] theorem wrSh_rst (s : State) (f : Fld) (v : Nat) : (wrSh s f v).rst = s.rst := rfl
@[simp] theorem wrSh_events (s : State) (f : Fld) (v : Nat) : (wrSh s f v).events = s.events := rfl
@[simp] theorem wrSh_time (s : State) (f : Fld) (v : Nat) : (wrSh s f v).time = s.time := rfl
@[simp] theorem wrSh_air (s : State) (f : Fld) (v : Nat) : (wrSh s f v).air = s.air := rfl
@[simp] theorem wrSh_units (s : State) (f : Fld) (v : Nat) : (wrSh s f v).units = s.units := rfl
@[simp] theorem wrSh_clusters (s : State) (f : Fld) (v : Nat) : (wrSh s f v).clusters = s.clusters := rfl
@[simp] theorem wrSh_beam (s : State) (f : Fld) (v : Nat) : (wrSh s f v).beam = s.beam := rfl
@[simp] theorem wrSh_cal (s : State) (f : Fld) (v : Nat) : (wrSh s f v).cal = s.cal := rfl
@[simp] theorem wrSh_newts (s : State) (f : Fld) (v : Nat) : (wrSh s f v).newts = s.newts := rfl
@[simp] theorem wrSh_mem (s : State) (f : Fld) (v : Nat) : (wrSh s f v).mem = s.mem := rfl
@[simp] theorem wrSh_absent (s : State) (f : Fld) (v : Nat) : (wrSh s f v).absent = s.absent := rfl
@[simp] theorem wrSh_chorus (s : State) (f : Fld) (v : Nat) : (wrSh s f v).chorus = s.chorus := rfl
@[simp] theorem wrSh_link (s : State) (f : Fld) (v : Nat) : (wrSh s f v).link = s.link := rfl
@[simp] theorem wrSh_pool (s : State) (f : Fld) (v : Nat) : (wrSh s f v).pool = s.pool := rfl
@[simp] theorem wrSh_caps (s : State) (f : Fld) (v : Nat) : (wrSh s f v).caps = s.caps := rfl
@[simp] theorem wrSh_dmas (s : State) (f : Fld) (v : Nat) : (wrSh s f v).dmas = s.dmas := rfl
@[simp] theorem wrSh_hk (s : State) (f : Fld) (v : Nat) : (wrSh s f v).hk = s.hk := rfl
@[simp] theorem wrSh_flash (s : State) (f : Fld) (v : Nat) : (wrSh s f v).flash = s.flash := rfl
@[simp] theorem wrSh_boot (s : State) (f : Fld) (v : Nat) : (wrSh s f v).boot = s.boot := rfl
@[simp] theorem wrSh_sec (s : State) (f : Fld) (v : Nat) : (wrSh s f v).sec = s.sec := rfl
@[simp] theorem wrSh_power (s : State) (f : Fld) (v : Nat) : (wrSh s f v).power = s.power := rfl
@[simp] theorem wrSh_free (s : State) (f : Fld) (v : Nat) : (wrSh s f v).free = s.free := rfl
@[simp] theorem wrSh_pending (s : State) (f : Fld) (v : Nat) : (wrSh s f v).pending = s.pending := rfl

/-! ### wrBoth -/

@[simp] theorem wrBoth_silent (s : State) (f : Fld) (v : Nat) : (wrBoth s f v).silent = s.silent := by
  unfold wrBoth wrSh wr; split <;> rfl
@[simp] theorem wrBoth_fuse (s : State) (f : Fld) (v : Nat) : (wrBoth s f v).fuse = s.fuse := by
  unfold wrBoth wrSh wr; split <;> rfl
@[simp] theorem wrBoth_rst (s : State) (f : Fld) (v : Nat) : (wrBoth s f v).rst = s.rst := by
  unfold wrBoth wrSh wr; split <;> rfl
@[simp] theorem wrBoth_events (s : State) (f : Fld) (v : Nat) : (wrBoth s f v).events = s.events := by
  unfold wrBoth wrSh wr; split <;> rfl
@[simp] theorem wrBoth_time (s : State) (f : Fld) (v : Nat) : (wrBoth s f v).time = s.time := by
  unfold wrBoth wrSh wr; split <;> rfl
@[simp] theorem wrBoth_air (s : State) (f : Fld) (v : Nat) : (wrBoth s f v).air = s.air := by
  unfold wrBoth wrSh wr; split <;> rfl
@[simp] theorem wrBoth_units (s : State) (f : Fld) (v : Nat) : (wrBoth s f v).units = s.units := by
  unfold wrBoth wrSh wr; split <;> rfl
@[simp] theorem wrBoth_clusters (s : State) (f : Fld) (v : Nat) : (wrBoth s f v).clusters = s.clusters := by
  unfold wrBoth wrSh wr; split <;> rfl
@[simp] theorem wrBoth_beam (s : State) (f : Fld) (v : Nat) : (wrBoth s f v).beam = s.beam := by
  unfold wrBoth wrSh wr; split <;> rfl
@[simp] theorem wrBoth_cal (s : State) (f : Fld) (v : Nat) : (wrBoth s f v).cal = s.cal := by
  unfold wrBoth wrSh wr; split <;> rfl
@[simp] theorem wrBoth_newts (s : State) (f : Fld) (v : Nat) : (wrBoth s f v).newts = s.newts := by
  unfold wrBoth wrSh wr; split <;> rfl
@[simp] theorem wrBoth_mem (s : State) (f : Fld) (v : Nat) : (wrBoth s f v).mem = s.mem := by
  unfold wrBoth wrSh wr; split <;> rfl
@[simp] theorem wrBoth_absent (s : State) (f : Fld) (v : Nat) : (wrBoth s f v).absent = s.absent := by
  unfold wrBoth wrSh wr; split <;> rfl
@[simp] theorem wrBoth_chorus (s : State) (f : Fld) (v : Nat) : (wrBoth s f v).chorus = s.chorus := by
  unfold wrBoth wrSh wr; split <;> rfl
@[simp] theorem wrBoth_link (s : State) (f : Fld) (v : Nat) : (wrBoth s f v).link = s.link := by
  unfold wrBoth wrSh wr; split <;> rfl
@[simp] theorem wrBoth_pool (s : State) (f : Fld) (v : Nat) : (wrBoth s f v).pool = s.pool := by
  unfold wrBoth wrSh wr; split <;> rfl
@[simp] theorem wrBoth_caps (s : State) (f : Fld) (v : Nat) : (wrBoth s f v).caps = s.caps := by
  unfold wrBoth wrSh wr; split <;> rfl
@[simp] theorem wrBoth_dmas (s : State) (f : Fld) (v : Nat) : (wrBoth s f v).dmas = s.dmas := by
  unfold wrBoth wrSh wr; split <;> rfl
@[simp] theorem wrBoth_hk (s : State) (f : Fld) (v : Nat) : (wrBoth s f v).hk = s.hk := by
  unfold wrBoth wrSh wr; split <;> rfl
@[simp] theorem wrBoth_flash (s : State) (f : Fld) (v : Nat) : (wrBoth s f v).flash = s.flash := by
  unfold wrBoth wrSh wr; split <;> rfl
@[simp] theorem wrBoth_boot (s : State) (f : Fld) (v : Nat) : (wrBoth s f v).boot = s.boot := by
  unfold wrBoth wrSh wr; split <;> rfl
@[simp] theorem wrBoth_sec (s : State) (f : Fld) (v : Nat) : (wrBoth s f v).sec = s.sec := by
  unfold wrBoth wrSh wr; split <;> rfl
@[simp] theorem wrBoth_power (s : State) (f : Fld) (v : Nat) : (wrBoth s f v).power = s.power := by
  unfold wrBoth wrSh wr; split <;> rfl
@[simp] theorem wrBoth_free (s : State) (f : Fld) (v : Nat) : (wrBoth s f v).free = s.free := by
  unfold wrBoth wrSh wr; split <;> rfl
@[simp] theorem wrBoth_pending (s : State) (f : Fld) (v : Nat) : (wrBoth s f v).pending = s.pending := by
  unfold wrBoth wrSh wr; split <;> rfl

/-! ### setMemByte -/

@[simp] theorem setMemByte_act (s : State) (a v : Nat) : (setMemByte s a v).act = s.act := rfl
@[simp] theorem setMemByte_hact (s : State) (a v : Nat) : (setMemByte s a v).hact = s.hact := rfl
@[simp] theorem setMemByte_hsh (s : State) (a v : Nat) : (setMemByte s a v).hsh = s.hsh := rfl
@[simp] theorem setMemByte_silent (s : State) (a v : Nat) : (setMemByte s a v).silent = s.silent := rfl
@[simp] theorem setMemByte_fuse (s : State) (a v : Nat) : (setMemByte s a v).fuse = s.fuse := rfl
@[simp] theorem setMemByte_rst (s : State) (a v : Nat) : (setMemByte s a v).rst = s.rst := rfl
@[simp] theorem setMemByte_events (s : State) (a v : Nat) : (setMemByte s a v).events = s.events := rfl
@[simp] theorem setMemByte_time (s : State) (a v : Nat) : (setMemByte s a v).time = s.time := rfl
@[simp] theorem setMemByte_air (s : State) (a v : Nat) : (setMemByte s a v).air = s.air := rfl
@[simp] theorem setMemByte_units (s : State) (a v : Nat) : (setMemByte s a v).units = s.units := rfl
@[simp] theorem setMemByte_clusters (s : State) (a v : Nat) : (setMemByte s a v).clusters = s.clusters := rfl
@[simp] theorem setMemByte_beam (s : State) (a v : Nat) : (setMemByte s a v).beam = s.beam := rfl
@[simp] theorem setMemByte_cal (s : State) (a v : Nat) : (setMemByte s a v).cal = s.cal := rfl
@[simp] theorem setMemByte_newts (s : State) (a v : Nat) : (setMemByte s a v).newts = s.newts := rfl
@[simp] theorem setMemByte_absent (s : State) (a v : Nat) : (setMemByte s a v).absent = s.absent := rfl
@[simp] theorem setMemByte_chorus (s : State) (a v : Nat) : (setMemByte s a v).chorus = s.chorus := rfl
@[simp] theorem setMemByte_link (s : State) (a v : Nat) : (setMemByte s a v).link = s.link := rfl
@[simp] theorem setMemByte_pool (s : State) (a v : Nat) : (setMemByte s a v).pool = s.pool := rfl
@[simp] theorem setMemByte_caps (s : State) (a v : Nat) : (setMemByte s a v).caps = s.caps := rfl
@[simp] theorem setMemByte_dmas (s : State) (a v : Nat) : (setMemByte s a v).dmas = s.dmas := rfl
@[simp] theorem setMemByte_hk (s : State) (a v : Nat) : (setMemByte s a v).hk = s.hk := rfl
@[simp] theorem setMemByte_flash (s : State) (a v : Nat) : (setMemByte s a v).flash = s.flash := rfl
@[simp] theorem setMemByte_boot (s : State) (a v : Nat) : (setMemByte s a v).boot = s.boot := rfl
@[simp] theorem setMemByte_sec (s : State) (a v : Nat) : (setMemByte s a v).sec = s.sec := rfl
@[simp] theorem setMemByte_power (s : State) (a v : Nat) : (setMemByte s a v).power = s.power := rfl
@[simp] theorem setMemByte_free (s : State) (a v : Nat) : (setMemByte s a v).free = s.free := rfl
@[simp] theorem setMemByte_pending (s : State) (a v : Nat) : (setMemByte s a v).pending = s.pending := rfl

/-! ### clearMem -/

@[simp] theorem clearMem_act (s : State) (a b : Nat) : (clearMem s a b).act = s.act := rfl
@[simp] theorem clearMem_hact (s : State) (a b : Nat) : (clearMem s a b).hact = s.hact := rfl
@[simp] theorem clearMem_hsh (s : State) (a b : Nat) : (clearMem s a b).hsh = s.hsh := rfl
@[simp] theorem clearMem_silent (s : State) (a b : Nat) : (clearMem s a b).silent = s.silent := rfl
@[simp] theorem clearMem_fuse (s : State) (a b : Nat) : (clearMem s a b).fuse = s.fuse := rfl
@[simp] theorem clearMem_rst (s : State) (a b : Nat) : (clearMem s a b).rst = s.rst := rfl
@[simp] theorem clearMem_events (s : State) (a b : Nat) : (clearMem s a b).events = s.events := rfl
@[simp] theorem clearMem_time (s : State) (a b : Nat) : (clearMem s a b).time = s.time := rfl
@[simp] theorem clearMem_air (s : State) (a b : Nat) : (clearMem s a b).air = s.air := rfl
@[simp] theorem clearMem_units (s : State) (a b : Nat) : (clearMem s a b).units = s.units := rfl
@[simp] theorem clearMem_clusters (s : State) (a b : Nat) : (clearMem s a b).clusters = s.clusters := rfl
@[simp] theorem clearMem_beam (s : State) (a b : Nat) : (clearMem s a b).beam = s.beam := rfl
@[simp] theorem clearMem_cal (s : State) (a b : Nat) : (clearMem s a b).cal = s.cal := rfl
@[simp] theorem clearMem_newts (s : State) (a b : Nat) : (clearMem s a b).newts = s.newts := rfl
@[simp] theorem clearMem_absent (s : State) (a b : Nat) : (clearMem s a b).absent = s.absent := rfl
@[simp] theorem clearMem_chorus (s : State) (a b : Nat) : (clearMem s a b).chorus = s.chorus := rfl
@[simp] theorem clearMem_link (s : State) (a b : Nat) : (clearMem s a b).link = s.link := rfl
@[simp] theorem clearMem_pool (s : State) (a b : Nat) : (clearMem s a b).pool = s.pool := rfl
@[simp] theorem clearMem_caps (s : State) (a b : Nat) : (clearMem s a b).caps = s.caps := rfl
@[simp] theorem clearMem_dmas (s : State) (a b : Nat) : (clearMem s a b).dmas = s.dmas := rfl
@[simp] theorem clearMem_hk (s : State) (a b : Nat) : (clearMem s a b).hk = s.hk := rfl
@[simp] theorem clearMem_flash (s : State) (a b : Nat) : (clearMem s a b).flash = s.flash := rfl
@[simp] theorem clearMem_boot (s : State) (a b : Nat) : (clearMem s a b).boot = s.boot := rfl
@[simp] theorem clearMem_sec (s : State) (a b : Nat) : (clearMem s a b).sec = s.sec := rfl
@[simp] theorem clearMem_power (s : State) (a b : Nat) : (clearMem s a b).power = s.power := rfl
@[simp] theorem clearMem_free (s : State) (a b : Nat) : (clearMem s a b).free = s.free := rfl
@[simp] theorem clearMem_pending (s : State) (a b : Nat) : (clearMem s a b).pending = s.pending := rfl

/-! ### modUnit -/

@[simp] theorem modUnit_act (s : State) (u : Nat) (g : UnitS → UnitS) : (s.modUnit u g).act = s.act := rfl
@[simp] theorem modUnit_hact (s : State) (u : Nat) (g : UnitS → UnitS) : (s.modUnit u g).hact = s.hact := rfl
@[simp] theorem modUnit_hsh (s : State) (u : Nat) (g : UnitS → UnitS) : (s.modUnit u g).hsh = s.hsh := rfl
@[simp] theorem modUnit_silent (s : State) (u : Nat) (g : UnitS → UnitS) : (s.modUnit u g).silent = s.silent := rfl
@[simp] theorem modUnit_fuse (s : State) (u : Nat) (g : UnitS → UnitS) : (s.modUnit u g).fuse = s.fuse := rfl
@[simp] theorem modUnit_rst (s : State) (u : Nat) (g : UnitS → UnitS) : (s.modUnit u g).rst = s.rst := rfl
@[simp] theorem modUnit_events (s : State) (u : Nat) (g : UnitS → UnitS) : (s.modUnit u g).events = s.events := rfl
@[simp] theorem modUnit_time (s : State) (u : Nat) (g : UnitS → UnitS) : (s.modUnit u g).time = s.time := rfl
@[simp] theorem modUnit_air (s : State) (u : Nat) (g : UnitS → UnitS) : (s.modUnit u g).air = s.air := rfl
@[simp] theorem modUnit_clusters (s : State) (u : Nat) (g : UnitS → UnitS) : (s.modUnit u g).clusters = s.clusters := rfl
@[simp] theorem modUnit_beam (s : State) (u : Nat) (g : UnitS → UnitS) : (s.modUnit u g).beam = s.beam := rfl
@[simp] theorem modUnit_cal (s : State) (u : Nat) (g : UnitS → UnitS) : (s.modUnit u g).cal = s.cal := rfl
@[simp] theorem modUnit_newts (s : State) (u : Nat) (g : UnitS → UnitS) : (s.modUnit u g).newts = s.newts := rfl
@[simp] theorem modUnit_mem (s : State) (u : Nat) (g : UnitS → UnitS) : (s.modUnit u g).mem = s.mem := rfl
@[simp] theorem modUnit_absent (s : State) (u : Nat) (g : UnitS → UnitS) : (s.modUnit u g).absent = s.absent := rfl
@[simp] theorem modUnit_chorus (s : State) (u : Nat) (g : UnitS → UnitS) : (s.modUnit u g).chorus = s.chorus := rfl
@[simp] theorem modUnit_link (s : State) (u : Nat) (g : UnitS → UnitS) : (s.modUnit u g).link = s.link := rfl
@[simp] theorem modUnit_pool (s : State) (u : Nat) (g : UnitS → UnitS) : (s.modUnit u g).pool = s.pool := rfl
@[simp] theorem modUnit_caps (s : State) (u : Nat) (g : UnitS → UnitS) : (s.modUnit u g).caps = s.caps := rfl
@[simp] theorem modUnit_dmas (s : State) (u : Nat) (g : UnitS → UnitS) : (s.modUnit u g).dmas = s.dmas := rfl
@[simp] theorem modUnit_hk (s : State) (u : Nat) (g : UnitS → UnitS) : (s.modUnit u g).hk = s.hk := rfl
@[simp] theorem modUnit_flash (s : State) (u : Nat) (g : UnitS → UnitS) : (s.modUnit u g).flash = s.flash := rfl
@[simp] theorem modUnit_boot (s : State) (u : Nat) (g : UnitS → UnitS) : (s.modUnit u g).boot = s.boot := rfl
@[simp] theorem modUnit_sec (s : State) (u : Nat) (g : UnitS → UnitS) : (s.modUnit u g).sec = s.sec := rfl
@[simp] theorem modUnit_power (s : State) (u : Nat) (g : UnitS → UnitS) : (s.modUnit u g).power = s.power := rfl
@[simp] theorem modUnit_free (s : State) (u : Nat) (g : UnitS → UnitS) : (s.modUnit u g).free = s.free := rfl
@[simp] theorem modUnit_pending (s : State) (u : Nat) (g : UnitS → UnitS) : (s.modUnit u g).pending = s.pending := rfl

/-! ### modRx -/

@[simp] theorem modRx_act (s : State) (u : Nat) (g : RxUnit → RxUnit) : (s.modRx u g).act = s.act := rfl
@[simp] theorem modRx_hact (s : State) (u : Nat) (g : RxUnit → RxUnit) : (s.modRx u g).hact = s.hact := rfl
@[simp] theorem modRx_hsh (s : State) (u : Nat) (g : RxUnit → RxUnit) : (s.modRx u g).hsh = s.hsh := rfl
@[simp] theorem modRx_silent (s : State) (u : Nat) (g : RxUnit → RxUnit) : (s.modRx u g).silent = s.silent := rfl
@[simp] theorem modRx_fuse (s : State) (u : Nat) (g : RxUnit → RxUnit) : (s.modRx u g).fuse = s.fuse := rfl
@[simp] theorem modRx_rst (s : State) (u : Nat) (g : RxUnit → RxUnit) : (s.modRx u g).rst = s.rst := rfl
@[simp] theorem modRx_events (s : State) (u : Nat) (g : RxUnit → RxUnit) : (s.modRx u g).events = s.events := rfl
@[simp] theorem modRx_time (s : State) (u : Nat) (g : RxUnit → RxUnit) : (s.modRx u g).time = s.time := rfl
@[simp] theorem modRx_air (s : State) (u : Nat) (g : RxUnit → RxUnit) : (s.modRx u g).air = s.air := rfl
@[simp] theorem modRx_clusters (s : State) (u : Nat) (g : RxUnit → RxUnit) : (s.modRx u g).clusters = s.clusters := rfl
@[simp] theorem modRx_beam (s : State) (u : Nat) (g : RxUnit → RxUnit) : (s.modRx u g).beam = s.beam := rfl
@[simp] theorem modRx_cal (s : State) (u : Nat) (g : RxUnit → RxUnit) : (s.modRx u g).cal = s.cal := rfl
@[simp] theorem modRx_newts (s : State) (u : Nat) (g : RxUnit → RxUnit) : (s.modRx u g).newts = s.newts := rfl
@[simp] theorem modRx_mem (s : State) (u : Nat) (g : RxUnit → RxUnit) : (s.modRx u g).mem = s.mem := rfl
@[simp] theorem modRx_absent (s : State) (u : Nat) (g : RxUnit → RxUnit) : (s.modRx u g).absent = s.absent := rfl
@[simp] theorem modRx_chorus (s : State) (u : Nat) (g : RxUnit → RxUnit) : (s.modRx u g).chorus = s.chorus := rfl
@[simp] theorem modRx_link (s : State) (u : Nat) (g : RxUnit → RxUnit) : (s.modRx u g).link = s.link := rfl
@[simp] theorem modRx_pool (s : State) (u : Nat) (g : RxUnit → RxUnit) : (s.modRx u g).pool = s.pool := rfl
@[simp] theorem modRx_caps (s : State) (u : Nat) (g : RxUnit → RxUnit) : (s.modRx u g).caps = s.caps := rfl
@[simp] theorem modRx_dmas (s : State) (u : Nat) (g : RxUnit → RxUnit) : (s.modRx u g).dmas = s.dmas := rfl
@[simp] theorem modRx_hk (s : State) (u : Nat) (g : RxUnit → RxUnit) : (s.modRx u g).hk = s.hk := rfl
@[simp] theorem modRx_flash (s : State) (u : Nat) (g : RxUnit → RxUnit) : (s.modRx u g).flash = s.flash := rfl
@[simp] theorem modRx_boot (s : State) (u : Nat) (g : RxUnit → RxUnit) : (s.modRx u g).boot = s.boot := rfl
@[simp] theorem modRx_sec (s : State) (u : Nat) (g : RxUnit → RxUnit) : (s.modRx u g).sec = s.sec := rfl
@[simp] theorem modRx_power (s : State) (u : Nat) (g : RxUnit → RxUnit) : (s.modRx u g).power = s.power := rfl
@[simp] theorem modRx_free (s : State) (u : Nat) (g : RxUnit → RxUnit) : (s.modRx u g).free = s.free := rfl
@[simp] theorem modRx_pending (s : State) (u : Nat) (g : RxUnit → RxUnit) : (s.modRx u g).pending = s.pending := rfl

/-! ### modTx -/

@[simp] theorem modTx_act (s : State) (u : Nat) (g : TxUnit → TxUnit) : (s.modTx u g).act = s.act := rfl
@[simp] theorem modTx_hact (s : State) (u : Nat) (g : TxUnit → TxUnit) : (s.modTx u g).hact = s.hact := rfl
@[simp] theorem modTx_hsh (s : State) (u : Nat) (g : TxUnit → TxUnit) : (s.modTx u g).hsh = s.hsh := rfl
@[simp] theorem modTx_silent (s : State) (u : Nat) (g : TxUnit → TxUnit) : (s.modTx u g).silent = s.silent := rfl
@[simp] theorem modTx_fuse (s : State) (u : Nat) (g : TxUnit → TxUnit) : (s.modTx u g).fuse = s.fuse := rfl
@[simp] theorem modTx_rst (s : State) (u : Nat) (g : TxUnit → TxUnit) : (s.modTx u g).rst = s.rst := rfl
@[simp] theorem modTx_events (s : State) (u : Nat) (g : TxUnit → TxUnit) : (s.modTx u g).events = s.events := rfl
@[simp] theorem modTx_time (s : State) (u : Nat) (g : TxUnit → TxUnit) : (s.modTx u g).time = s.time := rfl
@[simp] theorem modTx_air (s : State) (u : Nat) (g : TxUnit → TxUnit) : (s.modTx u g).air = s.air := rfl
@[simp] theorem modTx_clusters (s : State) (u : Nat) (g : TxUnit → TxUnit) : (s.modTx u g).clusters = s.clusters := rfl
@[simp] theorem modTx_beam (s : State) (u : Nat) (g : TxUnit → TxUnit) : (s.modTx u g).beam = s.beam := rfl
@[simp] theorem modTx_cal (s : State) (u : Nat) (g : TxUnit → TxUnit) : (s.modTx u g).cal = s.cal := rfl
@[simp] theorem modTx_newts (s : State) (u : Nat) (g : TxUnit → TxUnit) : (s.modTx u g).newts = s.newts := rfl
@[simp] theorem modTx_mem (s : State) (u : Nat) (g : TxUnit → TxUnit) : (s.modTx u g).mem = s.mem := rfl
@[simp] theorem modTx_absent (s : State) (u : Nat) (g : TxUnit → TxUnit) : (s.modTx u g).absent = s.absent := rfl
@[simp] theorem modTx_chorus (s : State) (u : Nat) (g : TxUnit → TxUnit) : (s.modTx u g).chorus = s.chorus := rfl
@[simp] theorem modTx_link (s : State) (u : Nat) (g : TxUnit → TxUnit) : (s.modTx u g).link = s.link := rfl
@[simp] theorem modTx_pool (s : State) (u : Nat) (g : TxUnit → TxUnit) : (s.modTx u g).pool = s.pool := rfl
@[simp] theorem modTx_caps (s : State) (u : Nat) (g : TxUnit → TxUnit) : (s.modTx u g).caps = s.caps := rfl
@[simp] theorem modTx_dmas (s : State) (u : Nat) (g : TxUnit → TxUnit) : (s.modTx u g).dmas = s.dmas := rfl
@[simp] theorem modTx_hk (s : State) (u : Nat) (g : TxUnit → TxUnit) : (s.modTx u g).hk = s.hk := rfl
@[simp] theorem modTx_flash (s : State) (u : Nat) (g : TxUnit → TxUnit) : (s.modTx u g).flash = s.flash := rfl
@[simp] theorem modTx_boot (s : State) (u : Nat) (g : TxUnit → TxUnit) : (s.modTx u g).boot = s.boot := rfl
@[simp] theorem modTx_sec (s : State) (u : Nat) (g : TxUnit → TxUnit) : (s.modTx u g).sec = s.sec := rfl
@[simp] theorem modTx_power (s : State) (u : Nat) (g : TxUnit → TxUnit) : (s.modTx u g).power = s.power := rfl
@[simp] theorem modTx_free (s : State) (u : Nat) (g : TxUnit → TxUnit) : (s.modTx u g).free = s.free := rfl
@[simp] theorem modTx_pending (s : State) (u : Nat) (g : TxUnit → TxUnit) : (s.modTx u g).pending = s.pending := rfl

/-! ### modCluster -/

@[simp] theorem modCluster_act (s : State) (c : Nat) (g : ClusterS → ClusterS) : (s.modCluster c g).act = s.act := rfl
@[simp] theorem modCluster_hact (s : State) (c : Nat) (g : ClusterS → ClusterS) : (s.modCluster c g).hact = s.hact := rfl
@[simp] theorem modCluster_hsh (s : State) (c : Nat) (g : ClusterS → ClusterS) : (s.modCluster c g).hsh = s.hsh := rfl
@[simp] theorem modCluster_silent (s : State) (c : Nat) (g : ClusterS → ClusterS) : (s.modCluster c g).silent = s.silent := rfl
@[simp] theorem modCluster_fuse (s : State) (c : Nat) (g : ClusterS → ClusterS) : (s.modCluster c g).fuse = s.fuse := rfl
@[simp] theorem modCluster_rst (s : State) (c : Nat) (g : ClusterS → ClusterS) : (s.modCluster c g).rst = s.rst := rfl
@[simp] theorem modCluster_events (s : State) (c : Nat) (g : ClusterS → ClusterS) : (s.modCluster c g).events = s.events := rfl
@[simp] theorem modCluster_time (s : State) (c : Nat) (g : ClusterS → ClusterS) : (s.modCluster c g).time = s.time := rfl
@[simp] theorem modCluster_air (s : State) (c : Nat) (g : ClusterS → ClusterS) : (s.modCluster c g).air = s.air := rfl
@[simp] theorem modCluster_units (s : State) (c : Nat) (g : ClusterS → ClusterS) : (s.modCluster c g).units = s.units := rfl
@[simp] theorem modCluster_beam (s : State) (c : Nat) (g : ClusterS → ClusterS) : (s.modCluster c g).beam = s.beam := rfl
@[simp] theorem modCluster_cal (s : State) (c : Nat) (g : ClusterS → ClusterS) : (s.modCluster c g).cal = s.cal := rfl
@[simp] theorem modCluster_newts (s : State) (c : Nat) (g : ClusterS → ClusterS) : (s.modCluster c g).newts = s.newts := rfl
@[simp] theorem modCluster_mem (s : State) (c : Nat) (g : ClusterS → ClusterS) : (s.modCluster c g).mem = s.mem := rfl
@[simp] theorem modCluster_absent (s : State) (c : Nat) (g : ClusterS → ClusterS) : (s.modCluster c g).absent = s.absent := rfl
@[simp] theorem modCluster_chorus (s : State) (c : Nat) (g : ClusterS → ClusterS) : (s.modCluster c g).chorus = s.chorus := rfl
@[simp] theorem modCluster_link (s : State) (c : Nat) (g : ClusterS → ClusterS) : (s.modCluster c g).link = s.link := rfl
@[simp] theorem modCluster_pool (s : State) (c : Nat) (g : ClusterS → ClusterS) : (s.modCluster c g).pool = s.pool := rfl
@[simp] theorem modCluster_caps (s : State) (c : Nat) (g : ClusterS → ClusterS) : (s.modCluster c g).caps = s.caps := rfl
@[simp] theorem modCluster_dmas (s : State) (c : Nat) (g : ClusterS → ClusterS) : (s.modCluster c g).dmas = s.dmas := rfl
@[simp] theorem modCluster_hk (s : State) (c : Nat) (g : ClusterS → ClusterS) : (s.modCluster c g).hk = s.hk := rfl
@[simp] theorem modCluster_flash (s : State) (c : Nat) (g : ClusterS → ClusterS) : (s.modCluster c g).flash = s.flash := rfl
@[simp] theorem modCluster_boot (s : State) (c : Nat) (g : ClusterS → ClusterS) : (s.modCluster c g).boot = s.boot := rfl
@[simp] theorem modCluster_sec (s : State) (c : Nat) (g : ClusterS → ClusterS) : (s.modCluster c g).sec = s.sec := rfl
@[simp] theorem modCluster_power (s : State) (c : Nat) (g : ClusterS → ClusterS) : (s.modCluster c g).power = s.power := rfl
@[simp] theorem modCluster_free (s : State) (c : Nat) (g : ClusterS → ClusterS) : (s.modCluster c g).free = s.free := rfl
@[simp] theorem modCluster_pending (s : State) (c : Nat) (g : ClusterS → ClusterS) : (s.modCluster c g).pending = s.pending := rfl

/-! ### modWset -/

@[simp] theorem modWset_act (s : State) (w : Nat) (g : WsetS → WsetS) : (s.modWset w g).act = s.act := rfl
@[simp] theorem modWset_hact (s : State) (w : Nat) (g : WsetS → WsetS) : (s.modWset w g).hact = s.hact := rfl
@[simp] theorem modWset_hsh (s : State) (w : Nat) (g : WsetS → WsetS) : (s.modWset w g).hsh = s.hsh := rfl
@[simp] theorem modWset_silent (s : State) (w : Nat) (g : WsetS → WsetS) : (s.modWset w g).silent = s.silent := rfl
@[simp] theorem modWset_fuse (s : State) (w : Nat) (g : WsetS → WsetS) : (s.modWset w g).fuse = s.fuse := rfl
@[simp] theorem modWset_rst (s : State) (w : Nat) (g : WsetS → WsetS) : (s.modWset w g).rst = s.rst := rfl
@[simp] theorem modWset_events (s : State) (w : Nat) (g : WsetS → WsetS) : (s.modWset w g).events = s.events := rfl
@[simp] theorem modWset_time (s : State) (w : Nat) (g : WsetS → WsetS) : (s.modWset w g).time = s.time := rfl
@[simp] theorem modWset_air (s : State) (w : Nat) (g : WsetS → WsetS) : (s.modWset w g).air = s.air := rfl
@[simp] theorem modWset_units (s : State) (w : Nat) (g : WsetS → WsetS) : (s.modWset w g).units = s.units := rfl
@[simp] theorem modWset_clusters (s : State) (w : Nat) (g : WsetS → WsetS) : (s.modWset w g).clusters = s.clusters := rfl
@[simp] theorem modWset_cal (s : State) (w : Nat) (g : WsetS → WsetS) : (s.modWset w g).cal = s.cal := rfl
@[simp] theorem modWset_newts (s : State) (w : Nat) (g : WsetS → WsetS) : (s.modWset w g).newts = s.newts := rfl
@[simp] theorem modWset_mem (s : State) (w : Nat) (g : WsetS → WsetS) : (s.modWset w g).mem = s.mem := rfl
@[simp] theorem modWset_absent (s : State) (w : Nat) (g : WsetS → WsetS) : (s.modWset w g).absent = s.absent := rfl
@[simp] theorem modWset_chorus (s : State) (w : Nat) (g : WsetS → WsetS) : (s.modWset w g).chorus = s.chorus := rfl
@[simp] theorem modWset_link (s : State) (w : Nat) (g : WsetS → WsetS) : (s.modWset w g).link = s.link := rfl
@[simp] theorem modWset_pool (s : State) (w : Nat) (g : WsetS → WsetS) : (s.modWset w g).pool = s.pool := rfl
@[simp] theorem modWset_caps (s : State) (w : Nat) (g : WsetS → WsetS) : (s.modWset w g).caps = s.caps := rfl
@[simp] theorem modWset_dmas (s : State) (w : Nat) (g : WsetS → WsetS) : (s.modWset w g).dmas = s.dmas := rfl
@[simp] theorem modWset_hk (s : State) (w : Nat) (g : WsetS → WsetS) : (s.modWset w g).hk = s.hk := rfl
@[simp] theorem modWset_flash (s : State) (w : Nat) (g : WsetS → WsetS) : (s.modWset w g).flash = s.flash := rfl
@[simp] theorem modWset_boot (s : State) (w : Nat) (g : WsetS → WsetS) : (s.modWset w g).boot = s.boot := rfl
@[simp] theorem modWset_sec (s : State) (w : Nat) (g : WsetS → WsetS) : (s.modWset w g).sec = s.sec := rfl
@[simp] theorem modWset_power (s : State) (w : Nat) (g : WsetS → WsetS) : (s.modWset w g).power = s.power := rfl
@[simp] theorem modWset_free (s : State) (w : Nat) (g : WsetS → WsetS) : (s.modWset w g).free = s.free := rfl
@[simp] theorem modWset_pending (s : State) (w : Nat) (g : WsetS → WsetS) : (s.modWset w g).pending = s.pending := rfl

/-! ### modDom -/

@[simp] theorem modDom_act (s : State) (d : Nat) (g : DomS → DomS) : (s.modDom d g).act = s.act := by
  unfold State.modDom; split <;> rfl
@[simp] theorem modDom_hact (s : State) (d : Nat) (g : DomS → DomS) : (s.modDom d g).hact = s.hact := by
  unfold State.modDom; split <;> rfl
@[simp] theorem modDom_hsh (s : State) (d : Nat) (g : DomS → DomS) : (s.modDom d g).hsh = s.hsh := by
  unfold State.modDom; split <;> rfl
@[simp] theorem modDom_silent (s : State) (d : Nat) (g : DomS → DomS) : (s.modDom d g).silent = s.silent := by
  unfold State.modDom; split <;> rfl
@[simp] theorem modDom_fuse (s : State) (d : Nat) (g : DomS → DomS) : (s.modDom d g).fuse = s.fuse := by
  unfold State.modDom; split <;> rfl
@[simp] theorem modDom_rst (s : State) (d : Nat) (g : DomS → DomS) : (s.modDom d g).rst = s.rst := by
  unfold State.modDom; split <;> rfl
@[simp] theorem modDom_events (s : State) (d : Nat) (g : DomS → DomS) : (s.modDom d g).events = s.events := by
  unfold State.modDom; split <;> rfl
@[simp] theorem modDom_air (s : State) (d : Nat) (g : DomS → DomS) : (s.modDom d g).air = s.air := by
  unfold State.modDom; split <;> rfl
@[simp] theorem modDom_units (s : State) (d : Nat) (g : DomS → DomS) : (s.modDom d g).units = s.units := by
  unfold State.modDom; split <;> rfl
@[simp] theorem modDom_clusters (s : State) (d : Nat) (g : DomS → DomS) : (s.modDom d g).clusters = s.clusters := by
  unfold State.modDom; split <;> rfl
@[simp] theorem modDom_beam (s : State) (d : Nat) (g : DomS → DomS) : (s.modDom d g).beam = s.beam := by
  unfold State.modDom; split <;> rfl
@[simp] theorem modDom_cal (s : State) (d : Nat) (g : DomS → DomS) : (s.modDom d g).cal = s.cal := by
  unfold State.modDom; split <;> rfl
@[simp] theorem modDom_newts (s : State) (d : Nat) (g : DomS → DomS) : (s.modDom d g).newts = s.newts := by
  unfold State.modDom; split <;> rfl
@[simp] theorem modDom_mem (s : State) (d : Nat) (g : DomS → DomS) : (s.modDom d g).mem = s.mem := by
  unfold State.modDom; split <;> rfl
@[simp] theorem modDom_absent (s : State) (d : Nat) (g : DomS → DomS) : (s.modDom d g).absent = s.absent := by
  unfold State.modDom; split <;> rfl
@[simp] theorem modDom_chorus (s : State) (d : Nat) (g : DomS → DomS) : (s.modDom d g).chorus = s.chorus := by
  unfold State.modDom; split <;> rfl
@[simp] theorem modDom_link (s : State) (d : Nat) (g : DomS → DomS) : (s.modDom d g).link = s.link := by
  unfold State.modDom; split <;> rfl
@[simp] theorem modDom_pool (s : State) (d : Nat) (g : DomS → DomS) : (s.modDom d g).pool = s.pool := by
  unfold State.modDom; split <;> rfl
@[simp] theorem modDom_caps (s : State) (d : Nat) (g : DomS → DomS) : (s.modDom d g).caps = s.caps := by
  unfold State.modDom; split <;> rfl
@[simp] theorem modDom_dmas (s : State) (d : Nat) (g : DomS → DomS) : (s.modDom d g).dmas = s.dmas := by
  unfold State.modDom; split <;> rfl
@[simp] theorem modDom_hk (s : State) (d : Nat) (g : DomS → DomS) : (s.modDom d g).hk = s.hk := by
  unfold State.modDom; split <;> rfl
@[simp] theorem modDom_flash (s : State) (d : Nat) (g : DomS → DomS) : (s.modDom d g).flash = s.flash := by
  unfold State.modDom; split <;> rfl
@[simp] theorem modDom_boot (s : State) (d : Nat) (g : DomS → DomS) : (s.modDom d g).boot = s.boot := by
  unfold State.modDom; split <;> rfl
@[simp] theorem modDom_sec (s : State) (d : Nat) (g : DomS → DomS) : (s.modDom d g).sec = s.sec := by
  unfold State.modDom; split <;> rfl
@[simp] theorem modDom_power (s : State) (d : Nat) (g : DomS → DomS) : (s.modDom d g).power = s.power := by
  unfold State.modDom; split <;> rfl
@[simp] theorem modDom_free (s : State) (d : Nat) (g : DomS → DomS) : (s.modDom d g).free = s.free := by
  unfold State.modDom; split <;> rfl
@[simp] theorem modDom_pending (s : State) (d : Nat) (g : DomS → DomS) : (s.modDom d g).pending = s.pending := by
  unfold State.modDom; split <;> rfl

/-! ### modUcal -/

@[simp] theorem modUcal_act (s : State) (u : Nat) (g : UnitCal → UnitCal) : (s.modUcal u g).act = s.act := rfl
@[simp] theorem modUcal_hact (s : State) (u : Nat) (g : UnitCal → UnitCal) : (s.modUcal u g).hact = s.hact := rfl
@[simp] theorem modUcal_hsh (s : State) (u : Nat) (g : UnitCal → UnitCal) : (s.modUcal u g).hsh = s.hsh := rfl
@[simp] theorem modUcal_silent (s : State) (u : Nat) (g : UnitCal → UnitCal) : (s.modUcal u g).silent = s.silent := rfl
@[simp] theorem modUcal_fuse (s : State) (u : Nat) (g : UnitCal → UnitCal) : (s.modUcal u g).fuse = s.fuse := rfl
@[simp] theorem modUcal_rst (s : State) (u : Nat) (g : UnitCal → UnitCal) : (s.modUcal u g).rst = s.rst := rfl
@[simp] theorem modUcal_events (s : State) (u : Nat) (g : UnitCal → UnitCal) : (s.modUcal u g).events = s.events := rfl
@[simp] theorem modUcal_time (s : State) (u : Nat) (g : UnitCal → UnitCal) : (s.modUcal u g).time = s.time := rfl
@[simp] theorem modUcal_air (s : State) (u : Nat) (g : UnitCal → UnitCal) : (s.modUcal u g).air = s.air := rfl
@[simp] theorem modUcal_units (s : State) (u : Nat) (g : UnitCal → UnitCal) : (s.modUcal u g).units = s.units := rfl
@[simp] theorem modUcal_clusters (s : State) (u : Nat) (g : UnitCal → UnitCal) : (s.modUcal u g).clusters = s.clusters := rfl
@[simp] theorem modUcal_beam (s : State) (u : Nat) (g : UnitCal → UnitCal) : (s.modUcal u g).beam = s.beam := rfl
@[simp] theorem modUcal_newts (s : State) (u : Nat) (g : UnitCal → UnitCal) : (s.modUcal u g).newts = s.newts := rfl
@[simp] theorem modUcal_mem (s : State) (u : Nat) (g : UnitCal → UnitCal) : (s.modUcal u g).mem = s.mem := rfl
@[simp] theorem modUcal_absent (s : State) (u : Nat) (g : UnitCal → UnitCal) : (s.modUcal u g).absent = s.absent := rfl
@[simp] theorem modUcal_chorus (s : State) (u : Nat) (g : UnitCal → UnitCal) : (s.modUcal u g).chorus = s.chorus := rfl
@[simp] theorem modUcal_link (s : State) (u : Nat) (g : UnitCal → UnitCal) : (s.modUcal u g).link = s.link := rfl
@[simp] theorem modUcal_pool (s : State) (u : Nat) (g : UnitCal → UnitCal) : (s.modUcal u g).pool = s.pool := rfl
@[simp] theorem modUcal_caps (s : State) (u : Nat) (g : UnitCal → UnitCal) : (s.modUcal u g).caps = s.caps := rfl
@[simp] theorem modUcal_dmas (s : State) (u : Nat) (g : UnitCal → UnitCal) : (s.modUcal u g).dmas = s.dmas := rfl
@[simp] theorem modUcal_hk (s : State) (u : Nat) (g : UnitCal → UnitCal) : (s.modUcal u g).hk = s.hk := rfl
@[simp] theorem modUcal_flash (s : State) (u : Nat) (g : UnitCal → UnitCal) : (s.modUcal u g).flash = s.flash := rfl
@[simp] theorem modUcal_boot (s : State) (u : Nat) (g : UnitCal → UnitCal) : (s.modUcal u g).boot = s.boot := rfl
@[simp] theorem modUcal_sec (s : State) (u : Nat) (g : UnitCal → UnitCal) : (s.modUcal u g).sec = s.sec := rfl
@[simp] theorem modUcal_power (s : State) (u : Nat) (g : UnitCal → UnitCal) : (s.modUcal u g).power = s.power := rfl
@[simp] theorem modUcal_free (s : State) (u : Nat) (g : UnitCal → UnitCal) : (s.modUcal u g).free = s.free := rfl
@[simp] theorem modUcal_pending (s : State) (u : Nat) (g : UnitCal → UnitCal) : (s.modUcal u g).pending = s.pending := rfl

/-! ### modCcal -/

@[simp] theorem modCcal_act (s : State) (c : Nat) (g : ClusterCal → ClusterCal) : (s.modCcal c g).act = s.act := rfl
@[simp] theorem modCcal_hact (s : State) (c : Nat) (g : ClusterCal → ClusterCal) : (s.modCcal c g).hact = s.hact := rfl
@[simp] theorem modCcal_hsh (s : State) (c : Nat) (g : ClusterCal → ClusterCal) : (s.modCcal c g).hsh = s.hsh := rfl
@[simp] theorem modCcal_silent (s : State) (c : Nat) (g : ClusterCal → ClusterCal) : (s.modCcal c g).silent = s.silent := rfl
@[simp] theorem modCcal_fuse (s : State) (c : Nat) (g : ClusterCal → ClusterCal) : (s.modCcal c g).fuse = s.fuse := rfl
@[simp] theorem modCcal_rst (s : State) (c : Nat) (g : ClusterCal → ClusterCal) : (s.modCcal c g).rst = s.rst := rfl
@[simp] theorem modCcal_events (s : State) (c : Nat) (g : ClusterCal → ClusterCal) : (s.modCcal c g).events = s.events := rfl
@[simp] theorem modCcal_time (s : State) (c : Nat) (g : ClusterCal → ClusterCal) : (s.modCcal c g).time = s.time := rfl
@[simp] theorem modCcal_air (s : State) (c : Nat) (g : ClusterCal → ClusterCal) : (s.modCcal c g).air = s.air := rfl
@[simp] theorem modCcal_units (s : State) (c : Nat) (g : ClusterCal → ClusterCal) : (s.modCcal c g).units = s.units := rfl
@[simp] theorem modCcal_clusters (s : State) (c : Nat) (g : ClusterCal → ClusterCal) : (s.modCcal c g).clusters = s.clusters := rfl
@[simp] theorem modCcal_beam (s : State) (c : Nat) (g : ClusterCal → ClusterCal) : (s.modCcal c g).beam = s.beam := rfl
@[simp] theorem modCcal_newts (s : State) (c : Nat) (g : ClusterCal → ClusterCal) : (s.modCcal c g).newts = s.newts := rfl
@[simp] theorem modCcal_mem (s : State) (c : Nat) (g : ClusterCal → ClusterCal) : (s.modCcal c g).mem = s.mem := rfl
@[simp] theorem modCcal_absent (s : State) (c : Nat) (g : ClusterCal → ClusterCal) : (s.modCcal c g).absent = s.absent := rfl
@[simp] theorem modCcal_chorus (s : State) (c : Nat) (g : ClusterCal → ClusterCal) : (s.modCcal c g).chorus = s.chorus := rfl
@[simp] theorem modCcal_link (s : State) (c : Nat) (g : ClusterCal → ClusterCal) : (s.modCcal c g).link = s.link := rfl
@[simp] theorem modCcal_pool (s : State) (c : Nat) (g : ClusterCal → ClusterCal) : (s.modCcal c g).pool = s.pool := rfl
@[simp] theorem modCcal_caps (s : State) (c : Nat) (g : ClusterCal → ClusterCal) : (s.modCcal c g).caps = s.caps := rfl
@[simp] theorem modCcal_dmas (s : State) (c : Nat) (g : ClusterCal → ClusterCal) : (s.modCcal c g).dmas = s.dmas := rfl
@[simp] theorem modCcal_hk (s : State) (c : Nat) (g : ClusterCal → ClusterCal) : (s.modCcal c g).hk = s.hk := rfl
@[simp] theorem modCcal_flash (s : State) (c : Nat) (g : ClusterCal → ClusterCal) : (s.modCcal c g).flash = s.flash := rfl
@[simp] theorem modCcal_boot (s : State) (c : Nat) (g : ClusterCal → ClusterCal) : (s.modCcal c g).boot = s.boot := rfl
@[simp] theorem modCcal_sec (s : State) (c : Nat) (g : ClusterCal → ClusterCal) : (s.modCcal c g).sec = s.sec := rfl
@[simp] theorem modCcal_power (s : State) (c : Nat) (g : ClusterCal → ClusterCal) : (s.modCcal c g).power = s.power := rfl
@[simp] theorem modCcal_free (s : State) (c : Nat) (g : ClusterCal → ClusterCal) : (s.modCcal c g).free = s.free := rfl
@[simp] theorem modCcal_pending (s : State) (c : Nat) (g : ClusterCal → ClusterCal) : (s.modCcal c g).pending = s.pending := rfl

/-! ### modNewt -/

@[simp] theorem modNewt_act (s : State) (k : Nat) (g : NewtS → NewtS) : (s.modNewt k g).act = s.act := rfl
@[simp] theorem modNewt_hact (s : State) (k : Nat) (g : NewtS → NewtS) : (s.modNewt k g).hact = s.hact := rfl
@[simp] theorem modNewt_hsh (s : State) (k : Nat) (g : NewtS → NewtS) : (s.modNewt k g).hsh = s.hsh := rfl
@[simp] theorem modNewt_silent (s : State) (k : Nat) (g : NewtS → NewtS) : (s.modNewt k g).silent = s.silent := rfl
@[simp] theorem modNewt_fuse (s : State) (k : Nat) (g : NewtS → NewtS) : (s.modNewt k g).fuse = s.fuse := rfl
@[simp] theorem modNewt_rst (s : State) (k : Nat) (g : NewtS → NewtS) : (s.modNewt k g).rst = s.rst := rfl
@[simp] theorem modNewt_events (s : State) (k : Nat) (g : NewtS → NewtS) : (s.modNewt k g).events = s.events := rfl
@[simp] theorem modNewt_time (s : State) (k : Nat) (g : NewtS → NewtS) : (s.modNewt k g).time = s.time := rfl
@[simp] theorem modNewt_air (s : State) (k : Nat) (g : NewtS → NewtS) : (s.modNewt k g).air = s.air := rfl
@[simp] theorem modNewt_units (s : State) (k : Nat) (g : NewtS → NewtS) : (s.modNewt k g).units = s.units := rfl
@[simp] theorem modNewt_clusters (s : State) (k : Nat) (g : NewtS → NewtS) : (s.modNewt k g).clusters = s.clusters := rfl
@[simp] theorem modNewt_beam (s : State) (k : Nat) (g : NewtS → NewtS) : (s.modNewt k g).beam = s.beam := rfl
@[simp] theorem modNewt_cal (s : State) (k : Nat) (g : NewtS → NewtS) : (s.modNewt k g).cal = s.cal := rfl
@[simp] theorem modNewt_mem (s : State) (k : Nat) (g : NewtS → NewtS) : (s.modNewt k g).mem = s.mem := rfl
@[simp] theorem modNewt_absent (s : State) (k : Nat) (g : NewtS → NewtS) : (s.modNewt k g).absent = s.absent := rfl
@[simp] theorem modNewt_chorus (s : State) (k : Nat) (g : NewtS → NewtS) : (s.modNewt k g).chorus = s.chorus := rfl
@[simp] theorem modNewt_link (s : State) (k : Nat) (g : NewtS → NewtS) : (s.modNewt k g).link = s.link := rfl
@[simp] theorem modNewt_pool (s : State) (k : Nat) (g : NewtS → NewtS) : (s.modNewt k g).pool = s.pool := rfl
@[simp] theorem modNewt_caps (s : State) (k : Nat) (g : NewtS → NewtS) : (s.modNewt k g).caps = s.caps := rfl
@[simp] theorem modNewt_dmas (s : State) (k : Nat) (g : NewtS → NewtS) : (s.modNewt k g).dmas = s.dmas := rfl
@[simp] theorem modNewt_hk (s : State) (k : Nat) (g : NewtS → NewtS) : (s.modNewt k g).hk = s.hk := rfl
@[simp] theorem modNewt_flash (s : State) (k : Nat) (g : NewtS → NewtS) : (s.modNewt k g).flash = s.flash := rfl
@[simp] theorem modNewt_boot (s : State) (k : Nat) (g : NewtS → NewtS) : (s.modNewt k g).boot = s.boot := rfl
@[simp] theorem modNewt_sec (s : State) (k : Nat) (g : NewtS → NewtS) : (s.modNewt k g).sec = s.sec := rfl
@[simp] theorem modNewt_power (s : State) (k : Nat) (g : NewtS → NewtS) : (s.modNewt k g).power = s.power := rfl
@[simp] theorem modNewt_free (s : State) (k : Nat) (g : NewtS → NewtS) : (s.modNewt k g).free = s.free := rfl
@[simp] theorem modNewt_pending (s : State) (k : Nat) (g : NewtS → NewtS) : (s.modNewt k g).pending = s.pending := rfl

/-! ### modPort -/

@[simp] theorem modPort_act (s : State) (p : Nat) (g : PortS → PortS) : (s.modPort p g).act = s.act := rfl
@[simp] theorem modPort_hact (s : State) (p : Nat) (g : PortS → PortS) : (s.modPort p g).hact = s.hact := rfl
@[simp] theorem modPort_hsh (s : State) (p : Nat) (g : PortS → PortS) : (s.modPort p g).hsh = s.hsh := rfl
@[simp] theorem modPort_silent (s : State) (p : Nat) (g : PortS → PortS) : (s.modPort p g).silent = s.silent := rfl
@[simp] theorem modPort_fuse (s : State) (p : Nat) (g : PortS → PortS) : (s.modPort p g).fuse = s.fuse := rfl
@[simp] theorem modPort_rst (s : State) (p : Nat) (g : PortS → PortS) : (s.modPort p g).rst = s.rst := rfl
@[simp] theorem modPort_events (s : State) (p : Nat) (g : PortS → PortS) : (s.modPort p g).events = s.events := rfl
@[simp] theorem modPort_time (s : State) (p : Nat) (g : PortS → PortS) : (s.modPort p g).time = s.time := rfl
@[simp] theorem modPort_air (s : State) (p : Nat) (g : PortS → PortS) : (s.modPort p g).air = s.air := rfl
@[simp] theorem modPort_units (s : State) (p : Nat) (g : PortS → PortS) : (s.modPort p g).units = s.units := rfl
@[simp] theorem modPort_clusters (s : State) (p : Nat) (g : PortS → PortS) : (s.modPort p g).clusters = s.clusters := rfl
@[simp] theorem modPort_beam (s : State) (p : Nat) (g : PortS → PortS) : (s.modPort p g).beam = s.beam := rfl
@[simp] theorem modPort_cal (s : State) (p : Nat) (g : PortS → PortS) : (s.modPort p g).cal = s.cal := rfl
@[simp] theorem modPort_newts (s : State) (p : Nat) (g : PortS → PortS) : (s.modPort p g).newts = s.newts := rfl
@[simp] theorem modPort_mem (s : State) (p : Nat) (g : PortS → PortS) : (s.modPort p g).mem = s.mem := rfl
@[simp] theorem modPort_absent (s : State) (p : Nat) (g : PortS → PortS) : (s.modPort p g).absent = s.absent := rfl
@[simp] theorem modPort_chorus (s : State) (p : Nat) (g : PortS → PortS) : (s.modPort p g).chorus = s.chorus := rfl
@[simp] theorem modPort_pool (s : State) (p : Nat) (g : PortS → PortS) : (s.modPort p g).pool = s.pool := rfl
@[simp] theorem modPort_caps (s : State) (p : Nat) (g : PortS → PortS) : (s.modPort p g).caps = s.caps := rfl
@[simp] theorem modPort_dmas (s : State) (p : Nat) (g : PortS → PortS) : (s.modPort p g).dmas = s.dmas := rfl
@[simp] theorem modPort_hk (s : State) (p : Nat) (g : PortS → PortS) : (s.modPort p g).hk = s.hk := rfl
@[simp] theorem modPort_flash (s : State) (p : Nat) (g : PortS → PortS) : (s.modPort p g).flash = s.flash := rfl
@[simp] theorem modPort_boot (s : State) (p : Nat) (g : PortS → PortS) : (s.modPort p g).boot = s.boot := rfl
@[simp] theorem modPort_sec (s : State) (p : Nat) (g : PortS → PortS) : (s.modPort p g).sec = s.sec := rfl
@[simp] theorem modPort_power (s : State) (p : Nat) (g : PortS → PortS) : (s.modPort p g).power = s.power := rfl
@[simp] theorem modPort_free (s : State) (p : Nat) (g : PortS → PortS) : (s.modPort p g).free = s.free := rfl
@[simp] theorem modPort_pending (s : State) (p : Nat) (g : PortS → PortS) : (s.modPort p g).pending = s.pending := rfl

/-! ### modCap -/

@[simp] theorem modCap_act (s : State) (n : Nat) (g : CapCh → CapCh) : (s.modCap n g).act = s.act := rfl
@[simp] theorem modCap_hact (s : State) (n : Nat) (g : CapCh → CapCh) : (s.modCap n g).hact = s.hact := rfl
@[simp] theorem modCap_hsh (s : State) (n : Nat) (g : CapCh → CapCh) : (s.modCap n g).hsh = s.hsh := rfl
@[simp] theorem modCap_silent (s : State) (n : Nat) (g : CapCh → CapCh) : (s.modCap n g).silent = s.silent := rfl
@[simp] theorem modCap_fuse (s : State) (n : Nat) (g : CapCh → CapCh) : (s.modCap n g).fuse = s.fuse := rfl
@[simp] theorem modCap_rst (s : State) (n : Nat) (g : CapCh → CapCh) : (s.modCap n g).rst = s.rst := rfl
@[simp] theorem modCap_events (s : State) (n : Nat) (g : CapCh → CapCh) : (s.modCap n g).events = s.events := rfl
@[simp] theorem modCap_time (s : State) (n : Nat) (g : CapCh → CapCh) : (s.modCap n g).time = s.time := rfl
@[simp] theorem modCap_air (s : State) (n : Nat) (g : CapCh → CapCh) : (s.modCap n g).air = s.air := rfl
@[simp] theorem modCap_units (s : State) (n : Nat) (g : CapCh → CapCh) : (s.modCap n g).units = s.units := rfl
@[simp] theorem modCap_clusters (s : State) (n : Nat) (g : CapCh → CapCh) : (s.modCap n g).clusters = s.clusters := rfl
@[simp] theorem modCap_beam (s : State) (n : Nat) (g : CapCh → CapCh) : (s.modCap n g).beam = s.beam := rfl
@[simp] theorem modCap_cal (s : State) (n : Nat) (g : CapCh → CapCh) : (s.modCap n g).cal = s.cal := rfl
@[simp] theorem modCap_newts (s : State) (n : Nat) (g : CapCh → CapCh) : (s.modCap n g).newts = s.newts := rfl
@[simp] theorem modCap_mem (s : State) (n : Nat) (g : CapCh → CapCh) : (s.modCap n g).mem = s.mem := rfl
@[simp] theorem modCap_absent (s : State) (n : Nat) (g : CapCh → CapCh) : (s.modCap n g).absent = s.absent := rfl
@[simp] theorem modCap_chorus (s : State) (n : Nat) (g : CapCh → CapCh) : (s.modCap n g).chorus = s.chorus := rfl
@[simp] theorem modCap_link (s : State) (n : Nat) (g : CapCh → CapCh) : (s.modCap n g).link = s.link := rfl
@[simp] theorem modCap_pool (s : State) (n : Nat) (g : CapCh → CapCh) : (s.modCap n g).pool = s.pool := rfl
@[simp] theorem modCap_dmas (s : State) (n : Nat) (g : CapCh → CapCh) : (s.modCap n g).dmas = s.dmas := rfl
@[simp] theorem modCap_hk (s : State) (n : Nat) (g : CapCh → CapCh) : (s.modCap n g).hk = s.hk := rfl
@[simp] theorem modCap_flash (s : State) (n : Nat) (g : CapCh → CapCh) : (s.modCap n g).flash = s.flash := rfl
@[simp] theorem modCap_boot (s : State) (n : Nat) (g : CapCh → CapCh) : (s.modCap n g).boot = s.boot := rfl
@[simp] theorem modCap_sec (s : State) (n : Nat) (g : CapCh → CapCh) : (s.modCap n g).sec = s.sec := rfl
@[simp] theorem modCap_power (s : State) (n : Nat) (g : CapCh → CapCh) : (s.modCap n g).power = s.power := rfl
@[simp] theorem modCap_free (s : State) (n : Nat) (g : CapCh → CapCh) : (s.modCap n g).free = s.free := rfl
@[simp] theorem modCap_pending (s : State) (n : Nat) (g : CapCh → CapCh) : (s.modCap n g).pending = s.pending := rfl

/-! ### modDma -/

@[simp] theorem modDma_act (s : State) (n : Nat) (g : DmaCh → DmaCh) : (s.modDma n g).act = s.act := rfl
@[simp] theorem modDma_hact (s : State) (n : Nat) (g : DmaCh → DmaCh) : (s.modDma n g).hact = s.hact := rfl
@[simp] theorem modDma_hsh (s : State) (n : Nat) (g : DmaCh → DmaCh) : (s.modDma n g).hsh = s.hsh := rfl
@[simp] theorem modDma_silent (s : State) (n : Nat) (g : DmaCh → DmaCh) : (s.modDma n g).silent = s.silent := rfl
@[simp] theorem modDma_fuse (s : State) (n : Nat) (g : DmaCh → DmaCh) : (s.modDma n g).fuse = s.fuse := rfl
@[simp] theorem modDma_rst (s : State) (n : Nat) (g : DmaCh → DmaCh) : (s.modDma n g).rst = s.rst := rfl
@[simp] theorem modDma_events (s : State) (n : Nat) (g : DmaCh → DmaCh) : (s.modDma n g).events = s.events := rfl
@[simp] theorem modDma_time (s : State) (n : Nat) (g : DmaCh → DmaCh) : (s.modDma n g).time = s.time := rfl
@[simp] theorem modDma_air (s : State) (n : Nat) (g : DmaCh → DmaCh) : (s.modDma n g).air = s.air := rfl
@[simp] theorem modDma_units (s : State) (n : Nat) (g : DmaCh → DmaCh) : (s.modDma n g).units = s.units := rfl
@[simp] theorem modDma_clusters (s : State) (n : Nat) (g : DmaCh → DmaCh) : (s.modDma n g).clusters = s.clusters := rfl
@[simp] theorem modDma_beam (s : State) (n : Nat) (g : DmaCh → DmaCh) : (s.modDma n g).beam = s.beam := rfl
@[simp] theorem modDma_cal (s : State) (n : Nat) (g : DmaCh → DmaCh) : (s.modDma n g).cal = s.cal := rfl
@[simp] theorem modDma_newts (s : State) (n : Nat) (g : DmaCh → DmaCh) : (s.modDma n g).newts = s.newts := rfl
@[simp] theorem modDma_mem (s : State) (n : Nat) (g : DmaCh → DmaCh) : (s.modDma n g).mem = s.mem := rfl
@[simp] theorem modDma_absent (s : State) (n : Nat) (g : DmaCh → DmaCh) : (s.modDma n g).absent = s.absent := rfl
@[simp] theorem modDma_chorus (s : State) (n : Nat) (g : DmaCh → DmaCh) : (s.modDma n g).chorus = s.chorus := rfl
@[simp] theorem modDma_link (s : State) (n : Nat) (g : DmaCh → DmaCh) : (s.modDma n g).link = s.link := rfl
@[simp] theorem modDma_pool (s : State) (n : Nat) (g : DmaCh → DmaCh) : (s.modDma n g).pool = s.pool := rfl
@[simp] theorem modDma_caps (s : State) (n : Nat) (g : DmaCh → DmaCh) : (s.modDma n g).caps = s.caps := rfl
@[simp] theorem modDma_hk (s : State) (n : Nat) (g : DmaCh → DmaCh) : (s.modDma n g).hk = s.hk := rfl
@[simp] theorem modDma_flash (s : State) (n : Nat) (g : DmaCh → DmaCh) : (s.modDma n g).flash = s.flash := rfl
@[simp] theorem modDma_boot (s : State) (n : Nat) (g : DmaCh → DmaCh) : (s.modDma n g).boot = s.boot := rfl
@[simp] theorem modDma_sec (s : State) (n : Nat) (g : DmaCh → DmaCh) : (s.modDma n g).sec = s.sec := rfl
@[simp] theorem modDma_power (s : State) (n : Nat) (g : DmaCh → DmaCh) : (s.modDma n g).power = s.power := rfl
@[simp] theorem modDma_free (s : State) (n : Nat) (g : DmaCh → DmaCh) : (s.modDma n g).free = s.free := rfl
@[simp] theorem modDma_pending (s : State) (n : Nat) (g : DmaCh → DmaCh) : (s.modDma n g).pending = s.pending := rfl

/-! ### modConv -/

@[simp] theorem modConv_act (s : State) (k : Nat) (g : HkConv → HkConv) : (s.modConv k g).act = s.act := rfl
@[simp] theorem modConv_hact (s : State) (k : Nat) (g : HkConv → HkConv) : (s.modConv k g).hact = s.hact := rfl
@[simp] theorem modConv_hsh (s : State) (k : Nat) (g : HkConv → HkConv) : (s.modConv k g).hsh = s.hsh := rfl
@[simp] theorem modConv_silent (s : State) (k : Nat) (g : HkConv → HkConv) : (s.modConv k g).silent = s.silent := rfl
@[simp] theorem modConv_fuse (s : State) (k : Nat) (g : HkConv → HkConv) : (s.modConv k g).fuse = s.fuse := rfl
@[simp] theorem modConv_rst (s : State) (k : Nat) (g : HkConv → HkConv) : (s.modConv k g).rst = s.rst := rfl
@[simp] theorem modConv_events (s : State) (k : Nat) (g : HkConv → HkConv) : (s.modConv k g).events = s.events := rfl
@[simp] theorem modConv_time (s : State) (k : Nat) (g : HkConv → HkConv) : (s.modConv k g).time = s.time := rfl
@[simp] theorem modConv_air (s : State) (k : Nat) (g : HkConv → HkConv) : (s.modConv k g).air = s.air := rfl
@[simp] theorem modConv_units (s : State) (k : Nat) (g : HkConv → HkConv) : (s.modConv k g).units = s.units := rfl
@[simp] theorem modConv_clusters (s : State) (k : Nat) (g : HkConv → HkConv) : (s.modConv k g).clusters = s.clusters := rfl
@[simp] theorem modConv_beam (s : State) (k : Nat) (g : HkConv → HkConv) : (s.modConv k g).beam = s.beam := rfl
@[simp] theorem modConv_cal (s : State) (k : Nat) (g : HkConv → HkConv) : (s.modConv k g).cal = s.cal := rfl
@[simp] theorem modConv_newts (s : State) (k : Nat) (g : HkConv → HkConv) : (s.modConv k g).newts = s.newts := rfl
@[simp] theorem modConv_mem (s : State) (k : Nat) (g : HkConv → HkConv) : (s.modConv k g).mem = s.mem := rfl
@[simp] theorem modConv_absent (s : State) (k : Nat) (g : HkConv → HkConv) : (s.modConv k g).absent = s.absent := rfl
@[simp] theorem modConv_chorus (s : State) (k : Nat) (g : HkConv → HkConv) : (s.modConv k g).chorus = s.chorus := rfl
@[simp] theorem modConv_link (s : State) (k : Nat) (g : HkConv → HkConv) : (s.modConv k g).link = s.link := rfl
@[simp] theorem modConv_pool (s : State) (k : Nat) (g : HkConv → HkConv) : (s.modConv k g).pool = s.pool := rfl
@[simp] theorem modConv_caps (s : State) (k : Nat) (g : HkConv → HkConv) : (s.modConv k g).caps = s.caps := rfl
@[simp] theorem modConv_dmas (s : State) (k : Nat) (g : HkConv → HkConv) : (s.modConv k g).dmas = s.dmas := rfl
@[simp] theorem modConv_flash (s : State) (k : Nat) (g : HkConv → HkConv) : (s.modConv k g).flash = s.flash := rfl
@[simp] theorem modConv_boot (s : State) (k : Nat) (g : HkConv → HkConv) : (s.modConv k g).boot = s.boot := rfl
@[simp] theorem modConv_sec (s : State) (k : Nat) (g : HkConv → HkConv) : (s.modConv k g).sec = s.sec := rfl
@[simp] theorem modConv_power (s : State) (k : Nat) (g : HkConv → HkConv) : (s.modConv k g).power = s.power := rfl
@[simp] theorem modConv_free (s : State) (k : Nat) (g : HkConv → HkConv) : (s.modConv k g).free = s.free := rfl
@[simp] theorem modConv_pending (s : State) (k : Nat) (g : HkConv → HkConv) : (s.modConv k g).pending = s.pending := rfl

/-! ### modBias -/

@[simp] theorem modBias_act (s : State) (i : Nat) (g : BiasS → BiasS) : (s.modBias i g).act = s.act := rfl
@[simp] theorem modBias_hact (s : State) (i : Nat) (g : BiasS → BiasS) : (s.modBias i g).hact = s.hact := rfl
@[simp] theorem modBias_hsh (s : State) (i : Nat) (g : BiasS → BiasS) : (s.modBias i g).hsh = s.hsh := rfl
@[simp] theorem modBias_silent (s : State) (i : Nat) (g : BiasS → BiasS) : (s.modBias i g).silent = s.silent := rfl
@[simp] theorem modBias_fuse (s : State) (i : Nat) (g : BiasS → BiasS) : (s.modBias i g).fuse = s.fuse := rfl
@[simp] theorem modBias_rst (s : State) (i : Nat) (g : BiasS → BiasS) : (s.modBias i g).rst = s.rst := rfl
@[simp] theorem modBias_events (s : State) (i : Nat) (g : BiasS → BiasS) : (s.modBias i g).events = s.events := rfl
@[simp] theorem modBias_time (s : State) (i : Nat) (g : BiasS → BiasS) : (s.modBias i g).time = s.time := rfl
@[simp] theorem modBias_air (s : State) (i : Nat) (g : BiasS → BiasS) : (s.modBias i g).air = s.air := rfl
@[simp] theorem modBias_units (s : State) (i : Nat) (g : BiasS → BiasS) : (s.modBias i g).units = s.units := rfl
@[simp] theorem modBias_clusters (s : State) (i : Nat) (g : BiasS → BiasS) : (s.modBias i g).clusters = s.clusters := rfl
@[simp] theorem modBias_beam (s : State) (i : Nat) (g : BiasS → BiasS) : (s.modBias i g).beam = s.beam := rfl
@[simp] theorem modBias_cal (s : State) (i : Nat) (g : BiasS → BiasS) : (s.modBias i g).cal = s.cal := rfl
@[simp] theorem modBias_newts (s : State) (i : Nat) (g : BiasS → BiasS) : (s.modBias i g).newts = s.newts := rfl
@[simp] theorem modBias_mem (s : State) (i : Nat) (g : BiasS → BiasS) : (s.modBias i g).mem = s.mem := rfl
@[simp] theorem modBias_absent (s : State) (i : Nat) (g : BiasS → BiasS) : (s.modBias i g).absent = s.absent := rfl
@[simp] theorem modBias_chorus (s : State) (i : Nat) (g : BiasS → BiasS) : (s.modBias i g).chorus = s.chorus := rfl
@[simp] theorem modBias_link (s : State) (i : Nat) (g : BiasS → BiasS) : (s.modBias i g).link = s.link := rfl
@[simp] theorem modBias_pool (s : State) (i : Nat) (g : BiasS → BiasS) : (s.modBias i g).pool = s.pool := rfl
@[simp] theorem modBias_caps (s : State) (i : Nat) (g : BiasS → BiasS) : (s.modBias i g).caps = s.caps := rfl
@[simp] theorem modBias_dmas (s : State) (i : Nat) (g : BiasS → BiasS) : (s.modBias i g).dmas = s.dmas := rfl
@[simp] theorem modBias_flash (s : State) (i : Nat) (g : BiasS → BiasS) : (s.modBias i g).flash = s.flash := rfl
@[simp] theorem modBias_boot (s : State) (i : Nat) (g : BiasS → BiasS) : (s.modBias i g).boot = s.boot := rfl
@[simp] theorem modBias_sec (s : State) (i : Nat) (g : BiasS → BiasS) : (s.modBias i g).sec = s.sec := rfl
@[simp] theorem modBias_power (s : State) (i : Nat) (g : BiasS → BiasS) : (s.modBias i g).power = s.power := rfl
@[simp] theorem modBias_free (s : State) (i : Nat) (g : BiasS → BiasS) : (s.modBias i g).free = s.free := rfl
@[simp] theorem modBias_pending (s : State) (i : Nat) (g : BiasS → BiasS) : (s.modBias i g).pending = s.pending := rfl

/-! ### modPwm -/

@[simp] theorem modPwm_act (s : State) (u : Nat) (g : PwmS → PwmS) : (s.modPwm u g).act = s.act := rfl
@[simp] theorem modPwm_hact (s : State) (u : Nat) (g : PwmS → PwmS) : (s.modPwm u g).hact = s.hact := rfl
@[simp] theorem modPwm_hsh (s : State) (u : Nat) (g : PwmS → PwmS) : (s.modPwm u g).hsh = s.hsh := rfl
@[simp] theorem modPwm_silent (s : State) (u : Nat) (g : PwmS → PwmS) : (s.modPwm u g).silent = s.silent := rfl
@[simp] theorem modPwm_fuse (s : State) (u : Nat) (g : PwmS → PwmS) : (s.modPwm u g).fuse = s.fuse := rfl
@[simp] theorem modPwm_rst (s : State) (u : Nat) (g : PwmS → PwmS) : (s.modPwm u g).rst = s.rst := rfl
@[simp] theorem modPwm_events (s : State) (u : Nat) (g : PwmS → PwmS) : (s.modPwm u g).events = s.events := rfl
@[simp] theorem modPwm_time (s : State) (u : Nat) (g : PwmS → PwmS) : (s.modPwm u g).time = s.time := rfl
@[simp] theorem modPwm_air (s : State) (u : Nat) (g : PwmS → PwmS) : (s.modPwm u g).air = s.air := rfl
@[simp] theorem modPwm_units (s : State) (u : Nat) (g : PwmS → PwmS) : (s.modPwm u g).units = s.units := rfl
@[simp] theorem modPwm_clusters (s : State) (u : Nat) (g : PwmS → PwmS) : (s.modPwm u g).clusters = s.clusters := rfl
@[simp] theorem modPwm_beam (s : State) (u : Nat) (g : PwmS → PwmS) : (s.modPwm u g).beam = s.beam := rfl
@[simp] theorem modPwm_cal (s : State) (u : Nat) (g : PwmS → PwmS) : (s.modPwm u g).cal = s.cal := rfl
@[simp] theorem modPwm_newts (s : State) (u : Nat) (g : PwmS → PwmS) : (s.modPwm u g).newts = s.newts := rfl
@[simp] theorem modPwm_mem (s : State) (u : Nat) (g : PwmS → PwmS) : (s.modPwm u g).mem = s.mem := rfl
@[simp] theorem modPwm_absent (s : State) (u : Nat) (g : PwmS → PwmS) : (s.modPwm u g).absent = s.absent := rfl
@[simp] theorem modPwm_chorus (s : State) (u : Nat) (g : PwmS → PwmS) : (s.modPwm u g).chorus = s.chorus := rfl
@[simp] theorem modPwm_link (s : State) (u : Nat) (g : PwmS → PwmS) : (s.modPwm u g).link = s.link := rfl
@[simp] theorem modPwm_pool (s : State) (u : Nat) (g : PwmS → PwmS) : (s.modPwm u g).pool = s.pool := rfl
@[simp] theorem modPwm_caps (s : State) (u : Nat) (g : PwmS → PwmS) : (s.modPwm u g).caps = s.caps := rfl
@[simp] theorem modPwm_dmas (s : State) (u : Nat) (g : PwmS → PwmS) : (s.modPwm u g).dmas = s.dmas := rfl
@[simp] theorem modPwm_flash (s : State) (u : Nat) (g : PwmS → PwmS) : (s.modPwm u g).flash = s.flash := rfl
@[simp] theorem modPwm_boot (s : State) (u : Nat) (g : PwmS → PwmS) : (s.modPwm u g).boot = s.boot := rfl
@[simp] theorem modPwm_sec (s : State) (u : Nat) (g : PwmS → PwmS) : (s.modPwm u g).sec = s.sec := rfl
@[simp] theorem modPwm_power (s : State) (u : Nat) (g : PwmS → PwmS) : (s.modPwm u g).power = s.power := rfl
@[simp] theorem modPwm_free (s : State) (u : Nat) (g : PwmS → PwmS) : (s.modPwm u g).free = s.free := rfl
@[simp] theorem modPwm_pending (s : State) (u : Nat) (g : PwmS → PwmS) : (s.modPwm u g).pending = s.pending := rfl

end Sys2Proof.Laws
end

