-- ==== Sys2Proof/Laws/Table.lean ====
section
/-! SUPPORT. The sparse tables: each operation keeps the canonical form, a read after a write gives the value written, and a write leaves every other
key alone. -/

set_option Elab.async false

namespace Sys2Proof.Laws

open Sys2Proof.Machine

variable {α : Type}

/-! ### Rising keys -/

theorem rising_mono {t : Tbl α} {a b : Nat} (h : b ≤ a) (ht : Tbl.risingFrom a t = true) : Tbl.risingFrom b t = true := by
  cases t with
  | nil => rfl
  | cons p r =>
    simp only [Tbl.risingFrom, Bool.and_eq_true, decide_eq_true_eq] at *
    exact ⟨Nat.le_trans h ht.1, ht.2⟩

theorem rising_erase {t : Tbl α} {lo : Nat} (k : Nat) (ht : Tbl.risingFrom lo t = true) : Tbl.risingFrom lo (t.erase k) = true := by
  induction t generalizing lo with
  | nil => rfl
  | cons p r ih =>
    obtain ⟨k', v⟩ := p
    simp only [Tbl.risingFrom, Bool.and_eq_true, decide_eq_true_eq] at ht
    simp only [Tbl.erase]
    split
    · exact rising_mono (by omega) (ih ht.2)
    · simp only [Tbl.risingFrom, Bool.and_eq_true, decide_eq_true_eq]
      exact ⟨ht.1, ih ht.2⟩

theorem rising_clear {t : Tbl α} {lo : Nat} (a b : Nat) (ht : Tbl.risingFrom lo t = true) : Tbl.risingFrom lo (t.clear a b) = true := by
  induction t generalizing lo with
  | nil => rfl
  | cons p r ih =>
    obtain ⟨k', v⟩ := p
    simp only [Tbl.risingFrom, Bool.and_eq_true, decide_eq_true_eq] at ht
    simp only [Tbl.clear]
    split
    · exact rising_mono (by omega) (ih ht.2)
    · simp only [Tbl.risingFrom, Bool.and_eq_true, decide_eq_true_eq]
      exact ⟨ht.1, ih ht.2⟩

/-- Key `k` is not listed. -/
def Absent (t : Tbl α) (k : Nat) : Prop := ∀ p ∈ t, p.1 ≠ k

theorem absent_erase (t : Tbl α) (k : Nat) : Absent (t.erase k) k := by
  induction t with
  | nil => simp [Absent, Tbl.erase]
  | cons p r ih =>
    obtain ⟨k', v⟩ := p
    simp only [Tbl.erase]
    split
    · exact ih
    · rename_i h
      intro p hp
      simp only [List.mem_cons] at hp
      rcases hp with rfl | hp
      · exact h
      · exact ih p hp

theorem rising_ins {t : Tbl α} {lo : Nat} (k : Nat) (v : α) (ha : Absent t k) (hk : lo ≤ k) (ht : Tbl.risingFrom lo t = true) :
    Tbl.risingFrom lo (t.ins k v) = true := by
  induction t generalizing lo with
  | nil => simp [Tbl.ins, Tbl.risingFrom, hk]
  | cons p r ih =>
    obtain ⟨k', v'⟩ := p
    have hne : k' ≠ k := ha (k', v') (by simp)
    simp only [Tbl.risingFrom, Bool.and_eq_true, decide_eq_true_eq] at ht
    simp only [Tbl.ins]
    split
    · simp only [Tbl.risingFrom, Bool.and_eq_true, decide_eq_true_eq]
      exact ⟨hk, by omega, ht.2⟩
    · simp only [Tbl.risingFrom, Bool.and_eq_true, decide_eq_true_eq]
      exact ⟨ht.1, ih (fun p hp => ha p (by simp [hp])) (by omega) ht.2⟩

theorem rising_set [DecidableEq α] {t : Tbl α} (k : Nat) (d v : α) (ht : t.rising = true) : (t.set k d v).rising = true := by
  unfold Tbl.set
  split
  · exact rising_erase k ht
  · exact rising_ins k v (absent_erase t k) (Nat.zero_le _) (rising_erase k ht)

/-! ### Listed values -/

theorem mem_erase {t : Tbl α} {k : Nat} {p : Nat × α} (h : p ∈ t.erase k) : p ∈ t := by
  induction t with
  | nil => exact h
  | cons q r ih =>
    obtain ⟨k', v⟩ := q
    simp only [Tbl.erase] at h
    split at h
    · exact List.mem_cons_of_mem _ (ih h)
    · simp only [List.mem_cons] at h ⊢
      exact h.imp id ih

theorem mem_clear {t : Tbl α} {a b : Nat} {p : Nat × α} (h : p ∈ t.clear a b) : p ∈ t := by
  induction t with
  | nil => exact h
  | cons q r ih =>
    obtain ⟨k', v⟩ := q
    simp only [Tbl.clear] at h
    split at h
    · exact List.mem_cons_of_mem _ (ih h)
    · simp only [List.mem_cons] at h ⊢
      exact h.imp id ih

theorem mem_ins {t : Tbl α} {k : Nat} {v : α} {p : Nat × α} (h : p ∈ t.ins k v) : p = (k, v) ∨ p ∈ t := by
  induction t with
  | nil => simpa [Tbl.ins] using h
  | cons q r ih =>
    obtain ⟨k', v'⟩ := q
    simp only [Tbl.ins] at h
    split at h
    · simpa using h
    · simp only [List.mem_cons] at h ⊢
      rcases h with h | h
      · exact .inr (.inl h)
      · exact (ih h).imp id .inr

/-! ### Reading after writing -/

theorem get_erase (t : Tbl α) (k : Nat) (d : α) : (t.erase k).get k d = d := by
  induction t with
  | nil => rfl
  | cons p r ih =>
    obtain ⟨k', v⟩ := p
    simp only [Tbl.erase]
    split
    · exact ih
    · rename_i h
      simpa [Tbl.get, h] using ih

theorem get_erase_ne (t : Tbl α) {k j : Nat} (d : α) (h : j ≠ k) : (t.erase k).get j d = t.get j d := by
  induction t with
  | nil => rfl
  | cons p r ih =>
    obtain ⟨k', v⟩ := p
    simp only [Tbl.erase]
    split
    · rename_i hk
      subst hk
      simp only [Tbl.get, if_neg h.symm, ih]
    · simp only [Tbl.get, ih]

theorem get_ins {t : Tbl α} (k : Nat) (d v : α) (ha : Absent t k) : (t.ins k v).get k d = v := by
  induction t with
  | nil => simp [Tbl.ins, Tbl.get]
  | cons p r ih =>
    obtain ⟨k', v'⟩ := p
    have hne : k' ≠ k := ha (k', v') (by simp)
    simp only [Tbl.ins]
    split
    · simp [Tbl.get]
    · simp only [Tbl.get, if_neg hne]
      exact ih fun p hp => ha p (by simp [hp])

theorem get_ins_ne (t : Tbl α) {k j : Nat} (d v : α) (h : j ≠ k) : (t.ins k v).get j d = t.get j d := by
  induction t with
  | nil => simp [Tbl.ins, Tbl.get, h.symm]
  | cons p r ih =>
    obtain ⟨k', v'⟩ := p
    simp only [Tbl.ins]
    split
    · simp only [Tbl.get, if_neg h.symm]
    · simp only [Tbl.get, ih]

/-- A read after a write of the same key gives the value written. -/
theorem get_set [DecidableEq α] (t : Tbl α) (k : Nat) (d v : α) : (t.set k d v).get k d = v := by
  unfold Tbl.set
  split
  · rename_i h
    rw [h, get_erase]
  · exact get_ins k d v (absent_erase t k)

/-- A write leaves every other key alone. -/
theorem get_set_ne [DecidableEq α] (t : Tbl α) {k j : Nat} (d d' v : α) (h : j ≠ k) : (t.set k d v).get j d' = t.get j d' := by
  unfold Tbl.set
  split
  · exact get_erase_ne t d' h
  · rw [get_ins_ne _ d' v h, get_erase_ne t d' h]

theorem get_clear (t : Tbl α) {a b k : Nat} (d : α) (h : ¬(a ≤ k ∧ k < b)) : (t.clear a b).get k d = t.get k d := by
  induction t with
  | nil => rfl
  | cons p r ih =>
    obtain ⟨k', v⟩ := p
    simp only [Tbl.clear]
    split
    · rename_i hk
      have hne : k' ≠ k := fun e => h (e ▸ hk)
      simp only [Tbl.get, if_neg hne, ih]
    · simp only [Tbl.get, ih]

/-! ### The addressed memories -/

/-! ### Ranges and merges -/

theorem get_range (t : Tbl α) {a b k : Nat} (d : α) (h : a ≤ k ∧ k < b) : (t.range a b).get k d = t.get k d := by
  induction t with
  | nil => rfl
  | cons p r ih =>
    unfold Tbl.range
    split
    · simp only [Tbl.get, ih]
    · rename_i hn
      rw [ih, Tbl.get, if_neg]
      intro e
      exact hn (e ▸ h)

theorem get_range_out (t : Tbl α) {a b k : Nat} (d : α) (h : ¬(a ≤ k ∧ k < b)) : (t.range a b).get k d = d := by
  induction t with
  | nil => rfl
  | cons p r ih =>
    unfold Tbl.range
    split
    · rename_i hp
      rw [Tbl.get, if_neg, ih]
      intro e
      exact h (e ▸ hp)
    · exact ih

theorem get_clear_in (t : Tbl α) {a b k : Nat} (d : α) (h : a ≤ k ∧ k < b) : (t.clear a b).get k d = d := by
  induction t with
  | nil => rfl
  | cons p r ih =>
    unfold Tbl.clear
    split
    · exact ih
    · rename_i hn
      rw [Tbl.get, if_neg, ih]
      intro e
      exact hn (e ▸ h)

/-- In a merge the second table wins. -/
theorem get_merge (t r : Tbl α) (k : Nat) (d : α) : (Tbl.merge t r).get k d = r.get k (t.get k d) := by
  induction r with
  | nil => rfl
  | cons p r ih =>
    simp only [Tbl.merge, Tbl.get]
    split
    · rename_i h
      rw [← h]
      exact get_ins _ _ _ (absent_erase _ _)
    · rename_i h
      rw [get_ins_ne _ _ _ (Ne.symm h), get_erase_ne _ _ (Ne.symm h), ih]

theorem memory_set_wf {m : Memory} (a : Nat) (v : BitVec 8) (h : Memory.wf m = true) : Memory.wf (m.set a 0 v) = true := by
  simp only [Memory.wf, Bool.and_eq_true, List.all_eq_true] at h ⊢
  refine ⟨rising_set a 0 v h.1, fun p hp => ?_⟩
  unfold Tbl.set at hp
  split at hp
  · exact h.2 p (mem_erase hp)
  · rename_i hv
    rcases mem_ins hp with rfl | hp
    · simpa using hv
    · exact h.2 p (mem_erase hp)

theorem memory_clear_wf {m : Memory} (a b : Nat) (h : Memory.wf m = true) : Memory.wf (m.clear a b) = true := by
  simp only [Memory.wf, Bool.and_eq_true, List.all_eq_true] at h ⊢
  exact ⟨rising_clear a b h.1, fun p hp => h.2 p (mem_clear hp)⟩

end Sys2Proof.Laws
end

