-- ==== Sys2Proof/Laws/Regs.lean ====
section
/-! SUPPORT. Reading registers after an operation: the algebra of `rd` and `rdSh` over the shared operations, and what issuing an event does. -/

set_option Elab.async false

namespace Sys2Proof.Laws

open Sys2Proof.Machine

/-! ### Register reads and writes -/

/-- A read depends on the register planes alone. -/
theorem rd_congr {s t : State} (ha : t.act = s.act) (hh : t.hact = s.hact) (f : Fld) : rd t f = rd s f := by
  unfold rd
  rw [ha, hh]

theorem rdSh_congr {s t : State} (h : t.hsh = s.hsh) (f : Fld) : rdSh t f = rdSh s f := by
  unfold rdSh
  rw [h]

/-- A written field reads the value written, in its width. -/
@[simp] theorem rd_wr (s : State) (f : Fld) (v : Nat) : rd (wr s f v) f = v % 2 ^ f.width := by
  unfold rd wr
  cases f.cls <;> exact get_set _ _ _ _

/-- A write leaves every other field alone. -/
theorem rd_wr_ne (s : State) {f g : Fld} (v : Nat) (h : g.key ≠ f.key) : rd (wr s f v) g = rd s g := by
  unfold rd wr
  cases f.cls <;> cases g.cls <;> first | rfl | exact get_set_ne _ _ _ _ h

@[simp] theorem rdSh_wr (s : State) (f g : Fld) (v : Nat) : rdSh (wr s f v) g = rdSh s g := rdSh_congr (wr_hsh s f v) g

@[simp] theorem rdSh_wrSh (s : State) (f : Fld) (v : Nat) : rdSh (wrSh s f v) f = v % 2 ^ f.width := get_set _ _ _ _

theorem rdSh_wrSh_ne (s : State) {f g : Fld} (v : Nat) (h : g.key ≠ f.key) : rdSh (wrSh s f v) g = rdSh s g := get_set_ne _ _ _ _ h

@[simp] theorem rd_wrSh (s : State) (f g : Fld) (v : Nat) : rd (wrSh s f v) g = rd s g := rd_congr rfl rfl g

/-- An active H field is written without any other plane changing. -/
theorem wr_hact_of_L (s : State) {f : Fld} (v : Nat) (h : f.cls ≠ .H) : (wr s f v).hact = s.hact := by
  unfold wr
  split
  · exact absurd (by assumption) h
  · rfl

theorem wr_act_of_H (s : State) {f : Fld} (v : Nat) (h : f.cls = .H) : (wr s f v).act = s.act := by
  unfold wr
  split
  · rfl
  · exact absurd h (by assumption)

@[simp] theorem rd_bump (s : State) (f : Fld) (n : Nat) : rd (bump s f n) f = min (rd s f + n) (2 ^ f.width - 1) := by
  unfold bump
  rw [rd_wr]
  refine Nat.mod_eq_of_lt ?_
  have h : 0 < 2 ^ f.width := Nat.two_pow_pos _
  omega

theorem rd_bump_ne (s : State) {f g : Fld} (n : Nat) (h : g.key ≠ f.key) : rd (bump s f n) g = rd s g := rd_wr_ne s _ h

@[simp] theorem on_wr_one (s : State) (f : Fld) (h : f.width = 1) : on (wr s f 1) f = true := by
  simp [on, h]

/-! ### Parts of the state -/

@[simp] theorem unit_modUnit (s : State) (u : Nat) (g : UnitS → UnitS) : (s.modUnit u g).unit u = g (s.unit u) := get_set _ _ _ _

theorem unit_modUnit_ne (s : State) {u v : Nat} (g : UnitS → UnitS) (h : v ≠ u) : (s.modUnit u g).unit v = s.unit v := get_set_ne _ _ _ _ h

@[simp] theorem unit_wr (s : State) (f : Fld) (v u : Nat) : (wr s f v).unit u = s.unit u := by
  unfold State.unit
  rw [wr_units]

@[simp] theorem rd_modUnit (s : State) (u : Nat) (g : UnitS → UnitS) (f : Fld) : rd (s.modUnit u g) f = rd s f := rfl
@[simp] theorem rd_modRx (s : State) (u : Nat) (g : RxUnit → RxUnit) (f : Fld) : rd (s.modRx u g) f = rd s f := rfl
@[simp] theorem rd_modTx (s : State) (u : Nat) (g : TxUnit → TxUnit) (f : Fld) : rd (s.modTx u g) f = rd s f := rfl
@[simp] theorem rd_modCluster (s : State) (c : Nat) (g : ClusterS → ClusterS) (f : Fld) : rd (s.modCluster c g) f = rd s f := rfl
@[simp] theorem rd_modNewt (s : State) (k : Nat) (g : NewtS → NewtS) (f : Fld) : rd (s.modNewt k g) f = rd s f := rfl
@[simp] theorem rd_modPort (s : State) (p : Nat) (g : PortS → PortS) (f : Fld) : rd (s.modPort p g) f = rd s f := rfl
@[simp] theorem rd_modCap (s : State) (n : Nat) (g : CapCh → CapCh) (f : Fld) : rd (s.modCap n g) f = rd s f := rfl
@[simp] theorem rd_modDma (s : State) (n : Nat) (g : DmaCh → DmaCh) (f : Fld) : rd (s.modDma n g) f = rd s f := rfl
@[simp] theorem rd_modConv (s : State) (k : Nat) (g : HkConv → HkConv) (f : Fld) : rd (s.modConv k g) f = rd s f := rfl
@[simp] theorem rd_modBias (s : State) (i : Nat) (g : BiasS → BiasS) (f : Fld) : rd (s.modBias i g) f = rd s f := rfl
@[simp] theorem rd_modPwm (s : State) (u : Nat) (g : PwmS → PwmS) (f : Fld) : rd (s.modPwm u g) f = rd s f := rfl
@[simp] theorem rd_modUcal (s : State) (u : Nat) (g : UnitCal → UnitCal) (f : Fld) : rd (s.modUcal u g) f = rd s f := rfl
@[simp] theorem rd_modCcal (s : State) (c : Nat) (g : ClusterCal → ClusterCal) (f : Fld) : rd (s.modCcal c g) f = rd s f := rfl
@[simp] theorem rd_modWset (s : State) (w : Nat) (g : WsetS → WsetS) (f : Fld) : rd (s.modWset w g) f = rd s f := rfl
@[simp] theorem rd_modDom (s : State) (d : Nat) (g : DomS → DomS) (f : Fld) : rd (s.modDom d g) f = rd s f :=
  rd_congr (modDom_act s d g) (modDom_hact s d g) f

/-! ### Events -/

/-- Event fields: what issuing an event may write. -/
def eventFields : List Fld := [Reg.ALERT_STATUS_FATAL_PEND, Reg.ALERT_STATUS_CLASS_PEND, Reg.POOL_STATUS_EVT_LOST]

theorem rd_alertPend (s : State) (c : Nat) {f : Fld} (h : ∀ e ∈ eventFields, f.key ≠ e.key) : rd (alertPend s c) f = rd s f := by
  unfold alertPend
  split
  · exact rd_wr_ne s _ (h _ (by simp [eventFields]))
  · exact rd_wr_ne s _ (h _ (by simp [eventFields]))

theorem rd_enqueue (s : State) (c a : Nat) {f : Fld} (h : ∀ e ∈ eventFields, f.key ≠ e.key) : rd (enqueue s c a) f = rd s f := by
  unfold enqueue
  dsimp only
  split
  · rfl
  · exact rd_wr_ne _ _ (h _ (by simp [eventFields]))

/-- Issuing an event changes no field but the ALERT and EVT_LOST bits. -/
theorem rd_raise (s : State) (c a : Nat) {f : Fld} (h : ∀ e ∈ eventFields, f.key ≠ e.key) : rd (raise s c a) f = rd s f := by
  unfold raise
  split
  · rfl
  · dsimp only
    split
    · exact rd_alertPend s c h
    · split
      · rw [rd_enqueue _ _ _ h, rd_alertPend _ _ h, rd_enqueue _ _ _ h, rd_alertPend _ _ h]
      · rw [rd_enqueue _ _ _ h, rd_alertPend _ _ h]

theorem rd_raiseIf (b : Bool) (s : State) (c a : Nat) {f : Fld} (h : ∀ e ∈ eventFields, f.key ≠ e.key) :
    rd (raiseIf b s c a) f = rd s f := by
  unfold raiseIf
  split
  · exact rd_raise s c a h
  · rfl

theorem alertPend_events (s : State) (c : Nat) : (alertPend s c).events = s.events := by
  unfold alertPend
  split <;> exact wr_events _ _ _

theorem enqueue_mem (s : State) (c a : Nat) : ∃ e ∈ (enqueue s c a).events.entries, e.code = c ∧ e.arg = a % 2 ^ 32 := by
  unfold enqueue
  dsimp only
  split
  · exact ⟨_, List.mem_append_right _ (List.mem_singleton_self _), rfl, rfl⟩
  · rw [wr_events]
    exact ⟨_, List.mem_append_right _ (List.mem_singleton_self _), rfl, rfl⟩

/-- In a queue with room an event is appended, and nothing is displaced. -/
theorem raise_room {s : State} {c : Nat} (a : Nat) (hp : packageHeld s = false) (hl : s.events.entries.length < 512) (hc : eventClass c ≠ 0xF) :
    (raise s c a).events.entries = s.events.entries ++
      [{ code := c, eseq := s.events.next % 65536, arg := a % 2 ^ 32, sec := balSec s % 2 ^ 32, ns := balNs s, pushed := false }] := by
  have ha : (alertPend s c).events = s.events := alertPend_events s c
  have hb : (alertPend s c).time = s.time := by
    unfold alertPend
    split <;> exact wr_time _ _ _
  have he : enqueue (alertPend s c) c a = { alertPend s c with events := { s.events with
      entries := s.events.entries ++
        [{ code := c, eseq := s.events.next % 65536, arg := a % 2 ^ 32, sec := balSec s % 2 ^ 32, ns := balNs s, pushed := false }]
      next := (s.events.next + 1) % 65536 } } := by
    unfold enqueue balSec balNs
    rw [ha, hb]
    dsimp only
    rw [if_pos hl, hb]
  unfold raise
  rw [hp]
  dsimp only
  rw [if_neg (by simp), if_neg (fun h => hc h.1), he]
  have hlost : on { alertPend s c with events := { s.events with
      entries := s.events.entries ++
        [{ code := c, eseq := s.events.next % 65536, arg := a % 2 ^ 32, sec := balSec s % 2 ^ 32, ns := balNs s, pushed := false }]
      next := (s.events.next + 1) % 65536 } } Reg.POOL_STATUS_EVT_LOST = on (alertPend s c) Reg.POOL_STATUS_EVT_LOST := rfl
  rw [hlost]
  cases on (alertPend s c) Reg.POOL_STATUS_EVT_LOST <;> rfl

end Sys2Proof.Laws
end

