-- ==== Sys2Proof/Laws/Frame.lean ====
section
/-! SUPPORT. Frames: how `Frame` composes, and the frame of each shared operation. -/

set_option Elab.async false

namespace Sys2Proof.Laws

open Sys2Proof.Machine

theorem frame_refl (s : State) (rs : List Fld) (ps : List Part) : Frame s s rs ps :=
  ⟨fun _ _ => rfl, fun p _ => by cases p <;> rfl, rfl⟩

theorem samePart_trans {s t u : State} {p : Part} (h : SamePart s t p) (k : SamePart t u p) : SamePart s u p := by
  cases p <;> exact Eq.trans k h

theorem frame_trans {s t u : State} {rs rs' : List Fld} {ps ps' : List Part} (h : Frame s t rs ps) (k : Frame t u rs' ps') :
    Frame s u (rs ++ rs') (ps ++ ps') := by
  refine ⟨fun g hg => ?_, fun p hp => ?_, k.2.2.trans h.2.2⟩
  · rw [k.1 g fun f hf => hg f (List.mem_append_right _ hf), h.1 g fun f hf => hg f (List.mem_append_left _ hf)]
  · rw [List.mem_append, not_or] at hp
    exact samePart_trans (h.2.1 p hp.1) (k.2.1 p hp.2)

theorem frame_mono {s t : State} {rs rs' : List Fld} {ps ps' : List Part} (h : Frame s t rs ps) (hr : rs ⊆ rs') (hp : ps ⊆ ps') :
    Frame s t rs' ps' :=
  ⟨fun g hg => h.1 g fun f hf => hg f (hr hf), fun p hq => h.2.1 p fun hm => hq (hp hm), h.2.2⟩

/-- Two steps inside one frame. -/
theorem frame_step {s t u : State} {rs : List Fld} {ps : List Part} (h : Frame s t rs ps) (k : Frame t u rs ps) : Frame s u rs ps :=
  frame_mono (frame_trans h k) (by simp) (by simp)

theorem frame_ite {s a b : State} {c : Prop} [Decidable c] {rs : List Fld} {ps : List Part} (ha : Frame s a rs ps) (hb : Frame s b rs ps) :
    Frame s (if c then a else b) rs ps := by
  split <;> assumption

theorem frame_wr {s t : State} {f : Fld} {rs : List Fld} {ps : List Part} (v : Nat) (hf : f ∈ rs) (h : Frame s t rs ps) :
    Frame s (wr t f v) rs ps := by
  refine frame_step h ⟨fun g hg => rd_wr_ne _ _ (hg f hf), fun p _ => ?_, by simp⟩
  cases p <;> simp [SamePart]

theorem frame_bump {s t : State} {f : Fld} {rs : List Fld} {ps : List Part} (n : Nat) (hf : f ∈ rs) (h : Frame s t rs ps) :
    Frame s (bump t f n) rs ps := frame_wr _ hf h

theorem frame_wrIf {s t : State} {f : Fld} {rs : List Fld} {ps : List Part} (c : Bool) (v : Nat) (hf : f ∈ rs) (h : Frame s t rs ps) :
    Frame s (wrIf c t f v) rs ps := by
  unfold wrIf
  split
  · exact frame_wr v hf h
  · exact h

theorem frame_forEach {α : Type} {s t : State} {l : List α} {g : State → α → State} {rs : List Fld} {ps : List Part} (h : Frame s t rs ps)
    (hg : ∀ u a, a ∈ l → Frame s u rs ps → Frame s (g u a) rs ps) : Frame s (forEach l t g) rs ps := by
  unfold forEach
  induction l generalizing t with
  | nil => exact h
  | cons a r ih =>
    exact ih (hg t a (List.mem_cons_self ..) h) fun u b hb => hg u b (List.mem_cons_of_mem _ hb)

/-- An update of parts that the frame leaves free. -/
theorem frame_part {s t u : State} {rs : List Fld} {ps : List Part} (h : Frame s t rs ps) (ha : u.act = t.act) (hh : u.hact = t.hact)
    (hp : u.pending = t.pending) (hq : ∀ p, p ∉ ps → SamePart t u p) : Frame s u rs ps :=
  frame_step h ⟨fun g _ => rd_congr ha hh g, hq, hp⟩

theorem frame_modUnit {s t : State} {rs : List Fld} {ps : List Part} (u : Nat) (g : UnitS → UnitS) (hp : Part.units ∈ ps) (h : Frame s t rs ps) :
    Frame s (t.modUnit u g) rs ps :=
  frame_part h rfl rfl rfl fun p hq => by cases p <;> first | rfl | exact absurd hp hq

theorem frame_modRx {s t : State} {rs : List Fld} {ps : List Part} (u : Nat) (g : RxUnit → RxUnit) (hp : Part.units ∈ ps) (h : Frame s t rs ps) :
    Frame s (t.modRx u g) rs ps := frame_modUnit u _ hp h

theorem frame_modTx {s t : State} {rs : List Fld} {ps : List Part} (u : Nat) (g : TxUnit → TxUnit) (hp : Part.units ∈ ps) (h : Frame s t rs ps) :
    Frame s (t.modTx u g) rs ps := frame_modUnit u _ hp h

theorem frame_modCluster {s t : State} {rs : List Fld} {ps : List Part} (c : Nat) (g : ClusterS → ClusterS) (hp : Part.clusters ∈ ps)
    (h : Frame s t rs ps) : Frame s (t.modCluster c g) rs ps :=
  frame_part h rfl rfl rfl fun p hq => by cases p <;> first | rfl | exact absurd hp hq

theorem frame_modNewt {s t : State} {rs : List Fld} {ps : List Part} (k : Nat) (g : NewtS → NewtS) (hp : Part.newts ∈ ps) (h : Frame s t rs ps) :
    Frame s (t.modNewt k g) rs ps :=
  frame_part h rfl rfl rfl fun p hq => by cases p <;> first | rfl | exact absurd hp hq

theorem frame_modPort {s t : State} {rs : List Fld} {ps : List Part} (p : Nat) (g : PortS → PortS) (hp : Part.link ∈ ps) (h : Frame s t rs ps) :
    Frame s (t.modPort p g) rs ps :=
  frame_part h rfl rfl rfl fun q hq => by cases q <;> first | rfl | exact absurd hp hq

theorem frame_modCap {s t : State} {rs : List Fld} {ps : List Part} (n : Nat) (g : CapCh → CapCh) (hp : Part.caps ∈ ps) (h : Frame s t rs ps) :
    Frame s (t.modCap n g) rs ps :=
  frame_part h rfl rfl rfl fun p hq => by cases p <;> first | rfl | exact absurd hp hq

theorem frame_modDma {s t : State} {rs : List Fld} {ps : List Part} (n : Nat) (g : DmaCh → DmaCh) (hp : Part.dmas ∈ ps) (h : Frame s t rs ps) :
    Frame s (t.modDma n g) rs ps :=
  frame_part h rfl rfl rfl fun p hq => by cases p <;> first | rfl | exact absurd hp hq

theorem frame_modConv {s t : State} {rs : List Fld} {ps : List Part} (k : Nat) (g : HkConv → HkConv) (hp : Part.hk ∈ ps) (h : Frame s t rs ps) :
    Frame s (t.modConv k g) rs ps :=
  frame_part h rfl rfl rfl fun p hq => by cases p <;> first | rfl | exact absurd hp hq

theorem frame_modBias {s t : State} {rs : List Fld} {ps : List Part} (i : Nat) (g : BiasS → BiasS) (hp : Part.hk ∈ ps) (h : Frame s t rs ps) :
    Frame s (t.modBias i g) rs ps :=
  frame_part h rfl rfl rfl fun p hq => by cases p <;> first | rfl | exact absurd hp hq

theorem frame_modPwm {s t : State} {rs : List Fld} {ps : List Part} (u : Nat) (g : PwmS → PwmS) (hp : Part.hk ∈ ps) (h : Frame s t rs ps) :
    Frame s (t.modPwm u g) rs ps :=
  frame_part h rfl rfl rfl fun p hq => by cases p <;> first | rfl | exact absurd hp hq

theorem frame_modUcal {s t : State} {rs : List Fld} {ps : List Part} (u : Nat) (g : UnitCal → UnitCal) (hp : Part.cal ∈ ps) (h : Frame s t rs ps) :
    Frame s (t.modUcal u g) rs ps :=
  frame_part h rfl rfl rfl fun p hq => by cases p <;> first | rfl | exact absurd hp hq

theorem frame_modCcal {s t : State} {rs : List Fld} {ps : List Part} (c : Nat) (g : ClusterCal → ClusterCal) (hp : Part.cal ∈ ps)
    (h : Frame s t rs ps) : Frame s (t.modCcal c g) rs ps :=
  frame_part h rfl rfl rfl fun p hq => by cases p <;> first | rfl | exact absurd hp hq

theorem frame_modWset {s t : State} {rs : List Fld} {ps : List Part} (w : Nat) (g : WsetS → WsetS) (hp : Part.beam ∈ ps) (h : Frame s t rs ps) :
    Frame s (t.modWset w g) rs ps :=
  frame_part h rfl rfl rfl fun p hq => by cases p <;> first | rfl | exact absurd hp hq

theorem frame_modDom {s t : State} {rs : List Fld} {ps : List Part} (d : Nat) (g : DomS → DomS) (hp : Part.time ∈ ps) (h : Frame s t rs ps) :
    Frame s (t.modDom d g) rs ps := by
  refine frame_part h (by simp) (by simp) (by simp) fun p hq => ?_
  cases p <;> first | exact absurd hp hq | simp [SamePart]

/-! ### Events -/

theorem frame_alertPend (s : State) (c : Nat) : Frame s (alertPend s c) eventRegs [] := by
  unfold alertPend
  split <;> exact frame_wr _ (by simp [eventRegs]) (frame_refl ..)

theorem frame_enqueue (s : State) (c a : Nat) : Frame s (enqueue s c a) eventRegs [.events] := by
  unfold enqueue
  dsimp only
  split
  · exact frame_part (frame_refl ..) rfl rfl rfl fun p hq => by cases p <;> first | rfl | simp at hq
  · exact frame_wr _ (by simp [eventRegs])
      (frame_part (frame_refl ..) rfl rfl rfl fun p hq => by cases p <;> first | rfl | simp at hq)

/-- Issuing an event changes the queue and the fields of R34 and R259, nothing else. -/
theorem frame_raise_self (s : State) (c a : Nat) : Frame s (raise s c a) eventRegs [.events] := by
  have hp : ∀ s c, Frame s (alertPend s c) eventRegs [.events] := fun s c => frame_mono (frame_alertPend s c) (by simp) (by simp)
  unfold raise
  split
  · exact frame_refl ..
  · dsimp only
    split
    · exact hp s c
    · split
      · exact frame_step (frame_step (hp s c) (frame_enqueue _ c a)) (frame_step (hp _ _) (frame_enqueue _ _ _))
      · exact frame_step (hp s c) (frame_enqueue _ c a)

theorem frame_raise {s t : State} {rs : List Fld} {ps : List Part} (c a : Nat) (hr : eventRegs ⊆ rs) (hp : Part.events ∈ ps) (h : Frame s t rs ps) :
    Frame s (raise t c a) rs ps :=
  frame_step h (frame_mono (frame_raise_self t c a) hr (by simpa using hp))

theorem frame_raiseIf {s t : State} {rs : List Fld} {ps : List Part} (b : Bool) (c a : Nat) (hr : eventRegs ⊆ rs) (hp : Part.events ∈ ps)
    (h : Frame s t rs ps) : Frame s (raiseIf b t c a) rs ps := by
  unfold raiseIf
  split
  · exact frame_raise c a hr hp h
  · exact h

theorem frame_stickyEvent {s t : State} {f : Fld} {rs : List Fld} {ps : List Part} (c a : Nat) (hf : f ∈ rs) (hr : eventRegs ⊆ rs)
    (hp : Part.events ∈ ps) (h : Frame s t rs ps) : Frame s (stickyEvent t f c a) rs ps :=
  frame_raiseIf _ c a hr hp (frame_wr 1 hf h)

/-- A configuration error (R12): its record, and the event. -/
theorem frame_cfgError {s t : State} {rs : List Fld} {ps : List Part} (b : Bool) (o : Nat)
    (hf : [Reg.CFG_ERR_ADDR_ADDR, Reg.CFG_STATUS_ERR_KIND, Reg.CFG_STATUS_ERR_OVF, Reg.CFG_STATUS_CFG_PAIR_ERR, Reg.CFG_STATUS_CFG_IGNORED] ⊆ rs)
    (hr : eventRegs ⊆ rs) (hp : Part.events ∈ ps) (h : Frame s t rs ps) : Frame s (cfgError t b o) rs ps := by
  unfold cfgError
  dsimp only
  refine frame_raise _ _ hr hp (frame_wr _ ?_ ?_)
  · split <;> exact hf (by simp)
  · split
    · exact frame_wr _ (hf (by simp)) (frame_wr _ (hf (by simp)) h)
    · exact frame_wr _ (hf (by simp)) h

/-! ### Queued events -/

theorem packageHeld_wr (s : State) (f : Fld) (v : Nat) : packageHeld (wr s f v) = packageHeld s := by
  unfold packageHeld
  rw [wr_rst]

/-- In a queue with room an event is one entry more. -/
theorem queued_raise {s t : State} {c : Nat} (a : Nat) (hr : t.rst = s.rst) (he : t.events = s.events) (h : Room s) (hc : eventClass c ≠ 0xF) :
    Queued s (raise t c a) c a := by
  have hp : packageHeld t = false := by
    have := h.1
    unfold packageHeld at this ⊢
    rw [hr]
    exact this
  have := raise_room a hp (by rw [he]; exact h.2) hc
  exact ⟨_, by rw [this, he], rfl, rfl, rfl⟩

/-- What follows leaves the queued event alone. -/
theorem queued_congr {s t u : State} {c a : Nat} (h : Queued s t c a) (he : u.events = t.events) : Queued s u c a := by
  obtain ⟨e, h1, h2⟩ := h
  exact ⟨e, by rw [he]; exact h1, h2⟩

theorem samePart_of_frame {s t : State} {rs : List Fld} {ps : List Part} (h : Frame s t rs ps) {p : Part} (hp : p ∉ ps) : SamePart s t p :=
  h.2.1 p hp

/-! ### The step on an empty queue -/

/-- A REF edge adds to the balance, and nothing else; it adds nothing where no edge comes. -/
theorem refTick_bal (s : State) : ∃ n, refTick s = { s with time := { s.time with bal := s.time.bal + n } } ∧
    (packageHeld s = true ∨ modeOf s = mBrumate ∨ rd s Reg.BOOT_STRAPS_CLKSEL = 3 → n = 0) := by
  unfold refTick
  dsimp only
  by_cases h : rd s Reg.BOOT_STRAPS_CLKSEL = 3 ∨ 0 ∈ s.rst.badClocks ∨ packageHeld s = true ∨ modeOf s = mBrumate
  · rw [if_pos h]; exact ⟨0, rfl, fun _ => rfl⟩
  · rw [if_neg h]; refine ⟨_, rfl, fun k => absurd ?_ h⟩
    rcases k with k | k | k
    · exact .inr (.inr (.inl k))
    · exact .inr (.inr (.inr k))
    · exact .inl k

end Sys2Proof.Laws
end

