-- ==== Sys2Proof/Laws/Keeps.lean ====
section
/-! SUPPORT. What every operation of the machine keeps, whatever else it does: the queue of commands, the grade fuse, the count of free values
taken (which only grows), and the legality of the state. It also says which parts of the state an
operation may change. One relation, closed under the ways in which the meanings are put together. -/

set_option Elab.async false

namespace Sys2Proof.Laws

open Sys2Proof.Machine

/-- The place of a part in a set of parts held as the bits of a number. -/
def partBit : Part → Nat
  | .silent => 0
  | .fuse => 1
  | .rst => 2
  | .events => 3
  | .time => 4
  | .air => 5
  | .units => 6
  | .clusters => 7
  | .beam => 8
  | .cal => 9
  | .newts => 10
  | .mem => 11
  | .absent => 12
  | .chorus => 13
  | .link => 14
  | .pool => 15
  | .caps => 16
  | .dmas => 17
  | .hk => 18
  | .flash => 19
  | .boot => 20
  | .sec => 21
  | .power => 22
  | .free => 23
  | .shadow => 24

/-- The set `a` lies in the set `b`. -/
def Sub (a b : Nat) : Prop := Nat.lor a b = b

theorem sub_trans {a b c : Nat} (h : Sub a b) (k : Sub b c) : Sub a c := by
  have h' : a ||| b = b := h
  have k' : b ||| c = c := k
  show a ||| c = c
  rw [← k', ← Nat.or_assoc, h']

theorem sub_of {a b c : Nat} (k : Sub b c) (h : Nat.lor a b = b) : Sub a c := sub_trans h k

theorem sub_bit {a b i : Nat} (h : Sub a b) (ha : Nat.testBit a i = true) : b.testBit i = true := by
  have h' : a ||| b = b := h
  rw [← h', Nat.testBit_or, ha, Bool.true_or]

theorem sub_absurd {a b i : Nat} (h : Sub a b) (ha : Nat.testBit a i = true) (k : b.testBit i = false) : False := by
  rw [sub_bit h ha] at k
  exact absurd k (by decide)

/-- `t` follows `s`: same queue of commands, same grade, no free value given back, legal if `s` is, and different in no part outside the set `m`; and
of the same mode unless `m` has bit 25. -/
structure Keeps (m : Nat) (s t : State) : Prop where
  pending : t.pending = s.pending
  grade : t.fuse.grade = s.fuse.grade
  free : s.free ≤ t.free
  inv : Legal s → Legal t
  part : ∀ p : Part, m.testBit (partBit p) = false → SamePart s t p
  mode : m.testBit 25 = false → modeOf t = modeOf s

/-- A next state follows `s`. -/
def KeepsO (m : Nat) (s : State) (o : Host.Outcome State Fault Refusal) : Prop := ∀ t, o = .next t → Keeps m s t

theorem keeps_refl (m : Nat) (s : State) : Keeps m s s :=
  ⟨rfl, rfl, Nat.le_refl _, id, fun p _ => by cases p <;> rfl, fun _ => rfl⟩

theorem part_trans {s t u : State} {p : Part} (h : SamePart s t p) (k : SamePart t u p) : SamePart s u p := by
  cases p <;> exact Eq.trans k h

theorem keeps_trans {m : Nat} {s t u : State} (h : Keeps m s t) (k : Keeps m t u) : Keeps m s u :=
  ⟨k.pending.trans h.pending, k.grade.trans h.grade, Nat.le_trans h.free k.free, fun i => k.inv (h.inv i),
    fun p hp => part_trans (h.part p hp) (k.part p hp), fun q => (k.mode q).trans (h.mode q)⟩

/-- The mode is the field's value in the plane of class S and L fields. -/
theorem modeOf_congr {s t : State} (h : t.act = s.act) : modeOf t = modeOf s := by
  unfold modeOf rd
  show Tbl.get t.act _ _ = Tbl.get s.act _ _
  rw [h]

/-- A field that is not MODE. -/
def NotMode (f : Fld) : Prop := f.key ≠ 1024 ∨ f.cls = .H

theorem notMode_key {f : Fld} (h : f.key ≠ 1024) : NotMode f := .inl h

theorem notMode_off {f : Fld} (h : 65536 ≤ f.off) : NotMode f := by
  left
  unfold Fld.key
  omega

theorem notMode_ite {c : Prop} [Decidable c] {a b : Fld} (ha : NotMode a) (hb : NotMode b) : NotMode (if c then a else b) := by
  split <;> assumption

theorem modeOf_wr (s : State) {f : Fld} (v : Nat) (h : NotMode f) : modeOf (wr s f v) = modeOf s := by
  unfold wr
  split
  · rfl
  · rename_i hf
    unfold modeOf rd
    exact get_set_ne _ _ _ _ (Ne.symm (h.resolve_right hf))

/-- What a command's next state shares with the state before it. -/
theorem within_of_keeps {m : Nat} {c : Instr} {s : State} (h : KeepsO m s (exec c s)) (ps : List Part)
    (hm : ∀ p : Part, p ∉ ps → m.testBit (partBit p) = false) : Within c s ps :=
  fun t ht p hp => (h t ht).part p (hm p hp)

theorem keepsO_next {m : Nat} {s t : State} (h : Keeps m s t) : KeepsO m s (.next t) := by
  intro u hu
  cases hu
  exact h

theorem keeps_ite {m : Nat} {s a b : State} {c : Prop} [Decidable c] (ha : Keeps m s a) (hb : Keeps m s b) : Keeps m s (if c then a else b) := by
  split <;> assumption

theorem keepsO_ite {m : Nat} {s : State} {a b : Host.Outcome State Fault Refusal} {c : Prop} [Decidable c] (ha : KeepsO m s a) (hb : KeepsO m s b) :
    KeepsO m s (if c then a else b) := by
  split <;> assumption

theorem keeps_ite_fst {m : Nat} {α : Type} {s : State} {a b : State × α} {c : Prop} [Decidable c] (ha : Keeps m s a.1) (hb : Keeps m s b.1) :
    Keeps m s (if c then a else b).1 := by
  split <;> assumption

theorem keeps_ite_snd {m : Nat} {α : Type} {s : State} {a b : α × State} {c : Prop} [Decidable c] (ha : Keeps m s a.2) (hb : Keeps m s b.2) :
    Keeps m s (if c then a else b).2 := by
  split <;> assumption

theorem keeps_ite_snd2 {m : Nat} {α β : Type} {s : State} {a b : α × β × State} {c : Prop} [Decidable c] (ha : Keeps m s a.2.2) (hb : Keeps m s b.2.2) :
    Keeps m s (if c then a else b).2.2 := by
  split <;> assumption

theorem keeps_foldl {m : Nat} {α : Type} {s t : State} {l : List α} {g : State → α → State} (h : Keeps m s t) (hg : ∀ u a, Keeps m s u → Keeps m s (g u a)) :
    Keeps m s (l.foldl g t) := by
  induction l generalizing t with
  | nil => exact h
  | cons a r ih => exact ih (hg t a h)

theorem keeps_forEach {m : Nat} {α : Type} {s t : State} {l : List α} {g : State → α → State} (h : Keeps m s t)
    (hg : ∀ u a, Keeps m s u → Keeps m s (g u a)) : Keeps m s (forEach l t g) := keeps_foldl h hg

theorem keeps_foldl_fst {m : Nat} {α β : Type} {s : State} {t : State × β} {l : List α} {g : State × β → α → State × β} (h : Keeps m s t.1)
    (hg : ∀ u a, Keeps m s u.1 → Keeps m s (g u a).1) : Keeps m s (l.foldl g t).1 := by
  induction l generalizing t with
  | nil => exact h
  | cons a r ih => exact ih (hg t a h)

theorem keeps_foldl_snd {m : Nat} {α β : Type} {s : State} {t : β × State} {l : List α} {g : β × State → α → β × State} (h : Keeps m s t.2)
    (hg : ∀ u a, Keeps m s u.2 → Keeps m s (g u a).2) : Keeps m s (l.foldl g t).2 := by
  induction l generalizing t with
  | nil => exact h
  | cons a r ih => exact ih (hg t a h)

/-- An update whose memory, events and snapshot stay legal. -/
theorem keeps_build {m : Nat} {s t : State} {u : State} (hp : u.pending = t.pending) (hf : u.free = t.free) (hg : u.fuse.grade = t.fuse.grade)
    (hm : Memory.wf t.mem = true → Memory.wf u.mem = true) (he : t.events.wf = true → u.events.wf = true)
    (hs : snapWf t.power.snap = true → snapWf u.power.snap = true) (hq : ∀ p : Part, m.testBit (partBit p) = false → SamePart t u p)
    (hd : m.testBit 25 = false → modeOf u = modeOf t) (h : Keeps m s t) : Keeps m s u :=
  ⟨hp.trans h.pending, hg.trans h.grade, hf ▸ h.free, fun i => ⟨hm (h.inv i).1, he (h.inv i).2.1, hs (h.inv i).2.2⟩,
    fun p q => part_trans (h.part p q) (hq p q), fun q => (hd q).trans (h.mode q)⟩

/-- A part in the set may differ; any other is the same. -/
theorem same_of {m i : Nat} {α : Type} {x y : α} (h : m.testBit i = true ∨ x = y) (k : m.testBit i = false) : x = y :=
  h.resolve_left (by simp [k])

/-- An update of parts in the set, other than memory, events and snapshot. -/
theorem keeps_mk {m : Nat} {s t : State} {act hact hsh : Tbl Nat} {silent : List Nat} {fuse : Fuses} {rst : ResetS} {events : EventQueue} {time : TimeS}
    {air : AirS} {units : Tbl UnitS} {clusters : Tbl ClusterS} {beam : BeamS} {cal : CalS} {newts : Tbl NewtS} {mem : Tbl Byte}
    {absent : List Nat} {chorus : ChorusS} {link : LinkS} {pool : PoolS} {caps : Tbl CapCh} {dmas : Tbl DmaCh} {hk : HkS} {flash : FlashS}
    {boot : BootS} {sec : SecS} {power : PowerS} {free : Nat} {pending : List Instr}
    (hp : pending = t.pending) (hf : free = t.free) (hg : fuse.grade = t.fuse.grade) (hm : mem = t.mem) (he : events = t.events)
    (hs : power.snap = t.power.snap) (h : Keeps m s t)
    (ha : m.testBit 25 = true ∨ act = t.act := by first | exact .inl (sub_bit (by assumption) rfl) | exact .inr rfl)
    (h0 : m.testBit 0 = true ∨ silent = t.silent := by first | exact .inl (sub_bit (by assumption) rfl) | exact .inr rfl)
    (h1 : m.testBit 1 = true ∨ fuse = t.fuse := by first | exact .inl (sub_bit (by assumption) rfl) | exact .inr rfl)
    (h2 : m.testBit 2 = true ∨ rst = t.rst := by first | exact .inl (sub_bit (by assumption) rfl) | exact .inr rfl)
    (h3 : m.testBit 3 = true ∨ events = t.events := by first | exact .inl (sub_bit (by assumption) rfl) | exact .inr rfl)
    (h4 : m.testBit 4 = true ∨ time = t.time := by first | exact .inl (sub_bit (by assumption) rfl) | exact .inr rfl)
    (h5 : m.testBit 5 = true ∨ air = t.air := by first | exact .inl (sub_bit (by assumption) rfl) | exact .inr rfl)
    (h6 : m.testBit 6 = true ∨ units = t.units := by first | exact .inl (sub_bit (by assumption) rfl) | exact .inr rfl)
    (h7 : m.testBit 7 = true ∨ clusters = t.clusters := by first | exact .inl (sub_bit (by assumption) rfl) | exact .inr rfl)
    (h8 : m.testBit 8 = true ∨ beam = t.beam := by first | exact .inl (sub_bit (by assumption) rfl) | exact .inr rfl)
    (h9 : m.testBit 9 = true ∨ cal = t.cal := by first | exact .inl (sub_bit (by assumption) rfl) | exact .inr rfl)
    (h10 : m.testBit 10 = true ∨ newts = t.newts := by first | exact .inl (sub_bit (by assumption) rfl) | exact .inr rfl)
    (h11 : m.testBit 11 = true ∨ mem = t.mem := by first | exact .inl (sub_bit (by assumption) rfl) | exact .inr rfl)
    (h12 : m.testBit 12 = true ∨ absent = t.absent := by first | exact .inl (sub_bit (by assumption) rfl) | exact .inr rfl)
    (h13 : m.testBit 13 = true ∨ chorus = t.chorus := by first | exact .inl (sub_bit (by assumption) rfl) | exact .inr rfl)
    (h14 : m.testBit 14 = true ∨ link = t.link := by first | exact .inl (sub_bit (by assumption) rfl) | exact .inr rfl)
    (h15 : m.testBit 15 = true ∨ pool = t.pool := by first | exact .inl (sub_bit (by assumption) rfl) | exact .inr rfl)
    (h16 : m.testBit 16 = true ∨ caps = t.caps := by first | exact .inl (sub_bit (by assumption) rfl) | exact .inr rfl)
    (h17 : m.testBit 17 = true ∨ dmas = t.dmas := by first | exact .inl (sub_bit (by assumption) rfl) | exact .inr rfl)
    (h18 : m.testBit 18 = true ∨ hk = t.hk := by first | exact .inl (sub_bit (by assumption) rfl) | exact .inr rfl)
    (h19 : m.testBit 19 = true ∨ flash = t.flash := by first | exact .inl (sub_bit (by assumption) rfl) | exact .inr rfl)
    (h20 : m.testBit 20 = true ∨ boot = t.boot := by first | exact .inl (sub_bit (by assumption) rfl) | exact .inr rfl)
    (h21 : m.testBit 21 = true ∨ sec = t.sec := by first | exact .inl (sub_bit (by assumption) rfl) | exact .inr rfl)
    (h22 : m.testBit 22 = true ∨ power = t.power := by first | exact .inl (sub_bit (by assumption) rfl) | exact .inr rfl)
    (h23 : m.testBit 23 = true ∨ free = t.free := by first | exact .inl (sub_bit (by assumption) rfl) | exact .inr rfl)
    (h24 : m.testBit 24 = true ∨ hsh = t.hsh := by first | exact .inl (sub_bit (by assumption) rfl) | exact .inr rfl) :
    Keeps m s (State.mk act hact hsh silent fuse rst events time air units clusters beam cal newts mem absent chorus link pool caps dmas hk flash
      boot sec power free pending) :=
  keeps_build hp hf hg (fun w => hm ▸ w) (fun w => he ▸ w) (fun w => hs ▸ w)
    (fun p q => by
      cases p
      · exact same_of h0 q
      · exact same_of h1 q
      · exact same_of h2 q
      · exact same_of h3 q
      · exact same_of h4 q
      · exact same_of h5 q
      · exact same_of h6 q
      · exact same_of h7 q
      · exact same_of h8 q
      · exact same_of h9 q
      · exact same_of h10 q
      · exact same_of h11 q
      · exact same_of h12 q
      · exact same_of h13 q
      · exact same_of h14 q
      · exact same_of h15 q
      · exact same_of h16 q
      · exact same_of h17 q
      · exact same_of h18 q
      · exact same_of h19 q
      · exact same_of h20 q
      · exact same_of h21 q
      · exact same_of h22 q
      · exact same_of h23 q
      · exact same_of h24 q)
    (fun q => modeOf_congr (same_of ha q)) h

/-- A free value is taken. -/
theorem keeps_free {m : Nat} {s t : State} (h : Keeps m s t) (hq : m.testBit 23 = true := by exact sub_bit (by assumption) rfl) :
    Keeps m s { t with free := t.free + 1 } :=
  ⟨h.pending, h.grade, Nat.le_succ_of_le h.free, h.inv, fun p q => part_trans (h.part p q) (by
    cases p <;> first | rfl | exact absurd hq (by rw [show m.testBit 23 = false from q]; decide)), h.mode⟩

/-! ### Memory, events and the snapshot -/

theorem keeps_mem {m : Nat} {s t : State} {x : Memory} (hm : Memory.wf t.mem = true → Memory.wf x = true) (h : Keeps m s t)
    (hq : m.testBit 11 = true := by exact sub_bit (by assumption) rfl) : Keeps m s { t with mem := x } :=
  ⟨h.pending, h.grade, h.free, fun i => ⟨hm (h.inv i).1, (h.inv i).2⟩, fun p q => part_trans (h.part p q) (by
    cases p <;> first | rfl | exact absurd hq (by rw [show m.testBit 11 = false from q]; decide)), h.mode⟩

theorem keeps_events {m : Nat} {s t : State} {x : EventQueue} (he : t.events.wf = true → x.wf = true) (h : Keeps m s t)
    (hq : m.testBit 3 = true := by exact sub_bit (by assumption) rfl) : Keeps m s { t with events := x } :=
  ⟨h.pending, h.grade, h.free, fun i => ⟨(h.inv i).1, he (h.inv i).2.1, (h.inv i).2.2⟩, fun p q => part_trans (h.part p q) (by
    cases p <;> first | rfl | exact absurd hq (by rw [show m.testBit 3 = false from q]; decide)), h.mode⟩

theorem keeps_snap {m : Nat} {s t : State} {x : PowerS} (hp : Legal t → snapWf x.snap = true) (h : Keeps m s t)
    (hq : m.testBit 22 = true := by exact sub_bit (by assumption) rfl) : Keeps m s { t with power := x } :=
  ⟨h.pending, h.grade, h.free, fun i => ⟨(h.inv i).1, (h.inv i).2.1, hp (h.inv i)⟩, fun p q => part_trans (h.part p q) (by
    cases p <;> first | rfl | exact absurd hq (by rw [show m.testBit 22 = false from q]; decide)), h.mode⟩

/-- The queue without its oldest entry of another class has fewer entries of other classes, or none. -/
theorem dropOldest_others (l : List EventEntry) :
    ((dropOldest l).filter fun e => eventClass e.code != 0xF).length = (l.filter fun e => eventClass e.code != 0xF).length - 1 := by
  induction l with
  | nil => rfl
  | cons e r ih =>
    simp only [dropOldest]
    split
    · rename_i h
      simp [h, ih]
    · rename_i h
      simp [h]

theorem dropOldest_mem {l : List EventEntry} {e : EventEntry} (h : e ∈ dropOldest l) : e ∈ l := by
  induction l with
  | nil => exact h
  | cons x r ih =>
    simp only [dropOldest] at h
    split at h
    · simp only [List.mem_cons] at h ⊢
      exact h.imp id ih
    · exact List.mem_cons_of_mem _ h

theorem markPushed_others (l : List EventEntry) :
    ((markPushed l).filter fun e => eventClass e.code != 0xF).length = (l.filter fun e => eventClass e.code != 0xF).length := by
  induction l with
  | nil => rfl
  | cons e r ih =>
    simp only [markPushed]
    split
    · simp only [List.filter_cons]
      split <;> simp [ih]
    · simp only [List.filter_cons]
      split <;> simp

theorem markPushed_eseq {l : List EventEntry} (h : ∀ e ∈ l, e.eseq < 65536) : ∀ e ∈ markPushed l, e.eseq < 65536 := by
  induction l with
  | nil => exact h
  | cons x r ih =>
    simp only [List.forall_mem_cons] at h
    simp only [markPushed]
    split
    · simp only [List.forall_mem_cons]
      exact ⟨h.1, ih h.2⟩
    · simp only [List.forall_mem_cons]
      exact h

theorem ackEvents_sublist (a : Nat) (l : List EventEntry) : (ackEvents a l).Sublist l := by
  induction l with
  | nil => exact List.Sublist.slnil
  | cons x r ih =>
    simp only [ackEvents]
    split
    · exact ih.cons x
    · exact List.Sublist.refl _

theorem wf_iff (q : EventQueue) : q.wf = true ↔
    (q.entries.filter fun e => eventClass e.code != 0xF).length ≤ 512 ∧ q.next < 65536 ∧ ∀ e ∈ q.entries, e.eseq < 65536 := by
  simp [EventQueue.wf, and_assoc]

theorem wf_sublist {q q' : EventQueue} (hs : q'.entries.Sublist q.entries) (hn : q'.next = q.next) (h : q.wf = true) : q'.wf = true := by
  rw [wf_iff] at h ⊢
  exact ⟨Nat.le_trans (hs.filter _).length_le h.1, hn ▸ h.2.1, fun e he => h.2.2 e (hs.subset he)⟩

theorem wf_append {q : EventQueue} (e : EventEntry) (lost : Bool) (he : e.eseq < 65536) (hl : q.entries.length < 512) (h : q.wf = true) :
    EventQueue.wf { entries := q.entries ++ [e], next := (q.next + 1) % 65536, lostPending := lost } = true := by
  rw [wf_iff] at h ⊢
  refine ⟨?_, Nat.mod_lt _ (by decide), ?_⟩
  · have h1 := List.length_filter_le (fun e => eventClass e.code != 0xF) (q.entries ++ [e])
    simp only [List.length_append, List.length_singleton] at h1
    simp only
    omega
  · intro x hx
    rcases List.mem_append.mp hx with hx | hx
    · exact h.2.2 x hx
    · simp only [List.mem_singleton] at hx
      exact hx ▸ he

theorem wf_displace {q : EventQueue} (e : EventEntry) (lost : Bool) (he : e.eseq < 65536) (h : q.wf = true) :
    EventQueue.wf { entries := dropOldest q.entries ++ [e], next := (q.next + 1) % 65536, lostPending := lost } = true := by
  rw [wf_iff] at h ⊢
  refine ⟨?_, Nat.mod_lt _ (by decide), ?_⟩
  · have h1 := List.length_filter_le (fun e => eventClass e.code != 0xF) [e]
    have h2 := dropOldest_others q.entries
    simp only [List.length_singleton] at h1
    simp only [List.filter_append, List.length_append, h2]
    omega
  · intro x hx
    rcases List.mem_append.mp hx with hx | hx
    · exact h.2.2 x (dropOldest_mem hx)
    · simp only [List.mem_singleton] at hx
      exact hx ▸ he

end Sys2Proof.Laws
end

