-- ==== Sys2Proof/Laws/KeepsMem.lean ====
section
/-! SUPPORT. What the operations of Machine/Mem.lean keep, and which parts they may change (Laws/Keeps.lean). -/

set_option Elab.async false

namespace Sys2Proof.Laws

open Sys2Proof.Machine

theorem keeps_setMemByte {w₀ : Nat} {s₀ s : State} {a v : Nat} (h : Keeps w₀ s₀ s)
    (hm : Sub 2048 w₀ := by apply sub_of; assumption; with_unfolding_all rfl) : Keeps w₀ s₀ (setMemByte s a v) :=
  keeps_mem (memory_set_wf _ _) h

theorem keeps_setMemBytes {w₀ : Nat} {s₀ : State} (bs : List Nat) {s : State} {a : Nat} (h : Keeps w₀ s₀ s)
    (hm : Sub 2048 w₀ := by apply sub_of; assumption; with_unfolding_all rfl) : Keeps w₀ s₀ (setMemBytes s a bs) := by
  induction bs generalizing s a with
  | nil => exact h
  | cons b r ih => exact ih (keeps_setMemByte h)

theorem keeps_setMemWord {w₀ : Nat} {s₀ : State} {s : State} {a1} {a2} (h : Keeps w₀ s₀ s)
    (hm : Sub 2048 w₀ := by apply sub_of; assumption; with_unfolding_all rfl) : Keeps w₀ s₀ (setMemWord s a1 a2) := by
  unfold setMemWord
  with_reducible repeat' (first
    | assumption | (exact sub_of hm rfl) | apply keeps_setMemBytes)

theorem keeps_clearMem {w₀ : Nat} {s₀ s : State} {a b : Nat} (h : Keeps w₀ s₀ s)
    (hm : Sub 2048 w₀ := by apply sub_of; assumption; with_unfolding_all rfl) : Keeps w₀ s₀ (clearMem s a b) :=
  keeps_mem (memory_clear_wf _ _) h

theorem keeps_archiveTable {w₀ : Nat} {s₀ : State} {s : State} {a1} {a2} (h : Keeps w₀ s₀ s)
    (hm : Sub 2048 w₀ := by apply sub_of; assumption; with_unfolding_all rfl) : Keeps w₀ s₀ (archiveTable s a1 a2) := by
  unfold archiveTable
  with_reducible repeat' (first
    | assumption | (exact sub_of hm rfl) | apply keeps_setMemBytes)

end Sys2Proof.Laws
end

