-- ==== Sys2Proof/Laws/KeepsOps.lean ====
section
/-! SUPPORT. What the operations of Machine/Ops.lean keep, and which parts they may change (Laws/Keeps.lean). -/

set_option Elab.async false

namespace Sys2Proof.Laws

open Sys2Proof.Machine

/-- A write of a field that is not MODE, or of any where the set has bit 25. -/
theorem keeps_wr {w₀ : Nat} {s₀ s : State} {f : Fld} {v : Nat} (h : Keeps w₀ s₀ s)
    (hf : NotMode f ∨ w₀.testBit 25 = true := by
      first
        | exact .inl (notMode_key (by with_unfolding_all decide))
        | exact .inl (notMode_off (by with_unfolding_all show 65536 ≤ _ + _; omega))
        | exact .inr (sub_bit (by assumption) rfl)
        | with_unfolding_all exact .inl (notMode_ite (notMode_off (by first | with_unfolding_all decide | (with_unfolding_all show 65536 ≤ _ + _; omega)))
            (notMode_off (by first | with_unfolding_all decide | (with_unfolding_all show 65536 ≤ _ + _; omega))))
        | exact .inl (notMode_key (by with_unfolding_all (split <;> decide)))) : Keeps w₀ s₀ (wr s f v) := by
  refine ⟨by simpa using h.pending, by simpa using h.grade, by simpa using h.free, fun i => by simpa [Legal] using h.inv i, fun p q => ?_, fun q => ?_⟩
  · refine part_trans (h.part p q) ?_
    cases p <;> simp [SamePart]
  · rw [modeOf_wr _ _ (hf.resolve_right (by simp [q])), h.mode q]

theorem keeps_wrSh {w₀ : Nat} {s₀ : State} {s : State} {a1} {a2} (h : Keeps w₀ s₀ s)
    (hm : Sub 16777216 w₀ := by apply sub_of; assumption; with_unfolding_all rfl) : Keeps w₀ s₀ (wrSh s a1 a2) := by
  unfold wrSh
  with_reducible repeat' (first
    | assumption | (exact sub_of hm rfl) | refine keeps_mk rfl rfl rfl rfl rfl rfl ?_)

theorem keeps_wrBoth {w₀ : Nat} {s₀ s : State} {f : Fld} {v : Nat} (h : Keeps w₀ s₀ s)
    (hf : NotMode f ∨ w₀.testBit 25 = true := by
      first
        | exact .inl (notMode_key (by with_unfolding_all decide))
        | exact .inl (notMode_off (by with_unfolding_all show 65536 ≤ _ + _; omega))
        | exact .inr (sub_bit (by assumption) rfl)
        | with_unfolding_all exact .inl (notMode_ite (notMode_off (by first | with_unfolding_all decide | (with_unfolding_all show 65536 ≤ _ + _; omega)))
            (notMode_off (by first | with_unfolding_all decide | (with_unfolding_all show 65536 ≤ _ + _; omega))))
        | exact .inl (notMode_key (by with_unfolding_all (split <;> decide))))
    (hm : Sub 16777216 w₀ := by apply sub_of; assumption; with_unfolding_all rfl) : Keeps w₀ s₀ (wrBoth s f v) := keeps_wrSh (keeps_wr h hf)

theorem keeps_bump {w₀ : Nat} {s₀ s : State} {f : Fld} {n : Nat} (h : Keeps w₀ s₀ s)
    (hf : NotMode f ∨ w₀.testBit 25 = true := by
      first
        | exact .inl (notMode_key (by with_unfolding_all decide))
        | exact .inl (notMode_off (by with_unfolding_all show 65536 ≤ _ + _; omega))
        | exact .inr (sub_bit (by assumption) rfl)
        | with_unfolding_all exact .inl (notMode_ite (notMode_off (by first | with_unfolding_all decide | (with_unfolding_all show 65536 ≤ _ + _; omega)))
            (notMode_off (by first | with_unfolding_all decide | (with_unfolding_all show 65536 ≤ _ + _; omega))))
        | exact .inl (notMode_key (by with_unfolding_all (split <;> decide)))) : Keeps w₀ s₀ (bump s f n) := keeps_wr h hf

theorem keeps_wrIf {w₀ : Nat} {s₀ s : State} {c : Bool} {f : Fld} {v : Nat} (h : Keeps w₀ s₀ s)
    (hf : NotMode f ∨ w₀.testBit 25 = true := by
      first
        | exact .inl (notMode_key (by with_unfolding_all decide))
        | exact .inl (notMode_off (by with_unfolding_all show 65536 ≤ _ + _; omega))
        | exact .inr (sub_bit (by assumption) rfl)
        | with_unfolding_all exact .inl (notMode_ite (notMode_off (by first | with_unfolding_all decide | (with_unfolding_all show 65536 ≤ _ + _; omega)))
            (notMode_off (by first | with_unfolding_all decide | (with_unfolding_all show 65536 ≤ _ + _; omega))))
        | exact .inl (notMode_key (by with_unfolding_all (split <;> decide)))) : Keeps w₀ s₀ (wrIf c s f v) := keeps_ite (keeps_wr h hf) h

theorem keeps_State_modUnit {w₀ : Nat} {s₀ : State} {s : State} {a1} {a2} (h : Keeps w₀ s₀ s)
    (hm : Sub 64 w₀ := by apply sub_of; assumption; with_unfolding_all rfl) : Keeps w₀ s₀ (State.modUnit s a1 a2) := by
  unfold State.modUnit
  with_reducible repeat' (first
    | assumption | (exact sub_of hm rfl) | refine keeps_mk rfl rfl rfl rfl rfl rfl ?_)

theorem keeps_State_modRx {w₀ : Nat} {s₀ : State} {s : State} {a1} {a2} (h : Keeps w₀ s₀ s)
    (hm : Sub 64 w₀ := by apply sub_of; assumption; with_unfolding_all rfl) : Keeps w₀ s₀ (State.modRx s a1 a2) := by
  unfold State.modRx
  with_reducible repeat' (first
    | assumption | (exact sub_of hm rfl) | apply keeps_State_modUnit)

theorem keeps_State_modTx {w₀ : Nat} {s₀ : State} {s : State} {a1} {a2} (h : Keeps w₀ s₀ s)
    (hm : Sub 64 w₀ := by apply sub_of; assumption; with_unfolding_all rfl) : Keeps w₀ s₀ (State.modTx s a1 a2) := by
  unfold State.modTx
  with_reducible repeat' (first
    | assumption | (exact sub_of hm rfl) | apply keeps_State_modUnit)

theorem keeps_State_modCluster {w₀ : Nat} {s₀ : State} {s : State} {a1} {a2} (h : Keeps w₀ s₀ s)
    (hm : Sub 128 w₀ := by apply sub_of; assumption; with_unfolding_all rfl) : Keeps w₀ s₀ (State.modCluster s a1 a2) := by
  unfold State.modCluster
  with_reducible repeat' (first
    | assumption | (exact sub_of hm rfl) | refine keeps_mk rfl rfl rfl rfl rfl rfl ?_)

theorem keeps_takeFree {w₀ : Nat} {s₀ s : State} {w : Nat} (h : Keeps w₀ s₀ s)
    (hm : Sub 8388608 w₀ := by apply sub_of; assumption; with_unfolding_all rfl) : Keeps w₀ s₀ (takeFree s w).2 := keeps_free h

theorem keeps_enqueue {w₀ : Nat} {s₀ s : State} {code arg : Nat} (h : Keeps w₀ s₀ s)
    (hm : Sub 8 w₀ := by apply sub_of; assumption; with_unfolding_all rfl) : Keeps w₀ s₀ (enqueue s code arg) := by
  unfold enqueue
  split
  · rename_i hl
    exact keeps_events (fun hq => wf_append _ _ (Nat.mod_lt _ (by decide)) hl hq) h
  · exact keeps_wr (keeps_events (fun hq => wf_displace _ _ (Nat.mod_lt _ (by decide)) hq) h)

theorem keeps_alertPend {w₀ : Nat} {s₀ : State} {s : State} {a1} (h : Keeps w₀ s₀ s) : Keeps w₀ s₀ (alertPend s a1) := by
  unfold alertPend
  with_reducible repeat' (first
    | assumption | apply keeps_ite | refine keeps_wr ?_)

theorem keeps_raise {w₀ : Nat} {s₀ : State} {s : State} {a1} {a2} (h : Keeps w₀ s₀ s)
    (hm : Sub 8 w₀ := by apply sub_of; assumption; with_unfolding_all rfl) : Keeps w₀ s₀ (raise s a1 a2) := by
  unfold raise
  with_reducible repeat' (first
    | assumption | (exact sub_of hm rfl) | apply keeps_ite | apply keeps_alertPend | apply keeps_enqueue)

theorem keeps_raiseIf {w₀ : Nat} {s₀ : State} {a0} {s : State} {a2} {a3} (h : Keeps w₀ s₀ s)
    (hm : Sub 8 w₀ := by apply sub_of; assumption; with_unfolding_all rfl) : Keeps w₀ s₀ (raiseIf a0 s a2 a3) := by
  unfold raiseIf
  with_reducible repeat' (first
    | assumption | (exact sub_of hm rfl) | apply keeps_ite | apply keeps_raise)

theorem keeps_stickyEvent {w₀ : Nat} {s₀ s : State} {f : Fld} {code arg : Nat} (h : Keeps w₀ s₀ s)
    (hf : NotMode f ∨ w₀.testBit 25 = true := by
      first
        | exact .inl (notMode_key (by with_unfolding_all decide))
        | exact .inl (notMode_off (by with_unfolding_all show 65536 ≤ _ + _; omega))
        | exact .inr (sub_bit (by assumption) rfl)
        | with_unfolding_all exact .inl (notMode_ite (notMode_off (by first | with_unfolding_all decide | (with_unfolding_all show 65536 ≤ _ + _; omega)))
            (notMode_off (by first | with_unfolding_all decide | (with_unfolding_all show 65536 ≤ _ + _; omega))))
        | exact .inl (notMode_key (by with_unfolding_all (split <;> decide))))
    (hm : Sub 8 w₀ := by apply sub_of; assumption; with_unfolding_all rfl) : Keeps w₀ s₀ (stickyEvent s f code arg) := keeps_raiseIf (keeps_wr h hf)

theorem keeps_cfgError {w₀ : Nat} {s₀ : State} {s : State} {a1} {a2} (h : Keeps w₀ s₀ s)
    (hm : Sub 8 w₀ := by apply sub_of; assumption; with_unfolding_all rfl) : Keeps w₀ s₀ (cfgError s a1 a2) := by
  unfold cfgError
  with_reducible repeat' (first
    | assumption | (exact sub_of hm rfl) | apply keeps_raise | refine keeps_wr ?_ | apply keeps_ite)

theorem keeps_cfgIgnored {w₀ : Nat} {s₀ : State} {s : State} {a1} (h : Keeps w₀ s₀ s)
    (hm : Sub 8 w₀ := by apply sub_of; assumption; with_unfolding_all rfl) : Keeps w₀ s₀ (cfgIgnored s a1) := by
  unfold cfgIgnored
  with_reducible repeat' (first
    | assumption | (exact sub_of hm rfl) | apply keeps_cfgError)

theorem keeps_copyShadow {w₀ : Nat} {s₀ : State} {s : State} {a1} (h : Keeps w₀ s₀ s) : Keeps w₀ s₀ (copyShadow s a1) := by
  unfold copyShadow
  with_reducible repeat' (first
    | assumption | apply keeps_forEach | intro _ _ _ | refine keeps_mk rfl rfl rfl rfl rfl rfl ?_)

theorem keeps_refuseCommit {w₀ : Nat} {s₀ : State} {s : State} {a1} {a2} (h : Keeps w₀ s₀ s)
    (hm : Sub 9 w₀ := by apply sub_of; assumption; with_unfolding_all rfl) : Keeps w₀ s₀ (refuseCommit s a1 a2) := by
  unfold refuseCommit
  with_reducible repeat' (first
    | assumption | (exact sub_of hm rfl) | apply keeps_ite | apply keeps_cfgError | refine keeps_mk rfl rfl rfl rfl rfl rfl ?_)

theorem keeps_commitGroup {w₀ : Nat} {s₀ : State} {s : State} {a1} {a2} {a3} (h : Keeps w₀ s₀ s)
    (hm : Sub 9 w₀ := by apply sub_of; assumption; with_unfolding_all rfl) : Keeps w₀ s₀ (commitGroup s a1 a2 a3).1 := by
  unfold commitGroup
  with_reducible repeat' (first
    | assumption | (exact sub_of hm rfl) | apply keeps_ite_fst | apply keeps_copyShadow | apply keeps_refuseCommit | split
    | refine keeps_mk rfl rfl rfl rfl rfl rfl ?_)

end Sys2Proof.Laws
end

