-- ==== Sys2Proof/Laws/KeepsLevels.lean ====
section
/-! SUPPORT. What the operations of Machine/Levels.lean keep, and which parts they may change (Laws/Keeps.lean). -/

set_option Elab.async false

namespace Sys2Proof.Laws

open Sys2Proof.Machine

theorem keeps_send {w₀ : Nat} {s₀ : State} {s : State} {a1} (h : Keeps w₀ s₀ s)
    (hm : Sub 49152 w₀ := by apply sub_of; assumption; with_unfolding_all rfl) : Keeps w₀ s₀ (send s a1) := by
  unfold send
  with_reducible repeat' (first
    | assumption | (exact sub_of hm rfl) | refine keeps_mk rfl rfl rfl rfl rfl rfl ?_)

theorem keeps_setDom {w₀ : Nat} {s₀ : State} {s : State} {a1} {a2} (h : Keeps w₀ s₀ s) : Keeps w₀ s₀ (setDom s a1 a2) := by
  unfold setDom
  with_reducible repeat' (first
    | assumption | refine keeps_wr ?_ | split)

theorem keeps_memRefresh {w₀ : Nat} {s₀ : State} {s : State} {a1} (h : Keeps w₀ s₀ s) : Keeps w₀ s₀ (memRefresh s a1) := by
  unfold memRefresh
  with_reducible repeat' (first
    | assumption | apply keeps_ite | refine keeps_wr ?_)

theorem keeps_regionRest {w₀ : Nat} {s₀ : State} {s : State} {a1} (h : Keeps w₀ s₀ s)
    (hm : Sub 4194304 w₀ := by apply sub_of; assumption; with_unfolding_all rfl) : Keeps w₀ s₀ (regionRest s a1) := by
  unfold regionRest
  with_reducible repeat' (first
    | assumption | (exact sub_of hm rfl) | apply keeps_ite | apply keeps_setDom | refine keeps_mk rfl rfl rfl rfl rfl rfl ?_)

end Sys2Proof.Laws
end

