-- ==== Sys2Proof/Laws/KeepsRx.lean ====
section
/-! SUPPORT. What the operations of Machine/Rx.lean keep, and which parts they may change (Laws/Keeps.lean). -/

set_option Elab.async false

namespace Sys2Proof.Laws

open Sys2Proof.Machine

theorem keeps_markTag {w₀ : Nat} {s₀ : State} {s : State} {a1} {a2} {a3} (h : Keeps w₀ s₀ s)
    (hm : Sub 64 w₀ := by apply sub_of; assumption; with_unfolding_all rfl) : Keeps w₀ s₀ (markTag s a1 a2 a3) := by
  unfold markTag
  with_reducible repeat' (first
    | assumption | (exact sub_of hm rfl) | apply keeps_State_modRx)

theorem keeps_setGain {w₀ : Nat} {s₀ : State} {s : State} {a1} {a2} (h : Keeps w₀ s₀ s)
    (hm : Sub 64 w₀ := by apply sub_of; assumption; with_unfolding_all rfl) : Keeps w₀ s₀ (setGain s a1 a2) := by
  unfold setGain
  with_reducible repeat' (first
    | assumption | (exact sub_of hm rfl) | apply keeps_ite | apply keeps_markTag | apply keeps_State_modRx | refine keeps_wr ?_)

theorem keeps_overloadStep {w₀ : Nat} {s₀ : State} {s : State} {a1} (h : Keeps w₀ s₀ s)
    (hm : Sub 64 w₀ := by apply sub_of; assumption; with_unfolding_all rfl) : Keeps w₀ s₀ (overloadStep s a1) := by
  unfold overloadStep
  with_reducible repeat' (first
    | assumption | (exact sub_of hm rfl) | apply keeps_setGain | apply keeps_State_modRx | split)

theorem keeps_agcDecision {w₀ : Nat} {s₀ : State} {s : State} {a1} (h : Keeps w₀ s₀ s)
    (hm : Sub 64 w₀ := by apply sub_of; assumption; with_unfolding_all rfl) : Keeps w₀ s₀ (agcDecision s a1) := by
  unfold agcDecision
  with_reducible repeat' (first
    | assumption | (exact sub_of hm rfl) | apply keeps_ite | apply keeps_setGain | apply keeps_State_modRx)

theorem keeps_gainCommitted {w₀ : Nat} {s₀ : State} {s : State} {a1} {a2} {a3} (h : Keeps w₀ s₀ s)
    (hm : Sub 64 w₀ := by apply sub_of; assumption; with_unfolding_all rfl) : Keeps w₀ s₀ (gainCommitted s a1 a2 a3) := by
  unfold gainCommitted
  with_reducible repeat' (first
    | assumption | (exact sub_of hm rfl) | apply keeps_ite | apply keeps_setGain | apply keeps_State_modRx)

theorem keeps_channelChange {w₀ : Nat} {s₀ : State} {s : State} {a1} (h : Keeps w₀ s₀ s)
    (hm : Sub 64 w₀ := by apply sub_of; assumption; with_unfolding_all rfl) : Keeps w₀ s₀ (channelChange s a1) := by
  unfold channelChange
  with_reducible repeat' (first
    | assumption | (exact sub_of hm rfl) | apply keeps_markTag)

theorem keeps_bankChange {w₀ : Nat} {s₀ : State} {s : State} {a1} {a2} {a3} (h : Keeps w₀ s₀ s)
    (hm : Sub 64 w₀ := by apply sub_of; assumption; with_unfolding_all rfl) : Keeps w₀ s₀ (bankChange s a1 a2 a3) := by
  unfold bankChange
  with_reducible repeat' (first
    | assumption | (exact sub_of hm rfl) | apply keeps_ite | apply keeps_State_modRx | refine keeps_wr ?_ | apply keeps_markTag)

theorem keeps_rxStopCheck {w₀ : Nat} {s₀ : State} {s : State} {a1} (h : Keeps w₀ s₀ s)
    (hm : Sub 64 w₀ := by apply sub_of; assumption; with_unfolding_all rfl) : Keeps w₀ s₀ (rxStopCheck s a1) := by
  unfold rxStopCheck
  with_reducible repeat' (first
    | assumption | (exact sub_of hm rfl) | apply keeps_ite | apply keeps_State_modRx | refine keeps_wr ?_)

theorem keeps_rxCommit {w₀ : Nat} {s₀ : State} {s : State} {a1} (h : Keeps w₀ s₀ s)
    (hm : Sub 73 w₀ := by apply sub_of; assumption; with_unfolding_all rfl) : Keeps w₀ s₀ (rxCommit s a1) := by
  unfold rxCommit
  with_reducible repeat' (first
    | assumption | (exact sub_of hm rfl) | apply keeps_ite | apply keeps_channelChange | refine keeps_wr ?_ | apply keeps_gainCommitted
    | apply keeps_bankChange | apply keeps_commitGroup)

theorem keeps_rxEndSymbol {w₀ : Nat} {s₀ : State} {s : State} {a1} {a2} {a3} {a4} {a5} (h : Keeps w₀ s₀ s)
    (hm : Sub 64 w₀ := by apply sub_of; assumption; with_unfolding_all rfl) : Keeps w₀ s₀ (rxEndSymbol s a1 a2 a3 a4 a5) := by
  unfold rxEndSymbol
  with_reducible repeat' (first
    | assumption | (exact sub_of hm rfl) | apply keeps_ite | refine keeps_wr ?_ | apply keeps_State_modRx)

theorem keeps_rxNewSymbol {w₀ : Nat} {s₀ : State} {s : State} {a1} (h : Keeps w₀ s₀ s)
    (hm : Sub 64 w₀ := by apply sub_of; assumption; with_unfolding_all rfl) : Keeps w₀ s₀ (rxNewSymbol s a1) := by
  unfold rxNewSymbol
  with_reducible repeat' (first
    | assumption | (exact sub_of hm rfl) | apply keeps_State_modRx)

theorem keeps_neighbourOvld {w₀ : Nat} {s₀ : State} {s : State} {a1} (h : Keeps w₀ s₀ s)
    (hm : Sub 64 w₀ := by apply sub_of; assumption; with_unfolding_all rfl) : Keeps w₀ s₀ (neighbourOvld s a1) := by
  unfold neighbourOvld
  with_reducible repeat' (first
    | assumption | (exact sub_of hm rfl) | apply keeps_ite | apply keeps_markTag | refine keeps_bump ?_ | refine keeps_wr ?_)

theorem keeps_rxOverload {w₀ : Nat} {s₀ : State} {s : State} {a1} (h : Keeps w₀ s₀ s)
    (hm : Sub 8264 w₀ := by apply sub_of; assumption; with_unfolding_all rfl) : Keeps w₀ s₀ (rxOverload s a1) := by
  unfold rxOverload
  with_reducible repeat' (first
    | assumption | (exact sub_of hm rfl) | apply keeps_ite | apply keeps_forEach | apply keeps_markTag | apply keeps_State_modRx
    | refine keeps_bump ?_ | refine keeps_wr ?_ | refine keeps_stickyEvent ?_ | apply keeps_neighbourOvld | apply keeps_overloadStep | intro _ _ _
    | refine keeps_mk rfl rfl rfl rfl rfl rfl ?_)

theorem keeps_ovldRepeat {w₀ : Nat} {s₀ : State} {s : State} {a1} (h : Keeps w₀ s₀ s)
    (hm : Sub 72 w₀ := by apply sub_of; assumption; with_unfolding_all rfl) : Keeps w₀ s₀ (ovldRepeat s a1) := by
  unfold ovldRepeat
  with_reducible repeat' (first
    | assumption | (exact sub_of hm rfl) | apply keeps_ite | refine keeps_stickyEvent ?_ | apply keeps_overloadStep)

theorem keeps_rxRealign {w₀ : Nat} {s₀ : State} {s : State} {a1} {a2} (h : Keeps w₀ s₀ s)
    (hm : Sub 72 w₀ := by apply sub_of; assumption; with_unfolding_all rfl) : Keeps w₀ s₀ (rxRealign s a1 a2) := by
  unfold rxRealign
  with_reducible repeat' (first
    | assumption | (exact sub_of hm rfl) | apply keeps_ite | apply keeps_channelChange | apply keeps_raise | refine keeps_wr ?_)

theorem keeps_coefWrite {w₀ : Nat} {s₀ : State} {s : State} {a1} {a2} {a3} {a4} (h : Keeps w₀ s₀ s)
    (hm : Sub 8 w₀ := by apply sub_of; assumption; with_unfolding_all rfl) : Keeps w₀ s₀ (coefWrite s a1 a2 a3 a4) := by
  unfold coefWrite
  with_reducible repeat' (first
    | assumption | (exact sub_of hm rfl) | apply keeps_ite | refine keeps_wr ?_ | apply keeps_cfgIgnored)

theorem keepsO_execRxOvld {w₀ : Nat} {s₀ : State} {a0} {s : State} (h : Keeps w₀ s₀ s)
    (hm : Sub 8264 w₀ := by apply sub_of; assumption; with_unfolding_all rfl) : KeepsO w₀ s₀ (execRxOvld a0 s) := by
  unfold execRxOvld
  with_reducible repeat' (first
    | assumption | (exact sub_of hm rfl) | apply keepsO_next | apply keeps_rxOverload)

theorem keepsO_execOvldStepRepeat {w₀ : Nat} {s₀ : State} {a0} {s : State} (h : Keeps w₀ s₀ s)
    (hm : Sub 72 w₀ := by apply sub_of; assumption; with_unfolding_all rfl) : KeepsO w₀ s₀ (execOvldStepRepeat a0 s) := by
  unfold execOvldStepRepeat
  with_reducible repeat' (first
    | assumption | (exact sub_of hm rfl) | apply keepsO_next | apply keeps_ovldRepeat)

theorem keepsO_execRxOvldRecover {w₀ : Nat} {s₀ : State} {a0} {s : State} (h : Keeps w₀ s₀ s) : KeepsO w₀ s₀ (execRxOvldRecover a0 s) := by
  unfold execRxOvldRecover
  with_reducible repeat' (first
    | assumption | apply keepsO_next | refine keeps_wr ?_)

theorem keepsO_execRxCommit {w₀ : Nat} {s₀ : State} {a0} {s : State} (h : Keeps w₀ s₀ s)
    (hm : Sub 73 w₀ := by apply sub_of; assumption; with_unfolding_all rfl) : KeepsO w₀ s₀ (execRxCommit a0 s) := by
  unfold execRxCommit
  with_reducible repeat' (first
    | assumption | (exact sub_of hm rfl) | apply keepsO_next | apply keeps_ite | apply keeps_rxCommit)

theorem keepsO_execRxCoefWrite {w₀ : Nat} {s₀ : State} {a0} {a1} {a2} {a3} {s : State} (h : Keeps w₀ s₀ s)
    (hm : Sub 8 w₀ := by apply sub_of; assumption; with_unfolding_all rfl) : KeepsO w₀ s₀ (execRxCoefWrite a0 a1 a2 a3 s) := by
  unfold execRxCoefWrite
  with_reducible repeat' (first
    | assumption | (exact sub_of hm rfl) | apply keepsO_next | apply keeps_ite | apply keeps_coefWrite)

theorem keepsO_execXfadeEnd {w₀ : Nat} {s₀ : State} {a0} {s : State} (h : Keeps w₀ s₀ s)
    (hm : Sub 64 w₀ := by apply sub_of; assumption; with_unfolding_all rfl) : KeepsO w₀ s₀ (execXfadeEnd a0 s) := by
  unfold execXfadeEnd
  with_reducible repeat' (first
    | assumption | (exact sub_of hm rfl) | apply keepsO_next | apply keeps_ite | refine keeps_wr ?_ | apply keeps_markTag | apply keeps_State_modRx
    | split)

end Sys2Proof.Laws
end

