-- ==== Sys2Proof/Laws/KeepsTx.lean ====
section
/-! SUPPORT. What the operations of Machine/Tx.lean keep, and which parts they may change (Laws/Keeps.lean). -/

set_option Elab.async false

namespace Sys2Proof.Laws

open Sys2Proof.Machine

theorem keeps_updateBackoff {w₀ : Nat} {s₀ : State} {s : State} {a1} (h : Keeps w₀ s₀ s)
    (hm : Sub 64 w₀ := by apply sub_of; assumption; with_unfolding_all rfl) : Keeps w₀ s₀ (updateBackoff s a1) := by
  unfold updateBackoff
  with_reducible repeat' (first
    | assumption | (exact sub_of hm rfl) | apply keeps_State_modTx | refine keeps_wr ?_)

theorem keeps_holdCause {w₀ : Nat} {s₀ : State} {s : State} {a1} {a2} (h : Keeps w₀ s₀ s)
    (hm : Sub 64 w₀ := by apply sub_of; assumption; with_unfolding_all rfl) : Keeps w₀ s₀ (holdCause s a1 a2) := by
  unfold holdCause
  with_reducible repeat' (first
    | assumption | (exact sub_of hm rfl) | apply keeps_State_modTx | refine keeps_wr ?_)

theorem keeps_dropCause {w₀ : Nat} {s₀ : State} {s : State} {a1} {a2} (h : Keeps w₀ s₀ s) : Keeps w₀ s₀ (dropCause s a1 a2) := by
  unfold dropCause
  with_reducible repeat' (first
    | assumption | refine keeps_wr ?_)

theorem keeps_setCause {w₀ : Nat} {s₀ : State} {s : State} {a1} {a2} {a3} (h : Keeps w₀ s₀ s)
    (hm : Sub 64 w₀ := by apply sub_of; assumption; with_unfolding_all rfl) : Keeps w₀ s₀ (setCause s a1 a2 a3) := by
  unfold setCause
  with_reducible repeat' (first
    | assumption | (exact sub_of hm rfl) | apply keeps_ite | apply keeps_holdCause | apply keeps_dropCause)

theorem keeps_boundaryCauses {w₀ : Nat} {s₀ : State} {s : State} {a1} {a2} {a3} (h : Keeps w₀ s₀ s)
    (hm : Sub 64 w₀ := by apply sub_of; assumption; with_unfolding_all rfl) : Keeps w₀ s₀ (boundaryCauses s a1 a2 a3) := by
  unfold boundaryCauses
  with_reducible repeat' (first
    | assumption | (exact sub_of hm rfl) | apply keeps_ite | apply keeps_State_modTx | refine keeps_wr ?_ | apply keeps_dropCause
    | apply keeps_setCause | apply keeps_holdCause)

theorem keeps_txStopCheck {w₀ : Nat} {s₀ : State} {s : State} {a1} (h : Keeps w₀ s₀ s)
    (hm : Sub 64 w₀ := by apply sub_of; assumption; with_unfolding_all rfl) : Keeps w₀ s₀ (txStopCheck s a1) := by
  unfold txStopCheck
  with_reducible repeat' (first
    | assumption | (exact sub_of hm rfl) | apply keeps_ite | apply keeps_holdCause | refine keeps_wr ?_)

theorem keeps_txCommit {w₀ : Nat} {s₀ : State} {s : State} {a1} (h : Keeps w₀ s₀ s)
    (hm : Sub 9 w₀ := by apply sub_of; assumption; with_unfolding_all rfl) : Keeps w₀ s₀ (txCommit s a1) := by
  unfold txCommit
  with_reducible repeat' (first
    | assumption | (exact sub_of hm rfl) | apply keeps_ite | refine keeps_wr ?_ | apply keeps_commitGroup)

theorem keeps_updateNbLive {w₀ : Nat} {s₀ : State} {s : State} {a1} (h : Keeps w₀ s₀ s) : Keeps w₀ s₀ (updateNbLive s a1) := by
  unfold updateNbLive
  with_reducible repeat' (first
    | assumption | refine keeps_wr ?_)

theorem keeps_txonCheck {w₀ : Nat} {s₀ : State} {s : State} {a1} (h : Keeps w₀ s₀ s) : Keeps w₀ s₀ (txonCheck s a1) := by
  unfold txonCheck
  with_reducible repeat' (first
    | assumption | apply keeps_ite | refine keeps_wr ?_)

theorem keeps_immediateMute {w₀ : Nat} {s₀ : State} {s : State} {a1} {a2} (h : Keeps w₀ s₀ s)
    (hm : Sub 64 w₀ := by apply sub_of; assumption; with_unfolding_all rfl) : Keeps w₀ s₀ (immediateMute s a1 a2) := by
  unfold immediateMute
  with_reducible repeat' (first
    | assumption | (exact sub_of hm rfl) | apply keeps_txonCheck | apply keeps_forEach | apply keeps_holdCause | apply keeps_updateNbLive
    | intro _ _ _)

theorem keeps_moultFail {w₀ : Nat} {s₀ : State} {s : State} {a1} {a2} (h : Keeps w₀ s₀ s)
    (hm : Sub 73 w₀ := by apply sub_of; assumption; with_unfolding_all rfl) : Keeps w₀ s₀ (moultFail s a1 a2) := by
  unfold moultFail
  with_reducible repeat' (first
    | assumption | (exact sub_of hm rfl) | apply keeps_raise | apply keeps_ite | apply keeps_refuseCommit | apply keeps_State_modTx
    | refine keeps_wr ?_)

theorem keeps_checksDone {w₀ : Nat} {s₀ : State} {s : State} {a1} (h : Keeps w₀ s₀ s)
    (hm : Sub 73 w₀ := by apply sub_of; assumption; with_unfolding_all rfl) : Keeps w₀ s₀ (checksDone s a1) := by
  unfold checksDone
  with_reducible repeat' (first
    | assumption | (exact sub_of hm rfl) | apply keeps_ite | apply keeps_State_modTx | apply keeps_moultFail)

theorem keeps_shadowReady {w₀ : Nat} {s₀ : State} {s : State} {a1} (h : Keeps w₀ s₀ s)
    (hm : Sub 64 w₀ := by apply sub_of; assumption; with_unfolding_all rfl) : Keeps w₀ s₀ (shadowReady s a1) := by
  unfold shadowReady
  with_reducible repeat' (first
    | assumption | (exact sub_of hm rfl) | apply keeps_State_modTx | refine keeps_wr ?_)

theorem keeps_doMoult {w₀ : Nat} {s₀ : State} {s : State} {a1} (h : Keeps w₀ s₀ s)
    (hm : Sub 2121 w₀ := by apply sub_of; assumption; with_unfolding_all rfl) : Keeps w₀ s₀ (doMoult s a1) := by
  unfold doMoult
  with_reducible repeat' (first
    | assumption | (exact sub_of hm rfl) | apply keeps_archiveTable | refine keeps_wr ?_ | refine keeps_bump ?_ | apply keeps_State_modTx
    | apply keeps_commitGroup)

theorem keeps_moultAt {w₀ : Nat} {s₀ : State} {s : State} {a1} (h : Keeps w₀ s₀ s)
    (hm : Sub 2121 w₀ := by apply sub_of; assumption; with_unfolding_all rfl) : Keeps w₀ s₀ (moultAt s a1) := by
  unfold moultAt
  with_reducible repeat' (first
    | assumption | (exact sub_of hm rfl) | apply keeps_ite | apply keeps_doMoult | apply keeps_moultFail)

theorem keeps_wordAdvance {w₀ : Nat} {s₀ : State} {s : State} {a1} (h : Keeps w₀ s₀ s) : Keeps w₀ s₀ (wordAdvance s a1) := by
  unfold wordAdvance
  with_reducible repeat' (first
    | assumption | apply keeps_ite | refine keeps_wr ?_)

theorem keeps_shdWrite {w₀ : Nat} {s₀ : State} {s : State} {a1} {a2} {a3} (h : Keeps w₀ s₀ s)
    (hm : Sub 64 w₀ := by apply sub_of; assumption; with_unfolding_all rfl) : Keeps w₀ s₀ (shdWrite s a1 a2 a3) := by
  unfold shdWrite
  with_reducible repeat' (first
    | assumption | (exact sub_of hm rfl) | apply keeps_State_modTx | refine keeps_wr ?_)

theorem keeps_tblDataWrite {w₀ : Nat} {s₀ : State} {s : State} {a1} {a2} {a3} (h : Keeps w₀ s₀ s)
    (hm : Sub 72 w₀ := by apply sub_of; assumption; with_unfolding_all rfl) : Keeps w₀ s₀ (tblDataWrite s a1 a2 a3) := by
  unfold tblDataWrite
  with_reducible repeat' (first
    | assumption | (exact sub_of hm rfl) | apply keeps_wordAdvance | apply keeps_ite | apply keeps_cfgIgnored | apply keeps_shdWrite)

theorem keeps_loadShadow {w₀ : Nat} {s₀ : State} {s : State} {a1} {a2} (h : Keeps w₀ s₀ s)
    (hm : Sub 64 w₀ := by apply sub_of; assumption; with_unfolding_all rfl) : Keeps w₀ s₀ (loadShadow s a1 a2) := by
  unfold loadShadow
  with_reducible repeat' (first
    | assumption | (exact sub_of hm rfl) | apply keeps_shadowReady | apply keeps_State_modTx)

theorem keeps_noTable {w₀ : Nat} {s₀ : State} {s : State} {a1} (h : Keeps w₀ s₀ s)
    (hm : Sub 72 w₀ := by apply sub_of; assumption; with_unfolding_all rfl) : Keeps w₀ s₀ (noTable s a1) := by
  unfold noTable
  with_reducible repeat' (first
    | assumption | (exact sub_of hm rfl) | apply keeps_ite | refine keeps_bump ?_ | refine keeps_wr ?_ | apply keeps_raise | apply keeps_State_modTx)

theorem keeps_orxSwitch {w₀ : Nat} {s₀ : State} {s : State} {a1} (h : Keeps w₀ s₀ s) : Keeps w₀ s₀ (orxSwitch s a1) := by
  unfold orxSwitch
  with_reducible repeat' (first
    | assumption | apply keeps_ite | refine keeps_wr ?_ | split)

theorem keeps_adaptPeriod {w₀ : Nat} {s₀ : State} {s : State} {a1} (h : Keeps w₀ s₀ s)
    (hm : Sub 192 w₀ := by apply sub_of; assumption; with_unfolding_all rfl) : Keeps w₀ s₀ (adaptPeriod s a1) := by
  unfold adaptPeriod
  with_reducible repeat' (first
    | assumption | (exact sub_of hm rfl) | apply keeps_ite | apply keeps_State_modCluster | apply keeps_State_modTx)

theorem keeps_adaptCapture {w₀ : Nat} {s₀ : State} {s : State} {a1} {a2} (h : Keeps w₀ s₀ s)
    (hm : Sub 200 w₀ := by apply sub_of; assumption; with_unfolding_all rfl) : Keeps w₀ s₀ (adaptCapture s a1 a2) := by
  unfold adaptCapture
  with_reducible repeat' (first
    | assumption | (exact sub_of hm rfl) | apply keeps_ite | apply keeps_raiseIf | refine keeps_bump ?_ | apply keeps_State_modTx
    | apply keeps_State_modCluster | split)

theorem keeps_adaptFit {w₀ : Nat} {s₀ : State} {s : State} {a1} {a2} {a3} (h : Keeps w₀ s₀ s)
    (hm : Sub 64 w₀ := by apply sub_of; assumption; with_unfolding_all rfl) : Keeps w₀ s₀ (adaptFit s a1 a2 a3) := by
  unfold adaptFit
  with_reducible repeat' (first
    | assumption | (exact sub_of hm rfl) | apply keeps_ite | apply keeps_State_modTx | apply keeps_loadShadow | refine keeps_bump ?_)

theorem keeps_txRealign {w₀ : Nat} {s₀ : State} {s : State} {a1} {a2} (h : Keeps w₀ s₀ s)
    (hm : Sub 72 w₀ := by apply sub_of; assumption; with_unfolding_all rfl) : Keeps w₀ s₀ (txRealign s a1 a2) := by
  unfold txRealign
  with_reducible repeat' (first
    | assumption | (exact sub_of hm rfl) | apply keeps_ite | apply keeps_raise | apply keeps_State_modTx | refine keeps_wr ?_)

theorem keeps_txEndSymbol {w₀ : Nat} {s₀ : State} {s : State} {a1} {a2} {a3} {a4} (h : Keeps w₀ s₀ s)
    (hm : Sub 8 w₀ := by apply sub_of; assumption; with_unfolding_all rfl) : Keeps w₀ s₀ (txEndSymbol s a1 a2 a3 a4) := by
  unfold txEndSymbol
  with_reducible repeat' (first
    | assumption | (exact sub_of hm rfl) | apply keeps_ite | refine keeps_bump ?_ | refine keeps_stickyEvent ?_)

theorem keepsO_execTxCommit {w₀ : Nat} {s₀ : State} {a0} {s : State} (h : Keeps w₀ s₀ s)
    (hm : Sub 9 w₀ := by apply sub_of; assumption; with_unfolding_all rfl) : KeepsO w₀ s₀ (execTxCommit a0 s) := by
  unfold execTxCommit
  with_reducible repeat' (first
    | assumption | (exact sub_of hm rfl) | apply keepsO_next | apply keeps_ite | apply keeps_txCommit)

theorem keepsO_execCfrPulseReady {w₀ : Nat} {s₀ : State} {s : State} (h : Keeps w₀ s₀ s)
    (hm : Sub 32 w₀ := by apply sub_of; assumption; with_unfolding_all rfl) : KeepsO w₀ s₀ (execCfrPulseReady s) := by
  unfold execCfrPulseReady
  with_reducible repeat' (first
    | assumption | (exact sub_of hm rfl) | apply keepsO_next | refine keeps_mk rfl rfl rfl rfl rfl rfl ?_)

theorem keepsO_execShadowReady {w₀ : Nat} {s₀ : State} {a0} {s : State} (h : Keeps w₀ s₀ s)
    (hm : Sub 64 w₀ := by apply sub_of; assumption; with_unfolding_all rfl) : KeepsO w₀ s₀ (execShadowReady a0 s) := by
  unfold execShadowReady
  with_reducible repeat' (first
    | assumption | (exact sub_of hm rfl) | apply keepsO_next | apply keeps_ite | apply keeps_shadowReady)

theorem keepsO_execDpdChecksDone {w₀ : Nat} {s₀ : State} {a0} {s : State} (h : Keeps w₀ s₀ s)
    (hm : Sub 73 w₀ := by apply sub_of; assumption; with_unfolding_all rfl) : KeepsO w₀ s₀ (execDpdChecksDone a0 s) := by
  unfold execDpdChecksDone
  with_reducible repeat' (first
    | assumption | (exact sub_of hm rfl) | apply keepsO_next | apply keeps_checksDone)

theorem keepsO_execDpdTblDataAccess {w₀ : Nat} {s₀ : State} {a0} {a1} {a2} {s : State} (h : Keeps w₀ s₀ s)
    (hm : Sub 72 w₀ := by apply sub_of; assumption; with_unfolding_all rfl) : KeepsO w₀ s₀ (execDpdTblDataAccess a0 a1 a2 s) := by
  unfold execDpdTblDataAccess
  with_reducible repeat' (first
    | assumption | (exact sub_of hm rfl) | apply keepsO_next | apply keeps_ite | apply keeps_tblDataWrite | apply keeps_wordAdvance | split)

theorem keepsO_execAdaptPeriod {w₀ : Nat} {s₀ : State} {a0} {s : State} (h : Keeps w₀ s₀ s)
    (hm : Sub 192 w₀ := by apply sub_of; assumption; with_unfolding_all rfl) : KeepsO w₀ s₀ (execAdaptPeriod a0 s) := by
  unfold execAdaptPeriod
  with_reducible repeat' (first
    | assumption | (exact sub_of hm rfl) | apply keepsO_next | apply keeps_adaptPeriod)

theorem keepsO_execAdaptCaptureDone {w₀ : Nat} {s₀ : State} {a0} {a1} {s : State} (h : Keeps w₀ s₀ s)
    (hm : Sub 200 w₀ := by apply sub_of; assumption; with_unfolding_all rfl) : KeepsO w₀ s₀ (execAdaptCaptureDone a0 a1 s) := by
  unfold execAdaptCaptureDone
  with_reducible repeat' (first
    | assumption | (exact sub_of hm rfl) | apply keepsO_next | apply keeps_ite | apply keeps_adaptCapture)

theorem keepsO_execAdaptFitDone {w₀ : Nat} {s₀ : State} {a0} {a1} {a2} {s : State} (h : Keeps w₀ s₀ s)
    (hm : Sub 64 w₀ := by apply sub_of; assumption; with_unfolding_all rfl) : KeepsO w₀ s₀ (execAdaptFitDone a0 a1 a2 s) := by
  unfold execAdaptFitDone
  with_reducible repeat' (first
    | assumption | (exact sub_of hm rfl) | apply keepsO_next | apply keeps_adaptFit)

end Sys2Proof.Laws
end

