-- ==== Sys2Proof/Laws/KeepsLo.lean ====
section
/-! SUPPORT. What the operations of Machine/Lo.lean keep, and which parts they may change (Laws/Keeps.lean). -/

set_option Elab.async false

namespace Sys2Proof.Laws

open Sys2Proof.Machine

theorem keeps_setLo {w₀ : Nat} {s₀ : State} {s : State} {a1} {a2} (h : Keeps w₀ s₀ s) : Keeps w₀ s₀ (setLo s a1 a2) := by
  unfold setLo
  with_reducible repeat' (first
    | assumption | refine keeps_wr ?_)

theorem keeps_loUse {w₀ : Nat} {s₀ : State} {s : State} {a1} {a2} (h : Keeps w₀ s₀ s)
    (hm : Sub 128 w₀ := by apply sub_of; assumption; with_unfolding_all rfl) : Keeps w₀ s₀ (loUse s a1 a2) := by
  unfold loUse
  with_reducible repeat' (first
    | assumption | (exact sub_of hm rfl) | apply keeps_State_modCluster | refine keeps_wr ?_)

theorem keeps_loSearch {w₀ : Nat} {s₀ : State} {s : State} {a1} (h : Keeps w₀ s₀ s)
    (hm : Sub 128 w₀ := by apply sub_of; assumption; with_unfolding_all rfl) : Keeps w₀ s₀ (loSearch s a1) := by
  unfold loSearch
  with_reducible repeat' (first
    | assumption | (exact sub_of hm rfl) | apply keeps_State_modCluster | apply keeps_setLo | split | refine keeps_mk rfl rfl rfl rfl rfl rfl ?_)

theorem keeps_loKick {w₀ : Nat} {s₀ : State} {s : State} {a1} (h : Keeps w₀ s₀ s)
    (hm : Sub 128 w₀ := by apply sub_of; assumption; with_unfolding_all rfl) : Keeps w₀ s₀ (loKick s a1) := by
  unfold loKick
  with_reducible repeat' (first
    | assumption | (exact sub_of hm rfl) | apply keeps_ite | apply keeps_loSearch)

theorem keeps_loMute {w₀ : Nat} {s₀ : State} {s : State} {a1} (h : Keeps w₀ s₀ s)
    (hm : Sub 64 w₀ := by apply sub_of; assumption; with_unfolding_all rfl) : Keeps w₀ s₀ (loMute s a1) := by
  unfold loMute
  with_reducible repeat' (first
    | assumption | (exact sub_of hm rfl) | apply keeps_ite | apply keeps_txonCheck | apply keeps_forEach | apply keeps_holdCause
    | apply keeps_updateNbLive | intro _ _ _)

theorem keeps_loTag {w₀ : Nat} {s₀ : State} {s : State} {a1} (h : Keeps w₀ s₀ s)
    (hm : Sub 64 w₀ := by apply sub_of; assumption; with_unfolding_all rfl) : Keeps w₀ s₀ (loTag s a1) := by
  unfold loTag
  with_reducible repeat' (first
    | assumption | (exact sub_of hm rfl) | apply keeps_forEach | apply keeps_markTag | intro _ _ _)

theorem keeps_loStore {w₀ : Nat} {s₀ : State} {s : State} {a1} {a2} {a3} {a4} {a5} (h : Keeps w₀ s₀ s)
    (hm : Sub 128 w₀ := by apply sub_of; assumption; with_unfolding_all rfl) : Keeps w₀ s₀ (loStore s a1 a2 a3 a4 a5) := by
  unfold loStore
  with_reducible repeat' (first
    | assumption | (exact sub_of hm rfl) | refine keeps_wr ?_ | apply keeps_loUse | apply keeps_ite | split)

theorem keeps_loLock {w₀ : Nat} {s₀ : State} {s : State} {a1} {a2} (h : Keeps w₀ s₀ s)
    (hm : Sub 12583104 w₀ := by apply sub_of; assumption; with_unfolding_all rfl) : Keeps w₀ s₀ (loLock s a1 a2) := by
  unfold loLock
  with_reducible repeat' (first
    | assumption | (exact sub_of hm rfl) | apply keeps_ite | apply keeps_loTag | apply keeps_State_modCluster | refine keeps_wr ?_
    | apply keeps_setLo | apply keeps_loUse | apply keeps_regionRest | apply keeps_loKick | apply keeps_loStore | apply keeps_takeFree | split)

theorem keeps_loPrecal {w₀ : Nat} {s₀ : State} {s : State} {a1} {a2} (h : Keeps w₀ s₀ s)
    (hm : Sub 136 w₀ := by apply sub_of; assumption; with_unfolding_all rfl) : Keeps w₀ s₀ (loPrecal s a1 a2) := by
  unfold loPrecal
  with_reducible repeat' (first
    | assumption | (exact sub_of hm rfl) | apply keeps_ite | apply keeps_State_modCluster | apply keeps_setLo | apply keeps_raise)

theorem keeps_loPrecalAsk {w₀ : Nat} {s₀ : State} {s : State} {a1} {a2} (h : Keeps w₀ s₀ s)
    (hm : Sub 4194440 w₀ := by apply sub_of; assumption; with_unfolding_all rfl) : Keeps w₀ s₀ (loPrecalAsk s a1 a2) := by
  unfold loPrecalAsk
  with_reducible repeat' (first
    | assumption | (exact sub_of hm rfl) | apply keeps_ite | apply keeps_loPrecal | refine keeps_mk rfl rfl rfl rfl rfl rfl ?_)

theorem keeps_loDown {w₀ : Nat} {s₀ : State} {s : State} {a1} (h : Keeps w₀ s₀ s) : Keeps w₀ s₀ (loDown s a1) := by
  unfold loDown
  with_reducible repeat' (first
    | assumption | apply keeps_forEach | apply keeps_ite | apply keeps_setLo | apply keeps_dropCause | intro _ _ _)

theorem keeps_clusterCommit {w₀ : Nat} {s₀ : State} {s : State} {a1} (h : Keeps w₀ s₀ s)
    (hm : Sub 201 w₀ := by apply sub_of; assumption; with_unfolding_all rfl) : Keeps w₀ s₀ (clusterCommit s a1) := by
  unfold clusterCommit
  with_reducible repeat' (first
    | assumption | (exact sub_of hm rfl) | apply keeps_ite | apply keeps_loSearch | apply keeps_loMute | apply keeps_loTag
    | apply keeps_State_modCluster | apply keeps_commitGroup | apply keeps_loKick)

theorem keeps_loEnWritten {w₀ : Nat} {s₀ : State} {s : State} {a1} (h : Keeps w₀ s₀ s)
    (hm : Sub 201 w₀ := by apply sub_of; assumption; with_unfolding_all rfl) : Keeps w₀ s₀ (loEnWritten s a1) := by
  unfold loEnWritten
  with_reducible repeat' (first
    | assumption | (exact sub_of hm rfl) | apply keeps_ite | apply keeps_clusterCommit | apply keeps_State_modCluster | apply keeps_setLo
    | apply keeps_loTag | apply keeps_loMute)

theorem keepsO_execClusterCommit {w₀ : Nat} {s₀ : State} {a0} {s : State} (h : Keeps w₀ s₀ s)
    (hm : Sub 201 w₀ := by apply sub_of; assumption; with_unfolding_all rfl) : KeepsO w₀ s₀ (execClusterCommit a0 s) := by
  unfold execClusterCommit
  with_reducible repeat' (first
    | assumption | (exact sub_of hm rfl) | apply keepsO_next | apply keeps_ite | apply keeps_clusterCommit)

theorem keepsO_execLoPrecal {w₀ : Nat} {s₀ : State} {a0} {a1} {s : State} (h : Keeps w₀ s₀ s)
    (hm : Sub 4194440 w₀ := by apply sub_of; assumption; with_unfolding_all rfl) : KeepsO w₀ s₀ (execLoPrecal a0 a1 s) := by
  unfold execLoPrecal
  with_reducible repeat' (first
    | assumption | (exact sub_of hm rfl) | apply keepsO_next | apply keeps_ite | apply keeps_loPrecalAsk)

theorem keepsO_execLoLock {w₀ : Nat} {s₀ : State} {a0} {a1} {s : State} (h : Keeps w₀ s₀ s)
    (hm : Sub 12583104 w₀ := by apply sub_of; assumption; with_unfolding_all rfl) : KeepsO w₀ s₀ (execLoLock a0 a1 s) := by
  unfold execLoLock
  with_reducible repeat' (first
    | assumption | (exact sub_of hm rfl) | apply keepsO_next | apply keeps_loLock)

theorem keepsO_execLoStoredTimeout {w₀ : Nat} {s₀ : State} {a0} {s : State} (h : Keeps w₀ s₀ s)
    (hm : Sub 128 w₀ := by apply sub_of; assumption; with_unfolding_all rfl) : KeepsO w₀ s₀ (execLoStoredTimeout a0 s) := by
  unfold execLoStoredTimeout
  with_reducible repeat' (first
    | assumption | (exact sub_of hm rfl) | apply keepsO_next | apply keeps_ite | apply keeps_State_modCluster | apply keeps_setLo)

theorem keepsO_execLoFail {w₀ : Nat} {s₀ : State} {a0} {s : State} (h : Keeps w₀ s₀ s)
    (hm : Sub 4194504 w₀ := by apply sub_of; assumption; with_unfolding_all rfl) : KeepsO w₀ s₀ (execLoFail a0 s) := by
  unfold execLoFail
  with_reducible repeat' (first
    | assumption | (exact sub_of hm rfl) | apply keepsO_next | apply keeps_ite | apply keeps_regionRest | apply keeps_State_modCluster
    | apply keeps_raise | apply keeps_loMute | apply keeps_setLo)

theorem keepsO_execLoUnlock {w₀ : Nat} {s₀ : State} {a0} {s : State} (h : Keeps w₀ s₀ s)
    (hm : Sub 72 w₀ := by apply sub_of; assumption; with_unfolding_all rfl) : KeepsO w₀ s₀ (execLoUnlock a0 s) := by
  unfold execLoUnlock
  with_reducible repeat' (first
    | assumption | (exact sub_of hm rfl) | apply keepsO_next | apply keeps_ite | apply keeps_raise | refine keeps_wr ?_ | apply keeps_loTag
    | apply keeps_loMute | apply keeps_setLo)

end Sys2Proof.Laws
end

