-- ==== Sys2Proof/Laws/KeepsAir.lean ====
section
/-! SUPPORT. What the operations of Machine/Air.lean keep, and which parts they may change (Laws/Keeps.lean). -/

set_option Elab.async false

namespace Sys2Proof.Laws

open Sys2Proof.Machine

theorem keeps_turnCheck {w₀ : Nat} {s₀ : State} {s : State} {a1} {a2} (h : Keeps w₀ s₀ s)
    (hm : Sub 40 w₀ := by apply sub_of; assumption; with_unfolding_all rfl) : Keeps w₀ s₀ (turnCheck s a1 a2) := by
  unfold turnCheck
  with_reducible repeat' (first
    | assumption | (exact sub_of hm rfl) | apply keeps_ite | apply keeps_raise | refine keeps_bump ?_ | refine keeps_mk rfl rfl rfl rfl rfl rfl ?_)

theorem keeps_turnCheckEntry {w₀ : Nat} {s₀ : State} {s : State} {a1} (h : Keeps w₀ s₀ s)
    (hm : Sub 40 w₀ := by apply sub_of; assumption; with_unfolding_all rfl) : Keeps w₀ s₀ (turnCheckEntry s a1) := by
  unfold turnCheckEntry
  with_reducible repeat' (first
    | assumption | (exact sub_of hm rfl) | apply keeps_forEach | apply keeps_turnCheck | intro _ _ _)

theorem keeps_turnCheckAll {w₀ : Nat} {s₀ : State} {s : State} (h : Keeps w₀ s₀ s)
    (hm : Sub 40 w₀ := by apply sub_of; assumption; with_unfolding_all rfl) : Keeps w₀ s₀ (turnCheckAll s) := by
  unfold turnCheckAll
  with_reducible repeat' (first
    | assumption | (exact sub_of hm rfl) | apply keeps_forEach | apply keeps_turnCheckEntry | intro _ _ _)

theorem keeps_escCommit {w₀ : Nat} {s₀ : State} {s : State} {a1} (h : Keeps w₀ s₀ s)
    (hm : Sub 41 w₀ := by apply sub_of; assumption; with_unfolding_all rfl) : Keeps w₀ s₀ (escCommit s a1) := by
  unfold escCommit
  with_reducible repeat' (first
    | assumption | (exact sub_of hm rfl) | apply keeps_ite | apply keeps_commitGroup | apply keeps_turnCheckAll)

theorem keeps_acceptEntry {w₀ : Nat} {s₀ : State} {s : State} {a1} (h : Keeps w₀ s₀ s)
    (hm : Sub 40 w₀ := by apply sub_of; assumption; with_unfolding_all rfl) : Keeps w₀ s₀ (acceptEntry s a1) := by
  unfold acceptEntry
  with_reducible repeat' (first
    | assumption | (exact sub_of hm rfl) | apply keeps_ite | apply keeps_turnCheckEntry | refine keeps_bump ?_
    | refine keeps_mk rfl rfl rfl rfl rfl rfl ?_)

theorem keeps_refuseEntry {w₀ : Nat} {s₀ : State} {s : State} {a1} {a2} {a3} (h : Keeps w₀ s₀ s)
    (hm : Sub 8 w₀ := by apply sub_of; assumption; with_unfolding_all rfl) : Keeps w₀ s₀ (refuseEntry s a1 a2 a3) := by
  unfold refuseEntry
  with_reducible repeat' (first
    | assumption | (exact sub_of hm rfl) | apply keeps_ite | apply keeps_raise | refine keeps_wr ?_ | refine keeps_bump ?_)

theorem keeps_offerEntry {w₀ : Nat} {s₀ : State} {s : State} {a1} {a2} (h : Keeps w₀ s₀ s)
    (hm : Sub 40 w₀ := by apply sub_of; assumption; with_unfolding_all rfl) : Keeps w₀ s₀ (offerEntry s a1 a2).1 := by
  unfold offerEntry
  with_reducible repeat' (first
    | assumption | (exact sub_of hm rfl) | apply keeps_ite_fst | apply keeps_acceptEntry | apply keeps_refuseEntry | split)

theorem keeps_offerAll {w₀ : Nat} {s₀ : State} (l : List SchedRaw) {s : State} {i acc : Nat} {rej : Option (Nat × Nat)} (h : Keeps w₀ s₀ s)
    (hm : Sub 40 w₀ := by apply sub_of; assumption; with_unfolding_all rfl) :
    Keeps w₀ s₀ (offerAll s l i acc rej).1 := by
  induction l generalizing s i acc rej with
  | nil => exact h
  | cons r rest ih =>
    unfold offerAll
    exact keeps_ite_fst (ih (keeps_offerEntry h)) (ih (keeps_offerEntry h))

theorem keeps_discardQueue {w₀ : Nat} {s₀ : State} {s : State} (h : Keeps w₀ s₀ s)
    (hm : Sub 32 w₀ := by apply sub_of; assumption; with_unfolding_all rfl) : Keeps w₀ s₀ (discardQueue s) := by
  unfold discardQueue
  with_reducible repeat' (first
    | assumption | (exact sub_of hm rfl) | refine keeps_mk rfl rfl rfl rfl rfl rfl ?_)

theorem keeps_retireEntries {w₀ : Nat} {s₀ : State} {s : State} {a1} (h : Keeps w₀ s₀ s)
    (hm : Sub 32 w₀ := by apply sub_of; assumption; with_unfolding_all rfl) : Keeps w₀ s₀ (retireEntries s a1) := by
  unfold retireEntries
  with_reducible repeat' (first
    | assumption | (exact sub_of hm rfl) | refine keeps_mk rfl rfl rfl rfl rfl rfl ?_)

theorem keeps_releaseFrames {w₀ : Nat} {s₀ : State} {s : State} {a1} {a2} (h : Keeps w₀ s₀ s)
    (hm : Sub 136 w₀ := by apply sub_of; assumption; with_unfolding_all rfl) : Keeps w₀ s₀ (releaseFrames s a1 a2) := by
  unfold releaseFrames
  with_reducible repeat' (first
    | assumption | (exact sub_of hm rfl) | apply keeps_ite | apply keeps_raise | refine keeps_bump ?_ | refine keeps_wr ?_
    | apply keeps_State_modCluster)

theorem keeps_rffeRelease {w₀ : Nat} {s₀ : State} {s : State} {a1} (h : Keeps w₀ s₀ s)
    (hm : Sub 168 w₀ := by apply sub_of; assumption; with_unfolding_all rfl) : Keeps w₀ s₀ (rffeRelease s a1) := by
  unfold rffeRelease
  with_reducible repeat' (first
    | assumption | (exact sub_of hm rfl) | apply keeps_forEach | apply keeps_releaseFrames | intro _ _ _ | split
    | refine keeps_mk rfl rfl rfl rfl rfl rfl ?_)

theorem keeps_rffeFrameDone {w₀ : Nat} {s₀ : State} {s : State} {a1} {a2} (h : Keeps w₀ s₀ s)
    (hm : Sub 128 w₀ := by apply sub_of; assumption; with_unfolding_all rfl) : Keeps w₀ s₀ (rffeFrameDone s a1 a2) := by
  unfold rffeFrameDone
  with_reducible repeat' (first
    | assumption | (exact sub_of hm rfl) | refine keeps_wr ?_ | apply keeps_ite | apply keeps_State_modCluster | split)

theorem keeps_rffeCmd {w₀ : Nat} {s₀ : State} {s : State} {a1} (h : Keeps w₀ s₀ s)
    (hm : Sub 136 w₀ := by apply sub_of; assumption; with_unfolding_all rfl) : Keeps w₀ s₀ (rffeCmd s a1) := by
  unfold rffeCmd
  with_reducible repeat' (first
    | assumption | (exact sub_of hm rfl) | apply keeps_ite | apply keeps_raise | refine keeps_wr ?_ | apply keeps_State_modCluster
    | apply keeps_releaseFrames)

theorem keeps_rffeSlot {w₀ : Nat} {s₀ : State} {s : State} {a1} (h : Keeps w₀ s₀ s)
    (hm : Sub 136 w₀ := by apply sub_of; assumption; with_unfolding_all rfl) : Keeps w₀ s₀ (rffeSlot s a1) := by
  unfold rffeSlot
  with_reducible repeat' (first
    | assumption | (exact sub_of hm rfl) | apply keeps_releaseFrames | apply keeps_State_modCluster)

theorem keepsO_execSyncEdge {w₀ : Nat} {s₀ : State} {s : State} (h : Keeps w₀ s₀ s)
    (hm : Sub 32 w₀ := by apply sub_of; assumption; with_unfolding_all rfl) : KeepsO w₀ s₀ (execSyncEdge s) := by
  unfold execSyncEdge
  with_reducible repeat' (first
    | assumption | (exact sub_of hm rfl) | apply keepsO_next | refine keeps_mk rfl rfl rfl rfl rfl rfl ?_)

theorem keepsO_execRffeRelease {w₀ : Nat} {s₀ : State} {a0} {s : State} (h : Keeps w₀ s₀ s)
    (hm : Sub 168 w₀ := by apply sub_of; assumption; with_unfolding_all rfl) : KeepsO w₀ s₀ (execRffeRelease a0 s) := by
  unfold execRffeRelease
  with_reducible repeat' (first
    | assumption | (exact sub_of hm rfl) | apply keepsO_next | apply keeps_rffeRelease)

theorem keepsO_execRffeFrameDone {w₀ : Nat} {s₀ : State} {a0} {a1} {s : State} (h : Keeps w₀ s₀ s)
    (hm : Sub 128 w₀ := by apply sub_of; assumption; with_unfolding_all rfl) : KeepsO w₀ s₀ (execRffeFrameDone a0 a1 s) := by
  unfold execRffeFrameDone
  with_reducible repeat' (first
    | assumption | (exact sub_of hm rfl) | apply keepsO_next | apply keeps_rffeFrameDone)

theorem keepsO_execRffeCmd {w₀ : Nat} {s₀ : State} {a0} {a1} {s : State} (h : Keeps w₀ s₀ s)
    (hm : Sub 136 w₀ := by apply sub_of; assumption; with_unfolding_all rfl) : KeepsO w₀ s₀ (execRffeCmd a0 a1 s) := by
  unfold execRffeCmd
  with_reducible repeat' (first
    | assumption | (exact sub_of hm rfl) | apply keepsO_next | apply keeps_ite | apply keeps_rffeCmd | refine keeps_wr ?_)

end Sys2Proof.Laws
end

