-- ==== Sys2Proof/Laws/KeepsBeam.lean ====
section
/-! SUPPORT. What the operations of Machine/Beam.lean keep, and which parts they may change (Laws/Keeps.lean). -/

set_option Elab.async false

namespace Sys2Proof.Laws

open Sys2Proof.Machine

theorem keeps_State_modWset {w₀ : Nat} {s₀ : State} {s : State} {a1} {a2} (h : Keeps w₀ s₀ s)
    (hm : Sub 256 w₀ := by apply sub_of; assumption; with_unfolding_all rfl) : Keeps w₀ s₀ (State.modWset s a1 a2) := by
  unfold State.modWset
  with_reducible repeat' (first
    | assumption | (exact sub_of hm rfl) | refine keeps_mk rfl rfl rfl rfl rfl rfl ?_)

theorem keeps_forTiles {w₀ : Nat} {s₀ s : State} {g : State → Nat → State} (h : Keeps w₀ s₀ s) (hg : ∀ u t, Keeps w₀ s₀ u → Keeps w₀ s₀ (g u t)) :
    Keeps w₀ s₀ (forTiles s g) := keeps_forEach h hg

theorem keeps_discardWset {w₀ : Nat} {s₀ : State} {s : State} {a1} (h : Keeps w₀ s₀ s)
    (hm : Sub 256 w₀ := by apply sub_of; assumption; with_unfolding_all rfl) : Keeps w₀ s₀ (discardWset s a1) := by
  unfold discardWset
  with_reducible repeat' (first
    | assumption | (exact sub_of hm rfl) | apply keeps_forTiles | apply keeps_State_modWset | refine keeps_wr ?_ | intro _ _ _)

theorem keeps_corrCommitted {w₀ : Nat} {s₀ : State} {s : State} {a1} (h : Keeps w₀ s₀ s)
    (hm : Sub 256 w₀ := by apply sub_of; assumption; with_unfolding_all rfl) : Keeps w₀ s₀ (corrCommitted s a1) := by
  unfold corrCommitted
  with_reducible repeat' (first
    | assumption | (exact sub_of hm rfl) | refine keeps_wr ?_ | refine keeps_mk rfl rfl rfl rfl rfl rfl ?_)

theorem keeps_recipUpdate {w₀ : Nat} {s₀ : State} {s : State} (h : Keeps w₀ s₀ s)
    (hm : Sub 8 w₀ := by apply sub_of; assumption; with_unfolding_all rfl) : Keeps w₀ s₀ (recipUpdate s) := by
  unfold recipUpdate
  with_reducible repeat' (first
    | assumption | (exact sub_of hm rfl) | apply keeps_raiseIf | apply keeps_forTiles | refine keeps_wr ?_ | intro _ _ _)

theorem keeps_psiToCorr {w₀ : Nat} {s₀ : State} {s : State} (h : Keeps w₀ s₀ s)
    (hm : Sub 16785408 w₀ := by apply sub_of; assumption; with_unfolding_all rfl) : Keeps w₀ s₀ (psiToCorr s) := by
  unfold psiToCorr
  with_reducible repeat' (first
    | assumption | (exact sub_of hm rfl) | apply keeps_ite | refine keeps_wr ?_ | apply keeps_forEach | apply keeps_wrSh | intro _ _ _
    | refine keeps_mk rfl rfl rfl rfl rfl rfl ?_)

theorem keeps_tileCommit {w₀ : Nat} {s₀ : State} {s : State} (h : Keeps w₀ s₀ s)
    (hm : Sub 16785705 w₀ := by apply sub_of; assumption; with_unfolding_all rfl) : Keeps w₀ s₀ (tileCommit s) := by
  unfold tileCommit
  with_reducible repeat' (first
    | assumption | (exact sub_of hm rfl) | apply keeps_ite | apply keeps_recipUpdate | apply keeps_psiToCorr | apply keeps_forEach
    | apply keeps_commitGroup | apply keeps_discardWset | apply keeps_corrCommitted | intro _ _ _ | refine keeps_mk rfl rfl rfl rfl rfl rfl ?_)

theorem keeps_wsetFail {w₀ : Nat} {s₀ : State} {s : State} {a1} {a2} {a3} (h : Keeps w₀ s₀ s)
    (hm : Sub 264 w₀ := by apply sub_of; assumption; with_unfolding_all rfl) : Keeps w₀ s₀ (wsetFail s a1 a2 a3) := by
  unfold wsetFail
  with_reducible repeat' (first
    | assumption | (exact sub_of hm rfl) | apply keeps_raise | apply keeps_ite | apply keeps_forTiles | refine keeps_wr ?_
    | apply keeps_State_modWset | intro _ _ _)

theorem keeps_wsetArrive {w₀ : Nat} {s₀ : State} {s : State} {a1} {a2} (h : Keeps w₀ s₀ s)
    (hm : Sub 264 w₀ := by apply sub_of; assumption; with_unfolding_all rfl) : Keeps w₀ s₀ (wsetArrive s a1 a2) := by
  unfold wsetArrive
  with_reducible repeat' (first
    | assumption | (exact sub_of hm rfl) | apply keeps_ite | apply keeps_wsetFail | apply keeps_forTiles | apply keeps_State_modWset
    | refine keeps_wr ?_ | intro _ _ _)

theorem keeps_wsetChecksDone {w₀ : Nat} {s₀ : State} {s : State} {a1} (h : Keeps w₀ s₀ s)
    (hm : Sub 264 w₀ := by apply sub_of; assumption; with_unfolding_all rfl) : Keeps w₀ s₀ (wsetChecksDone s a1) := by
  unfold wsetChecksDone
  with_reducible repeat' (first
    | assumption | (exact sub_of hm rfl) | apply keeps_ite | apply keeps_State_modWset | apply keeps_wsetFail)

theorem keeps_wsetSwap {w₀ : Nat} {s₀ : State} {s : State} {a1} (h : Keeps w₀ s₀ s)
    (hm : Sub 256 w₀ := by apply sub_of; assumption; with_unfolding_all rfl) : Keeps w₀ s₀ (wsetSwap s a1) := by
  unfold wsetSwap
  with_reducible repeat' (first
    | assumption | (exact sub_of hm rfl) | apply keeps_forTiles | apply keeps_State_modWset | refine keeps_wr ?_ | intro _ _ _
    | refine keeps_mk rfl rfl rfl rfl rfl rfl ?_)

theorem keeps_swapAll {w₀ : Nat} {s₀ : State} {s : State} {a1} (h : Keeps w₀ s₀ s)
    (hm : Sub 256 w₀ := by apply sub_of; assumption; with_unfolding_all rfl) : Keeps w₀ s₀ (swapAll s a1) := by
  unfold swapAll
  with_reducible repeat' (first
    | assumption | (exact sub_of hm rfl) | apply keeps_forEach | apply keeps_ite | apply keeps_wsetSwap | intro _ _ _)

theorem keeps_oncePer {w₀ : Nat} {s₀ s : State} {r : Bool} {mark : State → State} {ev arg : Nat} (h : Keeps w₀ s₀ s)
    (hk : ∀ u, Keeps w₀ s₀ u → Keeps w₀ s₀ (mark u))
    (hm : Sub 8 w₀ := by apply sub_of; assumption; with_unfolding_all rfl) : Keeps w₀ s₀ (oncePer s r mark ev arg) :=
  keeps_ite h (keeps_raise (hk s h))

theorem keeps_wsetEvaluate {w₀ : Nat} {s₀ : State} {s : State} {a1} {a2} (h : Keeps w₀ s₀ s)
    (hm : Sub 264 w₀ := by apply sub_of; assumption; with_unfolding_all rfl) : Keeps w₀ s₀ (wsetEvaluate s a1 a2) := by
  unfold wsetEvaluate
  with_reducible repeat' (first
    | assumption | (exact sub_of hm rfl) | apply keeps_ite | apply keeps_oncePer | apply keeps_forTiles | refine keeps_wr ?_
    | apply keeps_State_modWset | intro _ _ _ | intro _ _)

theorem keeps_rateCheck {w₀ : Nat} {s₀ : State} {s : State} {a1} {a2} (h : Keeps w₀ s₀ s)
    (hm : Sub 8 w₀ := by apply sub_of; assumption; with_unfolding_all rfl) : Keeps w₀ s₀ (rateCheck s a1 a2) := by
  unfold rateCheck
  with_reducible repeat' (first
    | assumption | (exact sub_of hm rfl) | apply keeps_forEach | apply keeps_ite | refine keeps_stickyEvent ?_ | intro _ _ _)

theorem keeps_symbolLayers {w₀ : Nat} {s₀ : State} {s : State} {a1} {a2} (h : Keeps w₀ s₀ s)
    (hm : Sub 264 w₀ := by apply sub_of; assumption; with_unfolding_all rfl) : Keeps w₀ s₀ (symbolLayers s a1 a2) := by
  unfold symbolLayers
  with_reducible repeat' (first
    | assumption | (exact sub_of hm rfl) | apply keeps_forEach | apply keeps_rateCheck | apply keeps_ite | apply keeps_wsetEvaluate
    | apply keeps_raiseIf | apply keeps_forTiles | refine keeps_bump ?_ | intro _ _ _)

theorem keeps_layerCaps {w₀ : Nat} {s₀ : State} {s : State} {a1} (h : Keeps w₀ s₀ s)
    (hm : Sub 256 w₀ := by apply sub_of; assumption; with_unfolding_all rfl) : Keeps w₀ s₀ (layerCaps s a1) := by
  unfold layerCaps
  with_reducible repeat' (first
    | assumption | (exact sub_of hm rfl) | apply keeps_ite | apply keeps_forTiles | refine keeps_wr ?_ | intro _ _ _
    | refine keeps_mk rfl rfl rfl rfl rfl rfl ?_)

theorem keeps_solveResult {w₀ : Nat} {s₀ : State} {s : State} {a1} {a2} (h : Keeps w₀ s₀ s) : Keeps w₀ s₀ (solveResult s a1 a2) := by
  unfold solveResult
  with_reducible repeat' (first
    | assumption | apply keeps_forTiles | refine keeps_wr ?_ | intro _ _ _)

theorem keeps_solveStart {w₀ : Nat} {s₀ : State} {s : State} {a1} (h : Keeps w₀ s₀ s)
    (hm : Sub 264 w₀ := by apply sub_of; assumption; with_unfolding_all rfl) : Keeps w₀ s₀ (solveStart s a1) := by
  unfold solveStart
  with_reducible repeat' (first
    | assumption | (exact sub_of hm rfl) | apply keeps_ite | apply keeps_forTiles | refine keeps_wr ?_ | apply keeps_raise
    | apply keeps_solveResult | intro _ _ _ | split | refine keeps_mk rfl rfl rfl rfl rfl rfl ?_)

theorem keeps_solveDone {w₀ : Nat} {s₀ : State} {s : State} {a1} {a2} (h : Keeps w₀ s₀ s)
    (hm : Sub 264 w₀ := by apply sub_of; assumption; with_unfolding_all rfl) : Keeps w₀ s₀ (solveDone s a1 a2) := by
  unfold solveDone
  with_reducible repeat' (first
    | assumption | (exact sub_of hm rfl) | apply keeps_wsetArrive | apply keeps_solveResult | apply keeps_forTiles | refine keeps_bump ?_
    | refine keeps_wr ?_ | intro _ _ _ | split | refine keeps_mk rfl rfl rfl rfl rfl rfl ?_)

theorem keepsO_execTileCommit {w₀ : Nat} {s₀ : State} {s : State} (h : Keeps w₀ s₀ s)
    (hm : Sub 16785705 w₀ := by apply sub_of; assumption; with_unfolding_all rfl) : KeepsO w₀ s₀ (execTileCommit s) := by
  unfold execTileCommit
  with_reducible repeat' (first
    | assumption | (exact sub_of hm rfl) | apply keepsO_next | apply keeps_ite | apply keeps_tileCommit)

theorem keepsO_execSolveJobStart {w₀ : Nat} {s₀ : State} {a0} {s : State} (h : Keeps w₀ s₀ s)
    (hm : Sub 264 w₀ := by apply sub_of; assumption; with_unfolding_all rfl) : KeepsO w₀ s₀ (execSolveJobStart a0 s) := by
  unfold execSolveJobStart
  with_reducible repeat' (first
    | assumption | (exact sub_of hm rfl) | apply keepsO_next | apply keeps_solveStart)

theorem keepsO_execSolveDone {w₀ : Nat} {s₀ : State} {a0} {a1} {s : State} (h : Keeps w₀ s₀ s)
    (hm : Sub 264 w₀ := by apply sub_of; assumption; with_unfolding_all rfl) : KeepsO w₀ s₀ (execSolveDone a0 a1 s) := by
  unfold execSolveDone
  with_reducible repeat' (first
    | assumption | (exact sub_of hm rfl) | apply keepsO_next | apply keeps_solveDone)

theorem keepsO_execCorrAgeExpired {w₀ : Nat} {s₀ : State} {a0} {s : State} (h : Keeps w₀ s₀ s)
    (hm : Sub 8 w₀ := by apply sub_of; assumption; with_unfolding_all rfl) : KeepsO w₀ s₀ (execCorrAgeExpired a0 s) := by
  unfold execCorrAgeExpired
  with_reducible repeat' (first
    | assumption | (exact sub_of hm rfl) | apply keepsO_next | apply keeps_ite | apply keeps_raiseIf | refine keeps_wr ?_)

end Sys2Proof.Laws
end

