-- ==== Sys2Proof/Laws/KeepsTime.lean ====
section
/-! SUPPORT. What the operations of Machine/Time.lean keep, and which parts they may change (Laws/Keeps.lean). -/

set_option Elab.async false

namespace Sys2Proof.Laws

open Sys2Proof.Machine

theorem keeps_State_modDom {w₀ : Nat} {s₀ : State} {s : State} {a1} {a2} (h : Keeps w₀ s₀ s)
    (hm : Sub 16 w₀ := by apply sub_of; assumption; with_unfolding_all rfl) : Keeps w₀ s₀ (State.modDom s a1 a2) := by
  unfold State.modDom
  with_reducible repeat' (first
    | assumption | (exact sub_of hm rfl) | apply keeps_ite | refine keeps_mk rfl rfl rfl rfl rfl rfl ?_)

theorem keeps_refreshDom {w₀ : Nat} {s₀ : State} {s : State} {a1} (h : Keeps w₀ s₀ s)
    (hm : Sub 24 w₀ := by apply sub_of; assumption; with_unfolding_all rfl) : Keeps w₀ s₀ (refreshDom s a1) := by
  unfold refreshDom
  with_reducible repeat' (first
    | assumption | (exact sub_of hm rfl) | apply keeps_ite | refine keeps_wr ?_ | apply keeps_raise | apply keeps_State_modDom)

theorem keeps_refreshSel {w₀ : Nat} {s₀ : State} {s : State} {a1} (h : Keeps w₀ s₀ s)
    (hm : Sub 8 w₀ := by apply sub_of; assumption; with_unfolding_all rfl) : Keeps w₀ s₀ (refreshSel s a1) := by
  unfold refreshSel
  with_reducible repeat' (first
    | assumption | (exact sub_of hm rfl) | apply keeps_ite | apply keeps_raise | refine keeps_wr ?_)

theorem keeps_enterHoldover {w₀ : Nat} {s₀ : State} {s : State} (h : Keeps w₀ s₀ s)
    (hm : Sub 8388632 w₀ := by apply sub_of; assumption; with_unfolding_all rfl) : Keeps w₀ s₀ (enterHoldover s) := by
  unfold enterHoldover
  with_reducible repeat' (first
    | assumption | (exact sub_of hm rfl) | apply keeps_raise | refine keeps_wr ?_ | apply keeps_takeFree | split
    | refine keeps_mk rfl rfl rfl rfl rfl rfl ?_)

theorem keeps_refreshTime {w₀ : Nat} {s₀ : State} {s : State} (h : Keeps w₀ s₀ s)
    (hm : Sub 8388632 w₀ := by apply sub_of; assumption; with_unfolding_all rfl) : Keeps w₀ s₀ (refreshTime s) := by
  unfold refreshTime
  with_reducible repeat' (first
    | assumption | (exact sub_of hm rfl) | apply keeps_ite | apply keeps_enterHoldover | refine keeps_wr ?_ | apply keeps_refreshSel
    | apply keeps_refreshDom)

theorem keeps_stepBalance {w₀ : Nat} {s₀ : State} {s : State} {a1} (h : Keeps w₀ s₀ s)
    (hm : Sub 24 w₀ := by apply sub_of; assumption; with_unfolding_all rfl) : Keeps w₀ s₀ (stepBalance s a1) := by
  unfold stepBalance
  with_reducible repeat' (first
    | assumption | (exact sub_of hm rfl) | apply keeps_raise | refine keeps_mk rfl rfl rfl rfl rfl rfl ?_)

theorem keeps_stepOrSlew {w₀ : Nat} {s₀ : State} {s : State} {a1} (h : Keeps w₀ s₀ s)
    (hm : Sub 24 w₀ := by apply sub_of; assumption; with_unfolding_all rfl) : Keeps w₀ s₀ (stepOrSlew s a1) := by
  unfold stepOrSlew
  with_reducible repeat' (first
    | assumption | (exact sub_of hm rfl) | apply keeps_ite | refine keeps_stickyEvent ?_ | apply keeps_stepBalance
    | refine keeps_mk rfl rfl rfl rfl rfl rfl ?_)

theorem keeps_servoError {w₀ : Nat} {s₀ : State} {s : State} {a1} (h : Keeps w₀ s₀ s)
    (hm : Sub 24 w₀ := by apply sub_of; assumption; with_unfolding_all rfl) : Keeps w₀ s₀ (servoError s a1) := by
  unfold servoError
  with_reducible repeat' (first
    | assumption | (exact sub_of hm rfl) | apply keeps_ite | refine keeps_wr ?_ | apply keeps_stepOrSlew | apply keeps_raise
    | refine keeps_mk rfl rfl rfl rfl rfl rfl ?_)

theorem keeps_acceptOffset {w₀ : Nat} {s₀ : State} {s : State} {a1} {a2} (h : Keeps w₀ s₀ s)
    (hm : Sub 24 w₀ := by apply sub_of; assumption; with_unfolding_all rfl) : Keeps w₀ s₀ (acceptOffset s a1 a2) := by
  unfold acceptOffset
  with_reducible repeat' (first
    | assumption | (exact sub_of hm rfl) | apply keeps_ite | apply keeps_servoError | apply keeps_State_modDom | refine keeps_wr ?_)

theorem keeps_acceptPending {w₀ : Nat} {s₀ : State} {s : State} {a1} (h : Keeps w₀ s₀ s)
    (hm : Sub 24 w₀ := by apply sub_of; assumption; with_unfolding_all rfl) : Keeps w₀ s₀ (acceptPending s a1) := by
  unfold acceptPending
  with_reducible repeat' (first
    | assumption | (exact sub_of hm rfl) | apply keeps_forEach | apply keeps_State_modDom | apply keeps_acceptOffset | intro _ _ _)

theorem keeps_stepDetect {w₀ : Nat} {s₀ : State} {s : State} {a1} {a2} (h : Keeps w₀ s₀ s)
    (hm : Sub 24 w₀ := by apply sub_of; assumption; with_unfolding_all rfl) : Keeps w₀ s₀ (stepDetect s a1 a2) := by
  unfold stepDetect
  with_reducible repeat' (first
    | assumption | (exact sub_of hm rfl) | apply keeps_ite | apply keeps_acceptOffset | apply keeps_State_modDom | refine keeps_wr ?_
    | refine keeps_bump ?_ | apply keeps_acceptPending | apply keeps_raise | split)

theorem keeps_exchangeDone {w₀ : Nat} {s₀ : State} {s : State} {a1} {a2} {a3} (h : Keeps w₀ s₀ s)
    (hm : Sub 8388632 w₀ := by apply sub_of; assumption; with_unfolding_all rfl) : Keeps w₀ s₀ (exchangeDone s a1 a2 a3) := by
  unfold exchangeDone
  with_reducible repeat' (first
    | assumption | (exact sub_of hm rfl) | apply keeps_refreshTime | apply keeps_stepDetect | apply keeps_State_modDom | refine keeps_wr ?_)

theorem keeps_consumePtp {w₀ : Nat} {s₀ s : State} {m : PtpMsg} {f : Nat → State} (h : Keeps w₀ s₀ s) (hf : ∀ d, Keeps w₀ s₀ (f d)) :
    Keeps w₀ s₀ (consumePtp s m f) := by
  unfold consumePtp
  split
  · exact h
  · exact keeps_ite (hf _) (keeps_bump h)

theorem keeps_delayReq {w₀ : Nat} {s₀ : State} {s : State} {a1} {a2} (h : Keeps w₀ s₀ s)
    (hm : Sub 49168 w₀ := by apply sub_of; assumption; with_unfolding_all rfl) : Keeps w₀ s₀ (delayReq s a1 a2) := by
  unfold delayReq
  with_reducible repeat' (first
    | assumption | (exact sub_of hm rfl) | apply keeps_ite | apply keeps_send | apply keeps_State_modDom | split)

theorem keeps_ptpSync {w₀ : Nat} {s₀ : State} {s : State} {a1} {a2} (h : Keeps w₀ s₀ s)
    (hm : Sub 49168 w₀ := by apply sub_of; assumption; with_unfolding_all rfl) : Keeps w₀ s₀ (ptpSync s a1 a2) := by
  unfold ptpSync
  with_reducible repeat' (first
    | assumption | (exact sub_of hm rfl) | apply keeps_consumePtp | apply keeps_ite | apply keeps_delayReq | apply keeps_State_modDom | intro _)

theorem keeps_followUp {w₀ : Nat} {s₀ : State} {s : State} {a1} {a2} (h : Keeps w₀ s₀ s)
    (hm : Sub 16 w₀ := by apply sub_of; assumption; with_unfolding_all rfl) : Keeps w₀ s₀ (followUp s a1 a2) := by
  unfold followUp
  with_reducible repeat' (first
    | assumption | (exact sub_of hm rfl) | apply keeps_consumePtp | apply keeps_ite | apply keeps_State_modDom | intro _ | split
    | refine keeps_mk rfl rfl rfl rfl rfl rfl ?_)

theorem keeps_delayResp {w₀ : Nat} {s₀ : State} {s : State} {a1} {a2} (h : Keeps w₀ s₀ s)
    (hm : Sub 8388632 w₀ := by apply sub_of; assumption; with_unfolding_all rfl) : Keeps w₀ s₀ (delayResp s a1 a2) := by
  unfold delayResp
  with_reducible repeat' (first
    | assumption | (exact sub_of hm rfl) | apply keeps_consumePtp | apply keeps_ite | apply keeps_exchangeDone | apply keeps_State_modDom | intro _
    | split)

theorem keeps_announce {w₀ : Nat} {s₀ : State} {s : State} {a1} (h : Keeps w₀ s₀ s)
    (hm : Sub 8388632 w₀ := by apply sub_of; assumption; with_unfolding_all rfl) : Keeps w₀ s₀ (announce s a1) := by
  unfold announce
  with_reducible repeat' (first
    | assumption | (exact sub_of hm rfl) | apply keeps_consumePtp | apply keeps_refreshTime | apply keeps_State_modDom | intro _)

theorem keeps_timeSwitch {w₀ : Nat} {s₀ : State} {s : State} (h : Keeps w₀ s₀ s)
    (hm : Sub 16 w₀ := by apply sub_of; assumption; with_unfolding_all rfl) : Keeps w₀ s₀ (timeSwitch s) := by
  unfold timeSwitch
  with_reducible repeat' (first
    | assumption | (exact sub_of hm rfl) | apply keeps_State_modDom)

theorem keeps_steerUpdate {w₀ : Nat} {s₀ : State} {s : State} (h : Keeps w₀ s₀ s)
    (hm : Sub 8388632 w₀ := by apply sub_of; assumption; with_unfolding_all rfl) : Keeps w₀ s₀ (steerUpdate s) := by
  unfold steerUpdate
  with_reducible repeat' (first
    | assumption | (exact sub_of hm rfl) | apply keeps_raiseIf | refine keeps_wr ?_ | apply keeps_takeFree | split
    | refine keeps_mk rfl rfl rfl rfl rfl rfl ?_)

theorem keeps_refTick {w₀ : Nat} {s₀ : State} {s : State} (h : Keeps w₀ s₀ s)
    (hm : Sub 16 w₀ := by apply sub_of; assumption; with_unfolding_all rfl) : Keeps w₀ s₀ (refTick s) := by
  unfold refTick
  with_reducible repeat' (first
    | assumption | (exact sub_of hm rfl) | apply keeps_ite | refine keeps_mk rfl rfl rfl rfl rfl rfl ?_)

theorem keeps_timeCommit {w₀ : Nat} {s₀ : State} {s : State} (h : Keeps w₀ s₀ s)
    (hm : Sub 8388633 w₀ := by apply sub_of; assumption; with_unfolding_all rfl) : Keeps w₀ s₀ (timeCommit s) := by
  unfold timeCommit
  with_reducible repeat' (first
    | assumption | (exact sub_of hm rfl) | apply keeps_ite | apply keeps_refreshTime | apply keeps_State_modDom | refine keeps_wr ?_
    | apply keeps_commitGroup)

theorem keepsO_execPtpSync {w₀ : Nat} {s₀ : State} {a0} {a1} {s : State} (h : Keeps w₀ s₀ s)
    (hm : Sub 49168 w₀ := by apply sub_of; assumption; with_unfolding_all rfl) : KeepsO w₀ s₀ (execPtpSync a0 a1 s) := by
  unfold execPtpSync
  with_reducible repeat' (first
    | assumption | (exact sub_of hm rfl) | apply keepsO_next | apply keeps_ptpSync)

theorem keepsO_execFollowUp {w₀ : Nat} {s₀ : State} {a0} {a1} {s : State} (h : Keeps w₀ s₀ s)
    (hm : Sub 16 w₀ := by apply sub_of; assumption; with_unfolding_all rfl) : KeepsO w₀ s₀ (execFollowUp a0 a1 s) := by
  unfold execFollowUp
  with_reducible repeat' (first
    | assumption | (exact sub_of hm rfl) | apply keepsO_next | apply keeps_followUp)

theorem keepsO_execDelayResp {w₀ : Nat} {s₀ : State} {a0} {a1} {s : State} (h : Keeps w₀ s₀ s)
    (hm : Sub 8388632 w₀ := by apply sub_of; assumption; with_unfolding_all rfl) : KeepsO w₀ s₀ (execDelayResp a0 a1 s) := by
  unfold execDelayResp
  with_reducible repeat' (first
    | assumption | (exact sub_of hm rfl) | apply keepsO_next | apply keeps_delayResp)

theorem keepsO_execAnnounce {w₀ : Nat} {s₀ : State} {a0} {s : State} (h : Keeps w₀ s₀ s)
    (hm : Sub 8388632 w₀ := by apply sub_of; assumption; with_unfolding_all rfl) : KeepsO w₀ s₀ (execAnnounce a0 s) := by
  unfold execAnnounce
  with_reducible repeat' (first
    | assumption | (exact sub_of hm rfl) | apply keepsO_next | apply keeps_announce)

theorem keepsO_execPtpForward {w₀ : Nat} {s₀ : State} {a0} {a1} {a2} {s : State} (h : Keeps w₀ s₀ s)
    (hm : Sub 49152 w₀ := by apply sub_of; assumption; with_unfolding_all rfl) : KeepsO w₀ s₀ (execPtpForward a0 a1 a2 s) := by
  unfold execPtpForward
  with_reducible repeat' (first
    | assumption | (exact sub_of hm rfl) | apply keepsO_next | apply keeps_send)

theorem keepsO_execDomainLost {w₀ : Nat} {s₀ : State} {a0} {a1} {s : State} (h : Keeps w₀ s₀ s)
    (hm : Sub 8388632 w₀ := by apply sub_of; assumption; with_unfolding_all rfl) : KeepsO w₀ s₀ (execDomainLost a0 a1 s) := by
  unfold execDomainLost
  with_reducible repeat' (first
    | assumption | (exact sub_of hm rfl) | apply keepsO_next | apply keeps_refreshTime | apply keeps_State_modDom | split)

theorem keepsO_execStepHoldExpire {w₀ : Nat} {s₀ : State} {a0} {s : State} (h : Keeps w₀ s₀ s)
    (hm : Sub 8388632 w₀ := by apply sub_of; assumption; with_unfolding_all rfl) : KeepsO w₀ s₀ (execStepHoldExpire a0 s) := by
  unfold execStepHoldExpire
  with_reducible repeat' (first
    | assumption | (exact sub_of hm rfl) | apply keepsO_next | apply keeps_ite | apply keeps_refreshTime | apply keeps_acceptPending)

theorem keepsO_execDomainRevert {w₀ : Nat} {s₀ : State} {s : State} (h : Keeps w₀ s₀ s)
    (hm : Sub 8388632 w₀ := by apply sub_of; assumption; with_unfolding_all rfl) : KeepsO w₀ s₀ (execDomainRevert s) := by
  unfold execDomainRevert
  with_reducible repeat' (first
    | assumption | (exact sub_of hm rfl) | apply keepsO_next | apply keeps_ite | apply keeps_refreshTime | apply keeps_raise | refine keeps_wr ?_)

theorem keepsO_execSteerUpdate {w₀ : Nat} {s₀ : State} {s : State} (h : Keeps w₀ s₀ s)
    (hm : Sub 8388632 w₀ := by apply sub_of; assumption; with_unfolding_all rfl) : KeepsO w₀ s₀ (execSteerUpdate s) := by
  unfold execSteerUpdate
  with_reducible repeat' (first
    | assumption | (exact sub_of hm rfl) | apply keepsO_next | apply keeps_steerUpdate)

theorem keepsO_execAcquireTimeout {w₀ : Nat} {s₀ : State} {s : State} (h : Keeps w₀ s₀ s)
    (hm : Sub 8388632 w₀ := by apply sub_of; assumption; with_unfolding_all rfl) : KeepsO w₀ s₀ (execAcquireTimeout s) := by
  unfold execAcquireTimeout
  with_reducible repeat' (first
    | assumption | (exact sub_of hm rfl) | apply keepsO_next | apply keeps_ite | apply keeps_enterHoldover | refine keeps_wr ?_)

theorem keepsO_execTilePhaseCheck {w₀ : Nat} {s₀ : State} {a0} {a1} {s : State} (h : Keeps w₀ s₀ s)
    (hm : Sub 8 w₀ := by apply sub_of; assumption; with_unfolding_all rfl) : KeepsO w₀ s₀ (execTilePhaseCheck a0 a1 s) := by
  unfold execTilePhaseCheck
  with_reducible repeat' (first
    | assumption | (exact sub_of hm rfl) | apply keepsO_next | apply keeps_ite | apply keeps_raiseIf | refine keeps_wr ?_)

theorem keepsO_execTimeCommit {w₀ : Nat} {s₀ : State} {s : State} (h : Keeps w₀ s₀ s)
    (hm : Sub 8388633 w₀ := by apply sub_of; assumption; with_unfolding_all rfl) : KeepsO w₀ s₀ (execTimeCommit s) := by
  unfold execTimeCommit
  with_reducible repeat' (first
    | assumption | (exact sub_of hm rfl) | apply keepsO_next | apply keeps_timeCommit)

theorem keepsO_execSnap {w₀ : Nat} {s₀ : State} {s : State} (h : Keeps w₀ s₀ s) : KeepsO w₀ s₀ (execSnap s) := by
  unfold execSnap
  with_reducible repeat' (first
    | assumption | apply keepsO_next | refine keeps_wr ?_)

theorem keepsO_execClrSuspect {w₀ : Nat} {s₀ : State} {a0} {s : State} (h : Keeps w₀ s₀ s)
    (hm : Sub 8388632 w₀ := by apply sub_of; assumption; with_unfolding_all rfl) : KeepsO w₀ s₀ (execClrSuspect a0 s) := by
  unfold execClrSuspect
  with_reducible repeat' (first
    | assumption | (exact sub_of hm rfl) | apply keepsO_next | apply keeps_refreshTime | apply keeps_State_modDom | refine keeps_wr ?_)

theorem keepsO_execPpsOut {w₀ : Nat} {s₀ : State} {s : State} (h : Keeps w₀ s₀ s)
    (hm : Sub 16 w₀ := by apply sub_of; assumption; with_unfolding_all rfl) : KeepsO w₀ s₀ (execPpsOut s) := by
  unfold execPpsOut
  with_reducible repeat' (first
    | assumption | (exact sub_of hm rfl) | apply keepsO_next | apply keeps_ite | refine keeps_mk rfl rfl rfl rfl rfl rfl ?_)

theorem keepsO_execPpsIn {w₀ : Nat} {s₀ : State} {s : State} (h : Keeps w₀ s₀ s)
    (hm : Sub 8388632 w₀ := by apply sub_of; assumption; with_unfolding_all rfl) : KeepsO w₀ s₀ (execPpsIn s) := by
  unfold execPpsIn
  with_reducible repeat' (first
    | assumption | (exact sub_of hm rfl) | apply keepsO_next | apply keeps_ite | apply keeps_servoError | apply keeps_refreshTime
    | refine keeps_wr ?_ | refine keeps_mk rfl rfl rfl rfl rfl rfl ?_)

theorem keepsO_execPpsInLost {w₀ : Nat} {s₀ : State} {s : State} (h : Keeps w₀ s₀ s)
    (hm : Sub 8388632 w₀ := by apply sub_of; assumption; with_unfolding_all rfl) : KeepsO w₀ s₀ (execPpsInLost s) := by
  unfold execPpsInLost
  with_reducible repeat' (first
    | assumption | (exact sub_of hm rfl) | apply keepsO_next | apply keeps_ite | apply keeps_refreshTime | apply keeps_raise | refine keeps_wr ?_
    | refine keeps_mk rfl rfl rfl rfl rfl rfl ?_)

end Sys2Proof.Laws
end

