-- ==== Sys2Proof/Laws/KeepsCal.lean ====
section
/-! SUPPORT. What the operations of Machine/Cal.lean keep, and which parts they may change (Laws/Keeps.lean). -/

set_option Elab.async false

namespace Sys2Proof.Laws

open Sys2Proof.Machine

theorem keeps_State_modUcal {w₀ : Nat} {s₀ : State} {s : State} {a1} {a2} (h : Keeps w₀ s₀ s)
    (hm : Sub 512 w₀ := by apply sub_of; assumption; with_unfolding_all rfl) : Keeps w₀ s₀ (State.modUcal s a1 a2) := by
  unfold State.modUcal
  with_reducible repeat' (first
    | assumption | (exact sub_of hm rfl) | refine keeps_mk rfl rfl rfl rfl rfl rfl ?_)

theorem keeps_State_modCcal {w₀ : Nat} {s₀ : State} {s : State} {a1} {a2} (h : Keeps w₀ s₀ s)
    (hm : Sub 512 w₀ := by apply sub_of; assumption; with_unfolding_all rfl) : Keeps w₀ s₀ (State.modCcal s a1 a2) := by
  unfold State.modCcal
  with_reducible repeat' (first
    | assumption | (exact sub_of hm rfl) | refine keeps_mk rfl rfl rfl rfl rfl rfl ?_)

theorem keeps_wrShIn {w₀ : Nat} {s₀ : State} {s : State} {a1} {a2} {a3} (h : Keeps w₀ s₀ s)
    (hm : Sub 16777217 w₀ := by apply sub_of; assumption; with_unfolding_all rfl) : Keeps w₀ s₀ (wrShIn s a1 a2 a3) := by
  unfold wrShIn
  with_reducible repeat' (first
    | assumption | (exact sub_of hm rfl) | apply keeps_wrSh | refine keeps_mk rfl rfl rfl rfl rfl rfl ?_)

theorem keeps_storeChanged {w₀ : Nat} {s₀ : State} {s : State} (h : Keeps w₀ s₀ s)
    (hm : Sub 512 w₀ := by apply sub_of; assumption; with_unfolding_all rfl) : Keeps w₀ s₀ (storeChanged s) := by
  unfold storeChanged
  with_reducible repeat' (first
    | assumption | (exact sub_of hm rfl) | refine keeps_mk rfl rfl rfl rfl rfl rfl ?_)

theorem keeps_trimSet {w₀ : Nat} {s₀ : State} {s : State} {a1} {a2} {a3} {a4} (h : Keeps w₀ s₀ s)
    (hm : Sub 512 w₀ := by apply sub_of; assumption; with_unfolding_all rfl) : Keeps w₀ s₀ (trimSet s a1 a2 a3 a4) := by
  unfold trimSet
  with_reducible repeat' (first
    | assumption | (exact sub_of hm rfl) | apply keeps_ite | split | refine keeps_mk rfl rfl rfl rfl rfl rfl ?_)

theorem keeps_trimWrite {w₀ : Nat} {s₀ : State} {s : State} {a1} {a2} (h : Keeps w₀ s₀ s)
    (hm : Sub 520 w₀ := by apply sub_of; assumption; with_unfolding_all rfl) : Keeps w₀ s₀ (trimWrite s a1 a2) := by
  unfold trimWrite
  with_reducible repeat' (first
    | assumption | (exact sub_of hm rfl) | apply keeps_ite | apply keeps_trimSet | apply keeps_cfgIgnored)

theorem keeps_trimLater {w₀ : Nat} {s₀ : State} {s : State} {a1} {a2} {a3} {a4} (h : Keeps w₀ s₀ s)
    (hm : Sub 512 w₀ := by apply sub_of; assumption; with_unfolding_all rfl) : Keeps w₀ s₀ (trimLater s a1 a2 a3 a4) := by
  unfold trimLater
  with_reducible repeat' (first
    | assumption | (exact sub_of hm rfl) | refine keeps_mk rfl rfl rfl rfl rfl rfl ?_)

theorem keeps_writeIrr {w₀ : Nat} {s₀ : State} {s : State} {a1} {a2} (h : Keeps w₀ s₀ s)
    (hm : Sub 16777217 w₀ := by apply sub_of; assumption; with_unfolding_all rfl) : Keeps w₀ s₀ (writeIrr s a1 a2) := by
  unfold writeIrr
  with_reducible repeat' (first
    | assumption | (exact sub_of hm rfl) | apply keeps_ite | apply keeps_forEach | apply keeps_wrShIn | intro _ _ _)

theorem keeps_writeLoop {w₀ : Nat} {s₀ : State} {s : State} {a1} {a2} (h : Keeps w₀ s₀ s)
    (hm : Sub 512 w₀ := by apply sub_of; assumption; with_unfolding_all rfl) : Keeps w₀ s₀ (writeLoop s a1 a2) := by
  unfold writeLoop
  with_reducible repeat' (first
    | assumption | (exact sub_of hm rfl) | apply keeps_ite | refine keeps_wr ?_ | apply keeps_State_modUcal
    | refine keeps_mk rfl rfl rfl rfl rfl rfl ?_)

theorem keeps_writeResult {w₀ : Nat} {s₀ : State} {s : State} {a1} {a2} {a3} {a4} (h : Keeps w₀ s₀ s)
    (hm : Sub 16777729 w₀ := by apply sub_of; assumption; with_unfolding_all rfl) : Keeps w₀ s₀ (writeResult s a1 a2 a3 a4) := by
  unfold writeResult
  with_reducible repeat' (first
    | assumption | (exact sub_of hm rfl) | apply keeps_storeChanged | apply keeps_ite | apply keeps_forEach | apply keeps_trimLater
    | apply keeps_writeIrr | apply keeps_writeLoop | intro _ _ _)

theorem keeps_setStrikes {w₀ : Nat} {s₀ : State} {s : State} {a1} {a2} {a3} (h : Keeps w₀ s₀ s) : Keeps w₀ s₀ (setStrikes s a1 a2 a3) := by
  unfold setStrikes
  with_reducible repeat' (first
    | assumption | refine keeps_wr ?_)

theorem keeps_degrade {w₀ : Nat} {s₀ : State} {s : State} {a1} {a2} (h : Keeps w₀ s₀ s)
    (hm : Sub 72 w₀ := by apply sub_of; assumption; with_unfolding_all rfl) : Keeps w₀ s₀ (degrade s a1 a2) := by
  unfold degrade
  with_reducible repeat' (first
    | assumption | (exact sub_of hm rfl) | apply keeps_raise | apply keeps_State_modUnit | refine keeps_wr ?_ | split)

theorem keeps_calFail {w₀ : Nat} {s₀ : State} {s : State} {a1} {a2} {a3} (h : Keeps w₀ s₀ s)
    (hm : Sub 584 w₀ := by apply sub_of; assumption; with_unfolding_all rfl) : Keeps w₀ s₀ (calFail s a1 a2 a3) := by
  unfold calFail
  with_reducible repeat' (first
    | assumption | (exact sub_of hm rfl) | apply keeps_ite | apply keeps_raise | refine keeps_wr ?_ | apply keeps_storeChanged
    | refine keeps_bump ?_ | apply keeps_State_modCcal | apply keeps_setStrikes | apply keeps_degrade | apply keeps_State_modUcal)

theorem keeps_seekRelease {w₀ : Nat} {s₀ : State} {s : State} {a1} {a2} (h : Keeps w₀ s₀ s)
    (hm : Sub 512 w₀ := by apply sub_of; assumption; with_unfolding_all rfl) : Keeps w₀ s₀ (seekRelease s a1 a2) := by
  unfold seekRelease
  with_reducible repeat' (first
    | assumption | (exact sub_of hm rfl) | apply keeps_ite | refine keeps_mk rfl rfl rfl rfl rfl rfl ?_)

theorem keeps_calPass {w₀ : Nat} {s₀ : State} {s : State} {a1} {a2} (h : Keeps w₀ s₀ s)
    (hm : Sub 512 w₀ := by apply sub_of; assumption; with_unfolding_all rfl) : Keeps w₀ s₀ (calPass s a1 a2) := by
  unfold calPass
  with_reducible repeat' (first
    | assumption | (exact sub_of hm rfl) | apply keeps_ite | apply keeps_State_modCcal | refine keeps_bump ?_ | apply keeps_seekRelease
    | apply keeps_State_modUcal | apply keeps_setStrikes | refine keeps_mk rfl rfl rfl rfl rfl rfl ?_)

theorem keeps_releaseSide {w₀ : Nat} {s₀ : State} {s : State} {a1} {a2} (h : Keeps w₀ s₀ s)
    (hm : Sub 72 w₀ := by apply sub_of; assumption; with_unfolding_all rfl) : Keeps w₀ s₀ (releaseSide s a1 a2) := by
  unfold releaseSide
  with_reducible repeat' (first
    | assumption | (exact sub_of hm rfl) | apply keeps_raise | apply keeps_State_modUnit | refine keeps_wr ?_ | split)

theorem keeps_calBoundary {w₀ : Nat} {s₀ : State} {s : State} {a1} (h : Keeps w₀ s₀ s)
    (hm : Sub 584 w₀ := by apply sub_of; assumption; with_unfolding_all rfl) : Keeps w₀ s₀ (calBoundary s a1) := by
  unfold calBoundary
  with_reducible repeat' (first
    | assumption | (exact sub_of hm rfl) | apply keeps_ite | apply keeps_raise | refine keeps_wr ?_ | apply keeps_forEach | apply keeps_trimSet
    | apply keeps_seekRelease | apply keeps_State_modUcal | apply keeps_releaseSide | intro _ _ _ | refine keeps_mk rfl rfl rfl rfl rfl rfl ?_)

theorem keeps_showDue {w₀ : Nat} {s₀ : State} {s : State} {a1} (h : Keeps w₀ s₀ s) : Keeps w₀ s₀ (showDue s a1) := by
  unfold showDue
  with_reducible repeat' (first
    | assumption | refine keeps_wr ?_)

theorem keeps_makeDue {w₀ : Nat} {s₀ : State} {s : State} {a1} {a2} {a3} (h : Keeps w₀ s₀ s)
    (hm : Sub 512 w₀ := by apply sub_of; assumption; with_unfolding_all rfl) : Keeps w₀ s₀ (makeDue s a1 a2 a3) := by
  unfold makeDue
  with_reducible repeat' (first
    | assumption | (exact sub_of hm rfl) | apply keeps_showDue | apply keeps_State_modCcal | split)

theorem keeps_calDue {w₀ : Nat} {s₀ : State} {s : State} {a1} (h : Keeps w₀ s₀ s)
    (hm : Sub 512 w₀ := by apply sub_of; assumption; with_unfolding_all rfl) : Keeps w₀ s₀ (calDue s a1) := by
  unfold calDue
  with_reducible repeat' (first
    | assumption | (exact sub_of hm rfl) | apply keeps_ite | apply keeps_State_modCcal | apply keeps_forEach | apply keeps_makeDue | intro _ _ _)

theorem keeps_pickNext {w₀ : Nat} {s₀ : State} {s : State} {a1} (h : Keeps w₀ s₀ s)
    (hm : Sub 512 w₀ := by apply sub_of; assumption; with_unfolding_all rfl) : Keeps w₀ s₀ (pickNext s a1) := by
  unfold pickNext
  with_reducible repeat' (first
    | assumption | (exact sub_of hm rfl) | apply keeps_ite | apply keeps_State_modCcal | apply keeps_showDue | split)

theorem keeps_calPick {w₀ : Nat} {s₀ : State} {s : State} {a1} (h : Keeps w₀ s₀ s)
    (hm : Sub 512 w₀ := by apply sub_of; assumption; with_unfolding_all rfl) : Keeps w₀ s₀ (calPick s a1) := by
  unfold calPick
  with_reducible repeat' (first
    | assumption | (exact sub_of hm rfl) | apply keeps_pickNext | apply keeps_State_modCcal)

theorem keeps_calStart {w₀ : Nat} {s₀ : State} {s : State} {a1} {a2} (h : Keeps w₀ s₀ s)
    (hm : Sub 640 w₀ := by apply sub_of; assumption; with_unfolding_all rfl) : Keeps w₀ s₀ (calStart s a1 a2) := by
  unfold calStart
  with_reducible repeat' (first
    | assumption | (exact sub_of hm rfl) | apply keeps_calPick | apply keeps_ite | apply keeps_State_modCluster | apply keeps_State_modCcal | split
    | refine keeps_mk rfl rfl rfl rfl rfl rfl ?_)

theorem keeps_passEnd {w₀ : Nat} {s₀ : State} {s : State} {a1} {a2} (h : Keeps w₀ s₀ s)
    (hm : Sub 512 w₀ := by apply sub_of; assumption; with_unfolding_all rfl) : Keeps w₀ s₀ (passEnd s a1 a2) := by
  unfold passEnd
  with_reducible repeat' (first
    | assumption | (exact sub_of hm rfl) | apply keeps_ite | apply keeps_makeDue | apply keeps_State_modCcal | apply keeps_State_modUcal)

theorem keeps_reqEnd {w₀ : Nat} {s₀ : State} {s : State} {a1} (h : Keeps w₀ s₀ s)
    (hm : Sub 512 w₀ := by apply sub_of; assumption; with_unfolding_all rfl) : Keeps w₀ s₀ (reqEnd s a1) := by
  unfold reqEnd
  with_reducible repeat' (first
    | assumption | (exact sub_of hm rfl) | apply keeps_ite | apply keeps_State_modCcal | refine keeps_wr ?_)

theorem keeps_calEnd {w₀ : Nat} {s₀ : State} {s : State} {a1} {a2} {a3} (h : Keeps w₀ s₀ s)
    (hm : Sub 16777801 w₀ := by apply sub_of; assumption; with_unfolding_all rfl) : Keeps w₀ s₀ (calEnd s a1 a2 a3) := by
  unfold calEnd
  with_reducible repeat' (first
    | assumption | (exact sub_of hm rfl) | apply keeps_ite | apply keeps_reqEnd | apply keeps_State_modCcal | apply keeps_passEnd
    | apply keeps_calPass | apply keeps_writeResult | apply keeps_calFail | apply keeps_makeDue)

theorem keeps_calStepDone {w₀ : Nat} {s₀ : State} {s : State} {a1} {a2} (h : Keeps w₀ s₀ s)
    (hm : Sub 16777801 w₀ := by apply sub_of; assumption; with_unfolding_all rfl) : Keeps w₀ s₀ (calStepDone s a1 a2) := by
  unfold calStepDone
  with_reducible repeat' (first
    | assumption | (exact sub_of hm rfl) | apply keeps_ite | apply keeps_reqEnd | apply keeps_State_modCcal | apply keeps_calEnd | split
    | refine keeps_mk rfl rfl rfl rfl rfl rfl ?_)

theorem keeps_calReq {w₀ : Nat} {s₀ : State} {s : State} {a1} {a2} {a3} {a4} {a5} (h : Keeps w₀ s₀ s)
    (hm : Sub 520 w₀ := by apply sub_of; assumption; with_unfolding_all rfl) : Keeps w₀ s₀ (calReq s a1 a2 a3 a4 a5) := by
  unfold calReq
  with_reducible repeat' (first
    | assumption | (exact sub_of hm rfl) | apply keeps_ite | apply keeps_raise | refine keeps_wr ?_ | apply keeps_forEach
    | apply keeps_State_modUcal | apply keeps_State_modCcal | intro _ _ _)

theorem keeps_trimCold {w₀ : Nat} {s₀ : State} {s : State} (h : Keeps w₀ s₀ s)
    (hm : Sub 512 w₀ := by apply sub_of; assumption; with_unfolding_all rfl) : Keeps w₀ s₀ (trimCold s) := by
  unfold trimCold
  with_reducible repeat' (first
    | assumption | (exact sub_of hm rfl) | apply keeps_forEach | apply keeps_State_modCcal | apply keeps_State_modUcal | intro _ _ _ | split
    | refine keeps_mk rfl rfl rfl rfl rfl rfl ?_)

theorem keeps_trimWarm {w₀ : Nat} {s₀ : State} {s : State} (h : Keeps w₀ s₀ s)
    (hm : Sub 512 w₀ := by apply sub_of; assumption; with_unfolding_all rfl) : Keeps w₀ s₀ (trimWarm s) := by
  unfold trimWarm
  with_reducible repeat' (first
    | assumption | (exact sub_of hm rfl) | apply keeps_forEach | apply keeps_State_modCcal | intro _ _ _ | split)

theorem keeps_trainStep {w₀ : Nat} {s₀ : State} {s : State} {a1} {a2} (h : Keeps w₀ s₀ s)
    (hm : Sub 584 w₀ := by apply sub_of; assumption; with_unfolding_all rfl) : Keeps w₀ s₀ (trainStep s a1 a2) := by
  unfold trainStep
  with_reducible repeat' (first
    | assumption | (exact sub_of hm rfl) | apply keeps_ite | apply keeps_calPass | apply keeps_State_modTx | refine keeps_wr ?_ | apply keeps_raise
    | apply keeps_calFail | split)

theorem keeps_wrCorr {w₀ : Nat} {s₀ : State} {s : State} {a1} {a2} {a3} {a4} {a5} (h : Keeps w₀ s₀ s)
    (hm : Sub 16777217 w₀ := by apply sub_of; assumption; with_unfolding_all rfl) : Keeps w₀ s₀ (wrCorr s a1 a2 a3 a4 a5) := by
  unfold wrCorr
  with_reducible repeat' (first
    | assumption | (exact sub_of hm rfl) | apply keeps_wrShIn)

theorem keeps_recipWrite {w₀ : Nat} {s₀ : State} {s : State} {a1} {a2} {a3} {a4} (h : Keeps w₀ s₀ s)
    (hm : Sub 16777985 w₀ := by apply sub_of; assumption; with_unfolding_all rfl) : Keeps w₀ s₀ (recipWrite s a1 a2 a3 a4) := by
  unfold recipWrite
  with_reducible repeat' (first
    | assumption | (exact sub_of hm rfl) | apply keeps_storeChanged | apply keeps_State_modUcal | refine keeps_wr ?_ | apply keeps_wrCorr
    | refine keeps_mk rfl rfl rfl rfl rfl rfl ?_)

theorem keeps_recipUnit {w₀ : Nat} {s₀ : State} {s : State} {a1} {a2} {a3} (h : Keeps w₀ s₀ s)
    (hm : Sub 16778057 w₀ := by apply sub_of; assumption; with_unfolding_all rfl) : Keeps w₀ s₀ (recipUnit s a1 a2 a3) := by
  unfold recipUnit
  with_reducible repeat' (first
    | assumption | (exact sub_of hm rfl) | apply keeps_ite | refine keeps_wr ?_ | apply keeps_calPass | apply keeps_recipWrite
    | apply keeps_calFail | split)

theorem keeps_couplePair {w₀ : Nat} {s₀ : State} {s : State} {a1} {a2} (h : Keeps w₀ s₀ s)
    (hm : Sub 8390656 w₀ := by apply sub_of; assumption; with_unfolding_all rfl) : Keeps w₀ s₀ (couplePair s a1 a2) := by
  unfold couplePair
  with_reducible repeat' (first
    | assumption | (exact sub_of hm rfl) | apply keeps_setMemWord | apply keeps_ite_snd | apply keeps_takeFree | split)

theorem keeps_selfMeasured {w₀ : Nat} {s₀ : State} {s : State} {a1} {a2} (h : Keeps w₀ s₀ s)
    (hm : Sub 25176905 w₀ := by apply sub_of; assumption; with_unfolding_all rfl) : Keeps w₀ s₀ (selfMeasured s a1 a2) := by
  unfold selfMeasured
  with_reducible repeat' (first
    | assumption | (exact sub_of hm rfl) | apply keeps_recipUpdate | apply keeps_forEach | apply keeps_recipUnit | apply keeps_couplePair
    | intro _ _ _ | refine keeps_mk rfl rfl rfl rfl rfl rfl ?_)

theorem keeps_setBank {w₀ : Nat} {s₀ : State} {s : State} {a1} {a2} (h : Keeps w₀ s₀ s)
    (hm : Sub 512 w₀ := by apply sub_of; assumption; with_unfolding_all rfl) : Keeps w₀ s₀ (setBank s a1 a2) := by
  unfold setBank
  with_reducible repeat' (first
    | assumption | (exact sub_of hm rfl) | apply keeps_ite | refine keeps_mk rfl rfl rfl rfl rfl rfl ?_)

theorem keeps_storeBusy {w₀ : Nat} {s₀ : State} {s : State} {a1} (h : Keeps w₀ s₀ s) : Keeps w₀ s₀ (storeBusy s a1) := by
  unfold storeBusy
  with_reducible repeat' (first
    | assumption | apply keeps_forEach | refine keeps_wr ?_ | intro _ _ _)

theorem keeps_saveStart {w₀ : Nat} {s₀ : State} {s : State} (h : Keeps w₀ s₀ s)
    (hm : Sub 512 w₀ := by apply sub_of; assumption; with_unfolding_all rfl) : Keeps w₀ s₀ (saveStart s) := by
  unfold saveStart
  with_reducible repeat' (first
    | assumption | (exact sub_of hm rfl) | apply keeps_ite | apply keeps_storeBusy | apply keeps_setBank | refine keeps_mk rfl rfl rfl rfl rfl rfl ?_)

theorem keeps_saveDone {w₀ : Nat} {s₀ : State} {s : State} {a1} (h : Keeps w₀ s₀ s)
    (hm : Sub 520 w₀ := by apply sub_of; assumption; with_unfolding_all rfl) : Keeps w₀ s₀ (saveDone s a1) := by
  unfold saveDone
  with_reducible repeat' (first
    | assumption | (exact sub_of hm rfl) | apply keeps_ite | apply keeps_setBank | apply keeps_storeBusy | apply keeps_raise | split
    | refine keeps_mk rfl rfl rfl rfl rfl rfl ?_)

theorem get_putRanges (rs : List (Nat × Nat)) (t b : Tbl Nat) (k d : Nat) (h : ∀ r ∈ rs, ¬(r.1 ≤ k ∧ k < r.2)) :
    (putRanges t b rs).get k d = t.get k d := by
  unfold putRanges
  induction rs generalizing t with
  | nil => rfl
  | cons r rs ih =>
    have hr := h r (List.mem_cons_self ..)
    rw [List.foldl_cons, ih _ fun x hx => h x (List.mem_cons_of_mem _ hx), get_merge, get_range_out _ _ hr, get_clear _ _ hr]

/-- The store keeps no MODE. -/
theorem storeActRanges_mode : ∀ r ∈ storeActRanges, ¬(r.1 ≤ 1024 ∧ 1024 < r.2) := by decide

theorem keeps_loadStore {w₀ : Nat} {s₀ s : State} {k : Nat} (h : Keeps w₀ s₀ s)
    (hm : Sub 16778048 w₀ := by apply sub_of; assumption; with_unfolding_all rfl) : Keeps w₀ s₀ (loadStore s k) := by
  have h1 : Keeps w₀ s₀ { s with
      act := putRanges s.act (bank s k).act storeActRanges, hact := putRanges s.hact (bank s k).hact storeHRanges
      hsh := putRanges s.hsh (bank s k).hact storeHRanges
      cal := { s.cal with trims := (bank s k).trims, orxTrims := (bank s k).orxTrims, units := (bank s k).units, inUse := some k }
      beam := { s.beam with corrTime := (bank s k).corrTime } } :=
    keeps_build (t := s) rfl rfl rfl id id id (fun p q => by
      cases p <;> first | rfl | exact (sub_absurd hm rfl q).elim) (fun _ => get_putRanges _ _ _ _ _ storeActRanges_mode) h
  unfold loadStore
  exact keeps_forEach (keeps_forEach (keeps_forEach h1 fun _ _ hu => keeps_wr (keeps_State_modCcal hu))
    fun _ _ hu => keeps_State_modUnit (keeps_wr hu)) fun _ _ hu => keeps_State_modUnit (keeps_wr hu)

theorem keepsO_execCalStepDone {w₀ : Nat} {s₀ : State} {a0} {a1} {s : State} (h : Keeps w₀ s₀ s)
    (hm : Sub 16777801 w₀ := by apply sub_of; assumption; with_unfolding_all rfl) : KeepsO w₀ s₀ (execCalStepDone a0 a1 s) := by
  unfold execCalStepDone
  with_reducible repeat' (first
    | assumption | (exact sub_of hm rfl) | apply keepsO_next | apply keeps_calStepDone)

theorem keepsO_execCalReq {w₀ : Nat} {s₀ : State} {a0} {a1} {s : State} (h : Keeps w₀ s₀ s)
    (hm : Sub 520 w₀ := by apply sub_of; assumption; with_unfolding_all rfl) : KeepsO w₀ s₀ (execCalReq a0 a1 s) := by
  unfold execCalReq
  with_reducible repeat' (first
    | assumption | (exact sub_of hm rfl) | apply keepsO_next | apply keeps_ite | apply keeps_calReq | refine keeps_wr ?_)

theorem keepsO_execSave {w₀ : Nat} {s₀ : State} {s : State} (h : Keeps w₀ s₀ s)
    (hm : Sub 512 w₀ := by apply sub_of; assumption; with_unfolding_all rfl) : KeepsO w₀ s₀ (execSave s) := by
  unfold execSave
  with_reducible repeat' (first
    | assumption | (exact sub_of hm rfl) | apply keepsO_next | apply keeps_saveStart)

theorem keepsO_execCalStoreAutosave {w₀ : Nat} {s₀ : State} {s : State} (h : Keeps w₀ s₀ s)
    (hm : Sub 512 w₀ := by apply sub_of; assumption; with_unfolding_all rfl) : KeepsO w₀ s₀ (execCalStoreAutosave s) := by
  unfold execCalStoreAutosave
  with_reducible repeat' (first
    | assumption | (exact sub_of hm rfl) | apply keepsO_next | apply keeps_ite | apply keeps_saveStart)

theorem keepsO_execCalStoreSaveDone {w₀ : Nat} {s₀ : State} {a0} {s : State} (h : Keeps w₀ s₀ s)
    (hm : Sub 520 w₀ := by apply sub_of; assumption; with_unfolding_all rfl) : KeepsO w₀ s₀ (execCalStoreSaveDone a0 s) := by
  unfold execCalStoreSaveDone
  with_reducible repeat' (first
    | assumption | (exact sub_of hm rfl) | apply keepsO_next | apply keeps_saveDone)

theorem keepsO_execTrimDataAccess {w₀ : Nat} {s₀ : State} {a0} {a1} {s : State} (h : Keeps w₀ s₀ s)
    (hm : Sub 520 w₀ := by apply sub_of; assumption; with_unfolding_all rfl) : KeepsO w₀ s₀ (execTrimDataAccess a0 a1 s) := by
  unfold execTrimDataAccess
  with_reducible repeat' (first
    | assumption | (exact sub_of hm rfl) | apply keepsO_next | apply keeps_ite | apply keeps_trimWrite | split)

theorem keepsO_execDpdTrainStepDone {w₀ : Nat} {s₀ : State} {a0} {a1} {s : State} (h : Keeps w₀ s₀ s)
    (hm : Sub 584 w₀ := by apply sub_of; assumption; with_unfolding_all rfl) : KeepsO w₀ s₀ (execDpdTrainStepDone a0 a1 s) := by
  unfold execDpdTrainStepDone
  with_reducible repeat' (first
    | assumption | (exact sub_of hm rfl) | apply keepsO_next | apply keeps_trainStep)

end Sys2Proof.Laws
end

