-- ==== Sys2Proof/Laws/KeepsChorus.lean ====
section
/-! SUPPORT. What the operations of Machine/Chorus.lean keep, and which parts they may change (Laws/Keeps.lean). -/

set_option Elab.async false

namespace Sys2Proof.Laws

open Sys2Proof.Machine

theorem keeps_setChorus {w₀ : Nat} {s₀ : State} {s : State} {a1} (h : Keeps w₀ s₀ s) : Keeps w₀ s₀ (setChorus s a1) := by
  unfold setChorus
  with_reducible repeat' (first
    | assumption | refine keeps_wr ?_)

theorem keeps_setActive {w₀ : Nat} {s₀ : State} {s : State} {a1} {a2} (h : Keeps w₀ s₀ s) : Keeps w₀ s₀ (setActive s a1 a2) := by
  unfold setActive
  with_reducible repeat' (first
    | assumption | apply keeps_ite | refine keeps_wr ?_)

theorem keeps_chooseActive {w₀ : Nat} {s₀ : State} {s : State} {a1} {a2} (h : Keeps w₀ s₀ s)
    (hm : Sub 8 w₀ := by apply sub_of; assumption; with_unfolding_all rfl) : Keeps w₀ s₀ (chooseActive s a1 a2) := by
  unfold chooseActive
  with_reducible repeat' (first
    | assumption | (exact sub_of hm rfl) | apply keeps_ite | apply keeps_setActive | apply keeps_raise)

theorem keeps_deferCroak {w₀ : Nat} {s₀ : State} {s : State} {a1} {a2} (h : Keeps w₀ s₀ s)
    (hm : Sub 8200 w₀ := by apply sub_of; assumption; with_unfolding_all rfl) : Keeps w₀ s₀ (deferCroak s a1 a2) := by
  unfold deferCroak
  with_reducible repeat' (first
    | assumption | (exact sub_of hm rfl) | apply keeps_raise | refine keeps_bump ?_ | refine keeps_mk rfl rfl rfl rfl rfl rfl ?_)

theorem keeps_openWindow {w₀ : Nat} {s₀ : State} {s : State} {a1} {a2} (h : Keeps w₀ s₀ s)
    (hm : Sub 8264 w₀ := by apply sub_of; assumption; with_unfolding_all rfl) : Keeps w₀ s₀ (openWindow s a1 a2) := by
  unfold openWindow
  with_reducible repeat' (first
    | assumption | (exact sub_of hm rfl) | apply keeps_ite | refine keeps_bump ?_ | apply keeps_setChorus | apply keeps_deferCroak
    | apply keeps_chooseActive | apply keeps_forEach | apply keeps_boundaryCauses | intro _ _ _ | split | refine keeps_mk rfl rfl rfl rfl rfl rfl ?_)

theorem keeps_croakWindow {w₀ : Nat} {s₀ : State} {s : State} {a1} {a2} (h : Keeps w₀ s₀ s)
    (hm : Sub 8264 w₀ := by apply sub_of; assumption; with_unfolding_all rfl) : Keeps w₀ s₀ (croakWindow s a1 a2) := by
  unfold croakWindow
  with_reducible repeat' (first
    | assumption | (exact sub_of hm rfl) | apply keeps_openWindow)

theorem keeps_croakClose {w₀ : Nat} {s₀ : State} {s : State} {a1} (h : Keeps w₀ s₀ s)
    (hm : Sub 8192 w₀ := by apply sub_of; assumption; with_unfolding_all rfl) : Keeps w₀ s₀ (croakClose s a1) := by
  unfold croakClose
  with_reducible repeat' (first
    | assumption | (exact sub_of hm rfl) | apply keeps_ite | apply keeps_setChorus | split | refine keeps_mk rfl rfl rfl rfl rfl rfl ?_)

theorem keeps_croakSend {w₀ : Nat} {s₀ : State} {s : State} (h : Keeps w₀ s₀ s)
    (hm : Sub 8200 w₀ := by apply sub_of; assumption; with_unfolding_all rfl) : Keeps w₀ s₀ (croakSend s) := by
  unfold croakSend
  with_reducible repeat' (first
    | assumption | (exact sub_of hm rfl) | apply keeps_ite | refine keeps_bump ?_ | apply keeps_raiseIf | split
    | refine keeps_mk rfl rfl rfl rfl rfl rfl ?_)

theorem keeps_searchOpen {w₀ : Nat} {s₀ : State} {s : State} (h : Keeps w₀ s₀ s)
    (hm : Sub 8192 w₀ := by apply sub_of; assumption; with_unfolding_all rfl) : Keeps w₀ s₀ (searchOpen s) := by
  unfold searchOpen
  with_reducible repeat' (first
    | assumption | (exact sub_of hm rfl) | apply keeps_ite | apply keeps_setChorus | apply keeps_forEach | refine keeps_wr ?_ | intro _ _ _ | split
    | refine keeps_mk rfl rfl rfl rfl rfl rfl ?_)

theorem keeps_gainStep {w₀ : Nat} {s₀ : State} {s : State} {a1} (h : Keeps w₀ s₀ s)
    (hm : Sub 8192 w₀ := by apply sub_of; assumption; with_unfolding_all rfl) : Keeps w₀ s₀ (gainStep s a1) := by
  unfold gainStep
  with_reducible repeat' (first
    | assumption | (exact sub_of hm rfl) | apply keeps_ite | refine keeps_mk rfl rfl rfl rfl rfl rfl ?_)

theorem keeps_abandon {w₀ : Nat} {s₀ : State} {s : State} (h : Keeps w₀ s₀ s)
    (hm : Sub 8192 w₀ := by apply sub_of; assumption; with_unfolding_all rfl) : Keeps w₀ s₀ (abandon s) := by
  unfold abandon
  with_reducible repeat' (first
    | assumption | (exact sub_of hm rfl) | apply keeps_setChorus | refine keeps_mk rfl rfl rfl rfl rfl rfl ?_)

theorem keeps_shortPre {w₀ : Nat} {s₀ : State} {s : State} (h : Keeps w₀ s₀ s)
    (hm : Sub 8192 w₀ := by apply sub_of; assumption; with_unfolding_all rfl) : Keeps w₀ s₀ (shortPre s) := by
  unfold shortPre
  with_reducible repeat' (first
    | assumption | (exact sub_of hm rfl) | apply keeps_abandon | refine keeps_bump ?_)

theorem keeps_sfdFound {w₀ : Nat} {s₀ : State} {s : State} {a1} (h : Keeps w₀ s₀ s)
    (hm : Sub 8192 w₀ := by apply sub_of; assumption; with_unfolding_all rfl) : Keeps w₀ s₀ (sfdFound s a1) := by
  unfold sfdFound
  with_reducible repeat' (first
    | assumption | (exact sub_of hm rfl) | apply keeps_ite | apply keeps_setChorus | apply keeps_shortPre)

theorem keeps_headerIn {w₀ : Nat} {s₀ : State} {s : State} {a1} (h : Keeps w₀ s₀ s)
    (hm : Sub 8192 w₀ := by apply sub_of; assumption; with_unfolding_all rfl) : Keeps w₀ s₀ (headerIn s a1) := by
  unfold headerIn
  with_reducible repeat' (first
    | assumption | (exact sub_of hm rfl) | apply keeps_ite | apply keeps_abandon | refine keeps_bump ?_ | apply keeps_setChorus
    | refine keeps_mk rfl rfl rfl rfl rfl rfl ?_)

theorem keeps_payloadIn {w₀ : Nat} {s₀ : State} {s : State} {a1} (h : Keeps w₀ s₀ s)
    (hm : Sub 8192 w₀ := by apply sub_of; assumption; with_unfolding_all rfl) : Keeps w₀ s₀ (payloadIn s a1) := by
  unfold payloadIn
  with_reducible repeat' (first
    | assumption | (exact sub_of hm rfl) | apply keeps_ite | apply keeps_setChorus | refine keeps_bump ?_ | split
    | refine keeps_mk rfl rfl rfl rfl rfl rfl ?_)

theorem keeps_preempt {w₀ : Nat} {s₀ : State} {s : State} {a1} (h : Keeps w₀ s₀ s)
    (hm : Sub 8192 w₀ := by apply sub_of; assumption; with_unfolding_all rfl) : Keeps w₀ s₀ (preempt s a1) := by
  unfold preempt
  with_reducible repeat' (first
    | assumption | (exact sub_of hm rfl) | apply keeps_ite | apply keeps_setChorus | refine keeps_bump ?_
    | refine keeps_mk rfl rfl rfl rfl rfl rfl ?_)

theorem keeps_showParents {w₀ : Nat} {s₀ : State} {s : State} (h : Keeps w₀ s₀ s) : Keeps w₀ s₀ (showParents s) := by
  unfold showParents
  with_reducible repeat' (first
    | assumption | apply keeps_forEach | refine keeps_wr ?_ | intro _ _ _)

theorem keeps_updatePeer {w₀ : Nat} {s₀ : State} {s : State} {a1} {a2} {a3} (h : Keeps w₀ s₀ s)
    (hm : Sub 8192 w₀ := by apply sub_of; assumption; with_unfolding_all rfl) : Keeps w₀ s₀ (updatePeer s a1 a2 a3) := by
  unfold updatePeer
  with_reducible repeat' (first
    | assumption | (exact sub_of hm rfl) | refine keeps_wr ?_ | split | refine keeps_mk rfl rfl rfl rfl rfl rfl ?_)

theorem keeps_updatePsi {w₀ : Nat} {s₀ : State} {s : State} {a1} (h : Keeps w₀ s₀ s)
    (hm : Sub 8192 w₀ := by apply sub_of; assumption; with_unfolding_all rfl) : Keeps w₀ s₀ (updatePsi s a1) := by
  unfold updatePsi
  with_reducible repeat' (first
    | assumption | (exact sub_of hm rfl) | apply keeps_ite | refine keeps_wr ?_ | refine keeps_mk rfl rfl rfl rfl rfl rfl ?_)

theorem keeps_formPair {w₀ : Nat} {s₀ : State} {s : State} {a1} {a2} (h : Keeps w₀ s₀ s)
    (hm : Sub 8396824 w₀ := by apply sub_of; assumption; with_unfolding_all rfl) : Keeps w₀ s₀ (formPair s a1 a2) := by
  unfold formPair
  with_reducible repeat' (first
    | assumption | (exact sub_of hm rfl) | apply keeps_ite | apply keeps_refreshTime | apply keeps_servoError | refine keeps_wr ?_
    | apply keeps_updatePsi | refine keeps_mk rfl rfl rfl rfl rfl rfl ?_)

theorem keeps_tryPair {w₀ : Nat} {s₀ : State} {s : State} {a1} {a2} {a3} (h : Keeps w₀ s₀ s)
    (hm : Sub 8396824 w₀ := by apply sub_of; assumption; with_unfolding_all rfl) : Keeps w₀ s₀ (tryPair s a1 a2 a3).1 := by
  unfold tryPair
  with_reducible repeat' (first
    | assumption | (exact sub_of hm rfl) | apply keeps_formPair | refine keeps_wr ?_ | split)

theorem keeps_storeResp {w₀ : Nat} {s₀ : State} {s : State} {a1} {a2} {a3} (h : Keeps w₀ s₀ s) : Keeps w₀ s₀ (storeResp s a1 a2 a3) := by
  unfold storeResp
  with_reducible repeat' (first
    | assumption | apply keeps_forEach | refine keeps_wr ?_ | intro _ _ _ | split)

theorem keeps_croakReport {w₀ : Nat} {s₀ : State} {s : State} {a1} {a2} {a3} {a4} {a5} (h : Keeps w₀ s₀ s)
    (hm : Sub 49152 w₀ := by apply sub_of; assumption; with_unfolding_all rfl) : Keeps w₀ s₀ (croakReport s a1 a2 a3 a4 a5) := by
  unfold croakReport
  with_reducible repeat' (first
    | assumption | (exact sub_of hm rfl) | apply keeps_ite | apply keeps_send)

theorem keeps_measureSelf {w₀ : Nat} {s₀ : State} {s : State} {a1} {a2} (h : Keeps w₀ s₀ s)
    (hm : Sub 25176905 w₀ := by apply sub_of; assumption; with_unfolding_all rfl) : Keeps w₀ s₀ (measureSelf s a1 a2) := by
  unfold measureSelf
  with_reducible repeat' (first
    | assumption | (exact sub_of hm rfl) | apply keeps_selfMeasured | split)

theorem keeps_measurePeer {w₀ : Nat} {s₀ : State} {s : State} {a1} {a2} (h : Keeps w₀ s₀ s)
    (hm : Sub 8396824 w₀ := by apply sub_of; assumption; with_unfolding_all rfl) : Keeps w₀ s₀ (measurePeer s a1 a2).1 := by
  unfold measurePeer
  with_reducible repeat' (first
    | assumption | (exact sub_of hm rfl) | apply keeps_tryPair | split)

theorem keeps_measureDone {w₀ : Nat} {s₀ : State} {s : State} {a1} (h : Keeps w₀ s₀ s)
    (hm : Sub 25226073 w₀ := by apply sub_of; assumption; with_unfolding_all rfl) : Keeps w₀ s₀ (measureDone s a1) := by
  unfold measureDone
  with_reducible repeat' (first
    | assumption | (exact sub_of hm rfl) | apply keeps_ite | apply keeps_setChorus | apply keeps_croakReport | apply keeps_measurePeer
    | apply keeps_updatePeer | apply keeps_storeResp | refine keeps_bump ?_ | apply keeps_measureSelf | split
    | refine keeps_mk rfl rfl rfl rfl rfl rfl ?_)

theorem keeps_chorusCommit {w₀ : Nat} {s₀ : State} {s : State} (h : Keeps w₀ s₀ s)
    (hm : Sub 8396825 w₀ := by apply sub_of; assumption; with_unfolding_all rfl) : Keeps w₀ s₀ (chorusCommit s) := by
  unfold chorusCommit
  with_reducible repeat' (first
    | assumption | (exact sub_of hm rfl) | apply keeps_ite | apply keeps_refreshTime | apply keeps_showParents | apply keeps_commitGroup
    | apply keeps_setActive | refine keeps_mk rfl rfl rfl rfl rfl rfl ?_)

theorem keeps_chorusEnWritten {w₀ : Nat} {s₀ : State} {s : State} (h : Keeps w₀ s₀ s)
    (hm : Sub 8396825 w₀ := by apply sub_of; assumption; with_unfolding_all rfl) : Keeps w₀ s₀ (chorusEnWritten s) := by
  unfold chorusEnWritten
  with_reducible repeat' (first
    | assumption | (exact sub_of hm rfl) | apply keeps_ite | apply keeps_chorusCommit | apply keeps_setChorus
    | refine keeps_mk rfl rfl rfl rfl rfl rfl ?_)

theorem keeps_chorusRestored {w₀ : Nat} {s₀ s : State} (h : Keeps w₀ s₀ s)
    (hm : Sub 8192 w₀ := by apply sub_of; assumption; with_unfolding_all rfl) : Keeps w₀ s₀ (chorusRestored s) := by
  refine keeps_build (t := s) rfl rfl rfl id id id (fun p q => by
      cases p <;> first | rfl | exact (sub_absurd hm rfl q).elim) (fun q => ?_) h
  unfold modeOf rd chorusRestored regsAt
  exact (get_clear _ _ (by decide)).trans (get_clear _ _ (by decide))

theorem keepsO_execChorusSearchOpen {w₀ : Nat} {s₀ : State} {s : State} (h : Keeps w₀ s₀ s)
    (hm : Sub 8192 w₀ := by apply sub_of; assumption; with_unfolding_all rfl) : KeepsO w₀ s₀ (execChorusSearchOpen s) := by
  unfold execChorusSearchOpen
  with_reducible repeat' (first
    | assumption | (exact sub_of hm rfl) | apply keepsO_next | apply keeps_searchOpen)

theorem keepsO_execCroakSend {w₀ : Nat} {s₀ : State} {s : State} (h : Keeps w₀ s₀ s)
    (hm : Sub 8200 w₀ := by apply sub_of; assumption; with_unfolding_all rfl) : KeepsO w₀ s₀ (execCroakSend s) := by
  unfold execCroakSend
  with_reducible repeat' (first
    | assumption | (exact sub_of hm rfl) | apply keepsO_next | apply keeps_croakSend)

theorem keepsO_execChorusGainStep {w₀ : Nat} {s₀ : State} {a0} {s : State} (h : Keeps w₀ s₀ s)
    (hm : Sub 8192 w₀ := by apply sub_of; assumption; with_unfolding_all rfl) : KeepsO w₀ s₀ (execChorusGainStep a0 s) := by
  unfold execChorusGainStep
  with_reducible repeat' (first
    | assumption | (exact sub_of hm rfl) | apply keepsO_next | apply keeps_gainStep)

theorem keepsO_execChorusDetect {w₀ : Nat} {s₀ : State} {s : State} (h : Keeps w₀ s₀ s) : KeepsO w₀ s₀ (execChorusDetect s) := by
  unfold execChorusDetect
  with_reducible repeat' (first
    | assumption | apply keepsO_next | apply keeps_ite | apply keeps_setChorus)

theorem keepsO_execChorusAgcFreeze {w₀ : Nat} {s₀ : State} {s : State} (h : Keeps w₀ s₀ s) : KeepsO w₀ s₀ (execChorusAgcFreeze s) := by
  unfold execChorusAgcFreeze
  with_reducible repeat' (first
    | assumption | apply keepsO_next | apply keeps_ite | apply keeps_setChorus)

theorem keepsO_execChorusSfd {w₀ : Nat} {s₀ : State} {a0} {s : State} (h : Keeps w₀ s₀ s)
    (hm : Sub 8192 w₀ := by apply sub_of; assumption; with_unfolding_all rfl) : KeepsO w₀ s₀ (execChorusSfd a0 s) := by
  unfold execChorusSfd
  with_reducible repeat' (first
    | assumption | (exact sub_of hm rfl) | apply keepsO_next | apply keeps_sfdFound)

theorem keepsO_execChorusSfdTimeout {w₀ : Nat} {s₀ : State} {s : State} (h : Keeps w₀ s₀ s)
    (hm : Sub 8192 w₀ := by apply sub_of; assumption; with_unfolding_all rfl) : KeepsO w₀ s₀ (execChorusSfdTimeout s) := by
  unfold execChorusSfdTimeout
  with_reducible repeat' (first
    | assumption | (exact sub_of hm rfl) | apply keepsO_next | apply keeps_ite | apply keeps_shortPre)

theorem keepsO_execChorusHeader {w₀ : Nat} {s₀ : State} {a0} {s : State} (h : Keeps w₀ s₀ s)
    (hm : Sub 8192 w₀ := by apply sub_of; assumption; with_unfolding_all rfl) : KeepsO w₀ s₀ (execChorusHeader a0 s) := by
  unfold execChorusHeader
  with_reducible repeat' (first
    | assumption | (exact sub_of hm rfl) | apply keepsO_next | apply keeps_headerIn)

theorem keepsO_execChorusPayloadEnd {w₀ : Nat} {s₀ : State} {a0} {s : State} (h : Keeps w₀ s₀ s)
    (hm : Sub 8192 w₀ := by apply sub_of; assumption; with_unfolding_all rfl) : KeepsO w₀ s₀ (execChorusPayloadEnd a0 s) := by
  unfold execChorusPayloadEnd
  with_reducible repeat' (first
    | assumption | (exact sub_of hm rfl) | apply keepsO_next | apply keeps_payloadIn)

theorem keepsO_execChorusPreempt {w₀ : Nat} {s₀ : State} {a0} {s : State} (h : Keeps w₀ s₀ s)
    (hm : Sub 8192 w₀ := by apply sub_of; assumption; with_unfolding_all rfl) : KeepsO w₀ s₀ (execChorusPreempt a0 s) := by
  unfold execChorusPreempt
  with_reducible repeat' (first
    | assumption | (exact sub_of hm rfl) | apply keepsO_next | apply keeps_preempt)

theorem keepsO_execChorusSearchClose {w₀ : Nat} {s₀ : State} {s : State} (h : Keeps w₀ s₀ s) : KeepsO w₀ s₀ (execChorusSearchClose s) := by
  unfold execChorusSearchClose
  with_reducible repeat' (first
    | assumption | apply keepsO_next | apply keeps_ite | apply keeps_setChorus)

theorem keepsO_execChorusMeasureDone {w₀ : Nat} {s₀ : State} {a0} {s : State} (h : Keeps w₀ s₀ s)
    (hm : Sub 25226073 w₀ := by apply sub_of; assumption; with_unfolding_all rfl) : KeepsO w₀ s₀ (execChorusMeasureDone a0 s) := by
  unfold execChorusMeasureDone
  with_reducible repeat' (first
    | assumption | (exact sub_of hm rfl) | apply keepsO_next | apply keeps_measureDone)

theorem keepsO_execChorusParentLost {w₀ : Nat} {s₀ : State} {s : State} (h : Keeps w₀ s₀ s)
    (hm : Sub 8388632 w₀ := by apply sub_of; assumption; with_unfolding_all rfl) : KeepsO w₀ s₀ (execChorusParentLost s) := by
  unfold execChorusParentLost
  with_reducible repeat' (first
    | assumption | (exact sub_of hm rfl) | apply keepsO_next | apply keeps_refreshTime | apply keeps_raise | refine keeps_wr ?_)

theorem keepsO_execChorusCommit {w₀ : Nat} {s₀ : State} {s : State} (h : Keeps w₀ s₀ s)
    (hm : Sub 8396825 w₀ := by apply sub_of; assumption; with_unfolding_all rfl) : KeepsO w₀ s₀ (execChorusCommit s) := by
  unfold execChorusCommit
  with_reducible repeat' (first
    | assumption | (exact sub_of hm rfl) | apply keepsO_next | apply keeps_ite | apply keeps_chorusCommit)

end Sys2Proof.Laws
end

