-- ==== Sys2Proof/Laws/KeepsNewtCtl.lean ====
section
/-! SUPPORT. What the operations of Machine/NewtCtl.lean keep, and which parts they may change (Laws/Keeps.lean). -/

set_option Elab.async false

namespace Sys2Proof.Laws

open Sys2Proof.Machine

theorem keeps_State_modNewt {w₀ : Nat} {s₀ : State} {s : State} {a1} {a2} (h : Keeps w₀ s₀ s)
    (hm : Sub 1024 w₀ := by apply sub_of; assumption; with_unfolding_all rfl) : Keeps w₀ s₀ (State.modNewt s a1 a2) := by
  unfold State.modNewt
  with_reducible repeat' (first
    | assumption | (exact sub_of hm rfl) | refine keeps_mk rfl rfl rfl rfl rfl rfl ?_)

theorem keeps_State_modCtx {w₀ : Nat} {s₀ : State} {s : State} {a1} {a2} {a3} (h : Keeps w₀ s₀ s)
    (hm : Sub 1024 w₀ := by apply sub_of; assumption; with_unfolding_all rfl) : Keeps w₀ s₀ (State.modCtx s a1 a2 a3) := by
  unfold State.modCtx
  with_reducible repeat' (first
    | assumption | (exact sub_of hm rfl) | apply keeps_State_modNewt | split)

theorem keeps_setU {w₀ : Nat} {s₀ : State} {s : State} {a1} {a2} (h : Keeps w₀ s₀ s) : Keeps w₀ s₀ (setU s a1 a2) := by
  unfold setU
  with_reducible repeat' (first
    | assumption | refine keeps_wr ?_)

theorem keeps_loadPm {w₀ : Nat} {s₀ : State} {s : State} {a1} {a2} {a3} {a4} (h : Keeps w₀ s₀ s)
    (hm : Sub 2048 w₀ := by apply sub_of; assumption; with_unfolding_all rfl) : Keeps w₀ s₀ (loadPm s a1 a2 a3 a4) := by
  unfold loadPm
  with_reducible repeat' (first
    | assumption | (exact sub_of hm rfl) | apply keeps_forEach | apply keeps_setMemWord | intro _ _ _)

theorem keeps_loadBytes {w₀ : Nat} {s₀ : State} {s : State} {a1} {a2} {a3} (h : Keeps w₀ s₀ s)
    (hm : Sub 2048 w₀ := by apply sub_of; assumption; with_unfolding_all rfl) : Keeps w₀ s₀ (loadBytes s a1 a2 a3) := by
  unfold loadBytes
  with_reducible repeat' (first
    | assumption | (exact sub_of hm rfl) | apply keeps_setMemBytes)

theorem keeps_clearView {w₀ : Nat} {s₀ : State} {s : State} {a1} (h : Keeps w₀ s₀ s)
    (hm : Sub 1024 w₀ := by apply sub_of; assumption; with_unfolding_all rfl) : Keeps w₀ s₀ (clearView s a1) := by
  unfold clearView
  with_reducible repeat' (first
    | assumption | (exact sub_of hm rfl) | apply keeps_State_modNewt)

theorem keeps_beginRun {w₀ : Nat} {s₀ : State} {s : State} {a1} (h : Keeps w₀ s₀ s)
    (hm : Sub 1024 w₀ := by apply sub_of; assumption; with_unfolding_all rfl) : Keeps w₀ s₀ (beginRun s a1) := by
  unfold beginRun
  with_reducible repeat' (first
    | assumption | (exact sub_of hm rfl) | refine keeps_bump ?_ | apply keeps_setU | apply keeps_State_modNewt | split)

theorem keeps_startKernel {w₀ : Nat} {s₀ : State} {s : State} {a1} (h : Keeps w₀ s₀ s)
    (hm : Sub 1032 w₀ := by apply sub_of; assumption; with_unfolding_all rfl) : Keeps w₀ s₀ (startKernel s a1) := by
  unfold startKernel
  with_reducible repeat' (first
    | assumption | (exact sub_of hm rfl) | apply keeps_ite | apply keeps_beginRun | refine keeps_wr ?_ | apply keeps_State_modNewt
    | apply keeps_cfgError)

theorem keeps_autoStart {w₀ : Nat} {s₀ : State} {s : State} {a1} (h : Keeps w₀ s₀ s)
    (hm : Sub 1032 w₀ := by apply sub_of; assumption; with_unfolding_all rfl) : Keeps w₀ s₀ (autoStart s a1) := by
  unfold autoStart
  with_reducible repeat' (first
    | assumption | (exact sub_of hm rfl) | apply keeps_ite | apply keeps_startKernel | apply keeps_State_modNewt)

theorem keeps_autoKernel {w₀ : Nat} {s₀ : State} {s : State} {a1} (h : Keeps w₀ s₀ s)
    (hm : Sub 1032 w₀ := by apply sub_of; assumption; with_unfolding_all rfl) : Keeps w₀ s₀ (autoKernel s a1) := by
  unfold autoKernel
  with_reducible repeat' (first
    | assumption | (exact sub_of hm rfl) | apply keeps_ite | apply keeps_startKernel | apply keeps_State_modNewt)

theorem keeps_loadKernel {w₀ : Nat} {s₀ : State} {s : State} {a1} {a2} (h : Keeps w₀ s₀ s)
    (hm : Sub 3072 w₀ := by apply sub_of; assumption; with_unfolding_all rfl) : Keeps w₀ s₀ (loadKernel s a1 a2) := by
  unfold loadKernel
  with_reducible repeat' (first
    | assumption | (exact sub_of hm rfl) | apply keeps_setU | refine keeps_wr ?_ | apply keeps_State_modNewt | apply keeps_clearView
    | apply keeps_loadBytes | apply keeps_loadPm)

theorem keeps_loadFirmware {w₀ : Nat} {s₀ : State} {s : State} {a1} {a2} (h : Keeps w₀ s₀ s)
    (hm : Sub 3072 w₀ := by apply sub_of; assumption; with_unfolding_all rfl) : Keeps w₀ s₀ (loadFirmware s a1 a2) := by
  unfold loadFirmware
  with_reducible repeat' (first
    | assumption | (exact sub_of hm rfl) | refine keeps_wr ?_ | apply keeps_State_modNewt | apply keeps_loadBytes | apply keeps_loadPm)

theorem keeps_loadCore {w₀ : Nat} {s₀ : State} {s : State} {a1} {a2} {a3} (h : Keeps w₀ s₀ s)
    (hm : Sub 3080 w₀ := by apply sub_of; assumption; with_unfolding_all rfl) : Keeps w₀ s₀ (loadCore s a1 a2 a3) := by
  unfold loadCore
  with_reducible repeat' (first
    | assumption | (exact sub_of hm rfl) | apply keeps_setU | apply keeps_clearView | apply keeps_loadFirmware | apply keeps_clearMem
    | apply keeps_State_modNewt | apply keeps_ite | apply keeps_autoStart | apply keeps_loadKernel | apply keeps_raise | refine keeps_wr ?_ | split)

theorem keeps_takeView {w₀ : Nat} {s₀ : State} {s : State} {a1} (h : Keeps w₀ s₀ s)
    (hm : Sub 1024 w₀ := by apply sub_of; assumption; with_unfolding_all rfl) : Keeps w₀ s₀ (takeView s a1) := by
  unfold takeView
  with_reducible repeat' (first
    | assumption | (exact sub_of hm rfl) | apply keeps_State_modNewt)

theorem keeps_userFault {w₀ : Nat} {s₀ : State} {s : State} {a1} {a2} (h : Keeps w₀ s₀ s)
    (hm : Sub 1032 w₀ := by apply sub_of; assumption; with_unfolding_all rfl) : Keeps w₀ s₀ (userFault s a1 a2) := by
  unfold userFault
  with_reducible repeat' (first
    | assumption | (exact sub_of hm rfl) | apply keeps_raise | apply keeps_setU | refine keeps_wr ?_ | apply keeps_takeView)

theorem keeps_userRefused {w₀ : Nat} {s₀ : State} {s : State} (h : Keeps w₀ s₀ s)
    (hm : Sub 8 w₀ := by apply sub_of; assumption; with_unfolding_all rfl) : Keeps w₀ s₀ (userRefused s) := by
  unfold userRefused
  with_reducible repeat' (first
    | assumption | (exact sub_of hm rfl) | apply keeps_raise)

theorem keeps_stopKernel {w₀ : Nat} {s₀ : State} {s : State} {a1} (h : Keeps w₀ s₀ s)
    (hm : Sub 1024 w₀ := by apply sub_of; assumption; with_unfolding_all rfl) : Keeps w₀ s₀ (stopKernel s a1) := by
  unfold stopKernel
  with_reducible repeat' (first
    | assumption | (exact sub_of hm rfl) | apply keeps_setU | apply keeps_takeView)

theorem keeps_userStart {w₀ : Nat} {s₀ : State} {s : State} {a1} (h : Keeps w₀ s₀ s)
    (hm : Sub 1032 w₀ := by apply sub_of; assumption; with_unfolding_all rfl) : Keeps w₀ s₀ (userStart s a1) := by
  unfold userStart
  with_reducible repeat' (first
    | assumption | (exact sub_of hm rfl) | apply keeps_ite | apply keeps_startKernel | apply keeps_userRefused)

theorem keeps_userStop {w₀ : Nat} {s₀ : State} {s : State} {a1} (h : Keeps w₀ s₀ s)
    (hm : Sub 1032 w₀ := by apply sub_of; assumption; with_unfolding_all rfl) : Keeps w₀ s₀ (userStop s a1) := by
  unfold userStop
  with_reducible repeat' (first
    | assumption | (exact sub_of hm rfl) | apply keeps_ite | apply keeps_userRefused | apply keeps_State_modNewt | apply keeps_stopKernel)

theorem keeps_userTrigger {w₀ : Nat} {s₀ : State} {s : State} {a1} {a2} (h : Keeps w₀ s₀ s)
    (hm : Sub 1032 w₀ := by apply sub_of; assumption; with_unfolding_all rfl) : Keeps w₀ s₀ (userTrigger s a1 a2) := by
  unfold userTrigger
  with_reducible repeat' (first
    | assumption | (exact sub_of hm rfl) | apply keeps_ite | apply keeps_beginRun | apply keeps_raiseIf | refine keeps_bump ?_)

theorem keeps_safeStopKernel {w₀ : Nat} {s₀ : State} {s : State} {a1} (h : Keeps w₀ s₀ s)
    (hm : Sub 1024 w₀ := by apply sub_of; assumption; with_unfolding_all rfl) : Keeps w₀ s₀ (safeStopKernel s a1) := by
  unfold safeStopKernel
  with_reducible repeat' (first
    | assumption | (exact sub_of hm rfl) | apply keeps_ite | apply keeps_stopKernel)

theorem keeps_enterFallback {w₀ : Nat} {s₀ : State} {s : State} (h : Keeps w₀ s₀ s)
    (hm : Sub 1032 w₀ := by apply sub_of; assumption; with_unfolding_all rfl) : Keeps w₀ s₀ (enterFallback s) := by
  unfold enterFallback
  with_reducible repeat' (first
    | assumption | (exact sub_of hm rfl) | apply keeps_ite | apply keeps_raise | apply keeps_forEach | apply keeps_setU | refine keeps_wr ?_
    | apply keeps_State_modNewt | intro _ _ _)

theorem keeps_leaveFallback {w₀ : Nat} {s₀ : State} {s : State} (h : Keeps w₀ s₀ s)
    (hm : Sub 1024 w₀ := by apply sub_of; assumption; with_unfolding_all rfl) : Keeps w₀ s₀ (leaveFallback s) := by
  unfold leaveFallback
  with_reducible repeat' (first
    | assumption | (exact sub_of hm rfl) | apply keeps_forEach | apply keeps_ite | apply keeps_setU | refine keeps_wr ?_
    | apply keeps_State_modNewt | intro _ _ _)

theorem keeps_rollLoad {w₀ : Nat} {s₀ : State} {s : State} {a1} (h : Keeps w₀ s₀ s)
    (hm : Sub 1024 w₀ := by apply sub_of; assumption; with_unfolding_all rfl) : Keeps w₀ s₀ (rollLoad s a1) := by
  unfold rollLoad
  with_reducible repeat' (first
    | assumption | (exact sub_of hm rfl) | apply keeps_ite | refine keeps_wr ?_ | apply keeps_State_modNewt)

theorem keepsO_execUserStart {w₀ : Nat} {s₀ : State} {a0} {s : State} (h : Keeps w₀ s₀ s)
    (hm : Sub 1032 w₀ := by apply sub_of; assumption; with_unfolding_all rfl) : KeepsO w₀ s₀ (execUserStart a0 s) := by
  unfold execUserStart
  with_reducible repeat' (first
    | assumption | (exact sub_of hm rfl) | apply keepsO_next | apply keeps_ite | apply keeps_userStart)

theorem keepsO_execUserStop {w₀ : Nat} {s₀ : State} {a0} {s : State} (h : Keeps w₀ s₀ s)
    (hm : Sub 1032 w₀ := by apply sub_of; assumption; with_unfolding_all rfl) : KeepsO w₀ s₀ (execUserStop a0 s) := by
  unfold execUserStop
  with_reducible repeat' (first
    | assumption | (exact sub_of hm rfl) | apply keepsO_next | apply keeps_ite | apply keeps_userStop)

theorem keepsO_execUserTrig {w₀ : Nat} {s₀ : State} {a0} {s : State} (h : Keeps w₀ s₀ s)
    (hm : Sub 1032 w₀ := by apply sub_of; assumption; with_unfolding_all rfl) : KeepsO w₀ s₀ (execUserTrig a0 s) := by
  unfold execUserTrig
  with_reducible repeat' (first
    | assumption | (exact sub_of hm rfl) | apply keepsO_next | apply keeps_userTrigger)

theorem keepsO_execUserPeriodTrigger {w₀ : Nat} {s₀ : State} {a0} {s : State} (h : Keeps w₀ s₀ s)
    (hm : Sub 1032 w₀ := by apply sub_of; assumption; with_unfolding_all rfl) : KeepsO w₀ s₀ (execUserPeriodTrigger a0 s) := by
  unfold execUserPeriodTrigger
  with_reducible repeat' (first
    | assumption | (exact sub_of hm rfl) | apply keepsO_next | apply keeps_userTrigger)

theorem keepsO_execUserWdog {w₀ : Nat} {s₀ : State} {a0} {s : State} (h : Keeps w₀ s₀ s)
    (hm : Sub 1032 w₀ := by apply sub_of; assumption; with_unfolding_all rfl) : KeepsO w₀ s₀ (execUserWdog a0 s) := by
  unfold execUserWdog
  with_reducible repeat' (first
    | assumption | (exact sub_of hm rfl) | apply keepsO_next | apply keeps_ite | apply keeps_userFault)

end Sys2Proof.Laws
end

