-- ==== Sys2Proof/Laws/KeepsLink.lean ====
section
/-! SUPPORT. What the operations of Machine/Link.lean keep, and which parts they may change (Laws/Keeps.lean). -/

set_option Elab.async false

namespace Sys2Proof.Laws

open Sys2Proof.Machine

theorem keeps_State_modPort {w₀ : Nat} {s₀ : State} {s : State} {a1} {a2} (h : Keeps w₀ s₀ s)
    (hm : Sub 16384 w₀ := by apply sub_of; assumption; with_unfolding_all rfl) : Keeps w₀ s₀ (State.modPort s a1 a2) := by
  unfold State.modPort
  with_reducible repeat' (first
    | assumption | (exact sub_of hm rfl) | refine keeps_mk rfl rfl rfl rfl rfl rfl ?_)

theorem keeps_setLane {w₀ : Nat} {s₀ : State} {s : State} {a1} {a2} {a3} (h : Keeps w₀ s₀ s) : Keeps w₀ s₀ (setLane s a1 a2 a3) := by
  unfold setLane
  with_reducible repeat' (first
    | assumption | refine keeps_wr ?_)

theorem keeps_setPort {w₀ : Nat} {s₀ : State} {s : State} {a1} {a2} (h : Keeps w₀ s₀ s) : Keeps w₀ s₀ (setPort s a1 a2) := by
  unfold setPort
  with_reducible repeat' (first
    | assumption | refine keeps_wr ?_)

theorem keeps_setGroup {w₀ : Nat} {s₀ : State} {s : State} {a1} {a2} (h : Keeps w₀ s₀ s) : Keeps w₀ s₀ (setGroup s a1 a2) := by
  unfold setGroup
  with_reducible repeat' (first
    | assumption | refine keeps_wr ?_)

theorem keeps_setUpActive {w₀ : Nat} {s₀ : State} {s : State} {a1} (h : Keeps w₀ s₀ s)
    (hm : Sub 16408 w₀ := by apply sub_of; assumption; with_unfolding_all rfl) : Keeps w₀ s₀ (setUpActive s a1) := by
  unfold setUpActive
  with_reducible repeat' (first
    | assumption | (exact sub_of hm rfl) | apply keeps_ite | refine keeps_wr ?_ | apply keeps_timeSwitch | apply keeps_raise | split
    | refine keeps_mk rfl rfl rfl rfl rfl rfl ?_)

theorem keeps_refreshUp {w₀ : Nat} {s₀ : State} {s : State} (h : Keeps w₀ s₀ s)
    (hm : Sub 16408 w₀ := by apply sub_of; assumption; with_unfolding_all rfl) : Keeps w₀ s₀ (refreshUp s) := by
  unfold refreshUp
  with_reducible repeat' (first
    | assumption | (exact sub_of hm rfl) | apply keeps_setUpActive)

theorem keeps_eyeAbort {w₀ : Nat} {s₀ : State} {s : State} {a1} {a2} (h : Keeps w₀ s₀ s)
    (hm : Sub 8388608 w₀ := by apply sub_of; assumption; with_unfolding_all rfl) : Keeps w₀ s₀ (eyeAbort s a1 a2) := by
  unfold eyeAbort
  with_reducible repeat' (first
    | assumption | (exact sub_of hm rfl) | apply keeps_ite | refine keeps_wr ?_ | apply keeps_takeFree)

theorem keeps_leaveUp {w₀ : Nat} {s₀ : State} {s : State} {a1} (h : Keeps w₀ s₀ s) : Keeps w₀ s₀ (leaveUp s a1) := by
  unfold leaveUp
  with_reducible repeat' (first
    | assumption | apply keeps_ite | refine keeps_wr ?_ | refine keeps_bump ?_)

theorem keeps_dropLane {w₀ : Nat} {s₀ : State} {s : State} {a1} {a2} {a3} (h : Keeps w₀ s₀ s)
    (hm : Sub 8388608 w₀ := by apply sub_of; assumption; with_unfolding_all rfl) : Keeps w₀ s₀ (dropLane s a1 a2 a3) := by
  unfold dropLane
  with_reducible repeat' (first
    | assumption | (exact sub_of hm rfl) | apply keeps_setLane | refine keeps_wr ?_ | apply keeps_ite | apply keeps_eyeAbort)

theorem keeps_laneBackoffs {w₀ : Nat} {s₀ : State} {s : State} {a1} (h : Keeps w₀ s₀ s)
    (hm : Sub 16384 w₀ := by apply sub_of; assumption; with_unfolding_all rfl) : Keeps w₀ s₀ (laneBackoffs s a1) := by
  unfold laneBackoffs
  with_reducible repeat' (first
    | assumption | (exact sub_of hm rfl) | apply keeps_ite | apply keeps_forEach | apply keeps_State_modPort | apply keeps_setLane | intro _ _ _)

theorem keeps_portAttempt {w₀ : Nat} {s₀ : State} {s : State} {a1} (h : Keeps w₀ s₀ s)
    (hm : Sub 8405016 w₀ := by apply sub_of; assumption; with_unfolding_all rfl) : Keeps w₀ s₀ (portAttempt s a1) := by
  unfold portAttempt
  with_reducible repeat' (first
    | assumption | (exact sub_of hm rfl) | apply keeps_refreshUp | apply keeps_setPort | apply keeps_setGroup | apply keeps_State_modPort
    | refine keeps_wr ?_ | apply keeps_forEach | apply keeps_leaveUp | apply keeps_dropLane | intro _ _ _ | split)

theorem keeps_portFresh {w₀ : Nat} {s₀ : State} {s : State} {a1} (h : Keeps w₀ s₀ s)
    (hm : Sub 8405016 w₀ := by apply sub_of; assumption; with_unfolding_all rfl) : Keeps w₀ s₀ (portFresh s a1) := by
  unfold portFresh
  with_reducible repeat' (first
    | assumption | (exact sub_of hm rfl) | apply keeps_portAttempt | apply keeps_State_modPort)

theorem keeps_portBackoff {w₀ : Nat} {s₀ : State} {s : State} {a1} (h : Keeps w₀ s₀ s)
    (hm : Sub 16408 w₀ := by apply sub_of; assumption; with_unfolding_all rfl) : Keeps w₀ s₀ (portBackoff s a1) := by
  unfold portBackoff
  with_reducible repeat' (first
    | assumption | (exact sub_of hm rfl) | apply keeps_refreshUp | apply keeps_setPort | apply keeps_setGroup | refine keeps_wr ?_
    | apply keeps_State_modPort | apply keeps_leaveUp)

theorem keeps_portDeskew {w₀ : Nat} {s₀ : State} {s : State} {a1} (h : Keeps w₀ s₀ s)
    (hm : Sub 16408 w₀ := by apply sub_of; assumption; with_unfolding_all rfl) : Keeps w₀ s₀ (portDeskew s a1) := by
  unfold portDeskew
  with_reducible repeat' (first
    | assumption | (exact sub_of hm rfl) | apply keeps_refreshUp | apply keeps_laneBackoffs | apply keeps_setPort | apply keeps_setGroup
    | apply keeps_State_modPort | apply keeps_leaveUp)

theorem keeps_portRegroup {w₀ : Nat} {s₀ : State} {s : State} {a1} (h : Keeps w₀ s₀ s)
    (hm : Sub 16408 w₀ := by apply sub_of; assumption; with_unfolding_all rfl) : Keeps w₀ s₀ (portRegroup s a1) := by
  unfold portRegroup
  with_reducible repeat' (first
    | assumption | (exact sub_of hm rfl) | apply keeps_ite | apply keeps_portBackoff | apply keeps_portDeskew)

theorem keeps_portIdle {w₀ : Nat} {s₀ : State} {s : State} {a1} {a2} (h : Keeps w₀ s₀ s)
    (hm : Sub 8405016 w₀ := by apply sub_of; assumption; with_unfolding_all rfl) : Keeps w₀ s₀ (portIdle s a1 a2) := by
  unfold portIdle
  with_reducible repeat' (first
    | assumption | (exact sub_of hm rfl) | apply keeps_refreshUp | apply keeps_setPort | apply keeps_setGroup | refine keeps_wr ?_
    | apply keeps_State_modPort | apply keeps_forEach | apply keeps_leaveUp | apply keeps_dropLane | intro _ _ _)

theorem keeps_portStart {w₀ : Nat} {s₀ : State} {s : State} {a1} (h : Keeps w₀ s₀ s)
    (hm : Sub 8405016 w₀ := by apply sub_of; assumption; with_unfolding_all rfl) : Keeps w₀ s₀ (portStart s a1) := by
  unfold portStart
  with_reducible repeat' (first
    | assumption | (exact sub_of hm rfl) | apply keeps_ite | apply keeps_portFresh)

theorem keeps_linkBringUp {w₀ : Nat} {s₀ : State} {s : State} (h : Keeps w₀ s₀ s)
    (hm : Sub 8405016 w₀ := by apply sub_of; assumption; with_unfolding_all rfl) : Keeps w₀ s₀ (linkBringUp s) := by
  unfold linkBringUp
  with_reducible repeat' (first
    | assumption | (exact sub_of hm rfl) | apply keeps_ite | apply keeps_forEach | apply keeps_portStart | intro _ _ _
    | refine keeps_mk rfl rfl rfl rfl rfl rfl ?_)

theorem keeps_portEnterUp {w₀ : Nat} {s₀ : State} {s : State} {a1} (h : Keeps w₀ s₀ s)
    (hm : Sub 16408 w₀ := by apply sub_of; assumption; with_unfolding_all rfl) : Keeps w₀ s₀ (portEnterUp s a1) := by
  unfold portEnterUp
  with_reducible repeat' (first
    | assumption | (exact sub_of hm rfl) | apply keeps_refreshUp | apply keeps_raiseIf | apply keeps_raise | apply keeps_laneBackoffs
    | apply keeps_setPort | refine keeps_wr ?_ | apply keeps_State_modPort)

theorem keeps_trainCheck {w₀ : Nat} {s₀ : State} {s : State} {a1} (h : Keeps w₀ s₀ s)
    (hm : Sub 16408 w₀ := by apply sub_of; assumption; with_unfolding_all rfl) : Keeps w₀ s₀ (trainCheck s a1) := by
  unfold trainCheck
  with_reducible repeat' (first
    | assumption | (exact sub_of hm rfl) | apply keeps_ite | refine keeps_wr ?_ | apply keeps_portDeskew)

theorem keeps_laneLeft {w₀ : Nat} {s₀ : State} {s : State} {a1} {a2} (h : Keeps w₀ s₀ s)
    (hm : Sub 16408 w₀ := by apply sub_of; assumption; with_unfolding_all rfl) : Keeps w₀ s₀ (laneLeft s a1 a2) := by
  unfold laneLeft
  with_reducible repeat' (first
    | assumption | (exact sub_of hm rfl) | apply keeps_ite | apply keeps_portRegroup | apply keeps_raise)

theorem keeps_laneLost {w₀ : Nat} {s₀ : State} {s : State} {a1} {a2} (h : Keeps w₀ s₀ s)
    (hm : Sub 8405016 w₀ := by apply sub_of; assumption; with_unfolding_all rfl) : Keeps w₀ s₀ (laneLost s a1 a2) := by
  unfold laneLost
  with_reducible repeat' (first
    | assumption | (exact sub_of hm rfl) | apply keeps_laneLeft | apply keeps_raise | apply keeps_State_modPort | refine keeps_bump ?_
    | apply keeps_dropLane)

theorem keeps_laneLos {w₀ : Nat} {s₀ : State} {s : State} {a1} {a2} (h : Keeps w₀ s₀ s)
    (hm : Sub 8405016 w₀ := by apply sub_of; assumption; with_unfolding_all rfl) : Keeps w₀ s₀ (laneLos s a1 a2) := by
  unfold laneLos
  with_reducible repeat' (first
    | assumption | (exact sub_of hm rfl) | apply keeps_ite | apply keeps_dropLane | refine keeps_bump ?_ | apply keeps_laneLost)

theorem keeps_laneFail {w₀ : Nat} {s₀ : State} {s : State} {a1} {a2} (h : Keeps w₀ s₀ s)
    (hm : Sub 8404992 w₀ := by apply sub_of; assumption; with_unfolding_all rfl) : Keeps w₀ s₀ (laneFail s a1 a2) := by
  unfold laneFail
  with_reducible repeat' (first
    | assumption | (exact sub_of hm rfl) | apply keeps_ite | apply keeps_State_modPort | apply keeps_dropLane)

theorem keeps_attemptEnd {w₀ : Nat} {s₀ : State} {s : State} {a1} (h : Keeps w₀ s₀ s)
    (hm : Sub 8405016 w₀ := by apply sub_of; assumption; with_unfolding_all rfl) : Keeps w₀ s₀ (attemptEnd s a1) := by
  unfold attemptEnd
  with_reducible repeat' (first
    | assumption | (exact sub_of hm rfl) | apply keeps_ite | apply keeps_portBackoff | apply keeps_raiseIf | refine keeps_wr ?_
    | apply keeps_forEach | apply keeps_laneFail | apply keeps_portDeskew | intro _ _ _)

theorem keeps_portRetrain {w₀ : Nat} {s₀ : State} {s : State} {a1} (h : Keeps w₀ s₀ s)
    (hm : Sub 8405016 w₀ := by apply sub_of; assumption; with_unfolding_all rfl) : Keeps w₀ s₀ (portRetrain s a1) := by
  unfold portRetrain
  with_reducible repeat' (first
    | assumption | (exact sub_of hm rfl) | apply keeps_portFresh | apply keeps_raiseIf)

theorem keeps_linkReclock {w₀ : Nat} {s₀ : State} {s : State} {a1} (h : Keeps w₀ s₀ s)
    (hm : Sub 8405016 w₀ := by apply sub_of; assumption; with_unfolding_all rfl) : Keeps w₀ s₀ (linkReclock s a1) := by
  unfold linkReclock
  with_reducible repeat' (first
    | assumption | (exact sub_of hm rfl) | apply keeps_forEach | apply keeps_raiseIf | apply keeps_ite | refine keeps_wr ?_
    | apply keeps_portRetrain | intro _ _ _ | refine keeps_mk rfl rfl rfl rfl rfl rfl ?_)

theorem keeps_linkBackup {w₀ : Nat} {s₀ : State} {s : State} (h : Keeps w₀ s₀ s)
    (hm : Sub 8405016 w₀ := by apply sub_of; assumption; with_unfolding_all rfl) : Keeps w₀ s₀ (linkBackup s) := by
  unfold linkBackup
  with_reducible repeat' (first
    | assumption | (exact sub_of hm rfl) | apply keeps_ite | apply keeps_linkReclock)

theorem keeps_linkToRef {w₀ : Nat} {s₀ : State} {s : State} (h : Keeps w₀ s₀ s)
    (hm : Sub 8405016 w₀ := by apply sub_of; assumption; with_unfolding_all rfl) : Keeps w₀ s₀ (linkToRef s) := by
  unfold linkToRef
  with_reducible repeat' (first
    | assumption | (exact sub_of hm rfl) | apply keeps_ite | apply keeps_linkReclock)

theorem keeps_linkSleep {w₀ : Nat} {s₀ : State} {s : State} (h : Keeps w₀ s₀ s)
    (hm : Sub 8405016 w₀ := by apply sub_of; assumption; with_unfolding_all rfl) : Keeps w₀ s₀ (linkSleep s) := by
  unfold linkSleep
  with_reducible repeat' (first
    | assumption | (exact sub_of hm rfl) | apply keeps_forEach | apply keeps_ite | apply keeps_portIdle | intro _ _ _)

theorem keeps_linkWake {w₀ : Nat} {s₀ : State} {s : State} (h : Keeps w₀ s₀ s)
    (hm : Sub 8405016 w₀ := by apply sub_of; assumption; with_unfolding_all rfl) : Keeps w₀ s₀ (linkWake s) := by
  unfold linkWake
  with_reducible repeat' (first
    | assumption | (exact sub_of hm rfl) | apply keeps_forEach | apply keeps_ite | apply keeps_portStart | apply keeps_setPort | intro _ _ _)

theorem keeps_applyProfile {w₀ : Nat} {s₀ : State} {s : State} {a1} (h : Keeps w₀ s₀ s)
    (hm : Sub 41959448 w₀ := by apply sub_of; assumption; with_unfolding_all rfl) : Keeps w₀ s₀ (applyProfile s a1) := by
  unfold applyProfile
  with_reducible repeat' (first
    | assumption | (exact sub_of hm rfl) | apply keeps_ite | apply keeps_forEach | refine keeps_wr ?_ | apply keeps_portStart
    | apply keeps_portIdle | apply keeps_raise | intro _ _ _)

theorem keeps_countAgree {w₀ : Nat} {s₀ : State} {s : State} {a1} (h : Keeps w₀ s₀ s)
    (hm : Sub 16384 w₀ := by apply sub_of; assumption; with_unfolding_all rfl) : Keeps w₀ s₀ (countAgree s a1) := by
  unfold countAgree
  with_reducible repeat' (first
    | assumption | (exact sub_of hm rfl) | apply keeps_State_modPort | split)

theorem keeps_deskewWord {w₀ : Nat} {s₀ : State} {s : State} {a1} {a2} {a3} (h : Keeps w₀ s₀ s)
    (hm : Sub 8405016 w₀ := by apply sub_of; assumption; with_unfolding_all rfl) : Keeps w₀ s₀ (deskewWord s a1 a2 a3) := by
  unfold deskewWord
  with_reducible repeat' (first
    | assumption | (exact sub_of hm rfl) | apply keeps_ite | apply keeps_portRegroup | apply keeps_forEach | apply keeps_dropLane
    | apply keeps_portEnterUp | apply keeps_setGroup | apply keeps_countAgree | intro _ _ _)

theorem keeps_statusIn {w₀ : Nat} {s₀ : State} {s : State} {a1} {a2} {a3} {a4} (h : Keeps w₀ s₀ s)
    (hm : Sub 8405016 w₀ := by apply sub_of; assumption; with_unfolding_all rfl) : Keeps w₀ s₀ (statusIn s a1 a2 a3 a4) := by
  unfold statusIn
  with_reducible repeat' (first
    | assumption | (exact sub_of hm rfl) | apply keeps_ite | apply keeps_trainCheck | refine keeps_wr ?_ | apply keeps_deskewWord
    | apply keeps_portRegroup | apply keeps_raise)

theorem keepsO_execLaneSigdet {w₀ : Nat} {s₀ : State} {a0} {a1} {s : State} (h : Keeps w₀ s₀ s)
    (hm : Sub 16384 w₀ := by apply sub_of; assumption; with_unfolding_all rfl) : KeepsO w₀ s₀ (execLaneSigdet a0 a1 s) := by
  unfold execLaneSigdet
  with_reducible repeat' (first
    | assumption | (exact sub_of hm rfl) | apply keepsO_next | apply keeps_ite | apply keeps_State_modPort | apply keeps_setLane)

theorem keepsO_execLaneCdrLock {w₀ : Nat} {s₀ : State} {a0} {a1} {s : State} (h : Keeps w₀ s₀ s) : KeepsO w₀ s₀ (execLaneCdrLock a0 a1 s) := by
  unfold execLaneCdrLock
  with_reducible repeat' (first
    | assumption | apply keepsO_next | apply keeps_ite | apply keeps_setLane)

theorem keepsO_execLaneEqConverged {w₀ : Nat} {s₀ : State} {a0} {a1} {a2} {a3} {a4} {a5} {s : State} (h : Keeps w₀ s₀ s) : KeepsO w₀ s₀ (execLaneEqConverged a0 a1 a2 a3 a4 a5 s) := by
  unfold execLaneEqConverged
  with_reducible repeat' (first
    | assumption | apply keepsO_next | apply keeps_ite | apply keeps_setLane | refine keeps_wr ?_)

theorem keepsO_execLaneMarkerGood {w₀ : Nat} {s₀ : State} {a0} {a1} {s : State} (h : Keeps w₀ s₀ s)
    (hm : Sub 16408 w₀ := by apply sub_of; assumption; with_unfolding_all rfl) : KeepsO w₀ s₀ (execLaneMarkerGood a0 a1 s) := by
  unfold execLaneMarkerGood
  with_reducible repeat' (first
    | assumption | (exact sub_of hm rfl) | apply keepsO_next | apply keeps_ite | apply keeps_trainCheck | apply keeps_State_modPort
    | apply keeps_setLane)

theorem keepsO_execLaneLos {w₀ : Nat} {s₀ : State} {a0} {a1} {s : State} (h : Keeps w₀ s₀ s)
    (hm : Sub 8405016 w₀ := by apply sub_of; assumption; with_unfolding_all rfl) : KeepsO w₀ s₀ (execLaneLos a0 a1 s) := by
  unfold execLaneLos
  with_reducible repeat' (first
    | assumption | (exact sub_of hm rfl) | apply keepsO_next | apply keeps_laneLos)

theorem keepsO_execLaneMarkersBad {w₀ : Nat} {s₀ : State} {a0} {a1} {s : State} (h : Keeps w₀ s₀ s)
    (hm : Sub 8405016 w₀ := by apply sub_of; assumption; with_unfolding_all rfl) : KeepsO w₀ s₀ (execLaneMarkersBad a0 a1 s) := by
  unfold execLaneMarkersBad
  with_reducible repeat' (first
    | assumption | (exact sub_of hm rfl) | apply keepsO_next | apply keeps_ite | apply keeps_laneLost | refine keeps_bump ?_)

theorem keepsO_execLaneWindowEnd {w₀ : Nat} {s₀ : State} {a0} {a1} {a2} {s : State} (h : Keeps w₀ s₀ s)
    (hm : Sub 8405016 w₀ := by apply sub_of; assumption; with_unfolding_all rfl) : KeepsO w₀ s₀ (execLaneWindowEnd a0 a1 a2 s) := by
  unfold execLaneWindowEnd
  with_reducible repeat' (first
    | assumption | (exact sub_of hm rfl) | apply keepsO_next | apply keeps_ite | apply keeps_attemptEnd | apply keeps_forEach | apply keeps_laneLos
    | apply keeps_laneBackoffs | apply keeps_laneFail | intro _ _ _ | split)

theorem keepsO_execLaneBackoffEnd {w₀ : Nat} {s₀ : State} {a0} {a1} {s : State} (h : Keeps w₀ s₀ s)
    (hm : Sub 16384 w₀ := by apply sub_of; assumption; with_unfolding_all rfl) : KeepsO w₀ s₀ (execLaneBackoffEnd a0 a1 s) := by
  unfold execLaneBackoffEnd
  with_reducible repeat' (first
    | assumption | (exact sub_of hm rfl) | apply keepsO_next | apply keeps_ite | apply keeps_State_modPort | apply keeps_setLane)

theorem keepsO_execStatusWord {w₀ : Nat} {s₀ : State} {a0} {a1} {a2} {a3} {s : State} (h : Keeps w₀ s₀ s)
    (hm : Sub 8405016 w₀ := by apply sub_of; assumption; with_unfolding_all rfl) : KeepsO w₀ s₀ (execStatusWord a0 a1 a2 a3 s) := by
  unfold execStatusWord
  with_reducible repeat' (first
    | assumption | (exact sub_of hm rfl) | apply keepsO_next | apply keeps_ite | apply keeps_statusIn)

theorem keepsO_execStatusWordDue {w₀ : Nat} {s₀ : State} {a0} {s : State} (h : Keeps w₀ s₀ s)
    (hm : Sub 16384 w₀ := by apply sub_of; assumption; with_unfolding_all rfl) : KeepsO w₀ s₀ (execStatusWordDue a0 s) := by
  unfold execStatusWordDue
  with_reducible repeat' (first
    | assumption | (exact sub_of hm rfl) | apply keepsO_next | apply keeps_ite | refine keeps_mk rfl rfl rfl rfl rfl rfl ?_)

theorem keepsO_execPortDeskewTimeout {w₀ : Nat} {s₀ : State} {a0} {s : State} (h : Keeps w₀ s₀ s)
    (hm : Sub 16408 w₀ := by apply sub_of; assumption; with_unfolding_all rfl) : KeepsO w₀ s₀ (execPortDeskewTimeout a0 s) := by
  unfold execPortDeskewTimeout
  with_reducible repeat' (first
    | assumption | (exact sub_of hm rfl) | apply keepsO_next | apply keeps_ite | apply keeps_portBackoff)

theorem keepsO_execPortWiden {w₀ : Nat} {s₀ : State} {a0} {s : State} (h : Keeps w₀ s₀ s)
    (hm : Sub 16408 w₀ := by apply sub_of; assumption; with_unfolding_all rfl) : KeepsO w₀ s₀ (execPortWiden a0 s) := by
  unfold execPortWiden
  with_reducible repeat' (first
    | assumption | (exact sub_of hm rfl) | apply keepsO_next | apply keeps_ite | apply keeps_portDeskew | apply keeps_raise)

theorem keepsO_execRetrain {w₀ : Nat} {s₀ : State} {a0} {s : State} (h : Keeps w₀ s₀ s)
    (hm : Sub 8405016 w₀ := by apply sub_of; assumption; with_unfolding_all rfl) : KeepsO w₀ s₀ (execRetrain a0 s) := by
  unfold execRetrain
  with_reducible repeat' (first
    | assumption | (exact sub_of hm rfl) | apply keepsO_next | apply keeps_ite | apply keeps_portRetrain)

theorem keepsO_execPortBackoffEnd {w₀ : Nat} {s₀ : State} {a0} {s : State} (h : Keeps w₀ s₀ s)
    (hm : Sub 8405016 w₀ := by apply sub_of; assumption; with_unfolding_all rfl) : KeepsO w₀ s₀ (execPortBackoffEnd a0 s) := by
  unfold execPortBackoffEnd
  with_reducible repeat' (first
    | assumption | (exact sub_of hm rfl) | apply keepsO_next | apply keeps_ite | apply keeps_portAttempt)

theorem keeps_portEnable {w₀ : Nat} {s₀ : State} {s : State} {a1} {a2} (h : Keeps w₀ s₀ s)
    (hm : Sub 8405016 w₀ := by apply sub_of; assumption; with_unfolding_all rfl) : Keeps w₀ s₀ (portEnable s a1 a2) := by
  unfold portEnable
  with_reducible repeat' (first
    | assumption | (exact sub_of hm rfl) | apply keeps_ite | apply keeps_portStart | refine keeps_wr ?_ | apply keeps_portIdle)

theorem keepsO_execPortEnable {w₀ : Nat} {s₀ : State} {a0} {a1} {s : State} (h : Keeps w₀ s₀ s)
    (hm : Sub 8405016 w₀ := by apply sub_of; assumption; with_unfolding_all rfl) : KeepsO w₀ s₀ (execPortEnable a0 a1 s) := by
  unfold execPortEnable
  with_reducible repeat' (first
    | assumption | (exact sub_of hm rfl) | apply keepsO_next | apply keeps_portEnable)

theorem keeps_eyeStart {w₀ : Nat} {s₀ : State} {s : State} {a1} (h : Keeps w₀ s₀ s)
    (hm : Sub 16384 w₀ := by apply sub_of; assumption; with_unfolding_all rfl) : Keeps w₀ s₀ (eyeStart s a1) := by
  unfold eyeStart
  with_reducible repeat' (first
    | assumption | (exact sub_of hm rfl) | apply keeps_ite | refine keeps_wr ?_ | apply keeps_State_modPort)

theorem keepsO_execEyeScan {w₀ : Nat} {s₀ : State} {a0} {a1} {s : State} (h : Keeps w₀ s₀ s)
    (hm : Sub 16384 w₀ := by apply sub_of; assumption; with_unfolding_all rfl) : KeepsO w₀ s₀ (execEyeScan a0 a1 s) := by
  unfold execEyeScan
  with_reducible repeat' (first
    | assumption | (exact sub_of hm rfl) | apply keepsO_next | apply keeps_ite | apply keeps_eyeStart | refine keeps_wrIf ?_ | refine keeps_wr ?_)

theorem keepsO_execEyeDone {w₀ : Nat} {s₀ : State} {a0} {a1} {a2} {a3} {a4} {a5} {s : State} (h : Keeps w₀ s₀ s)
    (hm : Sub 8 w₀ := by apply sub_of; assumption; with_unfolding_all rfl) : KeepsO w₀ s₀ (execEyeDone a0 a1 a2 a3 a4 a5 s) := by
  unfold execEyeDone
  with_reducible repeat' (first
    | assumption | (exact sub_of hm rfl) | apply keepsO_next | apply keeps_ite | apply keeps_raise | refine keeps_wr ?_)

theorem keepsO_execUpstreamRevert {w₀ : Nat} {s₀ : State} {s : State} (h : Keeps w₀ s₀ s)
    (hm : Sub 16408 w₀ := by apply sub_of; assumption; with_unfolding_all rfl) : KeepsO w₀ s₀ (execUpstreamRevert s) := by
  unfold execUpstreamRevert
  with_reducible repeat' (first
    | assumption | (exact sub_of hm rfl) | apply keepsO_next | apply keeps_ite | apply keeps_setUpActive)

theorem keepsO_execUploss {w₀ : Nat} {s₀ : State} {s : State} (h : Keeps w₀ s₀ s)
    (hm : Sub 16392 w₀ := by apply sub_of; assumption; with_unfolding_all rfl) : KeepsO w₀ s₀ (execUploss s) := by
  unfold execUploss
  with_reducible repeat' (first
    | assumption | (exact sub_of hm rfl) | apply keepsO_next | apply keeps_ite | apply keeps_raise | refine keeps_mk rfl rfl rfl rfl rfl rfl ?_)

end Sys2Proof.Laws
end

