-- ==== Sys2Proof/Laws/KeepsCap.lean ====
section
/-! SUPPORT. What the operations of Machine/Cap.lean keep, and which parts they may change (Laws/Keeps.lean). -/

set_option Elab.async false

namespace Sys2Proof.Laws

open Sys2Proof.Machine

theorem keeps_State_modCap {w₀ : Nat} {s₀ : State} {s : State} {a1} {a2} (h : Keeps w₀ s₀ s)
    (hm : Sub 65536 w₀ := by apply sub_of; assumption; with_unfolding_all rfl) : Keeps w₀ s₀ (State.modCap s a1 a2) := by
  unfold State.modCap
  with_reducible repeat' (first
    | assumption | (exact sub_of hm rfl) | refine keeps_mk rfl rfl rfl rfl rfl rfl ?_)

theorem keeps_showBw {w₀ : Nat} {s₀ : State} {s : State} (h : Keeps w₀ s₀ s) : Keeps w₀ s₀ (showBw s) := by
  unfold showBw
  with_reducible repeat' (first
    | assumption | refine keeps_wr ?_)

theorem keeps_setCap {w₀ : Nat} {s₀ : State} {s : State} {a1} {a2} (h : Keeps w₀ s₀ s)
    (hm : Sub 65536 w₀ := by apply sub_of; assumption; with_unfolding_all rfl) : Keeps w₀ s₀ (setCap s a1 a2) := by
  unfold setCap
  with_reducible repeat' (first
    | assumption | (exact sub_of hm rfl) | apply keeps_ite | apply keeps_showBw | apply keeps_State_modCap | refine keeps_wr ?_)

theorem keeps_capArm {w₀ : Nat} {s₀ : State} {s : State} {a1} {a2} (h : Keeps w₀ s₀ s)
    (hm : Sub 65545 w₀ := by apply sub_of; assumption; with_unfolding_all rfl) : Keeps w₀ s₀ (capArm s a1 a2) := by
  unfold capArm
  with_reducible repeat' (first
    | assumption | (exact sub_of hm rfl) | apply keeps_raise | apply keeps_ite | apply keeps_refuseCommit | refine keeps_wr ?_ | apply keeps_showBw
    | apply keeps_setCap | apply keeps_State_modCap | apply keeps_commitGroup | split)

theorem keeps_redOuts {w₀ : Nat} {s₀ : State} {s : State} {a1} {a2} (h : Keeps w₀ s₀ s)
    (hm : Sub 8388608 w₀ := by apply sub_of; assumption; with_unfolding_all rfl) : Keeps w₀ s₀ (redOuts s a1 a2).2 := by
  unfold redOuts
  with_reducible repeat' (first
    | assumption | (exact sub_of hm rfl) | apply keeps_foldl_snd | apply keeps_ite_snd | apply keeps_takeFree | intro _ _ _ | split)

theorem keeps_closeSeg {w₀ : Nat} {s₀ : State} {s : State} {a1} {a2} {a3} {a4} (h : Keeps w₀ s₀ s)
    (hm : Sub 8456192 w₀ := by apply sub_of; assumption; with_unfolding_all rfl) : Keeps w₀ s₀ (closeSeg s a1 a2 a3 a4) := by
  unfold closeSeg
  with_reducible repeat' (first
    | assumption | (exact sub_of hm rfl) | refine keeps_wr ?_ | apply keeps_State_modCap | apply keeps_setMemBytes | apply keeps_ite
    | apply keeps_redOuts)

theorem keeps_writeMark {w₀ : Nat} {s₀ : State} {s : State} {a1} {a2} {a3} {a4} {a5} {a6} {a7} (h : Keeps w₀ s₀ s)
    (hm : Sub 67584 w₀ := by apply sub_of; assumption; with_unfolding_all rfl) : Keeps w₀ s₀ (writeMark s a1 a2 a3 a4 a5 a6 a7) := by
  unfold writeMark
  with_reducible repeat' (first
    | assumption | (exact sub_of hm rfl) | apply keeps_ite | apply keeps_State_modCap | apply keeps_setMemBytes)

theorem keeps_streamBytes {w₀ : Nat} {s₀ : State} {base room : Nat} (l : List Nat) {s : State} {k : Nat} (h : Keeps w₀ s₀ s)
    (hm : Sub 2048 w₀ := by apply sub_of; assumption; with_unfolding_all rfl) :
    Keeps w₀ s₀ (streamBytes s base room k l) := by
  induction l generalizing s k with
  | nil => exact h
  | cons b r ih =>
    unfold streamBytes
    exact ih (keeps_setMemByte h)

theorem keeps_storeSamples {w₀ : Nat} {s₀ : State} {s : State} {a1} {a2} (h : Keeps w₀ s₀ s)
    (hm : Sub 67584 w₀ := by apply sub_of; assumption; with_unfolding_all rfl) : Keeps w₀ s₀ (storeSamples s a1 a2) := by
  unfold storeSamples
  with_reducible repeat' (first
    | assumption | (exact sub_of hm rfl) | apply keeps_ite | refine keeps_wr ?_ | apply keeps_State_modCap | apply keeps_streamBytes)

theorem keeps_missTrigger {w₀ : Nat} {s₀ : State} {s : State} {a1} (h : Keeps w₀ s₀ s)
    (hm : Sub 65536 w₀ := by apply sub_of; assumption; with_unfolding_all rfl) : Keeps w₀ s₀ (missTrigger s a1) := by
  unfold missTrigger
  with_reducible repeat' (first
    | assumption | (exact sub_of hm rfl) | refine keeps_bump ?_ | apply keeps_State_modCap)

theorem keeps_rearmCheck {w₀ : Nat} {s₀ : State} {s : State} {a1} (h : Keeps w₀ s₀ s)
    (hm : Sub 65536 w₀ := by apply sub_of; assumption; with_unfolding_all rfl) : Keeps w₀ s₀ (rearmCheck s a1) := by
  unfold rearmCheck
  with_reducible repeat' (first
    | assumption | (exact sub_of hm rfl) | apply keeps_ite | apply keeps_setCap)

theorem keeps_startHold {w₀ : Nat} {s₀ : State} {s : State} {a1} (h : Keeps w₀ s₀ s)
    (hm : Sub 65536 w₀ := by apply sub_of; assumption; with_unfolding_all rfl) : Keeps w₀ s₀ (startHold s a1) := by
  unfold startHold
  with_reducible repeat' (first
    | assumption | (exact sub_of hm rfl) | apply keeps_State_modCap | split)

theorem keeps_openSeg {w₀ : Nat} {s₀ : State} {s : State} {a1} {a2} {a3} {a4} {a5} {a6} (h : Keeps w₀ s₀ s)
    (hm : Sub 65536 w₀ := by apply sub_of; assumption; with_unfolding_all rfl) : Keeps w₀ s₀ (openSeg s a1 a2 a3 a4 a5 a6) := by
  unfold openSeg
  with_reducible repeat' (first
    | assumption | (exact sub_of hm rfl) | apply keeps_setCap | apply keeps_startHold | apply keeps_State_modCap | split)

theorem keeps_trigAt {w₀ : Nat} {s₀ : State} {s : State} {a1} {a2} {a3} {a4} (h : Keeps w₀ s₀ s)
    (hm : Sub 67584 w₀ := by apply sub_of; assumption; with_unfolding_all rfl) : Keeps w₀ s₀ (trigAt s a1 a2 a3 a4) := by
  unfold trigAt
  with_reducible repeat' (first
    | assumption | (exact sub_of hm rfl) | apply keeps_ite | apply keeps_openSeg | apply keeps_missTrigger | apply keeps_startHold
    | apply keeps_writeMark | apply keeps_State_modCap | apply keeps_rearmCheck | split)

theorem keeps_afterSeg {w₀ : Nat} {s₀ : State} {s : State} {a1} (h : Keeps w₀ s₀ s)
    (hm : Sub 65544 w₀ := by apply sub_of; assumption; with_unfolding_all rfl) : Keeps w₀ s₀ (afterSeg s a1) := by
  unfold afterSeg
  with_reducible repeat' (first
    | assumption | (exact sub_of hm rfl) | apply keeps_ite | apply keeps_raise | apply keeps_setCap)

theorem keeps_capStopCh {w₀ : Nat} {s₀ : State} {s : State} {a1} (h : Keeps w₀ s₀ s)
    (hm : Sub 8456200 w₀ := by apply sub_of; assumption; with_unfolding_all rfl) : Keeps w₀ s₀ (capStopCh s a1) := by
  unfold capStopCh
  with_reducible repeat' (first
    | assumption | (exact sub_of hm rfl) | apply keeps_ite | apply keeps_raise | apply keeps_setCap | refine keeps_wr ?_ | apply keeps_writeMark
    | apply keeps_closeSeg | split)

theorem keeps_capStopAll {w₀ : Nat} {s₀ : State} {s : State} {a1} (h : Keeps w₀ s₀ s)
    (hm : Sub 8456200 w₀ := by apply sub_of; assumption; with_unfolding_all rfl) : Keeps w₀ s₀ (capStopAll s a1) := by
  unfold capStopAll
  with_reducible repeat' (first
    | assumption | (exact sub_of hm rfl) | apply keeps_forEach | apply keeps_ite | apply keeps_capStopCh | intro _ _ _)

theorem keeps_capStageStop {w₀ : Nat} {s₀ : State} {s : State} (h : Keeps w₀ s₀ s)
    (hm : Sub 8456200 w₀ := by apply sub_of; assumption; with_unfolding_all rfl) : Keeps w₀ s₀ (capStageStop s) := by
  unfold capStageStop
  with_reducible repeat' (first
    | assumption | (exact sub_of hm rfl) | apply keeps_capStopAll)

theorem keeps_capLeaveDiag {w₀ : Nat} {s₀ : State} {s : State} (h : Keeps w₀ s₀ s)
    (hm : Sub 8456200 w₀ := by apply sub_of; assumption; with_unfolding_all rfl) : Keeps w₀ s₀ (capLeaveDiag s) := by
  unfold capLeaveDiag
  with_reducible repeat' (first
    | assumption | (exact sub_of hm rfl) | apply keeps_capStopAll)

theorem keeps_capSkewLost {w₀ : Nat} {s₀ : State} {s : State} (h : Keeps w₀ s₀ s)
    (hm : Sub 8 w₀ := by apply sub_of; assumption; with_unfolding_all rfl) : Keeps w₀ s₀ (capSkewLost s) := by
  unfold capSkewLost
  with_reducible repeat' (first
    | assumption | (exact sub_of hm rfl) | apply keeps_ite | apply keeps_raise | refine keeps_wr ?_)

theorem keepsO_execCapArm {w₀ : Nat} {s₀ : State} {a0} {a1} {s : State} (h : Keeps w₀ s₀ s)
    (hm : Sub 65545 w₀ := by apply sub_of; assumption; with_unfolding_all rfl) : KeepsO w₀ s₀ (execCapArm a0 a1 s) := by
  unfold execCapArm
  with_reducible repeat' (first
    | assumption | (exact sub_of hm rfl) | apply keepsO_next | apply keeps_capArm)

theorem keepsO_execCapStop {w₀ : Nat} {s₀ : State} {a0} {a1} {s : State} (h : Keeps w₀ s₀ s)
    (hm : Sub 8456200 w₀ := by apply sub_of; assumption; with_unfolding_all rfl) : KeepsO w₀ s₀ (execCapStop a0 a1 s) := by
  unfold execCapStop
  with_reducible repeat' (first
    | assumption | (exact sub_of hm rfl) | apply keepsO_next | apply keeps_capStopCh | apply keeps_storeSamples)

theorem keepsO_execCapForce {w₀ : Nat} {s₀ : State} {a0} {a1} {a2} {s : State} (h : Keeps w₀ s₀ s)
    (hm : Sub 67584 w₀ := by apply sub_of; assumption; with_unfolding_all rfl) : KeepsO w₀ s₀ (execCapForce a0 a1 a2 s) := by
  unfold execCapForce
  with_reducible repeat' (first
    | assumption | (exact sub_of hm rfl) | apply keepsO_next | apply keeps_trigAt | apply keeps_storeSamples)

theorem keepsO_execCapTrigger {w₀ : Nat} {s₀ : State} {a0} {a1} {a2} {a3} {s : State} (h : Keeps w₀ s₀ s)
    (hm : Sub 67584 w₀ := by apply sub_of; assumption; with_unfolding_all rfl) : KeepsO w₀ s₀ (execCapTrigger a0 a1 a2 a3 s) := by
  unfold execCapTrigger
  with_reducible repeat' (first
    | assumption | (exact sub_of hm rfl) | apply keepsO_next | apply keeps_ite | apply keeps_trigAt | apply keeps_storeSamples)

theorem keepsO_execCapSegmentDone {w₀ : Nat} {s₀ : State} {a0} {a1} {s : State} (h : Keeps w₀ s₀ s)
    (hm : Sub 8456200 w₀ := by apply sub_of; assumption; with_unfolding_all rfl) : KeepsO w₀ s₀ (execCapSegmentDone a0 a1 s) := by
  unfold execCapSegmentDone
  with_reducible repeat' (first
    | assumption | (exact sub_of hm rfl) | apply keepsO_next | apply keeps_afterSeg | apply keeps_closeSeg | apply keeps_storeSamples | split)

theorem keepsO_execCapRearm {w₀ : Nat} {s₀ : State} {a0} {s : State} (h : Keeps w₀ s₀ s)
    (hm : Sub 65536 w₀ := by apply sub_of; assumption; with_unfolding_all rfl) : KeepsO w₀ s₀ (execCapRearm a0 s) := by
  unfold execCapRearm
  with_reducible repeat' (first
    | assumption | (exact sub_of hm rfl) | apply keepsO_next | apply keeps_ite | apply keeps_rearmCheck | apply keeps_State_modCap)

theorem keepsO_execCapHoldEnd {w₀ : Nat} {s₀ : State} {a0} {s : State} (h : Keeps w₀ s₀ s)
    (hm : Sub 65536 w₀ := by apply sub_of; assumption; with_unfolding_all rfl) : KeepsO w₀ s₀ (execCapHoldEnd a0 s) := by
  unfold execCapHoldEnd
  with_reducible repeat' (first
    | assumption | (exact sub_of hm rfl) | apply keepsO_next | apply keeps_rearmCheck | apply keeps_State_modCap)

theorem keepsO_execCapAutoTimeout {w₀ : Nat} {s₀ : State} {a0} {a1} {s : State} (h : Keeps w₀ s₀ s)
    (hm : Sub 65536 w₀ := by apply sub_of; assumption; with_unfolding_all rfl) : KeepsO w₀ s₀ (execCapAutoTimeout a0 a1 s) := by
  unfold execCapAutoTimeout
  with_reducible repeat' (first
    | assumption | (exact sub_of hm rfl) | apply keepsO_next | apply keeps_ite | apply keeps_openSeg)

theorem keepsO_execCapBufferFull {w₀ : Nat} {s₀ : State} {a0} {a1} {s : State} (h : Keeps w₀ s₀ s)
    (hm : Sub 67584 w₀ := by apply sub_of; assumption; with_unfolding_all rfl) : KeepsO w₀ s₀ (execCapBufferFull a0 a1 s) := by
  unfold execCapBufferFull
  with_reducible repeat' (first
    | assumption | (exact sub_of hm rfl) | apply keepsO_next | apply keeps_ite | apply keeps_setCap | apply keeps_writeMark
    | apply keeps_storeSamples)

theorem keepsO_execCapTrunc {w₀ : Nat} {s₀ : State} {a0} {a1} {a2} {s : State} (h : Keeps w₀ s₀ s)
    (hm : Sub 8456200 w₀ := by apply sub_of; assumption; with_unfolding_all rfl) : KeepsO w₀ s₀ (execCapTrunc a0 a1 a2 s) := by
  unfold execCapTrunc
  with_reducible repeat' (first
    | assumption | (exact sub_of hm rfl) | apply keepsO_next | apply keeps_afterSeg | apply keeps_raise | refine keeps_bump ?_ | refine keeps_wr ?_
    | apply keeps_closeSeg | apply keeps_storeSamples | apply keeps_ite | apply keeps_writeMark | split)

theorem keepsO_execSkewGo {w₀ : Nat} {s₀ : State} {s : State} (h : Keeps w₀ s₀ s) : KeepsO w₀ s₀ (execSkewGo s) := by
  unfold execSkewGo
  with_reducible repeat' (first
    | assumption | apply keepsO_next | apply keeps_ite | refine keeps_wr ?_)

theorem keepsO_execSkewDone {w₀ : Nat} {s₀ : State} {a0} {s : State} (h : Keeps w₀ s₀ s) : KeepsO w₀ s₀ (execSkewDone a0 s) := by
  unfold execSkewDone
  with_reducible repeat' (first
    | assumption | apply keepsO_next | apply keeps_ite | refine keeps_wr ?_ | apply keeps_forEach | intro _ _ _)

end Sys2Proof.Laws
end

