-- ==== Sys2Proof/Laws/KeepsDma.lean ====
section
/-! SUPPORT. What the operations of Machine/Dma.lean keep, and which parts they may change (Laws/Keeps.lean). -/

set_option Elab.async false

namespace Sys2Proof.Laws

open Sys2Proof.Machine

theorem keeps_State_modDma {w₀ : Nat} {s₀ : State} {s : State} {a1} {a2} (h : Keeps w₀ s₀ s)
    (hm : Sub 131072 w₀ := by apply sub_of; assumption; with_unfolding_all rfl) : Keeps w₀ s₀ (State.modDma s a1 a2) := by
  unfold State.modDma
  with_reducible repeat' (first
    | assumption | (exact sub_of hm rfl) | refine keeps_mk rfl rfl rfl rfl rfl rfl ?_)

theorem keeps_setDma {w₀ : Nat} {s₀ : State} {s : State} {a1} {a2} (h : Keeps w₀ s₀ s) : Keeps w₀ s₀ (setDma s a1 a2) := by
  unfold setDma
  with_reducible repeat' (first
    | assumption | refine keeps_wr ?_)

theorem keeps_setCur {w₀ : Nat} {s₀ : State} {s : State} {a1} {a2} (h : Keeps w₀ s₀ s) : Keeps w₀ s₀ (setCur s a1 a2) := by
  unfold setCur
  with_reducible repeat' (first
    | assumption | refine keeps_wr ?_)

theorem keeps_enterRun {w₀ : Nat} {s₀ : State} {s : State} {a1} (h : Keeps w₀ s₀ s)
    (hm : Sub 131072 w₀ := by apply sub_of; assumption; with_unfolding_all rfl) : Keeps w₀ s₀ (enterRun s a1) := by
  unfold enterRun
  with_reducible repeat' (first
    | assumption | (exact sub_of hm rfl) | apply keeps_State_modDma | apply keeps_setDma)

theorem keeps_dmaStart {w₀ : Nat} {s₀ : State} {s : State} {a1} {a2} (h : Keeps w₀ s₀ s)
    (hm : Sub 131081 w₀ := by apply sub_of; assumption; with_unfolding_all rfl) : Keeps w₀ s₀ (dmaStart s a1 a2) := by
  unfold dmaStart
  with_reducible repeat' (first
    | assumption | (exact sub_of hm rfl) | apply keeps_ite | apply keeps_enterRun | apply keeps_State_modDma | refine keeps_wr ?_
    | apply keeps_commitGroup | apply keeps_setCur | apply keeps_refuseCommit)

theorem keeps_dmaPause {w₀ : Nat} {s₀ : State} {s : State} {a1} {a2} (h : Keeps w₀ s₀ s)
    (hm : Sub 131072 w₀ := by apply sub_of; assumption; with_unfolding_all rfl) : Keeps w₀ s₀ (dmaPause s a1 a2) := by
  unfold dmaPause
  with_reducible repeat' (first
    | assumption | (exact sub_of hm rfl) | apply keeps_ite | apply keeps_State_modDma | refine keeps_wr ?_ | apply keeps_enterRun)

theorem keeps_dmaAbort {w₀ : Nat} {s₀ : State} {s : State} {a1} (h : Keeps w₀ s₀ s)
    (hm : Sub 131072 w₀ := by apply sub_of; assumption; with_unfolding_all rfl) : Keeps w₀ s₀ (dmaAbort s a1) := by
  unfold dmaAbort
  with_reducible repeat' (first
    | assumption | (exact sub_of hm rfl) | apply keeps_ite | apply keeps_setDma | apply keeps_State_modDma)

theorem keeps_dmaDoorbell {w₀ : Nat} {s₀ : State} {s : State} {a1} (h : Keeps w₀ s₀ s)
    (hm : Sub 131072 w₀ := by apply sub_of; assumption; with_unfolding_all rfl) : Keeps w₀ s₀ (dmaDoorbell s a1) := by
  unfold dmaDoorbell
  with_reducible repeat' (first
    | assumption | (exact sub_of hm rfl) | apply keeps_ite | apply keeps_State_modDma)

theorem keeps_dmaHalt {w₀ : Nat} {s₀ : State} {s : State} {a1} {a2} (h : Keeps w₀ s₀ s)
    (hm : Sub 131080 w₀ := by apply sub_of; assumption; with_unfolding_all rfl) : Keeps w₀ s₀ (dmaHalt s a1 a2) := by
  unfold dmaHalt
  with_reducible repeat' (first
    | assumption | (exact sub_of hm rfl) | apply keeps_raise | apply keeps_setDma | apply keeps_State_modDma | refine keeps_wr ?_)

theorem keeps_dmaDomainDown {w₀ : Nat} {s₀ : State} {s : State} {a1} (h : Keeps w₀ s₀ s)
    (hm : Sub 131080 w₀ := by apply sub_of; assumption; with_unfolding_all rfl) : Keeps w₀ s₀ (dmaDomainDown s a1) := by
  unfold dmaDomainDown
  with_reducible repeat' (first
    | assumption | (exact sub_of hm rfl) | apply keeps_forEach | apply keeps_ite | apply keeps_raise | refine keeps_wr ?_
    | apply keeps_State_modDma | intro _ _ _)

theorem keeps_dmaDomainUp {w₀ : Nat} {s₀ : State} {s : State} {a1} (h : Keeps w₀ s₀ s)
    (hm : Sub 131072 w₀ := by apply sub_of; assumption; with_unfolding_all rfl) : Keeps w₀ s₀ (dmaDomainUp s a1) := by
  unfold dmaDomainUp
  with_reducible repeat' (first
    | assumption | (exact sub_of hm rfl) | apply keeps_forEach | apply keeps_ite | apply keeps_enterRun | apply keeps_State_modDma | intro _ _ _)

theorem keepsO_execDmaStart {w₀ : Nat} {s₀ : State} {a0} {a1} {s : State} (h : Keeps w₀ s₀ s)
    (hm : Sub 131081 w₀ := by apply sub_of; assumption; with_unfolding_all rfl) : KeepsO w₀ s₀ (execDmaStart a0 a1 s) := by
  unfold execDmaStart
  with_reducible repeat' (first
    | assumption | (exact sub_of hm rfl) | apply keepsO_next | apply keeps_dmaStart)

theorem keepsO_execDmaPause {w₀ : Nat} {s₀ : State} {a0} {a1} {s : State} (h : Keeps w₀ s₀ s)
    (hm : Sub 131072 w₀ := by apply sub_of; assumption; with_unfolding_all rfl) : KeepsO w₀ s₀ (execDmaPause a0 a1 s) := by
  unfold execDmaPause
  with_reducible repeat' (first
    | assumption | (exact sub_of hm rfl) | apply keepsO_next | apply keeps_dmaPause)

theorem keepsO_execDmaAbort {w₀ : Nat} {s₀ : State} {a0} {s : State} (h : Keeps w₀ s₀ s)
    (hm : Sub 131072 w₀ := by apply sub_of; assumption; with_unfolding_all rfl) : KeepsO w₀ s₀ (execDmaAbort a0 s) := by
  unfold execDmaAbort
  with_reducible repeat' (first
    | assumption | (exact sub_of hm rfl) | apply keepsO_next | apply keeps_dmaAbort)

theorem keepsO_execDoorbell {w₀ : Nat} {s₀ : State} {a0} {s : State} (h : Keeps w₀ s₀ s)
    (hm : Sub 131072 w₀ := by apply sub_of; assumption; with_unfolding_all rfl) : KeepsO w₀ s₀ (execDoorbell a0 s) := by
  unfold execDoorbell
  with_reducible repeat' (first
    | assumption | (exact sub_of hm rfl) | apply keepsO_next | apply keeps_dmaDoorbell)

theorem keepsO_execDmaWakeTimeout {w₀ : Nat} {s₀ : State} {a0} {s : State} (h : Keeps w₀ s₀ s)
    (hm : Sub 131080 w₀ := by apply sub_of; assumption; with_unfolding_all rfl) : KeepsO w₀ s₀ (execDmaWakeTimeout a0 s) := by
  unfold execDmaWakeTimeout
  with_reducible repeat' (first
    | assumption | (exact sub_of hm rfl) | apply keepsO_next | apply keeps_ite | apply keeps_dmaHalt)

end Sys2Proof.Laws
end

