-- ==== Sys2Proof/Laws/KeepsHk.lean ====
section
/-! SUPPORT. What the operations of Machine/Hk.lean keep, and which parts they may change (Laws/Keeps.lean). -/

set_option Elab.async false

namespace Sys2Proof.Laws

open Sys2Proof.Machine

theorem keeps_State_modConv {w₀ : Nat} {s₀ : State} {s : State} {a1} {a2} (h : Keeps w₀ s₀ s)
    (hm : Sub 262144 w₀ := by apply sub_of; assumption; with_unfolding_all rfl) : Keeps w₀ s₀ (State.modConv s a1 a2) := by
  unfold State.modConv
  with_reducible repeat' (first
    | assumption | (exact sub_of hm rfl) | refine keeps_mk rfl rfl rfl rfl rfl rfl ?_)

theorem keeps_State_modBias {w₀ : Nat} {s₀ : State} {s : State} {a1} {a2} (h : Keeps w₀ s₀ s)
    (hm : Sub 262144 w₀ := by apply sub_of; assumption; with_unfolding_all rfl) : Keeps w₀ s₀ (State.modBias s a1 a2) := by
  unfold State.modBias
  with_reducible repeat' (first
    | assumption | (exact sub_of hm rfl) | refine keeps_mk rfl rfl rfl rfl rfl rfl ?_)

theorem keeps_State_modPwm {w₀ : Nat} {s₀ : State} {s : State} {a1} {a2} (h : Keeps w₀ s₀ s)
    (hm : Sub 262144 w₀ := by apply sub_of; assumption; with_unfolding_all rfl) : Keeps w₀ s₀ (State.modPwm s a1 a2) := by
  unfold State.modPwm
  with_reducible repeat' (first
    | assumption | (exact sub_of hm rfl) | refine keeps_mk rfl rfl rfl rfl rfl rfl ?_)

theorem keeps_showConv {w₀ : Nat} {s₀ : State} {s : State} {a1} (h : Keeps w₀ s₀ s) : Keeps w₀ s₀ (showConv s a1) := by
  unfold showConv
  with_reducible repeat' (first
    | assumption | refine keeps_wr ?_ | split)

theorem keeps_beginSeq {w₀ : Nat} {s₀ : State} {s : State} {a1} {a2} {a3} (h : Keeps w₀ s₀ s)
    (hm : Sub 262144 w₀ := by apply sub_of; assumption; with_unfolding_all rfl) : Keeps w₀ s₀ (beginSeq s a1 a2 a3) := by
  unfold beginSeq
  with_reducible repeat' (first
    | assumption | (exact sub_of hm rfl) | apply keeps_State_modConv)

theorem keeps_kickConv {w₀ : Nat} {s₀ : State} {s : State} {a1} (h : Keeps w₀ s₀ s)
    (hm : Sub 262144 w₀ := by apply sub_of; assumption; with_unfolding_all rfl) : Keeps w₀ s₀ (kickConv s a1) := by
  unfold kickConv
  with_reducible repeat' (first
    | assumption | (exact sub_of hm rfl) | apply keeps_ite | apply keeps_showConv | apply keeps_State_modConv | apply keeps_beginSeq | split)

theorem keeps_hkTrigger {w₀ : Nat} {s₀ : State} {s : State} {a1} {a2} (h : Keeps w₀ s₀ s)
    (hm : Sub 262152 w₀ := by apply sub_of; assumption; with_unfolding_all rfl) : Keeps w₀ s₀ (hkTrigger s a1 a2) := by
  unfold hkTrigger
  with_reducible repeat' (first
    | assumption | (exact sub_of hm rfl) | apply keeps_ite | refine keeps_stickyEvent ?_ | apply keeps_kickConv | apply keeps_State_modConv
    | refine keeps_wr ?_)

theorem keeps_hkTriggerKind {w₀ : Nat} {s₀ : State} {s : State} {a1} {a2} {a3} (h : Keeps w₀ s₀ s)
    (hm : Sub 262152 w₀ := by apply sub_of; assumption; with_unfolding_all rfl) : Keeps w₀ s₀ (hkTriggerKind s a1 a2 a3) := by
  unfold hkTriggerKind
  with_reducible repeat' (first
    | assumption | (exact sub_of hm rfl) | apply keeps_ite | apply keeps_hkTrigger)

theorem keeps_hkSlot {w₀ : Nat} {s₀ : State} {s : State} (h : Keeps w₀ s₀ s)
    (hm : Sub 262152 w₀ := by apply sub_of; assumption; with_unfolding_all rfl) : Keeps w₀ s₀ (hkSlot s) := by
  unfold hkSlot
  with_reducible repeat' (first
    | assumption | (exact sub_of hm rfl) | apply keeps_forEach | apply keeps_hkTriggerKind | intro _ _ _)

theorem keeps_hkStopSeq {w₀ : Nat} {s₀ : State} {s : State} {a1} {a2} (h : Keeps w₀ s₀ s)
    (hm : Sub 262144 w₀ := by apply sub_of; assumption; with_unfolding_all rfl) : Keeps w₀ s₀ (hkStopSeq s a1 a2) := by
  unfold hkStopSeq
  with_reducible repeat' (first
    | assumption | (exact sub_of hm rfl) | apply keeps_State_modConv | refine keeps_wr ?_)

theorem keeps_vendorSeq {w₀ : Nat} {s₀ : State} {s : State} {a1} (h : Keeps w₀ s₀ s) : Keeps w₀ s₀ (vendorSeq s a1) := by
  unfold vendorSeq
  with_reducible repeat' (first
    | assumption | refine keeps_wr ?_ | apply keeps_forEach | intro _ _ _)

theorem keeps_hkOn {w₀ : Nat} {s₀ : State} {s : State} (h : Keeps w₀ s₀ s)
    (hm : Sub 262144 w₀ := by apply sub_of; assumption; with_unfolding_all rfl) : Keeps w₀ s₀ (hkOn s) := by
  unfold hkOn
  with_reducible repeat' (first
    | assumption | (exact sub_of hm rfl) | apply keeps_forEach | apply keeps_showConv | apply keeps_State_modConv | apply keeps_vendorSeq
    | intro _ _ _)

theorem keeps_hkOff {w₀ : Nat} {s₀ : State} {s : State} (h : Keeps w₀ s₀ s)
    (hm : Sub 262144 w₀ := by apply sub_of; assumption; with_unfolding_all rfl) : Keeps w₀ s₀ (hkOff s) := by
  unfold hkOff
  with_reducible repeat' (first
    | assumption | (exact sub_of hm rfl) | apply keeps_forEach | apply keeps_showConv | apply keeps_State_modConv | refine keeps_wr ?_ | intro _ _ _)

theorem keeps_hkSafe {w₀ : Nat} {s₀ : State} {s : State} (h : Keeps w₀ s₀ s)
    (hm : Sub 262144 w₀ := by apply sub_of; assumption; with_unfolding_all rfl) : Keeps w₀ s₀ (hkSafe s) := by
  unfold hkSafe
  with_reducible repeat' (first
    | assumption | (exact sub_of hm rfl) | apply keeps_forEach | apply keeps_State_modConv | refine keeps_wr ?_ | intro _ _ _)

theorem keeps_hkVendor {w₀ : Nat} {s₀ : State} {s : State} (h : Keeps w₀ s₀ s)
    (hm : Sub 262144 w₀ := by apply sub_of; assumption; with_unfolding_all rfl) : Keeps w₀ s₀ (hkVendor s) := by
  unfold hkVendor
  with_reducible repeat' (first
    | assumption | (exact sub_of hm rfl) | apply keeps_ite | apply keeps_forEach | apply keeps_kickConv | apply keeps_State_modConv
    | refine keeps_wr ?_ | intro _ _ _)

theorem keeps_startThree {w₀ : Nat} {s₀ : State} {s : State} (h : Keeps w₀ s₀ s)
    (hm : Sub 262144 w₀ := by apply sub_of; assumption; with_unfolding_all rfl) : Keeps w₀ s₀ (startThree s) := by
  unfold startThree
  with_reducible repeat' (first
    | assumption | (exact sub_of hm rfl) | apply keeps_ite | apply keeps_forEach | apply keeps_State_modConv | apply keeps_beginSeq | intro _ _ _)

theorem keeps_hkWriteResult {w₀ : Nat} {s₀ : State} {s : State} {a1} {a2} {a3} {a4} {a5} {a6} (h : Keeps w₀ s₀ s)
    (hm : Sub 8 w₀ := by apply sub_of; assumption; with_unfolding_all rfl) : Keeps w₀ s₀ (hkWriteResult s a1 a2 a3 a4 a5 a6) := by
  unfold hkWriteResult
  with_reducible repeat' (first
    | assumption | (exact sub_of hm rfl) | apply keeps_raiseIf | refine keeps_wr ?_)

theorem keeps_driveTo {w₀ : Nat} {s₀ : State} {s : State} {a1} {a2} {a3} (h : Keeps w₀ s₀ s)
    (hm : Sub 262144 w₀ := by apply sub_of; assumption; with_unfolding_all rfl) : Keeps w₀ s₀ (driveTo s a1 a2 a3) := by
  unfold driveTo
  with_reducible repeat' (first
    | assumption | (exact sub_of hm rfl) | apply keeps_ite | apply keeps_State_modBias)

theorem keeps_biasApply {w₀ : Nat} {s₀ : State} {s : State} {a1} (h : Keeps w₀ s₀ s)
    (hm : Sub 262144 w₀ := by apply sub_of; assumption; with_unfolding_all rfl) : Keeps w₀ s₀ (biasApply s a1) := by
  unfold biasApply
  with_reducible repeat' (first
    | assumption | (exact sub_of hm rfl) | apply keeps_ite | refine keeps_wr ?_ | apply keeps_State_modBias | apply keeps_driveTo | split)

theorem keeps_biasAll {w₀ : Nat} {s₀ : State} {s : State} (h : Keeps w₀ s₀ s)
    (hm : Sub 262144 w₀ := by apply sub_of; assumption; with_unfolding_all rfl) : Keeps w₀ s₀ (biasAll s) := by
  unfold biasAll
  with_reducible repeat' (first
    | assumption | (exact sub_of hm rfl) | apply keeps_forEach | apply keeps_biasApply | intro _ _ _)

theorem keeps_biasSwitch {w₀ : Nat} {s₀ : State} {s : State} {a1} (h : Keeps w₀ s₀ s)
    (hm : Sub 262144 w₀ := by apply sub_of; assumption; with_unfolding_all rfl) : Keeps w₀ s₀ (biasSwitch s a1) := by
  unfold biasSwitch
  with_reducible repeat' (first
    | assumption | (exact sub_of hm rfl) | apply keeps_ite | apply keeps_biasApply | apply keeps_State_modBias | refine keeps_wr ?_ | split)

theorem keeps_biasLoad {w₀ : Nat} {s₀ : State} {s : State} (h : Keeps w₀ s₀ s)
    (hm : Sub 17039360 w₀ := by apply sub_of; assumption; with_unfolding_all rfl) : Keeps w₀ s₀ (biasLoad s) := by
  unfold biasLoad
  with_reducible repeat' (first
    | assumption | (exact sub_of hm rfl) | apply keeps_forEach | apply keeps_biasApply | apply keeps_State_modBias | refine keeps_wr ?_
    | refine keeps_wrBoth ?_ | intro _ _ _)

theorem keeps_biasSafe {w₀ : Nat} {s₀ : State} {s : State} (h : Keeps w₀ s₀ s)
    (hm : Sub 262144 w₀ := by apply sub_of; assumption; with_unfolding_all rfl) : Keeps w₀ s₀ (biasSafe s) := by
  unfold biasSafe
  with_reducible repeat' (first
    | assumption | (exact sub_of hm rfl) | apply keeps_biasAll | apply keeps_forEach | apply keeps_State_modBias | intro _ _ _)

theorem keeps_biasRestore {w₀ : Nat} {s₀ : State} {s : State} (h : Keeps w₀ s₀ s)
    (hm : Sub 262144 w₀ := by apply sub_of; assumption; with_unfolding_all rfl) : Keeps w₀ s₀ (biasRestore s) := by
  unfold biasRestore
  with_reducible repeat' (first
    | assumption | (exact sub_of hm rfl) | apply keeps_biasAll | apply keeps_forEach | apply keeps_ite | apply keeps_State_modBias | intro _ _ _)

theorem keeps_biasServe {w₀ : Nat} {s₀ : State} {s : State} (h : Keeps w₀ s₀ s)
    (hm : Sub 262144 w₀ := by apply sub_of; assumption; with_unfolding_all rfl) : Keeps w₀ s₀ (biasServe s) := by
  unfold biasServe
  with_reducible repeat' (first
    | assumption | (exact sub_of hm rfl) | apply keeps_biasAll | apply keeps_forEach | apply keeps_State_modBias | intro _ _ _)

theorem keeps_biasFault {w₀ : Nat} {s₀ : State} {s : State} {a1} (h : Keeps w₀ s₀ s)
    (hm : Sub 262152 w₀ := by apply sub_of; assumption; with_unfolding_all rfl) : Keeps w₀ s₀ (biasFault s a1) := by
  unfold biasFault
  with_reducible repeat' (first
    | assumption | (exact sub_of hm rfl) | apply keeps_biasApply | apply keeps_State_modBias | refine keeps_stickyEvent ?_)

theorem keeps_biasReadback {w₀ : Nat} {s₀ : State} {s : State} {a1} {a2} (h : Keeps w₀ s₀ s)
    (hm : Sub 262152 w₀ := by apply sub_of; assumption; with_unfolding_all rfl) : Keeps w₀ s₀ (biasReadback s a1 a2) := by
  unfold biasReadback
  with_reducible repeat' (first
    | assumption | (exact sub_of hm rfl) | apply keeps_ite | apply keeps_biasFault | refine keeps_wr ?_ | apply keeps_State_modBias)

theorem keeps_biasCommitted {w₀ : Nat} {s₀ : State} {s : State} {a1} {a2} {a3} {a4} {a5} (h : Keeps w₀ s₀ s)
    (hm : Sub 262144 w₀ := by apply sub_of; assumption; with_unfolding_all rfl) : Keeps w₀ s₀ (biasCommitted s a1 a2 a3 a4 a5) := by
  unfold biasCommitted
  with_reducible repeat' (first
    | assumption | (exact sub_of hm rfl) | apply keeps_ite | apply keeps_biasApply | apply keeps_State_modBias)

theorem keeps_hkCommit {w₀ : Nat} {s₀ : State} {s : State} (h : Keeps w₀ s₀ s)
    (hm : Sub 262153 w₀ := by apply sub_of; assumption; with_unfolding_all rfl) : Keeps w₀ s₀ (hkCommit s) := by
  unfold hkCommit
  with_reducible repeat' (first
    | assumption | (exact sub_of hm rfl) | apply keeps_ite | apply keeps_forEach | apply keeps_commitGroup | apply keeps_biasCommitted
    | apply keeps_State_modPwm | intro _ _ _ | refine keeps_mk rfl rfl rfl rfl rfl rfl ?_)

theorem keepsO_execHkGo {w₀ : Nat} {s₀ : State} {a0} {a1} {s : State} (h : Keeps w₀ s₀ s)
    (hm : Sub 262152 w₀ := by apply sub_of; assumption; with_unfolding_all rfl) : KeepsO w₀ s₀ (execHkGo a0 a1 s) := by
  unfold execHkGo
  with_reducible repeat' (first
    | assumption | (exact sub_of hm rfl) | apply keepsO_next | apply keeps_hkTriggerKind)

theorem keepsO_execHkPeriodTrigger {w₀ : Nat} {s₀ : State} {a0} {a1} {s : State} (h : Keeps w₀ s₀ s)
    (hm : Sub 262152 w₀ := by apply sub_of; assumption; with_unfolding_all rfl) : KeepsO w₀ s₀ (execHkPeriodTrigger a0 a1 s) := by
  unfold execHkPeriodTrigger
  with_reducible repeat' (first
    | assumption | (exact sub_of hm rfl) | apply keepsO_next | apply keeps_hkTriggerKind)

theorem keepsO_execHkVendorTrigger {w₀ : Nat} {s₀ : State} {s : State} (h : Keeps w₀ s₀ s)
    (hm : Sub 262144 w₀ := by apply sub_of; assumption; with_unfolding_all rfl) : KeepsO w₀ s₀ (execHkVendorTrigger s) := by
  unfold execHkVendorTrigger
  with_reducible repeat' (first
    | assumption | (exact sub_of hm rfl) | apply keepsO_next | apply keeps_hkVendor)

theorem keepsO_execHkStartupDone {w₀ : Nat} {s₀ : State} {a0} {s : State} (h : Keeps w₀ s₀ s)
    (hm : Sub 262144 w₀ := by apply sub_of; assumption; with_unfolding_all rfl) : KeepsO w₀ s₀ (execHkStartupDone a0 s) := by
  unfold execHkStartupDone
  with_reducible repeat' (first
    | assumption | (exact sub_of hm rfl) | apply keepsO_next | apply keeps_ite | apply keeps_kickConv | apply keeps_showConv
    | apply keeps_State_modConv)

theorem keepsO_execHkEntryDone {w₀ : Nat} {s₀ : State} {a0} {a1} {s : State} (h : Keeps w₀ s₀ s)
    (hm : Sub 262152 w₀ := by apply sub_of; assumption; with_unfolding_all rfl) : KeepsO w₀ s₀ (execHkEntryDone a0 a1 s) := by
  unfold execHkEntryDone
  with_reducible repeat' (first
    | assumption | (exact sub_of hm rfl) | apply keepsO_next | apply keeps_ite | apply keeps_kickConv | apply keeps_State_modConv
    | apply keeps_biasReadback | apply keeps_hkWriteResult | split)

theorem keeps_crossCheck {w₀ : Nat} {s₀ : State} {s : State} (h : Keeps w₀ s₀ s)
    (hm : Sub 262152 w₀ := by apply sub_of; assumption; with_unfolding_all rfl) : Keeps w₀ s₀ (crossCheck s) := by
  unfold crossCheck
  with_reducible repeat' (first
    | assumption | (exact sub_of hm rfl) | apply keeps_ite | apply keeps_forEach | apply keeps_showConv | apply keeps_State_modConv
    | apply keeps_hkStopSeq | apply keeps_raise | refine keeps_wr ?_ | intro _ _ _)

theorem keeps_hkSeqDone {w₀ : Nat} {s₀ : State} {s : State} {a1} (h : Keeps w₀ s₀ s)
    (hm : Sub 262152 w₀ := by apply sub_of; assumption; with_unfolding_all rfl) : Keeps w₀ s₀ (hkSeqDone s a1) := by
  unfold hkSeqDone
  with_reducible repeat' (first
    | assumption | (exact sub_of hm rfl) | apply keeps_ite | apply keeps_kickConv | apply keeps_hkTriggerKind | apply keeps_State_modConv
    | apply keeps_beginSeq | refine keeps_wr ?_ | apply keeps_startThree | apply keeps_crossCheck | split)

theorem keepsO_execHkSeqDone {w₀ : Nat} {s₀ : State} {a0} {s : State} (h : Keeps w₀ s₀ s)
    (hm : Sub 262152 w₀ := by apply sub_of; assumption; with_unfolding_all rfl) : KeepsO w₀ s₀ (execHkSeqDone a0 s) := by
  unfold execHkSeqDone
  with_reducible repeat' (first
    | assumption | (exact sub_of hm rfl) | apply keepsO_next | apply keeps_hkSeqDone)

theorem keeps_hkEnable {w₀ : Nat} {s₀ : State} {s : State} {a1} {a2} (h : Keeps w₀ s₀ s)
    (hm : Sub 8 w₀ := by apply sub_of; assumption; with_unfolding_all rfl) : Keeps w₀ s₀ (hkEnable s a1 a2) := by
  unfold hkEnable
  with_reducible repeat' (first
    | assumption | (exact sub_of hm rfl) | apply keeps_ite | refine keeps_wr ?_ | apply keeps_cfgError)

theorem keepsO_execHkEnable {w₀ : Nat} {s₀ : State} {a0} {a1} {s : State} (h : Keeps w₀ s₀ s)
    (hm : Sub 8 w₀ := by apply sub_of; assumption; with_unfolding_all rfl) : KeepsO w₀ s₀ (execHkEnable a0 a1 s) := by
  unfold execHkEnable
  with_reducible repeat' (first
    | assumption | (exact sub_of hm rfl) | apply keepsO_next | apply keeps_hkEnable)

theorem keeps_hkSelftest {w₀ : Nat} {s₀ : State} {s : State} (h : Keeps w₀ s₀ s) : Keeps w₀ s₀ (hkSelftest s) := by
  unfold hkSelftest
  with_reducible repeat' (first
    | assumption | apply keeps_ite | refine keeps_wr ?_)

theorem keepsO_execHkSelftest {w₀ : Nat} {s₀ : State} {s : State} (h : Keeps w₀ s₀ s) : KeepsO w₀ s₀ (execHkSelftest s) := by
  unfold execHkSelftest
  with_reducible repeat' (first
    | assumption | apply keepsO_next | apply keeps_hkSelftest)

theorem keepsO_execHkSelftestDone {w₀ : Nat} {s₀ : State} {a0} {a1} {s : State} (h : Keeps w₀ s₀ s)
    (hm : Sub 262144 w₀ := by apply sub_of; assumption; with_unfolding_all rfl) : KeepsO w₀ s₀ (execHkSelftestDone a0 a1 s) := by
  unfold execHkSelftestDone
  with_reducible repeat' (first
    | assumption | (exact sub_of hm rfl) | apply keepsO_next | apply keeps_ite | apply keeps_forEach | refine keeps_wr ?_ | apply keeps_showConv
    | apply keeps_State_modConv | intro _ _ _)

theorem keepsO_execHkCommit {w₀ : Nat} {s₀ : State} {s : State} (h : Keeps w₀ s₀ s)
    (hm : Sub 262153 w₀ := by apply sub_of; assumption; with_unfolding_all rfl) : KeepsO w₀ s₀ (execHkCommit s) := by
  unfold execHkCommit
  with_reducible repeat' (first
    | assumption | (exact sub_of hm rfl) | apply keepsO_next | apply keeps_ite | apply keeps_hkCommit)

theorem keepsO_execBiasIlimFault {w₀ : Nat} {s₀ : State} {a0} {s : State} (h : Keeps w₀ s₀ s)
    (hm : Sub 262152 w₀ := by apply sub_of; assumption; with_unfolding_all rfl) : KeepsO w₀ s₀ (execBiasIlimFault a0 s) := by
  unfold execBiasIlimFault
  with_reducible repeat' (first
    | assumption | (exact sub_of hm rfl) | apply keepsO_next | apply keeps_ite | apply keeps_biasFault | refine keeps_wr ?_)

theorem keepsO_execBiasRangeSwitch {w₀ : Nat} {s₀ : State} {a0} {s : State} (h : Keeps w₀ s₀ s)
    (hm : Sub 262144 w₀ := by apply sub_of; assumption; with_unfolding_all rfl) : KeepsO w₀ s₀ (execBiasRangeSwitch a0 s) := by
  unfold execBiasRangeSwitch
  with_reducible repeat' (first
    | assumption | (exact sub_of hm rfl) | apply keepsO_next | apply keeps_biasSwitch)

theorem keepsO_execBiasSineUpdate {w₀ : Nat} {s₀ : State} {a0} {s : State} (h : Keeps w₀ s₀ s)
    (hm : Sub 262144 w₀ := by apply sub_of; assumption; with_unfolding_all rfl) : KeepsO w₀ s₀ (execBiasSineUpdate a0 s) := by
  unfold execBiasSineUpdate
  with_reducible repeat' (first
    | assumption | (exact sub_of hm rfl) | apply keepsO_next | apply keeps_ite | apply keeps_driveTo | apply keeps_State_modBias)

theorem keepsO_execPwmPeriod {w₀ : Nat} {s₀ : State} {a0} {a1} {s : State} (h : Keeps w₀ s₀ s)
    (hm : Sub 262152 w₀ := by apply sub_of; assumption; with_unfolding_all rfl) : KeepsO w₀ s₀ (execPwmPeriod a0 a1 s) := by
  unfold execPwmPeriod
  with_reducible repeat' (first
    | assumption | (exact sub_of hm rfl) | apply keepsO_next | apply keeps_ite | refine keeps_wr ?_ | apply keeps_State_modPwm
    | refine keeps_stickyEvent ?_)

end Sys2Proof.Laws
end

