-- ==== Sys2Proof/Laws/KeepsImage.lean ====
section
/-! SUPPORT. What the operations of Machine/Image.lean keep, and which parts they may change (Laws/Keeps.lean). -/

set_option Elab.async false

namespace Sys2Proof.Laws

open Sys2Proof.Machine

theorem keeps_writeDir {w₀ : Nat} {s₀ : State} {s : State} {a1} {a2} (h : Keeps w₀ s₀ s)
    (hm : Sub 524288 w₀ := by apply sub_of; assumption; with_unfolding_all rfl) : Keeps w₀ s₀ (writeDir s a1 a2) := by
  unfold writeDir
  with_reducible repeat' (first
    | assumption | (exact sub_of hm rfl) | apply keeps_ite | split | refine keeps_mk rfl rfl rfl rfl rfl rfl ?_)

theorem keeps_logEntry {w₀ : Nat} {s₀ : State} {s : State} {a1} {a2} (h : Keeps w₀ s₀ s)
    (hm : Sub 524288 w₀ := by apply sub_of; assumption; with_unfolding_all rfl) : Keeps w₀ s₀ (logEntry s a1 a2) := by
  unfold logEntry
  with_reducible repeat' (first
    | assumption | (exact sub_of hm rfl) | split | refine keeps_mk rfl rfl rfl rfl rfl rfl ?_)

end Sys2Proof.Laws
end

