-- ==== Sys2Proof/Laws/KeepsSec.lean ====
section
/-! SUPPORT. What the operations of Machine/Sec.lean keep, and which parts they may change (Laws/Keeps.lean). -/

set_option Elab.async false

namespace Sys2Proof.Laws

open Sys2Proof.Machine

theorem keeps_showSlots {w₀ : Nat} {s₀ : State} {s : State} (h : Keeps w₀ s₀ s) : Keeps w₀ s₀ (showSlots s) := by
  unfold showSlots
  with_reducible repeat' (first
    | assumption | refine keeps_wr ?_ | split)

theorem keeps_setSlot {w₀ : Nat} {s₀ : State} {s : State} {a1} {a2} (h : Keeps w₀ s₀ s)
    (hm : Sub 2097152 w₀ := by apply sub_of; assumption; with_unfolding_all rfl) : Keeps w₀ s₀ (setSlot s a1 a2) := by
  unfold setSlot
  with_reducible repeat' (first
    | assumption | (exact sub_of hm rfl) | apply keeps_showSlots | refine keeps_mk rfl rfl rfl rfl rfl rfl ?_)

theorem keeps_setCounters {w₀ : Nat} {s₀ : State} {s : State} {a1} {a2} {a3} {a4} (h : Keeps w₀ s₀ s)
    (hm : Sub 2097152 w₀ := by apply sub_of; assumption; with_unfolding_all rfl) : Keeps w₀ s₀ (setCounters s a1 a2 a3 a4) := by
  unfold setCounters
  with_reducible repeat' (first
    | assumption | (exact sub_of hm rfl) | apply keeps_setSlot | split | refine keeps_mk rfl rfl rfl rfl rfl rfl ?_)

theorem keeps_authFail {w₀ : Nat} {s₀ : State} {s : State} {a1} {a2} (h : Keeps w₀ s₀ s)
    (hm : Sub 2097160 w₀ := by apply sub_of; assumption; with_unfolding_all rfl) : Keeps w₀ s₀ (authFail s a1 a2) := by
  unfold authFail
  with_reducible repeat' (first
    | assumption | (exact sub_of hm rfl) | apply keeps_ite | apply keeps_raise | refine keeps_bump ?_ | refine keeps_wr ?_
    | refine keeps_mk rfl rfl rfl rfl rfl rfl ?_)

theorem keeps_authPass {w₀ : Nat} {s₀ : State} {s : State} {a1} {a2} (h : Keeps w₀ s₀ s)
    (hm : Sub 2097152 w₀ := by apply sub_of; assumption; with_unfolding_all rfl) : Keeps w₀ s₀ (authPass s a1 a2) := by
  unfold authPass
  with_reducible repeat' (first
    | assumption | (exact sub_of hm rfl) | apply keeps_setCounters | split | refine keeps_mk rfl rfl rfl rfl rfl rfl ?_)

theorem keeps_authenticate {w₀ : Nat} {s₀ : State} {s : State} {a1} {a2} {a3} {a4} {a5} (h : Keeps w₀ s₀ s)
    (hm : Sub 2097160 w₀ := by apply sub_of; assumption; with_unfolding_all rfl) : Keeps w₀ s₀ (authenticate s a1 a2 a3 a4 a5).2 := by
  unfold authenticate
  with_reducible repeat' (first
    | assumption | (exact sub_of hm rfl) | apply keeps_ite_snd | apply keeps_authFail | apply keeps_authPass | split)

theorem keeps_sendAuth {w₀ : Nat} {s₀ : State} {s : State} {a1} {a2} (h : Keeps w₀ s₀ s)
    (hm : Sub 2146304 w₀ := by apply sub_of; assumption; with_unfolding_all rfl) : Keeps w₀ s₀ (sendAuth s a1 a2) := by
  unfold sendAuth
  with_reducible repeat' (first
    | assumption | (exact sub_of hm rfl) | apply keeps_send | apply keeps_setCounters | split)

theorem keeps_respond {w₀ : Nat} {s₀ : State} {s : State} {a1} {a2} {a3} {a4} {a5} {a6} (h : Keeps w₀ s₀ s)
    (hm : Sub 2146304 w₀ := by apply sub_of; assumption; with_unfolding_all rfl) : Keeps w₀ s₀ (respond s a1 a2 a3 a4 a5 a6) := by
  unfold respond
  with_reducible repeat' (first
    | assumption | (exact sub_of hm rfl) | apply keeps_ite | apply keeps_sendAuth | apply keeps_send | split)

theorem keeps_setPads {w₀ : Nat} {s₀ : State} {s : State} {a1} {a2} (h : Keeps w₀ s₀ s) : Keeps w₀ s₀ (setPads s a1 a2) := by
  unfold setPads
  with_reducible repeat' (first
    | assumption | refine keeps_wr ?_)

theorem keeps_seqCheck {w₀ : Nat} {s₀ : State} {s : State} {a1} (h : Keeps w₀ s₀ s)
    (hm : Sub 32776 w₀ := by apply sub_of; assumption; with_unfolding_all rfl) : Keeps w₀ s₀ (seqCheck s a1) := by
  unfold seqCheck
  with_reducible repeat' (first
    | assumption | (exact sub_of hm rfl) | apply keeps_ite | apply keeps_raiseIf | refine keeps_bump ?_ | refine keeps_mk rfl rfl rfl rfl rfl rfl ?_)

theorem keeps_receive {w₀ : Nat} {s₀ s : State} {p : Packet} {f : State → State} (h : Keeps w₀ s₀ s) (hf : ∀ u, Keeps w₀ s₀ u → Keeps w₀ s₀ (f u))
    (hm : Sub 32776 w₀ := by apply sub_of; assumption; with_unfolding_all rfl) :
    Keeps w₀ s₀ (receive s p f) :=
  keeps_ite h (keeps_ite (keeps_bump h) (hf _ (keeps_seqCheck h)))

theorem keeps_commandWith {w₀ : Nat} {s₀ s : State} {op : Nat} {pre : List Nat} {p : Packet} {always need : Bool} {role : Nat} {fail : State → List Nat}
    {f : State → AuthOut → State × Nat × List Nat} {onBad : State → State} {after : Nat → State → State} (h : Keeps w₀ s₀ s)
    (hf : ∀ u a, Keeps w₀ s₀ u → Keeps w₀ s₀ (f u a).1) (hb : ∀ u, Keeps w₀ s₀ u → Keeps w₀ s₀ (onBad u))
    (ha : ∀ n u, Keeps w₀ s₀ u → Keeps w₀ s₀ (after n u))
    (hm : Sub 2146312 w₀ := by apply sub_of; assumption; with_unfolding_all rfl) :
    Keeps w₀ s₀ (command s op pre p always need role fail f onBad after) := by
  refine keeps_receive h fun u hu => ?_
  refine keeps_ite (keeps_respond (keeps_ite hu (keeps_bump hu))) ?_
  have ht := keeps_authenticate (a1 := need) (a2 := role) (a3 := op) (a4 := pre) (a5 := p) hu
  dsimp only
  split
  · exact keeps_respond (hb _ ht)
  · exact ha _ _ (keeps_respond (hf _ _ ht))

theorem keeps_command {w₀ : Nat} {s₀ s : State} {op : Nat} {pre : List Nat} {p : Packet} {always need : Bool} {role : Nat} {fail : State → List Nat}
    {f : State → AuthOut → State × Nat × List Nat} (h : Keeps w₀ s₀ s) (hf : ∀ u a, Keeps w₀ s₀ u → Keeps w₀ s₀ (f u a).1)
    (hm : Sub 2146312 w₀ := by apply sub_of; assumption; with_unfolding_all rfl) :
    Keeps w₀ s₀ (command s op pre p always need role fail f) :=
  keeps_commandWith h hf (fun _ hu => hu) (fun _ _ hu => hu)

end Sys2Proof.Laws
end

