-- ==== Sys2Proof/Laws/KeepsDomains.lean ====
section
/-! SUPPORT. What the operations of Machine/Domains.lean keep, and which parts they may change (Laws/Keeps.lean). -/

set_option Elab.async false

namespace Sys2Proof.Laws

open Sys2Proof.Machine

theorem keeps_gateTx {w₀ : Nat} {s₀ : State} {s : State} {a1} (h : Keeps w₀ s₀ s)
    (hm : Sub 64 w₀ := by apply sub_of; assumption; with_unfolding_all rfl) : Keeps w₀ s₀ (gateTx s a1) := by
  unfold gateTx
  with_reducible repeat' (first
    | assumption | (exact sub_of hm rfl) | apply keeps_ite | apply keeps_forEach | apply keeps_State_modTx | refine keeps_wr ?_
    | apply keeps_updateNbLive | intro _ _ _)

theorem keeps_gateRx {w₀ : Nat} {s₀ : State} {s : State} {a1} (h : Keeps w₀ s₀ s)
    (hm : Sub 64 w₀ := by apply sub_of; assumption; with_unfolding_all rfl) : Keeps w₀ s₀ (gateRx s a1) := by
  unfold gateRx
  with_reducible repeat' (first
    | assumption | (exact sub_of hm rfl) | apply keeps_ite | apply keeps_State_modRx | refine keeps_wr ?_)

theorem keeps_wakeTx {w₀ : Nat} {s₀ : State} {s : State} {a1} (h : Keeps w₀ s₀ s)
    (hm : Sub 64 w₀ := by apply sub_of; assumption; with_unfolding_all rfl) : Keeps w₀ s₀ (wakeTx s a1) := by
  unfold wakeTx
  with_reducible repeat' (first
    | assumption | (exact sub_of hm rfl) | apply keeps_State_modUnit | refine keeps_wr ?_)

theorem keeps_wakeRx {w₀ : Nat} {s₀ : State} {s : State} {a1} (h : Keeps w₀ s₀ s)
    (hm : Sub 64 w₀ := by apply sub_of; assumption; with_unfolding_all rfl) : Keeps w₀ s₀ (wakeRx s a1) := by
  unfold wakeRx
  with_reducible repeat' (first
    | assumption | (exact sub_of hm rfl) | apply keeps_ite | apply keeps_markTag | apply keeps_State_modUnit | refine keeps_wr ?_)

theorem keeps_gateRegion {w₀ : Nat} {s₀ : State} {s : State} {a1} (h : Keeps w₀ s₀ s)
    (hm : Sub 64 w₀ := by apply sub_of; assumption; with_unfolding_all rfl) : Keeps w₀ s₀ (gateRegion s a1) := by
  unfold gateRegion
  with_reducible repeat' (first
    | assumption | (exact sub_of hm rfl) | apply keeps_forEach | apply keeps_setDom | apply keeps_gateRx | apply keeps_gateTx | intro _ _ _)

theorem keeps_wakeRegion {w₀ : Nat} {s₀ : State} {s : State} {a1} (h : Keeps w₀ s₀ s)
    (hm : Sub 4194304 w₀ := by apply sub_of; assumption; with_unfolding_all rfl) : Keeps w₀ s₀ (wakeRegion s a1) := by
  unfold wakeRegion
  with_reducible repeat' (first
    | assumption | (exact sub_of hm rfl) | apply keeps_setDom | refine keeps_mk rfl rfl rfl rfl rfl rfl ?_)

theorem keeps_modeDomains {w₀ : Nat} {s₀ : State} {s : State} {a1} (h : Keeps w₀ s₀ s)
    (hm : Sub 4194368 w₀ := by apply sub_of; assumption; with_unfolding_all rfl) : Keeps w₀ s₀ (modeDomains s a1) := by
  unfold modeDomains
  with_reducible repeat' (first
    | assumption | (exact sub_of hm rfl) | apply keeps_memRefresh | apply keeps_forEach | apply keeps_setDom | apply keeps_gateRx
    | apply keeps_gateTx | intro _ _ _ | split | refine keeps_mk rfl rfl rfl rfl rfl rfl ?_)

theorem keeps_wakeAll {w₀ : Nat} {s₀ : State} {s : State} (h : Keeps w₀ s₀ s)
    (hm : Sub 4194368 w₀ := by apply sub_of; assumption; with_unfolding_all rfl) : Keeps w₀ s₀ (wakeAll s) := by
  unfold wakeAll
  with_reducible repeat' (first
    | assumption | (exact sub_of hm rfl) | apply keeps_forEach | apply keeps_wakeRegion | apply keeps_ite | apply keeps_wakeRx | apply keeps_wakeTx
    | intro _ _ _)

end Sys2Proof.Laws
end

