-- ==== Sys2Proof/Laws/KeepsModes.lean ====
section
/-! SUPPORT. What the operations of Machine/Modes.lean keep, and which parts they may change (Laws/Keeps.lean). -/

set_option Elab.async false

namespace Sys2Proof.Laws

open Sys2Proof.Machine

theorem keeps_poolCommit {w₀ : Nat} {s₀ : State} {s : State} (h : Keeps w₀ s₀ s)
    (hm : Sub 9 w₀ := by apply sub_of; assumption; with_unfolding_all rfl) : Keeps w₀ s₀ (poolCommit s) := by
  unfold poolCommit
  with_reducible repeat' (first
    | assumption | (exact sub_of hm rfl) | apply keeps_ite | apply keeps_commitGroup)

theorem keeps_orxCommit {w₀ : Nat} {s₀ : State} {s : State} {a1} (h : Keeps w₀ s₀ s)
    (hm : Sub 9 w₀ := by apply sub_of; assumption; with_unfolding_all rfl) : Keeps w₀ s₀ (orxCommit s a1) := by
  unfold orxCommit
  with_reducible repeat' (first
    | assumption | (exact sub_of hm rfl) | apply keeps_ite | apply keeps_commitGroup)

theorem keeps_leaveBoot {w₀ : Nat} {s₀ : State} {s : State} (h : Keeps w₀ s₀ s)
    (hm : Sub 25436665 w₀ := by apply sub_of; assumption; with_unfolding_all rfl) : Keeps w₀ s₀ (leaveBoot s) := by
  unfold leaveBoot
  with_reducible repeat' (first
    | assumption | (exact sub_of hm rfl) | apply keeps_forEach | apply keeps_hkCommit | apply keeps_chorusCommit | apply keeps_tileCommit
    | apply keeps_poolCommit | apply keeps_timeCommit | apply keeps_orxCommit | apply keeps_commitGroup | apply keeps_ite
    | apply keeps_clusterCommit | apply keeps_rxCommit | apply keeps_txCommit | intro _ _ _)

theorem keeps_trainStart {w₀ : Nat} {s₀ : State} {s : State} {a1} (h : Keeps w₀ s₀ s)
    (hm : Sub 64 w₀ := by apply sub_of; assumption; with_unfolding_all rfl) : Keeps w₀ s₀ (trainStart s a1) := by
  unfold trainStart
  with_reducible repeat' (first
    | assumption | (exact sub_of hm rfl) | apply keeps_loadShadow | apply keeps_State_modTx | refine keeps_wr ?_)

theorem keeps_trainAll {w₀ : Nat} {s₀ : State} {s : State} (h : Keeps w₀ s₀ s)
    (hm : Sub 64 w₀ := by apply sub_of; assumption; with_unfolding_all rfl) : Keeps w₀ s₀ (trainAll s) := by
  unfold trainAll
  with_reducible repeat' (first
    | assumption | (exact sub_of hm rfl) | apply keeps_forEach | apply keeps_ite | apply keeps_trainStart | intro _ _ _)

theorem keeps_tableLoad {w₀ : Nat} {s₀ : State} {s : State} {a1} {a2} (h : Keeps w₀ s₀ s)
    (hm : Sub 64 w₀ := by apply sub_of; assumption; with_unfolding_all rfl) : Keeps w₀ s₀ (tableLoad s a1 a2) := by
  unfold tableLoad
  with_reducible repeat' (first
    | assumption | (exact sub_of hm rfl) | apply keeps_loadShadow | apply keeps_ite | apply keeps_trainStart | split)

theorem keeps_archiveLoad {w₀ : Nat} {s₀ : State} {s : State} {a1} (h : Keeps w₀ s₀ s)
    (hm : Sub 64 w₀ := by apply sub_of; assumption; with_unfolding_all rfl) : Keeps w₀ s₀ (archiveLoad s a1) := by
  unfold archiveLoad
  with_reducible repeat' (first
    | assumption | (exact sub_of hm rfl) | apply keeps_tableLoad)

theorem keeps_showTrimWork {w₀ : Nat} {s₀ : State} {s : State} (h : Keeps w₀ s₀ s)
    (hm : Sub 32 w₀ := by apply sub_of; assumption; with_unfolding_all rfl) : Keeps w₀ s₀ (showTrimWork s) := by
  unfold showTrimWork
  with_reducible repeat' (first
    | assumption | (exact sub_of hm rfl) | refine keeps_mk rfl rfl rfl rfl rfl rfl ?_)

theorem keeps_escStart {w₀ : Nat} {s₀ : State} {s : State} (h : Keeps w₀ s₀ s)
    (hm : Sub 297 w₀ := by apply sub_of; assumption; with_unfolding_all rfl) : Keeps w₀ s₀ (escStart s) := by
  unfold escStart
  with_reducible repeat' (first
    | assumption | (exact sub_of hm rfl) | apply keeps_ite | apply keeps_forTiles | apply keeps_escCommit | refine keeps_wr ?_ | intro _ _ _
    | refine keeps_mk rfl rfl rfl rfl rfl rfl ?_)

theorem keeps_escStop {w₀ : Nat} {s₀ : State} {s : State} (h : Keeps w₀ s₀ s)
    (hm : Sub 32 w₀ := by apply sub_of; assumption; with_unfolding_all rfl) : Keeps w₀ s₀ (escStop s) := by
  unfold escStop
  with_reducible repeat' (first
    | assumption | (exact sub_of hm rfl) | apply keeps_discardQueue | refine keeps_wr ?_ | refine keeps_mk rfl rfl rfl rfl rfl rfl ?_)

theorem keeps_radiosOff {w₀ : Nat} {s₀ : State} {s : State} (h : Keeps w₀ s₀ s)
    (hm : Sub 96 w₀ := by apply sub_of; assumption; with_unfolding_all rfl) : Keeps w₀ s₀ (radiosOff s) := by
  unfold radiosOff
  with_reducible repeat' (first
    | assumption | (exact sub_of hm rfl) | apply keeps_forEach | apply keeps_escStop | apply keeps_immediateMute | apply keeps_loDown | intro _ _ _)

theorem keeps_frozenTherm {w₀ : Nat} {s₀ : State} {s : State} {a1} (h : Keeps w₀ s₀ s) : Keeps w₀ s₀ (frozenTherm s a1) := by
  unfold frozenTherm
  with_reducible repeat' (first
    | assumption | apply keeps_forEach | refine keeps_wr ?_ | intro _ _ _)

theorem keeps_reloadSlot {w₀ : Nat} {s₀ : State} {s : State} {a1} (h : Keeps w₀ s₀ s)
    (hm : Sub 3080 w₀ := by apply sub_of; assumption; with_unfolding_all rfl) : Keeps w₀ s₀ (reloadSlot s a1) := by
  unfold reloadSlot
  with_reducible repeat' (first
    | assumption | (exact sub_of hm rfl) | apply keeps_setU | apply keeps_clearView | apply keeps_ite | apply keeps_autoStart
    | apply keeps_loadKernel | apply keeps_raise | split)

theorem keeps_leaveMode {w₀ : Nat} {s₀ : State} {s : State} {a1} (h : Keeps w₀ s₀ s)
    (hm : Sub 26570233 w₀ := by apply sub_of; assumption; with_unfolding_all rfl) : Keeps w₀ s₀ (leaveMode s a1) := by
  unfold leaveMode
  with_reducible repeat' (first
    | assumption | (exact sub_of hm rfl) | apply keeps_ite | apply keeps_leaveBoot | apply keeps_forEach | apply keeps_capLeaveDiag
    | apply keeps_reloadSlot | apply keeps_biasRestore | apply keeps_frozenTherm | apply keeps_linkToRef | apply keeps_dropCause
    | refine keeps_wr ?_ | intro _ _ _ | refine keeps_mk rfl rfl rfl rfl rfl rfl ?_)

theorem keeps_enterMode {w₀ : Nat} {s₀ : State} {s : State} {a1} (h : Keeps w₀ s₀ s)
    (hm : Sub 12930553 w₀ := by apply sub_of; assumption; with_unfolding_all rfl) : Keeps w₀ s₀ (enterMode s a1) := by
  unfold enterMode
  with_reducible repeat' (first
    | assumption | (exact sub_of hm rfl) | apply keeps_ite | apply keeps_wakeAll | apply keeps_escStart | apply keeps_modeDomains
    | apply keeps_radiosOff | apply keeps_biasServe | apply keeps_forEach | apply keeps_loKick | apply keeps_linkBringUp | apply keeps_linkWake
    | apply keeps_biasSafe | apply keeps_hkSafe | apply keeps_frozenTherm | apply keeps_capStopAll | apply keeps_safeStopKernel | intro _ _ _)

theorem keeps_beginMode {w₀ : Nat} {s₀ : State} {s : State} {a1} (h : Keeps w₀ s₀ s) : Keeps w₀ s₀ (beginMode s a1) := by
  unfold beginMode
  with_reducible repeat' (first
    | assumption | refine keeps_wr ?_)

theorem keeps_refuseMode {w₀ : Nat} {s₀ : State} {s : State} {a1} {a2} {a3} (h : Keeps w₀ s₀ s)
    (hm : Sub 8 w₀ := by apply sub_of; assumption; with_unfolding_all rfl) : Keeps w₀ s₀ (refuseMode s a1 a2 a3) := by
  unfold refuseMode
  with_reducible repeat' (first
    | assumption | (exact sub_of hm rfl) | apply keeps_raise)

theorem keeps_endSleep {w₀ : Nat} {s₀ : State} {s : State} (h : Keeps w₀ s₀ s)
    (hm : Sub 4194304 w₀ := by apply sub_of; assumption; with_unfolding_all rfl) : Keeps w₀ s₀ (endSleep s) := by
  unfold endSleep
  with_reducible repeat' (first
    | assumption | (exact sub_of hm rfl) | refine keeps_wr ?_ | refine keeps_mk rfl rfl rfl rfl rfl rfl ?_)

theorem keeps_openVote {w₀ : Nat} {s₀ : State} {s : State} (h : Keeps w₀ s₀ s)
    (hm : Sub 4194304 w₀ := by apply sub_of; assumption; with_unfolding_all rfl) : Keeps w₀ s₀ (openVote s) := by
  unfold openVote
  with_reducible repeat' (first
    | assumption | (exact sub_of hm rfl) | apply keeps_beginMode | refine keeps_wr ?_ | refine keeps_mk rfl rfl rfl rfl rfl rfl ?_)

theorem keeps_sleepRequest {w₀ : Nat} {s₀ : State} {s : State} {a1} {a2} (h : Keeps w₀ s₀ s)
    (hm : Sub 4194304 w₀ := by apply sub_of; assumption; with_unfolding_all rfl) : Keeps w₀ s₀ (sleepRequest s a1 a2) := by
  unfold sleepRequest
  with_reducible repeat' (first
    | assumption | (exact sub_of hm rfl) | apply keeps_openVote | refine keeps_wr ?_ | refine keeps_mk rfl rfl rfl rfl rfl rfl ?_)

theorem keeps_closeVote {w₀ : Nat} {s₀ : State} {s : State} (h : Keeps w₀ s₀ s)
    (hm : Sub 4194304 w₀ := by apply sub_of; assumption; with_unfolding_all rfl) : Keeps w₀ s₀ (closeVote s) := by
  unfold closeVote
  with_reducible repeat' (first
    | assumption | (exact sub_of hm rfl) | apply keeps_ite | refine keeps_wr ?_ | refine keeps_mk rfl rfl rfl rfl rfl rfl ?_)

theorem keeps_dropSleep {w₀ : Nat} {s₀ : State} {s : State} (h : Keeps w₀ s₀ s)
    (hm : Sub 4194304 w₀ := by apply sub_of; assumption; with_unfolding_all rfl) : Keeps w₀ s₀ (dropSleep s) := by
  unfold dropSleep
  with_reducible repeat' (first
    | assumption | (exact sub_of hm rfl) | apply keeps_ite | apply keeps_endSleep | apply keeps_closeVote)

theorem keeps_scheduleAct {w₀ : Nat} {s₀ : State} {s : State} {a1} (h : Keeps w₀ s₀ s)
    (hm : Sub 4194312 w₀ := by apply sub_of; assumption; with_unfolding_all rfl) : Keeps w₀ s₀ (scheduleAct s a1) := by
  unfold scheduleAct
  with_reducible repeat' (first
    | assumption | (exact sub_of hm rfl) | apply keeps_ite | apply keeps_dropSleep | refine keeps_wr ?_ | apply keeps_sleepRequest
    | apply keeps_refuseMode | split | refine keeps_mk rfl rfl rfl rfl rfl rfl ?_)

theorem keeps_drainDue {w₀ : Nat} {s₀ : State} {s : State} (h : Keeps w₀ s₀ s)
    (hm : Sub 4194312 w₀ := by apply sub_of; assumption; with_unfolding_all rfl) : Keeps w₀ s₀ (drainDue s) := by
  unfold drainDue
  with_reducible repeat' (first
    | assumption | (exact sub_of hm rfl) | apply keeps_ite | apply keeps_foldl | apply keeps_scheduleAct | intro _ _ _
    | refine keeps_mk rfl rfl rfl rfl rfl rfl ?_)

theorem keeps_finishMode {w₀ : Nat} {s₀ : State} {s : State} {a1} {a2} (h : Keeps w₀ s₀ s)
    (hm : Sub 64318969 w₀ := by apply sub_of; assumption; with_unfolding_all rfl) : Keeps w₀ s₀ (finishMode s a1 a2) := by
  unfold finishMode
  with_reducible repeat' (first
    | assumption | (exact sub_of hm rfl) | apply keeps_drainDue | apply keeps_forEach | apply keeps_autoKernel | apply keeps_enterMode
    | apply keeps_leaveMode | apply keeps_raise | intro _ _ _ | refine keeps_wr ?_)

theorem keeps_enterSafe {w₀ : Nat} {s₀ s : State} {c : Nat} (h : Keeps w₀ s₀ s)
    (hm : Sub 64318969 w₀ := by apply sub_of; assumption; with_unfolding_all rfl) : Keeps w₀ s₀ (enterSafe s c) := by
  unfold enterSafe
  have h1 : Keeps w₀ s₀ { s with boot := { s.boot with safe := if c ∈ s.boot.safe then s.boot.safe else s.boot.safe ++ [c] } } :=
    keeps_mk rfl rfl rfl rfl rfl rfl h
  exact keeps_ite h (keeps_ite h1 (keeps_finishMode (keeps_snap (fun _ => rfl) (keeps_endSleep h1))))

theorem keeps_fatal {w₀ : Nat} {s₀ : State} {s : State} {a1} {a2} (h : Keeps w₀ s₀ s)
    (hm : Sub 64318969 w₀ := by apply sub_of; assumption; with_unfolding_all rfl) : Keeps w₀ s₀ (fatal s a1 a2) := by
  unfold fatal
  with_reducible repeat' (first
    | assumption | (exact sub_of hm rfl) | apply keeps_enterSafe | apply keeps_raise)

theorem keeps_leaveSafe {w₀ : Nat} {s₀ : State} {s : State} (h : Keeps w₀ s₀ s)
    (hm : Sub 64319481 w₀ := by apply sub_of; assumption; with_unfolding_all rfl) : Keeps w₀ s₀ (leaveSafe s) := by
  unfold leaveSafe
  with_reducible repeat' (first
    | assumption | (exact sub_of hm rfl) | apply keeps_showTrimWork | apply keeps_trainAll | apply keeps_trimCold | apply keeps_finishMode)

theorem keeps_setMode {w₀ : Nat} {s₀ : State} {s : State} {a1} (h : Keeps w₀ s₀ s)
    (hm : Sub 64319481 w₀ := by apply sub_of; assumption; with_unfolding_all rfl) : Keeps w₀ s₀ (setMode s a1).1 := by
  unfold setMode
  with_reducible repeat' (first
    | assumption | (exact sub_of hm rfl) | apply keeps_ite_fst | apply keeps_refuseMode | apply keeps_leaveSafe | apply keeps_beginMode
    | apply keeps_sleepRequest | apply keeps_endSleep | split)

theorem keeps_modeBoundary {w₀ : Nat} {s₀ : State} {s : State} (h : Keeps w₀ s₀ s)
    (hm : Sub 64318969 w₀ := by apply sub_of; assumption; with_unfolding_all rfl) : Keeps w₀ s₀ (modeBoundary s) := by
  unfold modeBoundary
  with_reducible repeat' (first
    | assumption | (exact sub_of hm rfl) | apply keeps_ite | apply keeps_finishMode)

theorem keeps_advanceTo {w₀ : Nat} {s₀ : State} {s : State} {a1} (h : Keeps w₀ s₀ s)
    (hm : Sub 16 w₀ := by apply sub_of; assumption; with_unfolding_all rfl) : Keeps w₀ s₀ (advanceTo s a1) := by
  unfold advanceTo
  with_reducible repeat' (first
    | assumption | (exact sub_of hm rfl) | refine keeps_mk rfl rfl rfl rfl rfl rfl ?_)

end Sys2Proof.Laws
end

