-- ==== Sys2Proof/Laws/KeepsRegs.lean ====
section
/-! SUPPORT. What the operations of Machine/Regs.lean keep, and which parts they may change (Laws/Keeps.lean). -/

set_option Elab.async false

namespace Sys2Proof.Laws

open Sys2Proof.Machine

theorem keeps_shadowTouched {w₀ : Nat} {s₀ : State} {s : State} {a1} (h : Keeps w₀ s₀ s)
    (hm : Sub 1 w₀ := by apply sub_of; assumption; with_unfolding_all rfl) : Keeps w₀ s₀ (shadowTouched s a1) := by
  unfold shadowTouched
  with_reducible repeat' (first
    | assumption | (exact sub_of hm rfl) | refine keeps_mk rfl rfl rfl rfl rfl rfl ?_)

theorem keeps_writeShadow {w₀ : Nat} {s₀ : State} {s : State} {a1} {a2} (h : Keeps w₀ s₀ s)
    (hm : Sub 16777217 w₀ := by apply sub_of; assumption; with_unfolding_all rfl) : Keeps w₀ s₀ (writeShadow s a1 a2) := by
  unfold writeShadow
  with_reducible repeat' (first
    | assumption | (exact sub_of hm rfl) | apply keeps_shadowTouched | apply keeps_wrSh)

theorem keeps_initField {w₀ : Nat} {s₀ : State} {s : State} {a1} {a2} (h : Keeps w₀ s₀ s)
    (hm : Sub 50331649 w₀ := by apply sub_of; assumption; with_unfolding_all rfl) : Keeps w₀ s₀ (initField s a1 a2) := by
  unfold initField
  with_reducible repeat' (first
    | assumption | (exact sub_of hm rfl) | apply keeps_writeShadow | refine keeps_wr ?_ | split)

theorem keeps_corrTouched {w₀ : Nat} {s₀ : State} {s : State} {a1} (h : Keeps w₀ s₀ s)
    (hm : Sub 256 w₀ := by apply sub_of; assumption; with_unfolding_all rfl) : Keeps w₀ s₀ (corrTouched s a1) := by
  unfold corrTouched
  with_reducible repeat' (first
    | assumption | (exact sub_of hm rfl) | apply keeps_ite | split | refine keeps_mk rfl rfl rfl rfl rfl rfl ?_)

theorem keeps_initEntry {w₀ : Nat} {s₀ : State} {s : State} {a1} (h : Keeps w₀ s₀ s)
    (hm : Sub 50331905 w₀ := by apply sub_of; assumption; with_unfolding_all rfl) : Keeps w₀ s₀ (initEntry s a1) := by
  unfold initEntry
  with_reducible repeat' (first
    | assumption | (exact sub_of hm rfl) | apply keeps_ite | apply keeps_corrTouched | apply keeps_forEach | apply keeps_initField | intro _ _ _
    | split)

theorem keeps_portsAfterInit {w₀ : Nat} {s₀ : State} {s : State} (h : Keeps w₀ s₀ s)
    (hm : Sub 8405016 w₀ := by apply sub_of; assumption; with_unfolding_all rfl) : Keeps w₀ s₀ (portsAfterInit s) := by
  unfold portsAfterInit
  with_reducible repeat' (first
    | assumption | (exact sub_of hm rfl) | apply keeps_forEach | apply keeps_ite | apply keeps_portStart | apply keeps_portIdle | intro _ _ _)

theorem keeps_applyInit {w₀ : Nat} {s₀ : State} {s : State} (h : Keeps w₀ s₀ s)
    (hm : Sub 50331905 w₀ := by apply sub_of; assumption; with_unfolding_all rfl) : Keeps w₀ s₀ (applyInit s) := by
  unfold applyInit
  with_reducible repeat' (first
    | assumption | (exact sub_of hm rfl) | apply keeps_forEach | apply keeps_initEntry | intro _ _ _)

theorem keeps_applyInitIn {w₀ : Nat} {s₀ : State} {s : State} {a1} {a2} (h : Keeps w₀ s₀ s)
    (hm : Sub 50331905 w₀ := by apply sub_of; assumption; with_unfolding_all rfl) : Keeps w₀ s₀ (applyInitIn s a1 a2) := by
  unfold applyInitIn
  with_reducible repeat' (first
    | assumption | (exact sub_of hm rfl) | apply keeps_forEach | apply keeps_initEntry | intro _ _ _)

end Sys2Proof.Laws
end

