-- ==== Sys2Proof/Laws/KeepsReset.lean ====
section
/-! SUPPORT. What the operations of Machine/Reset.lean keep, and which parts they may change (Laws/Keeps.lean). -/

set_option Elab.async false

namespace Sys2Proof.Laws

open Sys2Proof.Machine

theorem modeOf_clearRegs (s : State) {a b : Nat} (h : 33 ≤ a) : modeOf (clearRegs s a b) = modeOf s := by
  unfold modeOf rd clearRegs regsAt
  refine get_clear _ _ ?_
  show ¬(a * 32 ≤ 1024 ∧ 1024 < b * 32)
  omega

theorem keeps_clearRegs {w₀ : Nat} {s₀ s : State} {a b : Nat} (h : Keeps w₀ s₀ s)
    (ha : 33 ≤ a ∨ w₀.testBit 25 = true := by
      first
        | exact .inl (by with_unfolding_all decide)
        | exact .inl (by with_unfolding_all show 33 ≤ _ + _; omega)
        | exact .inl (by omega)
        | exact .inr (sub_bit (by assumption) rfl))
    (hm : Sub 16777217 w₀ := by apply sub_of; assumption; with_unfolding_all rfl) : Keeps w₀ s₀ (clearRegs s a b) := by
  refine keeps_build (t := s) rfl rfl rfl id id id (fun p q => by
      cases p <;> first | rfl | exact (sub_absurd hm rfl q).elim) (fun q => ?_) h
  exact modeOf_clearRegs s (ha.resolve_right (by simp [q]))

theorem keeps_resetUnit {w₀ : Nat} {s₀ : State} {s : State} {a1} (h : Keeps w₀ s₀ s)
    (hm : Sub 16777793 w₀ := by apply sub_of; assumption; with_unfolding_all rfl) : Keeps w₀ s₀ (resetUnit s a1) := by
  unfold resetUnit
  with_reducible repeat' (first
    | assumption | (exact sub_of hm rfl) | apply keeps_txonCheck | apply keeps_forEach | apply keeps_State_modUnit | refine keeps_clearRegs ?_
    | apply keeps_updateNbLive | intro _ _ _ | refine keeps_mk rfl rfl rfl rfl rfl rfl ?_)

theorem keeps_resetCluster {w₀ : Nat} {s₀ : State} {s : State} {a1} (h : Keeps w₀ s₀ s)
    (hm : Sub 16777921 w₀ := by apply sub_of; assumption; with_unfolding_all rfl) : Keeps w₀ s₀ (resetCluster s a1) := by
  unfold resetCluster
  with_reducible repeat' (first
    | assumption | (exact sub_of hm rfl) | apply keeps_forEach | apply keeps_State_modCcal | apply keeps_State_modCluster
    | refine keeps_clearRegs ?_ | apply keeps_loTag | apply keeps_loMute | apply keeps_State_modTx | intro _ _ _ | split | refine keeps_mk rfl rfl rfl rfl rfl rfl ?_)

theorem keeps_resetNewt {w₀ : Nat} {s₀ : State} {s : State} {a1} (h : Keeps w₀ s₀ s)
    (hm : Sub 16778305 w₀ := by apply sub_of; assumption; with_unfolding_all rfl) : Keeps w₀ s₀ (resetNewt s a1) := by
  unfold resetNewt
  with_reducible repeat' (first
    | assumption | (exact sub_of hm rfl) | apply keeps_forEach | refine keeps_wr ?_ | apply keeps_State_modNewt | refine keeps_clearRegs ?_
    | apply keeps_ite | apply keeps_State_modTx | intro _ _ _)

theorem keeps_resetTile {w₀ : Nat} {s₀ : State} {s : State} {a1} (h : Keeps w₀ s₀ s)
    (hm : Sub 16779201 w₀ := by apply sub_of; assumption; with_unfolding_all rfl) : Keeps w₀ s₀ (resetTile s a1) := by
  unfold resetTile
  with_reducible repeat' (first
    | assumption | (exact sub_of hm rfl) | refine keeps_clearRegs ?_ | apply keeps_forEach | apply keeps_resetUnit | apply keeps_resetCluster
    | apply keeps_resetNewt | intro _ _ _ | refine keeps_mk rfl rfl rfl rfl rfl rfl ?_)

theorem keeps_resetDma {w₀ : Nat} {s₀ : State} {s : State} (h : Keeps w₀ s₀ s)
    (hm : Sub 16908289 w₀ := by apply sub_of; assumption; with_unfolding_all rfl) : Keeps w₀ s₀ (resetDma s) := by
  unfold resetDma
  with_reducible repeat' (first
    | assumption | (exact sub_of hm rfl) | refine keeps_clearRegs ?_ | refine keeps_mk rfl rfl rfl rfl rfl rfl ?_)

theorem keeps_resetCapture {w₀ : Nat} {s₀ : State} {s : State} (h : Keeps w₀ s₀ s)
    (hm : Sub 16842753 w₀ := by apply sub_of; assumption; with_unfolding_all rfl) : Keeps w₀ s₀ (resetCapture s) := by
  unfold resetCapture
  with_reducible repeat' (first
    | assumption | (exact sub_of hm rfl) | refine keeps_clearRegs ?_ | refine keeps_mk rfl rfl rfl rfl rfl rfl ?_)

theorem keeps_resetChorus {w₀ : Nat} {s₀ : State} {s : State} (h : Keeps w₀ s₀ s)
    (hm : Sub 16785409 w₀ := by apply sub_of; assumption; with_unfolding_all rfl) : Keeps w₀ s₀ (resetChorus s) := by
  unfold resetChorus
  with_reducible repeat' (first
    | assumption | (exact sub_of hm rfl) | refine keeps_clearRegs ?_ | refine keeps_mk rfl rfl rfl rfl rfl rfl ?_)

theorem keeps_resetPort {w₀ : Nat} {s₀ : State} {s : State} {a1} (h : Keeps w₀ s₀ s)
    (hm : Sub 25182233 w₀ := by apply sub_of; assumption; with_unfolding_all rfl) : Keeps w₀ s₀ (resetPort s a1) := by
  unfold resetPort
  with_reducible repeat' (first
    | assumption | (exact sub_of hm rfl) | apply keeps_refreshUp | apply keeps_State_modPort | refine keeps_clearRegs ?_ | apply keeps_ite
    | apply keeps_portIdle)

theorem keeps_resetPool {w₀ : Nat} {s₀ : State} {s : State} (h : Keeps w₀ s₀ s)
    (hm : Sub 16809985 w₀ := by apply sub_of; assumption; with_unfolding_all rfl) : Keeps w₀ s₀ (resetPool s) := by
  unfold resetPool
  with_reducible repeat' (first
    | assumption | (exact sub_of hm rfl) | refine keeps_wr ?_ | refine keeps_clearRegs ?_ | refine keeps_mk rfl rfl rfl rfl rfl rfl ?_)

theorem keeps_resetDatapath {w₀ : Nat} {s₀ : State} {s : State} (h : Keeps w₀ s₀ s)
    (hm : Sub 17016769 w₀ := by apply sub_of; assumption; with_unfolding_all rfl) : Keeps w₀ s₀ (resetDatapath s) := by
  unfold resetDatapath
  with_reducible repeat' (first
    | assumption | (exact sub_of hm rfl) | apply keeps_resetPool | apply keeps_resetChorus | apply keeps_resetCapture | apply keeps_resetDma
    | refine keeps_clearRegs ?_ | apply keeps_forEach | apply keeps_resetTile | intro _ _ _ | refine keeps_mk rfl rfl rfl rfl rfl rfl ?_)

theorem keeps_resetBlock {w₀ : Nat} {s₀ : State} {s : State} {a1} (h : Keeps w₀ s₀ s)
    (hm : Sub 25421785 w₀ := by apply sub_of; assumption; with_unfolding_all rfl) : Keeps w₀ s₀ (resetBlock s a1) := by
  unfold resetBlock
  with_reducible repeat' (first
    | assumption | (exact sub_of hm rfl) | apply keeps_ite | apply keeps_resetUnit | apply keeps_resetCluster | apply keeps_resetNewt
    | apply keeps_resetDma | apply keeps_resetCapture | apply keeps_resetChorus | apply keeps_resetPort | apply keeps_resetTile
    | apply keeps_resetDatapath)

theorem keeps_resetPackage {w₀ : Nat} {s₀ s : State} {reach : Nat} {por : Bool} (h : Keeps w₀ s₀ s)
    (hm : Sub 58195965 w₀ := by apply sub_of; assumption; with_unfolding_all rfl) : Keeps w₀ s₀ (resetPackage s reach por) := by
  refine keeps_ite (keeps_build (t := s) rfl rfl rfl (fun _ => rfl) (fun _ => rfl) (fun _ => rfl) (fun p q => by
      cases p <;> first | rfl | exact (sub_absurd hm rfl q).elim)
      (fun q => (sub_absurd hm rfl q).elim) h) ?_
  exact keeps_showSlots (keeps_wr (keeps_build (t := s) rfl rfl rfl (memory_clear_wf _ _) (fun _ => rfl) (fun _ => rfl) (fun p q => by
      cases p <;> first | rfl | exact (sub_absurd hm rfl q).elim)
      (fun q => (sub_absurd hm rfl q).elim) h))

theorem keeps_recordBlk {w₀ : Nat} {s₀ : State} {s : State} {a1} (h : Keeps w₀ s₀ s)
    (hm : Sub 4 w₀ := by apply sub_of; assumption; with_unfolding_all rfl) : Keeps w₀ s₀ (recordBlk s a1) := by
  unfold recordBlk
  with_reducible repeat' (first
    | assumption | (exact sub_of hm rfl) | refine keeps_wr ?_ | refine keeps_mk rfl rfl rfl rfl rfl rfl ?_)

theorem keeps_causeBit {w₀ : Nat} {s₀ : State} {s : State} {a1} (h : Keeps w₀ s₀ s) : Keeps w₀ s₀ (causeBit s a1) := by
  unfold causeBit
  with_reducible repeat' (first
    | assumption | refine keeps_wr ?_)

theorem keeps_assertNow {w₀ : Nat} {s₀ : State} {s : State} {a1} (h : Keeps w₀ s₀ s)
    (hm : Sub 66584573 w₀ := by apply sub_of; assumption; with_unfolding_all rfl) : Keeps w₀ s₀ (assertNow s a1) := by
  unfold assertNow
  with_reducible repeat' (first
    | assumption | (exact sub_of hm rfl) | apply keeps_ite | refine keeps_wr ?_ | apply keeps_resetPackage | apply keeps_causeBit
    | apply keeps_resetBlock | apply keeps_dropSleep | apply keeps_recordBlk | refine keeps_mk rfl rfl rfl rfl rfl rfl ?_)

theorem keeps_assertSrc {w₀ : Nat} {s₀ : State} {s : State} {a1} (h : Keeps w₀ s₀ s)
    (hm : Sub 66584573 w₀ := by apply sub_of; assumption; with_unfolding_all rfl) : Keeps w₀ s₀ (assertSrc s a1) := by
  unfold assertSrc
  with_reducible repeat' (first
    | assumption | (exact sub_of hm rfl) | apply keeps_ite | apply keeps_assertNow | refine keeps_mk rfl rfl rfl rfl rfl rfl ?_)

theorem keeps_assertDelayed {w₀ : Nat} {s₀ : State} {s : State} (h : Keeps w₀ s₀ s)
    (hm : Sub 66584573 w₀ := by apply sub_of; assumption; with_unfolding_all rfl) : Keeps w₀ s₀ (assertDelayed s) := by
  unfold assertDelayed
  with_reducible repeat' (first
    | assumption | (exact sub_of hm rfl) | apply keeps_forEach | apply keeps_assertSrc | intro _ _ _ | refine keeps_mk rfl rfl rfl rfl rfl rfl ?_)

theorem keeps_sourceOn {w₀ : Nat} {s₀ : State} {s : State} {a1} (h : Keeps w₀ s₀ s)
    (hm : Sub 66584573 w₀ := by apply sub_of; assumption; with_unfolding_all rfl) : Keeps w₀ s₀ (sourceOn s a1) := by
  unfold sourceOn
  with_reducible repeat' (first
    | assumption | (exact sub_of hm rfl) | apply keeps_assertSrc)

theorem keeps_showBusy {w₀ : Nat} {s₀ : State} {s : State} (h : Keeps w₀ s₀ s) : Keeps w₀ s₀ (showBusy s) := by
  unfold showBusy
  with_reducible repeat' (first
    | assumption | refine keeps_wr ?_)

theorem keeps_startSequence {w₀ : Nat} {s₀ s : State} {reach : Nat} (h : Keeps w₀ s₀ s)
    (hm : Sub 1048604 w₀ := by apply sub_of; assumption; with_unfolding_all rfl) : Keeps w₀ s₀ (startSequence s reach) := by
  have h2 : Keeps w₀ s₀ (wr (wr (forEach (List.range 20) { s with
      rst := { s.rst with widest := 0 }, events := {}, time := {}
      boot := { s.boot with system := reach == 4, loading := false } } fun s d => if domEnabled s d then s else wr s (Reg.PWR_DOM_STATE d) domOff)
      Reg.BOOT_STATUS_WARM (b2n (reach == 3 && s.boot.warmEn))) Reg.BOOT_STATUS_STEP (if reach == 3 && s.boot.warmEn then 2 else 1)) :=
    keeps_wr (keeps_wr (keeps_forEach (keeps_build (t := s) rfl rfl rfl id (fun _ => rfl) id (fun p q => by
      cases p <;> first | rfl | exact (sub_absurd hm rfl q).elim)
      (fun _ => rfl) h) fun u d hu => keeps_ite hu (keeps_wr hu)))
  exact keeps_ite (keeps_mk rfl rfl rfl rfl rfl rfl h2) h2

theorem keeps_latchStraps {w₀ : Nat} {s₀ : State} {s : State} {a1} {a2} (h : Keeps w₀ s₀ s) : Keeps w₀ s₀ (latchStraps s a1 a2) := by
  unfold latchStraps
  with_reducible repeat' (first
    | assumption | refine keeps_wr ?_)

theorem keeps_releaseSrc {w₀ : Nat} {s₀ : State} {s : State} {a1} {a2} {a3} {a4} (h : Keeps w₀ s₀ s)
    (hm : Sub 1048604 w₀ := by apply sub_of; assumption; with_unfolding_all rfl) : Keeps w₀ s₀ (releaseSrc s a1 a2 a3 a4) := by
  unfold releaseSrc
  with_reducible repeat' (first
    | assumption | (exact sub_of hm rfl) | apply keeps_ite | apply keeps_latchStraps | apply keeps_startSequence | apply keeps_showBusy | split
    | refine keeps_mk rfl rfl rfl rfl rfl rfl ?_)

theorem keeps_refuseReset {w₀ : Nat} {s₀ : State} {s : State} {a1} {a2} {a3} {a4} (h : Keeps w₀ s₀ s)
    (hm : Sub 8 w₀ := by apply sub_of; assumption; with_unfolding_all rfl) : Keeps w₀ s₀ (refuseReset s a1 a2 a3 a4) := by
  unfold refuseReset
  with_reducible repeat' (first
    | assumption | (exact sub_of hm rfl) | apply keeps_raise | apply keeps_ite | refine keeps_wr ?_)

theorem keeps_quiesceBlock {w₀ : Nat} {s₀ : State} {s : State} {a1} (h : Keeps w₀ s₀ s)
    (hm : Sub 8596552 w₀ := by apply sub_of; assumption; with_unfolding_all rfl) : Keeps w₀ s₀ (quiesceBlock s a1) := by
  unfold quiesceBlock
  with_reducible repeat' (first
    | assumption | (exact sub_of hm rfl) | apply keeps_ite | apply keeps_State_modUnit | apply keeps_markTag | apply keeps_immediateMute
    | apply keeps_State_modNewt | apply keeps_forEach | apply keeps_State_modDma | apply keeps_capStopAll | apply keeps_setChorus | intro _ _ _
    | split | refine keeps_mk rfl rfl rfl rfl rfl rfl ?_)

theorem keeps_beginRequest {w₀ : Nat} {s₀ : State} {s : State} {a1} (h : Keeps w₀ s₀ s)
    (hm : Sub 8596556 w₀ := by apply sub_of; assumption; with_unfolding_all rfl) : Keeps w₀ s₀ (beginRequest s a1) := by
  unfold beginRequest
  with_reducible repeat' (first
    | assumption | (exact sub_of hm rfl) | apply keeps_showBusy | apply keeps_forEach | apply keeps_quiesceBlock | intro _ _ _
    | refine keeps_mk rfl rfl rfl rfl rfl rfl ?_)

theorem keeps_requestBlk {w₀ : Nat} {s₀ : State} {s : State} {a1} {a2} (h : Keeps w₀ s₀ s)
    (hm : Sub 8596556 w₀ := by apply sub_of; assumption; with_unfolding_all rfl) : Keeps w₀ s₀ (requestBlk s a1 a2).1 := by
  unfold requestBlk
  with_reducible repeat' (first
    | assumption | (exact sub_of hm rfl) | apply keeps_ite_fst | apply keeps_refuseReset | apply keeps_beginRequest | split)

theorem keeps_endQuiesce {w₀ : Nat} {s₀ : State} {s : State} {a1} (h : Keeps w₀ s₀ s)
    (hm : Sub 66584573 w₀ := by apply sub_of; assumption; with_unfolding_all rfl) : Keeps w₀ s₀ (endQuiesce s a1) := by
  unfold endQuiesce
  with_reducible repeat' (first
    | assumption | (exact sub_of hm rfl) | apply keeps_showBusy | apply keeps_assertSrc | split | refine keeps_mk rfl rfl rfl rfl rfl rfl ?_)

theorem keeps_tileFault {w₀ : Nat} {s₀ : State} {s : State} {a1} (h : Keeps w₀ s₀ s)
    (hm : Sub 66584573 w₀ := by apply sub_of; assumption; with_unfolding_all rfl) : Keeps w₀ s₀ (tileFault s a1) := by
  unfold tileFault
  with_reducible repeat' (first
    | assumption | (exact sub_of hm rfl) | apply keeps_ite | apply keeps_showBusy | apply keeps_assertSrc | apply keeps_raise
    | apply keeps_beginRequest)

theorem keeps_hostReset {w₀ : Nat} {s₀ : State} {s : State} {a1} {a2} (h : Keeps w₀ s₀ s)
    (hm : Sub 8596556 w₀ := by apply sub_of; assumption; with_unfolding_all rfl) : Keeps w₀ s₀ (hostReset s a1 a2).1 := by
  unfold hostReset
  with_reducible repeat' (first
    | assumption | (exact sub_of hm rfl) | apply keeps_ite_fst | apply keeps_refuseReset | apply keeps_requestBlk | split)

theorem keeps_storeRegs {w₀ : Nat} {s₀ s : State} {a b : Nat} (h : Keeps w₀ s₀ s)
    (hm : Sub 16777216 w₀ := by apply sub_of; assumption; with_unfolding_all rfl) : Keeps w₀ s₀ (storeRegs s a b) := by
  unfold storeRegs
  split
  · exact h
  · exact keeps_build (t := s) rfl rfl rfl id id id (fun p q => by
      cases p <;> first | rfl | exact (sub_absurd hm rfl q).elim)
      (fun _ => get_putRanges _ _ _ _ _ fun r hr => storeActRanges_mode r (List.mem_filter.mp hr).1) h

theorem keeps_storeTrims {w₀ : Nat} {s₀ : State} {s : State} {a1} (h : Keeps w₀ s₀ s)
    (hm : Sub 512 w₀ := by apply sub_of; assumption; with_unfolding_all rfl) : Keeps w₀ s₀ (storeTrims s a1) := by
  unfold storeTrims
  with_reducible repeat' (first
    | assumption | (exact sub_of hm rfl) | split | refine keeps_mk rfl rfl rfl rfl rfl rfl ?_)

theorem keeps_restoreUnit {w₀ : Nat} {s₀ : State} {s : State} {a1} (h : Keeps w₀ s₀ s)
    (hm : Sub 50332481 w₀ := by apply sub_of; assumption; with_unfolding_all rfl) : Keeps w₀ s₀ (restoreUnit s a1) := by
  unfold restoreUnit
  with_reducible repeat' (first
    | assumption | (exact sub_of hm rfl) | apply keeps_archiveLoad | apply keeps_storeTrims | apply keeps_storeRegs | apply keeps_applyInitIn)

theorem keeps_restoreCluster {w₀ : Nat} {s₀ : State} {s : State} {a1} (h : Keeps w₀ s₀ s)
    (hm : Sub 50332417 w₀ := by apply sub_of; assumption; with_unfolding_all rfl) : Keeps w₀ s₀ (restoreCluster s a1) := by
  unfold restoreCluster
  with_reducible repeat' (first
    | assumption | (exact sub_of hm rfl) | apply keeps_storeRegs | apply keeps_applyInitIn | apply keeps_showDue | split
    | refine keeps_mk rfl rfl rfl rfl rfl rfl ?_)

theorem keeps_restoreNewt {w₀ : Nat} {s₀ : State} {s : State} {a1} (h : Keeps w₀ s₀ s)
    (hm : Sub 50334985 w₀ := by apply sub_of; assumption; with_unfolding_all rfl) : Keeps w₀ s₀ (restoreNewt s a1) := by
  unfold restoreNewt
  with_reducible repeat' (first
    | assumption | (exact sub_of hm rfl) | refine keeps_wr ?_ | apply keeps_applyInitIn | apply keeps_loadCore)

theorem keeps_restoreSets {w₀ : Nat} {s₀ : State} {s : State} {a1} (h : Keeps w₀ s₀ s)
    (hm : Sub 264 w₀ := by apply sub_of; assumption; with_unfolding_all rfl) : Keeps w₀ s₀ (restoreSets s a1) := by
  unfold restoreSets
  with_reducible repeat' (first
    | assumption | (exact sub_of hm rfl) | apply keeps_forEach | apply keeps_ite | apply keeps_wsetArrive | intro _ _ _ | split)

theorem keeps_restoreOwn {w₀ : Nat} {s₀ : State} {s : State} {a1} (h : Keeps w₀ s₀ s)
    (hm : Sub 58748761 w₀ := by apply sub_of; assumption; with_unfolding_all rfl) : Keeps w₀ s₀ (restoreOwn s a1) := by
  unfold restoreOwn
  with_reducible repeat' (first
    | assumption | (exact sub_of hm rfl) | apply keeps_ite | apply keeps_restoreUnit | apply keeps_restoreCluster | apply keeps_restoreNewt
    | apply keeps_applyInitIn | apply keeps_chorusRestored | apply keeps_storeRegs | apply keeps_portStart | apply keeps_restoreSets)

theorem keeps_endRestore {w₀ : Nat} {s₀ : State} {s : State} {a1} (h : Keeps w₀ s₀ s)
    (hm : Sub 58748765 w₀ := by apply sub_of; assumption; with_unfolding_all rfl) : Keeps w₀ s₀ (endRestore s a1) := by
  unfold endRestore
  with_reducible repeat' (first
    | assumption | (exact sub_of hm rfl) | apply keeps_raise | apply keeps_showBusy | apply keeps_forEach | apply keeps_ite
    | apply keeps_applyInitIn | apply keeps_restoreOwn | intro _ _ _ | refine keeps_mk rfl rfl rfl rfl rfl rfl ?_)

theorem keeps_beginLoad {w₀ : Nat} {s₀ : State} {s : State} (h : Keeps w₀ s₀ s)
    (hm : Sub 1048576 w₀ := by apply sub_of; assumption; with_unfolding_all rfl) : Keeps w₀ s₀ (beginLoad s) := by
  unfold beginLoad
  with_reducible repeat' (first
    | assumption | (exact sub_of hm rfl) | refine keeps_wr ?_ | refine keeps_mk rfl rfl rfl rfl rfl rfl ?_)

theorem keeps_endLoad {w₀ : Nat} {s₀ : State} {s : State} {a1} (h : Keeps w₀ s₀ s)
    (hm : Sub 67108861 w₀ := by apply sub_of; assumption; with_unfolding_all rfl) : Keeps w₀ s₀ (endLoad s a1) := by
  unfold endLoad
  with_reducible repeat' (first
    | assumption | (exact sub_of hm rfl) | apply keeps_ite | apply keeps_assertDelayed | refine keeps_wr ?_ | apply keeps_biasLoad
    | apply keeps_logEntry | apply keeps_fatal | refine keeps_mk rfl rfl rfl rfl rfl rfl ?_)

theorem keepsO_execPor {w₀ : Nat} {s₀ : State} {s : State} (h : Keeps w₀ s₀ s)
    (hm : Sub 66584573 w₀ := by apply sub_of; assumption; with_unfolding_all rfl) : KeepsO w₀ s₀ (execPor s) := by
  unfold execPor
  with_reducible repeat' (first
    | assumption | (exact sub_of hm rfl) | apply keepsO_next | apply keeps_sourceOn)

theorem keepsO_execNrstIn {w₀ : Nat} {s₀ : State} {s : State} (h : Keeps w₀ s₀ s)
    (hm : Sub 66584573 w₀ := by apply sub_of; assumption; with_unfolding_all rfl) : KeepsO w₀ s₀ (execNrstIn s) := by
  unfold execNrstIn
  with_reducible repeat' (first
    | assumption | (exact sub_of hm rfl) | apply keepsO_next | apply keeps_ite | apply keeps_sourceOn)

theorem keepsO_execWdog {w₀ : Nat} {s₀ : State} {s : State} (h : Keeps w₀ s₀ s)
    (hm : Sub 66584573 w₀ := by apply sub_of; assumption; with_unfolding_all rfl) : KeepsO w₀ s₀ (execWdog s) := by
  unfold execWdog
  with_reducible repeat' (first
    | assumption | (exact sub_of hm rfl) | apply keepsO_next | apply keeps_ite | apply keeps_sourceOn)

theorem keepsO_execJtagReset {w₀ : Nat} {s₀ : State} {s : State} (h : Keeps w₀ s₀ s)
    (hm : Sub 66584573 w₀ := by apply sub_of; assumption; with_unfolding_all rfl) : KeepsO w₀ s₀ (execJtagReset s) := by
  unfold execJtagReset
  with_reducible repeat' (first
    | assumption | (exact sub_of hm rfl) | apply keepsO_next | apply keeps_ite | apply keeps_sourceOn)

theorem keepsO_execTileFault {w₀ : Nat} {s₀ : State} {a0} {s : State} (h : Keeps w₀ s₀ s)
    (hm : Sub 66584573 w₀ := by apply sub_of; assumption; with_unfolding_all rfl) : KeepsO w₀ s₀ (execTileFault a0 s) := by
  unfold execTileFault
  with_reducible repeat' (first
    | assumption | (exact sub_of hm rfl) | apply keepsO_next | apply keeps_tileFault)

theorem keepsO_execResetRelease {w₀ : Nat} {s₀ : State} {a0} {a1} {a2} {a3} {s : State} (h : Keeps w₀ s₀ s)
    (hm : Sub 1048604 w₀ := by apply sub_of; assumption; with_unfolding_all rfl) : KeepsO w₀ s₀ (execResetRelease a0 a1 a2 a3 s) := by
  unfold execResetRelease
  with_reducible repeat' (first
    | assumption | (exact sub_of hm rfl) | apply keepsO_next | apply keeps_ite | apply keeps_releaseSrc)

theorem keepsO_execBlkResetGo {w₀ : Nat} {s₀ : State} {a0} {s : State} (h : Keeps w₀ s₀ s)
    (hm : Sub 8596556 w₀ := by apply sub_of; assumption; with_unfolding_all rfl) : KeepsO w₀ s₀ (execBlkResetGo a0 s) := by
  unfold execBlkResetGo
  with_reducible repeat' (first
    | assumption | (exact sub_of hm rfl) | apply keepsO_next | apply keeps_requestBlk | refine keeps_wr ?_)

theorem keepsO_execQuiesceAck {w₀ : Nat} {s₀ : State} {s : State} (h : Keeps w₀ s₀ s)
    (hm : Sub 66584573 w₀ := by apply sub_of; assumption; with_unfolding_all rfl) : KeepsO w₀ s₀ (execQuiesceAck s) := by
  unfold execQuiesceAck
  with_reducible repeat' (first
    | assumption | (exact sub_of hm rfl) | apply keepsO_next | apply keeps_ite | apply keeps_endQuiesce)

theorem keepsO_execQuiesceTimeout {w₀ : Nat} {s₀ : State} {s : State} (h : Keeps w₀ s₀ s)
    (hm : Sub 66584573 w₀ := by apply sub_of; assumption; with_unfolding_all rfl) : KeepsO w₀ s₀ (execQuiesceTimeout s) := by
  unfold execQuiesceTimeout
  with_reducible repeat' (first
    | assumption | (exact sub_of hm rfl) | apply keepsO_next | apply keeps_endQuiesce)

theorem keepsO_execBlockRestored {w₀ : Nat} {s₀ : State} {a0} {s : State} (h : Keeps w₀ s₀ s)
    (hm : Sub 58748765 w₀ := by apply sub_of; assumption; with_unfolding_all rfl) : KeepsO w₀ s₀ (execBlockRestored a0 s) := by
  unfold execBlockRestored
  with_reducible repeat' (first
    | assumption | (exact sub_of hm rfl) | apply keepsO_next | apply keeps_endRestore | split)

theorem keepsO_execMtpPulseEnd {w₀ : Nat} {s₀ : State} {s : State} (h : Keeps w₀ s₀ s)
    (hm : Sub 66584573 w₀ := by apply sub_of; assumption; with_unfolding_all rfl) : KeepsO w₀ s₀ (execMtpPulseEnd s) := by
  unfold execMtpPulseEnd
  with_reducible repeat' (first
    | assumption | (exact sub_of hm rfl) | apply keepsO_next | apply keeps_ite | apply keeps_assertDelayed
    | refine keeps_mk rfl rfl rfl rfl rfl rfl ?_)

theorem keepsO_execFlashBusyTimeout {w₀ : Nat} {s₀ : State} {s : State} (h : Keeps w₀ s₀ s) : KeepsO w₀ s₀ (execFlashBusyTimeout s) := by
  unfold execFlashBusyTimeout
  with_reducible repeat' (first
    | assumption | apply keepsO_next)

theorem keepsO_execReloadTrim {w₀ : Nat} {s₀ : State} {s : State} (h : Keeps w₀ s₀ s)
    (hm : Sub 1048584 w₀ := by apply sub_of; assumption; with_unfolding_all rfl) : KeepsO w₀ s₀ (execReloadTrim s) := by
  unfold execReloadTrim
  with_reducible repeat' (first
    | assumption | (exact sub_of hm rfl) | apply keepsO_next | apply keeps_ite | apply keeps_beginLoad | apply keeps_refuseReset)

theorem keepsO_execTrimLoadDone {w₀ : Nat} {s₀ : State} {a0} {s : State} (h : Keeps w₀ s₀ s)
    (hm : Sub 67108861 w₀ := by apply sub_of; assumption; with_unfolding_all rfl) : KeepsO w₀ s₀ (execTrimLoadDone a0 s) := by
  unfold execTrimLoadDone
  with_reducible repeat' (first
    | assumption | (exact sub_of hm rfl) | apply keepsO_next | apply keeps_endLoad)

end Sys2Proof.Laws
end

