-- ==== Sys2Proof/Laws/KeepsSecSrv.lean ====
section
/-! SUPPORT. What the operations of Machine/SecSrv.lean keep, and which parts they may change (Laws/Keeps.lean). -/

set_option Elab.async false

namespace Sys2Proof.Laws

open Sys2Proof.Machine

theorem keeps_showApproved {w₀ : Nat} {s₀ : State} {s : State} (h : Keeps w₀ s₀ s) : Keeps w₀ s₀ (showApproved s) := by
  unfold showApproved
  with_reducible repeat' (first
    | assumption | refine keeps_wr ?_)

theorem keeps_putResponse {w₀ : Nat} {s₀ : State} {s : State} {a1} (h : Keeps w₀ s₀ s) : Keeps w₀ s₀ (putResponse s a1) := by
  unfold putResponse
  with_reducible repeat' (first
    | assumption | apply keeps_forEach | refine keeps_wr ?_ | intro _ _ _)

theorem keeps_serviceDone {w₀ : Nat} {s₀ : State} {s : State} {a1} {a2} {a3} (h : Keeps w₀ s₀ s)
    (hm : Sub 2097152 w₀ := by apply sub_of; assumption; with_unfolding_all rfl) : Keeps w₀ s₀ (serviceDone s a1 a2 a3) := by
  unfold serviceDone
  with_reducible repeat' (first
    | assumption | (exact sub_of hm rfl) | apply keeps_putResponse | refine keeps_wr ?_ | refine keeps_mk rfl rfl rfl rfl rfl rfl ?_)

theorem keeps_serviceGo {w₀ : Nat} {s₀ : State} {s : State} {a1} (h : Keeps w₀ s₀ s)
    (hm : Sub 2097160 w₀ := by apply sub_of; assumption; with_unfolding_all rfl) : Keeps w₀ s₀ (serviceGo s a1) := by
  unfold serviceGo
  with_reducible repeat' (first
    | assumption | (exact sub_of hm rfl) | apply keeps_ite | apply keeps_cfgIgnored | apply keeps_serviceDone | apply keeps_putResponse
    | refine keeps_wr ?_ | refine keeps_mk rfl rfl rfl rfl rfl rfl ?_)

theorem keeps_runService {w₀ : Nat} {s₀ s : State} {sv : Nat} {len : Option Nat} {role : Nat} {modes : List Nat} {f : State → Nat → List Nat → State}
    (h : Keeps w₀ s₀ s) (hf : ∀ u r q, Keeps w₀ s₀ u → Keeps w₀ s₀ (f u r q))
    (hm : Sub 2097152 w₀ := by apply sub_of; assumption; with_unfolding_all rfl) : Keeps w₀ s₀ (runService s sv len role modes f) := by
  unfold runService
  split
  · exact h
  · exact keeps_ite h (keeps_ite (keeps_serviceDone h) (keeps_ite (keeps_serviceDone h) (keeps_ite (keeps_serviceDone h)
      (keeps_ite (keeps_serviceDone h) (hf _ _ _ h)))))

theorem keeps_freeBytes {w₀ : Nat} {s₀ : State} {s : State} {a1} (h : Keeps w₀ s₀ s)
    (hm : Sub 8388608 w₀ := by apply sub_of; assumption; with_unfolding_all rfl) : Keeps w₀ s₀ (freeBytes s a1).2 := by
  unfold freeBytes
  with_reducible repeat' (first
    | assumption | (exact sub_of hm rfl) | apply keeps_takeFree)

theorem keeps_selfTests {w₀ : Nat} {s₀ : State} {s : State} {a1} (h : Keeps w₀ s₀ s)
    (hm : Sub 66416121 w₀ := by apply sub_of; assumption; with_unfolding_all rfl) : Keeps w₀ s₀ (selfTests s a1) := by
  unfold selfTests
  with_reducible repeat' (first
    | assumption | (exact sub_of hm rfl) | apply keeps_ite | apply keeps_showApproved | refine keeps_wr ?_ | apply keeps_fatal
    | refine keeps_mk rfl rfl rfl rfl rfl rfl ?_)

theorem keeps_eraseSecrets {w₀ : Nat} {s₀ : State} {s : State} (h : Keeps w₀ s₀ s)
    (hm : Sub 2097152 w₀ := by apply sub_of; assumption; with_unfolding_all rfl) : Keeps w₀ s₀ (eraseSecrets s) := by
  unfold eraseSecrets
  with_reducible repeat' (first
    | assumption | (exact sub_of hm rfl) | apply keeps_showSlots | refine keeps_mk rfl rfl rfl rfl rfl rfl ?_)

theorem keeps_tamper {w₀ : Nat} {s₀ : State} {s : State} {a1} (h : Keeps w₀ s₀ s)
    (hm : Sub 66584573 w₀ := by apply sub_of; assumption; with_unfolding_all rfl) : Keeps w₀ s₀ (tamper s a1) := by
  unfold tamper
  with_reducible repeat' (first
    | assumption | (exact sub_of hm rfl) | apply keeps_sourceOn | refine keeps_wr ?_ | apply keeps_eraseSecrets)

theorem keeps_hubTamper {w₀ : Nat} {s₀ : State} {s : State} {a1} (h : Keeps w₀ s₀ s)
    (hm : Sub 66584573 w₀ := by apply sub_of; assumption; with_unfolding_all rfl) : Keeps w₀ s₀ (hubTamper s a1) := by
  unfold hubTamper
  with_reducible repeat' (first
    | assumption | (exact sub_of hm rfl) | apply keeps_ite | apply keeps_tamper)

theorem keeps_keyImport {w₀ : Nat} {s₀ : State} {s : State} {a1} {a2} (h : Keeps w₀ s₀ s)
    (hm : Sub 2097152 w₀ := by apply sub_of; assumption; with_unfolding_all rfl) : Keeps w₀ s₀ (keyImport s a1 a2) := by
  unfold keyImport
  with_reducible repeat' (first
    | assumption | (exact sub_of hm rfl) | apply keeps_ite | apply keeps_serviceDone | apply keeps_setSlot | split
    | refine keeps_mk rfl rfl rfl rfl rfl rfl ?_)

theorem keeps_keyDelete {w₀ : Nat} {s₀ : State} {s : State} {a1} {a2} (h : Keeps w₀ s₀ s)
    (hm : Sub 2097152 w₀ := by apply sub_of; assumption; with_unfolding_all rfl) : Keeps w₀ s₀ (keyDelete s a1 a2) := by
  unfold keyDelete
  with_reducible repeat' (first
    | assumption | (exact sub_of hm rfl) | apply keeps_ite | apply keeps_serviceDone | apply keeps_setSlot
    | refine keeps_mk rfl rfl rfl rfl rfl rfl ?_)

theorem keeps_rollbackCommit {w₀ : Nat} {s₀ : State} {s : State} {a1} (h : Keeps w₀ s₀ s)
    (hm : Sub 2097164 w₀ := by apply sub_of; assumption; with_unfolding_all rfl) : Keeps w₀ s₀ (rollbackCommit s a1) := by
  unfold rollbackCommit
  with_reducible repeat' (first
    | assumption | (exact sub_of hm rfl) | apply keeps_serviceDone | apply keeps_ite | apply keeps_raise | refine keeps_wr ?_ | split
    | refine keeps_mk rfl rfl rfl rfl rfl rfl ?_)

/-- No field that FUSE_PROGRAM writes is the grade. -/
theorem fuseGet_grade {x : Fuses} {n k old : Nat} {put : Nat → Fuses} (h : fuseGet x n = some (k, old, put)) (v : Nat) :
    (put v).grade = x.grade := by
  unfold fuseGet at h
  split at h <;> first | cases h; rfl | cases h

theorem keeps_fuseProgram {w₀ : Nat} {s₀ s : State} {r : Nat} {q : List Nat} (h : Keeps w₀ s₀ s)
    (hm : Sub 2097162 w₀ := by apply sub_of; assumption; with_unfolding_all rfl) : Keeps w₀ s₀ (fuseProgram s r q) := by
  unfold fuseProgram
  split
  · exact keeps_serviceDone h
  · rename_i hx
    exact keeps_ite (keeps_serviceDone h) (keeps_ite (keeps_serviceDone h) (keeps_ite (keeps_serviceDone h)
      (keeps_serviceDone (keeps_raise (keeps_mk rfl rfl (fuseGet_grade hx _) rfl rfl rfl h)))))

theorem keeps_newChallenge {w₀ : Nat} {s₀ : State} {s : State} (h : Keeps w₀ s₀ s)
    (hm : Sub 10485760 w₀ := by apply sub_of; assumption; with_unfolding_all rfl) : Keeps w₀ s₀ (newChallenge s).2 := by
  unfold newChallenge
  with_reducible repeat' (first
    | assumption | (exact sub_of hm rfl) | apply keeps_freeBytes | refine keeps_mk rfl rfl rfl rfl rfl rfl ?_)

theorem keeps_debugResponse {w₀ : Nat} {s₀ : State} {s : State} {a1} (h : Keeps w₀ s₀ s)
    (hm : Sub 2097160 w₀ := by apply sub_of; assumption; with_unfolding_all rfl) : Keeps w₀ s₀ (debugResponse s a1).1 := by
  unfold debugResponse
  with_reducible repeat' (first
    | assumption | (exact sub_of hm rfl) | apply keeps_ite_fst | apply keeps_raise | apply keeps_showApproved | apply keeps_showSlots
    | refine keeps_wr ?_ | split | refine keeps_mk rfl rfl rfl rfl rfl rfl ?_)

theorem keepsO_execStatus {w₀ : Nat} {s₀ : State} {s : State} (h : Keeps w₀ s₀ s)
    (hm : Sub 10485760 w₀ := by apply sub_of; assumption; with_unfolding_all rfl) : KeepsO w₀ s₀ (execStatus s) := by
  unfold execStatus
  with_reducible repeat' (first
    | assumption | (exact sub_of hm rfl) | apply keepsO_next | apply keeps_ite | apply keeps_serviceDone | apply keeps_freeBytes | split)

theorem keepsO_execSelftest {w₀ : Nat} {s₀ : State} {a0} {s : State} (h : Keeps w₀ s₀ s)
    (hm : Sub 66416121 w₀ := by apply sub_of; assumption; with_unfolding_all rfl) : KeepsO w₀ s₀ (execSelftest a0 s) := by
  unfold execSelftest
  with_reducible repeat' (first
    | assumption | (exact sub_of hm rfl) | apply keepsO_next | apply keeps_runService | apply keeps_serviceDone | apply keeps_selfTests
    | intro _ _ _ _ | split)

theorem keepsO_execZeroise {w₀ : Nat} {s₀ : State} {s : State} (h : Keeps w₀ s₀ s)
    (hm : Sub 66584573 w₀ := by apply sub_of; assumption; with_unfolding_all rfl) : KeepsO w₀ s₀ (execZeroise s) := by
  unfold execZeroise
  with_reducible repeat' (first
    | assumption | (exact sub_of hm rfl) | apply keepsO_next | apply keeps_runService | apply keeps_sourceOn | refine keeps_wr ?_
    | apply keeps_eraseSecrets | apply keeps_serviceDone | intro _ _ _ _)

theorem keepsO_execIdentity {w₀ : Nat} {s₀ : State} {s : State} (h : Keeps w₀ s₀ s)
    (hm : Sub 2097152 w₀ := by apply sub_of; assumption; with_unfolding_all rfl) : KeepsO w₀ s₀ (execIdentity s) := by
  unfold execIdentity
  with_reducible repeat' (first
    | assumption | (exact sub_of hm rfl) | apply keepsO_next | apply keeps_runService | apply keeps_serviceDone | intro _ _ _ _)

theorem keepsO_execKeyImport {w₀ : Nat} {s₀ : State} {s : State} (h : Keeps w₀ s₀ s)
    (hm : Sub 2097152 w₀ := by apply sub_of; assumption; with_unfolding_all rfl) : KeepsO w₀ s₀ (execKeyImport s) := by
  unfold execKeyImport
  with_reducible repeat' (first
    | assumption | (exact sub_of hm rfl) | apply keepsO_next | apply keeps_runService | apply keeps_keyImport | intro _ _ _ _)

theorem keepsO_execKeyDelete {w₀ : Nat} {s₀ : State} {s : State} (h : Keeps w₀ s₀ s)
    (hm : Sub 2097152 w₀ := by apply sub_of; assumption; with_unfolding_all rfl) : KeepsO w₀ s₀ (execKeyDelete s) := by
  unfold execKeyDelete
  with_reducible repeat' (first
    | assumption | (exact sub_of hm rfl) | apply keepsO_next | apply keeps_runService | apply keeps_keyDelete | intro _ _ _ _)

theorem keepsO_execKeyStatus {w₀ : Nat} {s₀ : State} {s : State} (h : Keeps w₀ s₀ s)
    (hm : Sub 2097152 w₀ := by apply sub_of; assumption; with_unfolding_all rfl) : KeepsO w₀ s₀ (execKeyStatus s) := by
  unfold execKeyStatus
  with_reducible repeat' (first
    | assumption | (exact sub_of hm rfl) | apply keepsO_next | apply keeps_runService | apply keeps_serviceDone | intro _ _ _ _)

theorem keepsO_execRollbackCommit {w₀ : Nat} {s₀ : State} {s : State} (h : Keeps w₀ s₀ s)
    (hm : Sub 2097164 w₀ := by apply sub_of; assumption; with_unfolding_all rfl) : KeepsO w₀ s₀ (execRollbackCommit s) := by
  unfold execRollbackCommit
  with_reducible repeat' (first
    | assumption | (exact sub_of hm rfl) | apply keepsO_next | apply keeps_runService | apply keeps_rollbackCommit | intro _ _ _ _)

theorem keepsO_execFuseProgram {w₀ : Nat} {s₀ : State} {s : State} (h : Keeps w₀ s₀ s)
    (hm : Sub 2097162 w₀ := by apply sub_of; assumption; with_unfolding_all rfl) : KeepsO w₀ s₀ (execFuseProgram s) := by
  unfold execFuseProgram
  with_reducible repeat' (first
    | assumption | (exact sub_of hm rfl) | apply keepsO_next | apply keeps_runService | apply keeps_fuseProgram | intro _ _ _ _)

theorem keepsO_execFuseRead {w₀ : Nat} {s₀ : State} {s : State} (h : Keeps w₀ s₀ s)
    (hm : Sub 2097152 w₀ := by apply sub_of; assumption; with_unfolding_all rfl) : KeepsO w₀ s₀ (execFuseRead s) := by
  unfold execFuseRead
  with_reducible repeat' (first
    | assumption | (exact sub_of hm rfl) | apply keepsO_next | apply keeps_runService | apply keeps_serviceDone | intro _ _ _ _)

theorem keepsO_execDbgChallenge {w₀ : Nat} {s₀ : State} {s : State} (h : Keeps w₀ s₀ s)
    (hm : Sub 10485760 w₀ := by apply sub_of; assumption; with_unfolding_all rfl) : KeepsO w₀ s₀ (execDbgChallenge s) := by
  unfold execDbgChallenge
  with_reducible repeat' (first
    | assumption | (exact sub_of hm rfl) | apply keepsO_next | apply keeps_runService | apply keeps_serviceDone | apply keeps_newChallenge
    | intro _ _ _ _)

theorem keepsO_execDbgResponse {w₀ : Nat} {s₀ : State} {s : State} (h : Keeps w₀ s₀ s)
    (hm : Sub 2097160 w₀ := by apply sub_of; assumption; with_unfolding_all rfl) : KeepsO w₀ s₀ (execDbgResponse s) := by
  unfold execDbgResponse
  with_reducible repeat' (first
    | assumption | (exact sub_of hm rfl) | apply keepsO_next | apply keeps_runService | apply keeps_serviceDone | apply keeps_debugResponse
    | intro _ _ _ _ | split)

theorem keepsO_execRandom {w₀ : Nat} {s₀ : State} {s : State} (h : Keeps w₀ s₀ s)
    (hm : Sub 10485760 w₀ := by apply sub_of; assumption; with_unfolding_all rfl) : KeepsO w₀ s₀ (execRandom s) := by
  unfold execRandom
  with_reducible repeat' (first
    | assumption | (exact sub_of hm rfl) | apply keepsO_next | apply keeps_runService | apply keeps_ite | apply keeps_serviceDone
    | apply keeps_freeBytes | intro _ _ _ _)

theorem keepsO_execSecChal {w₀ : Nat} {s₀ : State} {s : State} (h : Keeps w₀ s₀ s)
    (hm : Sub 10485760 w₀ := by apply sub_of; assumption; with_unfolding_all rfl) : KeepsO w₀ s₀ (execSecChal s) := by
  unfold execSecChal
  with_reducible repeat' (first
    | assumption | (exact sub_of hm rfl) | apply keepsO_next | apply keeps_ite | apply keeps_newChallenge
    | refine keeps_mk rfl rfl rfl rfl rfl rfl ?_)

theorem keepsO_execSecResp {w₀ : Nat} {s₀ : State} {a0} {s : State} (h : Keeps w₀ s₀ s)
    (hm : Sub 2097160 w₀ := by apply sub_of; assumption; with_unfolding_all rfl) : KeepsO w₀ s₀ (execSecResp a0 s) := by
  unfold execSecResp
  with_reducible repeat' (first
    | assumption | (exact sub_of hm rfl) | apply keepsO_next | apply keeps_ite | apply keeps_debugResponse
    | refine keeps_mk rfl rfl rfl rfl rfl rfl ?_)

theorem keepsO_execKeyLockExpire {w₀ : Nat} {s₀ : State} {a0} {s : State} (h : Keeps w₀ s₀ s) : KeepsO w₀ s₀ (execKeyLockExpire a0 s) := by
  unfold execKeyLockExpire
  with_reducible repeat' (first
    | assumption | apply keepsO_next | refine keeps_wr ?_)

theorem keepsO_execDbgChallengeExpire {w₀ : Nat} {s₀ : State} {s : State} (h : Keeps w₀ s₀ s)
    (hm : Sub 2097152 w₀ := by apply sub_of; assumption; with_unfolding_all rfl) : KeepsO w₀ s₀ (execDbgChallengeExpire s) := by
  unfold execDbgChallengeExpire
  with_reducible repeat' (first
    | assumption | (exact sub_of hm rfl) | apply keepsO_next | refine keeps_mk rfl rfl rfl rfl rfl rfl ?_)

theorem keepsO_execTamper {w₀ : Nat} {s₀ : State} {a0} {s : State} (h : Keeps w₀ s₀ s)
    (hm : Sub 66584573 w₀ := by apply sub_of; assumption; with_unfolding_all rfl) : KeepsO w₀ s₀ (execTamper a0 s) := by
  unfold execTamper
  with_reducible repeat' (first
    | assumption | (exact sub_of hm rfl) | apply keepsO_next | apply keeps_ite | apply keeps_tamper)

theorem keeps_setClock {w₀ : Nat} {s₀ : State} {s : State} {a1} {a2} (h : Keeps w₀ s₀ s)
    (hm : Sub 4 w₀ := by apply sub_of; assumption; with_unfolding_all rfl) : Keeps w₀ s₀ (setClock s a1 a2) := by
  unfold setClock
  with_reducible repeat' (first
    | assumption | (exact sub_of hm rfl) | split | refine keeps_mk rfl rfl rfl rfl rfl rfl ?_)

theorem keeps_judgeClock {w₀ : Nat} {s₀ : State} {s : State} {a1} {a2} (h : Keeps w₀ s₀ s)
    (hm : Sub 66584573 w₀ := by apply sub_of; assumption; with_unfolding_all rfl) : Keeps w₀ s₀ (judgeClock s a1 a2) := by
  unfold judgeClock
  with_reducible repeat' (first
    | assumption | (exact sub_of hm rfl) | apply keeps_ite | apply keeps_setClock | apply keeps_fatal | apply keeps_linkBackup
    | apply keeps_sourceOn | apply keeps_tamper)

theorem keepsO_execClockMonitorWindow {w₀ : Nat} {s₀ : State} {a0} {a1} {a2} {s : State} (h : Keeps w₀ s₀ s)
    (hm : Sub 66584573 w₀ := by apply sub_of; assumption; with_unfolding_all rfl) : KeepsO w₀ s₀ (execClockMonitorWindow a0 a1 a2 s) := by
  unfold execClockMonitorWindow
  with_reducible repeat' (first
    | assumption | (exact sub_of hm rfl) | apply keepsO_next | apply keeps_judgeClock | apply keeps_ite)

end Sys2Proof.Laws
end

