-- ==== Sys2Proof/Laws/KeepsStart.lean ====
section
/-! SUPPORT. What the operations of Machine/Start.lean keep, and which parts they may change (Laws/Keeps.lean). -/

set_option Elab.async false

namespace Sys2Proof.Laws

open Sys2Proof.Machine

theorem keeps_markFailed {w₀ : Nat} {s₀ : State} {s : State} {a1} (h : Keeps w₀ s₀ s)
    (hm : Sub 4096 w₀ := by apply sub_of; assumption; with_unfolding_all rfl) : Keeps w₀ s₀ (markFailed s a1) := by
  unfold markFailed
  with_reducible repeat' (first
    | assumption | (exact sub_of hm rfl) | refine keeps_wr ?_ | refine keeps_mk rfl rfl rfl rfl rfl rfl ?_)

theorem keeps_failDomain {w₀ : Nat} {s₀ : State} {s : State} {a1} {a2} (h : Keeps w₀ s₀ s)
    (hm : Sub 8409112 w₀ := by apply sub_of; assumption; with_unfolding_all rfl) : Keeps w₀ s₀ (failDomain s a1 a2) := by
  unfold failDomain
  with_reducible repeat' (first
    | assumption | (exact sub_of hm rfl) | apply keeps_ite | apply keeps_portIdle | apply keeps_raise | refine keeps_wr ?_ | apply keeps_markFailed)

theorem keeps_failStep {w₀ : Nat} {s₀ : State} {s : State} {a1} {a2} (h : Keeps w₀ s₀ s)
    (hm : Sub 64323069 w₀ := by apply sub_of; assumption; with_unfolding_all rfl) : Keeps w₀ s₀ (failStep s a1 a2) := by
  unfold failStep
  with_reducible repeat' (first
    | assumption | (exact sub_of hm rfl) | apply keeps_ite | apply keeps_fatal | apply keeps_linkBackup | apply keeps_failDomain
    | refine keeps_mk rfl rfl rfl rfl rfl rfl ?_)

theorem keeps_setStep {w₀ : Nat} {s₀ : State} {s : State} {a1} (h : Keeps w₀ s₀ s) : Keeps w₀ s₀ (setStep s a1) := by
  unfold setStep
  with_reducible repeat' (first
    | assumption | refine keeps_wr ?_)

theorem keeps_beginImage {w₀ : Nat} {s₀ : State} {s : State} (h : Keeps w₀ s₀ s)
    (hm : Sub 8405016 w₀ := by apply sub_of; assumption; with_unfolding_all rfl) : Keeps w₀ s₀ (beginImage s) := by
  unfold beginImage
  with_reducible repeat' (first
    | assumption | (exact sub_of hm rfl) | apply keeps_ite | apply keeps_linkBringUp | apply keeps_setStep)

theorem keeps_endStep3 {w₀ : Nat} {s₀ : State} {s : State} (h : Keeps w₀ s₀ s)
    (hm : Sub 64318969 w₀ := by apply sub_of; assumption; with_unfolding_all rfl) : Keeps w₀ s₀ (endStep3 s) := by
  unfold endStep3
  with_reducible repeat' (first
    | assumption | (exact sub_of hm rfl) | apply keeps_ite | apply keeps_fatal | apply keeps_linkBackup | refine keeps_wr ?_ | apply keeps_setStep
    | split)

theorem keeps_rebuildSlots {w₀ : Nat} {s₀ : State} {s : State} (h : Keeps w₀ s₀ s)
    (hm : Sub 2097152 w₀ := by apply sub_of; assumption; with_unfolding_all rfl) : Keeps w₀ s₀ (rebuildSlots s) := by
  unfold rebuildSlots
  with_reducible repeat' (first
    | assumption | (exact sub_of hm rfl) | apply keeps_showSlots | refine keeps_mk rfl rfl rfl rfl rfl rfl ?_)

theorem keeps_endStep4 {w₀ : Nat} {s₀ : State} {s : State} {a1} (h : Keeps w₀ s₀ s)
    (hm : Sub 66416121 w₀ := by apply sub_of; assumption; with_unfolding_all rfl) : Keeps w₀ s₀ (endStep4 s a1) := by
  unfold endStep4
  with_reducible repeat' (first
    | assumption | (exact sub_of hm rfl) | apply keeps_ite | apply keeps_setStep | apply keeps_selfTests | apply keeps_rebuildSlots)

theorem keeps_endStep5 {w₀ : Nat} {s₀ : State} {s : State} (h : Keeps w₀ s₀ s)
    (hm : Sub 8405016 w₀ := by apply sub_of; assumption; with_unfolding_all rfl) : Keeps w₀ s₀ (endStep5 s) := by
  unfold endStep5
  with_reducible repeat' (first
    | assumption | (exact sub_of hm rfl) | apply keeps_ite | apply keeps_setStep | apply keeps_beginImage)

theorem keeps_endStep6 {w₀ : Nat} {s₀ : State} {s : State} (h : Keeps w₀ s₀ s)
    (hm : Sub 64843257 w₀ := by apply sub_of; assumption; with_unfolding_all rfl) : Keeps w₀ s₀ (endStep6 s) := by
  unfold endStep6
  with_reducible repeat' (first
    | assumption | (exact sub_of hm rfl) | apply keeps_ite | apply keeps_setStep | refine keeps_wr ?_ | apply keeps_raiseIf | apply keeps_fatal
    | apply keeps_linkBackup | apply keeps_logEntry | split | refine keeps_mk rfl rfl rfl rfl rfl rfl ?_)

theorem keeps_endStep7 {w₀ : Nat} {s₀ : State} {s : State} (h : Keeps w₀ s₀ s)
    (hm : Sub 9977880 w₀ := by apply sub_of; assumption; with_unfolding_all rfl) : Keeps w₀ s₀ (endStep7 s) := by
  unfold endStep7
  with_reducible repeat' (first
    | assumption | (exact sub_of hm rfl) | apply keeps_setStep | refine keeps_wr ?_ | apply keeps_beginImage | apply keeps_logEntry | split
    | refine keeps_mk rfl rfl rfl rfl rfl rfl ?_)

theorem keeps_endStep8 {w₀ : Nat} {s₀ : State} {s : State} {a1} (h : Keeps w₀ s₀ s)
    (hm : Sub 64323069 w₀ := by apply sub_of; assumption; with_unfolding_all rfl) : Keeps w₀ s₀ (endStep8 s a1) := by
  unfold endStep8
  with_reducible repeat' (first
    | assumption | (exact sub_of hm rfl) | apply keeps_ite | apply keeps_setStep | refine keeps_wr ?_ | apply keeps_failStep)

theorem keeps_loadPlanEntry {w₀ : Nat} {s₀ : State} {s : State} {a1} (h : Keeps w₀ s₀ s)
    (hm : Sub 16777217 w₀ := by apply sub_of; assumption; with_unfolding_all rfl) : Keeps w₀ s₀ (loadPlanEntry s a1) := by
  unfold loadPlanEntry
  with_reducible repeat' (first
    | assumption | (exact sub_of hm rfl) | apply keeps_forEach | apply keeps_writeShadow | intro _ _ _)

theorem keeps_loadPlan {w₀ : Nat} {s₀ : State} {s : State} {a1} (h : Keeps w₀ s₀ s)
    (hm : Sub 16777225 w₀ := by apply sub_of; assumption; with_unfolding_all rfl) : Keeps w₀ s₀ (loadPlan s a1) := by
  unfold loadPlan
  with_reducible repeat' (first
    | assumption | (exact sub_of hm rfl) | apply keeps_ite | apply keeps_loadPlanEntry | apply keeps_raise | refine keeps_wr ?_ | split)

theorem keeps_endStep9 {w₀ : Nat} {s₀ : State} {s : State} (h : Keeps w₀ s₀ s)
    (hm : Sub 60575001 w₀ := by apply sub_of; assumption; with_unfolding_all rfl) : Keeps w₀ s₀ (endStep9 s) := by
  unfold endStep9
  with_reducible repeat' (first
    | assumption | (exact sub_of hm rfl) | apply keeps_setStep | apply keeps_linkBringUp | apply keeps_logEntry | apply keeps_raiseIf
    | refine keeps_wr ?_ | apply keeps_hkOn | apply keeps_setMemBytes | apply keeps_clearMem | apply keeps_loadPlan | apply keeps_portsAfterInit
    | apply keeps_applyInit | apply keeps_applyProfile | apply keeps_forEach | apply keeps_ite | apply keeps_loadCore | intro _ _ _ | split
    | refine keeps_mk rfl rfl rfl rfl rfl rfl ?_)

theorem keeps_endStep10 {w₀ : Nat} {s₀ : State} {s : State} {a1} (h : Keeps w₀ s₀ s)
    (hm : Sub 64323069 w₀ := by apply sub_of; assumption; with_unfolding_all rfl) : Keeps w₀ s₀ (endStep10 s a1) := by
  unfold endStep10
  with_reducible repeat' (first
    | assumption | (exact sub_of hm rfl) | apply keeps_ite | apply keeps_setStep | apply keeps_failStep)

theorem keeps_seedSets {w₀ : Nat} {s₀ : State} (n : Nat) {s : State} {bs : List Nat} (h : Keeps w₀ s₀ s)
    (hm : Sub 264 w₀ := by apply sub_of; assumption; with_unfolding_all rfl) : Keeps w₀ s₀ (seedSets n s bs) := by
  induction n generalizing s bs with
  | zero => exact h
  | succ n ih =>
    cases bs with
    | nil => exact h
    | cons b r =>
      unfold seedSets
      exact ih (keeps_wsetArrive h)

theorem keeps_startSets {w₀ : Nat} {s₀ : State} {s : State} (h : Keeps w₀ s₀ s)
    (hm : Sub 264 w₀ := by apply sub_of; assumption; with_unfolding_all rfl) : Keeps w₀ s₀ (startSets s) := by
  unfold startSets
  with_reducible repeat' (first
    | assumption | (exact sub_of hm rfl) | apply keeps_ite | apply keeps_forEach | apply keeps_restoreSets | apply keeps_seedSets | intro _ _ _)

theorem keeps_startDone {w₀ : Nat} {s₀ : State} {s : State} {a1} (h : Keeps w₀ s₀ s) : Keeps w₀ s₀ (startDone s a1) := by
  unfold startDone
  with_reducible repeat' (first
    | assumption | apply keeps_ite | refine keeps_wr ?_ | apply keeps_setStep)

theorem keeps_coldTrim {w₀ : Nat} {s₀ : State} {s : State} (h : Keeps w₀ s₀ s)
    (hm : Sub 608 w₀ := by apply sub_of; assumption; with_unfolding_all rfl) : Keeps w₀ s₀ (coldTrim s) := by
  unfold coldTrim
  with_reducible repeat' (first
    | assumption | (exact sub_of hm rfl) | apply keeps_showTrimWork | apply keeps_trainAll | apply keeps_trimCold)

theorem keeps_warmTrim {w₀ : Nat} {s₀ : State} {s : State} (h : Keeps w₀ s₀ s)
    (hm : Sub 16778080 w₀ := by apply sub_of; assumption; with_unfolding_all rfl) : Keeps w₀ s₀ (warmTrim s) := by
  unfold warmTrim
  with_reducible repeat' (first
    | assumption | (exact sub_of hm rfl) | apply keeps_coldTrim | refine keeps_wr ?_ | apply keeps_showTrimWork | apply keeps_forEach
    | apply keeps_trimWarm | apply keeps_loadStore | apply keeps_ite | apply keeps_archiveLoad | intro _ _ _ | split)

theorem keeps_coldStart {w₀ : Nat} {s₀ : State} {s : State} (h : Keeps w₀ s₀ s)
    (hm : Sub 608 w₀ := by apply sub_of; assumption; with_unfolding_all rfl) : Keeps w₀ s₀ (coldStart s) := by
  unfold coldStart
  with_reducible repeat' (first
    | assumption | (exact sub_of hm rfl) | apply keeps_coldTrim | split | refine keeps_mk rfl rfl rfl rfl rfl rfl ?_)

theorem keeps_endStep11 {w₀ : Nat} {s₀ : State} {s : State} {a1} (h : Keeps w₀ s₀ s)
    (hm : Sub 64319481 w₀ := by apply sub_of; assumption; with_unfolding_all rfl) : Keeps w₀ s₀ (endStep11 s a1) := by
  unfold endStep11
  with_reducible repeat' (first
    | assumption | (exact sub_of hm rfl) | apply keeps_ite | apply keeps_startSets | apply keeps_startDone | apply keeps_finishMode
    | apply keeps_warmTrim | apply keeps_setStep | apply keeps_coldStart)

theorem keeps_stepDone {w₀ : Nat} {s₀ : State} {s : State} {a1} {a2} (h : Keeps w₀ s₀ s)
    (hm : Sub 66945021 w₀ := by apply sub_of; assumption; with_unfolding_all rfl) : Keeps w₀ s₀ (stepDone s a1 a2) := by
  unfold stepDone
  with_reducible repeat' (first
    | assumption | (exact sub_of hm rfl) | apply keeps_beginLoad | apply keeps_setStep | apply keeps_endStep3 | apply keeps_endStep4
    | apply keeps_endStep5 | apply keeps_endStep6 | apply keeps_endStep7 | apply keeps_endStep8 | apply keeps_endStep9 | apply keeps_endStep10
    | apply keeps_ite | apply keeps_endStep11 | split)

theorem keepsO_execStartStepDone {w₀ : Nat} {s₀ : State} {a0} {a1} {s : State} (h : Keeps w₀ s₀ s)
    (hm : Sub 66945021 w₀ := by apply sub_of; assumption; with_unfolding_all rfl) : KeepsO w₀ s₀ (execStartStepDone a0 a1 s) := by
  unfold execStartStepDone
  with_reducible repeat' (first
    | assumption | (exact sub_of hm rfl) | apply keepsO_next | apply keeps_ite | apply keeps_stepDone)

theorem keepsO_execTileHoldTimeout {w₀ : Nat} {s₀ : State} {s : State} (h : Keeps w₀ s₀ s)
    (hm : Sub 8409112 w₀ := by apply sub_of; assumption; with_unfolding_all rfl) : KeepsO w₀ s₀ (execTileHoldTimeout s) := by
  unfold execTileHoldTimeout
  with_reducible repeat' (first
    | assumption | (exact sub_of hm rfl) | apply keepsO_next | apply keeps_ite | apply keeps_endStep5 | apply keeps_forEach
    | apply keeps_markFailed | intro _ _ _)

theorem keepsO_execTimeAcquireLimit {w₀ : Nat} {s₀ : State} {a0} {s : State} (h : Keeps w₀ s₀ s)
    (hm : Sub 64319481 w₀ := by apply sub_of; assumption; with_unfolding_all rfl) : KeepsO w₀ s₀ (execTimeAcquireLimit a0 s) := by
  unfold execTimeAcquireLimit
  with_reducible repeat' (first
    | assumption | (exact sub_of hm rfl) | apply keepsO_next | apply keeps_ite | apply keeps_endStep11 | apply keeps_raiseIf)

theorem keepsO_execTrimDone {w₀ : Nat} {s₀ : State} {a0} {s : State} (h : Keeps w₀ s₀ s)
    (hm : Sub 64319481 w₀ := by apply sub_of; assumption; with_unfolding_all rfl) : KeepsO w₀ s₀ (execTrimDone a0 s) := by
  unfold execTrimDone
  with_reducible repeat' (first
    | assumption | (exact sub_of hm rfl) | apply keepsO_next | apply keeps_ite | apply keeps_finishMode | apply keeps_startDone
    | apply keeps_saveStart)

theorem keepsO_execGridSlotBoundary {w₀ : Nat} {s₀ : State} {s : State} (h : Keeps w₀ s₀ s)
    (hm : Sub 64318969 w₀ := by apply sub_of; assumption; with_unfolding_all rfl) : KeepsO w₀ s₀ (execGridSlotBoundary s) := by
  unfold execGridSlotBoundary
  with_reducible repeat' (first
    | assumption | (exact sub_of hm rfl) | apply keepsO_next | apply keeps_ite | apply keeps_modeBoundary | apply keeps_advanceTo)

end Sys2Proof.Laws
end

