-- ==== Sys2Proof/Laws/KeepsSleep.lean ====
section
/-! SUPPORT. What the operations of Machine/Sleep.lean keep, and which parts they may change (Laws/Keeps.lean). -/

set_option Elab.async false

namespace Sys2Proof.Laws

open Sys2Proof.Machine

theorem keeps_failVote {w₀ : Nat} {s₀ : State} {s : State} {a1} (h : Keeps w₀ s₀ s)
    (hm : Sub 4194312 w₀ := by apply sub_of; assumption; with_unfolding_all rfl) : Keeps w₀ s₀ (failVote s a1) := by
  unfold failVote
  with_reducible repeat' (first
    | assumption | (exact sub_of hm rfl) | apply keeps_drainDue | apply keeps_closeVote | apply keeps_raise | refine keeps_wr ?_
    | refine keeps_bump ?_ | refine keeps_mk rfl rfl rfl rfl rfl rfl ?_)

theorem keeps_voteHost {w₀ : Nat} {s₀ : State} {s : State} {a1} (h : Keeps w₀ s₀ s)
    (hm : Sub 4194312 w₀ := by apply sub_of; assumption; with_unfolding_all rfl) : Keeps w₀ s₀ (voteHost s a1) := by
  unfold voteHost
  with_reducible repeat' (first
    | assumption | (exact sub_of hm rfl) | apply keeps_ite | apply keeps_failVote)

theorem keeps_takeSnap {w₀ : Nat} {s₀ s : State} (h : Keeps w₀ s₀ s)
    (hm : Sub 4194304 w₀ := by apply sub_of; assumption; with_unfolding_all rfl) : Keeps w₀ s₀ (takeSnap s) := keeps_snap (fun i => i.2.1) h

theorem keeps_putSnap {w₀ : Nat} {s₀ : State} {s : State} {a1} {a2} (h : Keeps w₀ s₀ s)
    (hm : Sub 50331649 w₀ := by apply sub_of; assumption; with_unfolding_all rfl) : Keeps w₀ s₀ (putSnap s a1 a2) := by
  unfold putSnap
  with_reducible repeat' (first
    | assumption | (exact sub_of hm rfl) | refine keeps_mk rfl rfl rfl rfl rfl rfl ?_)

theorem keeps_railsDown {w₀ : Nat} {s₀ : State} {s : State} (h : Keeps w₀ s₀ s)
    (hm : Sub 4194304 w₀ := by apply sub_of; assumption; with_unfolding_all rfl) : Keeps w₀ s₀ (railsDown s) := by
  unfold railsDown
  with_reducible repeat' (first
    | assumption | (exact sub_of hm rfl) | apply keeps_forEach | refine keeps_wr ?_ | intro _ _ _ | refine keeps_mk rfl rfl rfl rfl rfl rfl ?_)

theorem keeps_railsUp {w₀ : Nat} {s₀ : State} {s : State} (h : Keeps w₀ s₀ s) : Keeps w₀ s₀ (railsUp s) := by
  unfold railsUp
  with_reducible repeat' (first
    | assumption | apply keeps_forEach | apply keeps_ite | refine keeps_wr ?_ | intro _ _ _)

theorem keeps_sentinelLoss {w₀ : Nat} {s₀ : State} {s : State} (h : Keeps w₀ s₀ s)
    (hm : Sub 16779201 w₀ := by apply sub_of; assumption; with_unfolding_all rfl) : Keeps w₀ s₀ (sentinelLoss s) := by
  unfold sentinelLoss
  with_reducible repeat' (first
    | assumption | (exact sub_of hm rfl) | apply keeps_forEach | apply keeps_ite | apply keeps_resetTile | intro _ _ _)

theorem keeps_brumateLoss {w₀ : Nat} {s₀ s : State} (h : Keeps w₀ s₀ s)
    (hm : Sub 55046137 w₀ := by apply sub_of; assumption; with_unfolding_all rfl) : Keeps w₀ s₀ (brumateLoss s) := by
  unfold brumateLoss
  exact keeps_wr (keeps_forEach (keeps_build (t := s) rfl rfl rfl (memory_clear_wf _ _) (fun _ => rfl) id (fun p q => by
      cases p <;> first | rfl | exact (sub_absurd hm rfl q).elim)
      (fun q => (sub_absurd hm rfl q).elim) h) fun _ _ hu => keeps_setPort hu)

theorem keeps_sleepCommit {w₀ : Nat} {s₀ : State} {s : State} (h : Keeps w₀ s₀ s)
    (hm : Sub 64483321 w₀ := by apply sub_of; assumption; with_unfolding_all rfl) : Keeps w₀ s₀ (sleepCommit s) := by
  unfold sleepCommit
  with_reducible repeat' (first
    | assumption | (exact sub_of hm rfl) | apply keeps_ite | apply keeps_brumateLoss | apply keeps_takeSnap | apply keeps_modeDomains
    | apply keeps_finishMode | apply keeps_railsDown | apply keeps_hkOff | apply keeps_linkSleep | apply keeps_endSleep | apply keeps_sentinelLoss)

theorem keeps_voterAnswer {w₀ : Nat} {s₀ : State} {s : State} {a1} (h : Keeps w₀ s₀ s)
    (hm : Sub 64483321 w₀ := by apply sub_of; assumption; with_unfolding_all rfl) : Keeps w₀ s₀ (voterAnswer s a1) := by
  unfold voterAnswer
  with_reducible repeat' (first
    | assumption | (exact sub_of hm rfl) | apply keeps_ite | apply keeps_failVote | apply keeps_sleepCommit | refine keeps_wr ?_
    | refine keeps_mk rfl rfl rfl rfl rfl rfl ?_)

theorem keeps_tileLeave {w₀ : Nat} {s₀ : State} {s : State} {a1} (h : Keeps w₀ s₀ s)
    (hm : Sub 16785897 w₀ := by apply sub_of; assumption; with_unfolding_all rfl) : Keeps w₀ s₀ (tileLeave s a1) := by
  unfold tileLeave
  with_reducible repeat' (first
    | assumption | (exact sub_of hm rfl) | apply keeps_forEach | apply keeps_tileCommit | apply keeps_ite | apply keeps_clusterCommit
    | apply keeps_orxCommit | apply keeps_txCommit | apply keeps_rxCommit | intro _ _ _)

theorem keeps_wakeNewts {w₀ : Nat} {s₀ : State} {s : State} (h : Keeps w₀ s₀ s)
    (hm : Sub 50334985 w₀ := by apply sub_of; assumption; with_unfolding_all rfl) : Keeps w₀ s₀ (wakeNewts s) := by
  unfold wakeNewts
  with_reducible repeat' (first
    | assumption | (exact sub_of hm rfl) | apply keeps_forEach | apply keeps_ite | apply keeps_restoreNewt | intro _ _ _)

theorem keeps_wakeTile {w₀ : Nat} {s₀ : State} {s : State} {a1} {a2} (h : Keeps w₀ s₀ s)
    (hm : Sub 16786409 w₀ := by apply sub_of; assumption; with_unfolding_all rfl) : Keeps w₀ s₀ (wakeTile s a1 a2) := by
  unfold wakeTile
  with_reducible repeat' (first
    | assumption | (exact sub_of hm rfl) | apply keeps_restoreSets | apply keeps_tileLeave | apply keeps_forEach | apply keeps_archiveLoad
    | intro _ _ _ | refine keeps_mk rfl rfl rfl rfl rfl rfl ?_)

theorem keeps_restoreSentinel {w₀ : Nat} {s₀ : State} {s : State} {a1} (h : Keeps w₀ s₀ s)
    (hm : Sub 50343913 w₀ := by apply sub_of; assumption; with_unfolding_all rfl) : Keeps w₀ s₀ (restoreSentinel s a1) := by
  unfold restoreSentinel
  with_reducible repeat' (first
    | assumption | (exact sub_of hm rfl) | apply keeps_wakeNewts | apply keeps_forEach | apply keeps_ite | apply keeps_putSnap | apply keeps_raise
    | apply keeps_applyInitIn | apply keeps_wakeTile | intro _ _ _)

theorem keeps_putBack {w₀ : Nat} {s₀ s : State} {o : Option Snap} (ho : snapWf s.power.snap = true → snapWf o = true) (h : Keeps w₀ s₀ s)
    (hm : Sub 50331657 w₀ := by apply sub_of; assumption; with_unfolding_all rfl) :
    Keeps w₀ s₀ (putBack s o) := by
  unfold putBack
  split
  · exact keeps_wr (keeps_putSnap ⟨h.pending, h.grade, h.free, fun i => ⟨(h.inv i).1, ho (h.inv i).2.2, (h.inv i).2.2⟩,
      fun p q => part_trans (h.part p q) (by cases p <;> first | rfl | exact (sub_absurd hm rfl q).elim), h.mode⟩)
  · exact keeps_raise h

theorem keeps_restoreBrumate {w₀ : Nat} {s₀ s : State} {w : Wake} {ok : Bool} (h : Keeps w₀ s₀ s)
    (hm : Sub 58994681 w₀ := by apply sub_of; assumption; with_unfolding_all rfl) : Keeps w₀ s₀ (restoreBrumate s w ok) := by
  unfold restoreBrumate
  refine keeps_wakeNewts (keeps_forEach (keeps_leaveBoot (keeps_mk rfl rfl rfl rfl rfl rfl (keeps_biasLoad (keeps_wr (keeps_putBack ?_
    (keeps_applyInit (keeps_mk rfl rfl rfl rfl rfl rfl h))))))) fun _ _ hu => keeps_wakeTile hu)
  intro hs
  split
  · exact hs
  · rfl

theorem keeps_wakeRestore {w₀ : Nat} {s₀ s : State} {w : Wake} (h : Keeps w₀ s₀ s)
    (hm : Sub 66420729 w₀ := by apply sub_of; assumption; with_unfolding_all rfl) : Keeps w₀ s₀ (wakeRestore s w) := by
  unfold wakeRestore
  have h1 := keeps_forEach (l := w.fails.filter fun p => wakeStepOk p.1.val p.2.val) (g := fun s p => failDomain s p.1.val p.2.val) h
    fun _ _ hu => keeps_failDomain hu
  refine keeps_ite (keeps_selfTests ?_) ?_ <;>
  exact keeps_snap (fun _ => rfl) (keeps_linkWake (keeps_hkOn (keeps_railsUp
    (keeps_ite (keeps_restoreBrumate h1) (keeps_restoreSentinel h1)))))

theorem keeps_wakeUp {w₀ : Nat} {s₀ : State} {s : State} {a1} {a2} (h : Keeps w₀ s₀ s)
    (hm : Sub 66420733 w₀ := by apply sub_of; assumption; with_unfolding_all rfl) : Keeps w₀ s₀ (wakeUp s a1 a2) := by
  unfold wakeUp
  with_reducible repeat' (first
    | assumption | (exact sub_of hm rfl) | apply keeps_ite | apply keeps_wakeRestore | apply keeps_failStep | apply keeps_fatal
    | apply keeps_finishMode)

theorem keeps_endSample {w₀ : Nat} {s₀ : State} {s : State} (h : Keeps w₀ s₀ s)
    (hm : Sub 64 w₀ := by apply sub_of; assumption; with_unfolding_all rfl) : Keeps w₀ s₀ (endSample s) := by
  unfold endSample
  with_reducible repeat' (first
    | assumption | (exact sub_of hm rfl) | apply keeps_ite | apply keeps_setDom | apply keeps_gateRegion | apply keeps_setLo)

theorem keeps_shutdown {w₀ : Nat} {s₀ : State} {s : State} {a1} {a2} (h : Keeps w₀ s₀ s)
    (hm : Sub 64318969 w₀ := by apply sub_of; assumption; with_unfolding_all rfl) : Keeps w₀ s₀ (shutdown s a1 a2) := by
  unfold shutdown
  with_reducible repeat' (first
    | assumption | (exact sub_of hm rfl) | apply keeps_enterSafe | apply keeps_forEach | apply keeps_raise | refine keeps_wr ?_
    | apply keeps_immediateMute | intro _ _ _)

theorem keeps_sleepSample {w₀ : Nat} {s₀ : State} {s : State} {a1} {a2} {a3} (h : Keeps w₀ s₀ s)
    (hm : Sub 66420729 w₀ := by apply sub_of; assumption; with_unfolding_all rfl) : Keeps w₀ s₀ (sleepSample s a1 a2 a3).1 := by
  unfold sleepSample
  with_reducible repeat' (first
    | assumption | (exact sub_of hm rfl) | apply keeps_ite_fst | apply keeps_shutdown | refine keeps_wr ?_ | apply keeps_wakeRestore
    | apply keeps_endSample | split)

theorem keeps_beginSample {w₀ : Nat} {s₀ : State} {s : State} {a1} {a2} (h : Keeps w₀ s₀ s)
    (hm : Sub 66420729 w₀ := by apply sub_of; assumption; with_unfolding_all rfl) : Keeps w₀ s₀ (beginSample s a1 a2) := by
  unfold beginSample
  with_reducible repeat' (first
    | assumption | (exact sub_of hm rfl) | apply keeps_ite | apply keeps_sleepSample | apply keeps_setDom | apply keeps_forEach
    | apply keeps_loSearch | apply keeps_wakeRegion | refine keeps_wr ?_ | apply keeps_wakeRx | intro _ _ _)

theorem keepsO_execVoterAnswer {w₀ : Nat} {s₀ : State} {a0} {s : State} (h : Keeps w₀ s₀ s)
    (hm : Sub 64483321 w₀ := by apply sub_of; assumption; with_unfolding_all rfl) : KeepsO w₀ s₀ (execVoterAnswer a0 s) := by
  unfold execVoterAnswer
  with_reducible repeat' (first
    | assumption | (exact sub_of hm rfl) | apply keepsO_next | apply keeps_voterAnswer)

theorem keepsO_execSleepVoteTimeout {w₀ : Nat} {s₀ : State} {s : State} (h : Keeps w₀ s₀ s)
    (hm : Sub 4194312 w₀ := by apply sub_of; assumption; with_unfolding_all rfl) : KeepsO w₀ s₀ (execSleepVoteTimeout s) := by
  unfold execSleepVoteTimeout
  with_reducible repeat' (first
    | assumption | (exact sub_of hm rfl) | apply keepsO_next | apply keeps_ite | apply keeps_failVote)

theorem keepsO_execSleepRetry {w₀ : Nat} {s₀ : State} {s : State} (h : Keeps w₀ s₀ s)
    (hm : Sub 4194304 w₀ := by apply sub_of; assumption; with_unfolding_all rfl) : KeepsO w₀ s₀ (execSleepRetry s) := by
  unfold execSleepRetry
  with_reducible repeat' (first
    | assumption | (exact sub_of hm rfl) | apply keepsO_next | apply keeps_ite | apply keeps_openVote)

theorem keepsO_execCancel {w₀ : Nat} {s₀ : State} {s : State} (h : Keeps w₀ s₀ s)
    (hm : Sub 4194304 w₀ := by apply sub_of; assumption; with_unfolding_all rfl) : KeepsO w₀ s₀ (execCancel s) := by
  unfold execCancel
  with_reducible repeat' (first
    | assumption | (exact sub_of hm rfl) | apply keepsO_next | apply keeps_dropSleep)

theorem keepsO_execModeScheduleDue {w₀ : Nat} {s₀ : State} {a0} {s : State} (h : Keeps w₀ s₀ s)
    (hm : Sub 4194312 w₀ := by apply sub_of; assumption; with_unfolding_all rfl) : KeepsO w₀ s₀ (execModeScheduleDue a0 s) := by
  unfold execModeScheduleDue
  with_reducible repeat' (first
    | assumption | (exact sub_of hm rfl) | apply keepsO_next | apply keeps_ite | apply keeps_scheduleAct | refine keeps_mk rfl rfl rfl rfl rfl rfl ?_)

theorem keepsO_execLinkWakePattern {w₀ : Nat} {s₀ : State} {a0} {s : State} (h : Keeps w₀ s₀ s)
    (hm : Sub 66420733 w₀ := by apply sub_of; assumption; with_unfolding_all rfl) : KeepsO w₀ s₀ (execLinkWakePattern a0 s) := by
  unfold execLinkWakePattern
  with_reducible repeat' (first
    | assumption | (exact sub_of hm rfl) | apply keepsO_next | apply keeps_ite | apply keeps_wakeUp | apply keeps_endSample)

theorem keepsO_execWakePin {w₀ : Nat} {s₀ : State} {a0} {s : State} (h : Keeps w₀ s₀ s)
    (hm : Sub 66420733 w₀ := by apply sub_of; assumption; with_unfolding_all rfl) : KeepsO w₀ s₀ (execWakePin a0 s) := by
  unfold execWakePin
  with_reducible repeat' (first
    | assumption | (exact sub_of hm rfl) | apply keepsO_next | apply keeps_ite | apply keeps_wakeUp)

theorem keepsO_execAonTimer {w₀ : Nat} {s₀ : State} {a0} {a1} {s : State} (h : Keeps w₀ s₀ s)
    (hm : Sub 66420733 w₀ := by apply sub_of; assumption; with_unfolding_all rfl) : KeepsO w₀ s₀ (execAonTimer a0 a1 s) := by
  unfold execAonTimer
  with_reducible repeat' (first
    | assumption | (exact sub_of hm rfl) | apply keepsO_next | apply keeps_ite | apply keeps_wakeUp | apply keeps_scheduleAct
    | apply keeps_endSample | split)

theorem keepsO_execSentinelSample {w₀ : Nat} {s₀ : State} {a0} {a1} {s : State} (h : Keeps w₀ s₀ s)
    (hm : Sub 66420729 w₀ := by apply sub_of; assumption; with_unfolding_all rfl) : KeepsO w₀ s₀ (execSentinelSample a0 a1 s) := by
  unfold execSentinelSample
  with_reducible repeat' (first
    | assumption | (exact sub_of hm rfl) | apply keepsO_next | apply keeps_beginSample)

theorem keepsO_execSentinelWindowEnd {w₀ : Nat} {s₀ : State} {a0} {a1} {s : State} (h : Keeps w₀ s₀ s)
    (hm : Sub 66420733 w₀ := by apply sub_of; assumption; with_unfolding_all rfl) : KeepsO w₀ s₀ (execSentinelWindowEnd a0 a1 s) := by
  unfold execSentinelWindowEnd
  with_reducible repeat' (first
    | assumption | (exact sub_of hm rfl) | apply keepsO_next | apply keeps_ite | apply keeps_wakeUp | apply keeps_raise | apply keeps_endSample
    | split)

theorem keepsO_execWakeStepTimeout {w₀ : Nat} {s₀ : State} {a0} {a1} {s : State} (h : Keeps w₀ s₀ s)
    (hm : Sub 64323069 w₀ := by apply sub_of; assumption; with_unfolding_all rfl) : KeepsO w₀ s₀ (execWakeStepTimeout a0 a1 s) := by
  unfold execWakeStepTimeout
  with_reducible repeat' (first
    | assumption | (exact sub_of hm rfl) | apply keepsO_next | apply keeps_ite | apply keeps_failStep)

theorem keepsO_execThermSleepSample {w₀ : Nat} {s₀ : State} {a0} {a1} {s : State} (h : Keeps w₀ s₀ s)
    (hm : Sub 66584573 w₀ := by apply sub_of; assumption; with_unfolding_all rfl) : KeepsO w₀ s₀ (execThermSleepSample a0 a1 s) := by
  unfold execThermSleepSample
  with_reducible repeat' (first
    | assumption | (exact sub_of hm rfl) | apply keepsO_next | apply keeps_ite | apply keeps_hubTamper | apply keeps_sleepSample)

end Sys2Proof.Laws
end

