-- ==== Sys2Proof/Laws/KeepsPower.lean ====
section
/-! SUPPORT. What the operations of Machine/Power.lean keep, and which parts they may change (Laws/Keeps.lean). -/

set_option Elab.async false

namespace Sys2Proof.Laws

open Sys2Proof.Machine

theorem keeps_idleDown {w₀ : Nat} {s₀ : State} {s : State} {a1} {a2} (h : Keeps w₀ s₀ s) : Keeps w₀ s₀ (idleDown s a1 a2) := by
  unfold idleDown
  with_reducible repeat' (first
    | assumption | apply keeps_ite | apply keeps_setDom)

theorem keeps_domainReady {w₀ : Nat} {s₀ : State} {s : State} {a1} (h : Keeps w₀ s₀ s)
    (hm : Sub 4325512 w₀ := by apply sub_of; assumption; with_unfolding_all rfl) : Keeps w₀ s₀ (domainReady s a1) := by
  unfold domainReady
  with_reducible repeat' (first
    | assumption | (exact sub_of hm rfl) | apply keeps_ite | apply keeps_dmaDomainUp | apply keeps_setDom | apply keeps_regionRest
    | apply keeps_forEach | apply keeps_wakeRegion | apply keeps_loPrecal | intro _ _ _ | refine keeps_mk rfl rfl rfl rfl rfl rfl ?_)

theorem keeps_avsRail {w₀ : Nat} {s₀ : State} {s : State} {a1} {a2} (h : Keeps w₀ s₀ s)
    (hm : Sub 4194312 w₀ := by apply sub_of; assumption; with_unfolding_all rfl) : Keeps w₀ s₀ (avsRail s a1 a2) := by
  unfold avsRail
  with_reducible repeat' (first
    | assumption | (exact sub_of hm rfl) | apply keeps_ite | refine keeps_stickyEvent ?_ | refine keeps_wr ?_
    | refine keeps_mk rfl rfl rfl rfl rfl rfl ?_)

theorem keeps_avsLate {w₀ : Nat} {s₀ : State} {s : State} {a1} {a2} (h : Keeps w₀ s₀ s)
    (hm : Sub 4194312 w₀ := by apply sub_of; assumption; with_unfolding_all rfl) : Keeps w₀ s₀ (avsLate s a1 a2) := by
  unfold avsLate
  with_reducible repeat' (first
    | assumption | (exact sub_of hm rfl) | apply keeps_ite | refine keeps_bump ?_ | apply keeps_raise | refine keeps_wr ?_ | split
    | refine keeps_mk rfl rfl rfl rfl rfl rfl ?_)

theorem keeps_residency {w₀ : Nat} {s₀ : State} {s : State} (h : Keeps w₀ s₀ s)
    (hm : Sub 4194304 w₀ := by apply sub_of; assumption; with_unfolding_all rfl) : Keeps w₀ s₀ (residency s) := by
  unfold residency
  with_reducible repeat' (first
    | assumption | (exact sub_of hm rfl) | apply keeps_ite | apply keeps_forEach | refine keeps_wr ?_ | intro _ _ _
    | refine keeps_mk rfl rfl rfl rfl rfl rfl ?_)

theorem keeps_shedMem {w₀ : Nat} {s₀ : State} {s : State} (h : Keeps w₀ s₀ s)
    (hm : Sub 132104 w₀ := by apply sub_of; assumption; with_unfolding_all rfl) : Keeps w₀ s₀ (shedMem s) := by
  unfold shedMem
  with_reducible repeat' (first
    | assumption | (exact sub_of hm rfl) | apply keeps_ite | apply keeps_enterFallback | apply keeps_dmaDomainDown | apply keeps_memRefresh
    | apply keeps_setDom)

theorem keeps_freezeS2 {w₀ : Nat} {s₀ : State} {s : State} (h : Keeps w₀ s₀ s)
    (hm : Sub 328 w₀ := by apply sub_of; assumption; with_unfolding_all rfl) : Keeps w₀ s₀ (freezeS2 s) := by
  unfold freezeS2
  with_reducible repeat' (first
    | assumption | (exact sub_of hm rfl) | apply keeps_raise | apply keeps_forEach | refine keeps_wr ?_ | apply keeps_State_modTx
    | apply keeps_solveResult | apply keeps_forTiles | intro _ _ _ | split | refine keeps_mk rfl rfl rfl rfl rfl rfl ?_)

theorem keeps_stageAction {w₀ : Nat} {s₀ : State} {s : State} {a1} {a2} (h : Keeps w₀ s₀ s)
    (hm : Sub 13045064 w₀ := by apply sub_of; assumption; with_unfolding_all rfl) : Keeps w₀ s₀ (stageAction s a1 a2) := by
  unfold stageAction
  with_reducible repeat' (first
    | assumption | (exact sub_of hm rfl) | apply keeps_capStageStop | apply keeps_ite | apply keeps_shedMem | apply keeps_forEach
    | apply keeps_freezeS2 | apply keeps_capStopAll | apply keeps_closeVote | apply keeps_State_modNewt | apply keeps_biasAll
    | apply keeps_immediateMute | apply keeps_gateRegion | intro _ _ _ | split | refine keeps_mk rfl rfl rfl rfl rfl rfl ?_)

theorem keeps_stageEnter {w₀ : Nat} {s₀ : State} {s : State} {a1} {a2} {a3} (h : Keeps w₀ s₀ s)
    (hm : Sub 13045064 w₀ := by apply sub_of; assumption; with_unfolding_all rfl) : Keeps w₀ s₀ (stageEnter s a1 a2 a3) := by
  unfold stageEnter
  with_reducible repeat' (first
    | assumption | (exact sub_of hm rfl) | apply keeps_ite | apply keeps_forEach | apply keeps_raise | refine keeps_wr ?_ | apply keeps_stageAction
    | intro _ _ _)

theorem keeps_stageRestore {w₀ : Nat} {s₀ : State} {s : State} (h : Keeps w₀ s₀ s)
    (hm : Sub 394248 w₀ := by apply sub_of; assumption; with_unfolding_all rfl) : Keeps w₀ s₀ (stageRestore s) := by
  unfold stageRestore
  with_reducible repeat' (first
    | assumption | (exact sub_of hm rfl) | apply keeps_ite | apply keeps_biasRestore | apply keeps_forEach | apply keeps_raise | refine keeps_wr ?_
    | apply keeps_dropCause | apply keeps_dmaDomainUp | apply keeps_leaveFallback | apply keeps_memRefresh | apply keeps_setDom | intro _ _ _)

theorem keepsO_execTileIdleTimeout {w₀ : Nat} {s₀ : State} {a0} {s : State} (h : Keeps w₀ s₀ s) : KeepsO w₀ s₀ (execTileIdleTimeout a0 s) := by
  unfold execTileIdleTimeout
  with_reducible repeat' (first
    | assumption | apply keepsO_next | apply keeps_idleDown)

theorem keepsO_execMemIdleTimeout {w₀ : Nat} {s₀ : State} {s : State} (h : Keeps w₀ s₀ s) : KeepsO w₀ s₀ (execMemIdleTimeout s) := by
  unfold execMemIdleTimeout
  with_reducible repeat' (first
    | assumption | apply keepsO_next | apply keeps_idleDown)

theorem keepsO_execDomainWakeDone {w₀ : Nat} {s₀ : State} {a0} {s : State} (h : Keeps w₀ s₀ s)
    (hm : Sub 4325512 w₀ := by apply sub_of; assumption; with_unfolding_all rfl) : KeepsO w₀ s₀ (execDomainWakeDone a0 s) := by
  unfold execDomainWakeDone
  with_reducible repeat' (first
    | assumption | (exact sub_of hm rfl) | apply keepsO_next | apply keeps_ite | apply keeps_domainReady)

theorem keepsO_execAvsLoop {w₀ : Nat} {s₀ : State} {a0} {s : State} (h : Keeps w₀ s₀ s)
    (hm : Sub 4194312 w₀ := by apply sub_of; assumption; with_unfolding_all rfl) : KeepsO w₀ s₀ (execAvsLoop a0 s) := by
  unfold execAvsLoop
  with_reducible repeat' (first
    | assumption | (exact sub_of hm rfl) | apply keepsO_next | apply keeps_ite | apply keeps_residency | apply keeps_forEach | apply keeps_avsRail
    | intro _ _ _ | split)

theorem keepsO_execAvsAckTimeout {w₀ : Nat} {s₀ : State} {a0} {a1} {s : State} (h : Keeps w₀ s₀ s)
    (hm : Sub 4194312 w₀ := by apply sub_of; assumption; with_unfolding_all rfl) : KeepsO w₀ s₀ (execAvsAckTimeout a0 a1 s) := by
  unfold execAvsAckTimeout
  with_reducible repeat' (first
    | assumption | (exact sub_of hm rfl) | apply keepsO_next | apply keeps_avsLate)

theorem keepsO_execSupplyStageEnter {w₀ : Nat} {s₀ : State} {a0} {a1} {a2} {s : State} (h : Keeps w₀ s₀ s)
    (hm : Sub 66584573 w₀ := by apply sub_of; assumption; with_unfolding_all rfl) : KeepsO w₀ s₀ (execSupplyStageEnter a0 a1 a2 s) := by
  unfold execSupplyStageEnter
  with_reducible repeat' (first
    | assumption | (exact sub_of hm rfl) | apply keepsO_next | apply keeps_ite | apply keeps_sourceOn | apply keeps_stageEnter)

theorem keepsO_execSupplyStageRestore {w₀ : Nat} {s₀ : State} {s : State} (h : Keeps w₀ s₀ s)
    (hm : Sub 394248 w₀ := by apply sub_of; assumption; with_unfolding_all rfl) : KeepsO w₀ s₀ (execSupplyStageRestore s) := by
  unfold execSupplyStageRestore
  with_reducible repeat' (first
    | assumption | (exact sub_of hm rfl) | apply keepsO_next | apply keeps_ite | apply keeps_stageRestore)

theorem keepsO_execFallbackAckTimeout {w₀ : Nat} {s₀ : State} {s : State} (h : Keeps w₀ s₀ s)
    (hm : Sub 132104 w₀ := by apply sub_of; assumption; with_unfolding_all rfl) : KeepsO w₀ s₀ (execFallbackAckTimeout s) := by
  unfold execFallbackAckTimeout
  with_reducible repeat' (first
    | assumption | (exact sub_of hm rfl) | apply keepsO_next | apply keeps_ite | apply keeps_shedMem)

theorem keepsO_execResClr {w₀ : Nat} {s₀ : State} {s : State} (h : Keeps w₀ s₀ s) : KeepsO w₀ s₀ (execResClr s) := by
  unfold execResClr
  with_reducible repeat' (first
    | assumption | apply keepsO_next | apply keeps_forEach | refine keeps_wr ?_ | intro _ _ _)

end Sys2Proof.Laws
end

