-- ==== Sys2Proof/Laws/KeepsTherm.lean ====
section
/-! SUPPORT. What the operations of Machine/Therm.lean keep, and which parts they may change (Laws/Keeps.lean). -/

set_option Elab.async false

namespace Sys2Proof.Laws

open Sys2Proof.Machine

theorem keeps_sensorFail {w₀ : Nat} {s₀ : State} {s : State} {a1} (h : Keeps w₀ s₀ s)
    (hm : Sub 8 w₀ := by apply sub_of; assumption; with_unfolding_all rfl) : Keeps w₀ s₀ (sensorFail s a1) := by
  unfold sensorFail
  with_reducible repeat' (first
    | assumption | (exact sub_of hm rfl) | apply keeps_raise | refine keeps_wr ?_)

theorem keeps_senseOne {w₀ : Nat} {s₀ : State} {s : State} {a1} {a2} (h : Keeps w₀ s₀ s)
    (hm : Sub 262152 w₀ := by apply sub_of; assumption; with_unfolding_all rfl) : Keeps w₀ s₀ (senseOne s a1 a2) := by
  unfold senseOne
  with_reducible repeat' (first
    | assumption | (exact sub_of hm rfl) | apply keeps_ite | apply keeps_sensorFail | refine keeps_wr ?_ | refine keeps_mk rfl rfl rfl rfl rfl rfl ?_)

theorem keeps_agreeOne {w₀ : Nat} {s₀ : State} {s : State} {a1} (h : Keeps w₀ s₀ s)
    (hm : Sub 262152 w₀ := by apply sub_of; assumption; with_unfolding_all rfl) : Keeps w₀ s₀ (agreeOne s a1) := by
  unfold agreeOne
  with_reducible repeat' (first
    | assumption | (exact sub_of hm rfl) | apply keeps_ite | apply keeps_sensorFail | refine keeps_mk rfl rfl rfl rfl rfl rfl ?_)

theorem keeps_levelHw {w₀ : Nat} {s₀ : State} {s : State} {a1} {a2} (h : Keeps w₀ s₀ s)
    (hm : Sub 64318969 w₀ := by apply sub_of; assumption; with_unfolding_all rfl) : Keeps w₀ s₀ (levelHw s a1 a2) := by
  unfold levelHw
  with_reducible repeat' (first
    | assumption | (exact sub_of hm rfl) | apply keeps_ite | apply keeps_shutdown | apply keeps_raise | refine keeps_wr ?_)

theorem keeps_levelPolicy {w₀ : Nat} {s₀ : State} {s : State} {a1} {a2} (h : Keeps w₀ s₀ s)
    (hm : Sub 8 w₀ := by apply sub_of; assumption; with_unfolding_all rfl) : Keeps w₀ s₀ (levelPolicy s a1 a2) := by
  unfold levelPolicy
  with_reducible repeat' (first
    | assumption | (exact sub_of hm rfl) | apply keeps_ite | apply keeps_raise | refine keeps_wr ?_)

theorem keeps_judgeTemp {w₀ : Nat} {s₀ : State} {s : State} {a1} (h : Keeps w₀ s₀ s)
    (hm : Sub 64318969 w₀ := by apply sub_of; assumption; with_unfolding_all rfl) : Keeps w₀ s₀ (judgeTemp s a1) := by
  unfold judgeTemp
  with_reducible repeat' (first
    | assumption | (exact sub_of hm rfl) | apply keeps_ite | refine keeps_wr ?_ | apply keeps_shutdown | apply keeps_levelPolicy
    | apply keeps_levelHw | split)

theorem keeps_setThermStep {w₀ : Nat} {s₀ : State} {s : State} {a1} (h : Keeps w₀ s₀ s) : Keeps w₀ s₀ (setThermStep s a1) := by
  unfold setThermStep
  with_reducible repeat' (first
    | assumption | apply keeps_forEach | refine keeps_wr ?_ | intro _ _ _)

theorem keeps_hubCheck {w₀ : Nat} {s₀ : State} {a0} {s : State} {a2} (h : Keeps w₀ s₀ s)
    (hm : Sub 66584573 w₀ := by apply sub_of; assumption; with_unfolding_all rfl) : Keeps w₀ s₀ (hubCheck a0 s a2) := by
  unfold hubCheck
  with_reducible repeat' (first
    | assumption | (exact sub_of hm rfl) | apply keeps_ite | apply keeps_hubTamper | split)

theorem keepsO_execThermSample {w₀ : Nat} {s₀ : State} {a0} {a1} {s : State} (h : Keeps w₀ s₀ s)
    (hm : Sub 66584573 w₀ := by apply sub_of; assumption; with_unfolding_all rfl) : KeepsO w₀ s₀ (execThermSample a0 a1 s) := by
  unfold execThermSample
  with_reducible repeat' (first
    | assumption | (exact sub_of hm rfl) | apply keepsO_next | apply keeps_hubCheck | apply keeps_ite | apply keeps_judgeTemp | apply keeps_forEach | apply keeps_senseOne
    | apply keeps_agreeOne | apply keeps_calDue | intro _ _ _ | split)

theorem keepsO_execThermalGraceEnd {w₀ : Nat} {s₀ : State} {s : State} (h : Keeps w₀ s₀ s)
    (hm : Sub 8 w₀ := by apply sub_of; assumption; with_unfolding_all rfl) : KeepsO w₀ s₀ (execThermalGraceEnd s) := by
  unfold execThermalGraceEnd
  with_reducible repeat' (first
    | assumption | (exact sub_of hm rfl) | apply keepsO_next | apply keeps_ite | apply keeps_raise | apply keeps_setThermStep)

theorem keepsO_execThermalRelease {w₀ : Nat} {s₀ : State} {s : State} (h : Keeps w₀ s₀ s)
    (hm : Sub 8 w₀ := by apply sub_of; assumption; with_unfolding_all rfl) : KeepsO w₀ s₀ (execThermalRelease s) := by
  unfold execThermalRelease
  with_reducible repeat' (first
    | assumption | (exact sub_of hm rfl) | apply keepsO_next | apply keeps_ite | apply keeps_raiseIf | apply keeps_setThermStep)

end Sys2Proof.Laws
end

