-- ==== Sys2Proof/Laws/KeepsAccess.lean ====
section
/-! SUPPORT. What the operations of Machine/Access.lean keep, and which parts they may change (Laws/Keeps.lean). -/

set_option Elab.async false

namespace Sys2Proof.Laws

open Sys2Proof.Machine

theorem keeps_newtWrite {w₀ : Nat} {s₀ : State} {s : State} {a1} {a2} {a3} {a4} (h : Keeps w₀ s₀ s)
    (hm : Sub 3080 w₀ := by apply sub_of; assumption; with_unfolding_all rfl) : Keeps w₀ s₀ (newtWrite s a1 a2 a3 a4) := by
  unfold newtWrite
  with_reducible repeat' (first
    | assumption | (exact sub_of hm rfl) | apply keeps_ite | apply keeps_State_modNewt | apply keeps_cfgIgnored | apply keeps_setMemWord | split)

theorem keeps_refreshReg {w₀ : Nat} {s₀ : State} {s : State} {a1} (h : Keeps w₀ s₀ s)
    (hm : Sub 8389656 w₀ := by apply sub_of; assumption; with_unfolding_all rfl) : Keeps w₀ s₀ (refreshReg s a1) := by
  unfold refreshReg
  with_reducible repeat' (first
    | assumption | (exact sub_of hm rfl) | apply keeps_ite | apply keeps_refreshTime | apply keeps_rollLoad | split)

theorem keeps_clearRc {w₀ : Nat} {s₀ : State} {s : State} {a1} (h : Keeps w₀ s₀ s)
    (hm : Sub 33554432 w₀ := by apply sub_of; assumption; with_unfolding_all rfl) : Keeps w₀ s₀ (clearRc s a1) := by
  unfold clearRc
  with_reducible repeat' (first
    | assumption | (exact sub_of hm rfl) | apply keeps_forEach | apply keeps_ite | refine keeps_wr ?_ | intro _ _ _)

theorem keeps_readHook {w₀ : Nat} {s₀ : State} {s : State} {a1} (h : Keeps w₀ s₀ s)
    (hm : Sub 32772 w₀ := by apply sub_of; assumption; with_unfolding_all rfl) : Keeps w₀ s₀ (readHook s a1) := by
  unfold readHook
  with_reducible repeat' (first
    | assumption | (exact sub_of hm rfl) | apply keeps_ite | apply keeps_wordAdvance | split | refine keeps_mk rfl rfl rfl rfl rfl rfl ?_)

theorem keeps_readReg {w₀ : Nat} {s₀ : State} {s : State} {a1} (h : Keeps w₀ s₀ s)
    (hm : Sub 41976860 w₀ := by apply sub_of; assumption; with_unfolding_all rfl) : Keeps w₀ s₀ (readReg s a1).2 := by
  unfold readReg
  with_reducible repeat' (first
    | assumption | (exact sub_of hm rfl) | apply keeps_ite_snd | apply keeps_refreshReg | apply keeps_forEach | apply keeps_clearRc
    | apply keeps_readHook | apply keeps_ite | intro _ _ _ | split)

theorem keeps_writeField {w₀ : Nat} {s₀ : State} {s : State} {a1} {a2} {a3} (h : Keeps w₀ s₀ s)
    (hm : Sub 50331649 w₀ := by apply sub_of; assumption; with_unfolding_all rfl) : Keeps w₀ s₀ (writeField s a1 a2 a3) := by
  unfold writeField
  with_reducible repeat' (first
    | assumption | (exact sub_of hm rfl) | apply keeps_ite | apply keeps_writeShadow | refine keeps_wr ?_ | split)

theorem keeps_writeFields {w₀ : Nat} {s₀ : State} {s : State} {a1} {a2} {a3} (h : Keeps w₀ s₀ s)
    (hm : Sub 50331913 w₀ := by apply sub_of; assumption; with_unfolding_all rfl) : Keeps w₀ s₀ (writeFields s a1 a2 a3) := by
  unfold writeFields
  with_reducible repeat' (first
    | assumption | (exact sub_of hm rfl) | apply keeps_ite | apply keeps_cfgIgnored | apply keeps_corrTouched | apply keeps_forEach
    | apply keeps_writeField | intro _ _ _)

theorem keeps_unitHook {w₀ : Nat} {s₀ : State} {s1 : State} {s2 : State} {a2} {a3} {a4} {a5} (h1 : Keeps w₀ s₀ s1) (h2 : Keeps w₀ s₀ s2)
    (hm : Sub 73 w₀ := by apply sub_of; assumption; with_unfolding_all rfl) : Keeps w₀ s₀ (unitHook s1 s2 a2 a3 a4 a5) := by
  unfold unitHook
  with_reducible repeat' (first
    | assumption | (exact sub_of hm rfl) | apply keeps_ite | apply keeps_rxStopCheck | apply keeps_rxCommit | apply keeps_txCommit
    | apply keeps_txStopCheck | apply keeps_shadowReady | apply keeps_tblDataWrite | apply keeps_coefWrite)

theorem keeps_clusterHook {w₀ : Nat} {s₀ : State} {s1 : State} {s2 : State} {a2} {a3} {a4} (h1 : Keeps w₀ s₀ s1) (h2 : Keeps w₀ s₀ s2)
    (hm : Sub 4195017 w₀ := by apply sub_of; assumption; with_unfolding_all rfl) : Keeps w₀ s₀ (clusterHook s1 s2 a2 a3 a4) := by
  unfold clusterHook
  with_reducible repeat' (first
    | assumption | (exact sub_of hm rfl) | apply keeps_ite | apply keeps_clusterCommit | apply keeps_loEnWritten | apply keeps_loPrecalAsk
    | apply keeps_rffeCmd | apply keeps_saveStart | apply keeps_calReq | apply keeps_trimWrite)

theorem keeps_newtHook {w₀ : Nat} {s₀ : State} {s : State} {a1} {a2} {a3} (h : Keeps w₀ s₀ s)
    (hm : Sub 1032 w₀ := by apply sub_of; assumption; with_unfolding_all rfl) : Keeps w₀ s₀ (newtHook s a1 a2 a3) := by
  unfold newtHook
  with_reducible repeat' (first
    | assumption | (exact sub_of hm rfl) | apply keeps_ite | apply keeps_userTrigger | apply keeps_userStop | apply keeps_userStart)

theorem keeps_linkHook {w₀ : Nat} {s₀ : State} {s1 : State} {s2 : State} {a2} {a3} {a4} (h1 : Keeps w₀ s₀ s1) (h2 : Keeps w₀ s₀ s2)
    (hm : Sub 8405016 w₀ := by apply sub_of; assumption; with_unfolding_all rfl) : Keeps w₀ s₀ (linkHook s1 s2 a2 a3 a4) := by
  unfold linkHook
  with_reducible repeat' (first
    | assumption | (exact sub_of hm rfl) | apply keeps_ite | apply keeps_portRetrain | apply keeps_portEnable | apply keeps_eyeStart)

theorem keeps_pointNow {w₀ : Nat} {s₀ : State} {s : State} (h : Keeps w₀ s₀ s)
    (hm : Sub 8388608 w₀ := by apply sub_of; assumption; with_unfolding_all rfl) : Keeps w₀ s₀ (pointNow s).2 := by
  unfold pointNow
  with_reducible repeat' (first
    | assumption | (exact sub_of hm rfl) | apply keeps_takeFree)

theorem keeps_capHook {w₀ : Nat} {s₀ : State} {s : State} {a1} {a2} {a3} {a4} (h : Keeps w₀ s₀ s)
    (hm : Sub 8456201 w₀ := by apply sub_of; assumption; with_unfolding_all rfl) : Keeps w₀ s₀ (capHook s a1 a2 a3 a4) := by
  unfold capHook
  with_reducible repeat' (first
    | assumption | (exact sub_of hm rfl) | apply keeps_ite | apply keeps_trigAt | apply keeps_pointNow | apply keeps_capStopCh | apply keeps_capArm)

theorem keeps_dmaHook {w₀ : Nat} {s₀ : State} {s : State} {a1} {a2} {a3} (h : Keeps w₀ s₀ s)
    (hm : Sub 131081 w₀ := by apply sub_of; assumption; with_unfolding_all rfl) : Keeps w₀ s₀ (dmaHook s a1 a2 a3) := by
  unfold dmaHook
  with_reducible repeat' (first
    | assumption | (exact sub_of hm rfl) | apply keeps_ite | apply keeps_dmaDoorbell | apply keeps_dmaStart | apply keeps_dmaAbort
    | apply keeps_dmaPause)

theorem keeps_hkHook {w₀ : Nat} {s₀ : State} {s : State} {a1} {a2} (h : Keeps w₀ s₀ s)
    (hm : Sub 262153 w₀ := by apply sub_of; assumption; with_unfolding_all rfl) : Keeps w₀ s₀ (hkHook s a1 a2) := by
  unfold hkHook
  with_reducible repeat' (first
    | assumption | (exact sub_of hm rfl) | apply keeps_ite | apply keeps_hkSelftest | apply keeps_hkCommit | apply keeps_hkTriggerKind
    | apply keeps_hkEnable | apply keeps_hkStopSeq | split | refine keeps_mk rfl rfl rfl rfl rfl rfl ?_)

theorem keeps_timeHook {w₀ : Nat} {s₀ : State} {s : State} {a1} {a2} (h : Keeps w₀ s₀ s)
    (hm : Sub 8388633 w₀ := by apply sub_of; assumption; with_unfolding_all rfl) : Keeps w₀ s₀ (timeHook s a1 a2) := by
  unfold timeHook
  with_reducible repeat' (first
    | assumption | (exact sub_of hm rfl) | apply keeps_ite | apply keeps_refreshTime | apply keeps_State_modDom | refine keeps_wr ?_
    | apply keeps_timeCommit)

theorem keeps_hubHook {w₀ : Nat} {s₀ : State} {s1 : State} {s2 : State} {a2} {a3} {a4} (h1 : Keeps w₀ s₀ s1) (h2 : Keeps w₀ s₀ s2)
    (hm : Sub 15936605 w₀ := by apply sub_of; assumption; with_unfolding_all rfl) : Keeps w₀ s₀ (hubHook s1 s2 a2 a3 a4) := by
  unfold hubHook
  with_reducible repeat' (first
    | assumption | (exact sub_of hm rfl) | apply keeps_ite | apply keeps_requestBlk | apply keeps_beginLoad | apply keeps_refuseReset
    | apply keeps_dropSleep | apply keeps_forEach | refine keeps_wr ?_ | apply keeps_poolCommit | apply keeps_chorusCommit
    | apply keeps_chorusEnWritten | apply keeps_serviceGo | intro _ _ _)

theorem keeps_writeHook {w₀ : Nat} {s₀ : State} {s1 : State} {s2 : State} {a2} {a3} {a4} (h1 : Keeps w₀ s₀ s1) (h2 : Keeps w₀ s₀ s2)
    (hm : Sub 32993277 w₀ := by apply sub_of; assumption; with_unfolding_all rfl) : Keeps w₀ s₀ (writeHook s1 s2 a2 a3 a4) := by
  unfold writeHook
  with_reducible repeat' (first
    | assumption | (exact sub_of hm rfl) | apply keeps_unitHook | apply keeps_clusterHook | apply keeps_ite | apply keeps_tileCommit
    | apply keeps_newtHook | apply keeps_hkHook | apply keeps_timeHook | apply keeps_dmaHook | apply keeps_capHook | apply keeps_linkHook
    | apply keeps_hubHook | split)

theorem keeps_writeReg {w₀ : Nat} {s₀ : State} {s : State} {a1} {a2} {a3} (h : Keeps w₀ s₀ s)
    (hm : Sub 66547709 w₀ := by apply sub_of; assumption; with_unfolding_all rfl) : Keeps w₀ s₀ (writeReg s a1 a2 a3) := by
  unfold writeReg
  with_reducible repeat' (first
    | assumption | (exact sub_of hm rfl) | apply keeps_ite | apply keeps_forEach | refine keeps_wr ?_ | apply keeps_newtWrite
    | apply keeps_writeHook | apply keeps_writeFields | intro _ _ _ | split)

theorem keeps_tileWake {w₀ : Nat} {s₀ s t : State} {k : Nat} (he : tileWake s k = some t) (h : Keeps w₀ s₀ s)
    (hm : Sub 4325512 w₀ := by apply sub_of; assumption; with_unfolding_all rfl) : Keeps w₀ s₀ t := by
  unfold tileWake at he
  dsimp only at he
  split at he
  · exact absurd he (by simp)
  split at he
  · exact Option.some.inj he ▸ h
  split at he
  · exact Option.some.inj he ▸ keeps_domainReady h
  · exact absurd he (by simp)

theorem keeps_dieWake {w₀ : Nat} {s₀ s t : State} (he : dieWake s = some t) (h : Keeps w₀ s₀ s)
    (hm : Sub 4325512 w₀ := by apply sub_of; assumption; with_unfolding_all rfl) : Keeps w₀ s₀ t := by
  unfold dieWake at he
  dsimp only at he
  split at he
  · exact absurd he (by simp)
  split at he
  · exact Option.some.inj he ▸ h
  split at he
  · exact Option.some.inj he ▸ keeps_domainReady h
  · exact absurd he (by simp)

theorem keeps_trimWake {w₀ : Nat} {s₀ s t : State} {o : Nat} (he : trimWake s o = some t) (h : Keeps w₀ s₀ s)
    (hm : Sub 4194304 w₀ := by apply sub_of; assumption; with_unfolding_all rfl) : Keeps w₀ s₀ t := by
  unfold trimWake at he
  split at he
  · split at he
    · split at he
      · exact absurd he (by simp)
      · split at he
        · exact Option.some.inj he ▸ keeps_wakeRegion h
        · exact Option.some.inj he ▸ h
    · exact Option.some.inj he ▸ h
  · exact Option.some.inj he ▸ h

theorem keeps_regWake {w₀ : Nat} {s₀ s t : State} {o : Nat} (he : regWake s o = some t) (h : Keeps w₀ s₀ s)
    (hm : Sub 4325512 w₀ := by apply sub_of; assumption; with_unfolding_all rfl) : Keeps w₀ s₀ t := by
  unfold regWake at he
  split at he
  · exact Option.some.inj he ▸ h
  · split at he
    · split at he
      · rename_i hw
        exact keeps_trimWake he (keeps_tileWake hw h)
      · exact absurd he (by simp)
    · exact Option.some.inj he ▸ h

theorem keeps_busRead {w₀ : Nat} {s₀ : State} {s : State} {a1} (h : Keeps w₀ s₀ s)
    (hm : Sub 46302364 w₀ := by apply sub_of; assumption; with_unfolding_all rfl) : Keeps w₀ s₀ (busRead s a1).2.2 := by
  unfold busRead
  with_reducible repeat' (first
    | assumption | (exact sub_of hm rfl) | apply keeps_ite_snd2 | apply keeps_takeFree | (apply keeps_dieWake; assumption) | apply keeps_readReg
    | (apply keeps_regWake; assumption) | split)

theorem keeps_memCe {w₀ : Nat} {s₀ : State} {s : State} {a1} (h : Keeps w₀ s₀ s) : Keeps w₀ s₀ (memCe s a1) := by
  unfold memCe
  with_reducible repeat' (first
    | assumption | refine keeps_bump ?_)

theorem keeps_memUe {w₀ : Nat} {s₀ : State} {s : State} {a1} (h : Keeps w₀ s₀ s)
    (hm : Sub 8 w₀ := by apply sub_of; assumption; with_unfolding_all rfl) : Keeps w₀ s₀ (memUe s a1) := by
  unfold memUe
  with_reducible repeat' (first
    | assumption | (exact sub_of hm rfl) | apply keeps_raise | refine keeps_wr ?_ | apply keeps_ite)

theorem keeps_busReadUe {w₀ : Nat} {s₀ : State} {s : State} {a1} {a2} (h : Keeps w₀ s₀ s)
    (hm : Sub 46302364 w₀ := by apply sub_of; assumption; with_unfolding_all rfl) : Keeps w₀ s₀ (busReadUe s a1 a2).2.2 := by
  unfold busReadUe
  with_reducible repeat' (first
    | assumption | (exact sub_of hm rfl) | apply keeps_ite_snd2 | apply keeps_busRead | apply keeps_memUe | (apply keeps_dieWake; assumption) | split)

theorem keeps_busWrite {w₀ : Nat} {s₀ : State} {s : State} {a1} {a2} {a3} (h : Keeps w₀ s₀ s)
    (hm : Sub 66547709 w₀ := by apply sub_of; assumption; with_unfolding_all rfl) : Keeps w₀ s₀ (busWrite s a1 a2 a3).2 := by
  unfold busWrite
  with_reducible repeat' (first
    | assumption | (exact sub_of hm rfl) | apply keeps_ite_snd | apply keeps_setMemWord | (apply keeps_dieWake; assumption) | apply keeps_writeReg
    | (apply keeps_regWake; assumption) | split)

theorem keepsO_execRegisterWrite {w₀ : Nat} {s₀ : State} {a0} {a1} {s : State} (h : Keeps w₀ s₀ s)
    (hm : Sub 66547709 w₀ := by apply sub_of; assumption; with_unfolding_all rfl) : KeepsO w₀ s₀ (execRegisterWrite a0 a1 s) := by
  unfold execRegisterWrite
  with_reducible repeat' (first
    | assumption | (exact sub_of hm rfl) | apply keepsO_next | apply keeps_ite | apply keeps_busWrite)

end Sys2Proof.Laws
end

