-- ==== Sys2Proof/Laws/KeepsDmaMove.lean ====
section
/-! SUPPORT. What the operations of Machine/DmaMove.lean keep, and which parts they may change (Laws/Keeps.lean). -/

set_option Elab.async false

namespace Sys2Proof.Laws

open Sys2Proof.Machine

theorem keeps_dmaAddrErr {w₀ : Nat} {s₀ : State} {s : State} {a1} (h : Keeps w₀ s₀ s)
    (hm : Sub 131080 w₀ := by apply sub_of; assumption; with_unfolding_all rfl) : Keeps w₀ s₀ (dmaAddrErr s a1) := by
  unfold dmaAddrErr
  with_reducible repeat' (first
    | assumption | (exact sub_of hm rfl) | apply keeps_dmaHalt)

theorem keeps_dmaMove {w₀ : Nat} {s₀ : State} (k : Nat) {s : State} {n : Nat} {d : DmaDesc} (h : Keeps w₀ s₀ s)
    (hm : Sub 66580477 w₀ := by apply sub_of; assumption; with_unfolding_all rfl) : Keeps w₀ s₀ (dmaMove s n d k).1 := by
  induction k generalizing s with
  | zero => exact h
  | succ k ih =>
    unfold dmaMove
    exact keeps_ite_fst (keeps_dmaAddrErr h) (keeps_ite_fst (keeps_dmaAddrErr (keeps_busRead h))
      (keeps_ite_fst (keeps_dmaAddrErr (keeps_busWrite (keeps_busRead h))) (ih (keeps_wr (keeps_busWrite (keeps_busRead h))))))

theorem keeps_dmaGather {w₀ : Nat} {s₀ : State} (k : Nat) {s : State} {d : DmaDesc} {o : Nat} {acc : List Nat} (h : Keeps w₀ s₀ s)
    (hm : Sub 46302364 w₀ := by apply sub_of; assumption; with_unfolding_all rfl) :
    Keeps w₀ s₀ (dmaGather s d o k acc).2 := by
  induction k generalizing s o acc with
  | zero => exact h
  | succ k ih =>
    unfold dmaGather
    exact keeps_ite_snd h (keeps_ite_snd (keeps_busRead h) (ih (keeps_busRead h)))

theorem keeps_dmaWords {w₀ : Nat} {s₀ : State} (n : Nat) {s : State} {a : Nat} {acc : List Nat} (h : Keeps w₀ s₀ s)
    (hm : Sub 46302364 w₀ := by apply sub_of; assumption; with_unfolding_all rfl) : Keeps w₀ s₀ (dmaWords s a n acc).2 := by
  induction n generalizing s a acc with
  | zero => exact h
  | succ n ih =>
    unfold dmaWords
    exact keeps_ite_snd (keeps_busRead h) (ih (keeps_busRead h))

theorem keeps_dmaGo {w₀ : Nat} {s₀ : State} {s : State} {a1} (h : Keeps w₀ s₀ s)
    (hm : Sub 131072 w₀ := by apply sub_of; assumption; with_unfolding_all rfl) : Keeps w₀ s₀ (dmaGo s a1) := by
  unfold dmaGo
  with_reducible repeat' (first
    | assumption | (exact sub_of hm rfl) | apply keeps_ite | apply keeps_enterRun)

theorem keeps_descRun {w₀ : Nat} {s₀ : State} {s : State} {a1} {a2} (h : Keeps w₀ s₀ s)
    (hm : Sub 131080 w₀ := by apply sub_of; assumption; with_unfolding_all rfl) : Keeps w₀ s₀ (descRun s a1 a2) := by
  unfold descRun
  with_reducible repeat' (first
    | assumption | (exact sub_of hm rfl) | apply keeps_ite | apply keeps_dmaHalt | apply keeps_State_modDma | refine keeps_wr ?_
    | apply keeps_setCur | apply keeps_dmaGo)

theorem keeps_descFetch {w₀ : Nat} {s₀ : State} {s : State} {a1} {a2} (h : Keeps w₀ s₀ s)
    (hm : Sub 46302364 w₀ := by apply sub_of; assumption; with_unfolding_all rfl) : Keeps w₀ s₀ (descFetch s a1 a2) := by
  unfold descFetch
  with_reducible repeat' (first
    | assumption | (exact sub_of hm rfl) | apply keeps_ite | apply keeps_dmaAddrErr | apply keeps_ite_snd | apply keeps_dmaWords
    | apply keeps_descRun | apply keeps_State_modDma | apply keeps_setDma | apply keeps_busReadUe | split
    | refine keeps_mk rfl rfl rfl rfl rfl rfl ?_)

theorem keeps_descDone {w₀ : Nat} {s₀ : State} {s : State} {a1} {a2} (h : Keeps w₀ s₀ s)
    (hm : Sub 66547709 w₀ := by apply sub_of; assumption; with_unfolding_all rfl) : Keeps w₀ s₀ (descDone s a1 a2) := by
  unfold descDone
  with_reducible repeat' (first
    | assumption | (exact sub_of hm rfl) | apply keeps_ite | apply keeps_dmaAddrErr | apply keeps_busWrite | apply keeps_raiseIf
    | apply keeps_State_modDma | refine keeps_wr ?_ | apply keeps_setCur)

theorem keeps_bulkSend {w₀ : Nat} {s₀ : State} {s : State} {a1} {a2} (h : Keeps w₀ s₀ s)
    (hm : Sub 46318748 w₀ := by apply sub_of; assumption; with_unfolding_all rfl) : Keeps w₀ s₀ (bulkSend s a1 a2) := by
  unfold bulkSend
  with_reducible repeat' (first
    | assumption | (exact sub_of hm rfl) | apply keeps_ite | apply keeps_dmaAddrErr | apply keeps_dmaGather | refine keeps_wr ?_ | apply keeps_send
    | split | refine keeps_mk rfl rfl rfl rfl rfl rfl ?_)

theorem keeps_dmaDrain {w₀ : Nat} {s₀ : State} {s : State} {a1} {a2} (h : Keeps w₀ s₀ s)
    (hm : Sub 66580477 w₀ := by apply sub_of; assumption; with_unfolding_all rfl) : Keeps w₀ s₀ (dmaDrain s a1 a2) := by
  unfold dmaDrain
  with_reducible repeat' (first
    | assumption | (exact sub_of hm rfl) | apply keeps_ite | apply keeps_forEach | apply keeps_bulkSend | apply keeps_dmaMove | intro _ _ _ | split)

theorem keepsO_execDmaDescFetch {w₀ : Nat} {s₀ : State} {a0} {a1} {a2} {s : State} (h : Keeps w₀ s₀ s)
    (hm : Sub 46302364 w₀ := by apply sub_of; assumption; with_unfolding_all rfl) : KeepsO w₀ s₀ (execDmaDescFetch a0 a1 a2 s) := by
  unfold execDmaDescFetch
  with_reducible repeat' (first
    | assumption | (exact sub_of hm rfl) | apply keepsO_next | apply keeps_memCe | apply keeps_descFetch)

theorem keepsO_execDmaDescDone {w₀ : Nat} {s₀ : State} {a0} {a1} {a2} {s : State} (h : Keeps w₀ s₀ s)
    (hm : Sub 66580477 w₀ := by apply sub_of; assumption; with_unfolding_all rfl) : KeepsO w₀ s₀ (execDmaDescDone a0 a1 a2 s) := by
  unfold execDmaDescDone
  with_reducible repeat' (first
    | assumption | (exact sub_of hm rfl) | apply keepsO_next | apply keeps_ite | apply keeps_descDone | apply keeps_memCe | apply keeps_dmaMove
    | apply keeps_dmaAddrErr | apply keeps_busReadUe | split)

theorem keepsO_execBulk {w₀ : Nat} {s₀ : State} {a0} {s : State} (h : Keeps w₀ s₀ s)
    (hm : Sub 46318748 w₀ := by apply sub_of; assumption; with_unfolding_all rfl) : KeepsO w₀ s₀ (execBulk a0 s) := by
  unfold execBulk
  with_reducible repeat' (first
    | assumption | (exact sub_of hm rfl) | apply keepsO_next | apply keeps_ite | apply keeps_bulkSend | split)

theorem keepsO_execDmaDrained {w₀ : Nat} {s₀ : State} {a0} {a1} {s : State} (h : Keeps w₀ s₀ s)
    (hm : Sub 66580477 w₀ := by apply sub_of; assumption; with_unfolding_all rfl) : KeepsO w₀ s₀ (execDmaDrained a0 a1 s) := by
  unfold execDmaDrained
  with_reducible repeat' (first
    | assumption | (exact sub_of hm rfl) | apply keepsO_next | apply keeps_ite | apply keeps_setDma | apply keeps_State_modDma | apply keeps_dmaDrain)

theorem keepsO_execDmaBusTimeout {w₀ : Nat} {s₀ : State} {a0} {a1} {s : State} (h : Keeps w₀ s₀ s)
    (hm : Sub 66580477 w₀ := by apply sub_of; assumption; with_unfolding_all rfl) : KeepsO w₀ s₀ (execDmaBusTimeout a0 a1 s) := by
  unfold execDmaBusTimeout
  with_reducible repeat' (first
    | assumption | (exact sub_of hm rfl) | apply keepsO_next | apply keeps_ite | apply keeps_dmaHalt | apply keeps_dmaMove | split)

end Sys2Proof.Laws
end

