-- ==== Sys2Proof/Laws/KeepsPackets.lean ====
section
/-! SUPPORT. What the operations of Machine/Packets.lean keep, and which parts they may change (Laws/Keeps.lean). -/

set_option Elab.async false

namespace Sys2Proof.Laws

open Sys2Proof.Machine

theorem keepsO_execSetMode {w₀ : Nat} {s₀ : State} {a0} {s : State} (h : Keeps w₀ s₀ s)
    (hm : Sub 66449401 w₀ := by apply sub_of; assumption; with_unfolding_all rfl) : KeepsO w₀ s₀ (execSetMode a0 s) := by
  unfold execSetMode
  with_reducible repeat' (first
    | assumption | (exact sub_of hm rfl) | apply keepsO_next | apply keeps_commandWith | apply keeps_ite_fst | apply keeps_setMode
    | apply keeps_refuseMode | apply keeps_ite | apply keeps_leaveSafe | intro _ _ _ | intro _ _ | split)

theorem keepsO_execReset {w₀ : Nat} {s₀ : State} {p : Packet} {s : State} (h : Keeps w₀ s₀ s)
    (hm : Sub 66584573 w₀ := by apply sub_of; assumption; with_unfolding_all rfl) : KeepsO w₀ s₀ (execReset p s) := by
  refine keepsO_next (keeps_commandWith h (fun u a hu => ?_) (fun u hu => hu) fun n u hu => ?_)
  · exact keeps_ite_fst hu (keeps_hostReset hu)
  · exact keeps_ite (keeps_assertSrc hu) hu

theorem keeps_accessVote {w₀ : Nat} {s₀ : State} {s : State} {a1} (h : Keeps w₀ s₀ s)
    (hm : Sub 4194312 w₀ := by apply sub_of; assumption; with_unfolding_all rfl) : Keeps w₀ s₀ (accessVote s a1) := by
  unfold accessVote
  with_reducible repeat' (first
    | assumption | (exact sub_of hm rfl) | apply keeps_voteHost | split)

theorem keeps_writeWords {w₀ : Nat} {s₀ : State} (l : List Nat) {s : State} {i : Initiator} {fix : Bool} {a n : Nat} (h : Keeps w₀ s₀ s)
    (hm : Sub 66547709 w₀ := by apply sub_of; assumption; with_unfolding_all rfl) :
    Keeps w₀ s₀ (writeWords s i fix a n l).1 := by
  induction l generalizing s a n with
  | nil => exact h
  | cons w r ih =>
    unfold writeWords
    exact keeps_ite_fst (keeps_busWrite h) (ih (keeps_busWrite h))

theorem keeps_readWords {w₀ : Nat} {s₀ : State} (n : Nat) {s : State} {fix : Bool} {ue : Option Nat} {a : Nat} {acc : List Nat} (h : Keeps w₀ s₀ s)
    (hm : Sub 46302364 w₀ := by apply sub_of; assumption; with_unfolding_all rfl) :
    Keeps w₀ s₀ (readWords s fix ue n a acc).1 := by
  induction n generalizing s a acc with
  | zero => exact h
  | succ n ih =>
    unfold readWords
    exact keeps_ite_fst (keeps_busReadUe h) (ih (keeps_busReadUe h))

theorem keeps_runWrite {w₀ : Nat} {s₀ : State} {s : State} {a1} {a2} {a3} (h : Keeps w₀ s₀ s)
    (hm : Sub 66547709 w₀ := by apply sub_of; assumption; with_unfolding_all rfl) : Keeps w₀ s₀ (runWrite s a1 a2 a3).1 := by
  unfold runWrite
  with_reducible repeat' (first
    | assumption | (exact sub_of hm rfl) | apply keeps_writeWords | apply keeps_accessVote)

theorem keepsO_execWrite {w₀ : Nat} {s₀ : State} {a0} {s : State} (h : Keeps w₀ s₀ s)
    (hm : Sub 66580477 w₀ := by apply sub_of; assumption; with_unfolding_all rfl) : KeepsO w₀ s₀ (execWrite a0 s) := by
  unfold execWrite
  with_reducible repeat' (first
    | assumption | (exact sub_of hm rfl) | apply keepsO_next | apply keeps_command | apply keeps_ite_fst | apply keeps_runWrite | intro _ _ _ | split)

theorem keeps_runRead {w₀ : Nat} {s₀ : State} {s : State} {a1} {a2} {a3} (h : Keeps w₀ s₀ s)
    (hm : Sub 46302364 w₀ := by apply sub_of; assumption; with_unfolding_all rfl) : Keeps w₀ s₀ (runRead s a1 a2 a3).1 := by
  unfold runRead
  with_reducible repeat' (first
    | assumption | (exact sub_of hm rfl) | apply keeps_readWords | apply keeps_accessVote)

theorem keeps_noBroadcast {w₀ : Nat} {s₀ : State} {s1 : State} {a1} {s2 : State} (h1 : Keeps w₀ s₀ s1) (h2 : Keeps w₀ s₀ s2) : Keeps w₀ s₀ (noBroadcast s1 a1 s2) := by
  unfold noBroadcast
  with_reducible repeat' (first
    | assumption | apply keeps_ite | refine keeps_bump ?_)

theorem keepsO_execRead {w₀ : Nat} {s₀ : State} {a0} {a1} {a2} {s : State} (h : Keeps w₀ s₀ s)
    (hm : Sub 48415900 w₀ := by apply sub_of; assumption; with_unfolding_all rfl) : KeepsO w₀ s₀ (execRead a0 a1 a2 s) := by
  unfold execRead
  with_reducible repeat' (first
    | assumption | (exact sub_of hm rfl) | apply keepsO_next | apply keeps_noBroadcast | apply keeps_command | apply keeps_ite_fst
    | apply keeps_memCe | apply keeps_runRead | intro _ _ _ | split)

theorem keepsO_execAccessWakeTimeout {w₀ : Nat} {s₀ : State} {a0} {a1} {a2} {s : State} (h : Keeps w₀ s₀ s)
    (hm : Sub 66580477 w₀ := by apply sub_of; assumption; with_unfolding_all rfl) : KeepsO w₀ s₀ (execAccessWakeTimeout a0 a1 a2 s) := by
  unfold execAccessWakeTimeout
  with_reducible repeat' (first
    | assumption | (exact sub_of hm rfl) | apply keepsO_next | apply keeps_ite | apply keeps_command | apply keeps_ite_fst | apply keeps_runWrite
    | apply keeps_noBroadcast | apply keeps_runRead | intro _ _ _)

theorem keeps_postWords {w₀ : Nat} {s₀ : State} {s : State} {a1} {a2} (h : Keeps w₀ s₀ s)
    (hm : Sub 66547709 w₀ := by apply sub_of; assumption; with_unfolding_all rfl) : Keeps w₀ s₀ (postWords s a1 a2).1 := by
  unfold postWords
  with_reducible repeat' (first
    | assumption | (exact sub_of hm rfl) | apply keeps_foldl_fst | apply keeps_ite_fst | apply keeps_busWrite | intro _ _ _ | split)

theorem keeps_ringPost {w₀ : Nat} {s₀ : State} {s : State} {a1} {a2} {a3} (h : Keeps w₀ s₀ s)
    (hm : Sub 66547709 w₀ := by apply sub_of; assumption; with_unfolding_all rfl) : Keeps w₀ s₀ (ringPost s a1 a2 a3).1 := by
  unfold ringPost
  with_reducible repeat' (first
    | assumption | (exact sub_of hm rfl) | apply keeps_ite_fst | apply keeps_postWords | apply keeps_dmaDoorbell | apply keeps_State_modDma | split)

theorem keepsO_execRingPost {w₀ : Nat} {s₀ : State} {a0} {a1} {s : State} (h : Keeps w₀ s₀ s)
    (hm : Sub 66580477 w₀ := by apply sub_of; assumption; with_unfolding_all rfl) : KeepsO w₀ s₀ (execRingPost a0 a1 s) := by
  unfold execRingPost
  with_reducible repeat' (first
    | assumption | (exact sub_of hm rfl) | apply keepsO_next | apply keeps_command | apply keeps_ite_fst | apply keeps_ringPost
    | apply keeps_voteHost | intro _ _ _ | split)

theorem keepsO_execRingStatus {w₀ : Nat} {s₀ : State} {a0} {a1} {s : State} (h : Keeps w₀ s₀ s)
    (hm : Sub 6340616 w₀ := by apply sub_of; assumption; with_unfolding_all rfl) : KeepsO w₀ s₀ (execRingStatus a0 a1 s) := by
  unfold execRingStatus
  with_reducible repeat' (first
    | assumption | (exact sub_of hm rfl) | apply keepsO_next | apply keeps_noBroadcast | apply keeps_command | apply keeps_voteHost | intro _ _ _
    | split)

theorem keeps_eventPayload {w₀ : Nat} {s₀ s : State} {es : List EventEntry} (h : Keeps w₀ s₀ s)
    (hm : Sub 8 w₀ := by apply sub_of; assumption; with_unfolding_all rfl) : Keeps w₀ s₀ (eventPayload s es).2 :=
  keeps_events (wf_sublist (List.Sublist.refl _) rfl) h

theorem wf_markPushed {q : EventQueue} (lost : Bool) (h : q.wf = true) :
    EventQueue.wf { entries := markPushed q.entries, next := q.next, lostPending := lost } = true := by
  rw [wf_iff] at h ⊢
  exact ⟨(markPushed_others q.entries).symm ▸ h.1, h.2.1, markPushed_eseq h.2.2⟩

theorem keepsO_execEventPush {w₀ : Nat} {s₀ s : State} (h : Keeps w₀ s₀ s)
    (hm : Sub 49160 w₀ := by apply sub_of; assumption; with_unfolding_all rfl) : KeepsO w₀ s₀ (execEventPush s) := by
  refine keepsO_next ?_
  split
  · exact keeps_ite (keeps_send (keeps_events (wf_markPushed _) (keeps_eventPayload h))) h
  · exact h

theorem keepsO_execEvent {w₀ : Nat} {s₀ : State} {p : Packet} {s : State} (h : Keeps w₀ s₀ s)
    (hm : Sub 2146312 w₀ := by apply sub_of; assumption; with_unfolding_all rfl) : KeepsO w₀ s₀ (execEvent p s) := by
  refine keepsO_next (keeps_noBroadcast h (keeps_command h fun u a hu => keeps_ite_fst hu ?_))
  exact keeps_eventPayload (es := []) (keeps_ite (keeps_events (wf_sublist (ackEvents_sublist _ _) rfl) hu) hu)

theorem keeps_putSlot {w₀ : Nat} {s₀ : State} {s : State} {a1} {a2} (h : Keeps w₀ s₀ s)
    (hm : Sub 524288 w₀ := by apply sub_of; assumption; with_unfolding_all rfl) : Keeps w₀ s₀ (putSlot s a1 a2) := by
  unfold putSlot
  with_reducible repeat' (first
    | assumption | (exact sub_of hm rfl) | apply keeps_ite | refine keeps_mk rfl rfl rfl rfl rfl rfl ?_)

theorem keeps_imageCommand {w₀ : Nat} {s₀ s : State} {sub : Nat} {p : Packet} {f : State → State × Nat} (h : Keeps w₀ s₀ s)
    (hf : ∀ u, Keeps w₀ s₀ u → Keeps w₀ s₀ (f u).1)
    (hm : Sub 6340616 w₀ := by apply sub_of; assumption; with_unfolding_all rfl) : Keeps w₀ s₀ (imageCommand s sub p f) := by
  refine keeps_command h fun u a hu => ?_
  exact keeps_ite_fst hu (keeps_ite_fst hu (hf _ (keeps_voteHost hu)))

theorem keeps_imageWrite {w₀ : Nat} {s₀ : State} {s : State} {a1} {a2} (h : Keeps w₀ s₀ s)
    (hm : Sub 1572864 w₀ := by apply sub_of; assumption; with_unfolding_all rfl) : Keeps w₀ s₀ (imageWrite s a1 a2).1 := by
  unfold imageWrite
  with_reducible repeat' (first
    | assumption | (exact sub_of hm rfl) | apply keeps_ite_fst | apply keeps_putSlot | split | refine keeps_mk rfl rfl rfl rfl rfl rfl ?_)

theorem keeps_imageCommit {w₀ : Nat} {s₀ : State} {s : State} (h : Keeps w₀ s₀ s)
    (hm : Sub 64843257 w₀ := by apply sub_of; assumption; with_unfolding_all rfl) : Keeps w₀ s₀ (imageCommit s).1 := by
  unfold imageCommit
  with_reducible repeat' (first
    | assumption | (exact sub_of hm rfl) | apply keeps_ite_fst | apply keeps_ite | apply keeps_endStep6 | apply keeps_writeDir | split
    | refine keeps_mk rfl rfl rfl rfl rfl rfl ?_)

theorem keepsO_execImageWrite {w₀ : Nat} {s₀ : State} {a0} {s : State} (h : Keeps w₀ s₀ s)
    (hm : Sub 7913480 w₀ := by apply sub_of; assumption; with_unfolding_all rfl) : KeepsO w₀ s₀ (execImageWrite a0 s) := by
  unfold execImageWrite
  with_reducible repeat' (first
    | assumption | (exact sub_of hm rfl) | apply keepsO_next | apply keeps_imageCommand | apply keeps_imageWrite | intro _ _)

theorem keepsO_execImageCommit {w₀ : Nat} {s₀ : State} {a0} {s : State} (h : Keeps w₀ s₀ s)
    (hm : Sub 66973177 w₀ := by apply sub_of; assumption; with_unfolding_all rfl) : KeepsO w₀ s₀ (execImageCommit a0 s) := by
  unfold execImageCommit
  with_reducible repeat' (first
    | assumption | (exact sub_of hm rfl) | apply keepsO_next | apply keeps_imageCommand | apply keeps_ite_fst | apply keeps_imageCommit | intro _ _
    | split)

theorem keepsO_execImageAbort {w₀ : Nat} {s₀ : State} {a0} {s : State} (h : Keeps w₀ s₀ s)
    (hm : Sub 7389192 w₀ := by apply sub_of; assumption; with_unfolding_all rfl) : KeepsO w₀ s₀ (execImageAbort a0 s) := by
  unfold execImageAbort
  with_reducible repeat' (first
    | assumption | (exact sub_of hm rfl) | apply keepsO_next | apply keeps_imageCommand | intro _ _ | split
    | refine keeps_mk rfl rfl rfl rfl rfl rfl ?_)

theorem keepsO_execImageStatus {w₀ : Nat} {s₀ : State} {a0} {s : State} (h : Keeps w₀ s₀ s)
    (hm : Sub 6340616 w₀ := by apply sub_of; assumption; with_unfolding_all rfl) : KeepsO w₀ s₀ (execImageStatus a0 s) := by
  unfold execImageStatus
  with_reducible repeat' (first
    | assumption | (exact sub_of hm rfl) | apply keepsO_next | apply keeps_imageCommand | intro _ _ | split)

theorem keepsO_execSched {w₀ : Nat} {s₀ : State} {a0} {s : State} (h : Keeps w₀ s₀ s)
    (hm : Sub 6340648 w₀ := by apply sub_of; assumption; with_unfolding_all rfl) : KeepsO w₀ s₀ (execSched a0 s) := by
  unfold execSched
  with_reducible repeat' (first
    | assumption | (exact sub_of hm rfl) | apply keepsO_next | apply keeps_command | apply keeps_ite_fst | apply keeps_offerAll
    | apply keeps_voteHost | intro _ _ _ | split)

theorem keeps_weightsReply {w₀ : Nat} {s₀ : State} {s : State} {a1} {a2} (h : Keeps w₀ s₀ s)
    (hm : Sub 2146304 w₀ := by apply sub_of; assumption; with_unfolding_all rfl) : Keeps w₀ s₀ (weightsReply s a1 a2) := by
  unfold weightsReply
  with_reducible repeat' (first
    | assumption | (exact sub_of hm rfl) | apply keeps_forEach | apply keeps_ite | apply keeps_sendAuth | apply keeps_send | intro _ _ _ | split
    | refine keeps_mk rfl rfl rfl rfl rfl rfl ?_)

theorem keeps_weightsAsk {w₀ : Nat} {s₀ : State} {s : State} {a1} {a2} {a3} (h : Keeps w₀ s₀ s)
    (hm : Sub 32768 w₀ := by apply sub_of; assumption; with_unfolding_all rfl) : Keeps w₀ s₀ (weightsAsk s a1 a2 a3) := by
  unfold weightsAsk
  with_reducible repeat' (first
    | assumption | (exact sub_of hm rfl) | apply keeps_ite | split | refine keeps_mk rfl rfl rfl rfl rfl rfl ?_)

theorem keeps_weightsGap {w₀ : Nat} {s₀ : State} {s : State} (h : Keeps w₀ s₀ s)
    (hm : Sub 33032 w₀ := by apply sub_of; assumption; with_unfolding_all rfl) : Keeps w₀ s₀ (weightsGap s) := by
  unfold weightsGap
  with_reducible repeat' (first
    | assumption | (exact sub_of hm rfl) | apply keeps_ite | apply keeps_wsetFail | split | refine keeps_mk rfl rfl rfl rfl rfl rfl ?_)

theorem keeps_weightsTake {w₀ : Nat} {s₀ : State} {s : State} {a1} {a2} {a3} {a4} {a5} (h : Keeps w₀ s₀ s)
    (hm : Sub 33032 w₀ := by apply sub_of; assumption; with_unfolding_all rfl) : Keeps w₀ s₀ (weightsTake s a1 a2 a3 a4 a5).1 := by
  unfold weightsTake
  with_reducible repeat' (first
    | assumption | (exact sub_of hm rfl) | apply keeps_ite_fst | apply keeps_wsetArrive | apply keeps_weightsAsk | split
    | refine keeps_mk rfl rfl rfl rfl rfl rfl ?_)

theorem keeps_weightsFragment {w₀ : Nat} {s₀ : State} {s : State} {a1} {a2} {a3} {a4} {a5} (h : Keeps w₀ s₀ s)
    (hm : Sub 33032 w₀ := by apply sub_of; assumption; with_unfolding_all rfl) : Keeps w₀ s₀ (weightsFragment s a1 a2 a3 a4 a5).1 := by
  unfold weightsFragment
  with_reducible repeat' (first
    | assumption | (exact sub_of hm rfl) | apply keeps_ite_fst | apply keeps_weightsTake | apply keeps_weightsGap | split)

theorem keepsO_execWeights {w₀ : Nat} {s₀ : State} {a0} {s : State} (h : Keeps w₀ s₀ s)
    (hm : Sub 2146568 w₀ := by apply sub_of; assumption; with_unfolding_all rfl) : KeepsO w₀ s₀ (execWeights a0 s) := by
  unfold execWeights
  with_reducible repeat' (first
    | assumption | (exact sub_of hm rfl) | apply keepsO_next | apply keeps_receive | apply keeps_ite | apply keeps_respond | refine keeps_bump ?_
    | apply keeps_authenticate | apply keeps_weightsFragment | intro _ _ | split | refine keeps_mk rfl rfl rfl rfl rfl rfl ?_)

theorem keepsO_execWsetChecksDone {w₀ : Nat} {s₀ : State} {a0} {s : State} (h : Keeps w₀ s₀ s)
    (hm : Sub 2146568 w₀ := by apply sub_of; assumption; with_unfolding_all rfl) : KeepsO w₀ s₀ (execWsetChecksDone a0 s) := by
  unfold execWsetChecksDone
  with_reducible repeat' (first
    | assumption | (exact sub_of hm rfl) | apply keepsO_next | apply keeps_ite | apply keeps_weightsReply | apply keeps_wsetChecksDone)

theorem keepsO_execHdrErr {w₀ : Nat} {s₀ : State} {a0} {s : State} (h : Keeps w₀ s₀ s) : KeepsO w₀ s₀ (execHdrErr a0 s) := by
  unfold execHdrErr
  with_reducible repeat' (first
    | assumption | apply keepsO_next | apply keeps_ite | refine keeps_bump ?_)

theorem keepsO_execUnknownOpcode {w₀ : Nat} {s₀ : State} {a0} {a1} {s : State} (h : Keeps w₀ s₀ s)
    (hm : Sub 2146312 w₀ := by apply sub_of; assumption; with_unfolding_all rfl) : KeepsO w₀ s₀ (execUnknownOpcode a0 a1 s) := by
  unfold execUnknownOpcode
  with_reducible repeat' (first
    | assumption | (exact sub_of hm rfl) | apply keepsO_next | apply keeps_command | intro _ _ _)

theorem keeps_forwardTo {w₀ : Nat} {s₀ : State} {s : State} {a1} {a2} {a3} {a4} (h : Keeps w₀ s₀ s)
    (hm : Sub 16384 w₀ := by apply sub_of; assumption; with_unfolding_all rfl) : Keeps w₀ s₀ (forwardTo s a1 a2 a3 a4) := by
  unfold forwardTo
  with_reducible repeat' (first
    | assumption | (exact sub_of hm rfl) | apply keeps_ite | refine keeps_bump ?_ | refine keeps_mk rfl rfl rfl rfl rfl rfl ?_)

theorem keepsO_execForwardDownstream {w₀ : Nat} {s₀ : State} {a0} {a1} {a2} {s : State} (h : Keeps w₀ s₀ s)
    (hm : Sub 49160 w₀ := by apply sub_of; assumption; with_unfolding_all rfl) : KeepsO w₀ s₀ (execForwardDownstream a0 a1 a2 s) := by
  unfold execForwardDownstream
  with_reducible repeat' (first
    | assumption | (exact sub_of hm rfl) | apply keepsO_next | apply keeps_ite | apply keeps_forEach | apply keeps_forwardTo | refine keeps_bump ?_
    | apply keeps_raise | intro _ _ _ | split | refine keeps_mk rfl rfl rfl rfl rfl rfl ?_)

theorem keepsO_execForwardUpstream {w₀ : Nat} {s₀ : State} {a0} {a1} {a2} {a3} {s : State} (h : Keeps w₀ s₀ s)
    (hm : Sub 16384 w₀ := by apply sub_of; assumption; with_unfolding_all rfl) : KeepsO w₀ s₀ (execForwardUpstream a0 a1 a2 a3 s) := by
  unfold execForwardUpstream
  with_reducible repeat' (first
    | assumption | (exact sub_of hm rfl) | apply keepsO_next | apply keeps_ite | apply keeps_forwardTo)

theorem keepsO_execPoolCommit {w₀ : Nat} {s₀ : State} {s : State} (h : Keeps w₀ s₀ s)
    (hm : Sub 9 w₀ := by apply sub_of; assumption; with_unfolding_all rfl) : KeepsO w₀ s₀ (execPoolCommit s) := by
  unfold execPoolCommit
  with_reducible repeat' (first
    | assumption | (exact sub_of hm rfl) | apply keepsO_next | apply keeps_poolCommit)

end Sys2Proof.Laws
end

