-- ==== Sys2Proof/Laws/KeepsData.lean ====
section
/-! SUPPORT. What the operations of Machine/Data.lean keep, and which parts they may change (Laws/Keeps.lean). -/

set_option Elab.async false

namespace Sys2Proof.Laws

open Sys2Proof.Machine

theorem keeps_openWork {w₀ : Nat} {s₀ : State} {s : State} {a1} {a2} (h : Keeps w₀ s₀ s)
    (hm : Sub 256 w₀ := by apply sub_of; assumption; with_unfolding_all rfl) : Keeps w₀ s₀ (openWork s a1 a2) := by
  unfold openWork
  with_reducible repeat' (first
    | assumption | (exact sub_of hm rfl) | apply keeps_ite | refine keeps_mk rfl rfl rfl rfl rfl rfl ?_)

theorem keeps_satShow {w₀ : Nat} {s₀ : State} {s : State} {a1} {a2} {a3} (h : Keeps w₀ s₀ s) : Keeps w₀ s₀ (satShow s a1 a2 a3) := by
  unfold satShow
  with_reducible repeat' (first
    | assumption | apply keeps_forTiles | apply keeps_ite | refine keeps_bump ?_ | refine keeps_wrIf ?_ | intro _ _ _)

theorem keeps_countDrop {w₀ : Nat} {s₀ : State} {s : State} {a1} (h : Keeps w₀ s₀ s)
    (hm : Sub 8 w₀ := by apply sub_of; assumption; with_unfolding_all rfl) : Keeps w₀ s₀ (countDrop s a1) := by
  unfold countDrop
  with_reducible repeat' (first
    | assumption | (exact sub_of hm rfl) | apply keeps_raiseIf | refine keeps_bump ?_)

theorem keeps_ulPut {w₀ : Nat} {s₀ : State} {s : State} {a1} (h : Keeps w₀ s₀ s)
    (hm : Sub 32776 w₀ := by apply sub_of; assumption; with_unfolding_all rfl) : Keeps w₀ s₀ (ulPut s a1) := by
  unfold ulPut
  with_reducible repeat' (first
    | assumption | (exact sub_of hm rfl) | apply keeps_ite | apply keeps_setPads | apply keeps_countDrop | refine keeps_mk rfl rfl rfl rfl rfl rfl ?_)

theorem keeps_workQual {w₀ : Nat} {s₀ : State} {s : State} {a1} (h : Keeps w₀ s₀ s)
    (hm : Sub 8388608 w₀ := by apply sub_of; assumption; with_unfolding_all rfl) : Keeps w₀ s₀ (workQual s a1).2.2 := by
  unfold workQual
  with_reducible repeat' (first
    | assumption | (exact sub_of hm rfl) | apply keeps_takeFree | split)

theorem keeps_countExcl {w₀ : Nat} {s₀ : State} {s : State} {a1} (h : Keeps w₀ s₀ s) : Keeps w₀ s₀ (countExcl s a1) := by
  unfold countExcl
  with_reducible repeat' (first
    | assumption | apply keeps_forEach | refine keeps_bump ?_ | intro _ _ _)

theorem keeps_rxSymbolDone {w₀ : Nat} {s₀ : State} {s : State} {a1} {a2} {a3} (h : Keeps w₀ s₀ s)
    (hm : Sub 8421384 w₀ := by apply sub_of; assumption; with_unfolding_all rfl) : Keeps w₀ s₀ (rxSymbolDone s a1 a2 a3) := by
  unfold rxSymbolDone
  with_reducible repeat' (first
    | assumption | (exact sub_of hm rfl) | apply keeps_ulPut | apply keeps_satShow | apply keeps_workQual | apply keeps_countExcl | split)

theorem keeps_prachDone {w₀ : Nat} {s₀ : State} {s : State} {a1} {a2} {a3} {a4} (h : Keeps w₀ s₀ s)
    (hm : Sub 8421384 w₀ := by apply sub_of; assumption; with_unfolding_all rfl) : Keeps w₀ s₀ (prachDone s a1 a2 a3 a4) := by
  unfold prachDone
  with_reducible repeat' (first
    | assumption | (exact sub_of hm rfl) | apply keeps_ulPut | apply keeps_satShow | apply keeps_ite | apply keeps_raise | apply keeps_forTiles
    | apply keeps_workQual | apply keeps_countExcl | refine keeps_wr ?_ | intro _ _ _)

theorem keeps_withWork {w₀ : Nat} {s₀ s : State} {hit : RxWork → Bool} {f : State → RxWork → State} (h : Keeps w₀ s₀ s)
    (hf : ∀ u w, Keeps w₀ s₀ u → Keeps w₀ s₀ (f u w))
    (hm : Sub 256 w₀ := by apply sub_of; assumption; with_unfolding_all rfl) : Keeps w₀ s₀ (withWork s hit f) := by
  unfold withWork
  split
  · exact hf _ _ (keeps_mk rfl rfl rfl rfl rfl rfl h)
  · exact h

theorem keepsO_execRxSymbolDone {w₀ : Nat} {s₀ : State} {a0} {a1} {a2} {a3} {a4} {s : State} (h : Keeps w₀ s₀ s)
    (hm : Sub 8421640 w₀ := by apply sub_of; assumption; with_unfolding_all rfl) : KeepsO w₀ s₀ (execRxSymbolDone a0 a1 a2 a3 a4 s) := by
  unfold execRxSymbolDone
  with_reducible repeat' (first
    | assumption | (exact sub_of hm rfl) | apply keepsO_next | apply keeps_withWork | apply keeps_rxSymbolDone | intro _ _ _)

theorem keepsO_execPrachDone {w₀ : Nat} {s₀ : State} {a0} {a1} {a2} {a3} {a4} {s : State} (h : Keeps w₀ s₀ s)
    (hm : Sub 8421640 w₀ := by apply sub_of; assumption; with_unfolding_all rfl) : KeepsO w₀ s₀ (execPrachDone a0 a1 a2 a3 a4 s) := by
  unfold execPrachDone
  with_reducible repeat' (first
    | assumption | (exact sub_of hm rfl) | apply keepsO_next | apply keeps_withWork | apply keeps_prachDone | intro _ _ _)

theorem keeps_ulFree {w₀ : Nat} {s₀ : State} {s : State} {a1} {a2} (h : Keeps w₀ s₀ s) : Keeps w₀ s₀ (ulFree s a1 a2) := by
  unfold ulFree
  with_reducible repeat' (first
    | assumption | apply keeps_setPads)

theorem keeps_ulDiscard {w₀ : Nat} {s₀ : State} {s : State} {a1} (h : Keeps w₀ s₀ s)
    (hm : Sub 32776 w₀ := by apply sub_of; assumption; with_unfolding_all rfl) : Keeps w₀ s₀ (ulDiscard s a1) := by
  unfold ulDiscard
  with_reducible repeat' (first
    | assumption | (exact sub_of hm rfl) | apply keeps_countDrop | apply keeps_ulFree | split | refine keeps_mk rfl rfl rfl rfl rfl rfl ?_)

theorem keeps_ulSend {w₀ : Nat} {s₀ : State} {s : State} {a1} (h : Keeps w₀ s₀ s)
    (hm : Sub 49152 w₀ := by apply sub_of; assumption; with_unfolding_all rfl) : Keeps w₀ s₀ (ulSend s a1) := by
  unfold ulSend
  with_reducible repeat' (first
    | assumption | (exact sub_of hm rfl) | apply keeps_ite | apply keeps_send | apply keeps_ulFree | split
    | refine keeps_mk rfl rfl rfl rfl rfl rfl ?_)

theorem keeps_ulAgeHead {w₀ : Nat} {s₀ : State} {s : State} {a1} (h : Keeps w₀ s₀ s)
    (hm : Sub 32776 w₀ := by apply sub_of; assumption; with_unfolding_all rfl) : Keeps w₀ s₀ (ulAgeHead s a1) := by
  unfold ulAgeHead
  with_reducible repeat' (first
    | assumption | (exact sub_of hm rfl) | apply keeps_ite | apply keeps_ulDiscard | split)

theorem keepsO_execUlData {w₀ : Nat} {s₀ : State} {a0} {a1} {s : State} (h : Keeps w₀ s₀ s)
    (hm : Sub 49160 w₀ := by apply sub_of; assumption; with_unfolding_all rfl) : KeepsO w₀ s₀ (execUlData a0 a1 s) := by
  unfold execUlData
  with_reducible repeat' (first
    | assumption | (exact sub_of hm rfl) | apply keepsO_next | apply keeps_ite | apply keeps_forEach | apply keeps_ulSend | apply keeps_ulAgeHead
    | intro _ _ _)

theorem keepsO_execUlAgeDiscard {w₀ : Nat} {s₀ : State} {a0} {s : State} (h : Keeps w₀ s₀ s)
    (hm : Sub 32776 w₀ := by apply sub_of; assumption; with_unfolding_all rfl) : KeepsO w₀ s₀ (execUlAgeDiscard a0 s) := by
  unfold execUlAgeDiscard
  with_reducible repeat' (first
    | assumption | (exact sub_of hm rfl) | apply keepsO_next | apply keeps_ulAgeHead)

theorem keeps_dlArrive {w₀ : Nat} {s₀ : State} {s : State} {a1} (h : Keeps w₀ s₀ s)
    (hm : Sub 32776 w₀ := by apply sub_of; assumption; with_unfolding_all rfl) : Keeps w₀ s₀ (dlArrive s a1) := by
  unfold dlArrive
  with_reducible repeat' (first
    | assumption | (exact sub_of hm rfl) | apply keeps_ite | apply keeps_raise | apply keeps_raiseIf | refine keeps_bump ?_ | apply keeps_setPads
    | refine keeps_mk rfl rfl rfl rfl rfl rfl ?_)

theorem keepsO_execDlData {w₀ : Nat} {s₀ : State} {a0} {s : State} (h : Keeps w₀ s₀ s)
    (hm : Sub 32776 w₀ := by apply sub_of; assumption; with_unfolding_all rfl) : KeepsO w₀ s₀ (execDlData a0 s) := by
  unfold execDlData
  with_reducible repeat' (first
    | assumption | (exact sub_of hm rfl) | apply keepsO_next | apply keeps_receive | apply keeps_ite | apply keeps_dlArrive | intro _ _)

theorem keeps_dlUse {w₀ : Nat} {s₀ : State} {a0} {a1} {a2} {s : State} {a4} (h : Keeps w₀ s₀ s) : Keeps w₀ s₀ (dlUse a0 a1 a2 s a4) := by
  unfold dlUse
  with_reducible repeat' (first
    | assumption | refine keeps_bump ?_ | apply keeps_forTiles | intro _ _ _ | split)

theorem keeps_dlAtDeadline {w₀ : Nat} {s₀ : State} {s : State} {a1} {a2} (h : Keeps w₀ s₀ s)
    (hm : Sub 32768 w₀ := by apply sub_of; assumption; with_unfolding_all rfl) : Keeps w₀ s₀ (dlAtDeadline s a1 a2) := by
  unfold dlAtDeadline
  with_reducible repeat' (first
    | assumption | (exact sub_of hm rfl) | refine keeps_bump ?_ | apply keeps_setPads | apply keeps_forEach | apply keeps_dlUse | intro _ _ _
    | split | refine keeps_mk rfl rfl rfl rfl rfl rfl ?_)

theorem keeps_advanceCycles {w₀ : Nat} {s₀ : State} {s : State} {a1} (h : Keeps w₀ s₀ s)
    (hm : Sub 16 w₀ := by apply sub_of; assumption; with_unfolding_all rfl) : Keeps w₀ s₀ (advanceCycles s a1) := by
  unfold advanceCycles
  with_reducible repeat' (first
    | assumption | (exact sub_of hm rfl) | refine keeps_mk rfl rfl rfl rfl rfl rfl ?_)

theorem keepsO_execDlDeadline {w₀ : Nat} {s₀ : State} {a0} {a1} {a2} {s : State} (h : Keeps w₀ s₀ s)
    (hm : Sub 32784 w₀ := by apply sub_of; assumption; with_unfolding_all rfl) : KeepsO w₀ s₀ (execDlDeadline a0 a1 a2 s) := by
  unfold execDlDeadline
  with_reducible repeat' (first
    | assumption | (exact sub_of hm rfl) | apply keepsO_next | apply keeps_ite | apply keeps_forTiles | apply keeps_dlAtDeadline
    | apply keeps_advanceCycles | refine keeps_bump ?_ | refine keeps_wr ?_ | intro _ _ _)

end Sys2Proof.Laws
end

