-- ==== Sys2Proof/Laws/KeepsOperands.lean ====
section
/-! SUPPORT. What the operations of Machine/Operands.lean keep, and which parts they may change (Laws/Keeps.lean). -/

set_option Elab.async false

namespace Sys2Proof.Laws

open Sys2Proof.Machine

theorem keeps_coreRead {w₀ : Nat} {s₀ : State} {s : State} {a1} {a2} {a3} {a4} {a5} (h : Keeps w₀ s₀ s)
    (hm : Sub 46302364 w₀ := by apply sub_of; assumption; with_unfolding_all rfl) : Keeps w₀ s₀ (coreRead s a1 a2 a3 a4 a5).2.2 := by
  unfold coreRead
  with_reducible repeat' (first
    | assumption | (exact sub_of hm rfl) | apply keeps_ite_snd2 | apply keeps_memCe | apply keeps_busReadUe | split)

theorem keeps_coreWrite {w₀ : Nat} {s₀ : State} {s : State} {a1} {a2} {a3} {a4} {a5} (h : Keeps w₀ s₀ s)
    (hm : Sub 66547709 w₀ := by apply sub_of; assumption; with_unfolding_all rfl) : Keeps w₀ s₀ (coreWrite s a1 a2 a3 a4 a5).2 := by
  unfold coreWrite
  with_reducible repeat' (first
    | assumption | (exact sub_of hm rfl) | apply keeps_ite_snd | apply keeps_busWrite | apply keeps_setMemWord | split)

theorem keeps_runLoads {w₀ : Nat} {s₀ : State} (l : List Move) {g : Nat} {c : CtxS} {ue ce : Bool} {s : State} (h : Keeps w₀ s₀ s)
    (hm : Sub 46302364 w₀ := by apply sub_of; assumption; with_unfolding_all rfl) :
    Keeps w₀ s₀ (runLoads g c ue ce s l).1 := by
  induction l generalizing s with
  | nil => exact h
  | cons m r ih =>
    unfold runLoads
    exact keeps_ite_fst (ih h) (keeps_ite_fst (keeps_coreRead h) (ih (keeps_coreRead h)))

theorem keeps_runStores {w₀ : Nat} {s₀ : State} (l : List Move) {g : Nat} {user : Bool} {c : CtxS} {s : State} (h : Keeps w₀ s₀ s)
    (hm : Sub 66547709 w₀ := by apply sub_of; assumption; with_unfolding_all rfl) :
    Keeps w₀ s₀ (runStores g user c s l).1 := by
  induction l generalizing s with
  | nil => exact h
  | cons m r ih =>
    unfold runStores
    exact keeps_ite_fst (keeps_ite_fst (keeps_coreWrite h) (ih (keeps_coreWrite h))) (ih h)

end Sys2Proof.Laws
end

