-- ==== Sys2Proof/Laws/KeepsNewtRun.lean ====
section
/-! SUPPORT. What the operations of Machine/NewtRun.lean keep, and which parts they may change (Laws/Keeps.lean). -/

set_option Elab.async false

namespace Sys2Proof.Laws

open Sys2Proof.Machine

theorem keeps_vendorFault {w₀ : Nat} {s₀ : State} {s : State} {a1} (h : Keeps w₀ s₀ s)
    (hm : Sub 8596556 w₀ := by apply sub_of; assumption; with_unfolding_all rfl) : Keeps w₀ s₀ (vendorFault s a1) := by
  unfold vendorFault
  with_reducible repeat' (first
    | assumption | (exact sub_of hm rfl) | apply keeps_requestBlk | apply keeps_raise | refine keeps_wr ?_)

theorem keeps_suspendCache {w₀ : Nat} {s₀ : State} {s : State} {a1} (h : Keeps w₀ s₀ s)
    (hm : Sub 1024 w₀ := by apply sub_of; assumption; with_unfolding_all rfl) : Keeps w₀ s₀ (suspendCache s a1) := by
  unfold suspendCache
  with_reducible repeat' (first
    | assumption | (exact sub_of hm rfl) | apply keeps_State_modNewt)

theorem keeps_newtFault {w₀ : Nat} {s₀ : State} {s : State} {a1} {a2} {a3} (h : Keeps w₀ s₀ s)
    (hm : Sub 8596556 w₀ := by apply sub_of; assumption; with_unfolding_all rfl) : Keeps w₀ s₀ (newtFault s a1 a2 a3) := by
  unfold newtFault
  with_reducible repeat' (first
    | assumption | (exact sub_of hm rfl) | apply keeps_ite | apply keeps_userFault | apply keeps_suspendCache | apply keeps_vendorFault)

theorem keeps_haltCtx {w₀ : Nat} {s₀ : State} {s : State} {a1} {a2} (h : Keeps w₀ s₀ s)
    (hm : Sub 1024 w₀ := by apply sub_of; assumption; with_unfolding_all rfl) : Keeps w₀ s₀ (haltCtx s a1 a2) := by
  unfold haltCtx
  with_reducible repeat' (first
    | assumption | (exact sub_of hm rfl) | apply keeps_ite | apply keeps_setU | apply keeps_takeView | apply keeps_stopKernel | refine keeps_wr ?_)

/-- What an instruction leaves keeps the state, whether it completes or raises an exception. -/
def ResKeeps (w₀ : Nat) (s : State) (r : NRes) : Prop :=
  match r with
  | .error e => Keeps w₀ s e.2
  | .ok o => Keeps w₀ s o.s

def EffKeeps (w₀ : Nat) (s : State) (o : Option (CtxS → Nat → NRes)) : Prop := ∀ f, o = some f → ∀ c n, ResKeeps w₀ s (f c n)

theorem resKeeps_ok {w₀ : Nat} {s : State} {o : NOut} (h : Keeps w₀ s o.s) : ResKeeps w₀ s (.ok o) := h

theorem resKeeps_error {w₀ : Nat} {s : State} {e : Nat × State} (h : Keeps w₀ s e.2) : ResKeeps w₀ s (.error e) := h

theorem resKeeps_ite {w₀ : Nat} {s : State} {a b : NRes} {c : Prop} [Decidable c] (ha : ResKeeps w₀ s a) (hb : ResKeeps w₀ s b) :
    ResKeeps w₀ s (if c then a else b) := by
  split <;> assumption

theorem keeps_ite_out {w₀ : Nat} {s : State} {a b : NOut} {c : Prop} [Decidable c] (ha : Keeps w₀ s a.s) (hb : Keeps w₀ s b.s) :
    Keeps w₀ s (if c then a else b).s := by
  split <;> assumption

theorem effKeeps_none {w₀ : Nat} {s : State} : EffKeeps w₀ s none := fun _ h => absurd h (by simp)

theorem effKeeps_some {w₀ : Nat} {s : State} {f : CtxS → Nat → NRes} (h : ∀ c n, ResKeeps w₀ s (f c n)) : EffKeeps w₀ s (some f) := by
  intro g hg
  cases hg
  exact h

theorem effKeeps_plain {w₀ : Nat} {s₀ s : State} {f : CtxS → CtxS} (h : Keeps w₀ s₀ s) : EffKeeps w₀ s₀ (plain s f) := effKeeps_some fun _ _ => h

theorem effKeeps_ite {w₀ : Nat} {s : State} {a b : Option (CtxS → Nat → NRes)} {c : Prop} [Decidable c] (ha : EffKeeps w₀ s a) (hb : EffKeeps w₀ s b) :
    EffKeeps w₀ s (if c then a else b) := by
  split <;> assumption

theorem keeps_newtFinish {w₀ : Nat} {s₀ : State} {o : NOut} {g : Nat} {user : Bool} {pc w : Nat} (h : Keeps w₀ s₀ o.s)
    (hm : Sub 1024 w₀ := by apply sub_of; assumption; with_unfolding_all rfl) :
    Keeps w₀ s₀ (newtFinish o g user pc w) := by
  unfold newtFinish
  have h1 := fun (f : NewtS → NewtS) (v : Nat) => keeps_bump (f := Reg.NEWT_LOAD_CONFLICT g) (n := v) (keeps_State_modNewt (a1 := g) (a2 := f) (keeps_rollLoad (a1 := g) h))
  exact keeps_ite (keeps_haltCtx (h1 _ _)) (keeps_ite (keeps_ite (keeps_stopKernel (h1 _ _)) (keeps_wr (h1 _ _))) (h1 _ _))

theorem keeps_newtRun {w₀ : Nat} {s₀ s : State} {g : Nat} {user : Bool} {eff : NI → Option (CtxS → Nat → NRes)} (h : Keeps w₀ s₀ s)
    (hf : ∀ i, EffKeeps w₀ s₀ (eff i))
    (hm : Sub 8596556 w₀ := by apply sub_of; assumption; with_unfolding_all rfl) : Keeps w₀ s₀ (newtRun s g user eff) := by
  unfold newtRun
  refine keeps_ite h ?_
  dsimp only
  split
  · exact keeps_newtFault h
  · rename_i i w _
    split
    · exact h
    · rename_i f he
      have hr := hf i f he
      split
      · rename_i hx
        have hk := hr { s.ctx g user with wait := none } ((({ s.ctx g user with wait := none } : CtxS).pc + w) % 32768)
        rw [hx] at hk
        exact keeps_newtFault hk
      · rename_i hx
        have hk := hr { s.ctx g user with wait := none } ((({ s.ctx g user with wait := none } : CtxS).pc + w) % 32768)
        rw [hx] at hk
        exact keeps_newtFinish hk

theorem keepsO_execNewtBusTimeout {w₀ : Nat} {s₀ : State} {a0} {a1} {s : State} (h : Keeps w₀ s₀ s)
    (hm : Sub 8596556 w₀ := by apply sub_of; assumption; with_unfolding_all rfl) : KeepsO w₀ s₀ (execNewtBusTimeout a0 a1 s) := by
  unfold execNewtBusTimeout
  with_reducible repeat' (first
    | assumption | (exact sub_of hm rfl) | apply keepsO_next | apply keeps_ite | apply keeps_newtFault)

theorem keepsO_execNewtHeartbeatMiss {w₀ : Nat} {s₀ : State} {a0} {s : State} (h : Keeps w₀ s₀ s)
    (hm : Sub 8596556 w₀ := by apply sub_of; assumption; with_unfolding_all rfl) : KeepsO w₀ s₀ (execNewtHeartbeatMiss a0 s) := by
  unfold execNewtHeartbeatMiss
  with_reducible repeat' (first
    | assumption | (exact sub_of hm rfl) | apply keepsO_next | apply keeps_ite | apply keeps_vendorFault | refine keeps_wr ?_)

end Sys2Proof.Laws
end

