-- ==== Sys2Proof/Laws/KeepsNewtFlow.lean ====
section
/-! SUPPORT. What the operations of Machine/NewtFlow.lean keep, and which parts they may change (Laws/Keeps.lean). -/

set_option Elab.async false

namespace Sys2Proof.Laws

open Sys2Proof.Machine

theorem keepsO_execNNop {w₀ : Nat} {s₀ : State} {a0} {a1} {s : State} (h : Keeps w₀ s₀ s)
    (hm : Sub 8596556 w₀ := by apply sub_of; assumption; with_unfolding_all rfl) : KeepsO w₀ s₀ (execNNop a0 a1 s) := by
  unfold execNNop
  with_reducible repeat' (first
    | assumption | (exact sub_of hm rfl) | apply keepsO_next | refine keeps_newtRun ?_ (fun _ => ?_) (sub_of hm rfl) | apply effKeeps_plain
    | apply effKeeps_none | split)

theorem keepsO_execNBr {w₀ : Nat} {s₀ : State} {a0} {a1} {s : State} (h : Keeps w₀ s₀ s)
    (hm : Sub 8596556 w₀ := by apply sub_of; assumption; with_unfolding_all rfl) : KeepsO w₀ s₀ (execNBr a0 a1 s) := by
  unfold execNBr
  with_reducible repeat' (first
    | assumption | (exact sub_of hm rfl) | apply keepsO_next | refine keeps_newtRun ?_ (fun _ => ?_) (sub_of hm rfl)
    | refine effKeeps_some fun _ _ => ?_ | apply resKeeps_ok | apply keeps_ite_out | apply effKeeps_none | split)

theorem keepsO_execNCall {w₀ : Nat} {s₀ : State} {a0} {a1} {s : State} (h : Keeps w₀ s₀ s)
    (hm : Sub 8596556 w₀ := by apply sub_of; assumption; with_unfolding_all rfl) : KeepsO w₀ s₀ (execNCall a0 a1 s) := by
  unfold execNCall
  with_reducible repeat' (first
    | assumption | (exact sub_of hm rfl) | apply keepsO_next | refine keeps_newtRun ?_ (fun _ => ?_) (sub_of hm rfl)
    | refine effKeeps_some fun _ _ => ?_ | apply resKeeps_ite | apply resKeeps_error | apply resKeeps_ok | apply effKeeps_none | split)

theorem keepsO_execNRet {w₀ : Nat} {s₀ : State} {a0} {a1} {s : State} (h : Keeps w₀ s₀ s)
    (hm : Sub 8596556 w₀ := by apply sub_of; assumption; with_unfolding_all rfl) : KeepsO w₀ s₀ (execNRet a0 a1 s) := by
  unfold execNRet
  with_reducible repeat' (first
    | assumption | (exact sub_of hm rfl) | apply keepsO_next | refine keeps_newtRun ?_ (fun _ => ?_) (sub_of hm rfl)
    | refine effKeeps_some fun _ _ => ?_ | apply resKeeps_error | apply resKeeps_ok | apply effKeeps_none | split)

theorem keepsO_execNLoop {w₀ : Nat} {s₀ : State} {a0} {a1} {s : State} (h : Keeps w₀ s₀ s)
    (hm : Sub 8596556 w₀ := by apply sub_of; assumption; with_unfolding_all rfl) : KeepsO w₀ s₀ (execNLoop a0 a1 s) := by
  unfold execNLoop
  with_reducible repeat' (first
    | assumption | (exact sub_of hm rfl) | apply keepsO_next | refine keeps_newtRun ?_ (fun _ => ?_) (sub_of hm rfl)
    | refine effKeeps_some fun _ _ => ?_ | apply resKeeps_ite | apply resKeeps_error | apply resKeeps_ok | apply effKeeps_none | split)

theorem keepsO_execNYield {w₀ : Nat} {s₀ : State} {a0} {a1} {s : State} (h : Keeps w₀ s₀ s)
    (hm : Sub 8596556 w₀ := by apply sub_of; assumption; with_unfolding_all rfl) : KeepsO w₀ s₀ (execNYield a0 a1 s) := by
  unfold execNYield
  with_reducible repeat' (first
    | assumption | (exact sub_of hm rfl) | apply keepsO_next | refine keeps_newtRun ?_ (fun _ => ?_) (sub_of hm rfl)
    | refine effKeeps_some fun _ _ => ?_ | apply resKeeps_ok | apply effKeeps_none | split)

theorem keepsO_execNWaitev {w₀ : Nat} {s₀ : State} {a0} {a1} {s : State} (h : Keeps w₀ s₀ s)
    (hm : Sub 8596556 w₀ := by apply sub_of; assumption; with_unfolding_all rfl) : KeepsO w₀ s₀ (execNWaitev a0 a1 s) := by
  unfold execNWaitev
  with_reducible repeat' (first
    | assumption | (exact sub_of hm rfl) | apply keepsO_next | refine keeps_newtRun ?_ (fun _ => ?_) (sub_of hm rfl)
    | refine effKeeps_some fun _ _ => ?_ | apply resKeeps_ok | apply effKeeps_none | split)

theorem keepsO_execNHalt {w₀ : Nat} {s₀ : State} {a0} {a1} {s : State} (h : Keeps w₀ s₀ s)
    (hm : Sub 8596556 w₀ := by apply sub_of; assumption; with_unfolding_all rfl) : KeepsO w₀ s₀ (execNHalt a0 a1 s) := by
  unfold execNHalt
  with_reducible repeat' (first
    | assumption | (exact sub_of hm rfl) | apply keepsO_next | refine keeps_newtRun ?_ (fun _ => ?_) (sub_of hm rfl)
    | refine effKeeps_some fun _ _ => ?_ | apply resKeeps_ok | apply effKeeps_none | split)

theorem keepsO_execNSys {w₀ : Nat} {s₀ : State} {a0} {a1} {s : State} (h : Keeps w₀ s₀ s)
    (hm : Sub 8596556 w₀ := by apply sub_of; assumption; with_unfolding_all rfl) : KeepsO w₀ s₀ (execNSys a0 a1 s) := by
  unfold execNSys
  with_reducible repeat' (first
    | assumption | (exact sub_of hm rfl) | apply keepsO_next | refine keeps_newtRun ?_ (fun _ => ?_) (sub_of hm rfl)
    | refine effKeeps_some fun _ _ => ?_ | apply resKeeps_ite | apply resKeeps_error | apply resKeeps_ok | apply effKeeps_none | split)

end Sys2Proof.Laws
end

