-- ==== Sys2Proof/Laws/KeepsNewtMac.lean ====
section
/-! SUPPORT. What the operations of Machine/NewtMac.lean keep, and which parts they may change (Laws/Keeps.lean). -/

set_option Elab.async false

namespace Sys2Proof.Laws

open Sys2Proof.Machine

/-- The moves of an instruction. -/
theorem keeps_runMoves {w₀ : Nat} {s₀ s : State} {g : Nat} {user ue ce : Bool} {c0 c : CtxS} {ms : List Move} (h : Keeps w₀ s₀ s)
    (hm : Sub 66580477 w₀ := by apply sub_of; assumption; with_unfolding_all rfl) :
    match runMoves s g user ue ce c0 c ms with
    | .error e => Keeps w₀ s₀ e.2
    | .ok r => Keeps w₀ s₀ r.1 := by
  unfold runMoves
  have hl := keeps_runLoads ms (g := g) (c := c0) (ue := ue) (ce := ce) h
  by_cases hp : (ms.any fun m => !permitted s g user c0 m.store (moveAddr c0 m)) = true
  · rw [if_pos hp]
    exact h
  · rw [if_neg hp]
    split
    · rename_i hx
      split at hx <;> rename_i he
      · cases hx
        rw [he] at hl
        exact hl
      · rw [he] at hl
        dsimp only at hx
        split at hx
        · exact absurd hx (by simp)
        · cases hx
          exact keeps_runStores ms hl
    · rename_i hx
      split at hx <;> rename_i he
      · exact absurd hx (by simp)
      · rw [he] at hl
        dsimp only at hx
        split at hx
        · cases hx
          exact keeps_runStores ms hl
        · exact absurd hx (by simp)

theorem resKeeps_moves {w₀ : Nat} {s₀ s : State} {g : Nat} {user ue ce : Bool} {c0 c : CtxS} {ms : List Move} {nx : Nat} (h : Keeps w₀ s₀ s)
    (hm : Sub 66580477 w₀ := by apply sub_of; assumption; with_unfolding_all rfl) :
    ResKeeps w₀ s₀ (match runMoves s g user ue ce c0 c ms with
      | .error e => .error e
      | .ok r => .ok { s := r.1, c := r.2, pc := nx, bus := moveBuses c0 ms }) := by
  have hm := keeps_runMoves (g := g) (user := user) (ue := ue) (ce := ce) (c0 := c0) (c := c) (ms := ms) h
  revert hm
  generalize runMoves s g user ue ce c0 c ms = r
  cases r with
  | error e => exact id
  | ok r => exact id

theorem keeps_macRow {w₀ : Nat} {s₀ s : State} {g : Nat} {user ue ce : Bool} {op : MacOp} {f : CtxS → Nat → Nat → Nat → CtxS} (h : Keeps w₀ s₀ s)
    (hm : Sub 66580477 w₀ := by apply sub_of; assumption; with_unfolding_all rfl) :
    Keeps w₀ s₀ (macRow s g user ue ce op f) := by
  refine keeps_newtRun h fun i => ?_
  split
  · exact effKeeps_ite (effKeeps_some fun _ _ => resKeeps_moves h) effKeeps_none
  · exact effKeeps_none

theorem keepsO_execNNone {w₀ : Nat} {s₀ : State} {a0} {a1} {a2} {a3} {s : State} (h : Keeps w₀ s₀ s)
    (hm : Sub 66580477 w₀ := by apply sub_of; assumption; with_unfolding_all rfl) : KeepsO w₀ s₀ (execNNone a0 a1 a2 a3 s) := by
  unfold execNNone
  with_reducible repeat' (first
    | assumption | (exact sub_of hm rfl) | apply keepsO_next | apply keeps_macRow)

theorem keepsO_execNCmac {w₀ : Nat} {s₀ : State} {a0} {a1} {a2} {a3} {s : State} (h : Keeps w₀ s₀ s)
    (hm : Sub 66580477 w₀ := by apply sub_of; assumption; with_unfolding_all rfl) : KeepsO w₀ s₀ (execNCmac a0 a1 a2 a3 s) := by
  unfold execNCmac
  with_reducible repeat' (first
    | assumption | (exact sub_of hm rfl) | apply keepsO_next | apply keeps_macRow)

theorem keepsO_execNCmacc {w₀ : Nat} {s₀ : State} {a0} {a1} {a2} {a3} {s : State} (h : Keeps w₀ s₀ s)
    (hm : Sub 66580477 w₀ := by apply sub_of; assumption; with_unfolding_all rfl) : KeepsO w₀ s₀ (execNCmacc a0 a1 a2 a3 s) := by
  unfold execNCmacc
  with_reducible repeat' (first
    | assumption | (exact sub_of hm rfl) | apply keepsO_next | apply keeps_macRow)

theorem keepsO_execNCmsu {w₀ : Nat} {s₀ : State} {a0} {a1} {a2} {a3} {s : State} (h : Keeps w₀ s₀ s)
    (hm : Sub 66580477 w₀ := by apply sub_of; assumption; with_unfolding_all rfl) : KeepsO w₀ s₀ (execNCmsu a0 a1 a2 a3 s) := by
  unfold execNCmsu
  with_reducible repeat' (first
    | assumption | (exact sub_of hm rfl) | apply keepsO_next | apply keeps_macRow)

theorem keepsO_execNCmul {w₀ : Nat} {s₀ : State} {a0} {a1} {a2} {a3} {s : State} (h : Keeps w₀ s₀ s)
    (hm : Sub 66580477 w₀ := by apply sub_of; assumption; with_unfolding_all rfl) : KeepsO w₀ s₀ (execNCmul a0 a1 a2 a3 s) := by
  unfold execNCmul
  with_reducible repeat' (first
    | assumption | (exact sub_of hm rfl) | apply keepsO_next | apply keeps_macRow)

theorem keepsO_execNRmac {w₀ : Nat} {s₀ : State} {a0} {a1} {a2} {a3} {s : State} (h : Keeps w₀ s₀ s)
    (hm : Sub 66580477 w₀ := by apply sub_of; assumption; with_unfolding_all rfl) : KeepsO w₀ s₀ (execNRmac a0 a1 a2 a3 s) := by
  unfold execNRmac
  with_reducible repeat' (first
    | assumption | (exact sub_of hm rfl) | apply keepsO_next | apply keeps_macRow)

theorem keepsO_execNCpwr {w₀ : Nat} {s₀ : State} {a0} {a1} {a2} {a3} {s : State} (h : Keeps w₀ s₀ s)
    (hm : Sub 66580477 w₀ := by apply sub_of; assumption; with_unfolding_all rfl) : KeepsO w₀ s₀ (execNCpwr a0 a1 a2 a3 s) := by
  unfold execNCpwr
  with_reducible repeat' (first
    | assumption | (exact sub_of hm rfl) | apply keepsO_next | apply keeps_macRow)

theorem keepsO_execNClr {w₀ : Nat} {s₀ : State} {a0} {a1} {a2} {a3} {s : State} (h : Keeps w₀ s₀ s)
    (hm : Sub 66580477 w₀ := by apply sub_of; assumption; with_unfolding_all rfl) : KeepsO w₀ s₀ (execNClr a0 a1 a2 a3 s) := by
  unfold execNClr
  with_reducible repeat' (first
    | assumption | (exact sub_of hm rfl) | apply keepsO_next | apply keeps_macRow)

end Sys2Proof.Laws
end

