-- ==== Sys2Proof/Laws/KeepsNewtMove.lean ====
section
/-! SUPPORT. What the operations of Machine/NewtMove.lean keep, and which parts they may change (Laws/Keeps.lean). -/

set_option Elab.async false

namespace Sys2Proof.Laws

open Sys2Proof.Machine

theorem keepsO_execNTrn {w₀ : Nat} {s₀ : State} {a0} {a1} {s : State} (h : Keeps w₀ s₀ s)
    (hm : Sub 8596556 w₀ := by apply sub_of; assumption; with_unfolding_all rfl) : KeepsO w₀ s₀ (execNTrn a0 a1 s) := by
  unfold execNTrn
  with_reducible repeat' (first
    | assumption | (exact sub_of hm rfl) | apply keepsO_next | refine keeps_newtRun ?_ (fun _ => ?_) (sub_of hm rfl) | apply effKeeps_plain
    | apply effKeeps_none | split)

theorem keepsO_execNLda {w₀ : Nat} {s₀ : State} {a0} {a1} {s : State} (h : Keeps w₀ s₀ s)
    (hm : Sub 8596556 w₀ := by apply sub_of; assumption; with_unfolding_all rfl) : KeepsO w₀ s₀ (execNLda a0 a1 s) := by
  unfold execNLda
  with_reducible repeat' (first
    | assumption | (exact sub_of hm rfl) | apply keepsO_next | refine keeps_newtRun ?_ (fun _ => ?_) (sub_of hm rfl) | apply effKeeps_plain
    | apply effKeeps_none | split)

theorem keepsO_execNAdda {w₀ : Nat} {s₀ : State} {a0} {a1} {s : State} (h : Keeps w₀ s₀ s)
    (hm : Sub 8596556 w₀ := by apply sub_of; assumption; with_unfolding_all rfl) : KeepsO w₀ s₀ (execNAdda a0 a1 s) := by
  unfold execNAdda
  with_reducible repeat' (first
    | assumption | (exact sub_of hm rfl) | apply keepsO_next | refine keeps_newtRun ?_ (fun _ => ?_) (sub_of hm rfl) | apply keeps_takeFree
    | apply effKeeps_plain | apply effKeeps_none | split)

theorem keepsO_execNNega {w₀ : Nat} {s₀ : State} {a0} {a1} {s : State} (h : Keeps w₀ s₀ s)
    (hm : Sub 8596556 w₀ := by apply sub_of; assumption; with_unfolding_all rfl) : KeepsO w₀ s₀ (execNNega a0 a1 s) := by
  unfold execNNega
  with_reducible repeat' (first
    | assumption | (exact sub_of hm rfl) | apply keepsO_next | refine keeps_newtRun ?_ (fun _ => ?_) (sub_of hm rfl) | apply keeps_takeFree
    | apply effKeeps_plain | apply effKeeps_none | split)

theorem keeps_ptrRow {w₀ : Nat} {s₀ : State} {s : State} {a1} {a2} {a3} {a4} (h : Keeps w₀ s₀ s)
    (hm : Sub 8596556 w₀ := by apply sub_of; assumption; with_unfolding_all rfl) : Keeps w₀ s₀ (ptrRow s a1 a2 a3 a4) := by
  unfold ptrRow
  with_reducible repeat' (first
    | assumption | (exact sub_of hm rfl) | refine keeps_newtRun ?_ (fun _ => ?_) (sub_of hm rfl) | apply effKeeps_ite | apply effKeeps_plain
    | apply effKeeps_none | split)

theorem keepsO_execNMovp {w₀ : Nat} {s₀ : State} {a0} {a1} {s : State} (h : Keeps w₀ s₀ s)
    (hm : Sub 8596556 w₀ := by apply sub_of; assumption; with_unfolding_all rfl) : KeepsO w₀ s₀ (execNMovp a0 a1 s) := by
  unfold execNMovp
  with_reducible repeat' (first
    | assumption | (exact sub_of hm rfl) | apply keepsO_next | apply keeps_ptrRow)

theorem keepsO_execNMovxp {w₀ : Nat} {s₀ : State} {a0} {a1} {s : State} (h : Keeps w₀ s₀ s)
    (hm : Sub 8596556 w₀ := by apply sub_of; assumption; with_unfolding_all rfl) : KeepsO w₀ s₀ (execNMovxp a0 a1 s) := by
  unfold execNMovxp
  with_reducible repeat' (first
    | assumption | (exact sub_of hm rfl) | apply keepsO_next | apply keeps_ptrRow)

theorem keepsO_execNMovm {w₀ : Nat} {s₀ : State} {a0} {a1} {s : State} (h : Keeps w₀ s₀ s)
    (hm : Sub 8596556 w₀ := by apply sub_of; assumption; with_unfolding_all rfl) : KeepsO w₀ s₀ (execNMovm a0 a1 s) := by
  unfold execNMovm
  with_reducible repeat' (first
    | assumption | (exact sub_of hm rfl) | apply keepsO_next | apply keeps_ptrRow)

theorem keepsO_execNMovxm {w₀ : Nat} {s₀ : State} {a0} {a1} {s : State} (h : Keeps w₀ s₀ s)
    (hm : Sub 8596556 w₀ := by apply sub_of; assumption; with_unfolding_all rfl) : KeepsO w₀ s₀ (execNMovxm a0 a1 s) := by
  unfold execNMovxm
  with_reducible repeat' (first
    | assumption | (exact sub_of hm rfl) | apply keepsO_next | apply keeps_ptrRow)

theorem keepsO_execNAddp {w₀ : Nat} {s₀ : State} {a0} {a1} {s : State} (h : Keeps w₀ s₀ s)
    (hm : Sub 8596556 w₀ := by apply sub_of; assumption; with_unfolding_all rfl) : KeepsO w₀ s₀ (execNAddp a0 a1 s) := by
  unfold execNAddp
  with_reducible repeat' (first
    | assumption | (exact sub_of hm rfl) | apply keepsO_next | apply keeps_ptrRow)

theorem keepsO_execNCirc {w₀ : Nat} {s₀ : State} {a0} {a1} {s : State} (h : Keeps w₀ s₀ s)
    (hm : Sub 8596556 w₀ := by apply sub_of; assumption; with_unfolding_all rfl) : KeepsO w₀ s₀ (execNCirc a0 a1 s) := by
  unfold execNCirc
  with_reducible repeat' (first
    | assumption | (exact sub_of hm rfl) | apply keepsO_next | refine keeps_newtRun ?_ (fun _ => ?_) (sub_of hm rfl)
    | refine effKeeps_some fun _ _ => ?_ | apply resKeeps_ite | apply resKeeps_ok | apply resKeeps_error | apply effKeeps_none | split)

theorem keepsO_execNMovwb {w₀ : Nat} {s₀ : State} {a0} {a1} {s : State} (h : Keeps w₀ s₀ s)
    (hm : Sub 8596556 w₀ := by apply sub_of; assumption; with_unfolding_all rfl) : KeepsO w₀ s₀ (execNMovwb a0 a1 s) := by
  unfold execNMovwb
  with_reducible repeat' (first
    | assumption | (exact sub_of hm rfl) | apply keepsO_next | apply keeps_ptrRow)

theorem keeps_ldstRow {w₀ : Nat} {s₀ s : State} {g : Nat} {user ue ce store : Bool} (h : Keeps w₀ s₀ s)
    (hm : Sub 66580477 w₀ := by apply sub_of; assumption; with_unfolding_all rfl) : Keeps w₀ s₀ (ldstRow s g user ue ce store) := by
  refine keeps_newtRun h fun i => ?_
  split
  · exact effKeeps_ite (effKeeps_some fun _ _ => resKeeps_moves h) effKeeps_none
  · exact effKeeps_none

theorem keepsO_execNLd {w₀ : Nat} {s₀ : State} {a0} {a1} {a2} {a3} {s : State} (h : Keeps w₀ s₀ s)
    (hm : Sub 66580477 w₀ := by apply sub_of; assumption; with_unfolding_all rfl) : KeepsO w₀ s₀ (execNLd a0 a1 a2 a3 s) := by
  unfold execNLd
  with_reducible repeat' (first
    | assumption | (exact sub_of hm rfl) | apply keepsO_next | apply keeps_ldstRow)

theorem keepsO_execNSt {w₀ : Nat} {s₀ : State} {a0} {a1} {s : State} (h : Keeps w₀ s₀ s)
    (hm : Sub 66580477 w₀ := by apply sub_of; assumption; with_unfolding_all rfl) : KeepsO w₀ s₀ (execNSt a0 a1 s) := by
  unfold execNSt
  with_reducible repeat' (first
    | assumption | (exact sub_of hm rfl) | apply keepsO_next | apply keeps_ldstRow)

theorem keepsO_execNLong {w₀ : Nat} {s₀ : State} {a0} {a1} {s : State} (h : Keeps w₀ s₀ s)
    (hm : Sub 8596556 w₀ := by apply sub_of; assumption; with_unfolding_all rfl) : KeepsO w₀ s₀ (execNLong a0 a1 s) := by
  unfold execNLong
  with_reducible repeat' (first
    | assumption | (exact sub_of hm rfl) | apply keepsO_next | refine keeps_newtRun ?_ (fun _ => ?_) (sub_of hm rfl) | apply effKeeps_plain
    | apply effKeeps_none | split)

end Sys2Proof.Laws
end

