-- ==== Sys2Proof/Laws/KeepsBoundary.lean ====
section
/-! SUPPORT. What the operations of Machine/Boundary.lean keep, and which parts they may change (Laws/Keeps.lean). -/

set_option Elab.async false

namespace Sys2Proof.Laws

open Sys2Proof.Machine

theorem keeps_endUnit {w₀ : Nat} {s₀ : State} {a0} {a1} {s : State} {a3} (h : Keeps w₀ s₀ s)
    (hm : Sub 4194376 w₀ := by apply sub_of; assumption; with_unfolding_all rfl) : Keeps w₀ s₀ (endUnit a0 a1 s a3) := by
  unfold endUnit
  with_reducible repeat' (first
    | assumption | (exact sub_of hm rfl) | apply keeps_ite | apply keeps_State_modUnit | apply keeps_txEndSymbol | apply keeps_rxEndSymbol | split
    | refine keeps_mk rfl rfl rfl rfl rfl rfl ?_)

theorem keeps_turnSymbol {w₀ : Nat} {s₀ : State} {s : State} {a1} {a2} (h : Keeps w₀ s₀ s)
    (hm : Sub 4194424 w₀ := by apply sub_of; assumption; with_unfolding_all rfl) : Keeps w₀ s₀ (turnSymbol s a1 a2) := by
  unfold turnSymbol
  with_reducible repeat' (first
    | assumption | (exact sub_of hm rfl) | apply keeps_forEach | apply keeps_advanceTo | apply keeps_endUnit | apply keeps_rxNewSymbol
    | intro _ _ _ | refine keeps_mk rfl rfl rfl rfl rfl rfl ?_)

theorem keeps_boundaryCommits {w₀ : Nat} {s₀ : State} {s : State} {a1} (h : Keeps w₀ s₀ s)
    (hm : Sub 25437177 w₀ := by apply sub_of; assumption; with_unfolding_all rfl) : Keeps w₀ s₀ (boundaryCommits s a1) := by
  unfold boundaryCommits
  with_reducible repeat' (first
    | assumption | (exact sub_of hm rfl) | apply keeps_forEach | apply keeps_ite | apply keeps_hkCommit | apply keeps_chorusCommit
    | apply keeps_tileCommit | apply keeps_escCommit | apply keeps_clusterCommit | apply keeps_txCommit | apply keeps_rxCommit
    | apply keeps_orxCommit | apply keeps_calBoundary | intro _ _ _)

theorem keeps_realignUnits {w₀ : Nat} {s₀ : State} {s : State} {a1} {a2} {a3} (h : Keeps w₀ s₀ s)
    (hm : Sub 72 w₀ := by apply sub_of; assumption; with_unfolding_all rfl) : Keeps w₀ s₀ (realignUnits s a1 a2 a3) := by
  unfold realignUnits
  with_reducible repeat' (first
    | assumption | (exact sub_of hm rfl) | apply keeps_ite | apply keeps_capSkewLost | apply keeps_forEach | apply keeps_txRealign
    | apply keeps_rxRealign | intro _ _ _)

theorem keeps_boundarySync {w₀ : Nat} {s₀ : State} {s : State} {a1} {a2} (h : Keeps w₀ s₀ s)
    (hm : Sub 72 w₀ := by apply sub_of; assumption; with_unfolding_all rfl) : Keeps w₀ s₀ (boundarySync s a1 a2) := by
  unfold boundarySync
  with_reducible repeat' (first
    | assumption | (exact sub_of hm rfl) | apply keeps_forEach | apply keeps_realignUnits | intro _ _ _)

theorem keeps_boundarySets {w₀ : Nat} {s₀ : State} {s : State} {a1} (h : Keeps w₀ s₀ s)
    (hm : Sub 10569 w₀ := by apply sub_of; assumption; with_unfolding_all rfl) : Keeps w₀ s₀ (boundarySets s a1) := by
  unfold boundarySets
  with_reducible repeat' (first
    | assumption | (exact sub_of hm rfl) | apply keeps_forEach | apply keeps_croakClose | apply keeps_swapAll | apply keeps_moultAt
    | apply keeps_openWork | apply keeps_symbolLayers | apply keeps_croakWindow | intro _ _ _)

theorem keeps_boundaryGates {w₀ : Nat} {s₀ : State} {s : State} {a1} (h : Keeps w₀ s₀ s)
    (hm : Sub 4194880 w₀ := by apply sub_of; assumption; with_unfolding_all rfl) : Keeps w₀ s₀ (boundaryGates s a1) := by
  unfold boundaryGates
  with_reducible repeat' (first
    | assumption | (exact sub_of hm rfl) | apply keeps_ite | apply keeps_forEach | apply keeps_gateRx | apply keeps_gateTx | apply keeps_gateRegion
    | intro _ _ _ | refine keeps_mk rfl rfl rfl rfl rfl rfl ?_)

theorem keeps_wakeLate {w₀ : Nat} {s₀ : State} {s : State} (h : Keeps w₀ s₀ s)
    (hm : Sub 8 w₀ := by apply sub_of; assumption; with_unfolding_all rfl) : Keeps w₀ s₀ (wakeLate s) := by
  unfold wakeLate
  with_reducible repeat' (first
    | assumption | (exact sub_of hm rfl) | apply keeps_raiseIf | refine keeps_bump ?_)

theorem keeps_dropUnlocked {w₀ : Nat} {s₀ : State} {s : State} {a1} (h : Keeps w₀ s₀ s)
    (hm : Sub 136 w₀ := by apply sub_of; assumption; with_unfolding_all rfl) : Keeps w₀ s₀ (dropUnlocked s a1) := by
  unfold dropUnlocked
  with_reducible repeat' (first
    | assumption | (exact sub_of hm rfl) | apply keeps_ite | refine keeps_bump ?_ | apply keeps_raise | apply keeps_State_modCluster)

theorem keeps_startTx {w₀ : Nat} {s₀ : State} {a0} {s : State} {a2} (h : Keeps w₀ s₀ s)
    (hm : Sub 200 w₀ := by apply sub_of; assumption; with_unfolding_all rfl) : Keeps w₀ s₀ (startTx a0 s a2) := by
  unfold startTx
  with_reducible repeat' (first
    | assumption | (exact sub_of hm rfl) | apply keeps_State_modTx | apply keeps_ite | apply keeps_wakeLate | apply keeps_dropUnlocked
    | apply keeps_updateBackoff | apply keeps_noTable | apply keeps_boundaryCauses)

theorem keeps_startRx {w₀ : Nat} {s₀ : State} {a0} {s : State} {a2} (h : Keeps w₀ s₀ s)
    (hm : Sub 72 w₀ := by apply sub_of; assumption; with_unfolding_all rfl) : Keeps w₀ s₀ (startRx a0 s a2) := by
  unfold startRx
  with_reducible repeat' (first
    | assumption | (exact sub_of hm rfl) | apply keeps_ite | apply keeps_wakeLate | apply keeps_markTag | apply keeps_State_modRx
    | apply keeps_agcDecision | split)

theorem keeps_strobes {w₀ : Nat} {s₀ : State} {a0} {s : State} {a2} (h : Keeps w₀ s₀ s) : Keeps w₀ s₀ (strobes a0 s a2) := by
  unfold strobes
  with_reducible repeat' (first
    | assumption | refine keeps_wr ?_)

theorem keeps_boundaryStart {w₀ : Nat} {s₀ : State} {s : State} {a1} (h : Keeps w₀ s₀ s)
    (hm : Sub 4458152 w₀ := by apply sub_of; assumption; with_unfolding_all rfl) : Keeps w₀ s₀ (boundaryStart s a1) := by
  unfold boundaryStart
  with_reducible repeat' (first
    | assumption | (exact sub_of hm rfl) | apply keeps_ite | apply keeps_showTrimWork | apply keeps_retireEntries | apply keeps_forEach
    | apply keeps_hkSlot | apply keeps_calStart | apply keeps_orxSwitch | apply keeps_strobes | apply keeps_userTrigger | apply keeps_rffeSlot
    | intro _ _ _ | refine keeps_mk rfl rfl rfl rfl rfl rfl ?_)

theorem keeps_boundaryActions {w₀ : Nat} {s₀ : State} {s : State} {a1} {a2} (h : Keeps w₀ s₀ s)
    (hm : Sub 29634553 w₀ := by apply sub_of; assumption; with_unfolding_all rfl) : Keeps w₀ s₀ (boundaryActions s a1 a2) := by
  unfold boundaryActions
  with_reducible repeat' (first
    | assumption | (exact sub_of hm rfl) | apply keeps_boundaryStart | apply keeps_forEach | apply keeps_boundaryGates | apply keeps_boundarySets
    | apply keeps_layerCaps | apply keeps_boundarySync | apply keeps_boundaryCommits | apply keeps_turnCheck | apply keeps_startTx
    | apply keeps_updateNbLive | apply keeps_startRx | intro _ _ _)

theorem keeps_symbolBoundary {w₀ : Nat} {s₀ : State} {s : State} {a1} (h : Keeps w₀ s₀ s)
    (hm : Sub 64319481 w₀ := by apply sub_of; assumption; with_unfolding_all rfl) : Keeps w₀ s₀ (symbolBoundary s a1) := by
  unfold symbolBoundary
  with_reducible repeat' (first
    | assumption | (exact sub_of hm rfl) | apply keeps_ite | apply keeps_boundaryActions | apply keeps_modeBoundary | apply keeps_turnSymbol)

theorem keeps_syncRealign {w₀ : Nat} {s₀ : State} {s : State} {a1} {a2} (h : Keeps w₀ s₀ s)
    (hm : Sub 104 w₀ := by apply sub_of; assumption; with_unfolding_all rfl) : Keeps w₀ s₀ (syncRealign s a1 a2) := by
  unfold syncRealign
  with_reducible repeat' (first
    | assumption | (exact sub_of hm rfl) | apply keeps_ite | apply keeps_realignUnits | apply keeps_raiseIf | apply keeps_forEach
    | apply keeps_State_modRx | intro _ _ _ | refine keeps_mk rfl rfl rfl rfl rfl rfl ?_)

theorem keeps_preWake {w₀ : Nat} {s₀ : State} {s : State} {a1} {a2} (h : Keeps w₀ s₀ s)
    (hm : Sub 4194816 w₀ := by apply sub_of; assumption; with_unfolding_all rfl) : Keeps w₀ s₀ (preWake s a1 a2) := by
  unfold preWake
  with_reducible repeat' (first
    | assumption | (exact sub_of hm rfl) | apply keeps_ite | refine keeps_mk rfl rfl rfl rfl rfl rfl ?_)

theorem keeps_wakeReady {w₀ : Nat} {s₀ : State} {s : State} {a1} {a2} (h : Keeps w₀ s₀ s)
    (hm : Sub 4194368 w₀ := by apply sub_of; assumption; with_unfolding_all rfl) : Keeps w₀ s₀ (wakeReady s a1 a2) := by
  unfold wakeReady
  with_reducible repeat' (first
    | assumption | (exact sub_of hm rfl) | apply keeps_ite | apply keeps_wakeRegion | apply keeps_wakeTx | apply keeps_wakeRx
    | refine keeps_mk rfl rfl rfl rfl rfl rfl ?_)

theorem keepsO_execSymbolBoundary {w₀ : Nat} {s₀ : State} {a0} {s : State} (h : Keeps w₀ s₀ s)
    (hm : Sub 64319481 w₀ := by apply sub_of; assumption; with_unfolding_all rfl) : KeepsO w₀ s₀ (execSymbolBoundary a0 s) := by
  unfold execSymbolBoundary
  with_reducible repeat' (first
    | assumption | (exact sub_of hm rfl) | apply keepsO_next | apply keeps_ite | apply keeps_symbolBoundary)

theorem keepsO_execSyncRealign {w₀ : Nat} {s₀ : State} {a0} {a1} {s : State} (h : Keeps w₀ s₀ s)
    (hm : Sub 104 w₀ := by apply sub_of; assumption; with_unfolding_all rfl) : KeepsO w₀ s₀ (execSyncRealign a0 a1 s) := by
  unfold execSyncRealign
  with_reducible repeat' (first
    | assumption | (exact sub_of hm rfl) | apply keepsO_next | apply keeps_syncRealign)

theorem keepsO_execPreWake {w₀ : Nat} {s₀ : State} {a0} {a1} {s : State} (h : Keeps w₀ s₀ s)
    (hm : Sub 4194816 w₀ := by apply sub_of; assumption; with_unfolding_all rfl) : KeepsO w₀ s₀ (execPreWake a0 a1 s) := by
  unfold execPreWake
  with_reducible repeat' (first
    | assumption | (exact sub_of hm rfl) | apply keepsO_next | apply keeps_preWake)

theorem keepsO_execPathWakeReady {w₀ : Nat} {s₀ : State} {a0} {a1} {s : State} (h : Keeps w₀ s₀ s)
    (hm : Sub 4194368 w₀ := by apply sub_of; assumption; with_unfolding_all rfl) : KeepsO w₀ s₀ (execPathWakeReady a0 a1 s) := by
  unfold execPathWakeReady
  with_reducible repeat' (first
    | assumption | (exact sub_of hm rfl) | apply keepsO_next | apply keeps_wakeReady)

end Sys2Proof.Laws
end

