-- ==== Sys2Proof/Tests/Slice0.lean ====
section
/-! SUPPORT. Tests: ill-formed terms that WellFormed refuses, small steps whose results the spec gives, and for each statement states and operands that meet
its hypotheses. -/

set_option Elab.async false

open Sys2Proof Sys2Proof.Machine

namespace Sys2Proof.Tests

/-- The state after reset with these fields written. -/
def st (ws : List (Fld × Nat)) : State := ws.foldl (fun s p => wr s p.1 p.2) State.reset

/-- The state after reset with these shadow copies written. -/
def stSh (ws : List (Fld × Nat)) (s : State) : State := ws.foldl (fun s p => wrSh s p.1 p.2) s

/-- The mode is `m`, with no transition running. -/
def inMode (m : Nat) (ws : List (Fld × Nat) := []) : State :=
  st ((Reg.MODE_STATUS_MODE, m) :: (Reg.MODE_STATUS_BUSY, 0) :: ws)

/-- A reset source of PACKAGE reach is in force. -/
def heldS : State := { State.reset with rst := { sources := [{ src := 2, reach := 3, blk := 0 }] } }

/-- A queue of 511 events. -/
def fullS : State := { State.reset with events := { entries := List.replicate 511 { code := 0x1001, eseq := 0, arg := 0, sec := 0, ns := 0, pushed := false } } }

/-! ### Witnesses: the machine as a whole -/

theorem witness_StepRunsTheFrontCommand : ({ State.reset with pending := [.por, .cancel] } : State).pending = .por :: [.cancel] := rfl

theorem witness_EmptyQueueAdvancesOnlyTheBalance :
    State.reset.pending = [] ∧ packageHeld heldS = true ∧ modeOf (inMode mBrumate) = mBrumate ∧ rd (st [(Reg.BOOT_STRAPS_CLKSEL, 3)]) Reg.BOOT_STRAPS_CLKSEL = 3 := by
  decide +kernel

theorem witness_EveryStepKeepsTheStateLegal :
    Legal (inMode mIdle) ∧ ∃ t, step { inMode mIdle with pending := [.snap] } = .next t := ⟨⟨by decide +kernel, by decide +kernel, by decide +kernel⟩, _, rfl⟩

theorem witness_MemoryWordReadsBack : (0xFFFFFFFF : Nat) < 2 ^ 32 := by decide

theorem witness_CommitIsAllOrNothing :
    shadowChanged State.reset (rxGroup 0) = false ∧ shadowChanged (stSh [(Reg.UNIT_RX_AGC_HI_THR 0, 5)] State.reset) (rxGroup 0) = true ∧
      (lowest [4, 3]) = 3 ∧ ([(rxGroup 0).id].contains (rxGroup 0).id) = true ∧ State.reset.silent.contains (rxGroup 0).id = false := by decide +kernel

theorem witness_RaisingAnEvent :
    packageHeld heldS = true ∧ packageHeld fullS = false ∧ fullS.events.entries.length = 511 ∧ eventClass 0x1001 ≠ 0xF ∧ eventClass 0xF001 = 0xF ∧
      512 ≤ (raise fullS 0x1001 0).events.entries.length ∧ packageHeld (raise fullS 0x1001 0) = false ∧
      ∃ e ∈ (raise State.reset 0xF001 0).events.entries, e.code = 0xF001 := by decide +kernel

theorem witness_RegisterWritesByAccessAndClass :
    (let f := Reg.ALERT_MASK_CLASS_EN; hookField 0x30 f = false ∧ notMade State.reset 0x30 f 255 = false ∧ 255 < 2 ^ f.width ∧ f.acc = .rw ∧ f.cls = .L) ∧
    (let f := Reg.PWR_AVS_EN 0; hookField f.off f = false ∧ notMade State.reset f.off f 0 = false ∧ 0 < 2 ^ f.width ∧ f.acc = .rw ∧ f.cls = .S) ∧
    (let f := Reg.UNIT_RX_AGC_HI_THR 0; hookField f.off f = false ∧ notMade State.reset f.off f 1 = false ∧ 1 < 2 ^ f.width ∧ f.acc = .rw ∧ f.cls = .H) ∧
    (let f := Reg.CFG_STATUS_CFG_IGNORED; hookField f.off f = false ∧ notMade State.reset f.off f 1 = false ∧ 1 < 2 ^ f.width ∧ f.acc = .w1c ∧ rd State.reset f < 2 ^ f.width) ∧
    (let f := Reg.MODE_STATUS_MODE; hookField f.off f = false ∧ notMade State.reset f.off f 7 = false ∧ 7 < 2 ^ f.width ∧ f.acc = .ro) := by decide +kernel

theorem witness_RegisterWritesByAccessAndClass_window :
    notMade (inMode mIdle) (Reg.PWR_AVS_EN 0).off (Reg.PWR_AVS_EN 0) (1 - rd (inMode mIdle) (Reg.PWR_AVS_EN 0)) = true ∧
    busOn (inMode mSentinel) = false ∧ busOn heldS = false ∧ busOn State.reset = true ∧ (1#32).toNat.testBit 0 = true ∧ (0#32).toNat.testBit 0 = false := by
  decide +kernel

theorem witness_WhatNoOtherCommandTouches :
    mayChangeMode .snap = false ∧ mayWriteFlash .snap = false ∧ mayWriteMemory .snap = false ∧ Instr.snap ≠ .fuseProgram ∧ ∃ t, exec .snap State.reset = .next t :=
  ⟨rfl, rfl, rfl, by decide, _, rfl⟩

/-! ### Witnesses: resets and the start -/

/-- An MTP pulse runs. -/
def pulseS : State := { State.reset with rst := { mtpPulse := true } }

theorem witness_PackageResetsHoldTheDeviceInBoot :
    nrstDriven State.reset = false ∧ State.reset.rst.mtpPulse = false ∧ packageHeld State.reset = false ∧ nrstDriven heldS = true ∧ packageHeld heldS = true ∧
    on (st [(Reg.SEC_STATUS_DBG_UNLOCKED, 1)]) Reg.SEC_STATUS_DBG_UNLOCKED = true ∧ on State.reset Reg.SEC_STATUS_DBG_UNLOCKED = false ∧
    pulseS.rst.mtpPulse = true ∧ nrstDriven pulseS = false ∧ packageHeld pulseS = false ∧ reachOf State.reset 1 = 3 ∧
    reachOf { State.reset with fuse := { State.reset.fuse with nrstIn := 1 } } 1 = 4 := by decide +kernel

/-- A block request of the RX unit 0. -/
def reqS : State := { inMode mIdle with rst := { request := some { blk := 0, reach := 0, src := 9, host := false } } }

theorem witness_BlockResetRequests :
    (blkListed (inMode mIdle) 0x500 = true ∧ on (inMode mIdle) Reg.BLK_RESET_BUSY = false) ∧ blkListed (inMode mIdle) 0x501 = false ∧
    on (st [(Reg.BLK_RESET_BUSY, 1)]) Reg.BLK_RESET_BUSY = true ∧ Room State.reset ∧
    (reqS.rst.request = some { blk := 0, reach := 0, src := 9, host := false } ∧ reqS.rst.mtpPulse = false ∧ reqS.boot.loading = false ∧ unitsQuiet reqS = true) ∧
    State.reset.rst.request = none ∧
    (let r : ResetSource := { src := 9, reach := 0, blk := 0 }; let s := { State.reset with rst := { restoring := [r] } }
      s.rst.restoring.find? (fun r => r.blk == 0) = some r ∧ packageHeld s = false ∧ s.rst.restoring.find? (fun r => r.blk == 1) = none) ∧
    (tileEnabled (inMode mIdle) 0 = true ∧ blockHeld (inMode mIdle) 0x400 = false ∧ (inMode mIdle).rst.request = none) := by unfold Room; decide +kernel

theorem witness_ResetRelease :
    (¬((9 : Nat) = 3 ∧ 1 ∈ State.reset.rst.badClocks)) ∧
    (let r : ResetSource := { src := 9, reach := 2, blk := 0 }; let s := { State.reset with rst := { sources := [r] } }
      s.rst.sources.find? (fun r => r.src == 9 && (decide (3 ≤ r.reach) || r.blk == 0)) = some r ∧ r.reach < 3 ∧ r.ovr = false ∧
        ∀ x ∈ s.rst.sources, x ≠ r → reachCovers x.reach x.blk r.blk = false) ∧
    (let r : ResetSource := { src := 2, reach := 3, blk := 0 }; heldS.rst.sources.find? (fun r => r.src == 2 && (decide (3 ≤ r.reach) || r.blk == 0)) = some r ∧ ∀ x ∈ heldS.rst.sources, x ≠ r → x.reach < 3) ∧
    State.reset.rst.sources.find? (fun r => r.src == 2 && (decide (3 ≤ r.reach) || r.blk == 0)) = none := by decide +kernel

theorem witness_TrimLoadsAndPulses :
    (modeOf (inMode mIdle) = mIdle ∧ (inMode mIdle).boot.loading = false) ∧ modeOf (inMode mServe) ≠ mIdle ∧
    (let s := { inMode mIdle with boot := { loading := true } }; s.boot.loading = true ∧ modeOf s ≠ mBoot ∧ s.rst.delayed = [] ∧ rd s Reg.BOOT_STATUS_TRIM_FAILS < 2) ∧
    (let s := { st [(Reg.BOOT_STATUS_TRIM_FAILS, 1)] with boot := { loading := true } }; s.boot.loading = true ∧ rd s Reg.BOOT_STATUS_TRIM_FAILS = 1) ∧ State.reset.boot.loading = false ∧
    (pulseS.rst.mtpPulse = true ∧ pulseS.rst.delayed = []) ∧
    (let s := { State.reset with rst := { mtpPulse := true, delayed := [{ src := 2, reach := 3, blk := 0 }] } }; s.rst.delayed = [{ src := 2, reach := 3, blk := 0 }] ∧ s.boot.loading = false) ∧ State.reset.rst.mtpPulse = false := by decide +kernel

/-- A start at step `n`. -/
def startS (n : Nat) (ws : List (Fld × Nat) := []) : State := st ((Reg.BOOT_STATUS_STEP, n) :: ws)

theorem witness_StartStepsFollowTheTable :
    starting (inMode mIdle) = false ∧ (starting (startS 3) = true ∧ stepNow (startS 3) = 3 ∧ rd (startS 3) Reg.BOOT_STRAPS_CLKSEL ≠ 3) ∧
    (let s := { startS 5 with rst := { sources := [{ src := 9, reach := 1, blk := 0x400 }] } }; starting s = true ∧ stepNow s = 5 ∧ (List.range 4).any (tileHeldNow s) = true) ∧
    (stepNow (startS 5) = 5 ∧ (List.range 4).any (tileHeldNow (startS 5)) = false ∧ bootSel (startS 5) ≠ 2) ∧
    warmStart (startS 5 [(Reg.BOOT_STATUS_WARM, 1)]) = true ∧
    (let s := { startS 6 [(Reg.BOOT_STRAPS_BOOTSEL, 2)] with boot := { img := some {} } }; starting s = true ∧ stepNow s = 6 ∧ bootSel s = 2 ∧ s.boot.img.isSome = true) ∧
    (bootSel (startS 6 [(Reg.BOOT_STRAPS_BOOTSEL, 2)]) = 2 ∧ (startS 6 [(Reg.BOOT_STRAPS_BOOTSEL, 2)]).boot.img = none) ∧
    stepNow (startS 8) = 8 ∧ stepNow (startS 10) = 10 ∧ (stepNow (startS 11) = 11 ∧ timeReady (startS 11) = false) ∧
    timeReady (startS 11 [(Reg.TIME_STATUS_STATE, tLocked)]) = true := by decide +kernel

theorem witness_StartLimitsAndTransitionsEnd :
    (starting (startS 5) = true ∧ stepNow (startS 5) = 5 ∧ bootSel (startS 5) ≠ 2) ∧
    tileHeldNow { startS 5 with rst := { sources := [{ src := 9, reach := 1, blk := 0x403 }] } } 3 = true ∧ starting (inMode mIdle) = false ∧
    (stepNow (startS 11) = 11 ∧ warmStart (startS 11) = false) ∧ (modeOf (inMode mTrim) = mTrim ∧
      trimWork (inMode mTrim) = false) ∧
    trimWork { inMode mTrim with units := [(0, { tx := { train := some {} } })] } = true ∧
    (escRunning (st [(Reg.ESC_STATUS_RUNNING, 1)]) = true ∧ escRunning (inMode mIdle) = false ∧ modeBusy (inMode mIdle) = false) ∧
    (let s := st [(Reg.MODE_STATUS_MODE, mServe), (Reg.MODE_STATUS_BUSY, 1), (Reg.MODE_STATUS_TARGET, mIdle)]; escRunning s = false ∧ modeBusy s = true ∧ modeOf s = mServe ∧ modeTarget s = mIdle) := by decide +kernel

/-! ### Witnesses: receive paths -/

/-- The receive path of unit 0 runs. -/
def rxS (ws : List (Fld × Nat) := []) : State := inMode mServe ((Reg.UNIT_RX_STATUS_STOPPED 0, 0) :: (Reg.UNIT_RX_STATUS_GATED 0, 0) :: ws)

theorem witness_OverloadEpisodes :
    (unitEnabled rxS 0 = true ∧ rxLive rxS 0 = true ∧ on rxS (Reg.UNIT_RX_STATUS_OVLD_NOW 0) = false ∧ chorusListens rxS 0 = false) ∧
    on (rxS [(Reg.UNIT_RX_GAIN_OVLD_EN 0, 1)]) (Reg.UNIT_RX_GAIN_OVLD_EN 0) = true ∧ on (rxS [(Reg.UNIT_RX_GAIN_OVLD_EN 0, 0)]) (Reg.UNIT_RX_GAIN_OVLD_EN 0) = false ∧
    (let s := rxS [(Reg.UNIT_RX_STATUS_STOPPED 7, 0), (Reg.UNIT_RX_STATUS_GATED 7, 0)]; 7 ∈ neighboursOf 0 ∧ unitEnabled s 7 = true ∧ rxLive s 7 = true ∧ rd s (Reg.UNIT_RX_STATUS_OVLD 0) = 0 ∧ Room s) ∧
    (let s := rxS [(Reg.UNIT_RX_STATUS_OVLD_NOW 0, 1), (Reg.UNIT_RX_STATUS_GAIN_IDX 0, 31)]; on s (Reg.UNIT_RX_STATUS_OVLD_NOW 0) = true ∧ rd s (Reg.UNIT_RX_STATUS_GAIN_IDX 0) = 31 ∧ rd s (Reg.UNIT_RX_STATUS_AGC_FLOOR 0) = 0) ∧
    rd (rxS [(Reg.UNIT_RX_STATUS_OVLD_NOW 0, 1), (Reg.UNIT_RX_STATUS_GAIN_IDX 0, 30)]) (Reg.UNIT_RX_STATUS_GAIN_IDX 0) ≠ 31 ∧
    rxLive State.reset 0 = false := by unfold Room; decide +kernel

theorem witness_ReceiveCommitsAndFades :
    releasing (st [(Reg.MODE_STATUS_MODE, mServe), (Reg.ESC_STATUS_RUNNING, 1)]) = true ∧
    (let s := inMode mIdle [(Reg.UNIT_RX_CTRL_RUN 0, 1)]; unitEnabled s 0 = true ∧ releasing s = false ∧ rxRunOk s 0 = true ∧ on s (Reg.UNIT_RX_STATUS_STOPPED 0) = true ∧ rxPairFails s 0 = []) ∧
    rxPairFails (stSh [(Reg.UNIT_RX_AGC_HI_THR 0, 255), (Reg.UNIT_RX_AGC_LO_THR 0, 0)] (inMode mIdle [(Reg.UNIT_RX_CTRL_RUN 0, 1)])) 0 ≠ [] ∧
    (on rxS (Reg.UNIT_RX_STATUS_XFADE 0) = false ∧ rd rxS (Reg.UNIT_RX_STATUS_BANK_ACT 0) ≠ 1 ∧ rd rxS (Reg.UNIT_RX_STATUS_BANK_ACT 0) = 0 ∧
      on rxS (Reg.UNIT_RX_STATUS_STOPPED 0) = false) ∧
    (on (rxS [(Reg.UNIT_RX_STATUS_XFADE 0, 1)]) (Reg.UNIT_RX_STATUS_XFADE 0) = true ∧ ((rxS [(Reg.UNIT_RX_STATUS_XFADE 0, 1)]).unit 0).rx.fadeNext = none) ∧
    ({ rxS [(Reg.UNIT_RX_STATUS_XFADE 0, 1)] with units := [(0, { rx := { fadeNext := some 1 } })] }.unit 0).rx.fadeNext = some 1 := by decide +kernel

theorem witness_CoefficientWrites :
    unitEnabled { State.reset with fuse := { grade := 3 } } 127 = false ∧ unitEnabled rxS 0 = true ∧ on State.reset (Reg.UNIT_RX_STATUS_STOPPED 0) = true ∧
    (on rxS (Reg.UNIT_RX_STATUS_STOPPED 0) = false ∧ on rxS (Reg.UNIT_RX_STATUS_XFADE 0) = false ∧ rd rxS (Reg.UNIT_RX_STATUS_BANK_ACT 0) ≠ 1 ∧
      rd rxS (Reg.UNIT_RX_STATUS_BANK_ACT 0) = 0) ∧ on (rxS [(Reg.UNIT_RX_STATUS_XFADE 0, 1)]) (Reg.UNIT_RX_STATUS_XFADE 0) = true ∧
    rd rxS Reg.CFG_STATUS_CFG_IGNORED = 0 ∧ rd rxS Reg.CFG_STATUS_CFG_PAIR_ERR = 0 ∧ rd (rxS [(Reg.CFG_STATUS_CFG_PAIR_ERR, 1)]) Reg.CFG_STATUS_CFG_PAIR_ERR ≠ 0 ∧ Room rxS := by
  unfold Room; decide +kernel

/-! ### Witnesses: transmit paths -/

/-- With unit 0 so. -/
def unit0 (x : UnitS) (s : State) : State := { s with units := [(0, x)] }

/-- With cluster 0 so. -/
def clus0 (x : ClusterS) (s : State) : State := { s with clusters := [(0, x)] }

/-- The identity table of unit 0 (R97), with its CRC-32 worked out by hand from R55. -/
def idTable : Tbl Nat :=
  [(0, 0x44500100), (1, 0x01000100)] ++ (List.range 48).map (fun k => (12 + k, 0x40000000)) ++ [(972, 0x9C79EFBC)]

theorem witness_TransmitCommitsAndTables :
    unitEnabled State.reset 0 = true ∧ releasing (st [(Reg.ESC_STATUS_RUNNING, 1), (Reg.MODE_STATUS_MODE, mServe)]) = true ∧
    (let s := inMode mIdle [(Reg.UNIT_TX_CTRL_RUN 0, 1)]; unitEnabled s 0 = true ∧ releasing s = false ∧ txRunOk s 0 = true ∧
      on s (Reg.UNIT_TX_STATUS_STOPPED 0) = true ∧ txPairFails s 0 = []) ∧
    txPairFails (stSh [(Reg.UNIT_TX_NCO_OFS_OFS 0, 2 ^ 31 - 1)] (inMode mIdle [(Reg.UNIT_TX_CTRL_RUN 0, 1)])) 0 ≠ [] ∧
    unitEnabled { State.reset with fuse := { grade := 3 } } 127 = false ∧
    (let s := st [(Reg.UNIT_DPD_STATUS_SHD_PEND 0, 1)]; on s (Reg.UNIT_DPD_STATUS_SHD_PEND 0) = true ∧ (s.unit 0).tx.checked = false ∧ moultCheck s 0 = 1 ∧ Room s) ∧
    on State.reset (Reg.UNIT_DPD_STATUS_SHD_PEND 0) = false := by unfold Room; decide +kernel

/-- The running CRC-32 of a table over `n` bytes from `lo`. -/
def crcTo (t : Tbl Nat) (lo n c : Nat) : Nat := (List.range' lo n).foldl (fun c i => crcByteR 0xEDB88320 c (tblByte t i)) c

theorem crcTo_add (t : Tbl Nat) (lo m n c d : Nat) (h : crcTo t lo m c = d) : crcTo t lo (m + n) c = crcTo t (lo + m) n d := by
  subst h; simp only [crcTo, ← List.range'_append_1, List.foldl_append]

theorem crcTo_eq (t : Tbl Nat) (n : Nat) : crc32 ((List.range n).map (tblByte t)) = crcTo t 0 n 0xFFFFFFFF ^^^ 0xFFFFFFFF := by
  simp only [crc32, crcTo, List.foldl_map, List.range_eq_range']

/-- The CRC-32 of the identity table before its last complement, in runs of bytes: the value before each run was worked out by hand from R55. -/
theorem idTable_crcTo : crcTo idTable 0 3888 0xFFFFFFFF = 0x63861043 := by
  rw [show (3888 : Nat) = 81 + 3807 from rfl, crcTo_add idTable 0 81 3807 _ 0x8A1EA8A8 (by decide +kernel)]
  rw [crcTo_add idTable 81 81 3726 _ 0x6307C67C (by decide +kernel)]
  rw [crcTo_add idTable 162 81 3645 _ 0xFFBBE777 (by decide +kernel)]
  rw [crcTo_add idTable 243 81 3564 _ 0x1A4934B2 (by decide +kernel)]
  rw [crcTo_add idTable 324 81 3483 _ 0x9662CF09 (by decide +kernel)]
  rw [crcTo_add idTable 405 81 3402 _ 0x61C3D478 (by decide +kernel)]
  rw [crcTo_add idTable 486 81 3321 _ 0x9B65F6F1 (by decide +kernel)]
  rw [crcTo_add idTable 567 81 3240 _ 0x57262A25 (by decide +kernel)]
  rw [crcTo_add idTable 648 81 3159 _ 0x0F72F8F8 (by decide +kernel)]
  rw [crcTo_add idTable 729 81 3078 _ 0xFD99E178 (by decide +kernel)]
  rw [crcTo_add idTable 810 81 2997 _ 0x2EE7384B (by decide +kernel)]
  rw [crcTo_add idTable 891 81 2916 _ 0x601ACF32 (by decide +kernel)]
  rw [crcTo_add idTable 972 81 2835 _ 0x0FED129C (by decide +kernel)]
  rw [crcTo_add idTable 1053 81 2754 _ 0x9F735DFF (by decide +kernel)]
  rw [crcTo_add idTable 1134 81 2673 _ 0x4087EF4E (by decide +kernel)]
  rw [crcTo_add idTable 1215 81 2592 _ 0x534401EB (by decide +kernel)]
  rw [crcTo_add idTable 1296 81 2511 _ 0x521A1302 (by decide +kernel)]
  rw [crcTo_add idTable 1377 81 2430 _ 0x00C4BF43 (by decide +kernel)]
  rw [crcTo_add idTable 1458 81 2349 _ 0xBF490C56 (by decide +kernel)]
  rw [crcTo_add idTable 1539 81 2268 _ 0xC4C67287 (by decide +kernel)]
  rw [crcTo_add idTable 1620 81 2187 _ 0x0A0AB29E (by decide +kernel)]
  rw [crcTo_add idTable 1701 81 2106 _ 0x3848A071 (by decide +kernel)]
  rw [crcTo_add idTable 1782 81 2025 _ 0x16A34AC7 (by decide +kernel)]
  rw [crcTo_add idTable 1863 81 1944 _ 0xC98A3288 (by decide +kernel)]
  rw [crcTo_add idTable 1944 81 1863 _ 0xDE99F290 (by decide +kernel)]
  rw [crcTo_add idTable 2025 81 1782 _ 0x3F322E77 (by decide +kernel)]
  rw [crcTo_add idTable 2106 81 1701 _ 0x1CC87C80 (by decide +kernel)]
  rw [crcTo_add idTable 2187 81 1620 _ 0xCFCDECE2 (by decide +kernel)]
  rw [crcTo_add idTable 2268 81 1539 _ 0x64801FEA (by decide +kernel)]
  rw [crcTo_add idTable 2349 81 1458 _ 0x88A404CA (by decide +kernel)]
  rw [crcTo_add idTable 2430 81 1377 _ 0xAF3B0CAD (by decide +kernel)]
  rw [crcTo_add idTable 2511 81 1296 _ 0x2EB02D30 (by decide +kernel)]
  rw [crcTo_add idTable 2592 81 1215 _ 0xB0B19B9E (by decide +kernel)]
  rw [crcTo_add idTable 2673 81 1134 _ 0x539EA71E (by decide +kernel)]
  rw [crcTo_add idTable 2754 81 1053 _ 0xD76A9F5C (by decide +kernel)]
  rw [crcTo_add idTable 2835 81 972 _ 0x141AFABB (by decide +kernel)]
  rw [crcTo_add idTable 2916 81 891 _ 0x374F0437 (by decide +kernel)]
  rw [crcTo_add idTable 2997 81 810 _ 0x6FF1B425 (by decide +kernel)]
  rw [crcTo_add idTable 3078 81 729 _ 0xD5D52DBA (by decide +kernel)]
  rw [crcTo_add idTable 3159 81 648 _ 0x3B9B3F2A (by decide +kernel)]
  rw [crcTo_add idTable 3240 81 567 _ 0xB8046992 (by decide +kernel)]
  rw [crcTo_add idTable 3321 81 486 _ 0x593F8BAC (by decide +kernel)]
  rw [crcTo_add idTable 3402 81 405 _ 0x4213BCB9 (by decide +kernel)]
  rw [crcTo_add idTable 3483 81 324 _ 0xDECC7513 (by decide +kernel)]
  rw [crcTo_add idTable 3564 81 243 _ 0x64019CF0 (by decide +kernel)]
  rw [crcTo_add idTable 3645 81 162 _ 0xD5DE5297 (by decide +kernel)]
  rw [crcTo_add idTable 3726 81 81 _ 0x23300428 (by decide +kernel)]
  decide +kernel

theorem idTable_crc : crc32 ((List.range 3888).map (tblByte idTable)) = 0x9C79EFBC := by rw [crcTo_eq, idTable_crcTo]; decide

theorem witness_TransmitCommitsAndTables_good : moultCheck (unit0 { tx := { shd := idTable } } (st [(Reg.UNIT_DPD_STATUS_SHD_PEND 0, 1)])) 0 = 0 := by
  simp only [moultCheck]
  rw [show crc32 ((List.range 3888).map (tblByte ((unit0 { tx := { shd := idTable } } (st [(Reg.UNIT_DPD_STATUS_SHD_PEND 0, 1)])).unit 0).tx.shd)) = _ from idTable_crc]
  decide +kernel

theorem witness_TableDataAccess :
    unitEnabled State.reset 0 = true ∧ rd State.reset (Reg.UNIT_DPD_TBL_ADDR_WORD 0) ≤ 972 ∧ on State.reset (Reg.UNIT_DPD_TBL_ADDR_SET 0) = false ∧
    on (st [(Reg.UNIT_DPD_CTRL_ADAPT_EN 0, 0)]) (Reg.UNIT_DPD_CTRL_ADAPT_EN 0) = false ∧ rd (st [(Reg.UNIT_DPD_TBL_ADDR_WORD 0, 972)]) (Reg.UNIT_DPD_TBL_ADDR_WORD 0) = 972 ∧
    972 < rd (st [(Reg.UNIT_DPD_TBL_ADDR_WORD 0, 973)]) (Reg.UNIT_DPD_TBL_ADDR_WORD 0) ∧
    on (st [(Reg.UNIT_DPD_TBL_ADDR_SET 0, 1)]) (Reg.UNIT_DPD_TBL_ADDR_SET 0) = true ∧
    on (st [(Reg.UNIT_DPD_CTRL_ADAPT_EN 0, 1)]) (Reg.UNIT_DPD_CTRL_ADAPT_EN 0) = true := by decide +kernel

/-- Unit 0 adapts and stands in `a`. -/
def adaptS (a : Adapt) : State := unit0 { tx := { txNow := true, adapt := a } } (st [(Reg.UNIT_DPD_CTRL_ADAPT_EN 0, 1)])

theorem witness_AdaptationAndTraining :
    (unitEnabled (adaptS .idle) 0 = true ∧ adaptStopped (adaptS .idle) 0 = false ∧ ((adaptS .idle).unit 0).tx.txNow = true ∧ ((adaptS .idle).unit 0).tx.adapt = .idle) ∧
    adaptStopped (st [(Reg.UNIT_DPD_CTRL_ADAPT_EN 0, 0)]) 0 = true ∧
    (rd (adaptS (.capturing 2)) (Reg.CAP_CH_STATUS_STATE 15) = 0 ∧ ((adaptS (.capturing 2)).unit 0).tx.adapt = .capturing 2 ∧
      ((adaptS (.capturing 1)).unit 0).tx.adapt = .capturing 1) ∧
    rd (st [(Reg.CAP_CH_STATUS_STATE 15, 1)]) (Reg.CAP_CH_STATUS_STATE 15) ≠ 0 ∧
    (((adaptS .fitting).unit 0).tx.adapt = .fitting ∧ adaptStopped (adaptS .fitting) 0 = false ∧ fitGood (adaptS .fitting) 0 (-32768) = true ∧
      fitGood (adaptS .fitting) 0 0 = false ∧ adaptStopped (unit0 { tx := { adapt := .fitting } } (st [(Reg.UNIT_DPD_CTRL_ADAPT_EN 0, 0)])) 0 = true) ∧
    (State.reset.unit 0).tx.adapt ≠ .fitting ∧ (State.reset.unit 0).tx.train = none ∧
    ((unit0 { tx := { train := some { step := 4 } } } State.reset).unit 0).tx.train = some { step := 4 } ∧
    ((unit0 { tx := { train := some { step := 5, conv := some 4 } } } State.reset).unit 0).tx.train = some { step := 5, conv := some 4 } := by decide +kernel

/-! ### Witnesses: synthesisers and air timing -/

theorem witness_SyncEdgesAndRealignment :
    State.reset.air.syncEdge = false ∧ (let s := { inMode mIdle with air := { syncEdge := true } }; s.air.syncEdge = true ∧ modeOf s ≠ mServe ∧ 0 ∈ freeUnits s) ∧
    on (st [(Reg.UNIT_RX_CTRL_SYNC_EN 0, 1)]) (Reg.UNIT_RX_CTRL_SYNC_EN 0) = true ∧ bit (1#128).toNat 0 = true := by decide +kernel

/-- The escapement runs in SERVE, with one receive entry of unit 0 at symbol 3. -/
def escS (ws : List (Fld × Nat) := []) : State :=
  { inMode mServe ((Reg.ESC_STATUS_RUNNING, 1) :: ws) with
    air := { queue := [{ id := 0, first := 3, count := 1, kind := 2, clusters := 1, units := 1, period := 0, reps := 0, param := 0 }] } }

theorem witness_BoundariesAndWakes :
    releasing State.reset = false ∧ (releasing escS = true ∧ max (escS.air.sym + 1) (symNow escS) % 14 ≠ 0) ∧
    (wakeWanted (escS [(Reg.UNIT_RX_STATUS_GATED 0, 1)]) 0 0 = true ∧ (0, 0) ∉ (escS [(Reg.UNIT_RX_STATUS_GATED 0, 1)]).power.waking) ∧
    wakeWanted State.reset 0 0 = false ∧
    (let s := { escS [(Reg.PWR_DOM_STATE 12, 0), (Reg.UNIT_RX_STATUS_GATED 0, 1)] with power := { waking := [(0, 0), (1, 0), (2, 0)] } };
      (1, 0) ∈ s.power.waking ∧ domState s 12 = domOn ∧ (0, 0) ∈ s.power.waking ∧ on s (Reg.UNIT_RX_STATUS_GATED 0) = true ∧ (2, 0) ∈ s.power.waking ∧ domFailed s 12 = false) ∧
    (let s := { wr escS (Reg.PWR_DOM_STATE 12) 3 with power := { waking := [(2, 0)] } }; (2, 0) ∈ s.power.waking ∧ domState s 12 = 3) := by decide +kernel

theorem witness_SynthesiserStates :
    clusterEnabled State.reset 0 = true ∧ releasing escS = true ∧
    (let s := inMode mIdle [(Reg.CLUSTER_LO_CTRL_LO_EN 0, 1)]; releasing s = false ∧ clusterRunOk s 0 = true ∧ (s.cluster 0).stopped = true ∧
      loState s 0 = loOff ∧ loMode (modeOf s) = false ∧ clusterPairFails (stSh [(Reg.CLUSTER_LO_FREQ_FREQ 0, 600000000)] s) 0 = [] ∧ clusterPairFails (stSh [(Reg.CLUSTER_LO_FREQ_FREQ 0, 0xFFFFFFFF)] s) 0 ≠ []) ∧
    (let s := inMode mIdle [(Reg.PWR_DOM_STATE 12, 0)]; clusterEnabled s 0 = true ∧ loState s 0 = loOff ∧ modeOf s = mIdle ∧ domState s 12 = domOn) ∧
    (clusterEnabled (inMode mServe) 0 = true ∧ modeOf (inMode mServe) ≠ mIdle ∧ modeOf (inMode mServe) ≠ mDiag ∧ Room (inMode mServe)) ∧
    loState (st [(Reg.CLUSTER_LO_STATUS_STATE 0, loLocking)]) 0 = loLocking ∧
    (loState (st [(Reg.CLUSTER_LO_STATUS_STATE 0, loCal)]) 0 = loCal ∧ (State.reset.cluster 0).precal = none) ∧
    loState (inMode mServe [(Reg.CLUSTER_LO_STATUS_STATE 0, loLocked)]) 0 = loLocked ∧ loMode (modeOf (inMode mServe)) = true := by unfold Room; decide +kernel

/-- A read frame and a write frame of type 0 on the RFFE bus. -/
theorem witness_RffeMasters :
    clusterEnabled State.reset 0 = true ∧ clusterEnabled { State.reset with fuse := { grade := 3 } } 15 = false ∧
    ((0x02000000 : Word).toNat.testBit 25 = true ∧ bits (0x06000000 : Word).toNat 26 2 = 1 ∧ releasing escS = true) ∧
    ((0 : Word).toNat.testBit 25 = false ∧ releasing (inMode mIdle) = false ∧ ((inMode mIdle).cluster 0).bus = []) ∧
    (let f : RffeFrame := ⟨0, 1, 2, 3, true⟩; ((clus0 { bus := [f] } State.reset).cluster 0).bus = [f]) ∧
    (∀ e ∈ State.reset.air.queue ++ State.reset.air.rffeOld, ¬(e.id = 0 ∧ e.kind = 7)) ∧
    (let e : SchedEntry := ⟨4, 3, 1, 7, 1, 0, 0, 0, 2⟩; let s := { State.reset with air := { queue := [e] } };
      (s.air.queue ++ s.air.rffeOld).find? (fun e => e.id == 4 && e.kind == 7) = some e ∧ e.clusters = 2 ^ 0 ∧ clusterEnabled s 0 = true ∧
        0 < bits e.param 0 8 ∧ (s.cluster 0).bus = []) := by decide +kernel

/-! ### Witnesses: beamforming -/

/-- A smallest weight set: 32 units, one layer, one group, all weights 0, with its CRC-32 worked out by hand. -/
def smallSet : List Nat := [87, 83, 1, 0, 0, 1, 0, 1, 0, 32, 0, 1] ++ List.replicate 148 0 ++ [74, 0, 231, 72]

/-- Grade Q with carrier 0 of one resource block, set 0 declared and waiting with these bytes. -/
def wsetS (bs : List Nat) : State :=
  { st [(Reg.WSET_STATUS_SHD_PEND 0 0, 1)] with
    fuse := { grade := 3 }, beam := { wsets := [(0, { shd := wsetCopyOf bs })] } }

/-- The declaration of set 0. -/
def declared (s : State) : State :=
  { s with hact := [((Reg.WSET_DESC_EN 0).key, 1), ((Reg.WSET_DESC_CARR 0).key, 1), ((Reg.WSET_DESC_LCNT 0).key, 1), ((Reg.CARRIER_CFG1_N_PRB 0).key, 1)] }

/-- A sounding entry whose set is 0 and job 0. -/
def soundE : SchedEntry := ⟨4, 3, 1, 3, 1, 0, 0, 0, 0⟩

theorem witness_TileCommitsAndSolver :
    releasing escS = true ∧ modeOf (inMode mBoot) = mBoot ∧
    (let s := stSh [(Reg.CARRIER_CFG2_RX_SHIFT 0, 9)] (inMode mIdle); releasing s = false ∧ modeOf s ≠ mBoot ∧ shadowChanged s tileGroup = true ∧ tilePairFails s = [] ∧ s.chorus.psiPend = 0) ∧
    (let s := stSh [(Reg.CARRIER_CFG0_EN 0, 1), (Reg.CARRIER_CFG0_SCS 0, 3)] (inMode mIdle); shadowChanged s tileGroup = true ∧ tilePairFails s ≠ []) ∧
    (wsetPending (wsetS []) 0 = true ∧ ((wsetS []).wset 0).checked = false ∧ (∀ r ∈ (wsetS []).pool.wreply, r.1 ≠ 0) ∧ wsetCheck (wsetS []) 0 = 1) ∧
    wsetPending State.reset 0 = false ∧ (∀ e ∈ State.reset.air.queue ++ State.reset.air.past, ¬(e.id = 0 ∧ e.kind = 3)) ∧
    (let s := { State.reset with air := { queue := [soundE] } }; (s.air.queue ++ s.air.past).find? (fun e => e.id == 4 && e.kind == 3) = some soundE ∧ solveCause s soundE = 5 ∧ Room s) ∧
    State.reset.beam.job = none ∧ (let s := { State.reset with beam := { job := some (1, 15, 7) } }; s.beam.job = some (1, 15, 7) ∧ wsetPending s 15 = false) ∧
    unitWhole State.reset 0 = true ∧ unitWhole (unit0 { degRx := true } State.reset) 0 = false ∧ Room State.reset := by unfold Room; decide +kernel

theorem witness_TileCommitsAndSolver_check : wsetCheck (declared (wsetS smallSet)) 0 = 0 := by decide +kernel

/-- A solver that may start. -/
def solverS : State :=
  let s := st ((Reg.SOLVER_CTRL_EN, 1) :: (List.range 4).map (fun t => (Reg.SOLVER_STATUS_RECIP_VALID t, 1)))
  { s with hact := [((Reg.SOLVER_CTRL_EN).key, 1), ((Reg.WSET_DESC_EN 0).key, 1), ((Reg.WSET_DESC_DIR 0).key, 1), ((Reg.WSET_DESC_OWNER 0).key, 1)], air := { queue := [soundE] } }

theorem witness_TileCommitsAndSolver_start : solveCause solverS soundE = 0 := by decide +kernel

/-- Port 0 is UP, and every pad pool has room. -/
def upS (ws : List (Fld × Nat) := []) : State := inMode mIdle ((Reg.LINK_STATUS_STATE 0, 3) :: ws)

/-- A request packet with this payload. -/
def pkt (payload : List Byte) (more ack : Bool := false) : Packet :=
  { port := 0, more := more, ack := ack, dev := 0, seq := 0, tag := 9, aux := 0, payload := payload }

theorem witness_WeightsFragments :
    (let p := pkt [0, 0, 0, 0, 0, 0, 0, 0, 1] true true; Taken upS p ∧ padsFor upS 9 1 = true ∧ p.auth = none ∧ 9 ≤ (body p).length ∧ (body p).length ≤ 4040 ∧
      (body p).getD 0 0 < 16 ∧ zeros (((body p).drop 1).take 3) = true ∧ stageOf upS < 5 ∧ 5 ≤ stageOf (upS [(Reg.PWR_STATUS_STAGE, 5)]) ∧ upS.pool.wfrag = none ∧ bytesAt (body p) 4 4 = 0 ∧ wsetPending upS 0 = false) ∧
    (let p := pkt [15, 0, 0, 0, 0, 0, 0, 1, 1]; let s := { upS [(Reg.WSET_STATUS_SHD_PEND 0 15, 1)] with pool := { wfrag := some (15, [7]) } };
      Taken s p ∧ padsFor s 9 1 = true ∧ (body p).getD 0 0 = 15 ∧ s.pool.wfrag = some (15, [7]) ∧ bytesAt (body p) 4 4 = [7].length ∧ p.more = false ∧ wsetPending s 15 = true) ∧
    bytesAt (body (pkt [0, 0, 0, 0, 1, 0, 0, 0, 1])) 4 4 ≠ 0 := by unfold Taken; decide +kernel

/-! ### Witnesses: packets -/

/-- Port 0 is UP, in this mode. -/
def upIn (m : Nat) (ws : List (Fld × Nat) := []) : State := inMode m ((Reg.LINK_STATUS_STATE 0, 3) :: ws)

/-- No pad is left for stream 10. -/
def noPad : State := upIn mIdle [(Reg.POOL_RSV_RSV 10, 0), (Reg.POOL_RSV_MAX 10, 0)]

theorem witness_PacketReception :
    portUp State.reset 0 = false ∧ consumed upS { pkt [] with dev := 5 } = false ∧ portUp upS 0 = true ∧ consumed upS (pkt []) = true ∧
    ({ pkt [] with trailer := false } : Packet).trailer = false ∧ Arrives upS (pkt []) ∧ (pkt []).auth = none ∧
    (Taken { noPad with hact := [((Reg.POOL_RSV_RSV 10).key, 0), ((Reg.POOL_RSV_MAX 10).key, 0)] } (pkt []) ∧
      padsFor { noPad with hact := [((Reg.POOL_RSV_RSV 10).key, 0), ((Reg.POOL_RSV_MAX 10).key, 0)] } 10 1 = false) ∧
    (let s := { upS with pool := { seqIn := [(0, 65536)] } }; s.pool.seqIn.get 0 0 ≠ 0 ∧ ({ pkt [] with seq := 1 } : Packet).seq.toNat ≠ s.pool.seqIn.get 0 0 % 65536) := by
  unfold Arrives Taken; decide +kernel

theorem witness_SetModeDecision :
    Arrives upS (pkt []) ∧ (body (pkt [1])).length ≠ 8 ∧ modeNeedsAuth upS 1 = false ∧
    (let p := pkt [3, 0, 0, 0, 0, 0, 0, 0]; (body p).length = 8 ∧ zeros ((body p).drop 1) = true ∧ (body p).getD 0 0 = mServe ∧ (body p).getD 0 0 < 8) ∧
    (modeBusy upS = false ∧ modeOf upS = mIdle ∧ modeNeedsAuth upS mServe = false ∧ modeNeedsAuth upS mSentinel = false ∧ modeNeedsAuth upS mBrumate = false) ∧
    (modeBusy (upIn mServe) = false ∧ modeOf (upIn mServe) = mServe ∧ modeNeedsAuth (upIn mServe) mIdle = false) ∧ modeListed mServe mServe = false ∧
    Room upS ∧ modeNeedsAuth upS mDiag = true := by unfold Arrives Taken Room; decide +kernel

/-- A RESET packet of SYSTEM reach with an authentication block of slot 0. -/
def resetPkt (mac : BitVec 128) : Packet := { pkt [4, 0, 0, 0, 0, 0, 0, 0] with auth := some { keyId := 0, counter := 1, mac := mac } }

/-- A key of role USER in slot 0. -/
def keyedS : State := { upS with sec := { slots := [(0, some { key := 7, role := 1 })] } }

/-- The MAC that the key of slot 0 gives the packet. -/
def resetMac : BitVec 128 := BitVec.ofNat 128 (Config.cmac 7 (packetCover 0x72 [] (resetPkt 0) { keyId := 0, counter := 1, mac := 0 }))

theorem witness_HostResetNeedsAuthentication :
    Arrives keyedS (resetPkt 0) ∧ (pkt []).auth = none ∧ (body (resetPkt 0)).length = 8 ∧ (body (resetPkt 0)).getD 1 0 = 0 ∧ zeros ((body (resetPkt 0)).drop 4) = true ∧
    bytesAt (body (resetPkt 0)) 2 2 = 0 ∧ (body (resetPkt 0)).getD 0 0 = 4 ∧ 4 ≤ hostCap keyedS ∧ hostCap { keyedS with fuse := { hostCap := 1 } } < 4 ∧
    keyedS.rst.mtpPulse = false := by unfold Arrives Taken; decide +kernel

theorem witness_HostResetNeedsAuthentication_mac :
    ∃ a, (resetPkt resetMac).auth = some a ∧ authCause keyedS 1 0x72 [] (resetPkt resetMac) a = none := by
  have h1 : slotLocked keyedS 0 = false := by decide +kernel
  have h2 : keyedS.slot 0 = some { key := 7, role := 1 } := by decide +kernel
  have h3 : secError keyedS = false := by decide +kernel
  refine ⟨_, rfl, ?_⟩
  simp [authCause, h1, h2, h3, resetMac, BitVec.toNat_ofNat, packetCover, resetPkt]

/-- A SCHED packet of one receive entry of unit 0. -/
def schedP : Packet := pkt [0, 0, 0, 5, 1, 32, 0, 1, 1, 0, 0, 0, 0, 0, 0, 0] false true

theorem witness_ScheduleEntries :
    Arrives upS schedP ∧ schedP.auth = none ∧ (body schedP).length = 16 * 1 ∧ (schedRaws 1 (body schedP)).isSome = true ∧ voting upS = false ∧
    modeOf upS ≠ mServe ∧ modeOf upS ≠ mDiag ∧ Arrives (upIn mServe) schedP ∧
    (∃ r, schedRaws 1 (body schedP) = some [r] ∧ rejCause (upIn mServe) r = 0) := by
  refine ⟨?_, ?_, ?_, ?_, ?_, ?_, ?_, ?_, ⟨⟨5, 1, 2, 1, 1, 0, 0, 0⟩, ?_, ?_⟩⟩ <;> (try unfold Arrives Taken) <;> decide +kernel

/-- A WRITE of one word, and a READ of one word, at 0x40000000 + `d`. -/
def writeP (d : Byte) : Packet := pkt [0, 0, 0, 0, 0x40, 0, 0, d, 0, 0, 0, 1] false true
def readP (d : Byte) : Packet := pkt [0, 0, 0, 0, 0x40, 0, 0, d, 0, 1, 0, 0, 0, 0, 0, 0] false true

theorem witness_HostMemoryAccess :
    (∀ p ∈ [writeP 0, writeP 1, readP 0, pkt [] false true], Arrives upS p ∧ p.auth = none ∧ p.ack = true) ∧ writeOk (pkt [] false true) = false ∧ readOk (pkt [] false true) = false ∧
    (writeOk (writeP 0) = true ∧ (body (writeP 0)).length = 12 ∧ bytesAt (body (writeP 0)) 8 4 = (1#32).toNat ∧ bytesAt (body (writeP 0)) 0 8 + 4 ≤ dieEnd ∧
      dieWritable (bytesAt (body (writeP 0)) 0 8) = true ∧ domFailed upS 2 = false ∧ domState (upIn mIdle [(Reg.PWR_DOM_STATE 2, domOn)]) 2 = domOn ∧
      dieWritable (dieEnd - 4) = true) ∧
    (bytesAt (body (writeP 1)) 0 8 + 4 ≤ dieEnd ∧ writeOk (writeP 1) = true ∧ dieWritable (bytesAt (body (writeP 1)) 0 8) = true) ∧
    (let p := pkt [0, 0, 0, 1, 0xFF, 0xFF, 0xFF, 0xFD, 0, 0, 0, 1] false true; Arrives upS p ∧ writeOk p = true ∧ bytesAt (body p) 8 4 = (1#32).toNat ∧
      dieWritable (bytesAt (body p) 0 8) = true ∧ dieEnd < bytesAt (body p) 0 8 + 4) ∧
    (let p := pkt [0, 0, 0, 0xF0, 0, 0, 0, 1, 0, 0, 0, 1] false true; Arrives upS p ∧ writeOk p = true ∧ winBase ≤ bytesAt (body p) 0 8 ∧ bytesAt (body p) 0 8 % 4 ≠ 0 ∧
      voting upS = false) ∧
    (let s := upIn mIdle [(Reg.PWR_DOM_STATE 2, domPowerDown)]; domState s 2 = domPowerDown ∧ domFailed s 2 = false ∧ Arrives s (writeP 0)) ∧
    (readOk (readP 0) = true ∧ bytesAt (body (readP 0)) 8 2 = 1 ∧ dieWritable (bytesAt (body (readP 0)) 0 8) = true ∧ bytesAt (body (readP 0)) 0 8 + 4 ≤ dieEnd) := by
  unfold Arrives Taken; decide +kernel

/-- A ring of DMA channel 15 of four descriptors at the start of the host's area. -/
def ringS : State :=
  { upIn mIdle [(Reg.DMA_CH_RING_LO_BASE_LO 15, 0x40000000), (Reg.DMA_CH_RING_HI_BASE_HI 15, 1), (Reg.DMA_CH_RING_HI_RLEN 15, 4), (Reg.PWR_DOM_STATE 2, domOn)] with
    hact := [((Reg.DMA_CH_RING_LO_BASE_LO 15).key, 0x40000000), ((Reg.DMA_CH_RING_HI_BASE_HI 15).key, 1), ((Reg.DMA_CH_RING_HI_RLEN 15).key, 4)] }

/-- An event queued and not sent. -/
def evtE : EventEntry := { code := 0x1001, eseq := 3, arg := 4, sec := 0, ns := 0, pushed := false }

theorem witness_RingsAndEvents :
    Arrives ringS (pkt (List.replicate 6 0) false true) ∧ voting ringS = false ∧ body (pkt (List.replicate 6 0) false true) = List.replicate 6 0 ∧
    ((body (pkt (List.replicate 38 0) false true)).length = 38 ∧ zeros ((body (pkt (List.replicate 38 0) false true)).take 6) = true) ∧
    (ringOk (rd ringS) 0 = false ∧ ringOk (rd ringS) 15 = true ∧ domState ringS 2 = domOn ∧ domFailed ringS 2 = false ∧
      bit (memWord ringS (ringAt ringS 15 (ringS.dma 15).posted)) 31 = false ∧
      bit (memWord (setMemWord ringS (ringAt ringS 15 0) 0x80000000) (ringAt ringS 15 0)) 31 = true) ∧
    (let p := pkt [0, 3, 1, 0, 0, 0, 0, 0]; Arrives upS p ∧ (body p).length = 8 ∧ zeros ((body p).drop 4) = true ∧ (body p).getD 2 0 < 2) ∧
    (let s := { upS with events := { entries := [evtE] } }; s.events.entries.find? (fun e => !e.pushed) = some evtE ∧ portUp s (activeUp s) = true ∧
      padsFor s 11 1 = true ∧ packageHeld s = false) ∧ on (upIn mIdle [(Reg.POOL_CTRL_EVT_PUSH, 1)]) Reg.POOL_CTRL_EVT_PUSH = true ∧
    on (upIn mIdle [(Reg.POOL_CTRL_EVT_PUSH, 0)]) Reg.POOL_CTRL_EVT_PUSH = false ∧ (∀ e ∈ State.reset.events.entries, e.pushed = true) := by
  unfold Arrives Taken; decide +kernel

/-- BOOT under BOOTSEL LINK, with `got` bytes of an image received. -/
def linkBoot (got : List Nat) : State := { upIn mBoot [(Reg.BOOT_STRAPS_BOOTSEL, 2)] with boot := { asm := some (2, got) } }

theorem witness_ImageCommands :
    (let p := pkt [0, 0, 0, 0, 0, 0, 1, 9]; let s := linkBoot [7]; Arrives s p ∧ modeOf s = mBoot ∧ bootSel s = 2 ∧ voting s = false ∧ zeros ((body p).take 3) = true ∧
      7 < (body p).length ∧ (body p).length ≤ 4039 ∧ bytesAt (body p) 3 4 = (imageGot s).length ∧ imageSlot s = 2 ∧
      (imageGot s).length + ((body p).length - 7) ≤ 48 * 1048576 ∧ bytesAt (body p) 3 4 ≠ (imageGot (linkBoot [])).length) ∧
    (let p := pkt [0, 0, 0, 0, 0, 0, 0]; let s := linkBoot [7]; (body p).length = 7 ∧ stepNow s ≠ 6 ∧ verifyImage s (imageGot s) = none) := by
  unfold Arrives Taken; decide +kernel

/-- A packet for another device. -/
def farP (d : BitVec 16) : Packet := { pkt [] with dev := d }

theorem witness_ForwardingAndPool :
    portUp State.reset 0 = false ∧ portUp upS 0 = true ∧ consumed upS (pkt []) = true ∧
    (let s := upIn mIdle [(Reg.POOL_ROUTE_LO 0, 5), (Reg.POOL_ROUTE_HI 0, 6), (Reg.LINK_STATUS_STATE 2, 3)]; consumed s (farP 6) = false ∧ routeOf s 6 = some 2 ∧
      portUp s 2 = true ∧ padsFor s 13 1 = true ∧ bit (0#2).toNat (2 - 2) = false ∧ bit (1#2).toNat (2 - 2) = true ∧ bonded s = false ∧ padsFor s 14 1 = true ∧
      portUp s (activeUp s) = true) ∧
    (consumed upS (farP 7) = false ∧ routeOf (upIn mIdle [(Reg.POOL_ROUTE_LO 0, 5), (Reg.POOL_ROUTE_HI 0, 6), (Reg.POOL_ROUTE_LO 1, 5), (Reg.POOL_ROUTE_HI 1, 6)]) 7 = none ∧ 0 ∉ upS.pool.noRoute ∧ Room upS) ∧
    modeOf (inMode mBoot) = mBoot ∧
    (let s := stSh [(Reg.POOL_RSV_RSV 0, 1)] (inMode mIdle); modeOf s ≠ mBoot ∧ shadowChanged s poolGroup = true ∧ poolPairOk s = true) ∧
    (let s := stSh [(Reg.POOL_RSV_RSV 0, 16000), (Reg.POOL_RSV_MAX 0, 1)] (inMode mIdle); shadowChanged s poolGroup = true ∧ poolPairOk s = false) := by
  unfold Room; decide +kernel

/-! ### Witnesses: carrier data -/

/-- A receive symbol, or a PRACH occasion, in work. -/
def workW (p : Option Nat) : RxWork :=
  { id := 1, kind := 2, param := 0, carrier := 3, prach := p, sym := 0, span := 1, mutes := [false], stale := false, copy := {} }

theorem witness_ReceivedSymbolsAreQueued :
    State.reset.beam.work = [] ∧
    (let s := { State.reset with beam := { work := [workW none] }, air := { sym := 1 } }; s.beam.work.find? (fun w => w.id == (1#32).toNat && w.carrier == 3 &&
      w.prach.isNone && tagOf w.sym == (0#32).toNat && decide (w.sym + w.span ≤ s.air.sym)) = some (workW none) ∧ (workW none).mutes ≠ [] ∧
      0 < rd s (Reg.CARRIER_CFG1_N_PRB 3)) ∧
    (let s := { State.reset with beam := { work := [workW (some 0)] }, air := { sym := 1 } }; s.beam.work.find? (fun w => w.id == (1#32).toNat && w.prach == some 0 &&
      tagOf w.sym == (0#32).toNat && decide (w.sym < s.air.sym)) = some (workW (some 0))) := by decide +kernel

/-- An uplink symbol of stream `n` waits, with one packet, or replaced by a DROPPED packet of this cause. -/
def ulX (cause : Nat) : UlSym :=
  { stream := 3, tag := 0, sym := 0, carrier := 3, prach := false, lfirst := 0, lcnt := 1, pkts := if cause = 0 then [(0, 0, [1])] else [], cause := cause }

/-- The port is UP with this symbol waiting, with `bal` of balance. -/
def ulS (cause bal : Nat) (ws : List (Fld × Nat) := []) : State := { upIn mServe ws with pool := { ul := [ulX cause] }, time := { bal := bal } }

theorem witness_UplinkDelivery :
    portUp State.reset 0 = false ∧ State.reset.pool.ul.find? (ulHas State.reset 0) = none ∧ stageOf (ulS 1 0) < 5 ∧ 5 ≤ stageOf (ulS 1 0 [(Reg.PWR_STATUS_STAGE, 5)]) ∧
    (portUp (ulS 1 0) 0 = true ∧ (ulS 1 0).pool.ul.find? (ulHas (ulS 1 0) 0) = some (ulX 1) ∧ ulAged (ulS 1 0) (ulX 1) = false ∧ (ulX 1).cause ≠ 0 ∧ padsFor (ulS 1 0) 11 1 = true) ∧
    ((ulS 0 0).pool.ul.find? (ulHas (ulS 0 0) 0) = some (ulX 0) ∧ ulAged (ulS 0 0) (ulX 0) = false ∧ (ulX 0).cause = 0 ∧ (ulX 0).pkts = [(0, 0, [1])] ∧ (ulX 0).stream < 16) ∧
    (let s := ulS 0 (10 ^ 12 * 2 ^ 40) [(Reg.POOL_CTRL_UL_AGE_MAX, 1)]; s.pool.ul.find? (ulHas s 0) = some (ulX 0) ∧ ulAged s (ulX 0) = true) := by decide +kernel

/-- A DL_DATA packet of one block of carrier 3, layer 0, for symbol `t`, of BFP code `c`. -/
def dlP (t : BitVec 32) (c : BitVec 4) : Packet :=
  { pkt ([3, 0, 0, 0, 0, 1, 0, 0] ++ List.replicate (blockBytes c.toNat) 0) with tag := t, aux := BitVec.ofNat 16 (c.toNat * 4096) }

theorem witness_DownlinkSections :
    (Taken (upIn mServe) (dlP 4 1) ∧ dlOk (upIn mServe) (dlP 4 1) = true ∧ (body (dlP 4 1)).getD 1 0 < gradeLayers (upIn mServe).fuse.grade false ∧
      (dlP 4 1).aux.toNat / 4096 = rd (upIn mServe) (Reg.CARRIER_CFG0_BFP_DL 3) ∧ symNow (upIn mServe) ≤ nearestTag (symNow (upIn mServe)) 4 ∧
      nowCycles (upIn mServe) ≤ dlDeadline (upIn mServe) 4 ∧ startOf (upIn mServe) 4 - startOf (upIn mServe) (symNow (upIn mServe)) ≤ 4915200 ∧
      padsFor (upIn mServe) 7 1 = true ∧ stageOf (upIn mServe) < 5) ∧
    (let s := upIn mServe [(Reg.PWR_STATUS_STAGE, 5)]; Taken s (dlP 4 1) ∧ dlOk s (dlP 4 1) = true ∧ (body (dlP 4 1)).getD 1 0 < gradeLayers s.fuse.grade false ∧ 5 ≤ stageOf s) ∧
    (dlOk (upIn mServe) (dlP 4 2) = true ∧ (dlP 4 2).aux.toNat / 4096 ≠ rd (upIn mServe) (Reg.CARRIER_CFG0_BFP_DL 3)) ∧
    (nearestTag (symNow (upIn mServe)) 0xFFFFFFFF < symNow (upIn mServe) ∧ dlDeadline (upIn mServe) 0 < nowCycles (upIn mServe)) ∧
    dlOk (upIn mServe) (pkt []) = false ∧ releasing State.reset = false ∧
    (let s := { escS with hact := [((Reg.CARRIER_CFG0_EN 0).key, 1)], time := { bal := 0 } }; let m := nearestTag (symNow s) (1#32).toNat;
      releasing s = true ∧ on s (Reg.CARRIER_CFG0_EN 0) = true ∧ m % (carrierR s 0 : Int) = 0 ∧ symNow s < m ∧ dlDeadline s m ≤ startOf s (symNow s + 1)) := by
  unfold Taken; decide +kernel

/-! ### Witnesses: the Chorus -/

/-- A croak window in which unit 0 listens and, when `due`, `tx` sends. -/
def winW (tx : Option Nat) (due : Bool) : CroakWin :=
  { first := 7, role := 0, cset := 0, fofs := 0, unit := 0, nrec := 0, listen := [0], tx := tx, due := due }

/-- The receiver in state `n`, with this window and croak. -/
def choS (n : Nat) (w : Option CroakWin := none) (x : Option CroakRx := none) (ws : List (Fld × Nat) := []) : State :=
  { inMode mServe ((Reg.CHORUS_STATUS_STATE, n) :: (Reg.CHORUS_CTRL_EN, 1) :: ws) with chorus := { win := w, rx := x, stopped := false } }

theorem witness_ChorusReceiverStates :
    (let s := choS cOff (some (winW none false)); s.chorus.win = some (winW none false) ∧ cState s = cOff ∧ (winW none false).listen ≠ [] ∧ chorusStopped s = false) ∧
    cState (choS cHeader) ≠ cOff ∧ (winW none false).due = false ∧
    (let s := choS cOff (some (winW (some 0) true)) none [(Reg.UNIT_TX_STATUS_GATED 0, 0), (Reg.UNIT_TX_INTERP_RATIO 0, 2), (Reg.UNIT_TX_STATUS_MUTE_CAUSE 0, 0)];
      (winW (some 0) true).due = true ∧ (winW (some 0) true).tx = some 0 ∧ croakAble s 0 0 ((winW (some 0) true).role == 2) = true ∧ on s (Reg.UNIT_TX_STATUS_GATED 0) = false) ∧
    ((winW none true).due = true ∧ (winW none true).tx = none ∧ rd (choS cOff) Reg.CHORUS_COUNT1_NOT_SENT = 0 ∧ Room (choS cOff)) ∧ State.reset.chorus.win = none ∧
    cState (choS cSearch) = cSearch ∧ cState (choS cAcquire) = cAcquire ∧ (cState (choS cAfc) = cAfc ∧ 8 ≤ (8#6).toNat) ∧ (7#6).toNat < 8 ∧
    cState (choS cHeader) = cHeader ∧ headerOk [] = false ∧ cState (choS cHeader) ≠ cSearch ∧ cState (choS cHeader) ≠ cAcquire ∧ cState (choS cHeader) ≠ cAfc := by
  unfold Room; decide +kernel

/-- A header of SRC_ID 6 with one record (bits 23:8 SRC_ID, 7:5 NREC), and a record of zeros, with their CRCs. -/
def headB : List Byte := [0, 6, 0x20, 0x42, 0x58]
def payB : List Byte := List.replicate 16 0 ++ [0x6A, 0x0A]

theorem witness_ChorusPacketsAndCommit :
    cState (choS cOff) ≠ cHeader ∧ (cState (choS cHeader) = cHeader ∧ headerOk (headB.map BitVec.toNat) = true) ∧
    (let x : CroakRx := ⟨6, 1, false, none⟩; let s := choS cPayload none (some x); s.chorus.rx = some x ∧ cState s = cPayload ∧ (payB.map BitVec.toNat).length = 16 * x.nrec + 2 ∧
      ofBytes ((payB.map BitVec.toNat).drop (16 * x.nrec)) = crc16 ((payB.map BitVec.toNat).take (16 * x.nrec))) ∧
    (cAcquire ≤ cState (choS cPayload) ∧ cState (choS cPayload) ≤ cPayload ∧ captureDb (choS cPayload) ≤ (12#8).toNat ∧ (3#8).toNat < captureDb (choS cPayload)) ∧
    cState (choS cOff) < cAcquire ∧ cPayload < cState (choS cMeasure) ∧
    (let x : CroakRx := ⟨6, 0, false, none⟩; let s := choS cMeasure (some (winW none false)) (some x); s.chorus.win = some (winW none false) ∧ s.chorus.rx = some x ∧
      cState s = cMeasure ∧ x.self = false ∧ peerEntry s x.src = none ∧ (winW none false).listen.contains (activeUnit s) = true ∧
      (respAt ⟨0, 0, 0, 0, [⟨1, 1, 0, 0⟩], false⟩ (activeUnit s)).tag ≠ 3#2 ∧ newEntry s = some 0) ∧
    (packageHeld (choS cOff) = false ∧ (choS cOff).events.entries.length < 500) ∧ releasing escS = true ∧ modeOf (inMode mBoot) = mBoot ∧
    (let s := inMode mIdle [(Reg.CHORUS_CTRL_EN, 1)]; releasing s = false ∧ modeOf s ≠ mBoot ∧ on s Reg.CHORUS_CTRL_EN = true ∧ blkHeld s 0x302 none = false ∧
      s.chorus.stopped = true ∧ chorusPairFails s = [] ∧ chorusPairFails (stSh [(Reg.CHORUS_UNITS_DES_UNIT, 3), (Reg.CHORUS_UNITS_ALT_UNIT, 3), (Reg.CHORUS_UNITS_ALT_EN, 1)] s) ≠ []) := by
  decide +kernel

/-! ### Witnesses: calibration and time -/

/-- Cluster 0 runs calibration `cal` of the unit at `pos`, with `n` steps done. -/
def calS (cal pos n serving : Nat) (ws : List (Fld × Nat) := []) : State :=
  { inMode mServe ws with cal := { clusters := [(0, { run := some ⟨pos, cal, n, 0⟩, left := 1, serving := serving })] } }

theorem witness_CalibrationStepsAndRequests :
    (State.reset.ccal 0).run = none ∧
    (let s := calS 0 7 0 1; (s.ccal 0).run = some ⟨7, 0, 0, 0⟩ ∧ (s.ccal 0).left ≠ 0 ∧ skipTx s 0 0 = false ∧ 0 + 1 < calSteps 0) ∧
    (let s := calS 3 7 31 3; skipTx s 0 3 = false ∧ calSteps 3 ≤ 31 + 1 ∧ calReason s 7 3 ⟨0, []⟩ = 0 ∧ calReason s 7 3 ⟨6, []⟩ ≠ 0) ∧
    clusterEnabled { State.reset with fuse := { grade := 3 } } 15 = false ∧ clusterEnabled State.reset 0 = true ∧ (0#32).toNat.testBit 31 = false ∧
    ((0x80FF0000#32).toNat.testBit 31 = true ∧ modeOf (inMode mIdle) ≠ mServe ∧ modeOf (inMode mIdle) ≠ mDiag ∧ Room (inMode mIdle) ∧
      on (st [(Reg.CLUSTER_CAL_STATUS_BUSY 0, 1)]) (Reg.CLUSTER_CAL_STATUS_BUSY 0) = true) ∧
    ((0x80800001#32).toNat.testBit 31 = true ∧ (0x80800001#32).toNat.testBit 24 = false ∧ modeOf (inMode mServe) = mServe ∧
      on (inMode mServe) (Reg.CLUSTER_CAL_STATUS_BUSY 0) = false ∧ bits (0x80800001#32).toNat 0 8 ≠ 0 ∧
      ∃ p < 8, bit (bits (0x80800001#32).toNat 16 8) p = true ∧ unitEnabled (inMode mServe) (8 * 0 + p) = true) := by unfold Room; decide +kernel

theorem witness_CalibrationStore :
    State.reset.cal.saving = none ∧ State.reset.cal.changed = false ∧
    (let s := { State.reset with cal := { saving := some {}, changed := true } }; s.cal.saving = some {} ∧ s.cal.changed = true) ∧
    clusterEnabled { State.reset with fuse := { grade := 3 } } 15 = false ∧
    (let s := inMode mDiag [(Reg.CLUSTER_TRIM_SEL_INDEX 0, 0x3F)]; clusterEnabled s 0 = true ∧ modeOf s = mDiag ∧ trimSpec (rd s (Reg.CLUSTER_TRIM_SEL_INDEX 0)) = some (16, true)) ∧
    modeOf (inMode mServe) ≠ mDiag ∧ Room (inMode mServe) := by unfold Room; decide +kernel

/-- A message of domain 0. -/
def msgM : PtpMsg := ⟨2, 1, true, 0, true, true, 5, 1, 0, 0, 0, 0, 0⟩

/-- Domain A with an exchange under way. -/
def exchS (wait : Bool) : State := { inMode mServe with time := { domA := { seq := 5, wait := wait, t1 := some 1, t2 := some 2, t3 := some 3 } } }

theorem witness_PtpMessages :
    domOf State.reset 9 = none ∧ (domOf State.reset 0 ≠ none ∧ msgOk { msgM with version := 1 } = false) ∧
    (domOf State.reset msgM.domain.toNat = some 0 ∧ msgOk msgM = true ∧ (1 : Nat) ≠ timePort State.reset ∧ 0 = timePort State.reset) ∧
    (let s := exchS true; domOf s 0 = some 0 ∧ 0 = timePort s ∧ (s.dom 0).t1 = some 1 ∧ (s.dom 0).t2 = some 2 ∧ (s.dom 0).wait = true ∧ (s.dom 0).seq = msgM.seq.toNat ∧
      now16 s - 2 ≤ 65536000000000) ∧
    (let s := exchS false; domOf s 0 = some 0 ∧ msgM.own = true ∧ (s.dom 0).wait = false ∧ (s.dom 0).t3 = some 3) := by decide +kernel

theorem witness_TimeSources :
    (State.reset.dom 0).pend = [] ∧
    (let s := { State.reset with time := { domA := { pend := [5] } } }; crossAvail s 0 = false ∧ (s.dom 0).pend ≠ []) ∧
    (domValid State.reset (rd State.reset Reg.TIME_DOMAIN_PREF) = false) ∧
    (let s := { st [(Reg.TIME_STATUS_VALID_A, 1), (Reg.TIME_STATUS_SEL, 1)] with time := { domA := { ann := true, cls := 0, exch := true } } };
      domValid s (rd s Reg.TIME_DOMAIN_PREF) = true ∧ domHolds s (rd s Reg.TIME_DOMAIN_PREF) = true ∧ rd s Reg.TIME_DOMAIN_PREF < 2 ∧
      rd s Reg.TIME_STATUS_SEL ≠ rd s Reg.TIME_DOMAIN_PREF) ∧
    rd State.reset Reg.TIME_STATUS_STATE ≠ tAcquire ∧
    (let s := { st [(Reg.TIME_STATUS_STATE, tAcquire)] with time := { wasLocked := true } }; rd s Reg.TIME_STATUS_STATE = tAcquire ∧ sourceOf s = 0 ∧ s.time.wasLocked = true ∧ Room s) ∧
    (st [(Reg.TIME_STATUS_STATE, tAcquire)]).time.wasLocked = false := by unfold Room; decide +kernel

theorem witness_SteerMovesByOnePpb :
    (rdI State.reset Reg.TIME_STEER_STEER).natAbs ≤ 2000000 ∧ (rdI (st [(Reg.TIME_STEER_STEER, 2000000)]) Reg.TIME_STEER_STEER).natAbs ≤ 2000000 ∧
    rd (st [(Reg.TIME_STATUS_STATE, tHoldover)]) Reg.TIME_STATUS_STATE = tHoldover ∧ rd State.reset Reg.TIME_STATUS_STATE = tFree := by decide +kernel

theorem witness_PpsSnapAndTimeCommit :
    tileEnabled { State.reset with fuse := { grade := 3 } } 3 = false ∧ tileEnabled State.reset 3 = true ∧ 50 < (-51#16).toInt.natAbs ∧ (50#16).toInt.natAbs ≤ 50 ∧ Room State.reset ∧
    (let s := st [(Reg.TIME_PPS_OUT_EN, 1), (Reg.TIME_STATUS_STATE, tLocked)]; on s Reg.TIME_PPS_OUT_EN = true ∧ rd s Reg.TIME_STATUS_STATE ≠ tFree) ∧
    rd State.reset Reg.TIME_STATUS_STATE = tFree ∧ on (st [(Reg.TIME_PPS_IN_EN, 0)]) Reg.TIME_PPS_IN_EN = false ∧ on (st [(Reg.TIME_PPS_IN_EN, 1)]) Reg.TIME_PPS_IN_EN = true ∧
    modeOf (inMode mBoot) = mBoot ∧
    (let s := stSh [(Reg.TIME_DOMAIN_EN_B, 1)] (inMode mIdle); modeOf s ≠ mBoot ∧ shadowChanged s timeGroup = true ∧ timePairOk s = true) ∧
    (let s := stSh [(Reg.TIME_DOMAIN_EN_A, 0)] (inMode mIdle); shadowChanged s timeGroup = true ∧ timePairOk s = false) := by unfold Room; decide +kernel

/-! ### Witnesses: capture -/

/-- A channel whose plan may be armed. -/
def capOkS : State := stSh [(Reg.CAP_CH_BASE_BASE 0, 0x1000000), (Reg.CAP_CH_AREA_LEN 0, 0x100000)] (inMode mIdle)

/-- Channel 15 in state `n`. -/
def capInS (n : Nat) (c : CapCh := {}) (ws : List (Fld × Nat) := []) : State := { inMode mServe ((Reg.CAP_CH_STATUS_STATE 15, n) :: ws) with caps := [(15, c)] }

/-- An open segment. -/
def segG : CapSeg := ⟨false, false, 9, 0, 0, 0, 0, 0, 0, 0, []⟩

theorem witness_CaptureArmsAndTriggers :
    capCause (inMode mIdle) 0 false = some 4 ∧ capCause (inMode mIdle [(Reg.CAP_CH_STATUS_STATE 0, 1)]) 0 false = some 0 ∧ Room (inMode mIdle) ∧ capCause capOkS 0 false = none ∧
    capSt (capInS cpArmed) 15 = cpArmed ∧ trigMatches (capInS cpArmed {} [(Reg.CAP_CH_TRIG_TSRC 15, 7)]) 15 .pps = true ∧ trigMatches (capInS cpArmed) 15 .pps = false ∧
    on (capInS cpArmed {} [(Reg.CAP_CH_CTRL_AUTO_EN 15, 1)]) (Reg.CAP_CH_CTRL_AUTO_EN 15) = true ∧ capSt State.reset 15 ≠ cpArmed ∧
    (let s := capInS cpCapturing { opn := some segG }; capSt s 15 = cpCapturing ∧ (s.cap 15).opn = some segG ∧ segG.since ≠ (10#32).toNat ∧ capSegs (rd s) 15 ≤ (s.cap 15).seg + 1 ∧ Room s) ∧
    (capSt (capInS cpRearm) 15 = cpRearm ∧ holding (capInS cpRearm) 15 = false ∧ holding (capInS cpRearm { holdTime := true }) 15 = true ∧
      ((capInS cpRearm { rearmed := true }).cap 15).rearmed = true ∧ ((capInS cpRearm { rearmed := true }).cap 15).holdCnt = 0) := by unfold Room; decide +kernel

theorem witness_CaptureStopsAndSkew :
    (let s := capInS cpCapturing { opn := some segG }; capRuns s 15 = true ∧ Room s ∧ capSt s 15 ≠ cpStreaming ∧ (s.cap 15).opn ≠ none) ∧ capRuns (capInS cpDone) 15 = false ∧
    (let s := capInS cpStreaming {} [(Reg.CAP_CH_CTRL_WRAP 15, 0)]; capRuns s 15 = true ∧ capSt s 15 = cpStreaming ∧ on s (Reg.CAP_CH_CTRL_WRAP 15) = false) ∧
    modeOf (inMode mDiag) = mDiag ∧ modeOf (inMode mServe) ≠ mIdle ∧ modeOf (inMode mServe) ≠ mDiag ∧ on (st [(Reg.CAP_CTRL_SKEW_BUSY, 1)]) Reg.CAP_CTRL_SKEW_BUSY = true ∧
    on State.reset Reg.CAP_CTRL_SKEW_BUSY = false := by unfold Room; decide +kernel

/-! ### Witnesses: the DMA engine -/

/-- Channel 0 in state `n`, with its ring and CUR at the start of the user area, the memory die up. -/
def dmaS (n : Nat) (x : DmaCh := {}) (ws : List (Fld × Nat) := []) : State :=
  { upIn mServe ([(Reg.DMA_CH_STATUS_STATE 0, n), (Reg.DMA_CH_RING_LO_BASE_LO 0, 0x40000000), (Reg.DMA_CH_RING_HI_BASE_HI 0, 1), (Reg.DMA_CH_RING_HI_RLEN 0, 4),
      (Reg.DMA_CH_CUR_LO_CUR_LO 0, 0x40000000), (Reg.DMA_CH_CUR_HI_CUR_HI 0, 1), (Reg.PWR_DOM_STATE 2, domOn)] ++ ws) with dmas := [(0, x)] }

theorem witness_DmaChannelControl :
    (dmaSt (dmaS dRun) 0 ≠ dIdle ∧ dmaSt (dmaS dRun) 0 ≠ dHalted) ∧ (dmaSt (dmaS dHalted) 0 = dHalted ∧ ringOk (rdSh (dmaS dHalted)) 0 = false) ∧
    ringOk (rdSh (stSh [(Reg.DMA_CH_RING_LO_BASE_LO 0, 0x40000000), (Reg.DMA_CH_RING_HI_BASE_HI 0, 1), (Reg.DMA_CH_RING_HI_RLEN 0, 4)] (dmaS dIdle))) 0 = true ∧
    dmaSt (dmaS dIdle) 0 = dIdle ∧ dmaSt (dmaS dRun) 0 = dRun ∧ (dmaSt (dmaS dPaused) 0 = dPaused ∧ ((dmaS dPaused).dma 0).lost = false) ∧
    (dmaSt (dmaS dPaused) 0 ≠ dWait ∧ dmaSt (dmaS dPaused) 0 ≠ dRun) ∧ (dmaSt (dmaS dWait { reading := true }) 0 = dWait ∧ ((dmaS dWait { reading := true }).dma 0).reading = true) ∧
    ((dmaS dWait).dma 0).reading = false ∧ ((dmaS dRun).dma 0).desc = none ∧ Room (dmaS dRun) ∧ ((dmaS dRun { pausing := true }).dma 0).pausing = true ∧
    ((dmaS dRun).dma 0).pausing = false := by unfold Room; decide +kernel

/-- A descriptor of one word from 0x140001000 to 0x140002000, or to the link. -/
def descD (link : Bool) : DmaDesc := ⟨false, 3, link, false, false, 4, 0x140001000, 0x140002000, 0x8C000000⟩

theorem witness_DmaDescriptors :
    (let s := dmaS dRun { reading := true }; domState s 2 = domOn ∧ domFailed s 2 = false ∧ dmaCur s 0 = userArea ∧ userArea + 32 ≤ dieEnd ∧ userArea % 32 = 0 ∧
      (s.dma 0).reading = true ∧ (s.dma 0).pausing = false ∧ dmaSt s 0 = dRun ∧ bit (memWord s userArea) 31 = false ∧ rd (dmaS dRun { reading := true } [(Reg.DMA_CH_BUDGET_BUDGET 0, 0)]) (Reg.DMA_CH_BUDGET_BUDGET 0) = 0) ∧
    (let s := setMemWord (dmaS dRun { reading := true }) userArea 0x80000000; let w := (List.range 8).map fun k => memWord s (userArea + 4 * k);
      bit (w.getD 0 0) 31 = true ∧ descBad w = true ∧ Room s) ∧
    (let s := setMemWord (setMemWord (dmaS dRun { reading := true }) userArea 0x80000000) (userArea + 4) 4; let w := (List.range 8).map fun k => memWord s (userArea + 4 * k);
      bit (w.getD 0 0) 31 = true ∧ descBad w = false ∧ bits (w.getD 0 0) 29 2 = 0) ∧
    (let s := dmaS dRun { desc := some (descD false) } [(Reg.DMA_CH_DONE_DONE 0, 4)]; (s.dma 0).desc = some (descD false) ∧ dmaSt s 0 = dRun ∧ (s.dma 0).pausing = false ∧
      dmaDone s 0 = (descD false).len) ∧
    (let s := dmaS dRun { desc := some (descD false) }; let d := descD false; dmaDone s 0 + 4 = d.len ∧ d.len < 2 ^ 28 ∧ userArea ≤ d.src + dmaDone s 0 ∧ d.src + d.len ≤ dieEnd ∧
      userArea ≤ d.dst + dmaDone s 0 ∧ d.dst + d.len ≤ dieEnd ∧ dmaCur s 0 + 32 ≤ d.dst + dmaDone s 0) ∧
    (let s := dmaS dRun { desc := some (descD true) }; (s.dma 0).desc = some (descD true) ∧ dmaDone s 0 + 4 = (descD true).len ∧ portUp s (activeUp s) = true ∧ padsFor s 12 1 = true) ∧
    dmaSt (dmaS dWait) 0 ≠ dRun := by unfold Room; decide +kernel

/-! ### Witnesses: Newt cores -/

/-- Core 0 runs its vendor context (`user` false), or its user kernel at 0x6000 in DIAG, with the words `w` and `v` at PC. -/
def coreS (user : Bool) (w v : Nat) (c : CtxS := {}) (ws : List (Fld × Nat) := []) : State :=
  let pc := if user then 0x6000 else 0x100
  setMemWord (setMemWord
    { inMode mDiag ((Reg.NEWT_STATUS_VSTATE 0, vRun) :: (Reg.NEWT_STATUS_USTATE 0, if user then uRunning else uStopped) :: ws) with
      newts := [(0, if user then { user := { c with pc := pc } } else { vendor := { c with pc := pc } })] }
    (pmAddr 0 pc) w) (pmAddr 0 (pc + 1)) v

/-- Words written out from Tables 9.5 and 9.6, with the instruction of each and its size. -/
def ctrlWords : List (Nat × NI × Nat) :=
  [(0x00000000, .nop, 1), (0x01307FFF, .br 3 0x7FFF, 1), (0x02000123, .call 0x123, 1), (0x03000000, .ret, 1), (0x04001005, .loop 2 none 5, 1),
   (0x0480100F, .loop 2 (some 15) 15, 1), (0x05000000, .yield, 1), (0x060000FF, .waitev 255, 1), (0x07000000, .halt, 1), (0x08000007, .sys 7, 1)]

def aluWords : List (Nat × NI × Nat) :=
  (aluOps.zipIdx.map fun e => (0x10012000 + 2 ^ 22 * e.2 + (if e.2 < 12 then 0x300 else 0), .alu e.1 1 2 (if e.2 < 12 then 3 else 0), 1)) ++
  (immOps.zipIdx.map fun e => (0x20100000 + 2 ^ 24 * e.2 + (if e.2 < 7 then 0x20000 else 0) + 0xFFFF, .imm e.1 1 (if e.2 < 7 then 2 else 0) 0xFFFF, 1))

def moveWords : List (Nat × NI × Nat) :=
  (macOps.zipIdx.map fun e => (0x30000000 + 2 ^ 25 * e.2 + 0x00800000 + 0x00200000 + 0x00060000, .mac e.1 1 2 11 [], 1)) ++
  [(0x49800000, .ldst ⟨true, 3, 0, 0⟩, 1), (0x41800000, .ldst ⟨false, 3, 0, 0⟩, 1),
   (0x50410400, .trn 1 1 0 1, 1), (0x51C50000, .lda 3 5, 1), (0x52D00000, .adda 3 1, 1), (0x53C00000, .nega 3, 1), (0x65612000, .ptr .circ 3 1 2, 1),
   (0x6F000000 - 0x9000000, .ptr .movwb 0 0 0, 1), (0x75C00000, .long 1 7 0xC8000000, 2)] ++
  ([PtrOp.movp, .movxp, .movm, .movxm, .addp].zipIdx.map fun e => (0x60610000 + 2 ^ 24 * e.2, .ptr e.1 3 1 0, 1))

/-- Every instruction of Table 9.6 stands at PC of a running context, in either context. -/
theorem witness_NewtWords : ∀ e ∈ ctrlWords ++ aluWords ++ moveWords, ∀ u ∈ [true, false], ctxRuns (coreS u e.1 0xC8000000) 0 u = true ∧
    newtDecode (pmWord (coreS u e.1 0xC8000000) 0 ((coreS u e.1 0xC8000000).ctx 0 u).pc) (pmWord (coreS u e.1 0xC8000000) 0 (((coreS u e.1 0xC8000000).ctx 0 u).pc + 1)) =
      some e.2.1 ∧ sizeOf' e.1 = e.2.2 := by decide +kernel

theorem witness_NewtControlFlow :
    (∀ u ∈ [true, false], AtPC (coreS u 0 0) 0 u .nop 1) ∧ ((coreS true 0 0).ctx 0 true).loops = [] ∧
    (let l : LoopLvl := ⟨0x50, 0x101, 2⟩; let s := coreS false 0x04001005 0 { loops := [l], calls := List.replicate 16 1 }; AtPC s 0 false (.loop 2 none 5) 1 ∧
      (s.ctx 0 false).loops = [l] ∧ (0x100 + 1) % 32768 = l.stop ∧ 1 < l.left ∧ 16 ≤ (s.ctx 0 false).calls.length ∧ afterInstrs s 0 2 0x101 ≤ 0x8000 ∧
      (s.ctx 0 false).loops.length < 4 ∧ (0x6000 + 1) % 32768 ≠ l.stop) ∧
    (⟨0, 5, 1⟩ : LoopLvl).left ≤ 1 ∧ AtPC (coreS false 0x02000123 0) 0 false (.call 0x123) 1 ∧ ((coreS false 0x02000123 0).ctx 0 false).calls.length < 16 ∧
    (AtPC (coreS false 0x03000000 0 { calls := [5] }) 0 false .ret 1 ∧ ((coreS false 0x03000000 0 { calls := [5] }).ctx 0 false).calls = [5]) ∧
    ((coreS false 0x03000000 0).ctx 0 false).calls = [] ∧ 0x8000 < afterInstrs (coreS false 0 0) 0 4095 0x7002 ∧
    4 ≤ ((coreS false 0 0 { loops := List.replicate 4 ⟨0, 5, 1⟩ }).ctx 0 false).loops.length ∧
    (AtPC (coreS false 0x0480100F 0) 0 false (.loop 2 (some 15) 15) 1 ∧ ((coreS false 0 0).ctx 0 false).getX 15 % 65536 = 0) ∧
    (ctxRuns (coreS true 0xF0000000 0) 0 true = true ∧ fetchInstr (coreS true 0xF0000000 0) 0 true 0x6000 = .error 1) ∧
    (modeOf (inMode mServe) ≠ mDiag ∧ ctxRuns State.reset 0 false = false) := by unfold AtPC; decide +kernel

theorem witness_NewtArithmetic : ∀ e ∈ aluWords, AtPC (coreS true e.1 0) 0 true e.2.1 1 := by unfold AtPC; decide +kernel

/-- The moves' core: P0 and P5 point into data memory 1. -/
def moveS (w v : Nat) : State := coreS false w v { p := [(0, 0xFFFC), (5, 0x40)], x := [(1, 0x4000), (2, 8), (9, 7)] }

theorem witness_NewtAccumulatorsAndMoves :
    (∀ e ∈ moveWords, e.2.2 = 1 → AtPC (coreS false e.1 0) 0 false e.2.1 1) ∧
    (let s := moveS 0x32012001 0xCD000000; let ms : List Move := [⟨false, 1, 0, 0⟩, ⟨true, 9, 5, 0⟩]; AtPC s 0 false (.mac .cmac 0 0 8 ms) 2 ∧
      ms.all (fun m => permitted s 0 false (s.ctx 0 false) m.store (moveAddr (s.ctx 0 false) m) && !outside (moveAddr (s.ctx 0 false) m)) = true) ∧
    (let s := moveS 0x32012001 0xCD000000; let ms : List Move := [⟨false, 1, 0, 0⟩, ⟨true, 9, 5, 0⟩];
      ∃ s1 vs s2, runLoads 0 { s.ctx 0 false with wait := none } false false s ms = (s1, some vs) ∧
        runStores 0 false { s.ctx 0 false with wait := none } s1 ms = (s2, true) ∧ s2.newts = s1.newts ∧ s1.newts = s.newts) ∧
    (let s := moveS 0x49800000 0; AtPC s 0 false (.ldst ⟨true, 3, 0, 0⟩) 1 ∧ permitted s 0 false (s.ctx 0 false) true 0xFFFC = true ∧ moveAddr (s.ctx 0 false) ⟨true, 3, 0, 0⟩ = 0xFFFC ∧
      outside 0xFFFC = false) ∧
    (let s := coreS true 0x41800000 0 { p := [(0, 0x20000)] }; AtPC s 0 true (.ldst ⟨false, 3, 0, 0⟩) 1 ∧ permitted s 0 true (s.ctx 0 true) false 0x20000 = false ∧
      moveAddr (s.ctx 0 true) ⟨false, 3, 0, 0⟩ = 0x20000) ∧
    (let s := coreS true 0x32012001 0xCD000000 { p := [(0, 0x20000)] }; AtPC s 0 true (.mac .cmac 0 0 8 [⟨false, 1, 0, 0⟩, ⟨true, 9, 5, 0⟩]) 2 ∧
      permitted s 0 true (s.ctx 0 true) false (moveAddr (s.ctx 0 true) ⟨false, 1, 0, 0⟩) = false) ∧
    circOk (0x4000 / 4 * 4) 8 = true ∧ circOk (0xFFFC / 4 * 4) 8 = false ∧ AtPC (coreS false 0x75C00000 0xC8000000) 0 false (.long 1 7 0xC8000000) 2 := by
  unfold AtPC
  refine ⟨?_, ?_, ⟨_, _, _, Prod.ext rfl ?_, Prod.ext rfl ?_, ?_, ?_⟩, ?_, ?_, ?_, ?_, ?_, ?_⟩ <;> first | rfl | decide +kernel

theorem witness_NewtAddressingModes :
    (let s := coreS false 0x498C0000 0 { p := [(0, 0xFFFC)] }; AtPC s 0 false (.ldst ⟨true, 3, 0, 3⟩) 1 ∧ permitted s 0 false (s.ctx 0 false) true 0xFFFC = true ∧ outside 0xFFFC = false) ∧
    (let s := coreS false 0x41F80000 0 { p := [(7, 0x4010)], m := [(7, 4)], b := [(7, 0x4000)], l := [(7, 0x14)] }; AtPC s 0 false (.ldst ⟨false, 3, 7, 2⟩) 1 ∧
      permitted s 0 false (s.ctx 0 false) false 0x4000 = true ∧ outside 0x4000 = false ∧ moveAddr (s.ctx 0 false) ⟨false, 3, 7, 2⟩ = 0x4000) := by unfold AtPC; decide +kernel

/-- The kernel slot of core 0 in state `n`. -/
def slotS (n : Nat) (x : NewtS := {}) (ws : List (Fld × Nat) := []) : State := { inMode mServe ((Reg.NEWT_STATUS_USTATE 0, n) :: ws) with newts := [(0, x)] }

theorem witness_NewtKernelSlotAndFaults :
    regionEnabled State.reset 0 = true ∧ (uState (slotS uStopped) 0 = uStopped ∧ userMode (slotS uStopped) 0 = true ∧
      ((List.range 8).all fun i => circOk (((slotS uStopped).newt 0).bSh.get i 0) (((slotS uStopped).newt 0).lSh.get i 0)) = true) ∧
    ((List.range 8).all fun i => circOk (((slotS uStopped { lSh := [(7, 6)] }).newt 0).bSh.get i 0) (((slotS uStopped { lSh := [(7, 6)] }).newt 0).lSh.get i 0)) = false ∧
    uState (slotS uEmpty) 0 = uEmpty ∧ (uState (slotS uRunning { user := { loops := [⟨0, 5, 1⟩] } }) 0 = uRunning ∧ ((slotS uRunning { user := { loops := [⟨0, 5, 1⟩] } }).newt 0).user.loops ≠ []) ∧
    (uState (slotS uRunning) 0 = uRunning ∧ ((slotS uRunning).newt 0).user.loops = []) ∧ regionEnabled { State.reset with fuse := { grade := 3 } } 7 = false ∧
    (∀ e ∈ [0, 1], bit (rd (slotS uWaiting {} [(Reg.NEWT_USER_CTRL_TRIG_EN 0, 3)]) (Reg.NEWT_USER_CTRL_TRIG_EN 0)) e = true) ∧
    uState (slotS uWaiting) 0 = uWaiting ∧ uState (slotS uSuspended) 0 = uSuspended ∧ rd (slotS uRunning) (Reg.NEWT_USER_COUNT_OVERRUN 0) = 0 ∧ Room (slotS uRunning) ∧
    (ctxRuns (slotS uRunning {} [(Reg.NEWT_USER_LIMIT_MAXCYC 0, 1)]) 0 true = true ∧ rd (slotS uRunning {} [(Reg.NEWT_USER_LIMIT_MAXCYC 0, 1)]) (Reg.NEWT_USER_LIMIT_MAXCYC 0) ≠ 0) ∧
    rd (st [(Reg.NEWT_USER_LIMIT_MAXCYC 0, 0)]) (Reg.NEWT_USER_LIMIT_MAXCYC 0) = 0 ∧
    (let s := coreS false 0x41800000 0 { p := [(0, 0x10000000)] }; ctxRuns s 0 false = true ∧ accessesOutside s 0 false = true) ∧
    accessesOutside (coreS false 0 0) 0 false = false ∧ vState (coreS false 0 0) 0 = vRun ∧ vState State.reset 0 ≠ vRun ∧
    ((slotS uRunning { fallReq := true }).newt 0).fallReq = true ∧ (∀ r : Fin 8, regionEnabled State.reset r = true → (State.reset.newt r).fallReq = false) := by
  unfold Room; decide +kernel

/-! ### Witnesses: lanes and ports -/

/-- Port 3 in state `st`, with all its lanes in state `ln`. -/
def portS (st ln : Nat) (x : PortS := {}) (ws : List (Fld × Nat) := []) : State :=
  { inMode mIdle ((Reg.LINK_STATUS_STATE 3, st) :: (List.range 8).map (fun l => (laneFld 3 l, ln)) ++ ws) with link := { ports := [(3, x)], started := true } }

/-- A status word of device 5 that shows all lanes good, with its CRC-8 (polynomial 0x07) worked out by hand. -/
def word5 : BitVec 64 := 0x00010005FF00004C

theorem witness_LanesAndPorts :
    (∀ n ∈ [lnSigdet, lnCdr, lnEq, lnMarker, lnGood, lnBackoff], laneSt (portS pTrain n) 3 7 = n) ∧ laneRising (portS pTrain lnEq) 3 7 = true ∧
    (let s := portS pUp lnGood {} [(Reg.LINK_STATUS_GROUP 3, 0xFF)]; laneSt s 3 7 = lnGood ∧ portUp s 3 = true ∧ bit (rd s (Reg.LINK_STATUS_GROUP 3)) 7 = true ∧
      packageHeld s = false ∧ s.events.entries.length + 3 ≤ 512 ∧ laneRising s 3 7 = false) ∧
    (let s := portS pTrain lnSigdet; portSt s 3 = pTrain ∧ groupOf (agreedMask s 3) = 0 ∧ (s.port 3).seen = false) ∧
    (let s := portS pTrain lnGood {} [(Reg.LINK_PARTNER_RX_GOOD 3, 3), (Reg.LINK_PARTNER_VALID 3, 1)]; groupOf (agreedMask s 3) = 3) ∧
    (let s := portS pUp lnCdr { own := [7] }; (s.port 3).own.contains 7 = true ∧ laneRising s 3 7 = true ∧ portSt s 3 = pUp) ∧ ((portS pUp lnCdr).port 3).own.contains 7 = false ∧
    (let s := portS pDeskew lnGood { agree := 2, agreeMask := 0xFF }; let b := wordBytes word5; let m := rxGood s 3 &&& b.getD 4 0;
      (portReceives s 3 && b.take 2 == [0, 1] && crc8 (b.take 7) == b.getD 7 0) = true ∧ portSt s 3 = pDeskew ∧ groupOf m ≠ 0 ∧ 2 ≤ (s.port 3).agree ∧ (s.port 3).agreeMask = m) ∧
    portReceives State.reset 3 = false ∧ (portSt (portS pBackoff lnSigdet) 3 = pBackoff ∧ portReceives (portS pBackoff lnSigdet) 3 = true) ∧
    (let s := portS pUp lnGood {} [(Reg.LINK_STATUS_GROUP 3, 3)]; let m := rxGood s 3 &&& (wordBytes word5).getD 4 0; m &&& rd s (Reg.LINK_STATUS_GROUP 3) = rd s (Reg.LINK_STATUS_GROUP 3)) ∧
    (let s := portS pUp lnGood {} [(Reg.LINK_PARTNER_RX_GOOD 3, 255), (Reg.LINK_PARTNER_VALID 3, 1), (Reg.LINK_STATUS_WIDTH 3, 2), (Reg.LINK_CTRL_AUTO_WIDEN 3, 1)];
      portUp s 3 = true ∧ on s (Reg.LINK_CTRL_AUTO_WIDEN 3) = true ∧ rd s (Reg.LINK_STATUS_WIDTH 3) < widthCode (groupOf (agreedMask s 3))) ∧
    (let s := portS pStop lnOff; portSt s 3 = pStop ∧ portHeld s 3 = false ∧ s.link.started = true) ∧
    (bit (0x80000007#32).toNat 31 = true ∧ laneSt (portS pUp lnGood) 3 (bits (0x80000007#32).toNat 0 3) = lnGood ∧ on (portS pUp lnGood) (Reg.LINK_EYE_CTRL_BUSY 3) = false ∧
      laneSt (portS pUp lnEq) 3 7 ≠ lnGood ∧ bit (7#32).toNat 31 = false) ∧
    (on (portS pUp lnGood { eyeMode := 1 } [(Reg.LINK_EYE_CTRL_BUSY 3, 1)]) (Reg.LINK_EYE_CTRL_BUSY 3) = true ∧ ((portS pUp lnGood { eyeMode := 1 }).port 3).eyeMode ≠ 0) ∧
    (let s := { upIn mIdle [(Reg.LINK_CFG_BOND 0, 0), (Reg.LINK_STATUS_ACTIVE_UP 0, 0), (Reg.LINK_STATUS_ACTIVE_UP 1, 1)] with link := { lastUp := some 1 } };
      on s (Reg.LINK_CFG_BOND 0) = false ∧ portUp s 0 = true ∧ on s (Reg.LINK_STATUS_ACTIVE_UP 1) = true ∧ s.link.lastUp = some 1 ∧ Room s) ∧
    (portUp (inMode mIdle) 0 = false ∧ portUp (inMode mIdle) 1 = false ∧ (inMode mIdle).link.upLost = false) := by unfold Room; decide +kernel

/-! ### Witnesses: housekeeping and temperature -/

/-- Converter 0 so, with its sequence `q` of one entry enabled. -/
def hkS (x : HkConv) (ws : List (Fld × Nat) := []) : State :=
  { inMode mServe ((Reg.HK_SEQ_EN 0 0, 1) :: (Reg.HK_SEQ_EN 0 1, 1) :: (Reg.HK_SEQ_TRIG 0 1, 1) :: ws) with hk := { convs := [(0, x)] } }

/-- Bias output 31 so, in state `n`. -/
def biasS (n : Nat) (x : BiasS := {}) : State := { inMode mServe [(Reg.BIAS_STATUS_STATE 31, n)] with hk := { bias := [(31, x)] } }

theorem witness_HousekeepingAndTemperature_triggers :
    (hkHostMode State.reset = false ∧ rd (hkS {}) (Reg.HK_SEQ_TRIG 0 0) = 0 ∧ rd (hkS {}) (Reg.HK_SEQ_TRIG 0 1) = 1 ∧ hkHostMode (hkS {}) = true ∧ on (hkS {}) (Reg.HK_SEQ_EN 0 0) = true) ∧
    on (hkS {} [(Reg.HK_SEQ_BUSY 0 0, 1)]) (Reg.HK_SEQ_BUSY 0 0) = true ∧ rd (hkS {}) (Reg.HK_SEQ_OVERRUN 0 0) = 0 ∧ Room (hkS {}) ∧
    ((hkS { run := some (0, 1, 0) }).conv 0).run.isSome = true ∧
    (let x := (hkS { powered := true }).conv 0; x.run = none ∧ x.powered = true ∧ x.starting = false ∧ x.phase = 0 ∧ x.susp = none ∧ x.pend = []) ∧
    hkMode State.reset = false ∧ (hkMode (hkS {}) = true ∧ ((hkS {}).conv 0).cond ≠ 2 ∧ ((hkS {}).conv 0).powered = false) ∧
    (let x := (hkS { starting := true, phase := 1 }).conv 0; x.starting = true ∧ x.run = none ∧ x.phase = 1) ∧
    (let s := hkS { run := some (0, 0, 0), phase := 1, powered := true } [(Reg.HK_SEQ_LEN 0 0, 1)]; (s.conv 0).run = some (0, 0, 0) ∧ 0 < rd s (Reg.HK_SEQ_LEN 0 0) ∧
      (s.conv 0).phase = 1 ∧ (s.conv 0).powered = true ∧ (s.conv 0).starting = false) ∧
    (let s := hkS { run := some (0, 2, 16) } [(Reg.HK_SEQ_LEN 0 2, 15)]; rd s (Reg.HK_SEQ_LEN 0 2) < 16 ∧ (s.conv 1).cond ≠ 2 ∧ (s.conv 1).phase ≠ 4) ∧
    ((({ hkS {} with hk := { convs := [(1, { phase := 4 })] } } : State).conv 1).phase = 4) ∧
    (let s := hkS { run := some (0, 1, 1) }; rd s (Reg.HK_SEQ_LEN 0 1) < 1 ∧ (s.conv 0).phase = 0 ∧ (s.conv 0).starting = false ∧ (s.conv 0).susp = none ∧ (s.conv 0).pend = []) ∧
    (let s := { hkS {} with hk := { convs := [(0, { run := some (0, 3, 16) }), (1, { done3 := true })] } }; (s.conv 0).run = some (0, 3, 16) ∧ rd s (Reg.HK_SEQ_LEN 0 3) < 16 ∧
      (s.conv 1).done3 = true ∧ ((rd s (Reg.HK_RESULT_VALUE 0 3 0) : Int) - (rd s (Reg.HK_RESULT_VALUE 1 3 0) : Int)).natAbs ≤ rd s Reg.HK_CTRL_XCHK_TOL) ∧
    (let s := hkS {} [(Reg.HK_RESULT_VALUE 0 3 0, 4095), (Reg.HK_RESULT_VALUE 1 3 1, 0xCCD)]; let tol := rd s Reg.HK_CTRL_XCHK_TOL;
      tol < ((rd s (Reg.HK_RESULT_VALUE 0 3 0) : Int) - (rd s (Reg.HK_RESULT_VALUE 1 3 0) : Int)).natAbs ∧ tol < ((rd s (Reg.HK_RESULT_VALUE 0 3 1) : Int) - 0xCCD).natAbs ∧
      ((rd s (Reg.HK_RESULT_VALUE 1 3 1) : Int) - 0xCCD).natAbs ≤ tol) := by unfold Room; decide +kernel

theorem witness_HousekeepingAndTemperature_outputs :
    (on State.reset (Reg.HK_SEQ_EN 0 0) = false ∧ (State.reset.conv 0).cond ≠ 2 ∧
      ((List.range (rd State.reset (Reg.HK_SEQ_LEN 0 0) + 1)).all fun e => muxOk (rd State.reset (Reg.HK_ENTRY0_MUX 0 0 e)) && !on State.reset (Reg.HK_ENTRY0_LIM_EN 0 0 e)) = true ∧
      muxOk (rd (st [(Reg.HK_ENTRY0_MUX 0 0 0, 0x1C)]) (Reg.HK_ENTRY0_MUX 0 0 0)) = false ∧ ((hkS { cond := 2 }).conv 0).cond = 2) ∧
    modeOf (inMode mDiag) = mDiag ∧ modeOf (inMode mServe) ≠ mIdle ∧ on State.reset Reg.HK_STATUS_SELFTEST_BUSY = false ∧
    (on (st [(Reg.HK_STATUS_SELFTEST_BUSY, 1)]) Reg.HK_STATUS_SELFTEST_BUSY = true ∧
      let l : List (BitVec 12) := (List.range 16).map fun n => BitVec.ofNat 12 (132 + 256 * n);
      (∀ n < 16, (((l.getD n 0).toNat : Int) - (128 + 256 * n : Nat)).natAbs ≤ 4) ∧ 4 < ((((133#12) : BitVec 12).toNat : Int) - (128 : Nat)).natAbs) ∧
    releasing escS = true ∧ (releasing (inMode mIdle) = false ∧ shadowChanged (inMode mIdle) hkGroup = false ∧ (inMode mIdle).hk.codeWr = [] ∧ (inMode mIdle).hk.dutyWr = []) ∧
    (let s := stSh [(Reg.BIAS_CFG0_CODE 31, 7)] (inMode mIdle); shadowChanged s hkGroup = true ∧ ∀ j < 32, sinePairOk s j = true) ∧
    (let s := stSh [(Reg.BIAS_CFG0_SINE_EN 31, 1), (Reg.BIAS_CFG1_AMP 31, 7), (Reg.BIAS_CFG0_CODE 31, 6)] (inMode mIdle); shadowChanged s hkGroup = true ∧ sinePairOk s 31 = false) ∧
    (State.reset.bias 31).loaded = false ∧ (let s := biasS 1 { loaded := true }; (s.bias 31).loaded = true ∧ rd s (Reg.BIAS_STATUS_STATE 31) ≠ 5 ∧ (s.bias 31).change = false) ∧
    2 ≤ rd (st [(Reg.BIAS_CFG0_FAULT_ACT 31, 2)]) (Reg.BIAS_CFG0_FAULT_ACT 31) ∧ ((biasS 1 { change := true }).bias 31).change = true ∧
    rd (biasS 4) (Reg.BIAS_STATUS_STATE 31) = 4 ∧ ({ State.reset with fuse := { grade := 3 } } : State).fuse.grade ≠ 1 ∧
    (let s := { inMode mServe with units := [(127, { tx := { started := true } })], hk := { pwm := [(127, { duty := 4031, strikes := 2 })] } }; s.fuse.grade = 1 ∧ pwmZero s 127 = false ∧
      64 ≤ (s.pwmOf 127).duty ∧ (s.pwmOf 127).duty ≤ 4031 ∧ 2 ≤ (s.pwmOf 127).strikes ∧ rd s (Reg.PWM_DUTY_FAULT 127) = 0) := by decide +kernel

/-- In SENTINEL, or BRUMATE, with the sampling cluster's tile in state `d`. -/
def sleepS (m d : Nat) (ws : List (Fld × Nat) := []) : State :=
  { inMode m ((Reg.PWR_DOM_STATE 8, d) :: ws) with boot := { img := some { schedule := [(0, 0, mIdle), (9, 1, mSentinel)] } } }

theorem witness_HousekeepingAndTemperature_sensors :
    sampled heldS = false ∧ sampled (inMode mServe) = true ∧
    (sensorEnabled (inMode mServe) 21 = true ∧ on (inMode mServe) (Reg.THERM_SENSOR_FAILED 21) = false ∧ -550 ≤ (BitVec.ofInt 16 (-550)).toInt ∧ (1500#16).toInt ≤ 1500 ∧
      (BitVec.ofInt 16 (-551)).toInt < -550 ∧ 1500 < (1501#16).toInt ∧ (State.reset.hk.apart.get 15 0 < 10000)) ∧
    (let s := { inMode mServe with hk := { outside := [(21, 1)] } }; 1 ≤ s.hk.outside.get 21 0) ∧
    (let s := inMode mServe [(Reg.THERM_STATUS_LEVEL, 2), (Reg.THERM_STATUS_TJ, 1150), (Reg.THERM_STATUS_STEP, 2)]; rd s Reg.THERM_STATUS_LEVEL = 2 ∧
      1150 ≤ rdI s Reg.THERM_STATUS_TJ ∧ rd s Reg.THERM_STATUS_STEP < 3) ∧
    (let s := inMode mServe [(Reg.THERM_STATUS_STEP, 3)]; rd s Reg.THERM_STATUS_LEVEL < 2 ∧ 0 < rd s Reg.THERM_STATUS_STEP ∧ rd s Reg.THERM_STATUS_STEP ≤ 3) ∧
    rd State.reset Reg.THERM_STATUS_STEP = 0 ∧ sleeping (inMode mServe) = false ∧ sleeping (sleepS mBrumate domOff) = true ∧ (1249#16).toInt < 1250 ∧ 1250 ≤ (1250#16).toInt ∧
    (-500 ≤ (BitVec.ofInt 16 (-500)).toInt ∧ (1400#16).toInt ≤ 1400 ∧ 1400 < (1401#16).toInt ∧ (1401#16).toInt ≤ 1500 ∧ (BitVec.ofInt 16 (-501)).toInt < -500 ∧
      on (inMode mServe) (Reg.THERM_SENSOR_FAILED 20) = false) := by decide +kernel

/-! ### Witnesses: power, sleep and supply -/

/-- A sleep vote for `m` runs, with these voters accepted. -/
def voteS (m : Nat) (acc : List Nat) (ws : List (Fld × Nat) := []) : State :=
  { inMode mIdle ([(Reg.PWR_STATUS_VOTE, 1), (Reg.PWR_STATUS_SLEEP_PEND, 1), (Reg.MODE_STATUS_BUSY, 1), (Reg.MODE_STATUS_TARGET, m)] ++ ws) with
    power := { target := m, accepted := acc } }

/-- An entry of the mode schedule in `mode`. -/
def schedS (m : Nat) (ws : List (Fld × Nat) := []) : State := { inMode m ws with boot := { img := some { schedule := [(0, 0, mIdle), (9, 1, mSentinel)] } } }

theorem witness_PowerSleepAndSupply_votes :
    (let s := inMode mIdle [(Reg.PWR_DOM_STATE 11, domOn), (Reg.PWR_DOM_STATE 2, domOn)]; ∀ d ∈ [11, 2], modeOf s = mIdle ∧ domState s d = domOn ∧ domEnabled s d = true ∧ domainUsed s d = false) ∧
    modeOf State.reset ≠ mIdle ∧ packageHeld heldS = true ∧
    (let s := inMode mIdle [(Reg.PWR_DOM_STATE 2, domPowerDown), (Reg.PWR_DOM_STATE 11, domQuiesced)]; packageHeld s = false ∧ domFailed s 2 = false ∧ domEnabled s 11 = true ∧
      domState s 2 = domPowerDown ∧ domState s 11 = domQuiesced ∧ 19 - 12 ∉ s.power.woken) ∧
    (modeBusy (schedS mIdle [(Reg.MODE_STATUS_BUSY, 1)]) = true ∧ modeOf (schedS mIdle) ≠ mBoot) ∧ scheduleEntry (schedS mIdle) 2 = none ∧
    (scheduleEntry (schedS mIdle) 1 = some (9, 1, mSentinel) ∧ modeBusy (schedS mIdle) = false ∧ on (schedS mIdle) Reg.PWR_STATUS_SLEEP_PEND = false) ∧
    (scheduleEntry (schedS mIdle) 0 = some (0, 0, mIdle) ∧ 0 ∉ (schedS mIdle).power.acted ∧ on (schedS mIdle [(Reg.PWR_STATUS_SLEEP_PEND, 1)]) Reg.PWR_STATUS_SLEEP_PEND = true) ∧
    (modeOf (schedS mServe) ≠ mIdle ∧ modeOf (schedS mServe) ≠ mSentinel ∧ modeOf (schedS mServe) ≠ mBrumate) ∧ voting State.reset = false ∧
    (voting (voteS mBrumate []) = true ∧ (voteS mBrumate []).power.accepted.contains 4 = false ∧ voterRefuses (voteS mBrumate []) 4 = false ∧ (voteS mBrumate []).power.due = []) ∧
    voterRefuses { voteS mBrumate [] with sec := { job := some (1, 0, []) } } 4 = true ∧
    (let s := voteS mBrumate [0, 1, 2, 3, 4, 5]; voterRefuses s 6 = false ∧ s.power.target = mBrumate ∧ ∀ k < 8, s.power.accepted.contains k = true ∨ k = 6 ∨ (k = 7 ∧ s.power.target = mBrumate)) ∧
    (let s := inMode mIdle [(Reg.PWR_STATUS_VOTE, 3), (Reg.PWR_STATUS_SLEEP_PEND, 1)]; rd s Reg.PWR_STATUS_VOTE = 3 ∧ on s Reg.PWR_STATUS_SLEEP_PEND = true ∧ modeBusy s = false) ∧
    on State.reset Reg.PWR_STATUS_SLEEP_PEND = false := by decide +kernel

theorem witness_PowerSleepAndSupply_wakes :
    (let s := sleepS mSentinel domRetain; modeOf s = mSentinel ∧ domState s (8 + sentCluster s / 4) = domRetain ∧ domFailed s 8 = false ∧ domFailed s (12 + sentCluster s / 2) = false ∧
      packageHeld s = false ∧ sentCluster s < 16) ∧
    (let s := sleepS mSentinel domOn; sampling s = true ∧ loState s (sentCluster s) ≠ loLocked ∧ detected s [] = none) ∧
    (let s := sleepS mSentinel domOn [(Reg.CLUSTER_LO_STATUS_STATE 0, loLocked), (Reg.PWR_SENT_SENT_UNITS, 1), (Reg.PWR_SENT2_SENT_THR, 0)]; sampling s = true ∧ sleeping s = true ∧
      loState s (sentCluster s) = loLocked ∧ (detected s [List.replicate 64 (0, true)]).isSome = true ∧ essentialFailed s = false) ∧
    sampling State.reset = false ∧ sleeping State.reset = false ∧ (sleeping (sleepS mBrumate domOff) = true ∧ essentialFailed (sleepS mBrumate domOff) = false) ∧
    on (sleepS mBrumate domOff [(Reg.PWR_BRUM_WAKE_PIN_EN, 1)]) Reg.PWR_BRUM_WAKE_PIN_EN = true ∧ rd (sleepS mBrumate domOff [(Reg.PWR_BRUM_BRUM_TIMER, 1)]) Reg.PWR_BRUM_BRUM_TIMER ≠ 0 ∧
    scheduleWakes (sleepS mBrumate domOff) 1 = true ∧ scheduleWakes (sleepS mBrumate domOff) 2 = false ∧
    (let s := inMode mIdle [(Reg.PWR_DOM_STATE 11, domQuiesced)]; packageHeld s = false ∧ modeOf s ≠ mBoot ∧ domState s 11 = domQuiesced ∧ wakeStepOk 11 3 = true ∧ domFailed s 11 = false ∧
      domEnabled s 11 = true) ∧ wakeStepOk 1 0 = false := by decide +kernel

theorem witness_PowerSleepAndSupply_supply :
    (packageHeld (inMode mIdle) = false ∧ modeOf (inMode mIdle) < 8 ∧ railOn (inMode mIdle [(Reg.PWR_DOM_STATE 8, domOn)]) 0 = true ∧ on (inMode mIdle [(Reg.PWR_AVS_EN 0, 1)]) (Reg.PWR_AVS_EN 0) = true) ∧
    State.reset.power.avs.find? (fun p => p.1 == 0) = none ∧
    (let s := { inMode mIdle with power := { avs := [(4, (700, 3))] } }; s.power.avs.find? (fun p => p.1 == 4) = some (4, 700, 3)) ∧ State.reset.rst.mtpPulse = false ∧
    (stageOf (inMode mServe) < 2 ∧ modeOf (inMode mServe) ≠ mSentinel ∧ modeOf (inMode mServe) ≠ mBrumate ∧ stageOf (inMode mServe [(Reg.PWR_STATUS_STAGE, 5)]) = 5) ∧
    stageOf State.reset = 0 ∧ (let s := inMode mServe [(Reg.PWR_STATUS_STAGE, 2)]; packageHeld s = false ∧ 0 < stageOf s ∧ stageOf s ≤ 5 ∧ stageOf s = 2) ∧ Room (inMode mServe) ∧
    (let s := inMode mServe [(Reg.BOOT_STRAPS_CLKSEL, 0)]; refNominal s ≠ 0 ∧ 1 ∉ s.rst.badClocks ∧ 0 ∉ s.rst.badClocks ∧
      10 * (100 * ((983#16).toNat : Int) - refNominal s).natAbs ≤ refNominal s ∧ 10 * (100 * ((3200#16).toNat : Int) - 320000).natAbs ≤ 320000 ∧
      10 * (100 * ((400#16).toNat : Int) - 40000).natAbs ≤ 40000 ∧ ¬10 * (100 * ((0#16).toNat : Int) - refNominal s).natAbs ≤ refNominal s) := by unfold Room; decide +kernel

/-! ### Witnesses: security services -/

/-- A service with this request waits in the mailbox, asked for by `role`. -/
def jobS (m sv role : Nat) (req : List Nat) (ws : List (Fld × Nat) := []) : State := { inMode m ws with sec := { job := some (sv, role, req) } }

theorem witness_SecurityServices :
    State.reset.sec.job = none ∧ (jobS mIdle 0x04 0 []).sec.job = some (0x04, 0, []) ∧ secError (jobS mIdle 0x04 0 [] [(Reg.SEC_STATUS_STATE, 2)]) = true ∧
    secError (jobS mIdle 0x04 0 []) = false ∧ ((some 96 : Option Nat).any (· != ([1] : List Nat).length) = true) ∧ ([mIdle, mSafe].contains (modeOf (jobS mServe 0x10 0 [])) = false) ∧
    (modeOf (jobS mIdle 0x02 0 []) = mIdle ∧ packageHeld (jobS mIdle 0x02 0 []) = false) ∧
    (let q := [7, 2, 3, 0] ++ List.replicate 232 1; q.length = 236 ∧
      (decide (q.getD 0 0 < 8) && (q.getD 1 0 == 1 || q.getD 1 0 == 2) && decide (q.getD 2 0 < 4) && q.getD 3 0 == 0) = true ∧ (jobS mSafe 0x10 0 q).sec.job = some (0x10, 0, q)) ∧
    (([7, 0, 0, 0] : List Nat).length = 4 ∧ (([7, 0, 0, 0] : List Nat).drop 1).all (· == 0) = true ∧ 8 ≤ ([8, 0, 0, 0] : List Nat).getD 0 0) ∧
    ((jobS mIdle 0x20 2 []).boot.img = none ∧ (let s := { jobS mIdle 0x20 2 [] [(Reg.BOOT_STATUS_SLOT, 0)] with boot := { img := some { rollback := 1 } } }; s.boot.img = some { rollback := 1 } ∧
      rd s Reg.BOOT_STATUS_SLOT ≠ 2 ∧ rd s Reg.SEC_MIN_VER_MIN_VER < 1 ∧ s.sec.copies < 128)) ∧
    (let s := { jobS mIdle 0x20 2 [] with boot := { img := some {} } }; ({} : ImageS).rollback ≤ rd s Reg.SEC_MIN_VER_MIN_VER) ∧
    (ofBytes [4, 0] = 1024 ∧ 1024 < ofBytes [4, 1] ∧ ofBytes [0, 0] = 0) ∧
    (let s := { inMode mDiag with sec := { challenge := some [5] } }; s.sec.challenge = some [5] ∧ secError s = false ∧ modeOf s = mDiag) ∧
    (modeOf (inMode mServe) ≠ mIdle ∧ modeOf (inMode mServe) ≠ mDiag ∧ modeOf (inMode mServe) ≠ mSafe) ∧ State.reset.fuse.tamperEn = 0 ∧
    ({ State.reset with fuse := { tamperEn := 1 } } : State).fuse.tamperEn ≠ 0 := by decide +kernel

/-! ### Well-formedness: an ill-formed command for each check -/

/-- A packet of 4,041 payload bytes, one more than a pad holds (R242). -/
def longP : Packet := pkt (List.replicate 4041 0)

theorem test_long_packets_are_ill_formed : ∀ c ∈ [Instr.setMode longP, .reset longP, .sched longP, .weights longP, .dlData longP, .write longP, .read longP none 0,
    .ringPost 0 longP, .ringStatus 0 longP, .event longP, .imageWrite longP, .imageCommit longP, .imageAbort longP, .imageStatus longP, .forwardUpstream 0 false longP false,
    .accessWakeTimeout longP true 0, .forwardDownstream 0 longP 0, .unknownOpcode 0 longP], c.wf = false := by decide +kernel

theorem test_full_packet_is_well_formed : (Instr.sched (pkt (List.replicate 4040 0))).wf = true := by decide +kernel

theorem test_other_ill_formed_commands :
    (∀ m : SymMeas, (Instr.symbolBoundary [m, m]).wf = false) ∧ (Instr.adaptFitDone 0 0 []).wf = false ∧ (Instr.preWake 2 8).wf = false ∧ (Instr.pathWakeReady 2 8).wf = false ∧
    (Instr.rxSymbolDone 0 0 0 (List.replicate 129 []) 0).wf = false ∧ (Instr.chorusHeader [0]).wf = false ∧ (Instr.chorusPayloadEnd (List.replicate 67 0)).wf = false ∧
    (Instr.skewDone []).wf = false ∧ (Instr.hkEntryDone 0 []).wf = false ∧ (Instr.thermSample (List.replicate 21 0) false).wf = false := by
  refine ⟨fun m => by simp [Instr.wf], ?_⟩; decide +kernel

theorem test_other_well_formed_commands :
    (Instr.symbolBoundary []).wf = true ∧ (Instr.adaptFitDone 0 0 (List.replicate 973 0)).wf = true ∧ (Instr.preWake 2 7).wf = true ∧ (Instr.chorusHeader [0, 0, 0, 0, 0]).wf = true ∧
    (Instr.chorusPayloadEnd (List.replicate 66 0)).wf = true ∧ (Instr.skewDone (List.replicate 16 0)).wf = true ∧ (Instr.thermSample (List.replicate 22 0) false).wf = true := by
  decide +kernel

/-! ### Small steps: results that the spec gives -/

/-- What a next state shows. -/
def shows (o : Host.Outcome State Fault Refusal) (p : State → Bool) : Bool :=
  match o with
  | .next t => p t
  | _ => false

/-- R55: the check value of the CRC-32 of IEEE 802.3 over "123456789". -/
theorem test_crc32 : crc32 [0x31, 0x32, 0x33, 0x34, 0x35, 0x36, 0x37, 0x38, 0x39] = 0xCBF43926 := by decide +kernel

/-- Table 1.5: SET_MODE of SERVE in IDLE begins a transition, and is answered with MODE_STATUS. -/
theorem test_set_mode_serve : shows (exec (.setMode (pkt [3, 0, 0, 0, 0, 0, 0, 0] false true)) upS) (fun t => modeBusy t && modeTarget t == mServe &&
    (t.link.out.map fun o => (o.op, o.aux)) == [(0x71, 0)]) = true := by decide +kernel

/-- R70: an overload with OVLD_EN takes the gain index down. -/
theorem test_overload_steps_down : shows (exec (.rxOvld 0) (rxS [(Reg.UNIT_RX_GAIN_OVLD_EN 0, 1), (Reg.UNIT_RX_STATUS_GAIN_IDX 0, 10)])) (fun t =>
    on t (Reg.UNIT_RX_STATUS_OVLD_NOW 0) && decide (10 < rd t (Reg.UNIT_RX_STATUS_GAIN_IDX 0))) = true := by decide +kernel

/-- R257: a word written by WRITE lies in the memory most significant byte last, and an unaligned register address is answered 0x03. -/
theorem test_write_word : shows (exec (.write (writeP 0)) (upIn mIdle [(Reg.PWR_DOM_STATE 2, domOn)])) (fun t => memWord t 0x40000000 == 1 &&
    (t.link.out.map fun o => (o.op, o.aux)) == [(0x20, 0)]) = true := by decide +kernel

theorem test_write_unaligned : shows (exec (.write (pkt [0, 0, 0, 0xF0, 0, 0, 0, 1, 0, 0, 0, 1] false true)) upS) (fun t => t.mem == [] &&
    (t.link.out.map fun o => (o.op, o.aux)) == [(0x20, 3)]) = true := by decide +kernel

/-- R124: an entry sent in IDLE is refused with cause 0x4 and counted. -/
theorem test_sched_in_idle : shows (exec (.sched schedP) upS) (fun t => rd t Reg.ESC_STATUS_REJ_CAUSE == 4 && rd t Reg.ESC_COUNT_SCHED_REJ == 1 && t.air.queue == []) = true := by
  decide +kernel

/-- Table 9.6: ADD wraps, with Z and C set; MOVHI keeps the low half. -/
theorem test_newt_add_wraps : shows (exec (.nAdd 0 false) (coreS false 0x10012300 0 { x := [(2, 0xFFFFFFFF), (3, 1)] })) (fun t =>
    let c := t.ctx 0 false; c.getX 1 == 0 && c.z && c.c && !c.n && !c.v && c.pc == 0x101) = true := by decide +kernel

theorem test_newt_movhi : shows (exec (.nMovhi 0 false) (coreS false 0x28101234 0 { x := [(1, 0x5678)] })) (fun t => (t.ctx 0 false).getX 1 == 0x12345678) = true := by decide +kernel

/-- R214: a reserved class raises ILLEGAL in the user kernel, code 1. -/
theorem test_newt_illegal : shows (exec (.nNop 0 true) (coreS true 0x80000000 0)) (fun t => uState t 0 == uFault && rd t (Reg.NEWT_USER_FAULT_CODE 0) == 1) = true := by decide +kernel

/-- Table 10.4: a lane in SIGDET that sees signal goes to CDR. -/
theorem test_lane_sigdet : shows (exec (.laneSigdet 3 7) (portS pTrain lnSigdet)) (fun t => laneSt t 3 7 == lnCdr) = true := by decide +kernel

/-- R378, R379: a tamper erases the keys and resets. -/
theorem test_tamper : shows (exec (.tamper 1) keyedS) (fun t => t.sec.slots == [] && packageHeld t && modeOf t == mBoot) = true := by decide +kernel

/-- Table 12.8: SNAP takes the balance whole. -/
theorem test_snap : shows (exec .snap { inMode mIdle with time := { bal := (5 * 10 ^ 9 + 7) * 2 ^ 40 } }) (fun t =>
    rd t Reg.TIME_SNAP1_SEC_LO == 5 && rd t Reg.TIME_SNAP2_NS == 7) = true := by decide +kernel

end Sys2Proof.Tests
end

/-! PROOFS. Coefficient writes (R77), and what a write that is not made leaves behind (R12). -/

namespace Sys2Proof.Proofs

open Sys2Proof.Machine Sys2Proof.Laws

/-! ### A write that is not made (R9, R12) -/

/-- With both flags clear, the place and the kind of the error are latched. -/
theorem cfgIgnored_of_clear {s : State} (addr : Nat) (hi : rd s Reg.CFG_STATUS_CFG_IGNORED = 0) (hp : rd s Reg.CFG_STATUS_CFG_PAIR_ERR = 0) :
    cfgIgnored s addr =
      raise (wr (wr (wr s Reg.CFG_ERR_ADDR_ADDR addr) Reg.CFG_STATUS_ERR_KIND 0) Reg.CFG_STATUS_CFG_IGNORED 1) 0x1001 addr := by
  simp [cfgIgnored, cfgError, hi, hp, b2n]

/-- With a flag set, only the overflow is recorded. -/
theorem cfgIgnored_of_set {s : State} (addr : Nat) (h : rd s Reg.CFG_STATUS_CFG_IGNORED ≠ 0 ∨ rd s Reg.CFG_STATUS_CFG_PAIR_ERR ≠ 0) :
    cfgIgnored s addr = raise (wr (wr s Reg.CFG_STATUS_ERR_OVF 1) Reg.CFG_STATUS_CFG_IGNORED 1) 0x1001 addr := by
  have hc : ¬(rd s Reg.CFG_STATUS_CFG_IGNORED = 0 ∧ rd s Reg.CFG_STATUS_CFG_PAIR_ERR = 0) := by omega
  simp [cfgIgnored, cfgError, hc]

/-- Either both flags of R12 are clear, or one of them is set. -/
theorem cfgFlags_clear_or_set (s : State) :
    (rd s Reg.CFG_STATUS_CFG_IGNORED = 0 ∧ rd s Reg.CFG_STATUS_CFG_PAIR_ERR = 0) ∨
      (rd s Reg.CFG_STATUS_CFG_IGNORED ≠ 0 ∨ rd s Reg.CFG_STATUS_CFG_PAIR_ERR ≠ 0) := by
  omega

theorem rd_cfgIgnored_flag (s : State) (addr : Nat) : rd (cfgIgnored s addr) Reg.CFG_STATUS_CFG_IGNORED = 1 := by
  have hev : ∀ e ∈ eventFields, Reg.CFG_STATUS_CFG_IGNORED.key ≠ e.key := by decide
  rcases cfgFlags_clear_or_set s with ⟨hi, hp⟩ | h
  · rw [cfgIgnored_of_clear addr hi hp, rd_raise _ _ _ hev, rd_wr]; rfl
  · rw [cfgIgnored_of_set addr h, rd_raise _ _ _ hev, rd_wr]; rfl

theorem rd_cfgIgnored_addr_of_clear {s : State} {addr : Nat} (ha : addr < 2 ^ 24) (hi : rd s Reg.CFG_STATUS_CFG_IGNORED = 0)
    (hp : rd s Reg.CFG_STATUS_CFG_PAIR_ERR = 0) : rd (cfgIgnored s addr) Reg.CFG_ERR_ADDR_ADDR = addr := by
  rw [cfgIgnored_of_clear addr hi hp, rd_raise _ _ _ (by decide), rd_wr_ne _ _ (by decide), rd_wr_ne _ _ (by decide), rd_wr]
  exact Nat.mod_eq_of_lt ha

theorem rd_cfgIgnored_kind_of_clear {s : State} (addr : Nat) (hi : rd s Reg.CFG_STATUS_CFG_IGNORED = 0)
    (hp : rd s Reg.CFG_STATUS_CFG_PAIR_ERR = 0) : rd (cfgIgnored s addr) Reg.CFG_STATUS_ERR_KIND = 0 := by
  rw [cfgIgnored_of_clear addr hi hp, rd_raise _ _ _ (by decide), rd_wr_ne _ _ (by decide), rd_wr, Nat.zero_mod]

theorem rd_cfgIgnored_ovf_of_set {s : State} (addr : Nat) (h : rd s Reg.CFG_STATUS_CFG_IGNORED ≠ 0 ∨ rd s Reg.CFG_STATUS_CFG_PAIR_ERR ≠ 0) :
    rd (cfgIgnored s addr) Reg.CFG_STATUS_ERR_OVF = 1 := by
  rw [cfgIgnored_of_set addr h, rd_raise _ _ _ (by decide), rd_wr_ne _ _ (by decide), rd_wr]; rfl

theorem rd_cfgIgnored_addr_of_set {s : State} (addr : Nat) (h : rd s Reg.CFG_STATUS_CFG_IGNORED ≠ 0 ∨ rd s Reg.CFG_STATUS_CFG_PAIR_ERR ≠ 0) :
    rd (cfgIgnored s addr) Reg.CFG_ERR_ADDR_ADDR = rd s Reg.CFG_ERR_ADDR_ADDR := by
  rw [cfgIgnored_of_set addr h, rd_raise _ _ _ (by decide), rd_wr_ne _ _ (by decide), rd_wr_ne _ _ (by decide)]

/-- A write that is not made is one event more (R12). -/
theorem queued_cfgIgnored {s : State} (addr : Nat) (h : Room s) : Queued s (cfgIgnored s addr) 0x1001 addr := by
  rcases cfgFlags_clear_or_set s with ⟨hi, hp⟩ | hset
  · rw [cfgIgnored_of_clear addr hi hp]
    exact queued_raise addr (by simp) (by simp) h (by decide)
  · rw [cfgIgnored_of_set addr hset]
    exact queued_raise addr (by simp) (by simp) h (by decide)

/-- A write that is not made changes its record and the event's fields; unlike a pair error (`frame_cfgError`) it leaves CFG_PAIR_ERR. -/
theorem frame_cfgIgnored {s t : State} {rs : List Fld} {ps : List Part} (addr : Nat)
    (hf : [Reg.CFG_STATUS_CFG_IGNORED, Reg.CFG_STATUS_ERR_OVF, Reg.CFG_STATUS_ERR_KIND, Reg.CFG_ERR_ADDR_ADDR] ⊆ rs)
    (hr : eventRegs ⊆ rs) (hp : Part.events ∈ ps) (h : Frame s t rs ps) : Frame s (cfgIgnored t addr) rs ps := by
  rcases cfgFlags_clear_or_set t with ⟨hi, hpair⟩ | hset
  · rw [cfgIgnored_of_clear addr hi hpair]
    exact frame_raise _ _ hr hp (frame_wr _ (hf (by simp)) (frame_wr _ (hf (by simp)) (frame_wr _ (hf (by simp)) h)))
  · rw [cfgIgnored_of_set addr hset]
    exact frame_raise _ _ hr hp (frame_wr _ (hf (by simp)) (frame_wr _ (hf (by simp)) h))

/-! ### The coefficient registers (Table 3.18) -/

@[simp] theorem coefFld_width (u b k : Nat) : (coefFld u b k).width = 18 := by
  unfold coefFld
  split <;> rfl

theorem coefFld_off_lt (u : Fin 128) (b : Nat) (k : Fin 33) : (coefFld u b k).off < 2 ^ 24 := by
  unfold coefFld
  split
  · show 0x200400 + 0x1000 * u.val + 0x4 * k.val < 2 ^ 24
    omega
  · show 0x200500 + 0x1000 * u.val + 0x4 * k.val < 2 ^ 24
    omega

/-- The coefficients lie above every register of GLOBAL and POOL. -/
theorem le_coefFld_key (u b k : Nat) : 0x200000 * 32 ≤ (coefFld u b k).key := by
  unfold coefFld
  split
  · show _ ≤ (0x200400 + 0x1000 * u + 0x4 * k) * 32 + 0
    omega
  · show _ ≤ (0x200500 + 0x1000 * u + 0x4 * k) * 32 + 0
    omega

/-! ### Coefficient writes (R77) -/

theorem coefWrite_of_made {s : State} {u bank : Nat} (k v : Nat)
    (h : on s (Reg.UNIT_RX_STATUS_STOPPED u) = true ∨
      (on s (Reg.UNIT_RX_STATUS_XFADE u) = false ∧ rd s (Reg.UNIT_RX_STATUS_BANK_ACT u) ≠ bank)) :
    coefWrite s u bank k v = wr s (coefFld u bank k) v := by
  unfold coefWrite
  rw [if_pos (by simpa using h)]

theorem coefWrite_of_not_made {s : State} {u bank : Nat} (k v : Nat) (hs : on s (Reg.UNIT_RX_STATUS_STOPPED u) = false)
    (h : on s (Reg.UNIT_RX_STATUS_XFADE u) = true ∨ rd s (Reg.UNIT_RX_STATUS_BANK_ACT u) = bank) :
    coefWrite s u bank k v = cfgIgnored s (coefFld u bank k).off := by
  unfold coefWrite
  rw [if_neg]
  rcases h with h | h <;> simp [hs, h]

theorem exec_rxCoefWrite (u : Fin 128) (b : Fin 2) (k : Fin 33) (v : BitVec 18) (s : State) :
    exec (.rxCoefWrite u b k v) s = .next (if unitEnabled s u then coefWrite s u b k v.toNat else s) := rfl

/-- A coefficient that is put in is read back, and nothing else differs. -/
theorem wr_coefFld_effect (s : State) (u b k : Nat) (v : BitVec 18) :
    rd (wr s (coefFld u b k) v.toNat) (coefFld u b k) = v.toNat ∧ Frame s (wr s (coefFld u b k) v.toNat) [coefFld u b k] [] := by
  refine ⟨?_, frame_wr _ (List.mem_singleton_self _) (frame_refl ..)⟩
  rw [rd_wr, coefFld_width, Nat.mod_eq_of_lt v.isLt]

/-- A write that is not made leaves every coefficient. -/
theorem rd_coefFld_cfgIgnored (s : State) (u b k addr : Nat) : rd (cfgIgnored s addr) (coefFld u b k) = rd s (coefFld u b k) := by
  have hlow : ∀ f ∈ [Reg.CFG_STATUS_CFG_IGNORED, Reg.CFG_STATUS_ERR_OVF, Reg.CFG_STATUS_ERR_KIND, Reg.CFG_ERR_ADDR_ADDR] ++ eventRegs,
      f.key < 0x200000 * 32 := by decide
  obtain ⟨hregs, -, -⟩ := frame_cfgIgnored (s := s) addr (List.subset_append_left _ eventRegs) (List.subset_append_right _ _)
    (List.mem_singleton_self _) (frame_refl ..)
  exact hregs _ fun f hf => ((hlow f hf).trans_le (le_coefFld_key u b k)).ne'

/-- Settles O19: outside the grade nothing happens; otherwise the two branches of R77, with the record of R12 where the write is not made. -/
theorem coefficientWrites : Obligations.CoefficientWrites := by
  unfold Obligations.CoefficientWrites
  intro s u b k v
  refine ⟨fun hoff => ?_, fun hen => ⟨fun hmade => ?_, fun hrun hbank => ?_⟩⟩
  · rw [exec_rxCoefWrite, hoff]; rfl
  · refine ⟨wr s (coefFld u b k) v.toNat, ?_, wr_coefFld_effect s u b k v⟩
    rw [exec_rxCoefWrite, if_pos hen, coefWrite_of_made _ _ hmade]
  · refine ⟨cfgIgnored s (coefFld u b k).off, ?_, rd_cfgIgnored_flag .., rd_coefFld_cfgIgnored ..,
      fun hi hp => ⟨rd_cfgIgnored_addr_of_clear (coefFld_off_lt u b k) hi hp, rd_cfgIgnored_kind_of_clear _ hi hp⟩,
      fun hset => ⟨rd_cfgIgnored_ovf_of_set _ hset, rd_cfgIgnored_addr_of_set _ hset⟩,
      queued_cfgIgnored _,
      frame_cfgIgnored _ (List.subset_append_left _ eventRegs) (List.subset_append_right _ _) (List.mem_singleton_self _) (frame_refl ..)⟩
    rw [exec_rxCoefWrite, if_pos hen, coefWrite_of_not_made _ _ hrun hbank]

end Sys2Proof.Proofs

/-! PROOFS. Accesses to the table store of a unit (R98). -/

namespace Sys2Proof.Proofs

open Sys2Proof.Machine Sys2Proof.Laws

/-! ### The registers of an access -/

theorem tblAddrWord_key (u : Nat) : (Reg.UNIT_DPD_TBL_ADDR_WORD u).key = (0x200210 + 0x1000 * u) * 32 := rfl

theorem tblAddrAutoInc_key (u : Nat) : (Reg.UNIT_DPD_TBL_ADDR_AUTO_INC u).key = (0x200210 + 0x1000 * u) * 32 + 16 := rfl

theorem shdPend_key (u : Nat) : (Reg.UNIT_DPD_STATUS_SHD_PEND u).key = (0x200204 + 0x1000 * u) * 32 + 1 := rfl

theorem tblData_off_lt (u : Fin 128) : (Reg.UNIT_DPD_TBL_DATA_DATA u).off < 2 ^ 24 := by
  show 0x200214 + 0x1000 * u.val < 2 ^ 24
  omega

/-- A write that is not made leaves every register of the UNIT blocks and above. -/
theorem rd_cfgIgnored_of_le_key (s : State) (addr : Nat) {g : Fld} (hg : 0x200000 * 32 ≤ g.key) : rd (cfgIgnored s addr) g = rd s g := by
  have hlow : ∀ f ∈ [Reg.CFG_STATUS_CFG_IGNORED, Reg.CFG_STATUS_ERR_OVF, Reg.CFG_STATUS_ERR_KIND, Reg.CFG_ERR_ADDR_ADDR] ++ eventRegs,
      f.key < 0x200000 * 32 := by decide
  obtain ⟨hregs, -, -⟩ := frame_cfgIgnored (s := s) addr (List.subset_append_left _ eventRegs) (List.subset_append_right _ _)
    (List.mem_singleton_self _) (frame_refl ..)
  exact hregs g fun f hf => ((hlow f hf).trans_le hg).ne'

/-! ### The advance of WORD -/

/-- The word that WORD selects after an access. -/
def nextWord (s : State) (u : Nat) : Nat :=
  if on s (Reg.UNIT_DPD_TBL_ADDR_AUTO_INC u) then
    if rd s (Reg.UNIT_DPD_TBL_ADDR_WORD u) = 972 then 0 else rd s (Reg.UNIT_DPD_TBL_ADDR_WORD u) + 1
  else rd s (Reg.UNIT_DPD_TBL_ADDR_WORD u)

theorem nextWord_congr {s t : State} {u : Nat} (ha : rd t (Reg.UNIT_DPD_TBL_ADDR_AUTO_INC u) = rd s (Reg.UNIT_DPD_TBL_ADDR_AUTO_INC u))
    (hw : rd t (Reg.UNIT_DPD_TBL_ADDR_WORD u) = rd s (Reg.UNIT_DPD_TBL_ADDR_WORD u)) : nextWord t u = nextWord s u := by
  unfold nextWord on
  rw [ha, hw]

/-- The advance writes WORD or does nothing. -/
theorem wordAdvance_eq_or (s : State) (u : Nat) :
    wordAdvance s u = wr s (Reg.UNIT_DPD_TBL_ADDR_WORD u) (nextWord s u) ∨ wordAdvance s u = s := by
  unfold wordAdvance nextWord
  split
  · exact .inl rfl
  · exact .inr rfl

theorem rd_wordAdvance {s : State} {u : Nat} (hw : rd s (Reg.UNIT_DPD_TBL_ADDR_WORD u) ≤ 972) :
    rd (wordAdvance s u) (Reg.UNIT_DPD_TBL_ADDR_WORD u) = nextWord s u := by
  unfold wordAdvance nextWord
  split
  · refine (rd_wr ..).trans (Nat.mod_eq_of_lt ?_)
    show _ < 1024
    split <;> omega
  · rfl

theorem rd_wordAdvance_ne (s : State) {u : Nat} {g : Fld} (h : g.key ≠ (Reg.UNIT_DPD_TBL_ADDR_WORD u).key) :
    rd (wordAdvance s u) g = rd s g := by
  rcases wordAdvance_eq_or s u with e | e <;> rw [e]
  exact rd_wr_ne s _ h

/-- The advance leaves every register below the UNIT blocks. -/
theorem rd_wordAdvance_of_key_lt (s : State) (u : Nat) {g : Fld} (hg : g.key < 0x200000 * 32) : rd (wordAdvance s u) g = rd s g :=
  rd_wordAdvance_ne s (by rw [tblAddrWord_key]; omega)

@[simp] theorem unit_wordAdvance (s : State) (u v : Nat) : (wordAdvance s u).unit v = s.unit v := by
  rcases wordAdvance_eq_or s u with e | e <;> simp [e]

@[simp] theorem wordAdvance_events (s : State) (u : Nat) : (wordAdvance s u).events = s.events := by
  rcases wordAdvance_eq_or s u with e | e <;> simp [e]

theorem frame_wordAdvance {s t : State} {u : Nat} {rs : List Fld} {ps : List Part} (hf : Reg.UNIT_DPD_TBL_ADDR_WORD u ∈ rs)
    (h : Frame s t rs ps) : Frame s (wordAdvance t u) rs ps := by
  rcases wordAdvance_eq_or t u with e | e <;> rw [e]
  · exact frame_wr _ hf h
  · exact h

/-- What an access does to WORD, when all that comes before the advance leaves TBL_ADDR. -/
theorem rd_wordAdvance_of_same {s t : State} {u : Nat} (hw : rd s (Reg.UNIT_DPD_TBL_ADDR_WORD u) ≤ 972)
    (ha : rd t (Reg.UNIT_DPD_TBL_ADDR_AUTO_INC u) = rd s (Reg.UNIT_DPD_TBL_ADDR_AUTO_INC u))
    (hs : rd t (Reg.UNIT_DPD_TBL_ADDR_WORD u) = rd s (Reg.UNIT_DPD_TBL_ADDR_WORD u)) :
    rd (wordAdvance t u) (Reg.UNIT_DPD_TBL_ADDR_WORD u) = nextWord s u :=
  (rd_wordAdvance (hs.trans_le hw)).trans (nextWord_congr ha hs)

/-! ### A write of a shadow word -/

theorem rd_shdWrite_shdPend (s : State) (u w v : Nat) : rd (shdWrite s u w v) (Reg.UNIT_DPD_STATUS_SHD_PEND u) = 0 := by
  unfold shdWrite
  rw [rd_modTx, rd_wr, Nat.zero_mod]

theorem rd_shdWrite_ne (s : State) {u : Nat} (w v : Nat) {g : Fld} (h : g.key ≠ (Reg.UNIT_DPD_STATUS_SHD_PEND u).key) :
    rd (shdWrite s u w v) g = rd s g := by
  unfold shdWrite
  rw [rd_modTx, rd_wr_ne s _ h]

theorem tx_shdWrite (s : State) (u w v : Nat) :
    ((shdWrite s u w v).unit u).tx = { (s.unit u).tx with shd := (s.unit u).tx.shd.set w 0 (v % 2 ^ 32), checked := false } := by
  simp [shdWrite, State.modTx]

/-- The word that is written is read back. -/
theorem tblWord_shdWrite_same (s : State) (u w : Nat) (v : Word) : tblWord ((shdWrite s u w v.toNat).unit u).tx.shd w = v.toNat := by
  rw [tx_shdWrite]
  exact (get_set ..).trans (Nat.mod_eq_of_lt v.isLt)

theorem tblWord_shdWrite_ne (s : State) (u : Nat) {w k : Nat} (v : Nat) (h : k ≠ w) :
    tblWord ((shdWrite s u w v).unit u).tx.shd k = tblWord (s.unit u).tx.shd k := by
  rw [tx_shdWrite]
  exact get_set_ne _ _ _ _ h

theorem actv_shdWrite (s : State) (u w v : Nat) : ((shdWrite s u w v).unit u).tx.actv = (s.unit u).tx.actv := by
  rw [tx_shdWrite]

theorem frame_shdWrite {s t : State} {u : Nat} (w v : Nat) {rs : List Fld} {ps : List Part} (hf : Reg.UNIT_DPD_STATUS_SHD_PEND u ∈ rs)
    (hp : Part.units ∈ ps) (h : Frame s t rs ps) : Frame s (shdWrite t u w v) rs ps :=
  frame_modTx u _ hp (frame_wr _ hf h)

/-! ### The three outcomes of a write to TBL_DATA -/

theorem tblDataWrite_of_active {s : State} {u : Nat} (v : Nat) (fw : Bool) (hset : on s (Reg.UNIT_DPD_TBL_ADDR_SET u) = true) :
    tblDataWrite s u v fw = wordAdvance s u := by
  simp [tblDataWrite, hset]

theorem tblDataWrite_of_owner {s : State} {u : Nat} (v : Nat) {fw : Bool} (hw : rd s (Reg.UNIT_DPD_TBL_ADDR_WORD u) ≤ 972)
    (hset : on s (Reg.UNIT_DPD_TBL_ADDR_SET u) = false) (hown : fw = true ∨ on s (Reg.UNIT_DPD_CTRL_ADAPT_EN u) = false) :
    tblDataWrite s u v fw = wordAdvance (shdWrite s u (rd s (Reg.UNIT_DPD_TBL_ADDR_WORD u)) v) u := by
  rcases hown with h | h <;> simp [tblDataWrite, hset, hw.not_gt, h]

theorem tblDataWrite_of_host_adapting {s : State} {u : Nat} (v : Nat) (hw : rd s (Reg.UNIT_DPD_TBL_ADDR_WORD u) ≤ 972)
    (hset : on s (Reg.UNIT_DPD_TBL_ADDR_SET u) = false) (had : on s (Reg.UNIT_DPD_CTRL_ADAPT_EN u) = true) :
    tblDataWrite s u v false = wordAdvance (cfgIgnored s (Reg.UNIT_DPD_TBL_DATA_DATA u).off) u := by
  simp [tblDataWrite, hset, hw.not_gt, had]

theorem exec_dpdTblDataAccess_read {u : Fin 128} (fw : Bool) {s : State} (hen : unitEnabled s u = true) :
    exec (.dpdTblDataAccess u none fw) s = .next (wordAdvance s u) := by
  show execDpdTblDataAccess u none fw s = _
  rw [execDpdTblDataAccess, if_pos hen]

theorem exec_dpdTblDataAccess_write {u : Fin 128} (v : Word) (fw : Bool) {s : State} (hen : unitEnabled s u = true) :
    exec (.dpdTblDataAccess u (some v) fw) s = .next (tblDataWrite s u v.toNat fw) := by
  show execDpdTblDataAccess u (some v) fw s = _
  rw [execDpdTblDataAccess, if_pos hen]

/-! ### The accesses -/

/-- The advance alone: a read, and a write to the active table. -/
theorem wordAdvance_effect {s : State} {u : Nat} (hw : rd s (Reg.UNIT_DPD_TBL_ADDR_WORD u) ≤ 972) :
    rd (wordAdvance s u) (Reg.UNIT_DPD_TBL_ADDR_WORD u) = nextWord s u ∧ Frame s (wordAdvance s u) [Reg.UNIT_DPD_TBL_ADDR_WORD u] [] :=
  ⟨rd_wordAdvance hw, frame_wordAdvance (List.mem_singleton_self _) (frame_refl ..)⟩

theorem rd_wordAdvance_shdWrite {s : State} {u : Nat} (w v : Nat) (hw : rd s (Reg.UNIT_DPD_TBL_ADDR_WORD u) ≤ 972) :
    rd (wordAdvance (shdWrite s u w v) u) (Reg.UNIT_DPD_TBL_ADDR_WORD u) = nextWord s u :=
  rd_wordAdvance_of_same hw (rd_shdWrite_ne s _ _ (by rw [tblAddrAutoInc_key, shdPend_key]; omega))
    (rd_shdWrite_ne s _ _ (by rw [tblAddrWord_key, shdPend_key]; omega))

theorem rd_wordAdvance_cfgIgnored {s : State} {u : Nat} (addr : Nat) (hw : rd s (Reg.UNIT_DPD_TBL_ADDR_WORD u) ≤ 972) :
    rd (wordAdvance (cfgIgnored s addr) u) (Reg.UNIT_DPD_TBL_ADDR_WORD u) = nextWord s u :=
  rd_wordAdvance_of_same hw (rd_cfgIgnored_of_le_key s _ (by rw [tblAddrAutoInc_key]; omega))
    (rd_cfgIgnored_of_le_key s _ (by rw [tblAddrWord_key]; omega))

/-- SHD_PEND stays clear over the advance. -/
theorem rd_wordAdvance_shdWrite_shdPend (s : State) (u w v : Nat) :
    rd (wordAdvance (shdWrite s u w v) u) (Reg.UNIT_DPD_STATUS_SHD_PEND u) = 0 :=
  (rd_wordAdvance_ne _ (by rw [tblAddrWord_key, shdPend_key]; omega)).trans (rd_shdWrite_shdPend ..)

/-- Settles O21: a read and a write to the active table are the advance alone; a write by the shadow's owner is `shdWrite`, and one by the host while
the firmware owns the shadow is the record of R12, each before the advance. -/
theorem tableDataAccess : Obligations.TableDataAccess := by
  unfold Obligations.TableDataAccess
  intro s u v fw w next hen hw
  refine ⟨⟨_, exec_dpdTblDataAccess_read fw hen, wordAdvance_effect hw⟩, fun hset hown => ?_, fun hset => ?_, fun hset had => ?_⟩
  · refine ⟨wordAdvance (shdWrite s u w v.toNat) u, ?_, rd_wordAdvance_shdWrite _ _ hw, rd_wordAdvance_shdWrite_shdPend .., ?_, ?_, ?_, ?_⟩
    · rw [exec_dpdTblDataAccess_write v fw hen, tblDataWrite_of_owner _ hw hset hown]
    · rw [unit_wordAdvance, tblWord_shdWrite_same]
    · intro k hk
      rw [unit_wordAdvance, tblWord_shdWrite_ne s u _ hk]
    · rw [unit_wordAdvance, actv_shdWrite]
    · exact frame_wordAdvance (by simp) (frame_shdWrite _ _ (by simp) (by simp) (frame_refl ..))
  · refine ⟨wordAdvance s u, ?_, wordAdvance_effect hw⟩
    rw [exec_dpdTblDataAccess_write v fw hen, tblDataWrite_of_active _ fw hset]
  · refine ⟨wordAdvance (cfgIgnored s (Reg.UNIT_DPD_TBL_DATA_DATA u).off) u, ?_, rd_wordAdvance_cfgIgnored _ hw, ?_, fun hi hp => ⟨?_, ?_⟩,
      fun hflag => ⟨?_, ?_⟩, fun hroom => queued_congr (queued_cfgIgnored _ hroom) (wordAdvance_events ..), ?_⟩
    · rw [exec_dpdTblDataAccess_write v false hen, tblDataWrite_of_host_adapting _ hw hset had]
    · rw [rd_wordAdvance_of_key_lt _ _ (by decide), rd_cfgIgnored_flag]
    · rw [rd_wordAdvance_of_key_lt _ _ (by decide), rd_cfgIgnored_addr_of_clear (tblData_off_lt u) hi hp]
    · rw [rd_wordAdvance_of_key_lt _ _ (by decide), rd_cfgIgnored_kind_of_clear _ hi hp]
    · rw [rd_wordAdvance_of_key_lt _ _ (by decide), rd_cfgIgnored_ovf_of_set _ hflag]
    · rw [rd_wordAdvance_of_key_lt _ _ (by decide), rd_cfgIgnored_addr_of_set _ hflag]
    · exact frame_wordAdvance (by simp) (frame_cfgIgnored _ (by simp) (List.subset_append_right _ _) (List.mem_singleton_self _) (frame_refl ..))

end Sys2Proof.Proofs

/-! PROOFS. Words of the addressed memories (R5). -/

namespace Sys2Proof.Proofs

open Sys2Proof.Machine Sys2Proof.Laws

theorem memByte_setMemByte (s : State) (a v : Nat) : memByte (setMemByte s a v) a = v % 256 := by
  simp [memByte, setMemByte, get_set]

theorem memByte_setMemByte_ne (s : State) {a k : Nat} (v : Nat) (h : k ≠ a) : memByte (setMemByte s a v) k = memByte s k := by
  simp only [memByte, setMemByte, get_set_ne _ _ _ _ h]

theorem memByte_lt (s : State) (a : Nat) : memByte s a < 256 := BitVec.isLt _

theorem memByte_congr {s t : State} (h : t.mem = s.mem) (a : Nat) : memByte t a = memByte s a := by
  unfold memByte
  rw [h]

theorem memWord_congr {s t : State} (h : t.mem = s.mem) (a : Nat) : memWord t a = memWord s a := by
  simp only [memWord, memByte_congr h]

theorem memWord_lt (s : State) (a : Nat) : memWord s a < 2 ^ 32 := by
  have h0 := memByte_lt s a
  have h1 := memByte_lt s (a + 1)
  have h2 := memByte_lt s (a + 2)
  have h3 := memByte_lt s (a + 3)
  unfold memWord
  omega

/-- A stored word reads back, in 32 bits. -/
theorem memWord_setMemWord (s : State) (a v : Nat) : memWord (setMemWord s a v) a = v % 2 ^ 32 := by
  simp (disch := omega) only [memWord, setMemWord, setMemBytes, Nat.add_assoc, Nat.reduceAdd, memByte_setMemByte, memByte_setMemByte_ne]
  omega

/-- A stored word changes its own four bytes only. -/
theorem memByte_setMemWord_out (s : State) {a k : Nat} (v : Nat) (h : k < a ∨ a + 4 ≤ k) : memByte (setMemWord s a v) k = memByte s k := by
  simp only [setMemWord, setMemBytes]
  iterate 4 rw [memByte_setMemByte_ne _ _ (by omega)]

theorem frame_setMemByte {s t : State} {rs : List Fld} {ps : List Part} (a v : Nat) (hp : Part.mem ∈ ps) (h : Frame s t rs ps) :
    Frame s (setMemByte t a v) rs ps := by
  refine frame_part h rfl rfl rfl fun p hq => ?_
  cases p
  case mem => exact absurd hp hq
  all_goals rfl

theorem frame_setMemWord {s t : State} {rs : List Fld} {ps : List Part} (a v : Nat) (hp : Part.mem ∈ ps) (h : Frame s t rs ps) :
    Frame s (setMemWord t a v) rs ps :=
  frame_setMemByte _ _ hp (frame_setMemByte _ _ hp (frame_setMemByte _ _ hp (frame_setMemByte _ _ hp h)))

end Sys2Proof.Proofs

/-! PROOFS. One instruction of a Newt context that ends in sequence (R211, R212, R220): what it leaves of the context and of the rest. -/

namespace Sys2Proof.Proofs

open Sys2Proof.Machine Sys2Proof.Laws

/-! ### Contexts -/

@[simp] theorem newt_modNewt (s : State) (g : Nat) (f : NewtS → NewtS) : (s.modNewt g f).newt g = f (s.newt g) := get_set ..

theorem ctx_congr {s t : State} (h : t.newts = s.newts) (g : Nat) (user : Bool) : t.ctx g user = s.ctx g user := by
  unfold State.ctx State.newt
  rw [h]

@[simp] theorem ctx_wr (s : State) (f : Fld) (v g : Nat) (user : Bool) : (wr s f v).ctx g user = s.ctx g user := ctx_congr (wr_newts ..) g user

/-- The view takes the registers; the contexts keep theirs. -/
@[simp] theorem ctx_takeView (s : State) (g : Nat) (user : Bool) : (takeView s g).ctx g user = s.ctx g user := by
  simp only [State.ctx, takeView, newt_modNewt]

theorem frame_takeView {s t : State} {rs : List Fld} {ps : List Part} (g : Nat) (hp : Part.newts ∈ ps) (h : Frame s t rs ps) :
    Frame s (takeView t g) rs ps := frame_modNewt g _ hp h

theorem frame_rollLoad (s : State) (g : Nat) : Frame s (rollLoad s g) (newtRegs g) [.newts] := by
  unfold rollLoad
  refine frame_ite (frame_refl ..) ?_
  exact frame_wr _ (by simp [newtRegs]) (frame_wr _ (by simp [newtRegs]) (frame_modNewt g _ (by simp) (frame_refl ..)))

/-! ### Stopping (R220, R223) -/

/-- `t` is `s` with the context stopped, the user kernel possibly to wait for a trigger: its view then holds its registers. -/
def StopsCtx (s t : State) (g : Nat) (user : Bool) : Prop :=
  (user = true ∧ ∃ st, t = setU (takeView s g) g st) ∨ (user = false ∧ t = wr s (Reg.NEWT_STATUS_VSTATE g) vStop)

theorem stopsCtx_stop (s : State) (g : Nat) (user : Bool) :
    StopsCtx s (if user then stopKernel s g else wr s (Reg.NEWT_STATUS_VSTATE g) vStop) g user := by
  cases user
  · exact .inr ⟨rfl, rfl⟩
  · exact .inl ⟨rfl, uStopped, rfl⟩

theorem stopsCtx_haltCtx (s : State) (g : Nat) (user : Bool) : StopsCtx s (haltCtx s g user) g user := by
  cases user
  · exact .inr ⟨rfl, rfl⟩
  · refine .inl ⟨rfl, ?_⟩
    simp only [haltCtx, if_true]
    split
    · exact ⟨uWaiting, rfl⟩
    · exact ⟨uStopped, rfl⟩

theorem ctx_of_stopsCtx {s t : State} {g : Nat} {user : Bool} (h : StopsCtx s t g user) : t.ctx g user = s.ctx g user := by
  rcases h with ⟨-, st, rfl⟩ | ⟨-, rfl⟩
  · simp [setU]
  · simp

theorem frame_of_stopsCtx {s t : State} {g : Nat} {user : Bool} (h : StopsCtx s t g user) : Frame s t (newtRegs g) [.newts] := by
  rcases h with ⟨-, st, rfl⟩ | ⟨-, rfl⟩
  · exact frame_wr _ (by simp [newtRegs]) (frame_takeView g (by simp) (frame_refl ..))
  · exact frame_wr _ (by simp [newtRegs]) (frame_refl ..)

/-- After an instruction a context stays as it is or stops. -/
theorem stays_or_stops (s : State) (g : Nat) (user halt stop : Bool) :
    let t := if halt then haltCtx s g user
      else if stop then if user then stopKernel s g else wr s (Reg.NEWT_STATUS_VSTATE g) vStop
      else s
    t = s ∨ StopsCtx s t g user := by
  cases halt
  · cases stop
    · exact .inl rfl
    · exact .inr (stopsCtx_stop ..)
  · exact .inr (stopsCtx_haltCtx ..)

/-! ### The end of an instruction -/

/-- The registers of a context once its instruction has ended in sequence: PC moved on, back to a loop's start where a body ends. -/
def seqCtx (o : NOut) : CtxS := { o.c with loops := (loopEnd o.c.loops o.pc).1, pc := (loopEnd o.c.loops o.pc).2.1 % 32768 }

/-- An instruction ends in sequence by closing the load window, an update of its core that puts the context's registers in, and CONFLICT;
the context may then stop. -/
theorem newtFinish_cases {o : NOut} (g : Nat) (user : Bool) (pc w : Nat) (hj : o.jump = false) :
    ∃ (f : NewtS → NewtS) (n : Nat), (∀ x, (if user then (f x).user else (f x).vendor) = seqCtx o) ∧
      let s2 := bump ((rollLoad o.s g).modNewt g f) (Reg.NEWT_LOAD_CONFLICT g) n
      newtFinish o g user pc w = s2 ∨ StopsCtx s2 (newtFinish o g user pc w) g user := by
  refine ⟨_, _, fun x => ?_, stays_or_stops ..⟩
  cases user <;> simp [seqCtx, hj]

theorem newtFinish_effect {o : NOut} (g : Nat) (user : Bool) (pc w : Nat) (hj : o.jump = false) :
    (newtFinish o g user pc w).ctx g user = seqCtx o ∧ Frame o.s (newtFinish o g user pc w) (newtRegs g) [.newts] := by
  obtain ⟨f, n, hf, hend⟩ := newtFinish_cases g user pc w hj
  have hctx : (bump ((rollLoad o.s g).modNewt g f) (Reg.NEWT_LOAD_CONFLICT g) n).ctx g user = seqCtx o := by
    rw [bump, ctx_wr, State.ctx, newt_modNewt, hf]
  have hframe : Frame o.s (bump ((rollLoad o.s g).modNewt g f) (Reg.NEWT_LOAD_CONFLICT g) n) (newtRegs g) [.newts] :=
    frame_bump n (by simp [newtRegs]) (frame_modNewt g f (by simp) (frame_rollLoad ..))
  rcases hend with hend | hend
  · rw [hend]
    exact ⟨hctx, hframe⟩
  · exact ⟨(ctx_of_stopsCtx hend).trans hctx, frame_step hframe (frame_of_stopsCtx hend)⟩

theorem newtRun_of_ok {s : State} {g : Nat} {user : Bool} {i : NI} {w : Nat} {eff : NI → Option (CtxS → Nat → NRes)} {f : CtxS → Nat → NRes}
    {o : NOut} (h : AtPC s g user i w) (hf : eff i = some f)
    (ho : f { s.ctx g user with wait := none } (((s.ctx g user).pc + w) % 32768) = .ok o) :
    newtRun s g user eff = newtFinish o g user (s.ctx g user).pc w := by
  obtain ⟨hrun, hfetch⟩ := h
  simp [newtRun, hrun, hfetch, hf, ho]

end Sys2Proof.Proofs

/-! PROOFS. A load or store alone within the core's memories: addressing modes, circular buffers, and the word moved (R207, R208). -/

namespace Sys2Proof.Proofs

open Sys2Proof.Machine Sys2Proof.Laws

/-! ### Pointers -/

theorem stepPtr_lt (c : CtxS) (n : Nat) (step : Int) : stepPtr c n step < 2 ^ 32 := by
  unfold stepPtr w32 code
  dsimp only
  split <;> omega

theorem setP_stepPtr (c : CtxS) (n : Nat) (step : Int) :
    c.setP n (stepPtr c n step) = { c with p := c.p.set n 0 (stepPtr c n step / 4 * 4) } := by
  rw [CtxS.setP, Nat.mod_eq_of_lt (stepPtr_lt ..)]

/-- The pointer's update by mode: POSTM by Mn, POST4 by 4, and none otherwise (R207). -/
theorem moveUpdate_eq (c : CtxS) (m : Move) : moveUpdate c m =
    if m.mode = 1 then { c with p := c.p.set m.p 0 (stepPtr c m.p (sgn 32 (c.getM m.p)) / 4 * 4) }
    else if m.mode = 3 then { c with p := c.p.set m.p 0 (stepPtr c m.p 4 / 4 * 4) } else c := by
  simp only [moveUpdate, setP_stepPtr]

theorem moveUpdate_wait (c : CtxS) (m : Move) (k : Option Nat) : moveUpdate { c with wait := k } m = { moveUpdate c m with wait := k } := by
  unfold moveUpdate
  split
  · rfl
  · split <;> rfl

theorem setX_memWord (c : CtxS) (x : Nat) (s : State) (a : Nat) : c.setX x (memWord s a) = { c with x := c.x.set x 0 (memWord s a) } := by
  rw [CtxS.setX, Nat.mod_eq_of_lt (memWord_lt ..)]

/-! ### The move of one instruction -/

theorem runMoves_load {s : State} {g : Nat} {user ue ce : Bool} {c : CtxS} {m : Move} (hm : m.store = false)
    (hp : permitted s g user c m.store (moveAddr c m) = true) (ho : outside (moveAddr c m) = false) :
    runMoves s g user ue ce c c [m] = .ok (s, moveUpdate (c.setX m.x (memWord s (newtBase g + moveAddr c m))) m) := by
  rw [hm] at hp
  simp [runMoves, runLoads, runStores, coreRead, hm, hp, ho]

theorem runMoves_store {s : State} {g : Nat} {user ue ce : Bool} {c : CtxS} {m : Move} (hm : m.store = true)
    (hp : permitted s g user c m.store (moveAddr c m) = true) (ho : outside (moveAddr c m) = false) :
    runMoves s g user ue ce c c [m] = .ok (setMemWord s (newtBase g + moveAddr c m) (c.getX m.x), moveUpdate c m) := by
  rw [hm] at hp
  simp [runMoves, runLoads, runStores, coreWrite, hm, hp, ho]

/-- A load or store whose move succeeds ends in sequence, with the state and registers of the move. -/
theorem ldstRow_effect {s u : State} {g : Nat} {user ue ce : Bool} {m : Move} {c : CtxS} (h : AtPC s g user (.ldst m) 1)
    (hr : runMoves s g user ue ce { s.ctx g user with wait := none } { s.ctx g user with wait := none } [m] =
      .ok (u, { moveUpdate c m with wait := none })) :
    (ldstRow s g user ue ce m.store).ctx g user = stepOn s g user 1 (moveUpdate c m) ∧
      Frame u (ldstRow s g user ue ce m.store) (newtRegs g) [.newts] := by
  have hrun : ldstRow s g user ue ce m.store = newtFinish
      { s := u, c := { moveUpdate c m with wait := none }, pc := ((s.ctx g user).pc + 1) % 32768,
        bus := moveBuses { s.ctx g user with wait := none } [m] } g user (s.ctx g user).pc 1 :=
    newtRun_of_ok h (if_pos rfl) (by rw [hr])
  rw [hrun]
  exact newtFinish_effect g user _ 1 rfl

/-- A load: the register takes the word at the move's address, and memory stays. -/
theorem load_effect {s : State} {g : Nat} {user : Bool} (ue ce : Bool) {m : Move} (h : AtPC s g user (.ldst m) 1) (hm : m.store = false)
    (hp : permitted s g user (s.ctx g user) m.store (moveAddr (s.ctx g user) m) = true) (ho : outside (moveAddr (s.ctx g user) m) = false) :
    let c := s.ctx g user
    (ldstRow s g user ue ce m.store).ctx g user =
        stepOn s g user 1 (moveUpdate { c with x := c.x.set m.x 0 (memWord s (newtBase g + moveAddr c m)) } m) ∧
      Frame s (ldstRow s g user ue ce m.store) (newtRegs g) [.newts] := by
  intro c
  refine ldstRow_effect h ((runMoves_load (c := { c with wait := none }) hm hp ho).trans ?_)
  rw [setX_memWord, ← moveUpdate_wait]
  rfl

/-- A store: memory takes the register's word at the move's address. -/
theorem store_effect {s : State} {g : Nat} {user : Bool} (ue ce : Bool) {m : Move} (h : AtPC s g user (.ldst m) 1) (hm : m.store = true)
    (hp : permitted s g user (s.ctx g user) m.store (moveAddr (s.ctx g user) m) = true) (ho : outside (moveAddr (s.ctx g user) m) = false) :
    let c := s.ctx g user
    (ldstRow s g user ue ce m.store).ctx g user = stepOn s g user 1 (moveUpdate c m) ∧
      Frame (setMemWord s (newtBase g + moveAddr c m) (c.getX m.x)) (ldstRow s g user ue ce m.store) (newtRegs g) [.newts] := by
  intro c
  refine ldstRow_effect h ((runMoves_store (c := { c with wait := none }) hm hp ho).trans ?_)
  rw [← moveUpdate_wait]
  rfl

/-- Settles O55: the address and the pointer's update of the statement are `moveAddr` and `moveUpdate` (`moveUpdate_eq`), and a load or store is its
one move followed by the end of an instruction in sequence. -/
theorem newtAddressingModes : Obligations.NewtAddressingModes := by
  unfold Obligations.NewtAddressingModes
  intro s g user ue ce store x n mode c p b l moved m a upd hat hp ho
  have hupd (y : Tbl Nat) : upd { c with x := y } = moveUpdate { c with x := y } ⟨store, x, n, mode⟩ := (moveUpdate_eq _ ⟨store, x, n, mode⟩).symm
  refine ⟨fun hstore => ?_, fun hstore => ?_⟩
  · subst hstore
    obtain ⟨hctx, hframe⟩ := load_effect ue ce hat rfl hp ho
    exact ⟨_, rfl, samePart_of_frame hframe (p := .mem) (by simp), hframe, by rw [hupd]; exact hctx⟩
  · subst hstore
    obtain ⟨hctx, hframe⟩ := store_effect false false hat rfl hp ho
    have hmem : (ldstRow s g user false false true).mem = (setMemWord s (newtBase g + a) (c.getX x)).mem :=
      samePart_of_frame hframe (p := .mem) (by simp)
    refine ⟨_, rfl, ?_, ?_, fun k hk => ?_, ?_⟩
    · rw [memWord_congr hmem, memWord_setMemWord]
    · exact frame_step (frame_setMemWord _ _ (by simp) (frame_refl ..)) (frame_mono hframe (List.Subset.refl _) (by simp))
    · rw [memByte_congr hmem, memByte_setMemWord_out _ _ hk]
    · exact hctx.trans (congrArg _ (hupd c.x).symm)

end Sys2Proof.Proofs

/-! The whole machine: what each command keeps, and that each completes. -/
namespace Sys2Proof.Proofs

open Sys2Proof.Machine Sys2Proof.Laws

-- One theorem after another: side by side, the theorems of the whole text ask for more threads than the check has memory for.
set_option Elab.async false

/-- One step lemma for every command: the queue, the grade, the count of free values and the legality of the state are kept (the set of parts is every part,
with bit 25 for the mode). -/
theorem keepsO_exec (c : Instr) (s : State) : KeepsO 0x3FFFFFF s (exec c s) := by
  have hw : Sub 0x3FFFFFF 0x3FFFFFF := rfl
  have h : Keeps 0x3FFFFFF s s := keeps_refl _ s
  cases c with
  | registerWrite => exact keepsO_execRegisterWrite h
  | symbolBoundary => exact keepsO_execSymbolBoundary h
  | eventPush => exact keepsO_execEventPush h
  | clockMonitorWindow => exact keepsO_execClockMonitorWindow h
  | setMode => exact keepsO_execSetMode h
  | trimDone => exact keepsO_execTrimDone h
  | por => exact keepsO_execPor h
  | nrstIn => exact keepsO_execNrstIn h
  | wdog => exact keepsO_execWdog h
  | reset => exact keepsO_execReset h
  | jtagReset => exact keepsO_execJtagReset h
  | tileFault => exact keepsO_execTileFault h
  | resetRelease => exact keepsO_execResetRelease h
  | blkResetGo => exact keepsO_execBlkResetGo h
  | quiesceAck => exact keepsO_execQuiesceAck h
  | quiesceTimeout => exact keepsO_execQuiesceTimeout h
  | blockRestored => exact keepsO_execBlockRestored h
  | mtpPulseEnd => exact keepsO_execMtpPulseEnd h
  | flashBusyTimeout => exact keepsO_execFlashBusyTimeout h
  | reloadTrim => exact keepsO_execReloadTrim h
  | trimLoadDone => exact keepsO_execTrimLoadDone h
  | startStepDone => exact keepsO_execStartStepDone h
  | tileHoldTimeout => exact keepsO_execTileHoldTimeout h
  | rxOvld => exact keepsO_execRxOvld h
  | ovldStepRepeat => exact keepsO_execOvldStepRepeat h
  | rxOvldRecover => exact keepsO_execRxOvldRecover h
  | syncEdge => exact keepsO_execSyncEdge h
  | syncRealign => exact keepsO_execSyncRealign h
  | rxCommit => exact keepsO_execRxCommit h
  | rxCoefWrite => exact keepsO_execRxCoefWrite h
  | xfadeEnd => exact keepsO_execXfadeEnd h
  | txCommit => exact keepsO_execTxCommit h
  | cfrPulseReady => exact keepsO_execCfrPulseReady h
  | shadowReady => exact keepsO_execShadowReady h
  | dpdChecksDone => exact keepsO_execDpdChecksDone h
  | dpdTblDataAccess => exact keepsO_execDpdTblDataAccess h
  | adaptPeriod => exact keepsO_execAdaptPeriod h
  | adaptCaptureDone => exact keepsO_execAdaptCaptureDone h
  | adaptFitDone => exact keepsO_execAdaptFitDone h
  | dpdTrainStepDone => exact keepsO_execDpdTrainStepDone h
  | clusterCommit => exact keepsO_execClusterCommit h
  | loPrecal => exact keepsO_execLoPrecal h
  | loLock => exact keepsO_execLoLock h
  | loStoredTimeout => exact keepsO_execLoStoredTimeout h
  | loFail => exact keepsO_execLoFail h
  | loUnlock => exact keepsO_execLoUnlock h
  | sched => exact keepsO_execSched h
  | preWake => exact keepsO_execPreWake h
  | rffeRelease => exact keepsO_execRffeRelease h
  | rffeFrameDone => exact keepsO_execRffeFrameDone h
  | rffeCmd => exact keepsO_execRffeCmd h
  | tileCommit => exact keepsO_execTileCommit h
  | weights => exact keepsO_execWeights h
  | wsetChecksDone => exact keepsO_execWsetChecksDone h
  | rxSymbolDone => exact keepsO_execRxSymbolDone h
  | ulData => exact keepsO_execUlData h
  | prachDone => exact keepsO_execPrachDone h
  | solveJobStart => exact keepsO_execSolveJobStart h
  | solveDone => exact keepsO_execSolveDone h
  | corrAgeExpired => exact keepsO_execCorrAgeExpired h
  | dlDeadline => exact keepsO_execDlDeadline h
  | chorusSearchOpen => exact keepsO_execChorusSearchOpen h
  | croakSend => exact keepsO_execCroakSend h
  | chorusGainStep => exact keepsO_execChorusGainStep h
  | chorusDetect => exact keepsO_execChorusDetect h
  | chorusAgcFreeze => exact keepsO_execChorusAgcFreeze h
  | chorusSfd => exact keepsO_execChorusSfd h
  | chorusSfdTimeout => exact keepsO_execChorusSfdTimeout h
  | chorusHeader => exact keepsO_execChorusHeader h
  | chorusPayloadEnd => exact keepsO_execChorusPayloadEnd h
  | chorusPreempt => exact keepsO_execChorusPreempt h
  | chorusSearchClose => exact keepsO_execChorusSearchClose h
  | chorusMeasureDone => exact keepsO_execChorusMeasureDone h
  | chorusParentLost => exact keepsO_execChorusParentLost h
  | chorusCommit => exact keepsO_execChorusCommit h
  | calStepDone => exact keepsO_execCalStepDone h
  | calReq => exact keepsO_execCalReq h
  | save => exact keepsO_execSave h
  | calStoreAutosave => exact keepsO_execCalStoreAutosave h
  | calStoreSaveDone => exact keepsO_execCalStoreSaveDone h
  | trimDataAccess => exact keepsO_execTrimDataAccess h
  | nNop => exact keepsO_execNNop h
  | nBr => exact keepsO_execNBr h
  | nCall => exact keepsO_execNCall h
  | nRet => exact keepsO_execNRet h
  | nLoop => exact keepsO_execNLoop h
  | nYield => exact keepsO_execNYield h
  | nWaitev => exact keepsO_execNWaitev h
  | nHalt => exact keepsO_execNHalt h
  | nSys => exact keepsO_execNSys h
  | nAdd => exact keepsO_execNAdd h
  | nSub => exact keepsO_execNSub h
  | nAnd => exact keepsO_execNAnd h
  | nOr => exact keepsO_execNOr h
  | nXor => exact keepsO_execNXor h
  | nShl => exact keepsO_execNShl h
  | nShr => exact keepsO_execNShr h
  | nSar => exact keepsO_execNSar h
  | nMin => exact keepsO_execNMin h
  | nMax => exact keepsO_execNMax h
  | nCadd => exact keepsO_execNCadd h
  | nCsub => exact keepsO_execNCsub h
  | nCconj => exact keepsO_execNCconj h
  | nSwaph => exact keepsO_execNSwaph h
  | nMov => exact keepsO_execNMov h
  | nAddi => exact keepsO_execNAddi h
  | nAndi => exact keepsO_execNAndi h
  | nOri => exact keepsO_execNOri h
  | nXori => exact keepsO_execNXori h
  | nShli => exact keepsO_execNShli h
  | nShri => exact keepsO_execNShri h
  | nSari => exact keepsO_execNSari h
  | nMovi => exact keepsO_execNMovi h
  | nMovhi => exact keepsO_execNMovhi h
  | nNone => exact keepsO_execNNone h
  | nCmac => exact keepsO_execNCmac h
  | nCmacc => exact keepsO_execNCmacc h
  | nCmsu => exact keepsO_execNCmsu h
  | nCmul => exact keepsO_execNCmul h
  | nRmac => exact keepsO_execNRmac h
  | nCpwr => exact keepsO_execNCpwr h
  | nClr => exact keepsO_execNClr h
  | nTrn => exact keepsO_execNTrn h
  | nLda => exact keepsO_execNLda h
  | nAdda => exact keepsO_execNAdda h
  | nNega => exact keepsO_execNNega h
  | nMovp => exact keepsO_execNMovp h
  | nMovxp => exact keepsO_execNMovxp h
  | nMovm => exact keepsO_execNMovm h
  | nMovxm => exact keepsO_execNMovxm h
  | nAddp => exact keepsO_execNAddp h
  | nCirc => exact keepsO_execNCirc h
  | nMovwb => exact keepsO_execNMovwb h
  | nLd => exact keepsO_execNLd h
  | nSt => exact keepsO_execNSt h
  | nLong => exact keepsO_execNLong h
  | newtBusTimeout => exact keepsO_execNewtBusTimeout h
  | newtHeartbeatMiss => exact keepsO_execNewtHeartbeatMiss h
  | fallbackAckTimeout => exact keepsO_execFallbackAckTimeout h
  | userStart => exact keepsO_execUserStart h
  | userStop => exact keepsO_execUserStop h
  | userTrig => exact keepsO_execUserTrig h
  | userPeriodTrigger => exact keepsO_execUserPeriodTrigger h
  | userWdog => exact keepsO_execUserWdog h
  | laneSigdet => exact keepsO_execLaneSigdet h
  | laneCdrLock => exact keepsO_execLaneCdrLock h
  | laneEqConverged => exact keepsO_execLaneEqConverged h
  | laneMarkerGood => exact keepsO_execLaneMarkerGood h
  | laneLos => exact keepsO_execLaneLos h
  | laneMarkersBad => exact keepsO_execLaneMarkersBad h
  | laneWindowEnd => exact keepsO_execLaneWindowEnd h
  | laneBackoffEnd => exact keepsO_execLaneBackoffEnd h
  | statusWord => exact keepsO_execStatusWord h
  | statusWordDue => exact keepsO_execStatusWordDue h
  | portDeskewTimeout => exact keepsO_execPortDeskewTimeout h
  | portWiden => exact keepsO_execPortWiden h
  | retrain => exact keepsO_execRetrain h
  | portBackoffEnd => exact keepsO_execPortBackoffEnd h
  | portEnable => exact keepsO_execPortEnable h
  | eyeScan => exact keepsO_execEyeScan h
  | eyeDone => exact keepsO_execEyeDone h
  | upstreamRevert => exact keepsO_execUpstreamRevert h
  | uploss => exact keepsO_execUploss h
  | linkWakePattern => exact keepsO_execLinkWakePattern h
  | dlData => exact keepsO_execDlData h
  | write => exact keepsO_execWrite h
  | read => exact keepsO_execRead h
  | ringPost => exact keepsO_execRingPost h
  | ringStatus => exact keepsO_execRingStatus h
  | event => exact keepsO_execEvent h
  | imageWrite => exact keepsO_execImageWrite h
  | imageCommit => exact keepsO_execImageCommit h
  | imageAbort => exact keepsO_execImageAbort h
  | imageStatus => exact keepsO_execImageStatus h
  | forwardUpstream => exact keepsO_execForwardUpstream h
  | ulAgeDiscard => exact keepsO_execUlAgeDiscard h
  | poolCommit => exact keepsO_execPoolCommit h
  | ptpSync => exact keepsO_execPtpSync h
  | followUp => exact keepsO_execFollowUp h
  | delayResp => exact keepsO_execDelayResp h
  | announce => exact keepsO_execAnnounce h
  | ptpForward => exact keepsO_execPtpForward h
  | domainLost => exact keepsO_execDomainLost h
  | stepHoldExpire => exact keepsO_execStepHoldExpire h
  | domainRevert => exact keepsO_execDomainRevert h
  | steerUpdate => exact keepsO_execSteerUpdate h
  | acquireTimeout => exact keepsO_execAcquireTimeout h
  | timeAcquireLimit => exact keepsO_execTimeAcquireLimit h
  | tilePhaseCheck => exact keepsO_execTilePhaseCheck h
  | timeCommit => exact keepsO_execTimeCommit h
  | snap => exact keepsO_execSnap h
  | clrSuspect => exact keepsO_execClrSuspect h
  | ppsOut => exact keepsO_execPpsOut h
  | ppsIn => exact keepsO_execPpsIn h
  | ppsInLost => exact keepsO_execPpsInLost h
  | capArm => exact keepsO_execCapArm h
  | capStop => exact keepsO_execCapStop h
  | capForce => exact keepsO_execCapForce h
  | capTrigger => exact keepsO_execCapTrigger h
  | capSegmentDone => exact keepsO_execCapSegmentDone h
  | capRearm => exact keepsO_execCapRearm h
  | capHoldEnd => exact keepsO_execCapHoldEnd h
  | capAutoTimeout => exact keepsO_execCapAutoTimeout h
  | capBufferFull => exact keepsO_execCapBufferFull h
  | capTrunc => exact keepsO_execCapTrunc h
  | skewGo => exact keepsO_execSkewGo h
  | skewDone => exact keepsO_execSkewDone h
  | dmaStart => exact keepsO_execDmaStart h
  | dmaPause => exact keepsO_execDmaPause h
  | dmaAbort => exact keepsO_execDmaAbort h
  | doorbell => exact keepsO_execDoorbell h
  | dmaDescFetch => exact keepsO_execDmaDescFetch h
  | dmaDescDone => exact keepsO_execDmaDescDone h
  | bulk => exact keepsO_execBulk h
  | dmaDrained => exact keepsO_execDmaDrained h
  | dmaBusTimeout => exact keepsO_execDmaBusTimeout h
  | dmaWakeTimeout => exact keepsO_execDmaWakeTimeout h
  | hkGo => exact keepsO_execHkGo h
  | hkPeriodTrigger => exact keepsO_execHkPeriodTrigger h
  | hkVendorTrigger => exact keepsO_execHkVendorTrigger h
  | hkStartupDone => exact keepsO_execHkStartupDone h
  | hkEntryDone => exact keepsO_execHkEntryDone h
  | hkSeqDone => exact keepsO_execHkSeqDone h
  | hkEnable => exact keepsO_execHkEnable h
  | hkSelftest => exact keepsO_execHkSelftest h
  | hkSelftestDone => exact keepsO_execHkSelftestDone h
  | hkCommit => exact keepsO_execHkCommit h
  | biasIlimFault => exact keepsO_execBiasIlimFault h
  | biasRangeSwitch => exact keepsO_execBiasRangeSwitch h
  | biasSineUpdate => exact keepsO_execBiasSineUpdate h
  | pwmPeriod => exact keepsO_execPwmPeriod h
  | thermSample => exact keepsO_execThermSample h
  | thermalGraceEnd => exact keepsO_execThermalGraceEnd h
  | thermalRelease => exact keepsO_execThermalRelease h
  | thermSleepSample => exact keepsO_execThermSleepSample h
  | tileIdleTimeout => exact keepsO_execTileIdleTimeout h
  | memIdleTimeout => exact keepsO_execMemIdleTimeout h
  | domainWakeDone => exact keepsO_execDomainWakeDone h
  | accessWakeTimeout => exact keepsO_execAccessWakeTimeout h
  | modeScheduleDue => exact keepsO_execModeScheduleDue h
  | voterAnswer => exact keepsO_execVoterAnswer h
  | sleepVoteTimeout => exact keepsO_execSleepVoteTimeout h
  | sleepRetry => exact keepsO_execSleepRetry h
  | cancel => exact keepsO_execCancel h
  | sentinelSample => exact keepsO_execSentinelSample h
  | sentinelWindowEnd => exact keepsO_execSentinelWindowEnd h
  | wakePin => exact keepsO_execWakePin h
  | aonTimer => exact keepsO_execAonTimer h
  | wakeStepTimeout => exact keepsO_execWakeStepTimeout h
  | avsLoop => exact keepsO_execAvsLoop h
  | avsAckTimeout => exact keepsO_execAvsAckTimeout h
  | supplyStageEnter => exact keepsO_execSupplyStageEnter h
  | supplyStageRestore => exact keepsO_execSupplyStageRestore h
  | resClr => exact keepsO_execResClr h
  | status => exact keepsO_execStatus h
  | selftest => exact keepsO_execSelftest h
  | zeroise => exact keepsO_execZeroise h
  | identity => exact keepsO_execIdentity h
  | keyImport => exact keepsO_execKeyImport h
  | keyDelete => exact keepsO_execKeyDelete h
  | keyStatus => exact keepsO_execKeyStatus h
  | rollbackCommit => exact keepsO_execRollbackCommit h
  | fuseProgram => exact keepsO_execFuseProgram h
  | fuseRead => exact keepsO_execFuseRead h
  | dbgChallenge => exact keepsO_execDbgChallenge h
  | dbgResponse => exact keepsO_execDbgResponse h
  | random => exact keepsO_execRandom h
  | secChal => exact keepsO_execSecChal h
  | secResp => exact keepsO_execSecResp h
  | keyLockExpire => exact keepsO_execKeyLockExpire h
  | dbgChallengeExpire => exact keepsO_execDbgChallengeExpire h
  | tamper => exact keepsO_execTamper h
  | gridSlotBoundary => exact keepsO_execGridSlotBoundary h
  | forwardDownstream => exact keepsO_execForwardDownstream h
  | unknownOpcode => exact keepsO_execUnknownOpcode h
  | hdrErr => exact keepsO_execHdrErr h
  | pathWakeReady => exact keepsO_execPathWakeReady h

/-- Every command answers a next state: no arm of the dispatch faults or refuses. -/
theorem completes_exec (c : Instr) (s : State) : Completes (exec c s) := by
  cases c <;> exact ⟨_, rfl⟩
/-- The machine as a whole: each command is a next state that follows the state before it. -/
theorem next_exec (c : Instr) (s : State) : ∃ t, exec c s = .next t ∧ Keeps 0x3FFFFFF s t := by
  obtain ⟨t, ht⟩ := completes_exec c s
  exact ⟨t, ht, keepsO_exec c s t ht⟩

theorem step_cons {c : Instr} {rest : List Instr} {s : State} (h : s.pending = c :: rest) : step s = exec c { s with pending := rest } := by
  simp [step, h]

theorem step_nil {s : State} (h : s.pending = []) : step s = .next (refTick s) := by
  simp [step, h]

/-- Settles O1: the second branch of `step`. -/
theorem stepRunsTheFrontCommand : Obligations.StepRunsTheFrontCommand := fun _ _ _ h => step_cons h

/-- The register planes of the state after reset are empty, so every field reads its reset value. -/
theorem rd_reset (f : Fld) : rd State.reset f = f.reset := by
  unfold rd
  cases f.cls <;> rfl

/-- Settles O3: the planes, the queues and the memory of the state after reset are empty. -/
theorem resetHoldsTheResetValues : Obligations.ResetHoldsTheResetValues :=
  ⟨fun f => ⟨rd_reset f, rfl⟩, rfl, rfl, fun _ => rfl, by unfold Legal; decide⟩

/-- Settles O4: taking the front command off the queue leaves the state legal, and what the command does keeps it so, as a REF edge does. -/
theorem everyStepKeepsTheStateLegal : Obligations.EveryStepKeepsTheStateLegal := by
  intro s t hs ht
  cases hq : s.pending with
  | nil =>
    rw [step_nil hq] at ht
    cases ht
    exact (keeps_refTick (w₀ := 16) (keeps_refl _ s) rfl).inv hs
  | cons c rest =>
    rw [step_cons hq] at ht
    exact (keepsO_exec c { s with pending := rest } t ht).inv hs

/-- Settles O5. -/
theorem commandsCompleteAndKeepTheQueue : Obligations.CommandsCompleteAndKeepTheQueue := by
  intro c s
  obtain ⟨t, ht, hk⟩ := next_exec c s
  exact ⟨t, ht, hk.pending, hk.grade, hk.free⟩

/-- Settles O6. -/
theorem memoryWordReadsBack : Obligations.MemoryWordReadsBack := fun s a v hv =>
  ⟨(memWord_setMemWord s a v).trans (Nat.mod_eq_of_lt hv), frame_setMemWord a v (by simp) (frame_refl ..),
    fun _ hb => memByte_setMemWord_out s v hb⟩

/-! Block commits (R10, R11): what a refusal and what a copy of the shadow values does to the active copies of class H. -/

theorem alertPend_hact (s : State) (c : Nat) : (alertPend s c).hact = s.hact := by
  unfold alertPend
  split <;> exact wr_hact_of_L _ _ (by decide)

theorem enqueue_hact (s : State) (c a : Nat) : (enqueue s c a).hact = s.hact := by
  unfold enqueue
  dsimp only
  split
  · rfl
  · exact wr_hact_of_L _ _ (by decide)

/-- Issuing an event leaves the active copies of class H. -/
theorem raise_hact (s : State) (c a : Nat) : (raise s c a).hact = s.hact := by
  unfold raise
  dsimp only
  split_ifs <;> simp only [enqueue_hact, alertPend_hact]

/-- Recording a configuration error leaves the active copies of class H. -/
theorem cfgError_hact (s : State) (pair : Bool) (addr : Nat) : (cfgError s pair addr).hact = s.hact := by
  unfold cfgError
  dsimp only
  rw [raise_hact, wr_hact_of_L _ _ (by cases pair <;> decide)]
  split
  · rw [wr_hact_of_L _ _ (by decide), wr_hact_of_L _ _ (by decide)]
  · exact wr_hact_of_L _ _ (by decide)

theorem rd_of_H {f : Fld} (h : f.cls = .H) (s : State) : rd s f = s.hact.get f.key f.reset := by
  simp [rd, h]

theorem rd_of_L {s t : State} {f : Fld} (h : f.cls = .L) (ht : t.act = s.act) : rd t f = rd s f := by
  simp [rd, h, ht]

theorem rd_H_congr {s t : State} {f : Fld} (h : f.cls = .H) (ht : t.hact = s.hact) : rd t f = rd s f := by
  rw [rd_of_H h, rd_of_H h, ht]

theorem rd_cfgError_pairErr (s : State) (addr : Nat) : rd (cfgError s true addr) Reg.CFG_STATUS_CFG_PAIR_ERR = 1 := by
  unfold cfgError
  dsimp only
  rw [rd_raise _ _ _ (by decide), if_pos rfl, rd_wr]
  rfl

theorem queued_cfgError_pair {s t : State} (addr : Nat) (hr : t.rst = s.rst) (he : t.events = s.events) (h : Room s) :
    Queued s (cfgError t true addr) 0x1002 addr := by
  unfold cfgError
  dsimp only
  refine queued_raise addr ?_ ?_ h (by decide)
  · split <;> simpa using hr
  · split <;> simpa using he

theorem cfgError_hsh (s : State) (pair : Bool) (addr : Nat) : (cfgError s pair addr).hsh = s.hsh :=
  samePart_of_frame (frame_cfgError pair addr (List.subset_append_left _ _) (List.subset_append_right _ eventRegs) (List.mem_singleton_self _)
    (frame_refl s _ _)) (p := .shadow) (by simp)

/-- One range of a group's copy: inside it the shadow copies, outside it the active ones. -/
theorem get_copyRange (s : State) (a b k d : Nat) :
    ((s.hact.clear a b).merge (s.hsh.range a b)).get k d = if a ≤ k ∧ k < b then s.hsh.get k d else s.hact.get k d := by
  rw [get_merge]
  split_ifs with h
  · rw [get_clear_in _ _ h, get_range _ _ h]
  · rw [get_range_out _ _ h, get_clear _ _ h]

@[simp] theorem copyShadow_hsh (s : State) (g : Group) : (copyShadow s g).hsh = s.hsh := by
  obtain ⟨l⟩ := g
  induction l generalizing s with
  | nil => rfl
  | cons r l ih => exact ih _

@[simp] theorem copyShadow_act (s : State) (g : Group) : (copyShadow s g).act = s.act := by
  obtain ⟨l⟩ := g
  induction l generalizing s with
  | nil => rfl
  | cons r l ih => exact ih _

@[simp] theorem copyShadow_rst (s : State) (g : Group) : (copyShadow s g).rst = s.rst := by
  obtain ⟨l⟩ := g
  induction l generalizing s with
  | nil => rfl
  | cons r l ih => exact ih _

/-- A group's copy: the fields of its ranges take their shadow copies, and every other active copy stays. -/
theorem rd_copyShadow (s : State) (g : Group) {f : Fld} (hf : f.cls = .H) : rd (copyShadow s g) f =
    if g.ranges.any (fun r => decide (r.1 ≤ f.key) && decide (f.key < r.2)) then rdSh s f else rd s f := by
  obtain ⟨l⟩ := g
  induction l generalizing s with
  | nil => rfl
  | cons r l ih =>
    refine (ih { s with hact := (s.hact.clear r.1 r.2).merge (s.hsh.range r.1 r.2) }).trans ?_
    rw [rd_of_H hf, get_copyRange, rd_of_H hf]
    simp only [List.any_cons, Bool.or_eq_true, Bool.and_eq_true, decide_eq_true_eq, rdSh]
    split_ifs <;> tauto

theorem commitGroup_of_unchanged {s : State} {g : Group} (fails : List Nat) (h : shadowChanged s g = false) :
    commitGroup s g fails false = (s, true) := by
  simp [commitGroup, h]

theorem commitGroup_of_pass {s : State} {g : Group} {leave : Bool} (h : shadowChanged s g = true ∨ leave = true) :
    commitGroup s g [] leave = (copyShadow { s with silent := s.silent.filter (· != g.id) } g, true) := by
  rcases h with h | h <;> simp [commitGroup, h]

theorem commitGroup_of_fail {s : State} {g : Group} {fails : List Nat} {leave : Bool} (h : shadowChanged s g = true ∨ leave = true)
    (hf : fails ≠ []) : commitGroup s g fails leave = (refuseCommit s g fails, false) := by
  obtain ⟨a, l, rfl⟩ := List.exists_cons_of_ne_nil hf
  rcases h with h | h <;> simp [commitGroup, h]

theorem refuseCommit_of_silent {s : State} {g : Group} (fails : List Nat) (h : s.silent.contains g.id = true) : refuseCommit s g fails = s :=
  if_pos h

theorem refuseCommit_of_first {s : State} {g : Group} (fails : List Nat) (h : s.silent.contains g.id = false) :
    refuseCommit s g fails = cfgError { s with silent := g.id :: s.silent } true (lowest fails) :=
  if_neg (by rw [h]; exact Bool.false_ne_true)

theorem refuseCommit_hact (s : State) (g : Group) (fails : List Nat) : (refuseCommit s g fails).hact = s.hact := by
  unfold refuseCommit
  split
  · rfl
  · exact cfgError_hact ..

theorem refuseCommit_hsh (s : State) (g : Group) (fails : List Nat) : (refuseCommit s g fails).hsh = s.hsh := by
  unfold refuseCommit
  split
  · rfl
  · exact cfgError_hsh ..

theorem commitGroup_hsh (s : State) (g : Group) (fails : List Nat) (leave : Bool) : (commitGroup s g fails leave).1.hsh = s.hsh := by
  unfold commitGroup
  split
  · rfl
  · split
    · exact copyShadow_hsh ..
    · exact refuseCommit_hsh ..

/-- Settles O7: the three outcomes of `commitGroup`. -/
theorem commitIsAllOrNothing : Obligations.CommitIsAllOrNothing := by
  intro s g fails leave t
  refine ⟨fun f => rdSh_congr (commitGroup_hsh ..) f, fun hu hl => ?_, fun hc hn f hf => ?_, fun hc hn => ?_⟩
  · subst hl
    exact congrArg Prod.fst (commitGroup_of_unchanged fails hu)
  · subst hn
    exact (congrArg (fun r => rd r.1 f) (commitGroup_of_pass hc)).trans (rd_copyShadow _ g hf)
  · have ht : t = refuseCommit s g fails := congrArg Prod.fst (commitGroup_of_fail hc hn)
    refine ⟨fun f hf => rd_H_congr hf (ht ▸ refuseCommit_hact s g fails), congrArg Prod.snd (commitGroup_of_fail hc hn),
      fun hs => ht.trans (refuseCommit_of_silent fails hs), fun hs => ?_⟩
    rw [ht, refuseCommit_of_first fails hs]
    exact ⟨rd_cfgError_pairErr .., fun hr => queued_cfgError_pair _ rfl rfl hr⟩

/-! Small facts about register bits, events and parts of the state that several statements share. -/

theorem setBit_succ (v n : Nat) : setBit v (n + 1) = 2 * setBit (v / 2) n + v % 2 := by
  unfold setBit
  rw [Nat.testBit_succ, Nat.pow_succ]
  split <;> omega

theorem testBit_setBit (v n m : Nat) : (setBit v n).testBit m = (v.testBit m || decide (n = m)) := by
  induction n generalizing v m with
  | zero =>
    have h : setBit v 0 = 2 * (v / 2) + 1 := by
      unfold setBit
      rw [Nat.testBit_zero]
      split_ifs with h <;> simp only [decide_eq_true_eq] at h <;> omega
    cases m with
    | zero => rw [h, Nat.testBit_zero]; simp
    | succ m => rw [h, Nat.testBit_succ, Nat.testBit_succ, Nat.mul_add_div Nat.two_pos]; simp
  | succ n ih =>
    cases m with
    | zero => rw [setBit_succ, Nat.testBit_zero, Nat.testBit_zero]; simp [Nat.add_mod]
    | succ m =>
      have h : (2 * setBit (v / 2) n + v % 2) / 2 = setBit (v / 2) n := by omega
      rw [setBit_succ, Nat.testBit_succ, h, ih, Nat.testBit_succ]
      simp

/-- What holds of the state that a command's meaning equals. -/
theorem gives_next {c : Instr} {s t u : State} {P : State → Prop} (hx : exec c s = .next u) (hu : u = t) (hp : P t) : Gives c s P :=
  ⟨t, hu ▸ hx, hp⟩

/-- The next states of a command differ in no part outside its set. -/
theorem within_of_mask {m : Nat} {c : Instr} {s : State} {ps : List Part} (h : KeepsO m s (exec c s))
    (hm : (allParts.all fun p => ps.contains p || !m.testBit (partBit p)) = true) : Within c s ps := by
  refine within_of_keeps h ps fun p hp => ?_
  have := List.all_eq_true.mp hm p (by cases p <;> decide)
  simpa [hp] using this

/-! ### The pending classes (R34) -/

theorem bit_setBit_mod (v n : Nat) {m w : Nat} (h : m < w) : bit (setBit v n % 2 ^ w) m = (bit v m || decide (n = m)) := by
  simp [bit, Nat.testBit_mod_two_pow, testBit_setBit, h]

theorem announced_alertPend (s : State) {c : Nat} (hc : eventClass c < 8) : Announced (alertPend s c) c := by
  have hF : eventClass c ≠ 0xF := by omega
  unfold Announced alertPend
  rw [if_neg hF, rd_wr]
  exact (bit_setBit_mod _ _ hc).trans (by simp)

theorem announced_of_alertPend {s : State} {c : Nat} (d : Nat) (hc : eventClass c < 8) (h : Announced s c) : Announced (alertPend s d) c := by
  unfold Announced at h ⊢
  unfold alertPend
  split
  · rwa [rd_wr_ne _ _ (by decide)]
  · rw [rd_wr]
    exact (bit_setBit_mod _ _ hc).trans (by rw [h, Bool.true_or])

theorem announced_of_enqueue {s : State} {c : Nat} (d a : Nat) (h : Announced s c) : Announced (enqueue s d a) c := by
  unfold Announced at h ⊢
  unfold enqueue
  dsimp only
  split
  · exact h
  · rwa [rd_wr_ne _ _ (by decide)]

/-- An issued event has its class pending. -/
theorem announced_raise {s : State} {c : Nat} (a : Nat) (hp : packageHeld s = false) (hc : eventClass c < 8) : Announced (raise s c a) c := by
  have h1 := announced_alertPend s hc
  have h2 := announced_of_enqueue c a h1
  unfold raise
  rw [if_neg (by simp [hp])]
  dsimp only
  rw [if_neg (by omega)]
  split
  · exact announced_of_enqueue _ _ (announced_of_alertPend _ hc h2)
  · exact h2

theorem packageHeld_congr {s t : State} (h : t.rst = s.rst) : packageHeld t = packageHeld s := by
  unfold packageHeld
  rw [h]

theorem room_congr {s t : State} (hr : t.rst = s.rst) (he : t.events = s.events) (h : Room s) : Room t := by
  unfold Room at h ⊢
  rwa [packageHeld_congr hr, he]

/-! ### Frames of an update of one part -/

section
variable {s t : State} {rs : List Fld} {ps : List Part}

theorem frame_rst (x : ResetS) (hp : Part.rst ∈ ps) (h : Frame s t rs ps) : Frame s { t with rst := x } rs ps :=
  frame_part h rfl rfl rfl fun p hq => by cases p <;> first | rfl | exact absurd hp hq

theorem frame_events (x : EventQueue) (hp : Part.events ∈ ps) (h : Frame s t rs ps) : Frame s { t with events := x } rs ps :=
  frame_part h rfl rfl rfl fun p hq => by cases p <;> first | rfl | exact absurd hp hq

theorem frame_time (x : TimeS) (hp : Part.time ∈ ps) (h : Frame s t rs ps) : Frame s { t with time := x } rs ps :=
  frame_part h rfl rfl rfl fun p hq => by cases p <;> first | rfl | exact absurd hp hq

theorem frame_air (x : AirS) (hp : Part.air ∈ ps) (h : Frame s t rs ps) : Frame s { t with air := x } rs ps :=
  frame_part h rfl rfl rfl fun p hq => by cases p <;> first | rfl | exact absurd hp hq

theorem frame_beam (x : BeamS) (hp : Part.beam ∈ ps) (h : Frame s t rs ps) : Frame s { t with beam := x } rs ps :=
  frame_part h rfl rfl rfl fun p hq => by cases p <;> first | rfl | exact absurd hp hq

theorem frame_absent (x : List Nat) (hp : Part.absent ∈ ps) (h : Frame s t rs ps) : Frame s { t with absent := x } rs ps :=
  frame_part h rfl rfl rfl fun p hq => by cases p <;> first | rfl | exact absurd hp hq

theorem frame_chorus (x : ChorusS) (hp : Part.chorus ∈ ps) (h : Frame s t rs ps) : Frame s { t with chorus := x } rs ps :=
  frame_part h rfl rfl rfl fun p hq => by cases p <;> first | rfl | exact absurd hp hq

theorem frame_link (x : LinkS) (hp : Part.link ∈ ps) (h : Frame s t rs ps) : Frame s { t with link := x } rs ps :=
  frame_part h rfl rfl rfl fun p hq => by cases p <;> first | rfl | exact absurd hp hq

theorem frame_pool (x : PoolS) (hp : Part.pool ∈ ps) (h : Frame s t rs ps) : Frame s { t with pool := x } rs ps :=
  frame_part h rfl rfl rfl fun p hq => by cases p <;> first | rfl | exact absurd hp hq

theorem frame_flash (x : FlashS) (hp : Part.flash ∈ ps) (h : Frame s t rs ps) : Frame s { t with flash := x } rs ps :=
  frame_part h rfl rfl rfl fun p hq => by cases p <;> first | rfl | exact absurd hp hq

theorem frame_boot (x : BootS) (hp : Part.boot ∈ ps) (h : Frame s t rs ps) : Frame s { t with boot := x } rs ps :=
  frame_part h rfl rfl rfl fun p hq => by cases p <;> first | rfl | exact absurd hp hq

theorem frame_sec (x : SecS) (hp : Part.sec ∈ ps) (h : Frame s t rs ps) : Frame s { t with sec := x } rs ps :=
  frame_part h rfl rfl rfl fun p hq => by cases p <;> first | rfl | exact absurd hp hq

theorem frame_power (x : PowerS) (hp : Part.power ∈ ps) (h : Frame s t rs ps) : Frame s { t with power := x } rs ps :=
  frame_part h rfl rfl rfl fun p hq => by cases p <;> first | rfl | exact absurd hp hq

theorem frame_free (x : Nat) (hp : Part.free ∈ ps) (h : Frame s t rs ps) : Frame s { t with free := x } rs ps :=
  frame_part h rfl rfl rfl fun p hq => by cases p <;> first | rfl | exact absurd hp hq

theorem frame_silent (x : List Nat) (hp : Part.silent ∈ ps) (h : Frame s t rs ps) : Frame s { t with silent := x } rs ps :=
  frame_part h rfl rfl rfl fun p hq => by cases p <;> first | rfl | exact absurd hp hq

/-- A part that is the same after all leaves the frame. -/
theorem frame_drop {p : Part} (h : Frame s t rs (p :: ps)) (hp : SamePart s t p) : Frame s t rs ps := by
  refine ⟨h.1, fun q hq => ?_, h.2.2⟩
  by_cases hqp : q = p
  · exact hqp ▸ hp
  · exact h.2.1 q (by simp [hqp, hq])

end

/-! ### Places of indexed fields -/

section
variable {a b n m i j k v w x y : Nat} {p q : Acc} {c d : Cls}

/-- Two fields of the blocks of one index. -/
theorem key_ne (h : a * 32 + i ≠ b * 32 + j) : Fld.key ⟨a + n, i, v, p, c, x⟩ ≠ Fld.key ⟨b + n, j, w, q, d, y⟩ := by
  simp only [Fld.key]
  omega

/-- Fields of the blocks of two units. -/
theorem key_ne_unit (h : n ≠ m) (hab : a / 4096 = b / 4096) (hi : i < 32) (hj : j < 32) :
    Fld.key ⟨a + 0x1000 * n, i, v, p, c, x⟩ ≠ Fld.key ⟨b + 0x1000 * m, j, w, q, d, y⟩ := by
  simp only [Fld.key]
  omega

/-- A field of an indexed block lies past the fixed ones. -/
theorem lt_key (h : k < a * 32) : k < Fld.key ⟨a + n, i, v, p, c, x⟩ := by
  simp only [Fld.key]
  omega

/-- Fields at different places in the blocks of any two units. -/
theorem key_ne_place (h : a % 4096 * 32 + i ≠ b % 4096 * 32 + j) (hi : i < 32) (hj : j < 32) :
    Fld.key ⟨a + 0x1000 * n, i, v, p, c, x⟩ ≠ Fld.key ⟨b + 0x1000 * m, j, w, q, d, y⟩ := by
  simp only [Fld.key]
  omega

/-- Fields of the words of two domains, channels or tables: one register for each index. -/
theorem key_ne_word (h : n ≠ m) (hi : i < 32) (hj : j < 32) : Fld.key ⟨a + 0x4 * n, i, v, p, c, x⟩ ≠ Fld.key ⟨a + 0x4 * m, j, w, q, d, y⟩ := by
  simp only [Fld.key]
  omega

/-- A field of an indexed block past a fixed one. -/
theorem key_ne_fixed (h : k < a * 32) : Fld.key ⟨a + n, i, v, p, c, x⟩ ≠ k := by
  simp only [Fld.key]
  omega

/-- A field of an indexed block past offset 0xA0000 is none of those that issuing an event writes. -/
theorem key_ne_event (h : 0xA0000 ≤ a) : ∀ e ∈ eventFields, Fld.key ⟨a + n, i, v, p, c, x⟩ ≠ e.key := by
  intro e he
  have hall : ∀ e ∈ eventFields, e.key < 0xA0000 * 32 := by decide
  have := hall e he
  exact key_ne_fixed (by omega)

end

/-! ### Loops -/

/-- What one turn of a loop sets up and every turn keeps holds at its end. -/
theorem forEach_of_mem {α : Type} {P : State → Prop} {g : State → α → State} {l : List α} {k : α} (hset : ∀ s, P (g s k))
    (hkeep : ∀ s a, P s → P (g s a)) (s : State) (h : k ∈ l ∨ P s) : P (forEach l s g) := by
  induction l generalizing s with
  | nil => exact h.resolve_left (by simp)
  | cons a l ih =>
    refine ih (g s a) ?_
    rcases h with h | h
    · rcases List.mem_cons.mp h with rfl | h
      · exact .inr (hset s)
      · exact .inl h
    · exact .inr (hkeep s a h)

/-- What no turn of a loop changes is the same at its end. -/
theorem forEach_same {α β : Type} (p : State → β) {g : State → α → State} {l : List α} (h : ∀ s, ∀ a ∈ l, p (g s a) = p s) (s : State) :
    p (forEach l s g) = p s := by
  induction l generalizing s with
  | nil => rfl
  | cons a l ih => exact (ih (fun s b hb => h s b (List.mem_cons_of_mem _ hb)) _).trans (h s a (List.mem_cons_self ..))

/-! ### A unit's paths -/

@[simp] theorem unit_modRx (s : State) (u : Nat) (g : RxUnit → RxUnit) : (s.modRx u g).unit u = { s.unit u with rx := g (s.unit u).rx } :=
  unit_modUnit ..

@[simp] theorem unit_modTx (s : State) (u : Nat) (g : TxUnit → TxUnit) : (s.modTx u g).unit u = { s.unit u with tx := g (s.unit u).tx } :=
  unit_modUnit ..

@[simp] theorem cluster_modCluster (s : State) (c : Nat) (g : ClusterS → ClusterS) : (s.modCluster c g).cluster c = g (s.cluster c) := get_set ..

theorem cluster_congr {s t : State} (h : t.clusters = s.clusters) (c : Nat) : t.cluster c = s.cluster c := by
  unfold State.cluster
  rw [h]

theorem unit_congr {s t : State} (h : t.units = s.units) (u : Nat) : t.unit u = s.unit u := by
  unfold State.unit
  rw [h]

@[simp] theorem rd_markTag (s : State) (u t n : Nat) (f : Fld) : rd (markTag s u t n) f = rd s f := rfl

theorem frame_markTag {s t : State} {rs : List Fld} {ps : List Part} (u g n : Nat) (hp : Part.units ∈ ps) (h : Frame s t rs ps) :
    Frame s (markTag t u g n) rs ps := frame_modRx u _ hp h

theorem unitEnabled_congr {s t : State} (h : t.fuse = s.fuse) (u : Nat) : unitEnabled t u = unitEnabled s u := by
  unfold unitEnabled
  rw [h]

/-! ### Single-bit fields -/

theorem on_eq_true {s : State} {f : Fld} : on s f = true ↔ rd s f = 1 := by
  simp [on]

theorem on_congr {s t : State} {f : Fld} (h : rd t f = rd s f) : on t f = on s f := by
  unfold on
  rw [h]

theorem on_wr_ne (s : State) {f g : Fld} (v : Nat) (h : g.key ≠ f.key) : on (wr s f v) g = on s g := on_congr (rd_wr_ne s v h)

/-! Resets of PACKAGE and SYSTEM reach (R35 to R40). -/

/-! ### What a reset of PACKAGE or SYSTEM reach keeps -/

theorem get_get (t : Tbl Nat) (k d : Nat) : t.get k (t.get k d) = t.get k d := by
  induction t with
  | nil => rfl
  | cons p r ih =>
    obtain ⟨j, v⟩ := p
    by_cases h : j = k
    · simp [Tbl.get, h]
    · simp [Tbl.get, h, ih]

/-- A plane rebuilt from some of its ranges: the keys of the ranges keep their values. -/
theorem get_keepRanges (act t : Tbl Nat) (l : List (Nat × Nat)) (k d : Nat) :
    (l.foldl (fun t r => Tbl.merge t (act.range r.1 r.2)) t).get k d =
      if l.any (fun r => decide (r.1 ≤ k) && decide (k < r.2)) then act.get k (t.get k d) else t.get k d := by
  induction l generalizing t with
  | nil => rfl
  | cons r l ih =>
    rw [List.foldl_cons, ih, get_merge]
    by_cases h : r.1 ≤ k ∧ k < r.2
    · have hr : (decide (r.1 ≤ k) && decide (k < r.2)) = true := by simpa using h
      rw [get_range _ _ h, get_get, ite_self, List.any_cons, hr, Bool.true_or, if_pos rfl]
    · have hr : (decide (r.1 ≤ k) && decide (k < r.2)) = false := by simpa using h
      rw [get_range_out _ _ h, List.any_cons, hr, Bool.false_or]

/-- A register of class S or L keeps its value over a reset of PACKAGE or SYSTEM reach where it lies in the AON ranges, and is reset elsewhere. -/
theorem rd_resetPackage (s : State) (reach : Nat) (por : Bool) {f : Fld} (hf : f.cls = .L) (hs : f.key ≠ Reg.SEC_STATUS_SLOTS.key)
    (hd : f.key ≠ Reg.SEC_STATUS_DBG_UNLOCKED.key) : rd (resetPackage s reach por) f =
      if (aonKept por).any (fun r => decide (r.1 ≤ f.key) && decide (f.key < r.2)) then rd s f else f.reset := by
  have hrd (s : State) : rd s f = s.act.get f.key f.reset := by simp [rd, hf]
  have hk := get_keepRanges s.act [] (aonKept por) f.key f.reset
  unfold resetPackage
  dsimp only
  split
  · rw [hrd, hrd]
    exact hk
  · unfold showSlots
    rw [rd_wr_ne _ _ hs, rd_wr_ne _ _ hd, hrd, hrd]
    exact hk

theorem resetPackage_parts (s : State) (reach : Nat) (por : Bool) : (resetPackage s reach por).events = {} ∧ (resetPackage s reach por).air = {} ∧
    (resetPackage s reach por).flash = s.flash ∧ (resetPackage s reach por).fuse = s.fuse := by
  unfold resetPackage showSlots
  dsimp only
  split <;> simp

theorem resetPackage_rst (s : State) (reach : Nat) (por : Bool) : (resetPackage s reach por).rst =
    { s.rst with widest := max s.rst.widest reach, request := none, restoring := [], delayed := [] } := by
  unfold resetPackage showSlots
  dsimp only
  split <;> simp

theorem resetPackage_mem_system (s : State) (por : Bool) : (resetPackage s 4 por).mem = [] := rfl

theorem resetPackage_mem_package (s : State) (por : Bool) : (resetPackage s 3 por).mem = s.mem.clear dieEnd (2 ^ 50) := by
  unfold resetPackage showSlots
  simp

theorem modeOf_resetPackage (s : State) (reach : Nat) (por : Bool) : modeOf (resetPackage s reach por) = mBoot := by
  refine (rd_resetPackage s reach por rfl (by decide) (by decide)).trans ?_
  cases por <;> rfl

theorem rd_resetPackage_cause (s : State) (reach : Nat) : rd (resetPackage s reach false) Reg.RESET_CAUSE_SRC = rd s Reg.RESET_CAUSE_SRC :=
  rd_resetPackage s reach false rfl (by decide) (by decide)

/-! ### A source of PACKAGE or SYSTEM reach -/

/-- The reset controller with source `r` asserted over all that was asserted. -/
def wideRst (s : State) (r : ResetSource) : ResetS :=
  { s.rst with
    sources := { r with ovr := true } ::
      (s.rst.sources.filter fun (x : ResetSource) => !(x.src == r.src && x.blk == r.blk)).map fun (x : ResetSource) => { x with ovr := true }
    mtpPulse := s.rst.mtpPulse && !(r.src == 0) }

/-- A source of PACKAGE or SYSTEM reach other than POR: what it clears, with its bit in RESET_CAUSE. -/
theorem assertNow_wide {s : State} {r : ResetSource} (hr : 3 ≤ r.reach) (h0 : r.src ≠ 0) :
    assertNow s r = causeBit (resetPackage { s with rst := wideRst s r } r.reach false) r.src := by
  have hb : (r.src == 0) = false := by simpa using h0
  unfold assertNow wideRst
  rw [if_pos hr]
  simp [hb]

theorem packageHeld_of_wide {t : State} {r : ResetSource} {l : List ResetSource} (hr : 3 ≤ r.reach) (h : t.rst.sources = r :: l) :
    packageHeld t = true := by
  unfold packageHeld
  rw [h, List.any_cons, decide_eq_true hr, Bool.true_or]

/-- What POR leaves: its own bit alone in RESET_CAUSE. -/
theorem assertNow_por {s : State} {r : ResetSource} (hr : 3 ≤ r.reach) (h0 : r.src = 0) : ∃ s0 : State, s0.fuse = s.fuse ∧ s0.flash = s.flash ∧
    ∃ t, assertNow s r = wr t Reg.RESET_CAUSE_SRC 1 ∧
      t = { resetPackage { s0 with rst := wideRst s r } r.reach true with
        rst := { (resetPackage { s0 with rst := wideRst s r } r.reach true).rst with blkSeen := false } } := by
  unfold assertNow wideRst
  rw [if_pos hr]
  refine ⟨if s.rst.mtpPulse then wr s Reg.SEC_MIN_VER_MIN_VER s.sec.minPrev else s, ?_, ?_, _, ?_, rfl⟩
  · split <;> simp
  · split <;> simp
  · simp [h0]

theorem fuseReach_cases (c : Nat) : fuseReach c = 3 ∨ fuseReach c = 4 := by
  unfold fuseReach
  split <;> simp

/-- While an MTP pulse runs, a source other than POR waits (R44). -/
theorem assertSrc_pulse {s : State} {r : ResetSource} (h : s.rst.mtpPulse = true) (h0 : r.src ≠ 0) :
    assertSrc s r = { s with rst := { s.rst with delayed := s.rst.delayed ++ [r] } } := by
  simp [assertSrc, h, h0]

/-- A source of PACKAGE or SYSTEM reach waits for no trim load (R49). -/
theorem assertSrc_wide {s : State} {r : ResetSource} (h : s.rst.mtpPulse = false ∨ r.src = 0) (hr : 3 ≤ r.reach) : assertSrc s r = assertNow s r := by
  have hlt : ¬ r.reach < 3 := by omega
  rcases h with h | h <;> simp [assertSrc, h, hlt]

/-- A source of Table 2.2 of PACKAGE or SYSTEM reach, other than POR, that asserts at once. -/
theorem sourceOn_effect {s : State} {src : Nat} (hr : reachOf s src = 3 ∨ reachOf s src = 4) (h0 : src ≠ 0) (hp : s.rst.mtpPulse = false) :
    let t := sourceOn s src
    rd t Reg.RESET_CAUSE_SRC = setBit (rd s Reg.RESET_CAUSE_SRC) src % 2 ^ 10 ∧ packageHeld t = true ∧ modeOf t = mBoot ∧
      t.events.entries = [] ∧ t.air = {} ∧ t.flash = s.flash ∧ t.fuse = s.fuse ∧
      (reachOf s src = 3 → ∀ a, a < dieEnd → memByte t a = memByte s a) ∧ (reachOf s src = 4 → ∀ a, memByte t a = 0) := by
  intro t
  let r : ResetSource := { src := src, reach := reachOf s src, blk := 0 }
  have hwide : 3 ≤ r.reach := by show 3 ≤ reachOf s src; omega
  let k := resetPackage { s with rst := wideRst s r } r.reach false
  have ht : t = wr k Reg.RESET_CAUSE_SRC (setBit (rd k Reg.RESET_CAUSE_SRC) src) :=
    (assertSrc_wide (.inl hp) hwide).trans (assertNow_wide hwide h0)
  have hcause : rd k Reg.RESET_CAUSE_SRC = rd s Reg.RESET_CAUSE_SRC := (rd_resetPackage_cause ..).trans rfl
  obtain ⟨hev, hair, hflash, hfuse⟩ := resetPackage_parts { s with rst := wideRst s r } r.reach false
  rw [hcause] at ht
  rw [ht]
  refine ⟨rd_wr .., ?_, ?_, ?_, ?_, ?_, ?_, fun h3 a ha => ?_, fun h4 a => ?_⟩
  · rw [packageHeld_wr]
    exact packageHeld_of_wide (r := { r with ovr := true }) hwide (by rw [resetPackage_rst]; rfl)
  · exact (rd_wr_ne _ _ (by decide)).trans (modeOf_resetPackage ..)
  · rw [wr_events, hev]
  · rw [wr_air, hair]
  · rw [wr_flash, hflash]
  · rw [wr_fuse, hfuse]
  · unfold memByte
    rw [wr_mem, show k.mem = s.mem.clear dieEnd (2 ^ 50) by
      show (resetPackage _ (reachOf s src) false).mem = _
      rw [h3]; exact resetPackage_mem_package .., get_clear _ _ (by omega)]
  · unfold memByte
    rw [wr_mem, show k.mem = [] by
      show (resetPackage _ (reachOf s src) false).mem = _
      rw [h4]; exact resetPackage_mem_system ..]
    rfl

theorem por_effect (s : State) :
    let t := sourceOn s 0
    rd t Reg.RESET_CAUSE_SRC = 1 ∧ packageHeld t = true ∧ modeOf t = mBoot ∧ t.events.entries = [] ∧ (∀ a, memByte t a = 0) ∧
      t.flash = s.flash ∧ t.fuse = s.fuse := by
  intro t
  let r : ResetSource := { src := 0, reach := 4, blk := 0 }
  have hassert : t = assertNow s r := assertSrc_wide (r := r) (.inr rfl) (by decide)
  obtain ⟨s0, hfuse0, hflash0, k, ht, hk⟩ := assertNow_por (s := s) (r := r) (by decide) rfl
  obtain ⟨hev, -, hflash, hfuse⟩ := resetPackage_parts { s0 with rst := wideRst s r } 4 true
  rw [hassert, ht]
  subst hk
  refine ⟨(rd_wr ..).trans rfl, ?_, ?_, ?_, fun a => ?_, ?_, ?_⟩
  · rw [packageHeld_wr]
    exact packageHeld_of_wide (r := { r with ovr := true }) (by decide) (by dsimp only; rw [resetPackage_rst]; rfl)
  · exact (rd_wr_ne _ _ (by decide)).trans (modeOf_resetPackage ..)
  · rw [wr_events]; exact congrArg EventQueue.entries hev
  · unfold memByte
    rw [wr_mem]; rfl
  · rw [wr_flash]; exact hflash.trans hflash0
  · rw [wr_fuse]; exact hfuse.trans hfuse0

/-- What a source that comes while an MTP pulse runs leaves: a delayed source, and nothing else (R44). -/
theorem sourceOn_pulse {s : State} {src : Nat} (h0 : src ≠ 0) (hp : s.rst.mtpPulse = true) :
    (sourceOn s src).rst = { s.rst with delayed := s.rst.delayed ++ [{ src := src, reach := reachOf s src, blk := 0 }] } ∧
      Frame s (sourceOn s src) [] [.rst] := by
  have h : sourceOn s src = { s with rst := { s.rst with delayed := s.rst.delayed ++ [{ src := src, reach := reachOf s src, blk := 0 }] } } :=
    assertSrc_pulse hp h0
  rw [h]
  exact ⟨rfl, frame_rst _ (by simp) (frame_refl ..)⟩

/-- The sources NRST_IN, WDOG and JTAG_RESET act as `sourceOn` where they are sampled. -/
theorem exec_source {s : State} {c : Instr} {src : Nat} (h : (c = Instr.nrstIn ∧ src = 1 ∧ nrstDriven s = false) ∨
    (c = Instr.wdog ∧ src = 4 ∧ packageHeld s = false) ∨ (c = Instr.jtagReset ∧ src = 7 ∧ on s Reg.SEC_STATUS_DBG_UNLOCKED = true)) :
    exec c s = .next (sourceOn s src) ∧ src ≠ 0 ∧ (reachOf s src = 3 ∨ reachOf s src = 4) := by
  rcases h with ⟨rfl, rfl, h⟩ | ⟨rfl, rfl, h⟩ | ⟨rfl, rfl, h⟩
  · exact ⟨by simp [exec, execNrstIn, h], by decide, fuseReach_cases _⟩
  · exact ⟨by simp [exec, execWdog, h], by decide, fuseReach_cases _⟩
  · exact ⟨by simp [exec, execJtagReset, h], by decide, fuseReach_cases _⟩

/-- Settles O11: a sampled source is `sourceOn`, which clears by `resetPackage` or waits for the pulse; POR waits for nothing. -/
theorem packageResetsHoldTheDeviceInBoot : Obligations.PackageResetsHoldTheDeviceInBoot := by
  intro s
  refine ⟨fun c src h => ?_, ⟨_, rfl, por_effect s⟩, fun h => ?_, fun h => ?_, fun h => ?_⟩
  · obtain ⟨hx, h0, hr⟩ := exec_source h
    exact ⟨fun hp => ⟨_, hx, sourceOn_effect hr h0 hp⟩, fun hp => ⟨_, hx, sourceOn_pulse h0 hp⟩⟩
  · simp [exec, execNrstIn, h]
  · simp [exec, execWdog, h]
  · simp [exec, execJtagReset, h]

/-! Block resets (R42, R43, R402) and trim loads (R44, R48, R50). -/

/-! ### Requests -/

/-- The quiesce actions of a request leave the reset controller. -/
theorem quiesce_rst (s : State) (l : List Nat) : (forEach l s quiesceBlock).rst = s.rst :=
  have h : Keeps 8596552 s (forEach l s quiesceBlock) :=
    keeps_forEach (keeps_refl _ s) fun _ _ h => keeps_quiesceBlock h rfl
  h.part .rst rfl

theorem showBusy_rst (s : State) : (showBusy s).rst = s.rst := wr_rst ..

theorem rd_showBusy_of_request {s : State} {q : BlkRequest} (h : s.rst.request = some q) : rd (showBusy s) Reg.BLK_RESET_BUSY = 1 := by
  unfold showBusy
  rw [rd_wr, h]
  rfl

/-- A request that begins waits in the reset controller, with BUSY shown. -/
theorem beginRequest_effect (s : State) (q : BlkRequest) :
    (beginRequest s q).rst = { s.rst with request := some q } ∧ rd (beginRequest s q) Reg.BLK_RESET_BUSY = 1 := by
  have h := quiesce_rst { s with rst := { s.rst with request := some q } } (quiesceUnder s q.blk)
  exact ⟨(showBusy_rst _).trans h, rd_showBusy_of_request (by rw [h])⟩

theorem blkListed_congr {s t : State} (h : t.fuse = s.fuse) (b : Nat) : blkListed t b = blkListed s b := by
  unfold blkListed unitEnabled clusterEnabled regionEnabled tileEnabled
  rw [h]

/-- A refused request: REFUSED and the event, nothing else. -/
theorem refuseReset_effect (s : State) (blk reach reason : Nat) : rd (refuseReset s blk reach reason true) Reg.BLK_RESET_REFUSED = 1 ∧
    (Room s → Queued s (refuseReset s blk reach reason true) 0x1011 (blk + 4096 * reach + 65536 * reason)) ∧
    Frame s (refuseReset s blk reach reason true) (Reg.BLK_RESET_REFUSED :: eventRegs) [.events] := by
  unfold refuseReset
  rw [if_pos rfl]
  refine ⟨?_, fun hr => queued_raise _ (by simp) (by simp) hr (by decide),
    frame_raise _ _ (List.subset_cons_self ..) (List.mem_singleton_self _) (frame_wr _ (List.mem_cons_self ..) (frame_refl ..))⟩
  rw [rd_raise _ _ _ (by decide), rd_wr]
  rfl

/-- A request that is listed and finds none waiting starts; any other is refused with its reason. -/
theorem requestBlk_cases (s : State) (b : Nat) (host : Bool) :
    (blkListed s b = true → on s Reg.BLK_RESET_BUSY = false →
      requestBlk s b host = (beginRequest s { blk := b, reach := blkReach b, src := 9, host := host }, true)) ∧
    (blkListed s b = false ∨ on s Reg.BLK_RESET_BUSY = true →
      requestBlk s b host = (refuseReset s b (blkReach b) (if blkListed s b then 1 else 3) true, false)) := by
  refine ⟨fun hl hb => by simp [requestBlk, hl, hb], fun h => ?_⟩
  cases hl : blkListed s b with
  | false => simp [requestBlk, hl]
  | true => simp [requestBlk, hl, h.resolve_left (by simp [hl])]

theorem blkResetGo_refused (s : State) {b : Nat} (h : blkListed s b = false ∨ on s Reg.BLK_RESET_BUSY = true) :
    let t := (requestBlk (wr s Reg.BLK_RESET_BLK_ID b) b false).1
    rd t Reg.BLK_RESET_REFUSED = 1 ∧ t.rst = s.rst ∧
      (Room s → Queued s t 0x1011 (b + 4096 * blkReach b + 65536 * (if blkListed s b then 1 else 3))) ∧
      Frame s t ([Reg.BLK_RESET_BLK_ID, Reg.BLK_RESET_REFUSED] ++ eventRegs) [.events] := by
  intro t
  let w := wr s Reg.BLK_RESET_BLK_ID b
  have hl : blkListed w b = blkListed s b := blkListed_congr (wr_fuse ..) b
  have hb : on w Reg.BLK_RESET_BUSY = on s Reg.BLK_RESET_BUSY := on_wr_ne s _ (by decide)
  have ht : t = refuseReset w b (blkReach b) (if blkListed s b then 1 else 3) true := by
    have h' := congrArg Prod.fst ((requestBlk_cases w b false).2 (by rwa [hl, hb]))
    rwa [hl] at h'
  obtain ⟨hrd, hq, hf⟩ := refuseReset_effect w b (blkReach b) (if blkListed s b then 1 else 3)
  rw [ht]
  refine ⟨hrd, (samePart_of_frame hf (p := .rst) (by simp)).trans (wr_rst ..), fun hr => ?_,
    frame_step (frame_wr _ (by simp) (frame_refl ..)) (frame_mono hf (List.subset_cons_self ..) (List.Subset.refl _))⟩
  obtain ⟨e, he, hrest⟩ := hq (room_congr (wr_rst ..) (wr_events ..) hr)
  exact ⟨e, by rw [he, wr_events], hrest⟩

theorem blkResetGo_started (s : State) {b : Nat} (hl : blkListed s b = true) (hb : on s Reg.BLK_RESET_BUSY = false) :
    let t := (requestBlk (wr s Reg.BLK_RESET_BLK_ID b) b false).1
    t.rst.request = some { blk := b, reach := blkReach b, src := 9, host := false } ∧ rd t Reg.BLK_RESET_BUSY = 1 := by
  intro t
  have ht : t = beginRequest (wr s Reg.BLK_RESET_BLK_ID b) { blk := b, reach := blkReach b, src := 9, host := false } :=
    congrArg Prod.fst ((requestBlk_cases _ b false).1 ((blkListed_congr (wr_fuse ..) b).trans hl) ((on_wr_ne s _ (by decide)).trans hb))
  obtain ⟨hr, hbusy⟩ := beginRequest_effect (wr s Reg.BLK_RESET_BLK_ID b) { blk := b, reach := blkReach b, src := 9, host := false }
  rw [ht]
  exact ⟨by rw [hr], hbusy⟩

/-! ### A source of a narrow reach asserts -/

/-- A narrow source that asserts at once stands among the sources, and leaves the request and the pulse as they were. -/
theorem assertNow_narrow (s : State) {r : ResetSource} (hr : r.reach < 3) :
    ((assertNow s r).rst.request = s.rst.request ∧ (assertNow s r).rst.mtpPulse = s.rst.mtpPulse) ∧
      ∃ x ∈ (assertNow s r).rst.sources, x.src = r.src ∧ x.blk = r.blk ∧ x.reach = r.reach ∧ x.forced = r.forced := by
  have hreset (t : State) (b : Nat) : (resetBlock t b).rst = t.rst := (keeps_resetBlock (w₀ := 25421785) (keeps_refl _ t) rfl).part .rst rfl
  have hsleep : (dropSleep s).rst = s.rst := (keeps_dropSleep (w₀ := 4194304) (keeps_refl _ s) rfl).part .rst rfl
  have hcause (t : State) (b : Nat) : (causeBit t b).rst = t.rst := wr_rst ..
  have hrec (t : State) : (recordBlk t r).rst = { t.rst with blkSeen := true } := by simp [recordBlk]
  unfold assertNow
  rw [if_neg (by omega)]
  dsimp only
  rw [hreset]
  refine ⟨?_, _, List.mem_cons_self .., rfl, rfl, rfl, rfl⟩
  split_ifs <;> simp only [hrec, hcause, hsleep, and_self]

/-- A narrow source asserts at once where no pulse and no load runs. -/
theorem assertSrc_narrow {s : State} (r : ResetSource) (hp : s.rst.mtpPulse = false) (hl : s.boot.loading = false) :
    assertSrc s r = assertNow s r := by
  simp [assertSrc, hp, hl]

/-- The end of a quiesce wait puts the request's source in force. -/
theorem endQuiesce_effect {s : State} {q : BlkRequest} (forced : Bool) (hq : s.rst.request = some q) (hr : q.reach < 3)
    (hp : s.rst.mtpPulse = false) (hl : s.boot.loading = false) :
    (endQuiesce s forced).rst.request = none ∧
      ∃ r ∈ (endQuiesce s forced).rst.sources, r.src = q.src ∧ r.blk = q.blk ∧ r.reach = q.reach ∧ r.forced = forced := by
  unfold endQuiesce
  rw [hq]
  dsimp only
  rw [showBusy_rst, assertSrc_narrow (s := { s with rst := { s.rst with request := none } }) _ hp hl]
  obtain ⟨⟨hreq, -⟩, hsrc⟩ := assertNow_narrow { s with rst := { s.rst with request := none } }
    (r := { src := q.src, reach := q.reach, blk := q.blk, host := q.host, forced := forced }) hr
  exact ⟨hreq, hsrc⟩

theorem endQuiesce_none {s : State} (forced : Bool) (hq : s.rst.request = none) : endQuiesce s forced = s := by
  unfold endQuiesce
  rw [hq]

theorem unitsQuiet_none {s : State} (hq : s.rst.request = none) : unitsQuiet s = true := by
  unfold unitsQuiet
  rw [hq]

theorem exec_quiesceAck {s : State} (h : unitsQuiet s = true) : exec .quiesceAck s = .next (endQuiesce s false) := by
  simp [exec, execQuiesceAck, h]

/-! ### Restores -/

/-- The restore of a source's blocks leaves the reset controller. -/
theorem restores_rst (s : State) (l : List Nat) : (forEach l s restoreOwn).rst = s.rst :=
  have h : Keeps 58748761 s (forEach l s restoreOwn) := keeps_forEach (keeps_refl _ s) fun _ _ h => keeps_restoreOwn h rfl
  h.part .rst rfl

theorem applyInitIn_rst (s : State) (a b : Nat) : (applyInitIn s a b).rst = s.rst :=
  (keeps_applyInitIn (w₀ := 50331905) (keeps_refl _ s) rfl).part .rst rfl

/-- The end of a restore takes its source out, announces event 0x0011 and leaves the flash. -/
theorem endRestore_effect {s : State} (r : ResetSource) (hp : packageHeld s = false) :
    (endRestore s r).rst.restoring = s.rst.restoring.filter (fun x => x != r) ∧ Announced (endRestore s r) 0x0011 ∧
      (endRestore s r).flash = s.flash := by
  let u : State := { s with rst := { s.rst with restoring := s.rst.restoring.filter fun x => x != r } }
  have hinit : (if r.blk = 0x500 then applyInitIn (applyInitIn (applyInitIn u 0x400000 0x401000) 0x90000 0x90004) 0x90008 0xA0000 else u).rst = u.rst := by
    split
    · rw [applyInitIn_rst, applyInitIn_rst, applyInitIn_rst]
    · rfl
  refine ⟨?_, ?_, (keeps_endRestore (w₀ := 58748765) (keeps_refl _ s) rfl).part .flash rfl⟩
  · unfold endRestore
    dsimp only
    rw [samePart_of_frame (frame_raise_self ..) (p := .rst) (by simp), showBusy_rst, restores_rst, hinit]
  · unfold endRestore
    refine announced_raise _ ?_ (by decide)
    rw [packageHeld_congr ((showBusy_rst _).trans ((restores_rst _ _).trans hinit))]
    exact hp

/-- A tile's fault starts a request of its own (R402). -/
theorem tileFault_effect {s : State} {t : Nat} (he : tileEnabled s t = true) (hh : blockHeld s (0x400 + t) = false) (hq : s.rst.request = none) :
    rd (tileFault s t) Reg.BLK_RESET_BUSY = 1 ∧ (tileFault s t).rst.request =
      some { blk := if reachOf s 8 = 2 then 0x500 else 0x400 + t, reach := reachOf s 8, src := 8, host := false } := by
  have hf := frame_raise_self s 0x20A0 t
  have hrst : (raise s 0x20A0 t).rst = s.rst := samePart_of_frame hf (p := .rst) (by simp)
  have hreach : reachOf (raise s 0x20A0 t) 8 = reachOf s 8 := by
    unfold reachOf
    rw [show (raise s 0x20A0 t).fuse = s.fuse from samePart_of_frame hf (p := .fuse) (by simp)]
  have ht : tileFault s t = beginRequest (raise s 0x20A0 t)
      { blk := if reachOf s 8 = 2 then 0x500 else 0x400 + t, reach := reachOf s 8, src := 8, host := false } := by
    unfold tileFault
    simp [he, hh, hrst, hq]
  obtain ⟨hr, hb⟩ := beginRequest_effect (raise s 0x20A0 t)
      { blk := if reachOf s 8 = 2 then 0x500 else 0x400 + t, reach := reachOf s 8, src := 8, host := false }
  rw [ht]
  exact ⟨hb, by rw [hr]⟩

/-- Settles O12. -/
theorem blockResetRequests : Obligations.BlockResetRequests := by
  intro s blk tile
  refine ⟨fun hl hb => ⟨_, rfl, blkResetGo_started s hl hb⟩, fun h => ⟨_, rfl, blkResetGo_refused s h⟩, fun q c hq hr hp hl hc => ?_,
    fun c hc hq => ?_, fun r hr hp => ⟨_, rfl, ?_⟩, fun hr => ?_, fun he hh hq => ⟨_, rfl, tileFault_effect he hh hq⟩,
    within_of_mask (keepsO_execBlkResetGo (w₀ := 8596556) (keeps_refl _ s) rfl) (by decide)⟩
  · rcases hc with ⟨rfl, hu⟩ | rfl
    · exact ⟨_, exec_quiesceAck hu, endQuiesce_effect false hq hr hp hl⟩
    · exact ⟨_, rfl, endQuiesce_effect true hq hr hp hl⟩
  · rcases hc with rfl | rfl
    · rw [exec_quiesceAck (unitsQuiet_none hq), endQuiesce_none _ hq]
    · exact congrArg _ (endQuiesce_none _ hq)
  · rw [hr]
    exact endRestore_effect r hp
  · simp [exec, execBlockRestored, hr]

/-! ### Trim loads -/

theorem assertDelayed_nil {s : State} (h : s.rst.delayed = []) : assertDelayed s = s := by
  unfold assertDelayed
  rw [h]
  show { s with rst := { s.rst with delayed := [] } } = s
  rw [← h]

/-- A load outside the start that verifies shows TRIM_VALID and clears the failures. -/
theorem endLoad_ok {s : State} (hl : s.boot.loading = true) (hm : modeOf s ≠ mBoot) (hd : s.rst.delayed = []) :
    endLoad s true = wr (wr (wr { s with boot := { s.boot with loading := false } } Reg.BOOT_STATUS_TRIM_VALID 1) Reg.BOOT_STATUS_TRIM_FAIL 0)
      Reg.BOOT_STATUS_TRIM_FAILS 0 := by
  have hb : (modeOf s == mBoot) = false := by simpa using hm
  unfold endLoad
  simp only [hl, hb, Bool.not_true, Bool.false_and, Bool.false_eq_true, if_false, if_true]
  exact assertDelayed_nil (by simpa using hd)

/-- The first two loads that do not verify are counted, logged and tried again. -/
theorem endLoad_retry {s : State} (hl : s.boot.loading = true) (hn : rd s Reg.BOOT_STATUS_TRIM_FAILS < 2) :
    endLoad s false =
      let s2 := logEntry (wr { s with boot := { s.boot with loading := false } } Reg.BOOT_STATUS_TRIM_FAILS (rd s Reg.BOOT_STATUS_TRIM_FAILS + 1)) 2
        (rd s Reg.BOOT_STATUS_TRIM_FAILS + 1)
      { s2 with boot := { s2.boot with loading := true } } := by
  have h3 : rd s Reg.BOOT_STATUS_TRIM_FAILS + 1 < 3 := by omega
  unfold endLoad
  simp only [hl, h3, Bool.not_true, Bool.false_eq_true, if_false, if_true, Nat.min_eq_left (Nat.le_of_lt h3)]

theorem endLoad_idle {s : State} (ok : Bool) (hl : s.boot.loading = false) : endLoad s ok = s := by
  simp [endLoad, hl]

/-- The end of a pulse lets one held-off source assert, and the pulse is over. -/
theorem assertDelayed_one {s : State} {r : ResetSource} (hd : s.rst.delayed = [r]) (hp : s.rst.mtpPulse = false) (hl : s.boot.loading = false) :
    (assertDelayed s).rst.mtpPulse = false ∧ ∃ x ∈ (assertDelayed s).rst.sources, x.src = r.src ∧ x.reach = r.reach ∧ x.blk = r.blk := by
  let u : State := { s with rst := { s.rst with delayed := [] } }
  have h : assertDelayed s = assertNow u r := by
    unfold assertDelayed
    rw [hd]
    exact assertSrc_narrow r hp hl
  rw [h]
  by_cases hr : r.reach < 3
  · obtain ⟨⟨-, hpulse⟩, x, hx, h1, h2, h3, -⟩ := assertNow_narrow u hr
    exact ⟨hpulse.trans hp, x, hx, h1, h3, h2⟩
  · have hpulse : (wideRst u r).mtpPulse = false := by show (s.rst.mtpPulse && _) = false; rw [hp, Bool.false_and]
    by_cases h0 : r.src = 0
    · obtain ⟨s0, -, -, k, ht, hk⟩ := assertNow_por (s := u) (Nat.le_of_not_lt hr) h0
      rw [ht, hk, wr_rst]
      dsimp only
      rw [resetPackage_rst]
      exact ⟨hpulse, _, List.mem_cons_self .., rfl, rfl, rfl⟩
    · rw [assertNow_wide (Nat.le_of_not_lt hr) h0, causeBit, wr_rst, resetPackage_rst]
      exact ⟨hpulse, _, List.mem_cons_self .., rfl, rfl, rfl⟩

/-- Settles O14. -/
theorem trimLoadsAndPulses : Obligations.TrimLoadsAndPulses := by
  intro s
  refine ⟨fun hm hl => ⟨beginLoad s, by simp [exec, execReloadTrim, hm, hl], ?_⟩, fun h => ⟨refuseReset s 0 0 4 true, ?_, ?_⟩, fun hl hm hd => ⟨_, rfl, ?_⟩,
    fun hl hn => ⟨_, rfl, ?_⟩, fun ok hl => congrArg _ (endLoad_idle ok hl), fun hp hd => ⟨{ s with rst := { s.rst with mtpPulse := false } }, ?_, rfl, frame_rst _ (by simp) (frame_refl ..)⟩,
    fun r hp hd hl => ⟨assertDelayed { s with rst := { s.rst with mtpPulse := false } }, ?_, assertDelayed_one hd rfl hl⟩, fun hp => ?_, rfl⟩
  · exact ⟨rd_wr s Reg.BOOT_STATUS_TRIM_VALID 0, by simp [beginLoad], frame_boot _ (by simp) (frame_wr _ (by simp) (frame_refl ..))⟩
  · have : ¬ (modeOf s = mIdle ∧ (!s.boot.loading) = true) := by
      rintro ⟨hm, hl⟩
      rcases h with h | h
      · exact h hm
      · simp [h] at hl
    exact congrArg _ (if_neg this)
  · exact refuseReset_effect s 0 0 4
  · rw [endLoad_ok hl hm hd]
    refine ⟨?_, ?_, (rd_wr ..).trans (Nat.zero_mod _), by simp, ?_⟩
    · rw [rd_wr_ne _ _ (by decide), rd_wr_ne _ _ (by decide), rd_wr]; rfl
    · rw [rd_wr_ne _ _ (by decide), rd_wr]; rfl
    · exact frame_wr _ (by simp) (frame_wr _ (by simp) (frame_wr _ (by simp) (frame_boot _ (by simp) (frame_refl ..))))
  · have hboot : (endLoad s false).boot = s.boot := by
      rw [endLoad_retry hl hn]
      simp [logEntry, ← hl]
    rw [endLoad_retry hl hn] at hboot ⊢
    exact ⟨(rd_wr { s with boot := { s.boot with loading := false } } Reg.BOOT_STATUS_TRIM_FAILS _).trans (Nat.mod_eq_of_lt (show _ < 4 by omega)),
      hboot, by simp [logEntry], frame_drop (p := .boot) (frame_boot _ (by simp) (frame_flash _ (by simp) (frame_wr _ (by simp) (frame_boot _ (by simp) (frame_refl ..))))) hboot⟩
  · simp only [exec, execMtpPulseEnd, hp, if_true]
    exact congrArg _ (assertDelayed_nil hd)
  · simp [exec, execMtpPulseEnd, hp]
  · simp [exec, execMtpPulseEnd, hp]

/-! Limits of the start and the ends of transitions (R23, R24, R41, R282). -/

/-- A completed transition is in the new mode: what entering and leaving a mode does changes no MODE. -/
theorem modeOf_finishMode (s : State) {new : Nat} (cause : Nat) (h : new < 8) : modeOf (finishMode s new cause) = new := by
  let s1 := wr (wr (wr (wr s Reg.MODE_STATUS_MODE new) Reg.MODE_STATUS_BUSY 0) Reg.MODE_STATUS_TARGET new) Reg.MODE_STATUS_CAUSE cause
  have h1 : modeOf s1 = new := by
    unfold modeOf
    rw [rd_wr_ne _ _ (by decide), rd_wr_ne _ _ (by decide), rd_wr_ne _ _ (by decide), rd_wr]
    exact Nat.mod_eq_of_lt h
  have hk : Keeps 0x1FFFFFF s1 (finishMode s new cause) :=
    keeps_drainDue (keeps_forEach (keeps_enterMode (keeps_leaveMode (keeps_raise (keeps_refl _ s1) rfl) rfl) rfl) fun _ _ h => keeps_autoKernel h rfl) rfl
  exact (hk.mode rfl).trans h1

theorem modeOf_wr_ne (s : State) {f : Fld} (v : Nat) (h : Reg.MODE_STATUS_MODE.key ≠ f.key) : modeOf (wr s f v) = modeOf s := rd_wr_ne s v h

/-- Step 11 ends in DIAG under BOOTSEL 0b11, and in TRIM otherwise. -/
theorem modeOf_endStep11 (s : State) (cycles : Nat) : modeOf (endStep11 s cycles) = if bootSel s = 3 then mDiag else mTrim := by
  unfold endStep11
  split
  · have hk : Keeps 0x1FFFFFF (finishMode s mDiag 0) (startSets (startDone (finishMode s mDiag 0) cycles)) :=
      keeps_startSets (keeps_startDone (keeps_refl _ _)) rfl
    exact (hk.mode rfl).trans (modeOf_finishMode _ _ (by decide))
  · have hm : modeOf (startSets (finishMode (setStep s 12) mTrim 0)) = mTrim :=
      ((keeps_startSets (w₀ := 264) (keeps_refl _ _) rfl).mode rfl).trans (modeOf_finishMode _ _ (by decide))
    dsimp only
    split
    · exact ((keeps_warmTrim (w₀ := 16778080) (keeps_refl _ _) rfl).mode rfl).trans hm
    · exact ((keeps_coldStart (w₀ := 608) (keeps_refl _ _) rfl).mode rfl).trans hm

/-- TRIM ends in IDLE. -/
theorem modeOf_trimEnd (s : State) (cycles cause : Nat) : modeOf (finishMode (startDone (saveStart s) cycles) mIdle cause) = mIdle :=
  modeOf_finishMode _ _ (by decide)

/-! ### Failed tiles -/

theorem rd_markFailed (s : State) (d : Nat) (f : Fld) :
    rd (markFailed s d) f = rd (wr (wr s (Reg.PWR_DOM_STATE d) domOff) (Reg.PWR_DOM_FAILED d) 1) f := rfl

/-- A domain's fields after domain `d` is marked as failed. -/
theorem markFailed_same (s : State) (d : Nat) : rd (markFailed s d) (Reg.PWR_DOM_FAILED d) = 1 ∧ rd (markFailed s d) (Reg.PWR_DOM_STATE d) = domOff := by
  rw [rd_markFailed, rd_markFailed, rd_wr, rd_wr_ne _ _ (by exact key_ne (by decide)), rd_wr]
  exact ⟨rfl, rfl⟩

theorem markFailed_other (s : State) {d e : Nat} (h : e ≠ d) :
    rd (markFailed s d) (Reg.PWR_DOM_FAILED e) = rd s (Reg.PWR_DOM_FAILED e) ∧ rd (markFailed s d) (Reg.PWR_DOM_STATE e) = rd s (Reg.PWR_DOM_STATE e) := by
  rw [rd_markFailed, rd_markFailed, rd_wr_ne _ _ (by exact key_ne_word h (by decide) (by decide)), rd_wr_ne _ _ (by exact key_ne_word h (by decide) (by decide)),
    rd_wr_ne _ _ (by exact key_ne_word h (by decide) (by decide)), rd_wr_ne _ _ (by exact key_ne_word h (by decide) (by decide))]
  exact ⟨rfl, rfl⟩

theorem rd_markFailed_low (s : State) (d : Nat) {f : Fld} (h : f.key < 0x20100 * 32) : rd (markFailed s d) f = rd s f := by
  rw [rd_markFailed, rd_wr_ne _ _ (by exact (key_ne_fixed h).symm), rd_wr_ne _ _ (by exact (key_ne_fixed h).symm)]

/-- Tiles marked as failed, in a list of them. -/
def failTiles (s : State) (l : List Nat) : State := forEach l s fun s t => markFailed s (8 + t)

/-- A tile is FAILED once it is marked, or where it was before. -/
theorem failTiles_failed (l : List Nat) (s : State) {k : Nat} (h : k ∈ l ∨ domFailed s (8 + k) = true) : domFailed (failTiles s l) (8 + k) = true := by
  refine forEach_of_mem (P := fun t => domFailed t (8 + k) = true) (k := k) (fun t => on_eq_true.mpr (markFailed_same t (8 + k)).1) (fun t a ht => ?_) s h
  by_cases hk : 8 + k = 8 + a
  · rw [← hk]
    exact on_eq_true.mpr (markFailed_same t (8 + k)).1
  · exact (on_congr (markFailed_other t hk).1).trans ht

theorem failTiles_off (l : List Nat) (s : State) {k : Nat} (h : k ∈ l) : rd (failTiles s l) (Reg.PWR_DOM_STATE (8 + k)) = domOff := by
  refine forEach_of_mem (P := fun t => rd t (Reg.PWR_DOM_STATE (8 + k)) = domOff) (k := k) (fun t => (markFailed_same t (8 + k)).2) (fun t a ht => ?_) s (.inl h)
  by_cases hk : 8 + k = 8 + a
  · rw [← hk]
    exact (markFailed_same t (8 + k)).2
  · exact (markFailed_other t hk).2.trans ht

theorem rd_failTiles_low (l : List Nat) (s : State) {f : Fld} (h : f.key < 0x20100 * 32) : rd (failTiles s l) f = rd s f :=
  forEach_same (fun t => rd t f) (fun t a _ => rd_markFailed_low t (8 + a) h) s

theorem failTiles_held (l : List Nat) (s : State) (k : Nat) :
    tileEnabled (failTiles s l) k = tileEnabled s k ∧ ∀ b, blockHeld (failTiles s l) b = blockHeld s b := by
  have hfuse : (failTiles s l).fuse = s.fuse := forEach_same State.fuse (fun t a _ => by simp [markFailed]) s
  have hrst : (failTiles s l).rst = s.rst := forEach_same State.rst (fun t a _ => by simp [markFailed]) s
  unfold tileEnabled blockHeld
  rw [hfuse, hrst]
  exact ⟨rfl, fun _ => rfl⟩

/-- Once the held tiles are marked, step 5 waits for none. -/
theorem tilesReady (s : State) : (List.range 4).any (tileHeldNow (failTiles s ((List.range 4).filter (tileHeldNow s)))) = false := by
  rw [List.any_eq_false]
  intro k hk hheld
  obtain ⟨he, hb⟩ := failTiles_held ((List.range 4).filter (tileHeldNow s)) s k
  have hnot := hheld
  simp only [tileHeldNow, he, hb, Bool.and_eq_true, Bool.not_eq_true'] at hnot
  obtain ⟨⟨h1, h2⟩, hnf⟩ := hnot
  have hf : domFailed (failTiles s ((List.range 4).filter (tileHeldNow s))) (8 + k) = true := by
    refine failTiles_failed _ s ?_
    cases hd : domFailed s (8 + k) with
    | true => exact .inr rfl
    | false => exact .inl (List.mem_filter.mpr ⟨hk, by simp [tileHeldNow, h1, h2, hd]⟩)
  rw [hf] at hnf
  exact absurd hnf (by decide)

/-- The end of step 5, where no tile is waited for, and without a host's image to wait for. -/
theorem endStep5_ready {s : State} (h : (List.range 4).any (tileHeldNow s) = false) (hb : bootSel s ≠ 2 ∨ warmStart s = true) :
    endStep5 s = setStep s (if warmStart s then 7 else 6) := by
  unfold endStep5
  rw [if_neg (by simp [h])]
  cases hw : warmStart s with
  | true => rfl
  | false =>
    have hsel : bootSel (setStep s 6) ≠ 2 := by
      unfold bootSel setStep
      rw [rd_wr_ne _ _ (by decide)]
      exact hb.resolve_right (by simp [hw])
    simp [beginImage, hsel]

/-- The limit of step 5: the tiles still held are FAILED and OFF, and the start goes on. -/
theorem tileHold_effect {s : State} (hb : bootSel s ≠ 2 ∨ warmStart s = true) :
    let t := endStep5 (failTiles s ((List.range 4).filter (tileHeldNow s)))
    stepNow t = (if warmStart s then 7 else 6) ∧
      ∀ k < 4, tileHeldNow s k = true → domFailed t (8 + k) = true ∧ rd t (Reg.PWR_DOM_STATE (8 + k)) = domOff := by
  intro t
  let u := failTiles s ((List.range 4).filter (tileHeldNow s))
  have hsel : bootSel u = bootSel s := rd_failTiles_low _ s (by decide)
  have hwarm : warmStart u = warmStart s := on_congr (rd_failTiles_low _ s (by decide))
  have ht : t = setStep u (if warmStart s then 7 else 6) := by
    rw [← hwarm]
    exact endStep5_ready (tilesReady s) (by rwa [hsel, hwarm])
  rw [ht]
  refine ⟨?_, fun k hk hheld => ?_⟩
  · unfold stepNow setStep
    rw [rd_wr]
    split <;> rfl
  · have hmem : k ∈ (List.range 4).filter (tileHeldNow s) := List.mem_filter.mpr ⟨List.mem_range.mpr hk, hheld⟩
    unfold setStep domFailed
    rw [on_wr_ne _ _ (by exact key_ne_fixed (by decide)), rd_wr_ne _ _ (by exact key_ne_fixed (by decide))]
    exact ⟨failTiles_failed _ s (.inl hmem), failTiles_off _ s hmem⟩

/-! ### The grid's slot boundary -/

theorem modeBoundary_idle {s : State} (h : modeBusy s = false) : modeBoundary s = s := by
  simp [modeBoundary, h]

theorem modeBoundary_completes {s : State} (h : modeBusy s = true)
    (hm : (modeOf s = mIdle ∧ (modeTarget s = mServe ∨ modeTarget s = mDiag)) ∨ ((modeOf s = mServe ∨ modeOf s = mDiag) ∧ modeTarget s = mIdle)) :
    modeOf (modeBoundary s) = modeTarget s := by
  have ht : modeTarget s < 8 := by
    rcases hm with ⟨-, h | h⟩ | ⟨-, h⟩ <;> rw [h] <;> decide
  unfold modeBoundary
  rw [if_pos h]
  dsimp only
  rw [if_pos hm]
  exact modeOf_finishMode _ _ ht

/-- Settles O16. -/
theorem startLimitsAndTransitionsEnd : Obligations.StartLimitsAndTransitionsEnd := by
  intro s cyc
  refine ⟨fun hs h5 hb => ⟨_, ?_, tileHold_effect hb⟩, fun h => ?_, fun hs h11 hw => ⟨_, congrArg Host.Outcome.next (if_pos (by simp [hs, h11, hw])), ?_⟩, fun h => ?_,
    fun hm hw => ⟨_, congrArg Host.Outcome.next (if_pos (by simp [hm, hw])), modeOf_trimEnd s _ _⟩, fun h => ?_, fun he => ?_, fun he hb => ⟨advanceTo s (nextSlot s), ?_, rfl, ?_⟩,
    fun he hb hm => ⟨_, congrArg Host.Outcome.next (if_neg (by simp [he])), ?_⟩⟩
  · exact congrArg _ (if_pos (by simp [hs, h5]))
  · refine congrArg _ (if_neg ?_)
    rcases h with h | h <;> simp [h]
  · refine (modeOf_endStep11 _ _).trans ?_
    unfold bootSel
    rw [rd_raiseIf _ _ _ _ (by decide), rd_raiseIf _ _ _ _ (by decide)]
  · refine congrArg _ (if_neg ?_)
    rcases h with h | h | h <;> simp [h]
  · refine congrArg _ (if_neg ?_)
    rcases h with h | h <;> simp [h]
  · exact congrArg _ (if_pos he)
  · refine (congrArg _ (if_neg (by simp [he]))).trans (congrArg _ (modeBoundary_idle hb))
  · exact frame_time _ (by simp) (frame_refl ..)
  · exact modeBoundary_completes (s := advanceTo s (nextSlot s)) hb hm

/-! Overload episodes of a receive path (R65, R66, R70). -/

/-! ### The gain index -/

theorem rd_setGain {s : State} {u i : Nat} (h : i < 32) : rd (setGain s u i) (Reg.UNIT_RX_STATUS_GAIN_IDX u) = i := by
  unfold setGain
  split
  · assumption
  · exact (rd_wr s (Reg.UNIT_RX_STATUS_GAIN_IDX u) i).trans (Nat.mod_eq_of_lt h)

theorem frame_setGain {s t : State} {rs : List Fld} {ps : List Part} (u i : Nat) (hf : Reg.UNIT_RX_STATUS_GAIN_IDX u ∈ rs) (hp : Part.units ∈ ps)
    (h : Frame s t rs ps) : Frame s (setGain t u i) rs ps := by
  unfold setGain
  split
  · exact h
  · exact frame_markTag _ _ _ hp (frame_modRx _ _ hp (frame_wr _ hf h))

/-- The index after an overload step (R70). -/
def stepUp (s : State) (u : Nat) : Nat := min (rd s (Reg.UNIT_RX_STATUS_GAIN_IDX u) + atLeast1 (rd s (Reg.UNIT_RX_AGC_OVLD_STEP u))) 31

theorem rd_overloadStep (s : State) (u : Nat) : rd (overloadStep s u) (Reg.UNIT_RX_STATUS_GAIN_IDX u) = stepUp s u :=
  rd_setGain (Nat.lt_succ_of_le (Nat.min_le_right ..))

theorem frame_overloadStep (s : State) (u : Nat) : Frame s (overloadStep s u) [Reg.UNIT_RX_STATUS_GAIN_IDX u] [.units] :=
  frame_setGain _ _ (by simp) (by simp) (frame_modRx _ _ (by simp) (frame_refl ..))

/-! ### The neighbours' share (R66) -/

/-- What a neighbour's share may write. -/
def neighbourRegs (u : Nat) : List Fld := (neighboursOf u).flatMap fun v => [Reg.UNIT_RX_STATUS_NEIGH v, Reg.UNIT_RX_COUNT_NEIGH_CNT v]

theorem frame_neighbourOvld (s : State) (v : Nat) : Frame s (neighbourOvld s v) [Reg.UNIT_RX_STATUS_NEIGH v, Reg.UNIT_RX_COUNT_NEIGH_CNT v] [.units] := by
  unfold neighbourOvld
  split
  · exact frame_markTag _ _ _ (by simp) (frame_bump _ (by simp) (frame_wr _ (by simp) (frame_refl ..)))
  · exact frame_refl ..

theorem frame_neighbours (s : State) (u : Nat) : Frame s (forEach (neighboursOf u) s neighbourOvld) (neighbourRegs u) [.units] :=
  frame_forEach (frame_refl ..) fun _ v hv h => frame_step h
    (frame_mono (frame_neighbourOvld _ v) (fun _ hf => List.mem_flatMap.mpr ⟨v, hv, hf⟩) (List.Subset.refl _))

/-- A field that is neither NEIGH nor NEIGH_CNT of any unit stays over the neighbours' share. -/
theorem rd_neighbours (s : State) (u : Nat) {f : Fld} (h1 : ∀ v, f.key ≠ (Reg.UNIT_RX_STATUS_NEIGH v).key)
    (h2 : ∀ v, f.key ≠ (Reg.UNIT_RX_COUNT_NEIGH_CNT v).key) : rd (forEach (neighboursOf u) s neighbourOvld) f = rd s f := by
  refine (frame_neighbours s u).1 f fun g hg => ?_
  obtain ⟨v, -, hg⟩ := List.mem_flatMap.mp hg
  simp only [List.mem_cons, List.not_mem_nil, or_false] at hg
  rcases hg with rfl | rfl
  · exact h1 v
  · exact h2 v

theorem rxLive_congr {s t : State} {u : Nat} (h1 : rd t (Reg.UNIT_RX_STATUS_STOPPED u) = rd s (Reg.UNIT_RX_STATUS_STOPPED u))
    (h2 : rd t (Reg.UNIT_RX_STATUS_GATED u) = rd s (Reg.UNIT_RX_STATUS_GATED u)) : rxLive t u = rxLive s u := by
  unfold rxLive
  rw [on_congr h1, on_congr h2]

/-- A turn of the loop leaves which units run. -/
theorem rxLive_neighbourOvld (s : State) (v w : Nat) : unitEnabled (neighbourOvld s v) w = unitEnabled s w ∧ rxLive (neighbourOvld s v) w = rxLive s w := by
  have hf := frame_neighbourOvld s v
  refine ⟨unitEnabled_congr (samePart_of_frame hf (p := .fuse) (by simp)) w, rxLive_congr (hf.1 _ fun f hm => ?_) (hf.1 _ fun f hm => ?_)⟩
  all_goals
    simp only [List.mem_cons, List.not_mem_nil, or_false] at hm
    rcases hm with rfl | rfl <;> exact key_ne_place (by decide) (by decide) (by decide)

/-- Each running neighbour is marked. -/
theorem neigh_marked {s : State} {u v : Nat} (hv : v ∈ neighboursOf u) (he : unitEnabled s v = true) (hl : rxLive s v = true) :
    rd (forEach (neighboursOf u) s neighbourOvld) (Reg.UNIT_RX_STATUS_NEIGH v) = 1 := by
  have hrun (t : State) (a : Nat) : (unitEnabled (neighbourOvld t a) v && rxLive (neighbourOvld t a) v) = (unitEnabled t v && rxLive t v) := by
    rw [(rxLive_neighbourOvld t a v).1, (rxLive_neighbourOvld t a v).2]
  have hset (t : State) : (unitEnabled t v && rxLive t v) = true → rd (neighbourOvld t v) (Reg.UNIT_RX_STATUS_NEIGH v) = 1 := fun h => by
    unfold neighbourOvld
    rw [if_pos h, rd_markTag, rd_bump_ne _ _ (by exact key_ne_place (by decide) (by decide) (by decide)), rd_wr]
    rfl
  refine forEach_of_mem (P := fun t => (unitEnabled t v && rxLive t v) = true → rd t (Reg.UNIT_RX_STATUS_NEIGH v) = 1) (k := v)
    (fun t h => hset t ((hrun t v).symm.trans h)) (fun t a ht h => ?_) s (.inl hv) ?_
  · rw [hrun] at h
    by_cases hav : v = a
    · rw [← hav]
      exact hset t h
    · refine ((frame_neighbourOvld t a).1 _ fun f hm => ?_).trans (ht h)
      simp only [List.mem_cons, List.not_mem_nil, or_false] at hm
      rcases hm with rfl | rfl <;> exact key_ne_unit hav (by decide) (by decide) (by decide)
  · rw [forEach_same (fun t => unitEnabled t v && rxLive t v) (fun t a _ => hrun t a), he, hl]
    rfl

/-! ### The episode -/

/-- What an episode does to every unit of the cluster before the gain acts. -/
def episodeMarks (s : State) (u : Nat) : State :=
  forEach (neighboursOf u)
    (markTag ((bump (wr (stickyEvent s (Reg.UNIT_RX_STATUS_OVLD u) 0x2001 u) (Reg.UNIT_RX_STATUS_OVLD_NOW u) 1) (Reg.UNIT_RX_COUNT_OVLD_CNT u) 1).modRx u
      fun x => { x with symOvld := true }) u 3 0) neighbourOvld

/-- What it does to the gain: the Chorus receiver's index before its freeze (R170), or the unit's own. -/
def episodeGain (s : State) (u : Nat) : State :=
  if chorusListens s u then
    if rd s Reg.CHORUS_STATUS_STATE ≤ 2 then { s with chorus := { s.chorus with idx := min (s.chorus.idx + 6) 31 } } else s
  else if on s (Reg.UNIT_RX_GAIN_OVLD_EN u) then overloadStep s u else s

theorem rxOverload_none {s : State} {u : Nat} (h : unitEnabled s u = false ∨ rxLive s u = false ∨ on s (Reg.UNIT_RX_STATUS_OVLD_NOW u) = true) :
    rxOverload s u = s := by
  refine if_neg ?_
  rcases h with h | h | h <;> simp [h]

theorem rxOverload_episode {s : State} {u : Nat} (he : unitEnabled s u = true) (hl : rxLive s u = true)
    (hn : on s (Reg.UNIT_RX_STATUS_OVLD_NOW u) = false) : rxOverload s u = episodeGain (episodeMarks s u) u :=
  if_pos (by simp [he, hl, hn])

theorem frame_episodeGain (s : State) (u : Nat) : Frame s (episodeGain s u) [Reg.UNIT_RX_STATUS_GAIN_IDX u] [.units, .chorus] := by
  unfold episodeGain
  split
  · exact frame_ite (frame_chorus _ (by simp) (frame_refl ..)) (frame_refl ..)
  · exact frame_ite (frame_mono (frame_overloadStep s u) (List.Subset.refl _) (by simp)) (frame_refl ..)

/-- Fields that the episode's marks leave: all but the overload's own and the event's. -/
theorem rd_episodeMarks (s : State) (u : Nat) {f : Fld} (h1 : ∀ v, f.key ≠ (Reg.UNIT_RX_STATUS_NEIGH v).key)
    (h2 : ∀ v, f.key ≠ (Reg.UNIT_RX_COUNT_NEIGH_CNT v).key) (h3 : f.key ≠ (Reg.UNIT_RX_COUNT_OVLD_CNT u).key)
    (h4 : f.key ≠ (Reg.UNIT_RX_STATUS_OVLD_NOW u).key) (h5 : f.key ≠ (Reg.UNIT_RX_STATUS_OVLD u).key) (h6 : ∀ e ∈ eventFields, f.key ≠ e.key) :
    rd (episodeMarks s u) f = rd s f := by
  unfold episodeMarks stickyEvent
  rw [rd_neighbours _ _ h1 h2, rd_markTag, rd_modRx, rd_bump_ne _ _ h3, rd_wr_ne _ _ h4, rd_raiseIf _ _ _ _ h6, rd_wr_ne _ _ h5]

theorem stickyEvent_chorus (s : State) (f : Fld) (c a : Nat) : (stickyEvent s f c a).chorus = s.chorus := by
  unfold stickyEvent raiseIf
  split
  · exact (samePart_of_frame (frame_raise_self ..) (p := .chorus) (by simp)).trans (wr_chorus ..)
  · exact wr_chorus ..

theorem episodeMarks_chorus (s : State) (u : Nat) : (episodeMarks s u).chorus = s.chorus := by
  have h : (episodeMarks s u).chorus = (stickyEvent s (Reg.UNIT_RX_STATUS_OVLD u) 0x2001 u).chorus :=
    (samePart_of_frame (frame_neighbours _ u) (p := .chorus) (by simp)).trans ((wr_chorus ..).trans (wr_chorus ..))
  exact h.trans (stickyEvent_chorus ..)

theorem chorusListens_congr {s t : State} (hc : t.chorus = s.chorus) (h : rd t Reg.CHORUS_STATUS_STATE = rd s Reg.CHORUS_STATUS_STATE) (u : Nat) :
    chorusListens t u = chorusListens s u := by
  unfold chorusListens
  rw [hc, h]

/-- An episode: the marks, the count, the index and the event. -/
theorem episode_effect {s : State} {u : Nat} :
    let t := episodeGain (episodeMarks s u) u
    rd t (Reg.UNIT_RX_STATUS_OVLD_NOW u) = 1 ∧ rd t (Reg.UNIT_RX_STATUS_OVLD u) = 1 ∧
      rd t (Reg.UNIT_RX_COUNT_OVLD_CNT u) = min (rd s (Reg.UNIT_RX_COUNT_OVLD_CNT u) + 1) (2 ^ (Reg.UNIT_RX_COUNT_OVLD_CNT u).width - 1) ∧
      (rd s (Reg.UNIT_RX_STATUS_OVLD u) = 0 → Room s → Queued s t 0x2001 u) := by
  intro t
  have hg {f : Fld} (h : f.key ≠ (Reg.UNIT_RX_STATUS_GAIN_IDX u).key) : rd t f = rd (episodeMarks s u) f :=
    (frame_episodeGain _ u).1 f (by simpa using h)
  have hplace {a i : Nat} {w : Nat} {p : Acc} {x : Nat} (h : a % 4096 * 32 + i ≠ 4 * 32 + 2) (h' : a % 4096 * 32 + i ≠ 48 * 32 + 16) (hi : i < 32) (st : State) :
      rd (forEach (neighboursOf u) st neighbourOvld) ⟨a + 0x1000 * u, i, w, p, .L, x⟩ = rd st ⟨a + 0x1000 * u, i, w, p, .L, x⟩ :=
    rd_neighbours st u (fun v => key_ne_place (by omega) hi (by decide)) (fun v => key_ne_place (by omega) hi (by decide))
  refine ⟨?_, ?_, ?_, fun h0 hr => ?_⟩
  · rw [hg (by exact key_ne (by decide))]
    refine (hplace (by decide) (by decide) (by decide) _).trans ?_
    show rd (bump _ _ _) (Reg.UNIT_RX_STATUS_OVLD_NOW u) = 1
    rw [rd_bump_ne _ _ (by exact key_ne (by decide)), rd_wr]
    rfl
  · rw [hg (by exact key_ne (by decide))]
    refine (hplace (by decide) (by decide) (by decide) _).trans ?_
    show rd (bump _ _ _) (Reg.UNIT_RX_STATUS_OVLD u) = 1
    unfold stickyEvent
    rw [rd_bump_ne _ _ (by exact key_ne (by decide)), rd_wr_ne _ _ (by exact key_ne (by decide)), rd_raiseIf _ _ _ _ (by exact key_ne_event (by decide)), rd_wr]
    rfl
  · rw [hg (by exact key_ne (by decide))]
    refine (hplace (by decide) (by decide) (by decide) _).trans ?_
    show rd (bump _ _ _) (Reg.UNIT_RX_COUNT_OVLD_CNT u) = _
    unfold stickyEvent
    rw [rd_bump, rd_wr_ne _ _ (by exact key_ne (by decide)), rd_raiseIf _ _ _ _ (by exact key_ne_event (by decide)), rd_wr_ne _ _ (by exact key_ne (by decide))]
  · have hq : Queued s (stickyEvent s (Reg.UNIT_RX_STATUS_OVLD u) 0x2001 u) 0x2001 u := by
      simp only [stickyEvent, raiseIf, h0, beq_self_eq_true, if_true]
      exact queued_raise _ (wr_rst ..) (wr_events ..) hr (by decide)
    refine queued_congr hq ?_
    have h1 : t.events = (episodeMarks s u).events := samePart_of_frame (frame_episodeGain _ u) (p := .events) (by simp)
    exact h1.trans ((samePart_of_frame (frame_neighbours _ u) (p := .events) (by simp)).trans ((wr_events ..).trans (wr_events ..)))

/-- The index of an episode: a step up where the Chorus receiver does not listen on the unit, none where OVLD_EN is 0. -/
theorem episode_gain {s : State} {u : Nat} :
    let t := episodeGain (episodeMarks s u) u
    (chorusListens s u = false → on s (Reg.UNIT_RX_GAIN_OVLD_EN u) = true → rd t (Reg.UNIT_RX_STATUS_GAIN_IDX u) = stepUp s u) ∧
      (on s (Reg.UNIT_RX_GAIN_OVLD_EN u) = false → rd t (Reg.UNIT_RX_STATUS_GAIN_IDX u) = rd s (Reg.UNIT_RX_STATUS_GAIN_IDX u)) := by
  intro t
  have hown {a i : Nat} {w : Nat} {p : Acc} {c : Cls} {x : Nat} (h : a % 4096 * 32 + i ≠ 4 * 32 + 2) (h' : a % 4096 * 32 + i ≠ 48 * 32 + 16) (hi : i < 32)
      (h3 : a * 32 + i ≠ 0x200030 * 32) (h4 : a * 32 + i ≠ 0x200004 * 32 + 1) (h5 : a * 32 + i ≠ 0x200004 * 32) (h6 : 0xA0000 ≤ a) :
      rd (episodeMarks s u) ⟨a + 0x1000 * u, i, w, p, c, x⟩ = rd s ⟨a + 0x1000 * u, i, w, p, c, x⟩ :=
    rd_episodeMarks s u (fun v => key_ne_place (by omega) hi (by decide)) (fun v => key_ne_place (by omega) hi (by decide)) (key_ne (by omega))
      (key_ne (by omega)) (key_ne (by omega)) (key_ne_event h6)
  have hidx : rd (episodeMarks s u) (Reg.UNIT_RX_STATUS_GAIN_IDX u) = rd s (Reg.UNIT_RX_STATUS_GAIN_IDX u) :=
    hown (by decide) (by decide) (by decide) (by decide) (by decide) (by decide) (by decide)
  have hstep : rd (episodeMarks s u) (Reg.UNIT_RX_AGC_OVLD_STEP u) = rd s (Reg.UNIT_RX_AGC_OVLD_STEP u) :=
    hown (by decide) (by decide) (by decide) (by decide) (by decide) (by decide) (by decide)
  have hen : on (episodeMarks s u) (Reg.UNIT_RX_GAIN_OVLD_EN u) = on s (Reg.UNIT_RX_GAIN_OVLD_EN u) :=
    on_congr (hown (by decide) (by decide) (by decide) (by decide) (by decide) (by decide) (by decide))
  have hst : rd (episodeMarks s u) Reg.CHORUS_STATUS_STATE = rd s Reg.CHORUS_STATUS_STATE :=
    rd_episodeMarks s u (fun _ => (key_ne_fixed (by decide)).symm) (fun _ => (key_ne_fixed (by decide)).symm) (key_ne_fixed (by decide)).symm
      (key_ne_fixed (by decide)).symm (key_ne_fixed (by decide)).symm (by decide)
  have hlisten : chorusListens (episodeMarks s u) u = chorusListens s u := chorusListens_congr (episodeMarks_chorus s u) hst u
  refine ⟨fun hc he => ?_, fun he => ?_⟩
  · have ht : t = overloadStep (episodeMarks s u) u := by
      simp [t, episodeGain, hlisten, hc, hen, he]
    rw [ht, rd_overloadStep]
    unfold stepUp
    rw [hidx, hstep]
  · have ht : rd t (Reg.UNIT_RX_STATUS_GAIN_IDX u) = rd (episodeMarks s u) (Reg.UNIT_RX_STATUS_GAIN_IDX u) := by
      simp only [t, episodeGain, hen, he, Bool.false_eq_true, if_false]
      split_ifs <;> rfl
    rw [ht, hidx]

theorem mem_neighboursOf {u v : Nat} (h : v ∈ neighboursOf u) : v ≠ u := by
  simpa using (List.mem_filter.mp h).2

/-- A running neighbour of an episode is marked, and keeps its index. -/
theorem episode_neighbour {s : State} {u v : Nat} (hv : v ∈ neighboursOf u) (he : unitEnabled s v = true) (hl : rxLive s v = true) :
    let t := episodeGain (episodeMarks s u) u
    rd t (Reg.UNIT_RX_STATUS_NEIGH v) = 1 ∧ rd t (Reg.UNIT_RX_STATUS_GAIN_IDX v) = rd s (Reg.UNIT_RX_STATUS_GAIN_IDX v) := by
  intro t
  have hne := mem_neighboursOf hv
  have hg {f : Fld} (h : f.key ≠ (Reg.UNIT_RX_STATUS_GAIN_IDX u).key) : rd t f = rd (episodeMarks s u) f :=
    (frame_episodeGain _ u).1 f (by simpa using h)
  have hpre {f : Fld} (h3 : f.key ≠ (Reg.UNIT_RX_COUNT_OVLD_CNT u).key) (h4 : f.key ≠ (Reg.UNIT_RX_STATUS_OVLD_NOW u).key)
      (h5 : f.key ≠ (Reg.UNIT_RX_STATUS_OVLD u).key) (h6 : ∀ e ∈ eventFields, f.key ≠ e.key) :
      rd (bump (wr (stickyEvent s (Reg.UNIT_RX_STATUS_OVLD u) 0x2001 u) (Reg.UNIT_RX_STATUS_OVLD_NOW u) 1) (Reg.UNIT_RX_COUNT_OVLD_CNT u) 1) f = rd s f := by
    unfold stickyEvent
    rw [rd_bump_ne _ _ h3, rd_wr_ne _ _ h4, rd_raiseIf _ _ _ _ h6, rd_wr_ne _ _ h5]
  constructor
  · rw [hg (by exact key_ne_unit hne (by decide) (by decide) (by decide))]
    refine neigh_marked hv ((unitEnabled_congr ?_ v).trans he) ((rxLive_congr ?_ ?_).trans hl)
    · refine (wr_fuse ..).trans ((wr_fuse ..).trans ?_)
      exact samePart_of_frame (frame_stickyEvent _ _ (List.mem_cons_self ..) (List.subset_cons_self _ eventRegs) (List.mem_singleton_self _) (frame_refl s _ _))
        (p := .fuse) (by simp)
    · exact hpre (f := Reg.UNIT_RX_STATUS_STOPPED v) (key_ne_unit hne (by decide) (by decide) (by decide)) (key_ne_unit hne (by decide) (by decide) (by decide))
        (key_ne_unit hne (by decide) (by decide) (by decide)) (key_ne_event (by decide))
    · exact hpre (f := Reg.UNIT_RX_STATUS_GATED v) (key_ne_unit hne (by decide) (by decide) (by decide)) (key_ne_unit hne (by decide) (by decide) (by decide))
        (key_ne_unit hne (by decide) (by decide) (by decide)) (key_ne_event (by decide))
  · rw [hg (by exact key_ne_unit hne (by decide) (by decide) (by decide))]
    exact rd_episodeMarks s u (fun v => key_ne_place (by decide) (by decide) (by decide)) (fun v => key_ne_place (by decide) (by decide) (by decide))
      (key_ne_unit hne (by decide) (by decide) (by decide)) (key_ne_unit hne (by decide) (by decide) (by decide))
      (key_ne_unit hne (by decide) (by decide) (by decide)) (key_ne_event (by decide))

/-! ### A persisting overload, and the end of one -/

theorem ovldRepeat_none {s : State} {u : Nat} (h : unitEnabled s u = false ∨ on s (Reg.UNIT_RX_STATUS_OVLD_NOW u) = false) : ovldRepeat s u = s := by
  refine if_neg ?_
  rcases h with h | h <;> simp [h]

theorem ovldRepeat_eq {s : State} {u : Nat} (he : unitEnabled s u = true) (hn : on s (Reg.UNIT_RX_STATUS_OVLD_NOW u) = true)
    (hc : chorusListens s u = false) : ovldRepeat s u =
      if rd s (Reg.UNIT_RX_STATUS_GAIN_IDX u) = 31 then stickyEvent s (Reg.UNIT_RX_STATUS_AGC_FLOOR u) 0x2002 u
      else if on s (Reg.UNIT_RX_GAIN_OVLD_EN u) then overloadStep s u else s :=
  if_pos (by simp [he, hn, hc])

/-- A sticky bit of one bit, in a register past the event fields: set, with its event where it was clear. -/
theorem stickyEvent_effect {s : State} {f : Fld} (c a : Nat) (hw : f.width = 1) (hf : ∀ e ∈ eventFields, f.key ≠ e.key) (hc : eventClass c ≠ 0xF) :
    rd (stickyEvent s f c a) f = 1 ∧ (rd s f = 0 → Room s → Queued s (stickyEvent s f c a) c a) ∧
      Frame s (stickyEvent s f c a) (f :: eventRegs) [.events] := by
  refine ⟨?_, fun h0 hr => ?_,
    frame_stickyEvent _ _ (List.mem_cons_self ..) (List.subset_cons_self ..) (List.mem_singleton_self _) (frame_refl ..)⟩
  · unfold stickyEvent
    rw [rd_raiseIf _ _ _ _ hf, rd_wr, hw]
    rfl
  · simp only [stickyEvent, raiseIf, h0, beq_self_eq_true, if_true]
    exact queued_raise _ (wr_rst ..) (wr_events ..) hr hc

/-- Settles O17. -/
theorem overloadEpisodes : Obligations.OverloadEpisodes := by
  intro s u
  refine ⟨fun h => congrArg _ (rxOverload_none h), fun he hl hn => gives_next rfl (rxOverload_episode he hl hn) ?_, fun he hn hc => ?_,
    fun h => congrArg _ (ovldRepeat_none h), ⟨_, rfl, (rd_wr ..).trans rfl, frame_wr _ (by simp) (frame_refl ..)⟩,
    within_of_mask (keepsO_execRxOvld (w₀ := 8264) (keeps_refl _ s) rfl) (by decide)⟩
  · obtain ⟨h1, h2, h3, h4⟩ := episode_effect (s := s) (u := u)
    obtain ⟨g1, g2⟩ := episode_gain (s := s) (u := u)
    exact ⟨h1, h2, h3, g1, g2, fun v hv hev hlv => episode_neighbour hv hev hlv, h4⟩
  · refine ⟨fun hi => ⟨_, rfl, ?_⟩, fun hi hen => ⟨_, rfl, ?_⟩, fun hi hen => congrArg Host.Outcome.next ((ovldRepeat_eq he hn hc).trans ?_)⟩
    · rw [ovldRepeat_eq he hn hc, if_pos hi]
      exact stickyEvent_effect _ _ rfl (key_ne_event (by decide)) (by decide)
    · rw [ovldRepeat_eq he hn hc, if_neg hi, if_pos hen]
      exact ⟨rd_overloadStep s u, frame_overloadStep s u⟩
    · rw [if_neg hi, if_neg (by simp [hen])]

/-! Receive commits and cross-fades (R78, R86). -/

/-- Recording a configuration error leaves the fields of the indexed blocks. -/
theorem rd_cfgError_high (s : State) (pair : Bool) (addr : Nat) {f : Fld} (h : 0x91000 * 32 ≤ f.key) : rd (cfgError s pair addr) f = rd s f := by
  refine (frame_cfgError (t := s) pair addr (List.subset_append_left _ _) (List.subset_append_right _ eventRegs) (List.mem_singleton_self _)
    (frame_refl s _ _)).1 f fun g hg => ?_
  have hall : ∀ g ∈ [Reg.CFG_ERR_ADDR_ADDR, Reg.CFG_STATUS_ERR_KIND, Reg.CFG_STATUS_ERR_OVF, Reg.CFG_STATUS_CFG_PAIR_ERR, Reg.CFG_STATUS_CFG_IGNORED] ++
    eventRegs, g.key < 0x91000 * 32 := by decide
  have := hall g hg
  omega

theorem rd_refuseCommit_high (s : State) (g : Group) (fails : List Nat) {f : Fld} (h : 0x91000 * 32 ≤ f.key) :
    rd (refuseCommit s g fails) f = rd s f := by
  unfold refuseCommit
  split
  · rfl
  · exact rd_cfgError_high _ _ _ h

theorem refuseCommit_clusters (s : State) (g : Group) (fails : List Nat) : (refuseCommit s g fails).clusters = s.clusters := by
  unfold refuseCommit
  split
  · rfl
  · exact samePart_of_frame (frame_cfgError true _ (List.subset_append_left _ _) (List.subset_append_right _ eventRegs) (List.mem_singleton_self _)
      (frame_refl _ _ _)) (p := .clusters) (by simp)

/-! ### What follows a receive commit leaves the active copies of class H -/

theorem setGain_hact (s : State) (u i : Nat) : (setGain s u i).hact = s.hact := by
  unfold setGain
  split
  · rfl
  · exact wr_hact_of_L s i (f := Reg.UNIT_RX_STATUS_GAIN_IDX u) (fun h => Cls.noConfusion h)

theorem bankChange_hact (s : State) (u new : Nat) (atOnce : Bool) : (bankChange s u new atOnce).hact = s.hact := by
  have hb (s : State) (v w : Nat) : (wr (wr s (Reg.UNIT_RX_STATUS_BANK_ACT u) v) (Reg.UNIT_RX_STATUS_XFADE u) w).hact = s.hact :=
    (wr_hact_of_L _ _ (fun h => Cls.noConfusion h)).trans (wr_hact_of_L _ _ (fun h => Cls.noConfusion h))
  unfold bankChange
  split_ifs
  · exact hb s new 0
  · rfl
  · exact hb s new 1

theorem gainCommitted_hact (s : State) (u : Nat) (a b : Bool) : (gainCommitted s u a b).hact = s.hact := by
  unfold gainCommitted
  dsimp only
  split_ifs <;> first | rfl | exact setGain_hact ..

/-- What a receive commit that passes does after the copy: the channel, the bank and the gain follow. -/
def rxFollow (s s1 : State) (u : Nat) : State :=
  let chan := rd s (Reg.UNIT_RX_NCO_OFS_OFS u) != rd s1 (Reg.UNIT_RX_NCO_OFS_OFS u) || rd s (Reg.UNIT_RX_DEC_RATIO u) != rd s1 (Reg.UNIT_RX_DEC_RATIO u)
  let s2 := if chan then channelChange s1 u else s1
  let bank := rd s1 (Reg.UNIT_RX_DEC_BANK_SEL u)
  let s3 := if rd s (Reg.UNIT_RX_DEC_BANK_SEL u) != bank then bankChange s2 u bank chan else s2
  gainCommitted s3 u (rd s (Reg.UNIT_RX_GAIN_AGC_MODE u) != rd s1 (Reg.UNIT_RX_GAIN_AGC_MODE u))
    (rd s (Reg.UNIT_RX_GAIN_MAN_IDX u) != rd s1 (Reg.UNIT_RX_GAIN_MAN_IDX u))

theorem rxFollow_hact (s s1 : State) (u : Nat) : (rxFollow s s1 u).hact = s1.hact := by
  unfold rxFollow
  dsimp only
  rw [gainCommitted_hact]
  split
  · rw [bankChange_hact]
    split <;> rfl
  · split <;> rfl

/-- A chain that may leave STOP leaves it where its pair tests pass. -/
theorem rxCommit_leaves {s : State} {u : Nat} (hr : rxRunOk s u = true) (hs : on s (Reg.UNIT_RX_STATUS_STOPPED u) = true) (hp : rxPairFails s u = []) :
    ∃ s1 : State, s1 = copyShadow { s with silent := s.silent.filter (· != (rxGroup u).id) } (rxGroup u) ∧
      rxCommit s u = channelChange (wr (rxFollow s s1 u) (Reg.UNIT_RX_STATUS_STOPPED u) 0) u := by
  refine ⟨_, rfl, ?_⟩
  have h : commitGroup s (rxGroup u) (rxPairFails s u) (rxRunOk s u && on s (Reg.UNIT_RX_STATUS_STOPPED u)) =
      (copyShadow { s with silent := s.silent.filter (· != (rxGroup u).id) } (rxGroup u), true) := by
    rw [hr, hs, hp]
    exact commitGroup_of_pass (.inr rfl)
  unfold rxCommit
  rw [h]
  simp only [if_true, hr, hs, Bool.and_self]
  rfl

/-- A chain that may leave STOP stays in it where a pair test fails. -/
theorem rxCommit_refused {s : State} {u : Nat} (hr : rxRunOk s u = true) (hs : on s (Reg.UNIT_RX_STATUS_STOPPED u) = true) (hp : rxPairFails s u ≠ []) :
    rxCommit s u = refuseCommit s (rxGroup u) (rxPairFails s u) := by
  have h : commitGroup s (rxGroup u) (rxPairFails s u) (rxRunOk s u && on s (Reg.UNIT_RX_STATUS_STOPPED u)) = (refuseCommit s (rxGroup u) (rxPairFails s u), false) :=
    commitGroup_of_fail (.inr (by rw [hr, hs]; rfl)) hp
  unfold rxCommit
  rw [h]
  rfl

/-- Settles O18. -/
theorem receiveCommitsAndFades : Obligations.ReceiveCommitsAndFades := by
  intro s u
  refine ⟨fun h => congrArg _ (if_neg ?_), fun he hrel hr hs => ⟨fun hp => ?_, fun hp => ?_⟩, fun h => congrArg _ (if_neg (by simp [h])),
    fun hx hn => gives_next rfl ((if_pos hx).trans (by rw [hn])) ⟨(rd_wr ..).trans rfl, frame_wr _ (by simp) (frame_refl ..)⟩,
    fun b hb hx hn => gives_next rfl ((if_pos hx).trans (by rw [hn])) ⟨?_, by simp [markTag], by simp [markTag], ?_⟩⟩
  · rcases h with h | h <;> simp [h]
  · obtain ⟨s1, hs1, ht⟩ := rxCommit_leaves hr hs hp
    refine gives_next rfl ((if_pos (by simp [he, hrel])).trans ht) ⟨rd_wr (rxFollow s s1 u) (Reg.UNIT_RX_STATUS_STOPPED u) 0, fun f hf hin => ?_⟩
    refine (rd_H_congr hf ?_).trans ((congrArg (rd · f) hs1).trans ((rd_copyShadow _ _ hf).trans (if_pos hin)))
    exact (wr_hact_of_L _ _ (fun h => Cls.noConfusion h)).trans (rxFollow_hact s s1 u)
  · refine gives_next rfl ((if_pos (by simp [he, hrel])).trans (rxCommit_refused hr hs hp)) ⟨?_, fun f hf => rd_H_congr hf (refuseCommit_hact ..)⟩
    rw [rd_refuseCommit_high _ _ _ (by simp only [Fld.key, Reg.UNIT_RX_STATUS_STOPPED]; omega)]
    exact on_eq_true.mp hs
  · exact (rd_wr s (Reg.UNIT_RX_STATUS_BANK_ACT u) b).trans (Nat.mod_eq_of_lt hb)
  · exact frame_markTag _ _ _ (by simp) (frame_modRx _ _ (by simp) (frame_wr _ (by simp) (frame_refl ..)))

/-! SYNC edges and realignments (R79, R80). -/
/-- One unit's turn of a realignment. -/
def realignUnit (rx tx : Nat → Bool) (s : State) (u : Nat) : State := txRealign (rxRealign s u (rx u)) u (tx u)

/-- The fields of a unit that its realignment may write. -/
def realignRegs (u : Nat) : List Fld := [Reg.UNIT_RX_STATUS_SYNC_SEEN u, Reg.UNIT_RX_STATUS_SYNC_SLIP u, Reg.UNIT_TX_STATUS_TX_SYNC_SLIP u]

theorem frame_rxRealign (s : State) (u : Nat) (slip : Bool) :
    Frame s (rxRealign s u slip) ([Reg.UNIT_RX_STATUS_SYNC_SEEN u, Reg.UNIT_RX_STATUS_SYNC_SLIP u] ++ eventRegs) [.events, .units] := by
  unfold rxRealign
  split
  · dsimp only
    split
    · exact frame_markTag _ _ _ (by simp) (frame_raise _ _ (List.subset_append_right _ _) (by simp) (frame_wr _ (by simp) (frame_wr _ (by simp) (frame_refl ..))))
    · exact frame_wr _ (by simp) (frame_refl ..)
  · exact frame_refl ..

theorem frame_txRealign (s : State) (u : Nat) (slip : Bool) :
    Frame s (txRealign s u slip) ([Reg.UNIT_TX_STATUS_TX_SYNC_SLIP u] ++ eventRegs) [.events, .units] := by
  unfold txRealign
  split
  · exact frame_raise _ _ (List.subset_append_right _ _) (by simp) (frame_modTx _ _ (by simp) (frame_wr _ (by simp) (frame_refl ..)))
  · exact frame_refl ..

theorem frame_realignUnit (rx tx : Nat → Bool) (s : State) (u : Nat) : Frame s (realignUnit rx tx s u) (realignRegs u ++ eventRegs) [.events, .units] :=
  frame_step (frame_mono (frame_rxRealign ..) (fun f => by simp [realignRegs]; tauto) (List.Subset.refl _))
    (frame_mono (frame_txRealign ..) (fun f => by simp [realignRegs]; tauto) (List.Subset.refl _))

/-- A unit with SYNC_EN shows SYNC_SEEN, and the slip where its receive phase was away from its target. -/
def SyncSeen (rx : Nat → Bool) (u : Nat) (t : State) : Prop :=
  on t (Reg.UNIT_RX_CTRL_SYNC_EN u) = true → rd t (Reg.UNIT_RX_STATUS_SYNC_SEEN u) = 1 ∧ (rx u = true → rd t (Reg.UNIT_RX_STATUS_SYNC_SLIP u) = 1)

theorem rd_txRealign (s : State) (u : Nat) (slip : Bool) {f : Fld} (h : f.key ≠ (Reg.UNIT_TX_STATUS_TX_SYNC_SLIP u).key) (he : ∀ e ∈ eventFields, f.key ≠ e.key) :
    rd (txRealign s u slip) f = rd s f := by
  unfold txRealign
  split
  · rw [rd_raise _ _ _ he, rd_modTx, rd_wr_ne _ _ h]
  · rfl

/-- A unit's own fields after its receive chain's realignment. -/
theorem rxRealign_own (s : State) (u : Nat) (slip : Bool) (h : on s (Reg.UNIT_RX_CTRL_SYNC_EN u) = true) :
    rd (rxRealign s u slip) (Reg.UNIT_RX_STATUS_SYNC_SEEN u) = 1 ∧ (slip = true → rd (rxRealign s u slip) (Reg.UNIT_RX_STATUS_SYNC_SLIP u) = 1) := by
  unfold rxRealign
  rw [if_pos h]
  cases slip with
  | false => exact ⟨rd_wr s (Reg.UNIT_RX_STATUS_SYNC_SEEN u) 1, fun h => absurd h (by decide)⟩
  | true =>
    simp only [if_true, channelChange, rd_markTag]
    rw [rd_raise _ _ _ (by exact key_ne_event (by decide)), rd_wr_ne _ _ (by exact key_ne (by decide)), rd_wr,
      rd_raise _ _ _ (by exact key_ne_event (by decide)), rd_wr]
    exact ⟨rfl, fun _ => rfl⟩

/-- A turn leaves SYNC_EN of every unit. -/
theorem syncEn_realignUnit (rx tx : Nat → Bool) (s : State) (a u : Nat) :
    on (realignUnit rx tx s a) (Reg.UNIT_RX_CTRL_SYNC_EN u) = on s (Reg.UNIT_RX_CTRL_SYNC_EN u) := by
  refine on_congr ((frame_realignUnit rx tx s a).1 _ fun f hf => ?_)
  simp only [realignRegs, eventRegs, List.cons_append, List.nil_append, List.mem_cons, List.not_mem_nil, or_false] at hf
  rcases hf with rfl | rfl | rfl | rfl | rfl | rfl
  · exact key_ne_place (by decide) (by decide) (by decide)
  · exact key_ne_place (by decide) (by decide) (by decide)
  · exact key_ne_place (by decide) (by decide) (by decide)
  all_goals exact key_ne_fixed (by decide)

/-- A turn of unit `a` leaves what another unit shows. -/
theorem shown_realignUnit (rx tx : Nat → Bool) (s : State) {a u : Nat} (h : u ≠ a) :
    rd (realignUnit rx tx s a) (Reg.UNIT_RX_STATUS_SYNC_SEEN u) = rd s (Reg.UNIT_RX_STATUS_SYNC_SEEN u) ∧
      rd (realignUnit rx tx s a) (Reg.UNIT_RX_STATUS_SYNC_SLIP u) = rd s (Reg.UNIT_RX_STATUS_SYNC_SLIP u) := by
  constructor
  all_goals
    refine (frame_realignUnit rx tx s a).1 _ fun f hf => ?_
    simp only [realignRegs, eventRegs, List.cons_append, List.nil_append, List.mem_cons, List.not_mem_nil, or_false] at hf
    rcases hf with rfl | rfl | rfl | rfl | rfl | rfl
    · exact key_ne_unit h (by decide) (by decide) (by decide)
    · exact key_ne_unit h (by decide) (by decide) (by decide)
    · exact key_ne_place (by decide) (by decide) (by decide)
    all_goals exact key_ne_fixed (by decide)

theorem syncSeen_realignUnit (rx tx : Nat → Bool) (s : State) (u : Nat) : SyncSeen rx u (realignUnit rx tx s u) := by
  intro hen
  rw [syncEn_realignUnit] at hen
  obtain ⟨h1, h2⟩ := rxRealign_own s u (rx u) hen
  unfold realignUnit
  rw [rd_txRealign _ _ _ (by exact key_ne (by decide)) (by exact key_ne_event (by decide)),
    rd_txRealign _ _ _ (by exact key_ne (by decide)) (by exact key_ne_event (by decide))]
  exact ⟨h1, h2⟩

/-- Every unit of a realignment shows it. -/
theorem syncSeen_realignAll (rx tx : Nat → Bool) {l : List Nat} {u : Nat} (hu : u ∈ l) (s : State) : SyncSeen rx u (forEach l s (realignUnit rx tx)) := by
  refine forEach_of_mem (k := u) (fun s => syncSeen_realignUnit rx tx s u) (fun s a h => ?_) s (.inl hu)
  by_cases hua : u = a
  · rw [← hua]
    exact syncSeen_realignUnit rx tx s u
  · intro hen
    rw [syncEn_realignUnit] at hen
    obtain ⟨h1, h2⟩ := shown_realignUnit rx tx s hua
    rw [h1, h2]
    exact h hen

theorem rd_capSkewLost (s : State) {f : Fld} (h : f.key ≠ Reg.CAP_CTRL_SKEW_OK.key) (he : ∀ e ∈ eventFields, f.key ≠ e.key) : rd (capSkewLost s) f = rd s f := by
  unfold capSkewLost
  split
  · rw [rd_raise _ _ _ he, rd_wr_ne _ _ h]
  · rfl

theorem syncEn_realignUnits (rx tx : Nat → Bool) (l : List Nat) (u : Nat) (s : State) :
    on (realignUnits s l rx tx) (Reg.UNIT_RX_CTRL_SYNC_EN u) = on s (Reg.UNIT_RX_CTRL_SYNC_EN u) := by
  have h : on (forEach l s (realignUnit rx tx)) (Reg.UNIT_RX_CTRL_SYNC_EN u) = on s (Reg.UNIT_RX_CTRL_SYNC_EN u) :=
    forEach_same (fun t => on t (Reg.UNIT_RX_CTRL_SYNC_EN u)) (fun t a _ => syncEn_realignUnit rx tx t a u) s
  unfold realignUnits
  dsimp only
  split
  · exact (on_congr (rd_capSkewLost _ (key_ne_fixed (by decide)) (key_ne_event (by decide)))).trans h
  · exact h

theorem syncSeen_realignUnits (rx tx : Nat → Bool) {l : List Nat} {u : Nat} (hu : u ∈ l) (s : State) : SyncSeen rx u (realignUnits s l rx tx) := by
  have h : SyncSeen rx u (forEach l s (realignUnit rx tx)) := syncSeen_realignAll rx tx hu s
  unfold realignUnits
  dsimp only
  split
  · unfold SyncSeen
    rw [on_congr (rd_capSkewLost _ (by exact key_ne_fixed (by decide)) (by exact key_ne_event (by decide))),
      rd_capSkewLost _ (by exact key_ne_fixed (by decide)) (by exact key_ne_event (by decide)),
      rd_capSkewLost _ (by exact key_ne_fixed (by decide)) (by exact key_ne_event (by decide))]
    exact h
  · exact h

/-- Outside SERVE a sampled edge realigns every unit not held in reset. -/
theorem syncRealign_outside {s : State} {rx tx : Nat → Bool} (he : s.air.syncEdge = true) (hm : modeOf s ≠ mServe) :
    syncRealign s rx tx = realignUnits { s with air := { s.air with syncEdge := false } } (freeUnits s) rx tx := by
  have hb : (modeOf s != mServe) = true := by simpa using hm
  unfold syncRealign
  simp only [he, hb, Bool.true_or, if_true, Bool.not_true, List.filter_false, List.filter_true, List.isEmpty_nil, raiseIf, Bool.false_eq_true, if_false]
  rfl

theorem realignUnits_air (s : State) (l : List Nat) (rx tx : Nat → Bool) : (realignUnits s l rx tx).air = s.air :=
  (keeps_realignUnits (w₀ := 72) (keeps_refl _ s) rfl).part .air rfl

theorem mem_freeUnits {s : State} {u : Nat} (h : u ∈ freeUnits s) : u < 128 := by
  have h1 : u < gradeUnits s.fuse.grade := List.mem_range.mp (List.mem_filter.mp h).1
  have h2 : gradeUnits s.fuse.grade ≤ 128 := by
    unfold gradeUnits
    split_ifs <;> decide
  omega

/-- A realignment in which no phase was away shows SYNC_SEEN, and nothing else. -/
theorem frame_realign_aligned (s : State) {l : List Nat} (hl : ∀ u ∈ l, u < 128) :
    Frame s (realignUnits s l (fun _ => false) fun _ => false) ((List.range 128).map Reg.UNIT_RX_STATUS_SYNC_SEEN) [] := by
  have hturn (t : State) {u : Nat} (hu : u < 128) :
      Frame t (realignUnit (fun _ => false) (fun _ => false) t u) ((List.range 128).map Reg.UNIT_RX_STATUS_SYNC_SEEN) [] := by
    have hmem : Reg.UNIT_RX_STATUS_SYNC_SEEN u ∈ (List.range 128).map Reg.UNIT_RX_STATUS_SYNC_SEEN := List.mem_map.mpr ⟨u, List.mem_range.mpr hu, rfl⟩
    simp only [realignUnit, txRealign, rxRealign, Bool.and_false, Bool.false_eq_true, if_false]
    exact frame_ite (frame_wr _ hmem (frame_refl ..)) (frame_refl ..)
  unfold realignUnits
  simp only [Bool.false_and, Bool.or_self]
  rw [if_neg (by simp)]
  exact frame_forEach (frame_refl ..) fun t u hu h => frame_step h (hturn t (hl u hu))

/-- Settles O23. -/
theorem syncEdgesAndRealignment : Obligations.SyncEdgesAndRealignment := by
  intro s rx tx
  refine ⟨⟨_, rfl, rfl, frame_air _ (by simp) (frame_refl ..)⟩, fun h => congrArg _ (if_neg (by simp [h])),
    fun he hm => ⟨gives_next rfl (syncRealign_outside he hm) ⟨realignUnits_air .., fun u hu hen => ?_⟩, gives_next rfl (syncRealign_outside he hm) ?_⟩,
    within_of_mask (keepsO_execSyncRealign (w₀ := 104) (keeps_refl _ s) rfl) (by decide)⟩
  · exact syncSeen_realignUnits _ _ hu _ ((syncEn_realignUnits ..).trans hen)
  · have h0 : bit (0 : BitVec 128).toNat = fun _ => false := funext fun _ => Nat.zero_testBit _
    rw [h0]
    exact frame_step (frame_air _ (by simp) (frame_refl ..)) (frame_mono (frame_realign_aligned _ fun _ h => mem_freeUnits h) (List.Subset.refl _) (by simp))

/-! Synthesisers (R115, R118, Table 5.2). -/

/-! ### LO states -/

theorem loState_setLo (s : State) (c : Nat) {st : Nat} (h : st < 8) :
    loState (setLo s c st) c = st ∧ rd (setLo s c st) (Reg.CLUSTER_LO_STATUS_LOCK c) = b2n (st == loLocked) := by
  unfold loState setLo
  rw [rd_wr_ne _ _ (by exact key_ne (by decide)), rd_wr, rd_wr]
  refine ⟨Nat.mod_eq_of_lt h, Nat.mod_eq_of_lt ?_⟩
  show b2n _ < 2
  cases st == loLocked <;> decide

theorem frame_setLo {s t : State} {rs : List Fld} {ps : List Part} (c st : Nat) (h1 : Reg.CLUSTER_LO_STATUS_STATE c ∈ rs)
    (h2 : Reg.CLUSTER_LO_STATUS_LOCK c ∈ rs) (h : Frame s t rs ps) : Frame s (setLo t c st) rs ps :=
  frame_wr _ h2 (frame_wr _ h1 h)

/-! ### Mutes of a cluster (R112, R118) -/

theorem rd_holdCause_low (s : State) (u b : Nat) {f : Fld} (h : f.key < 0x200000 * 32) : rd (holdCause s u b) f = rd s f := by
  have h' : f.key < 0x200104 * 32 := by omega
  unfold holdCause
  rw [rd_modTx, rd_wr_ne _ _ (by exact (lt_key h').ne), rd_wr_ne _ _ (by exact (lt_key h').ne)]

theorem rd_updateNbLive_low (s : State) (u : Nat) {f : Fld} (h : f.key < 0x200000 * 32) : rd (updateNbLive s u) f = rd s f := by
  unfold updateNbLive
  dsimp only
  rw [rd_wr_ne _ _ (by exact (lt_key (by omega)).ne), rd_wr_ne _ _ (by exact (lt_key (by omega)).ne)]

/-- The units of cluster `c` hold cause 3. -/
def muteUnits (s : State) (c : Nat) : State := forEach (unitsOf c) s fun s u => holdCause s u 3

/-- The neighbours of the units of cluster `c` see their mutes. -/
def seeMutes (s : State) (c : Nat) : State := forEach (unitsOf c) s fun s u => forEach (regionUnits u) s updateNbLive

theorem loMute_eq (s : State) (c : Nat) : loMute s c = if loMode (modeOf s) then txonCheck (seeMutes (muteUnits s c) c) c else s := rfl

theorem rd_txonCheck (s : State) (c : Nat) {f : Fld} (h : f.key ≠ (Reg.CLUSTER_STROBE_TXON_NOW c).key) : rd (txonCheck s c) f = rd s f := by
  unfold txonCheck
  split
  · rfl
  · exact rd_wr_ne _ _ h

/-- The mutes of a cluster's units change no register below the units' but TXON. -/
theorem rd_loMute_low (s : State) (c : Nat) {f : Fld} (h : f.key < 0x200000 * 32) (ht : f.key ≠ (Reg.CLUSTER_STROBE_TXON_NOW c).key) :
    rd (loMute s c) f = rd s f := by
  rw [loMute_eq]
  split
  · rw [rd_txonCheck _ _ ht]
    refine (forEach_same (fun t => rd t f) (fun t u _ => forEach_same (fun t => rd t f) (fun t v _ => rd_updateNbLive_low t v h) t) _).trans ?_
    exact forEach_same (fun t => rd t f) (fun t u _ => rd_holdCause_low t u 3 h) s
  · rfl

@[simp] theorem rd_loTag (s : State) (c : Nat) (f : Fld) : rd (loTag s c) f = rd s f := by
  unfold loTag
  exact forEach_same (fun t => rd t f) (fun t u _ => rd_markTag t u _ _ f) s

theorem loTag_clusters (s : State) (c : Nat) : (loTag s c).clusters = s.clusters := by
  unfold loTag
  exact forEach_same State.clusters (g := fun t u => markTag t u 3 (invalidCount (rd t (Reg.UNIT_RX_DEC_RATIO u)))) (fun _ _ _ => rfl) s

theorem loTag_act (s : State) (c : Nat) : (loTag s c).act = s.act := by
  unfold loTag
  exact forEach_same State.act (g := fun t u => markTag t u 3 (invalidCount (rd t (Reg.UNIT_RX_DEC_RATIO u)))) (fun _ _ _ => rfl) s

theorem loTag_hact (s : State) (c : Nat) : (loTag s c).hact = s.hact := by
  unfold loTag
  exact forEach_same State.hact (g := fun t u => markTag t u 3 (invalidCount (rd t (Reg.UNIT_RX_DEC_RATIO u)))) (fun _ _ _ => rfl) s

/-- A unit of the cluster is muted by cause 3, its attenuator at its end. -/
def Muted (u : Nat) (t : State) : Prop := causeHeld t u 3 = true ∧ (t.unit u).tx.txNow = false ∧ (t.unit u).tx.att = 63

theorem muted_congr {s t : State} {u : Nat} (h : Muted u s) (hr : rd t (Reg.UNIT_TX_STATUS_MUTE_CAUSE u) = rd s (Reg.UNIT_TX_STATUS_MUTE_CAUSE u))
    (hu : (t.unit u).tx = (s.unit u).tx) : Muted u t := by
  unfold Muted causeHeld at *
  rwa [hr, hu]

theorem muted_holdCause (s : State) (u : Nat) : Muted u (holdCause s u 3) := by
  unfold Muted causeHeld holdCause
  rw [rd_modTx, rd_wr_ne _ _ (by exact key_ne (by decide)), rd_wr, unit_modTx]
  exact ⟨(bit_setBit_mod _ 3 (by decide : 3 < 12)).trans (by simp), rfl, rfl⟩

theorem muted_holdOther {s : State} {u a : Nat} (h : Muted u s) : Muted u (holdCause s a 3) := by
  by_cases hua : u = a
  · rw [← hua]
    exact muted_holdCause s u
  · refine muted_congr h ?_ ?_
    · unfold holdCause
      rw [rd_modTx, rd_wr_ne _ _ (by exact key_ne_unit hua (by decide) (by decide) (by decide)),
        rd_wr_ne _ _ (by exact key_ne_unit hua (by decide) (by decide) (by decide))]
    · unfold holdCause State.modTx
      rw [unit_modUnit_ne _ _ hua, unit_wr, unit_wr]

theorem muted_updateNbLive {s : State} {u a : Nat} (h : Muted u s) : Muted u (updateNbLive s a) := by
  refine muted_congr h ?_ ?_
  · unfold updateNbLive
    dsimp only
    rw [rd_wr_ne _ _ (by exact key_ne_place (by decide) (by decide) (by decide)), rd_wr_ne _ _ (by exact key_ne_place (by decide) (by decide) (by decide))]
  · unfold updateNbLive
    rw [unit_wr, unit_wr]

/-- Every unit of a cluster whose LO loses lock is muted, in the modes that use the LO. -/
theorem muted_loMute {s : State} {c u : Nat} (hm : loMode (modeOf s) = true) (hc : c < 16) (hu : u ∈ unitsOf c) : Muted u (loMute s c) := by
  have h1 : Muted u (muteUnits s c) := forEach_of_mem (k := u) (fun s => muted_holdCause s u) (fun s a h => muted_holdOther h) s (.inl hu)
  have hloop {α : Type} {l : List α} {g : State → α → State} {s : State} (hg : ∀ s a, Muted u s → Muted u (g s a)) (h : Muted u s) : Muted u (forEach l s g) := by
    induction l generalizing s with
    | nil => exact h
    | cons a l ih => exact ih (hg s a h)
  have h2 : Muted u (seeMutes (muteUnits s c) c) := hloop (fun s _ h => hloop (fun s _ h => muted_updateNbLive h) h) h1
  rw [loMute_eq, if_pos hm]
  refine muted_congr h2 (rd_txonCheck _ _ ?_) ?_
  · simp only [Fld.key, Reg.UNIT_TX_STATUS_MUTE_CAUSE, Reg.CLUSTER_STROBE_TXON_NOW]
    omega
  · unfold txonCheck
    split
    · rfl
    · rw [unit_wr]

theorem muted_loTag {s : State} {c u : Nat} (h : Muted u s) : Muted u (loTag s c) := by
  refine muted_congr h (rd_loTag ..) ?_
  unfold loTag
  refine forEach_same (fun t => (t.unit u).tx) (fun t a _ => ?_) s
  by_cases hua : u = a
  · rw [← hua]
    simp [markTag]
  · simp only [markTag, State.modRx, unit_modUnit_ne _ _ hua]

/-! ### The cluster's commit (R115) -/

/-- What the commit of a passing test does in STOP, with no LO to search. -/
theorem clusterCommit_leaves {s : State} {c : Nat} (hr : clusterRunOk s c = true) (hs : (s.cluster c).stopped = true) (hp : clusterPairFails s c = [])
    (ho : loState s c = loOff) (hm : loMode (modeOf s) = false) : ((clusterCommit s c).cluster c).stopped = false ∧
      (clusterCommit s c).hact = (copyShadow { s with silent := s.silent.filter (· != (clusterGroup c).id) } (clusterGroup c)).hact := by
  have h : commitGroup s (clusterGroup c) (clusterPairFails s c) (clusterRunOk s c && (s.cluster c).stopped) =
      (copyShadow { s with silent := s.silent.filter (· != (clusterGroup c).id) } (clusterGroup c), true) := by
    rw [hr, hs, hp]
    exact commitGroup_of_pass (.inr rfl)
  let s1 := copyShadow { s with silent := s.silent.filter (· != (clusterGroup c).id) } (clusterGroup c)
  have hact : s1.act = s.act := copyShadow_act _ _
  have hrst : s1.rst = s.rst := copyShadow_rst _ _
  have hrun : clusterRunOk s1 c = true := by
    rw [← hr]
    unfold clusterRunOk clusterHeld blkHeld on modeOf
    rw [hrst, rd_of_L rfl hact, rd_of_L rfl hact]
  let s2 := s1.modCluster c fun x => { x with stopped := false }
  have hgen (s3 : State) (ha : s3.act = s.act) (hh : s3.hact = s1.hact) (hc : s3.cluster c = s2.cluster c) (b : Bool) :
      let st := loState s3 c
      let r := if b && (st == loLocked || st == loLocking || st == loCal) && (s3.cluster c).precal.isNone then loSearch (loTag (loMute s3 c) c) c else loKick s3 c
      (r.cluster c).stopped = false ∧ r.hact = s1.hact := by
    have hst : loState s3 c = loOff := (rd_of_L rfl ha).trans ho
    have hmode : loMode (modeOf s3) = false := by
      rw [← hm]
      exact congrArg _ (rd_of_L rfl ha)
    have hkick : loKick s3 c = s3 := by simp [loKick, hmode]
    simp only [hst, hkick, show (loOff == loLocked || loOff == loLocking || loOff == loCal) = false from rfl, Bool.and_false, Bool.false_and, Bool.false_eq_true, if_false, hh, hc]
    exact ⟨by simp [s2], trivial⟩
  unfold clusterCommit
  rw [h]
  simp only [if_true]
  rw [if_pos hrun]
  split
  · exact hgen (loTag s2 c) ((loTag_act ..).trans hact) (loTag_hact ..) (cluster_congr (loTag_clusters ..) c) _
  · exact hgen s2 hact rfl rfl _

theorem clusterCommit_refused {s : State} {c : Nat} (hr : clusterRunOk s c = true) (hs : (s.cluster c).stopped = true) (hp : clusterPairFails s c ≠ []) :
    clusterCommit s c = refuseCommit s (clusterGroup c) (clusterPairFails s c) := by
  have h : commitGroup s (clusterGroup c) (clusterPairFails s c) (clusterRunOk s c && (s.cluster c).stopped) =
      (refuseCommit s (clusterGroup c) (clusterPairFails s c), false) := commitGroup_of_fail (.inr (by rw [hr, hs]; rfl)) hp
  unfold clusterCommit
  rw [h]
  rfl

/-! ### PRECAL, lock, failure and the loss of lock (R118) -/

theorem loPrecalAsk_begins {s : State} {c : Nat} (f : Nat) (ho : loState s c = loOff) (hm : modeOf s = mIdle ∨ modeOf s = mDiag)
    (hd : domState s (12 + c / 2) = domOn) :
    loPrecalAsk s c f = (setLo s c loCal).modCluster c fun x => { x with precal := some f, entry := none } := by
  unfold loPrecalAsk
  rw [if_neg (fun h => h.2.2 hd)]
  exact if_pos ⟨ho, hm⟩

theorem loPrecalAsk_refused {s : State} {c : Nat} (f : Nat) (h : loState s c ≠ loOff ∨ (modeOf s ≠ mIdle ∧ modeOf s ≠ mDiag)) :
    loPrecalAsk s c f = raise s 0x1020 0 := by
  have hn : ¬(loState s c = loOff ∧ (modeOf s = mIdle ∨ modeOf s = mDiag)) := by tauto
  unfold loPrecalAsk
  rw [if_neg (fun hc => hn ⟨hc.1, hc.2.1⟩)]
  exact if_neg hn

/-- The registers of a lock: the state, LOCK, whether a stored entry served, and the time of the hop. -/
theorem locked_effect (s : State) (c hit hop : Nat) (hh : hit < 2) (hp : hop < 2 ^ 13) :
    let t := loTag ((wr (wr (setLo s c loLocked) (Reg.CLUSTER_LO_STATUS_STORED_HIT c) hit) (Reg.CLUSTER_LO_STATUS_HOP_TIME c) hop).modCluster
      c fun x => { x with dropEvt := false }) c
    loState t c = loLocked ∧ rd t (Reg.CLUSTER_LO_STATUS_LOCK c) = 1 ∧ rd t (Reg.CLUSTER_LO_STATUS_STORED_HIT c) = hit ∧
      rd t (Reg.CLUSTER_LO_STATUS_HOP_TIME c) = hop := by
  obtain ⟨hst, hlock⟩ := loState_setLo s c (st := loLocked) (by decide)
  unfold loState at hst ⊢
  simp only [rd_loTag, rd_modCluster]
  refine ⟨?_, ?_, ?_, (rd_wr ..).trans (Nat.mod_eq_of_lt hp)⟩
  · rw [rd_wr_ne _ _ (by exact key_ne (by decide)), rd_wr_ne _ _ (by exact key_ne (by decide)), hst]
  · rw [rd_wr_ne _ _ (by exact key_ne (by decide)), rd_wr_ne _ _ (by exact key_ne (by decide)), hlock]
    rfl
  · rw [rd_wr_ne _ _ (by exact key_ne (by decide)), rd_wr]
    exact Nat.mod_eq_of_lt hh

theorem loLock_stored {s : State} {c : Nat} (hop : Nat) (h : loState s c = loLocking) : ∃ s1 : State, loLock s c hop =
    loTag ((wr (wr (setLo s1 c loLocked) (Reg.CLUSTER_LO_STATUS_STORED_HIT c) 1) (Reg.CLUSTER_LO_STATUS_HOP_TIME c) hop).modCluster
      c fun x => { x with dropEvt := false }) c := by
  unfold loLock
  rw [if_pos h]
  exact ⟨_, rfl⟩

/-- A full calibration takes three open values. -/
theorem loLock_calibrated {s : State} {c : Nat} (hop : Nat) (h : loState s c = loCal) (hp : (s.cluster c).precal = none) :
    ∃ s1 : State, s1.free = s.free + 3 ∧ loLock s c hop =
    loTag ((wr (wr (setLo s1 c loLocked) (Reg.CLUSTER_LO_STATUS_STORED_HIT c) 0) (Reg.CLUSTER_LO_STATUS_HOP_TIME c) hop).modCluster
      c fun x => { x with dropEvt := false }) c := by
  have hst (s : State) (f b a p : Nat) : (loStore s c f b a p).free = s.free := (keeps_loStore (w₀ := 128) (keeps_refl _ s) rfl).part .free rfl
  unfold loLock
  rw [if_neg (by rw [h]; decide), if_pos h]
  dsimp only
  rw [hp]
  exact ⟨_, hst .., rfl⟩

theorem loTag_free (s : State) (c : Nat) : (loTag s c).free = s.free := by
  unfold loTag
  exact forEach_same State.free (g := fun t u => markTag t u 3 (invalidCount (rd t (Reg.UNIT_RX_DEC_RATIO u)))) (fun _ _ _ => rfl) s

theorem loLock_none {s : State} {c : Nat} (hop : Nat) (h1 : loState s c ≠ loLocking) (h2 : loState s c ≠ loCal) : loLock s c hop = s := by
  unfold loLock
  rw [if_neg h1, if_neg h2]

theorem rd_regionRest (s : State) (g : Nat) {f : Fld} (h : f.key ≠ (Reg.PWR_DOM_STATE (12 + g)).key) : rd (regionRest s g) f = rd s f := by
  unfold regionRest
  split
  · exact rd_wr_ne s _ h
  · rfl

/-- What a failed search leaves of the cluster. -/
theorem loFail_effect (s : State) {c : Nat} (hc : c < 16) :
    let t := regionRest ((raise (loMute (setLo s c loFailed) c) 0x2021 0).modCluster c fun x => { x with precal := none }) (c / 2)
    loState t c = loFailed ∧ rd t (Reg.CLUSTER_LO_STATUS_LOCK c) = 0 ∧ (t.cluster c).precal = none := by
  obtain ⟨hst, hlock⟩ := loState_setLo s c (st := loFailed) (by decide)
  have hkey {i w : Nat} {p : Acc} {x : Nat} : Fld.key ⟨0x100008 + 0x10000 * c, i, w, p, .L, x⟩ ≠ (Reg.PWR_DOM_STATE (12 + c / 2)).key := by
    simp only [Fld.key, Reg.PWR_DOM_STATE]
    omega
  have hlow {i w : Nat} {p : Acc} {x : Nat} (hi : i < 32) : Fld.key ⟨0x100008 + 0x10000 * c, i, w, p, .L, x⟩ < 0x200000 * 32 := by
    simp only [Fld.key]
    omega
  unfold loState at hst ⊢
  refine ⟨?_, ?_, ?_⟩
  · rw [rd_regionRest _ _ (by exact hkey), rd_modCluster, rd_raise _ _ _ (by exact key_ne_event (by decide)),
      rd_loMute_low _ _ (by exact hlow (by decide)) (by exact key_ne (by decide)), hst]
  · rw [rd_regionRest _ _ (by exact hkey), rd_modCluster, rd_raise _ _ _ (by exact key_ne_event (by decide)),
      rd_loMute_low _ _ (by exact hlow (by decide)) (by exact key_ne (by decide)), hlock]
    rfl
  · rw [cluster_congr ((keeps_regionRest (w₀ := 4194304) (keeps_refl _ _) rfl).part .clusters rfl), cluster_modCluster]

/-- What the loss of lock leaves of the cluster, and of its units. -/
theorem loUnlock_effect (s : State) {c : Nat} (hc : c < 16) :
    let t := raise (wr (loTag (loMute (setLo s c loLocking) c) c) (Reg.CLUSTER_LO_STATUS_UNLOCK c) 1) 0x2020 0
    loState t c = loLocking ∧ rd t (Reg.CLUSTER_LO_STATUS_LOCK c) = 0 ∧ rd t (Reg.CLUSTER_LO_STATUS_UNLOCK c) = 1 ∧
      (loMode (modeOf s) = true → ∀ u ∈ unitsOf c, Muted u t) := by
  obtain ⟨hst, hlock⟩ := loState_setLo s c (st := loLocking) (by decide)
  have hlow {i w : Nat} {p : Acc} {x : Nat} (hi : i < 32) : Fld.key ⟨0x100008 + 0x10000 * c, i, w, p, .L, x⟩ < 0x200000 * 32 := by
    simp only [Fld.key]
    omega
  unfold loState at hst ⊢
  refine ⟨?_, ?_, ?_, fun hm u hu => ?_⟩
  · rw [rd_raise _ _ _ (by exact key_ne_event (by decide)), rd_wr_ne _ _ (by exact key_ne (by decide)), rd_loTag,
      rd_loMute_low _ _ (by exact hlow (by decide)) (by exact key_ne (by decide)), hst]
  · rw [rd_raise _ _ _ (by exact key_ne_event (by decide)), rd_wr_ne _ _ (by exact key_ne (by decide)), rd_loTag,
      rd_loMute_low _ _ (by exact hlow (by decide)) (by exact key_ne (by decide)), hlock]
    rfl
  · rw [rd_raise _ _ _ (by exact key_ne_event (by decide)), rd_wr]
    rfl
  · have hmode : modeOf (setLo s c loLocking) = modeOf s :=
      (rd_wr_ne _ _ (key_ne_fixed (by decide)).symm).trans (rd_wr_ne _ _ (key_ne_fixed (by decide)).symm)
    have h1 : Muted u (loTag (loMute (setLo s c loLocking) c) c) := muted_loTag (muted_loMute (by rw [hmode]; exact hm) hc hu)
    refine muted_congr h1 ?_ (congrArg UnitS.tx (unit_congr ?_ u))
    · refine (rd_raise _ _ _ (key_ne_event (by decide))).trans (rd_wr_ne _ _ ?_)
      simp only [Fld.key, Reg.CLUSTER_LO_STATUS_UNLOCK]
      omega
    · exact (samePart_of_frame (frame_raise_self ..) (p := .units) (by simp)).trans (wr_units ..)

/-- Settles O25. -/
theorem synthesiserStates : Obligations.SynthesiserStates := by
  intro s c f hop
  refine ⟨fun h => congrArg _ (if_neg ?_), fun he hrel hr hs => ⟨fun hp ho hm => ?_, fun hp => ?_⟩, fun he ho hm hd => ?_, fun he h hroom => ?_, fun h => ?_,
    fun h hp => ?_, fun h => gives_next rfl (if_pos h) ⟨(loState_setLo s c (st := loCal) (by decide)).1, by simp, ?_⟩, fun h => congrArg _ (if_neg h),
    fun h => gives_next rfl (if_pos h) (loFail_effect s c.isLt), fun h1 h2 => ⟨congrArg _ (loLock_none _ h1 h2), congrArg _ (if_neg (by tauto))⟩,
    fun h => gives_next rfl (if_pos h) (loUnlock_effect s c.isLt), fun h => congrArg _ (if_neg h),
    within_of_mask (keepsO_execLoLock (w₀ := 12583104) (keeps_refl _ s) rfl) (by decide), within_of_mask (keepsO_execLoFail (w₀ := 4194504) (keeps_refl _ s) rfl) (by decide),
    within_of_mask (keepsO_execLoUnlock (w₀ := 72) (keeps_refl _ s) rfl) (by decide), within_of_mask (keepsO_execClusterCommit (w₀ := 201) (keeps_refl _ s) rfl) (by decide)⟩
  · rcases h with h | h <;> simp [h]
  · obtain ⟨hst, hh⟩ := clusterCommit_leaves hr hs hp ho hm
    refine gives_next rfl (if_pos (by simp [he, hrel])) ⟨hst, fun f hf hin => (rd_H_congr hf hh).trans ?_⟩
    exact (rd_copyShadow _ _ hf).trans (if_pos hin)
  · refine gives_next rfl ((if_pos (by simp [he, hrel])).trans (clusterCommit_refused hr hs hp)) ⟨?_, fun f hf => rd_H_congr hf (refuseCommit_hact ..)⟩
    rw [cluster_congr (refuseCommit_clusters ..)]
    exact hs
  · refine gives_next rfl ((if_neg (by simp [he])).trans (loPrecalAsk_begins _ ho hm hd)) ⟨(loState_setLo s c (st := loCal) (by decide)).1, by simp, ?_⟩
    exact frame_modCluster _ _ (by simp) (frame_setLo _ _ (by simp) (by simp) (frame_refl ..))
  · exact gives_next rfl ((if_neg (by simp [he])).trans (loPrecalAsk_refused _ h)) ⟨queued_raise _ rfl rfl hroom (by decide), frame_raise_self ..⟩
  · obtain ⟨s1, ht⟩ := loLock_stored hop.toNat h
    exact gives_next rfl ht (locked_effect s1 c 1 hop.toNat (by decide) hop.isLt)
  · obtain ⟨s1, hfree, ht⟩ := loLock_calibrated hop.toNat h hp
    obtain ⟨h1, h2, h3, -⟩ := locked_effect s1 c 0 hop.toNat (by decide) hop.isLt
    exact gives_next rfl ht ⟨h1, h2, h3, (loTag_free ..).trans (by simpa [setLo] using hfree)⟩
  · exact frame_modCluster _ _ (by simp) (frame_setLo _ _ (by simp) (by simp) (frame_refl ..))

/-! Beamforming: the TILE commit, the checks of a weight set, and the solver (R147, R153 to R157). -/

/-! ### Loops over the tiles -/

/-- Fields at one place of two tiles' pages. -/
theorem key_ne_tile {a b n m k i j v w x y : Nat} {p q : Acc} {c d : Cls} (h : n ≠ m) (ha : a / 0x100000 = b / 0x100000) (hk : k < 0x10000)
    (hlow : a % 0x100000 + 0x10000 ≤ 0x100000) (hlow' : b % 0x100000 + 0x10000 ≤ 0x100000) (hi : i < 32) (hj : j < 32) :
    Fld.key ⟨a + 0x100000 * n + k, i, v, p, c, x⟩ ≠ Fld.key ⟨b + 0x100000 * m + k, j, w, q, d, y⟩ := by
  simp only [Fld.key]
  omega

/-- Fields of different words in the tiles' pages. -/
theorem key_ne_tileWord {a b n m i j v w x y : Nat} {p q : Acc} {c d : Cls} (h : a % 0x100000 * 32 + i ≠ b % 0x100000 * 32 + j) (hi : i < 32) (hj : j < 32) :
    Fld.key ⟨a + 0x100000 * n, i, v, p, c, x⟩ ≠ Fld.key ⟨b + 0x100000 * m, j, w, q, d, y⟩ := by
  simp only [Fld.key]
  omega

/-- What one tile's turn sets up and every turn keeps holds of every enabled tile at the loop's end. -/
theorem forTiles_sets {P : Nat → State → Prop} {g : State → Nat → State} (hset : ∀ s k, P k (g s k)) (hkeep : ∀ s k a, k ≠ a → P k s → P k (g s a)) (s : State)
    {k : Nat} (hk : k ∈ enabledTiles s) : P k (forTiles s g) := by
  refine forEach_of_mem (P := P k) (fun s => hset s k) (fun s a h => ?_) s (.inl hk)
  by_cases hka : k = a
  · rw [← hka]
    exact hset s k
  · exact hkeep s k a hka h

theorem forTiles_same {β : Type} (p : State → β) {g : State → Nat → State} (h : ∀ s k, p (g s k) = p s) (s : State) : p (forTiles s g) = p s :=
  forEach_same p (fun s k _ => h s k) s

theorem enabledTiles_congr {s t : State} (h : t.fuse = s.fuse) : enabledTiles t = enabledTiles s := by
  unfold enabledTiles
  rw [h]

@[simp] theorem wset_modWset (s : State) (w : Nat) (g : WsetS → WsetS) : (s.modWset w g).wset w = g (s.wset w) := get_set ..

theorem wset_congr {s t : State} (h : t.beam.wsets = s.beam.wsets) (w : Nat) : t.wset w = s.wset w := by
  unfold State.wset
  rw [h]

/-! ### The TILE commit (R157) -/

theorem discardWset_hact (s : State) (w : Nat) : (discardWset s w).hact = s.hact := by
  refine (forTiles_same State.hact (fun s k => ?_) _).trans rfl
  exact (wr_hact_of_L _ _ (fun h => Cls.noConfusion h)).trans (wr_hact_of_L _ _ (fun h => Cls.noConfusion h))

theorem corrCommitted_hact (s : State) (u : Nat) : (corrCommitted s u).hact = s.hact :=
  wr_hact_of_L s (f := Reg.CORR_VALID_VALID (u / 32)) (setBit (rd s (Reg.CORR_VALID_VALID (u / 32))) (u % 32)) (fun h => Cls.noConfusion h)

theorem corrCommitted_chorus (s : State) (u : Nat) : (corrCommitted s u).chorus = s.chorus :=
  wr_chorus s (Reg.CORR_VALID_VALID (u / 32)) (setBit (rd s (Reg.CORR_VALID_VALID (u / 32))) (u % 32))

theorem recipUpdate_hact (s : State) : (recipUpdate s).hact = s.hact := by
  have hloop : (forTiles s fun s t => wr s (Reg.SOLVER_STATUS_RECIP_VALID t) (b2n (recipTile s t))).hact = s.hact :=
    forTiles_same State.hact (fun s t => wr_hact_of_L s (f := Reg.SOLVER_STATUS_RECIP_VALID t) _ (fun h => Cls.noConfusion h)) s
  unfold recipUpdate
  dsimp only
  unfold raiseIf
  split
  · rw [raise_hact, hloop]
  · exact hloop

/-- A TILE commit that passes puts every shadow value of its group into force. -/
theorem tileCommit_hact {s : State} (hb : modeOf s ≠ mBoot) (hc : shadowChanged s tileGroup = true) (hp : tilePairFails s = []) (hpsi : s.chorus.psiPend = 0) :
    (tileCommit s).hact = (copyShadow { s with silent := s.silent.filter (· != tileGroup.id) } tileGroup).hact := by
  have h : commitGroup s tileGroup (tilePairFails s) = (copyShadow { s with silent := s.silent.filter (· != tileGroup.id) } tileGroup, true) := by
    rw [hp]
    exact commitGroup_of_pass (.inl hc)
  have hpsi' : ∀ t : State, t.chorus = s.chorus → psiToCorr t = t := fun t ht => if_pos (by rw [ht]; exact hpsi)
  have hset (r : State) (l : List Nat) : (forEach l r fun s' w =>
      if wsetDecl s w != wsetDecl s' w || (List.range 4).any (fun c => bit (rd s' (Reg.WSET_DESC_CARR w)) c && (carrierDecl s c != carrierDecl r c)) then
        discardWset s' w else s').hact = r.hact := by
    refine forEach_same State.hact (fun t w _ => ?_) r
    split
    · exact discardWset_hact t w
    · rfl
  have hset' (r : State) (l : List Nat) : (forEach l r fun s' w =>
      if wsetDecl s w != wsetDecl s' w || (List.range 4).any (fun c => bit (rd s' (Reg.WSET_DESC_CARR w)) c && (carrierDecl s c != carrierDecl r c)) then
        discardWset s' w else s').chorus = r.chorus := by
    refine forEach_same State.chorus (fun t w _ => ?_) r
    split
    · exact (keeps_discardWset (w₀ := 256) (keeps_refl _ t) rfl).part .chorus rfl
    · rfl
  have hcorr (r : State) (l : List Nat) : (forEach l r corrCommitted).hact = r.hact ∧ (forEach l r corrCommitted).chorus = r.chorus :=
    ⟨forEach_same State.hact (fun t u _ => corrCommitted_hact t u) r,
      forEach_same State.chorus (fun t u _ => corrCommitted_chorus t u) r⟩
  have hcopy : (copyShadow { s with silent := s.silent.filter (· != tileGroup.id) } tileGroup).chorus = s.chorus :=
    (keeps_copyShadow (w₀ := 0) (keeps_refl 0 _)).part .chorus rfl
  unfold tileCommit
  rw [if_neg hb, h]
  simp only [if_true]
  rw [hpsi', recipUpdate_hact]
  · refine (hcorr ..).1.trans ?_
    split <;> exact hset _ _
  · refine ((hcorr ..).2.trans ?_).trans hcopy
    split <;> exact hset' _ _

theorem tileCommit_refused {s : State} (hb : modeOf s ≠ mBoot) (hc : shadowChanged s tileGroup = true) (hp : tilePairFails s ≠ []) :
    (tileCommit s).hact = s.hact := by
  have h : commitGroup s tileGroup (tilePairFails s) = (refuseCommit s tileGroup (tilePairFails s), false) := commitGroup_of_fail (.inl hc) hp
  unfold tileCommit
  rw [if_neg hb, h]
  exact refuseCommit_hact ..

/-! ### The checks of a weight set (R147) -/

/-- A set whose checks no response waits for. -/
theorem weightsReply_none {s : State} {w : Nat} (ok : Bool) (h : ∀ r ∈ s.pool.wreply, r.1 ≠ w) :
    weightsReply s w ok = { s with pool := { s.pool with wreply := s.pool.wreply.filter fun r => r.1 != w } } := by
  have hmine : (s.pool.wreply.filter fun r => r.1 == w) = [] := List.filter_eq_nil_iff.mpr fun r hr => by simpa using h r hr
  unfold weightsReply
  rw [hmine]
  rfl

/-- What a failed check leaves in the status of every enabled tile. -/
theorem wsetFail_status (s : State) (w : Nat) {fc k : Nat} (hw : w < 16) (hfc : fc < 16) (hk : k ∈ enabledTiles s) :
    let t := wsetFail s w fc false
    rd t (Reg.WSET_STATUS_FAIL k w) = 1 ∧ rd t (Reg.WSET_STATUS_FAIL_CODE k w) = fc ∧ rd t (Reg.WSET_STATUS_SHD_PEND k w) = 0 := by
  have hset := forTiles_sets (P := fun k t => rd t (Reg.WSET_STATUS_FAIL k w) = 1 ∧ rd t (Reg.WSET_STATUS_FAIL_CODE k w) = fc ∧
      rd t (Reg.WSET_STATUS_SHD_PEND k w) = 0)
    (g := fun s t => wr (wr (wr s (Reg.WSET_STATUS_SHD_PEND t w) 0) (Reg.WSET_STATUS_FAIL t w) 1) (Reg.WSET_STATUS_FAIL_CODE t w) fc)
    (fun s k => ⟨?_, ?_, ?_⟩) (fun s k a hka h => ?_) s hk
  · have hev {i v x : Nat} {p : Acc} : ∀ e ∈ eventFields, Fld.key ⟨0x402140 + 0x100000 * k + 0x4 * w, i, v, p, .L, x⟩ ≠ e.key := by
      rw [Nat.add_assoc]
      exact key_ne_event (by decide)
    unfold wsetFail
    dsimp only
    rw [rd_raise _ _ _ (by exact hev), rd_raise _ _ _ (by exact hev), rd_raise _ _ _ (by exact hev)]
    exact hset
  · rw [rd_wr_ne _ _ (by simp [Fld.key, Reg.WSET_STATUS_FAIL, Reg.WSET_STATUS_FAIL_CODE]), rd_wr]
    rfl
  · rw [rd_wr]
    exact Nat.mod_eq_of_lt hfc
  · rw [rd_wr_ne _ _ (by simp [Fld.key, Reg.WSET_STATUS_SHD_PEND, Reg.WSET_STATUS_FAIL_CODE]),
      rd_wr_ne _ _ (by simp [Fld.key, Reg.WSET_STATUS_SHD_PEND, Reg.WSET_STATUS_FAIL]), rd_wr]
    rfl
  · have hkey {i j v y x z : Nat} {p q : Acc} (hi : i < 32) (hj : j < 32) : Fld.key ⟨0x402140 + 0x100000 * k + 0x4 * w, i, v, p, .L, x⟩ ≠
        Fld.key ⟨0x402140 + 0x100000 * a + 0x4 * w, j, y, q, .L, z⟩ := key_ne_tile hka rfl (by omega) (by decide) (by decide) hi hj
    have hrd {i v x : Nat} {p : Acc} (hi : i < 32) : rd (wr (wr (wr s (Reg.WSET_STATUS_SHD_PEND a w) 0) (Reg.WSET_STATUS_FAIL a w) 1)
        (Reg.WSET_STATUS_FAIL_CODE a w) fc) ⟨0x402140 + 0x100000 * k + 0x4 * w, i, v, p, .L, x⟩ = rd s ⟨0x402140 + 0x100000 * k + 0x4 * w, i, v, p, .L, x⟩ :=
      ((rd_wr_ne _ _ (hkey hi (by decide))).trans (rd_wr_ne _ _ (hkey hi (by decide)))).trans (rd_wr_ne _ _ (hkey hi (by decide)))
    obtain ⟨h1, h2, h3⟩ := h
    exact ⟨(hrd (by decide)).trans h1, (hrd (by decide)).trans h2, (hrd (by decide)).trans h3⟩

theorem wsetCheck_lt (s : State) (w : Nat) : wsetCheck s w < 16 := by
  unfold wsetCheck
  dsimp only
  split_ifs <;> decide

theorem wsetFail_pool (s : State) (w fc : Nat) (keep : Bool) : (wsetFail s w fc keep).pool = s.pool :=
  (keeps_wsetFail (w₀ := 264) (keeps_refl _ s) rfl).part .pool rfl

/-! ### The solver (R153 to R156) -/

theorem solveStart_none {s : State} {id : Nat} (h : ∀ e ∈ s.air.queue ++ s.air.past, ¬(e.id = id ∧ e.kind = 3)) : solveStart s id = s := by
  have hf : (s.air.queue ++ s.air.past).find? (fun e => e.id == id && e.kind == 3) = none :=
    List.find?_eq_none.mpr fun e he => by simpa using h e he
  unfold solveStart
  rw [hf]

theorem solveStart_starts {s : State} {id : Nat} {e : SchedEntry} (he : (s.air.queue ++ s.air.past).find? (fun e => e.id == id && e.kind == 3) = some e)
    (h : solveCause s e = 0) : ∃ tag, solveStart s id = forTiles { s with beam := { s.beam with job := some (bits e.param 28 2, bits e.param 24 4, tag) } }
      fun s t => wr s (Reg.SOLVER_STATUS_BUSY t) 1 := by
  unfold solveStart
  rw [he]
  dsimp only
  rw [if_pos h]
  exact ⟨_, rfl⟩

theorem solveStart_fails {s : State} {id : Nat} {e : SchedEntry} (he : (s.air.queue ++ s.air.past).find? (fun e => e.id == id && e.kind == 3) = some e)
    (h : solveCause s e ≠ 0) : solveStart s id = raise (solveResult s (bits e.param 28 2) (solveCause s e)) 0x2036 0 := by
  unfold solveStart
  rw [he]
  exact if_neg h

theorem solveCause_lt (s : State) (e : SchedEntry) : solveCause s e < 16 := by
  unfold solveCause
  dsimp only
  split_ifs <;> decide

/-- BUSY of every enabled tile. -/
theorem rd_busy (s : State) {v k : Nat} (hv : v < 2) (hk : k ∈ enabledTiles s) :
    rd (forTiles s fun s t => wr s (Reg.SOLVER_STATUS_BUSY t) v) (Reg.SOLVER_STATUS_BUSY k) = v :=
  forTiles_sets (P := fun k t => rd t (Reg.SOLVER_STATUS_BUSY k) = v) (fun _ _ => (rd_wr ..).trans (Nat.mod_eq_of_lt hv))
    (fun _ _ _ hka h => (rd_wr_ne _ _ (key_ne_tile (k := 0) hka rfl (by decide) (by decide) (by decide) (by decide) (by decide))).trans h) s hk

/-- The job's number and cause of every enabled tile. -/
theorem solveResult_status (s : State) {job r k : Nat} (hr : r < 16) (hk : k ∈ enabledTiles s) :
    rd (solveResult s job r) (Reg.SOLVER_STATUS_RESULT k) = r ∧ rd (solveResult s job r) (Reg.SOLVER_STATUS_LAST_JOB k) = job % 4 := by
  refine forTiles_sets (P := fun k t => rd t (Reg.SOLVER_STATUS_RESULT k) = r ∧ rd t (Reg.SOLVER_STATUS_LAST_JOB k) = job % 4)
    (fun s k => ⟨(rd_wr ..).trans (Nat.mod_eq_of_lt hr), ?_⟩) (fun s k a hka h => ?_) s hk
  · exact (rd_wr_ne _ _ (by simp [Fld.key, Reg.SOLVER_STATUS_RESULT, Reg.SOLVER_STATUS_LAST_JOB])).trans (rd_wr ..)
  · have hkey {i j v y x z : Nat} {p q : Acc} (hi : i < 32) (hj : j < 32) : Fld.key ⟨0x402204 + 0x100000 * k, i, v, p, .L, x⟩ ≠
        Fld.key ⟨0x402204 + 0x100000 * a, j, y, q, .L, z⟩ := key_ne_tile (k := 0) hka rfl (by decide) (by decide) (by decide) hi hj
    obtain ⟨h1, h2⟩ := h
    exact ⟨((rd_wr_ne _ _ (hkey (by decide) (by decide))).trans (rd_wr_ne _ _ (hkey (by decide) (by decide)))).trans h1,
      ((rd_wr_ne _ _ (hkey (by decide) (by decide))).trans (rd_wr_ne _ _ (hkey (by decide) (by decide)))).trans h2⟩

/-- The solver is idle again: its job has gone, and BUSY falls on every tile. -/
def solverIdle (s : State) (ill : Nat) : State :=
  forTiles { s with beam := { s.beam with job := none } } fun s t => bump (wr s (Reg.SOLVER_STATUS_BUSY t) 0) (Reg.SOLVER_STATUS_ILLCOND_CNT t) ill

theorem solverIdle_beam (s : State) (ill : Nat) : (solverIdle s ill).beam = { s.beam with job := none } :=
  (forTiles_same State.beam (fun _ _ => (wr_beam ..).trans (wr_beam ..)) _).trans rfl

theorem solverIdle_fuse (s : State) (ill : Nat) : (solverIdle s ill).fuse = s.fuse :=
  (forTiles_same State.fuse (fun _ _ => (wr_fuse ..).trans (wr_fuse ..)) _).trans rfl

theorem rd_solverIdle_busy (s : State) (ill : Nat) {k : Nat} (hk : k ∈ enabledTiles s) : rd (solverIdle s ill) (Reg.SOLVER_STATUS_BUSY k) = 0 :=
  forTiles_sets (P := fun k t => rd t (Reg.SOLVER_STATUS_BUSY k) = 0)
    (fun _ _ => (rd_bump_ne _ _ (key_ne (by decide))).trans (rd_wr ..))
    (fun _ _ _ hka h => ((rd_bump_ne _ _ (key_ne_tile (k := 0) hka rfl (by decide) (by decide) (by decide) (by decide) (by decide))).trans
      (rd_wr_ne _ _ (key_ne_tile (k := 0) hka rfl (by decide) (by decide) (by decide) (by decide) (by decide)))).trans h) _ hk

theorem rd_solverIdle (s : State) (ill : Nat) {f : Fld} (h : ∀ t, f.key ≠ (Reg.SOLVER_STATUS_BUSY t).key ∧ f.key ≠ (Reg.SOLVER_STATUS_ILLCOND_CNT t).key) :
    rd (solverIdle s ill) f = rd s f :=
  forTiles_same (fun t => rd t f) (fun _ t => (rd_bump_ne _ _ (h t).2).trans (rd_wr_ne _ _ (h t).1)) { s with beam := { s.beam with job := none } }

theorem rd_solveResult_busy (s : State) (job r k : Nat) : rd (solveResult s job r) (Reg.SOLVER_STATUS_BUSY k) = rd s (Reg.SOLVER_STATUS_BUSY k) :=
  forTiles_same (fun t => rd t (Reg.SOLVER_STATUS_BUSY k)) (fun _ _ => (rd_wr_ne _ _ (key_ne_tileWord (by decide) (by decide) (by decide))).trans
    (rd_wr_ne _ _ (key_ne_tileWord (by decide) (by decide) (by decide)))) s

/-- A field of the solver's status word is none of a set's pending marks. -/
theorem key_solver_ne_pend {i v x k t w : Nat} {p : Acc} (hi : i < 32) (hw : w < 16) :
    Fld.key ⟨0x402204 + 0x100000 * k, i, v, p, .L, x⟩ ≠ (Reg.WSET_STATUS_SHD_PEND t w).key := by
  simp only [Fld.key, Reg.WSET_STATUS_SHD_PEND]
  omega

theorem wsetPending_congr {s t : State} {w : Nat} (hf : t.fuse = s.fuse) (hr : ∀ k, rd t (Reg.WSET_STATUS_SHD_PEND k w) = rd s (Reg.WSET_STATUS_SHD_PEND k w)) :
    wsetPending t w = wsetPending s w := by
  unfold wsetPending on
  simp only [enabledTiles_congr hf, hr]

/-- A set that arrives where none waits: the copy is in the shadow, and every enabled tile shows it pending. -/
theorem wsetArrive_of_free {s : State} {w : Nat} (bs : List Nat) (h : wsetPending s w = false) :
    wsetArrive s w bs = forTiles (s.modWset w fun x => { x with shd := wsetCopyOf bs, checked := false }) fun s t => wr s (Reg.WSET_STATUS_SHD_PEND t w) 1 := by
  unfold wsetArrive
  rw [h]
  rfl

theorem wsetArrive_effect {s : State} {w : Nat} (bs : List Nat) (hw : w < 16) (h : wsetPending s w = false) :
    let t := wsetArrive s w bs
    t.beam.job = s.beam.job ∧ t.wset w = { s.wset w with shd := wsetCopyOf bs, checked := false } ∧
      (∀ k ∈ enabledTiles s, rd t (Reg.WSET_STATUS_SHD_PEND k w) = 1) ∧
      ∀ f : Fld, (∀ k, f.key ≠ (Reg.WSET_STATUS_SHD_PEND k w).key) → rd t f = rd s f := by
  dsimp only
  rw [wsetArrive_of_free bs h]
  have hbeam := forTiles_same State.beam (g := fun s t => wr s (Reg.WSET_STATUS_SHD_PEND t w) 1) (fun _ _ => wr_beam ..)
    (s.modWset w fun x => { x with shd := wsetCopyOf bs, checked := false })
  refine ⟨(congrArg BeamS.job hbeam).trans rfl, (wset_congr (congrArg BeamS.wsets hbeam) w).trans (wset_modWset ..), fun k hk => ?_, fun f hf => ?_⟩
  · exact forTiles_sets (P := fun k t => rd t (Reg.WSET_STATUS_SHD_PEND k w) = 1) (fun _ _ => rd_wr ..)
      (fun _ _ _ hka h => (rd_wr_ne _ _ (key_ne_tile hka rfl (by omega) (by decide) (by decide) (by decide) (by decide))).trans h) _ hk
  · exact forTiles_same (fun t => rd t f) (fun _ k => rd_wr_ne _ _ (hf k)) _

/-- The slot tag stands big-endian in bytes 12 to 15 of the solver's header. -/
theorem beAt_solverHeader (s : State) (w tag : Nat) (rest : List Nat) : beAt (solverHeader s w tag ++ rest) 12 4 = tag % 2 ^ 32 := by
  simp [beAt, solverHeader, bits, List.range, List.range.loop]
  omega

theorem rd_solveResult (s : State) (job r : Nat) {f : Fld} (h : ∀ t, f.key ≠ (Reg.SOLVER_STATUS_RESULT t).key ∧ f.key ≠ (Reg.SOLVER_STATUS_LAST_JOB t).key) :
    rd (solveResult s job r) f = rd s f :=
  forTiles_same (fun t => rd t f) (fun _ t => (rd_wr_ne _ _ (h t).1).trans (rd_wr_ne _ _ (h t).2)) s

theorem solveResult_beam (s : State) (job r : Nat) : (solveResult s job r).beam = s.beam :=
  forTiles_same State.beam (fun _ _ => (wr_beam ..).trans (wr_beam ..)) s

theorem solveResult_fuse (s : State) (job r : Nat) : (solveResult s job r).fuse = s.fuse :=
  forTiles_same State.fuse (fun _ _ => (wr_fuse ..).trans (wr_fuse ..)) s

/-- The solver's end: it is idle, the job's result is shown, and the set arrives. -/
theorem solveDone_of_job {s : State} {job w tag : Nat} (ws : List Nat) (ill : Nat) (h : s.beam.job = some (job, w, tag)) : ∃ rest, solveDone s ws ill =
    wsetArrive (solveResult (solverIdle s ill) job (if tagBefore tag (tagOf (symNow s)) then 4 else 0)) w (solverHeader s w tag ++ rest) := by
  unfold solveDone
  rw [h]
  dsimp only
  rw [List.append_assoc]
  exact ⟨_, rfl⟩

/-- What the solver's end does with its job. -/
theorem solveDone_effect {s : State} {job k tag : Nat} (ws : List Nat) (ill : Nat) (hk : k < 16) (hj : s.beam.job = some (job, k, tag)) (hp : wsetPending s k = false) :
    let t := solveDone s ws ill
    t.beam.job = none ∧ (t.wset k).checked = false ∧ beAt (t.wset k).shd.bytes 12 4 = tag % 2 ^ 32 ∧
      ∀ x ∈ enabledTiles s, rd t (Reg.SOLVER_STATUS_BUSY x) = 0 ∧ rd t (Reg.WSET_STATUS_SHD_PEND x k) = 1 ∧
        rd t (Reg.SOLVER_STATUS_RESULT x) = if tagBefore tag (tagOf (symNow s)) then 4 else 0 := by
  obtain ⟨rest, ht⟩ := solveDone_of_job ws ill hj
  rw [ht]
  have hr : (if tagBefore tag (tagOf (symNow s)) then 4 else 0) < 16 := by split <;> decide
  generalize (if tagBefore tag (tagOf (symNow s)) then 4 else 0) = r at hr
  have hfuse : (solveResult (solverIdle s ill) job r).fuse = s.fuse := (solveResult_fuse ..).trans (solverIdle_fuse ..)
  have hpend : wsetPending (solveResult (solverIdle s ill) job r) k = false := by
    refine (wsetPending_congr hfuse fun t => ?_).trans hp
    exact (rd_solveResult _ _ _ fun a => ⟨(key_solver_ne_pend (by decide) hk).symm, (key_solver_ne_pend (by decide) hk).symm⟩).trans
      (rd_solverIdle _ _ fun a => ⟨(key_solver_ne_pend (by decide) hk).symm, (key_solver_ne_pend (by decide) hk).symm⟩)
  obtain ⟨hjob, hset, hshd, hrd⟩ := wsetArrive_effect (solverHeader s k tag ++ rest) hk hpend
  refine ⟨?_, by rw [hset], by rw [hset]; exact beAt_solverHeader .., fun x hx => ⟨?_, hshd x ?_, ?_⟩⟩
  · rw [hjob, solveResult_beam, solverIdle_beam]
  · rw [hrd _ fun a => by exact key_solver_ne_pend (by decide) hk, rd_solveResult_busy, rd_solverIdle_busy _ _ hx]
  · rwa [enabledTiles_congr hfuse]
  · rw [hrd _ fun a => by exact key_solver_ne_pend (by decide) hk]
    exact (solveResult_status (solverIdle s ill) hr (by rwa [enabledTiles_congr (solverIdle_fuse s ill)])).1

theorem tileCommit_boot {s : State} (h : modeOf s = mBoot) : tileCommit s = s := if_pos h

/-- Settles O27. -/
theorem tileCommitsAndSolver : Obligations.TileCommitsAndSolver := by
  intro s w u id ws ill
  refine ⟨fun h => congrArg Host.Outcome.next ?_, fun hrel hb hc => ⟨fun hp hpsi => gives_next rfl (if_neg (by simp [hrel])) fun f hf hin => ?_,
    fun hp => gives_next rfl (if_neg (by simp [hrel])) fun f hf => rd_H_congr hf (tileCommit_refused hb hc hp)⟩,
    fun hp hc hr => ⟨fun h0 => ?_, fun h0 => ?_⟩, fun h => congrArg _ (if_neg (by rcases h with h | h <;> simp [h])),
    fun h => congrArg _ (solveStart_none h), fun e he => ⟨fun h0 => ?_, fun h0 => ?_⟩, fun h => ?_, fun job tag k hk hj hp => gives_next rfl rfl (solveDone_effect _ _ hk hj hp),
    fun hu => ?_, fun hu => congrArg _ (if_neg (by simp [hu])),
    within_of_mask (keepsO_execTileCommit (w₀ := 16785705) (keeps_refl _ s) rfl) (by decide), within_of_mask (keepsO_execWsetChecksDone (w₀ := 2146568) (keeps_refl _ s) rfl) (by decide),
    within_of_mask (keepsO_execSolveJobStart (w₀ := 264) (keeps_refl _ s) rfl) (by decide), within_of_mask (keepsO_execSolveDone (w₀ := 264) (keeps_refl _ s) rfl) (by decide)⟩
  · split
    · rfl
    · exact tileCommit_boot (h.resolve_left ‹_›)
  · refine (rd_H_congr hf (tileCommit_hact hb hc hp hpsi)).trans ?_
    exact (rd_copyShadow _ _ hf).trans (if_pos hin)
  · have hdone : wsetChecksDone s w = s.modWset w fun x => { x with checked := true } := by
      unfold wsetChecksDone
      rw [if_pos (by simp [hp, hc]), if_pos h0]
    refine gives_next rfl ((if_pos (by simp [hp, hc])).trans ((congrArg (fun t : State => weightsReply t w (t.wset w).checked) hdone).trans
      (weightsReply_none _ hr))) ⟨(wset_congr (s := s.modWset w fun x => { x with checked := true }) rfl w).trans (wset_modWset ..), ?_⟩
    exact frame_pool _ (by simp) (frame_beam _ (by simp) (frame_refl ..))
  · have hdone : wsetChecksDone s w = wsetFail s w (wsetCheck s w) false := by
      unfold wsetChecksDone
      rw [if_pos (by simp [hp, hc]), if_neg h0]
    refine gives_next rfl ((if_pos (by simp [hp, hc])).trans ((congrArg (fun t : State => weightsReply t w (t.wset w).checked) hdone).trans
      (weightsReply_none _ (by rw [wsetFail_pool]; exact hr)))) fun k hk => ?_
    exact wsetFail_status s w w.isLt (wsetCheck_lt s w) hk
  · obtain ⟨tag, ht⟩ := solveStart_starts he h0
    exact gives_next rfl ht ⟨⟨tag, (forTiles_same State.beam (fun _ _ => wr_beam ..) _).trans rfl⟩,
      fun k hk => rd_busy { s with beam := { s.beam with job := some (bits e.param 28 2, bits e.param 24 4, tag) } } (by decide) hk,
      frame_forEach (frame_beam _ (by simp) (frame_refl ..)) fun t k hk h => frame_wr _ (List.mem_map_of_mem hk) h⟩
  · refine gives_next rfl (solveStart_fails he h0) ⟨?_, fun hroom => ?_, fun k hk => ?_⟩
    · exact (samePart_of_frame (frame_raise_self ..) (p := .beam) (by simp)).trans (solveResult_beam ..)
    · exact queued_congr (queued_raise 0 (forTiles_same State.rst (fun _ _ => (wr_rst ..).trans (wr_rst ..)) s)
        (forTiles_same State.events (fun _ _ => (wr_events ..).trans (wr_events ..)) s) hroom (by decide)) rfl
    · obtain ⟨h1, h2⟩ := solveResult_status s (job := bits e.param 28 2) (solveCause_lt s e) hk
      refine ⟨(rd_raise _ _ _ (key_ne_event (by decide))).trans h1, ((rd_raise _ _ _ (key_ne_event (by decide))).trans h2).trans ?_⟩
      exact Nat.mod_eq_of_lt (Nat.mod_lt _ (by decide))
  · refine congrArg Host.Outcome.next ?_
    unfold solveDone
    rw [h]
  · refine gives_next rfl (if_pos hu) ⟨?_, fun hall hroom => ?_, ?_⟩
    · exact (rd_raiseIf _ _ _ _ (key_ne_event (by decide))).trans (rd_wr ..)
    · dsimp only
      rw [hall]
      exact queued_raise _ (wr_rst ..) (wr_events ..) hroom (by decide)
    · exact frame_raiseIf _ _ _ (List.subset_cons_self ..) (by simp) (frame_wr _ (List.mem_cons_self ..) (frame_refl ..))

/-! Packets of the link: how a packet arrives at its command, and how it is answered (R243 to R250, R263, R269). -/

/-! ### Answers -/

/-- The link sees `u` as it sees `s`: the same traffic, the same active upstream port, the same device ID. -/
def SameLink (s u : State) : Prop := u.link.out = s.link.out ∧ activeUp u = activeUp s ∧ devId u = devId s

theorem sameLink_trans {s t u : State} (h : SameLink s t) (k : SameLink t u) : SameLink s u :=
  ⟨k.1.trans h.1, k.2.1.trans h.2.1, k.2.2.trans h.2.2⟩

/-- The fields that choose the active upstream port, and the device ID. -/
def linkFlds : List Fld := [Reg.LINK_STATUS_BOND_OK 0, Reg.LINK_STATUS_ACTIVE_UP 1, Reg.POOL_DEVID_DEV_ID]

theorem activeUp_congr {s u : State} (h0 : rd u (Reg.LINK_STATUS_BOND_OK 0) = rd s (Reg.LINK_STATUS_BOND_OK 0))
    (h1 : rd u (Reg.LINK_STATUS_ACTIVE_UP 1) = rd s (Reg.LINK_STATUS_ACTIVE_UP 1)) : activeUp u = activeUp s := by
  unfold activeUp bonded on
  rw [h0, h1]

theorem sameLink_of_rd {s u : State} (hl : u.link = s.link) (h : ∀ f ∈ linkFlds, rd u f = rd s f) : SameLink s u :=
  ⟨by rw [hl], activeUp_congr (h _ (by simp [linkFlds])) (h _ (by simp [linkFlds])), h _ (by simp [linkFlds])⟩

theorem sameLink_of_frame {s u : State} {rs : List Fld} {ps : List Part} (h : Frame s u rs ps) (hl : Part.link ∉ ps)
    (hr : ∀ f ∈ linkFlds, ∀ g ∈ rs, f.key ≠ g.key) : SameLink s u :=
  sameLink_of_rd (h.2.1 .link hl) fun f hf => h.1 f (hr f hf)

theorem frame_send {s t : State} {rs : List Fld} {ps : List Part} (o : OutPkt) (hl : Part.link ∈ ps) (hp : Part.pool ∈ ps) (h : Frame s t rs ps) :
    Frame s (send t o) rs ps :=
  frame_part h rfl rfl rfl fun q hq => by cases q <;> first | rfl | exact absurd hl hq | exact absurd hp hq

/-- A request that is answered without authentication. -/
theorem respond_absent {s : State} {always : Bool} {op : Nat} {p : Packet} {st : Nat} {a : AuthOut} (pl : List Nat) (hb : p.bcast = false)
    (ha : always = true ∨ p.ack = true ∨ st ≠ 0) (hn : a = .absent ∨ a = .bad) : respond s always op p a st pl =
      send s { port := activeUp s, op := op, err := st != 0, aux := st, tag := p.tag.toNat, payload := pl } := by
  unfold respond
  rw [if_neg (by rcases ha with h | h | h <;> simp [hb, h])]
  rcases hn with rfl | rfl <;> rfl

theorem answered_send {s u : State} {p : Packet} {op st : Nat} (pl : List Nat) (h : SameLink s u) :
    Answered s (send u { port := activeUp u, op := op, err := st != 0, aux := st, tag := p.tag.toNat, payload := pl }) p op st pl := by
  obtain ⟨hout, hup, hdev⟩ := h
  exact ⟨_, congrArg (· ++ [_]) hout, hup, rfl, rfl, rfl, rfl, rfl, rfl, hdev⟩

theorem answered_respond {s u : State} {always : Bool} {p : Packet} {op st : Nat} {a : AuthOut} (pl : List Nat) (h : SameLink s u) (hb : p.bcast = false)
    (ha : always = true ∨ p.ack = true ∨ st ≠ 0) (hn : a = .absent ∨ a = .bad) : Answered s (respond u always op p a st pl) p op st pl := by
  rw [respond_absent pl hb ha hn]
  exact answered_send pl h

theorem frame_respond {s u : State} {rs : List Fld} {ps : List Part} {always : Bool} {p : Packet} {op st : Nat} {a : AuthOut} (pl : List Nat)
    (hl : Part.link ∈ ps) (hp : Part.pool ∈ ps) (hn : a = .absent ∨ a = .bad) (h : Frame s u rs ps) : Frame s (respond u always op p a st pl) rs ps := by
  unfold respond
  split
  · exact h
  · rcases hn with rfl | rfl <;> exact frame_send _ hl hp h

/-! ### Arrival -/

/-- The state once packet `p` has been taken: its SEQ is the last of its port. -/
def seqTaken (s : State) (p : Packet) : State := { s with pool := { s.pool with seqIn := s.pool.seqIn.set p.port.val 0 (p.seq.toNat + 1) } }

theorem frame_seqTaken (s : State) (p : Packet) : Frame s (seqTaken s p) [] [.pool, .link] := frame_pool _ (by simp) (frame_refl ..)

theorem sameLink_seqTaken (s : State) (p : Packet) : SameLink s (seqTaken s p) := ⟨rfl, rfl, rfl⟩

theorem receive_lost {s : State} {p : Packet} (f : State → State) (h : portUp s p.port.val = false ∨ consumed s p = false) : receive s p f = s := by
  unfold receive
  rw [if_pos (by rcases h with h | h <;> simp [h])]

theorem receive_badCrc {s : State} {p : Packet} (f : State → State) (hu : portUp s p.port.val = true) (hc : consumed s p = true) (ht : p.trailer = false) :
    receive s p f = bump s (Reg.POOL_ERR_CRC_ERR p.port.val) 1 := by
  unfold receive
  rw [if_neg (by simp [hu, hc]), if_pos (by simp [ht])]

theorem receive_good {s : State} {p : Packet} (f : State → State) (hu : portUp s p.port.val = true) (hc : consumed s p = true) (ht : p.trailer = true) :
    receive s p f = f (seqCheck s p) := by
  unfold receive
  rw [if_neg (by simp [hu, hc]), if_neg (by simp [ht])]

theorem seqCheck_of_taken {s : State} {p : Packet} (h : Taken s p) : seqCheck s p = seqTaken s p := by
  obtain ⟨-, hb, -, -, hs⟩ := h
  unfold seqCheck
  rw [if_neg (by simp [hb])]
  exact if_pos hs

theorem receive_of_taken {s : State} {p : Packet} (f : State → State) (h : Taken s p) : receive s p f = f (seqTaken s p) := by
  rw [receive_good f h.1 h.2.2.1 h.2.2.2.1, seqCheck_of_taken h]

theorem noBroadcast_of {s : State} {p : Packet} (f : State) (h : p.bcast = false) : noBroadcast s p f = f := by
  unfold noBroadcast
  rw [if_neg (by simp [h])]

section command
variable {s : State} {op : Nat} {pre : List Nat} {p : Packet} {always need : Bool} {role : Nat} {fail : State → List Nat}
  {f : State → AuthOut → State × Nat × List Nat} {onBad : State → State} {after : Nat → State → State}

/-- A packet that arrives, and needs no authentication, runs its command on the state as taken, and is answered. -/
theorem command_of_arrives (h : Arrives s p) (ha : p.auth = none) (hn : need = false) :
    command s op pre p always need role fail f onBad after = after (f (seqTaken s p) .absent).2.1
      (respond (f (seqTaken s p) .absent).1 always op p .absent (f (seqTaken s p) .absent).2.1 (f (seqTaken s p) .absent).2.2) := by
  obtain ⟨ht, h10, h11⟩ := h
  have h10' : padsFor (seqTaken s p) 10 1 = true := h10
  have h11' : padsFor (seqTaken s p) 11 1 = true := h11
  unfold command
  rw [receive_of_taken _ ht, h10', h11']
  simp only [Bool.not_true, Bool.and_false, Bool.or_self, Bool.false_eq_true, if_false]
  unfold authenticate
  rw [ha, hn]
  rfl

theorem command_answers {u : State} {st : Nat} {pl : List Nat} (h : Arrives s p) (ha : p.auth = none) (hn : need = false)
    (hf : f (seqTaken s p) .absent = (u, st, pl)) : command s op pre p always need role fail f onBad after = after st (respond u always op p .absent st pl) := by
  rw [command_of_arrives h ha hn, hf]

/-- A packet that lacks the authentication it needs (R263). -/
theorem command_unauthenticated (h : Arrives s p) (ha : p.auth = none) (hn : need = true) :
    command s op pre p always need role fail f onBad after = respond (onBad (authFail (seqTaken s p) 0xF 1)) always op p .bad 0x06
      (fail (onBad (authFail (seqTaken s p) 0xF 1))) := by
  obtain ⟨ht, h10, h11⟩ := h
  have h10' : padsFor (seqTaken s p) 10 1 = true := h10
  have h11' : padsFor (seqTaken s p) 11 1 = true := h11
  unfold command
  rw [receive_of_taken _ ht, h10', h11']
  simp only [Bool.not_true, Bool.and_false, Bool.or_self, Bool.false_eq_true, if_false]
  unfold authenticate
  rw [ha, hn]
  rfl

/-- A packet without a pad (R269). -/
theorem command_of_noPad (h : Taken s p) (h10 : padsFor s 10 1 = false) :
    command s op pre p always need role fail f onBad after = respond (bump (seqTaken s p) (Reg.POOL_USE_DROP 10) 1) always op p .absent 0x07
      (fail (bump (seqTaken s p) (Reg.POOL_USE_DROP 10) 1)) := by
  have h10' : padsFor (seqTaken s p) 10 1 = false := h10
  unfold command
  rw [receive_of_taken _ h, h10']
  rfl

end command

/-- The frame of an answer to a packet that changes nothing else. -/
theorem frame_answer (s : State) {p : Packet} {always : Bool} {op st : Nat} {a : AuthOut} (pl : List Nat) (hn : a = .absent ∨ a = .bad) :
    Frame s (respond (seqTaken s p) always op p a st pl) [] [.pool, .link] := frame_respond pl (by simp) (by simp) hn (frame_seqTaken s p)

theorem sameLink_bump {s : State} {f : Fld} (n : Nat) (h : ∀ g ∈ linkFlds, g.key ≠ f.key) : SameLink s (bump s f n) :=
  sameLink_of_rd (wr_link ..) fun g hg => rd_bump_ne s n (h g hg)

/-! ### Authentication leaves the packet counters -/

theorem frame_showSlots {s t : State} {rs : List Fld} {ps : List Part} (hr : Reg.SEC_STATUS_SLOTS ∈ rs) (h : Frame s t rs ps) : Frame s (showSlots t) rs ps :=
  frame_wr _ hr h

theorem frame_setCounters {s t : State} {rs : List Fld} {ps : List Part} (k : Nat) (x : KeySlot) (n m : Nat) (hr : Reg.SEC_STATUS_SLOTS ∈ rs) (hp : Part.sec ∈ ps)
    (h : Frame s t rs ps) : Frame s (setCounters t k x n m) rs ps := by
  have h1 : Frame s (setSlot t k (some { x with last := n, up := m })) rs ps := frame_showSlots hr (frame_sec _ hp h)
  unfold setCounters
  dsimp only
  split
  · exact frame_sec _ hp h1
  · exact h1

/-- The registers that a request's authentication may write. -/
def authRegs : List Fld := [Reg.SEC_COUNT_AUTH_FAIL_CNT, Reg.SEC_STATUS_LOCKED, Reg.SEC_STATUS_SLOTS] ++ eventRegs

theorem frame_authFail {s t : State} {rs : List Fld} {ps : List Part} (k c : Nat) (hr : authRegs ⊆ rs) (he : Part.events ∈ ps) (hp : Part.sec ∈ ps)
    (h : Frame s t rs ps) : Frame s (authFail t k c) rs ps := by
  have hev : eventRegs ⊆ rs := fun f hf => hr (List.mem_append_right _ hf)
  have h1 : Frame s (raise (bump t Reg.SEC_COUNT_AUTH_FAIL_CNT 1) 0x7001 (k + 256 * c)) rs ps :=
    frame_raise _ _ hev he (frame_bump 1 (hr (by simp [authRegs])) h)
  unfold authFail
  dsimp only
  split
  · exact h1
  · split
    · exact frame_sec _ hp h1
    · exact frame_raise _ _ hev he (frame_wr _ (hr (by simp [authRegs])) (frame_sec _ hp h1))

theorem frame_authPass {s t : State} {rs : List Fld} {ps : List Part} (k c : Nat) (hr : authRegs ⊆ rs) (hp : Part.sec ∈ ps) (h : Frame s t rs ps) :
    Frame s (authPass t k c) rs ps := by
  unfold authPass
  split
  · exact h
  · exact frame_setCounters _ _ _ _ (hr (by simp [authRegs])) hp (frame_sec _ hp h)

theorem frame_authenticate {s t : State} {rs : List Fld} {ps : List Part} (need : Bool) (role op : Nat) (pre : List Nat) (p : Packet) (hr : authRegs ⊆ rs)
    (he : Part.events ∈ ps) (hp : Part.sec ∈ ps) (h : Frame s t rs ps) : Frame s (authenticate t need role op pre p).2 rs ps := by
  unfold authenticate
  split
  · split
    · exact frame_authFail _ _ hr he hp h
    · exact h
  · split
    · exact frame_authFail _ _ hr he hp h
    · exact frame_authPass _ _ hr hp h

/-- An answer leaves the SEQ of received packets, and every register but SLOTS. -/
theorem respond_keeps (s : State) (always : Bool) (op : Nat) (p : Packet) (a : AuthOut) (st : Nat) (pl : List Nat) :
    (respond s always op p a st pl).pool.seqIn = s.pool.seqIn ∧ ∀ f : Fld, f.key ≠ Reg.SEC_STATUS_SLOTS.key → rd (respond s always op p a st pl) f = rd s f := by
  unfold respond
  split
  · exact ⟨rfl, fun _ _ => rfl⟩
  · dsimp only
    split
    · unfold sendAuth
      split
      · exact ⟨rfl, fun _ _ => rfl⟩
      · next k _ x _ =>
        have h := frame_setCounters k x x.last (x.up + 1) (List.mem_singleton_self _) (List.mem_singleton_self _) (frame_refl s [Reg.SEC_STATUS_SLOTS] [.sec])
        have hpool : (setCounters s k x x.last (x.up + 1)).pool = s.pool := h.2.1 .pool (by simp)
        have hseq : (setCounters s k x x.last (x.up + 1)).pool.seqIn = s.pool.seqIn := by rw [hpool]
        exact ⟨hseq, fun f hf => h.1 f (by simpa using hf)⟩
    · exact ⟨rfl, fun _ _ => rfl⟩

/-- What runs once an unlisted opcode has been received leaves the SEQ of received packets, and every register but the drops of its stream and those of
authentication. -/
theorem command_unknown_keeps (s : State) (op : Nat) (p : Packet) : ∃ f, command s op [] p true false 0 noBytes (fun s _ => (s, 0x01, [])) = receive s p f ∧
    ∀ t, (f t).pool.seqIn = t.pool.seqIn ∧ ∀ g : Fld, (∀ h ∈ Reg.POOL_USE_DROP 10 :: authRegs, g.key ≠ h.key) → rd (f t) g = rd t g := by
  refine ⟨_, rfl, fun t => ?_⟩
  have hslots {g : Fld} (hg : ∀ h ∈ Reg.POOL_USE_DROP 10 :: authRegs, g.key ≠ h.key) : g.key ≠ Reg.SEC_STATUS_SLOTS.key := hg _ (by simp [authRegs])
  have hauth := frame_authenticate (s := t) (t := t) false 0 op [] p (List.subset_cons_self (Reg.POOL_USE_DROP 10) authRegs) (ps := [.events, .sec])
    (by simp) (by simp) (frame_refl ..)
  have hpool : (authenticate t false 0 op [] p).2.pool = t.pool := hauth.2.1 .pool (by simp)
  dsimp only
  split
  · refine ⟨(respond_keeps ..).1.trans ?_, fun g hg => ((respond_keeps ..).2 g (hslots hg)).trans ?_⟩
    · split
      · rfl
      · exact congrArg PoolS.seqIn (wr_pool ..)
    · split
      · rfl
      · exact rd_bump_ne _ _ (hg _ (List.mem_cons_self ..))
  · split
    · exact ⟨(respond_keeps ..).1.trans (congrArg PoolS.seqIn hpool), fun g hg => ((respond_keeps ..).2 g (hslots hg)).trans (hauth.1 g hg)⟩
    · exact ⟨(respond_keeps ..).1.trans (congrArg PoolS.seqIn hpool), fun g hg => ((respond_keeps ..).2 g (hslots hg)).trans (hauth.1 g hg)⟩

/-- A gap in SEQ is counted at the port, and the packet's own SEQ is the last (R250). -/
theorem seqCheck_gap {s : State} {p : Packet} (hb : p.bcast = false) (h0 : s.pool.seqIn.get p.port.val 0 ≠ 0)
    (hq : p.seq.toNat ≠ s.pool.seqIn.get p.port.val 0 % 65536) :
    rd (seqCheck s p) (Reg.POOL_ERR_SEQ_GAP p.port.val) = min (rd s (Reg.POOL_ERR_SEQ_GAP p.port.val) + 1) (2 ^ (Reg.POOL_ERR_SEQ_GAP p.port.val).width - 1) ∧
      (seqCheck s p).pool.seqIn.get p.port.val 0 = p.seq.toNat + 1 := by
  have heq : seqCheck s p = raiseIf (rd (seqTaken s p) (Reg.POOL_ERR_SEQ_GAP p.port.val) == 0)
      (bump (seqTaken s p) (Reg.POOL_ERR_SEQ_GAP p.port.val) 1) 0x3015 0 := by
    unfold seqCheck
    rw [if_neg (by simp [hb])]
    exact if_neg (by tauto)
  have hpool : (seqCheck s p).pool = (seqTaken s p).pool := by
    rw [heq]
    exact (samePart_of_frame (frame_raiseIf _ 0x3015 0 (List.Subset.refl _) (List.mem_singleton_self _) (frame_refl ..)) (p := .pool) (by simp)).trans (wr_pool ..)
  refine ⟨?_, ?_⟩
  · rw [heq]
    refine (rd_raiseIf _ _ _ _ fun e he => ?_).trans (rd_bump ..)
    have hall : ∀ q : Fin 2, ∀ e ∈ eventFields, (Reg.POOL_ERR_SEQ_GAP q.val).key ≠ e.key := by decide
    exact hall p.port e he
  · rw [hpool]
    exact get_set s.pool.seqIn p.port.val 0 (p.seq.toNat + 1)

theorem authRegs_ne_seqGap (q : Fin 2) : ∀ h ∈ Reg.POOL_USE_DROP 10 :: authRegs, (Reg.POOL_ERR_SEQ_GAP q.val).key ≠ h.key := by
  revert q
  decide

theorem imageCommand_receive (s : State) (sub : Nat) (p : Packet) (g : State → State × Nat) : ∃ f, imageCommand s sub p g = receive s p f := by
  unfold imageCommand command
  exact ⟨_, rfl⟩

/-- The commands that take a packet run it through `receive`. -/
theorem exec_receive {s : State} {p : Packet} {op : Byte} {c : Instr}
    (hc : c ∈ [Instr.setMode p, .reset p, .sched p, .weights p, .write p, .imageWrite p, .imageCommit p, .imageAbort p, .imageStatus p, .unknownOpcode op p]) :
    ∃ f, exec c s = .next (receive s p f) := by
  simp only [List.mem_cons, List.not_mem_nil, or_false] at hc
  have himage (sub : Nat) (g : State → State × Nat) : ∃ f, Host.Outcome.next (imageCommand s sub p g) = (.next (receive s p f) : Host.Outcome State Fault Refusal) :=
    (imageCommand_receive s sub p g).imp fun _ h => congrArg Host.Outcome.next h
  rcases hc with rfl | rfl | rfl | rfl | rfl | rfl | rfl | rfl | rfl | rfl
  · exact ⟨_, rfl⟩
  · exact ⟨_, rfl⟩
  · exact ⟨_, rfl⟩
  · exact ⟨_, rfl⟩
  · exact ⟨_, rfl⟩
  · exact himage 0 _
  · exact himage 1 _
  · exact himage 2 _
  · exact himage 3 _
  · exact ⟨_, rfl⟩

/-- Settles O29. -/
theorem packetReception : Obligations.PacketReception := by
  intro s p op q
  refine ⟨fun c hc => ?_, fun h ha => ?_, fun h h10 => ?_, fun hu hb hc ht h0 hq => ?_, fun h => gives_next rfl (if_pos h) ⟨rd_bump .., ?_⟩,
    fun h => congrArg _ (if_neg (by simp [h])), within_of_mask (keepsO_execUnknownOpcode (w₀ := 2146312) (keeps_refl _ s) rfl) (by decide)⟩
  · obtain ⟨f, hf⟩ := exec_receive (s := s) hc
    refine ⟨fun h => hf.trans (congrArg _ (receive_lost f h)), fun hu hcon ht => gives_next hf (receive_badCrc f hu hcon ht) ⟨rd_bump .., ?_⟩⟩
    exact frame_bump _ (List.mem_singleton_self _) (frame_refl ..)
  · refine gives_next rfl (command_of_arrives h ha rfl) ⟨?_, frame_answer _ _ (.inl rfl)⟩
    exact answered_respond _ (sameLink_seqTaken s p) h.1.2.1 (.inl rfl) (.inl rfl)
  · refine gives_next rfl (command_of_noPad h h10) ⟨?_, ?_, ?_⟩
    · exact answered_respond _ (sameLink_bump 1 (by decide) : SameLink (seqTaken s p) _) h.2.1 (.inl rfl) (.inl rfl)
    · exact ((respond_keeps ..).2 _ (by decide)).trans (rd_bump ..)
    · exact frame_respond _ (by simp) (by simp) (.inl rfl) (frame_bump _ (List.mem_singleton_self _) (frame_mono (frame_seqTaken s p) (by simp) (List.Subset.refl _)))
  · obtain ⟨f, hf, hkeep⟩ := command_unknown_keeps s op.toNat p
    obtain ⟨hgap, hseq⟩ := seqCheck_gap hb h0 hq
    refine gives_next rfl (hf.trans (receive_good f hu hc ht)) ⟨?_, ?_⟩
    · rw [(hkeep _).2 _ (authRegs_ne_seqGap p.port), hgap]
    · rw [(hkeep _).1, hseq]
  · exact frame_bump _ (List.mem_singleton_self _) (frame_refl ..)

/-! Mode requests over the link (R24, R346). -/

/-- What follows the request's answer: nothing, but from SAFE. -/
theorem setMode_after {s : State} {st : Nat} (h : st ≠ 0 ∨ modeOf s ≠ mSafe) : (if st = 0 ∧ modeOf s = mSafe then leaveSafe s else s) = s :=
  if_neg (by tauto)

theorem setMode_accepted {s : State} {t : Nat} (hb : modeBusy s = false) (hl : modeListed (modeOf s) t = true) (hs : modeOf s ≠ mSafe)
    (ht : t ≠ mSentinel) (ht' : t ≠ mBrumate) : setMode s t = (beginMode (endSleep s) t, true) := by
  unfold setMode
  rw [if_neg (by simp [hb]), if_neg (by simp [hl]), if_neg hs, if_neg (by tauto)]

theorem setMode_sleeps {s : State} {t : Nat} (hb : modeBusy s = false) (hl : modeListed (modeOf s) t = true) (hs : modeOf s ≠ mSafe)
    (ht : t = mSentinel ∨ t = mBrumate) : setMode s t = (sleepRequest (endSleep s) t 1, true) := by
  unfold setMode
  rw [if_neg (by simp [hb]), if_neg (by simp [hl]), if_neg hs, if_pos ht]

theorem setMode_refused {s : State} {t : Nat} (h : modeBusy s = true ∨ modeListed (modeOf s) t = false) :
    setMode s t = (refuseMode s t 1 (if modeBusy s then 2 else 1), false) := by
  unfold setMode
  by_cases hb : modeBusy s = true
  · rw [if_pos hb, if_pos hb]
  · rw [if_neg hb, if_pos (by simp [h.resolve_left hb]), if_neg hb]

/-- The registers that a mode request writes. -/
def requestRegs : List Fld := [Reg.MODE_STATUS_BUSY, Reg.MODE_STATUS_TARGET, Reg.PWR_STATUS_SLEEP_PEND, Reg.PWR_STATUS_VOTE, Reg.MODE_REQ_TARGET]

theorem frame_beginMode (s : State) (t : Nat) : Frame s (beginMode (endSleep s) t) requestRegs [.power] :=
  frame_wr _ (by simp [requestRegs]) (frame_wr _ (by simp [requestRegs]) (frame_power _ (by simp) (frame_wr _ (by simp [requestRegs])
    (frame_wr _ (by simp [requestRegs]) (frame_refl ..)))))

theorem frame_sleepRequest (s : State) (t : Nat) : Frame s (sleepRequest (endSleep s) t 1) requestRegs [.power] := by
  have h1 : Frame s (endSleep s) requestRegs [.power] := frame_power _ (by simp) (frame_wr _ (by simp [requestRegs])
    (frame_wr _ (by simp [requestRegs]) (frame_refl ..)))
  exact frame_power _ (by simp) (frame_wr _ (by simp [requestRegs]) (frame_wr _ (by simp [requestRegs]) (frame_wr _ (by simp [requestRegs])
    (frame_power _ (by simp) (frame_wr _ (by simp [requestRegs]) (frame_wr _ (by simp [requestRegs]) h1))))))

/-- What a mode request that begins leaves of the mode. -/
theorem beginMode_effect (s : State) {t : Nat} (ht : t < 8) : modeOf (beginMode s t) = modeOf s ∧ modeBusy (beginMode s t) = true ∧ modeTarget (beginMode s t) = t := by
  refine ⟨?_, on_eq_true.mpr ?_, ?_⟩
  · exact (rd_wr_ne _ _ (by decide)).trans (rd_wr_ne _ _ (by decide))
  · exact (rd_wr_ne _ _ (by decide)).trans (rd_wr ..)
  · exact (rd_wr ..).trans (Nat.mod_eq_of_lt ht)

theorem modeOf_of_frame {s t : State} {ps : List Part} (h : Frame s t requestRegs ps) : modeOf t = modeOf s := h.1 _ (by decide)

theorem sameLink_request {s t : State} (h : Frame s t requestRegs [.power]) : SameLink s t := sameLink_of_frame h (by simp) (by decide)

/-- What a sleep request leaves. -/
theorem sleepRequest_effect (s : State) {t : Nat} (c : Nat) (ht : t < 8) : let u := sleepRequest s t c
    modeBusy u = true ∧ modeTarget u = t ∧ voting u = true ∧ rd u Reg.PWR_STATUS_SLEEP_PEND = 1 ∧ u.power.target = t ∧ u.power.cause = c := by
  let v := wr (wr s Reg.MODE_REQ_TARGET t) Reg.PWR_STATUS_SLEEP_PEND 1
  let w : State := { v with power := { v.power with target := t, cause := c, backoff := 0 } }
  have hrd (f : Fld) (h : ∀ g ∈ [Reg.MODE_STATUS_BUSY, Reg.MODE_STATUS_TARGET], f.key ≠ g.key) :
      rd (beginMode (wr w Reg.PWR_STATUS_VOTE 1) t) f = rd (wr w Reg.PWR_STATUS_VOTE 1) f :=
    (rd_wr_ne _ _ (h _ (by simp))).trans (rd_wr_ne _ _ (h _ (by simp)))
  obtain ⟨-, hb, htg⟩ := beginMode_effect (wr w Reg.PWR_STATUS_VOTE 1) ht
  refine ⟨hb, htg, ?_, ?_, ?_, ?_⟩
  · exact beq_iff_eq.mpr ((hrd _ (by decide)).trans (rd_wr ..))
  · exact (hrd Reg.PWR_STATUS_SLEEP_PEND (by decide)).trans ((rd_wr_ne _ _ (by decide)).trans
      (rd_wr (wr s Reg.MODE_REQ_TARGET t) Reg.PWR_STATUS_SLEEP_PEND 1))
  · exact congrArg PowerS.target ((wr_power ..).trans ((wr_power ..).trans (wr_power ..)))
  · exact congrArg PowerS.cause ((wr_power ..).trans ((wr_power ..).trans (wr_power ..)))

/-- What a mode request does when it arrives well formed, with no authentication needed. -/
theorem setMode_command {s u : State} {p : Packet} {st : Nat} (h : Arrives s p) (ha : p.auth = none) (hn : modeNeedsAuth s ((body p).getD 0 0) = false)
    (hf : (if (body p).length ≠ 8 ∨ !zeros ((body p).drop 1) ∨ 8 ≤ (body p).getD 0 0 then (seqTaken s p, 0x02, modeBytes (seqTaken s p))
      else ((setMode (seqTaken s p) ((body p).getD 0 0)).1, if (setMode (seqTaken s p) ((body p).getD 0 0)).2 then 0 else 0x05,
        modeBytes (setMode (seqTaken s p) ((body p).getD 0 0)).1)) = (u, st, modeBytes u))
    (hu : st ≠ 0 ∨ modeOf u ≠ mSafe) : exec (.setMode p) s =
      .next (send u { port := activeUp u, op := 0x71, err := st != 0, aux := st, tag := p.tag.toNat, payload := modeBytes u }) := by
  have h1 := command_answers (op := 0x71) (pre := []) (always := true) (role := 1) (fail := modeBytes) (f := fun s _ =>
    if (body p).length ≠ 8 ∨ !zeros ((body p).drop 1) ∨ 8 ≤ (body p).getD 0 0 then (s, 0x02, modeBytes s)
    else
      let r := setMode s ((body p).getD 0 0)
      (r.1, if r.2 then 0 else 0x05, modeBytes r.1))
    (onBad := fun s => refuseMode s ((body p).getD 0 0 % 8) 1 3) (after := fun st s => if st = 0 ∧ modeOf s = mSafe then leaveSafe s else s) h ha hn hf
  refine congrArg Host.Outcome.next (h1.trans ?_)
  rw [respond_absent _ h.1.2.1 (.inl rfl) (.inl rfl)]
  exact setMode_after hu

theorem setMode_formed {s : State} {p : Packet} {b : Bool} {st : Nat} {u : State} (hl : (body p).length = 8) (hz : zeros ((body p).drop 1) = true)
    (hm : (body p).getD 0 0 < 8) (hd : setMode (seqTaken s p) ((body p).getD 0 0) = (u, b)) (hst : st = if b then 0 else 0x05) :
    (if (body p).length ≠ 8 ∨ !zeros ((body p).drop 1) ∨ 8 ≤ (body p).getD 0 0 then (seqTaken s p, 0x02, modeBytes (seqTaken s p))
      else ((setMode (seqTaken s p) ((body p).getD 0 0)).1, if (setMode (seqTaken s p) ((body p).getD 0 0)).2 then 0 else 0x05,
        modeBytes (setMode (seqTaken s p) ((body p).getD 0 0)).1)) = (u, st, modeBytes u) := by
  have hn : ¬((body p).length ≠ 8 ∨ (!zeros ((body p).drop 1)) = true ∨ 8 ≤ (body p).getD 0 0) := by
    rw [hl, hz]
    simpa using hm
  rw [if_neg hn, hd, hst]

/-- Settles O30. -/
theorem setModeDecision : Obligations.SetModeDecision := by
  intro s p b m h ha
  have hlink := sameLink_seqTaken s p
  refine ⟨fun hl hn => ?_, fun hl hz hm hn => ⟨fun hb hi hms => ?_, fun hb hi hms => ?_, fun hb hi hms => ?_, fun hr => ?_⟩, fun hn => ?_,
    within_of_mask (keepsO_execSetMode (w₀ := 66449401) (keeps_refl _ s) rfl) (by decide)⟩
  · exact ⟨_, setMode_command h ha hn (if_pos (.inl hl)) (.inl (by decide)), answered_send (op := 0x71) (st := 0x02) _ hlink,
      frame_send _ (by simp) (by simp) (frame_seqTaken s p)⟩
  · have hframe := frame_beginMode (seqTaken s p) m
    have hmode : modeOf (beginMode (endSleep (seqTaken s p)) m) = mIdle := (modeOf_of_frame hframe).trans hi
    obtain ⟨-, hbusy, htg⟩ := beginMode_effect (endSleep (seqTaken s p)) hm
    have hset := setMode_accepted (s := seqTaken s p) (t := m) hb (by rw [show modeOf (seqTaken s p) = mIdle from hi, hms]; rfl)
      (by rw [show modeOf (seqTaken s p) = mIdle from hi]; decide) (by rw [hms]; decide) (by rw [hms]; decide)
    exact ⟨_, setMode_command h ha hn (setMode_formed hl hz hm hset rfl) (.inr (by rw [hmode]; decide)), hmode, hbusy, htg,
      answered_send (op := 0x71) (st := 0) _ (sameLink_trans hlink (sameLink_request hframe))⟩
  · have hframe := frame_sleepRequest (seqTaken s p) m
    have hmode : modeOf (sleepRequest (endSleep (seqTaken s p)) m 1) = mIdle := (modeOf_of_frame hframe).trans hi
    obtain ⟨hbusy, htg, hvote, hpend, htarget, -⟩ := sleepRequest_effect (endSleep (seqTaken s p)) 1 hm
    have hlisted : modeListed (modeOf (seqTaken s p)) m = true := by
      rw [show modeOf (seqTaken s p) = mIdle from hi]
      rcases hms with hms | hms <;> rw [hms] <;> rfl
    have hset := setMode_sleeps (s := seqTaken s p) (t := m) hb hlisted (by rw [show modeOf (seqTaken s p) = mIdle from hi]; decide) hms
    exact ⟨_, setMode_command h ha hn (setMode_formed hl hz hm hset rfl) (.inr (by rw [hmode]; decide)), hmode, hbusy, htg, hvote, hpend, htarget,
      answered_send (op := 0x71) (st := 0) _ (sameLink_trans hlink (sameLink_request hframe))⟩
  · have hframe := frame_beginMode (seqTaken s p) m
    have hmode : modeOf (beginMode (endSleep (seqTaken s p)) m) = mServe := (modeOf_of_frame hframe).trans hi
    obtain ⟨-, hbusy, htg⟩ := beginMode_effect (endSleep (seqTaken s p)) hm
    have hset := setMode_accepted (s := seqTaken s p) (t := m) hb (by rw [show modeOf (seqTaken s p) = mServe from hi, hms]; rfl)
      (by rw [show modeOf (seqTaken s p) = mServe from hi]; decide) (by rw [hms]; decide) (by rw [hms]; decide)
    exact ⟨_, setMode_command h ha hn (setMode_formed hl hz hm hset rfl) (.inr (by rw [hmode]; decide)), hmode, hbusy, htg,
      answered_send (op := 0x71) (st := 0) _ (sameLink_trans hlink (sameLink_request hframe))⟩
  · have hset := setMode_refused (s := seqTaken s p) (t := m) hr
    have hframe : Frame s (refuseMode (seqTaken s p) m 1 (if modeBusy (seqTaken s p) then 2 else 1)) eventRegs [.pool, .link, .events] :=
      frame_raise _ _ (List.Subset.refl _) (by simp) (frame_mono (frame_seqTaken s p) (by simp) (by simp))
    refine ⟨_, setMode_command h ha hn (setMode_formed hl hz hm hset rfl) (.inl (by decide)), ?_, fun hroom => ?_, frame_send _ (by simp) (by simp) hframe⟩
    · exact answered_send (op := 0x71) (st := 0x05) _ (sameLink_trans hlink (sameLink_of_frame (frame_raise_self ..) (by simp) (by decide)))
    · obtain ⟨e, he, hcode, harg, -⟩ := queued_raise (s := s) (t := seqTaken s p) (modeOf s + 16 * m + 256 * 1 + 4096 * (if modeBusy s then 2 else 1))
        rfl rfl hroom (by decide : eventClass 0x1003 ≠ 0xF)
      exact ⟨e, (congrArg (e ∈ ·) he).mpr (List.mem_append_right _ (List.mem_singleton_self _)), hcode, harg⟩
  · have hauth : Frame s (refuseMode (authFail (seqTaken s p) 0xF 1) (m % 8) 1 3) authRegs [.pool, .link, .events, .sec] :=
      frame_raise _ _ (List.subset_append_right ..) (by simp) (frame_authFail _ _ (List.Subset.refl _) (by simp) (by simp)
        (frame_mono (frame_seqTaken s p) (by simp) (by simp)))
    have hlink' : SameLink s (refuseMode (authFail (seqTaken s p) 0xF 1) (m % 8) 1 3) :=
      sameLink_trans hlink (sameLink_of_frame (frame_raise _ _ (List.subset_append_right ..) (by simp) (frame_authFail _ _ (List.Subset.refl _) (by simp) (by simp)
        (frame_refl _ authRegs [.events, .sec]))) (by simp) (by decide))
    refine ⟨_, congrArg Host.Outcome.next ((command_unauthenticated h ha hn).trans (respond_absent _ h.1.2.1 (.inl rfl) (.inr rfl))), ?_, ?_⟩
    · exact answered_send (op := 0x71) (st := 0x06) _ hlink'
    · exact hauth.1 Reg.MODE_STATUS_MODE (by decide)

/-! SCHED entries offered by the host (R124, R256). -/

/-- Outside a vote, a command that needs a block changes nothing. -/
theorem voteHost_of_closed {s : State} (v : Nat) (h : voting s = false) : voteHost s v = s := by
  unfold voteHost
  rw [if_neg (by simp [h])]

/-! ### Acceptance -/

/-- The registers that acceptance writes. -/
def acceptRegs : List Fld := [Reg.CHORUS_COUNT2_OVERLAP, Reg.ESC_COUNT_SCHED_TURN] ++ eventRegs

theorem frame_turnCheck {s t : State} {rs : List Fld} {ps : List Part} (c : Nat) (n : Int) (hr : acceptRegs ⊆ rs) (he : Part.events ∈ ps) (ha : Part.air ∈ ps)
    (h : Frame s t rs ps) : Frame s (turnCheck t c n) rs ps := by
  unfold turnCheck
  split
  · exact frame_raise _ _ (fun f hf => hr (List.mem_append_right _ hf)) he (frame_bump _ (hr (by simp [acceptRegs])) (frame_air _ ha h))
  · exact h

theorem frame_acceptEntry {s t : State} {rs : List Fld} {ps : List Part} (e : SchedEntry) (hr : acceptRegs ⊆ rs) (he : Part.events ∈ ps) (ha : Part.air ∈ ps)
    (h : Frame s t rs ps) : Frame s (acceptEntry t e) rs ps := by
  have h1 := frame_air { (bump t Reg.CHORUS_COUNT2_OVERLAP (overlapCount t e)).air with
    queue := (bump t Reg.CHORUS_COUNT2_OVERLAP (overlapCount t e)).air.queue ++ [e], nextId := (bump t Reg.CHORUS_COUNT2_OVERLAP (overlapCount t e)).air.nextId + 1,
    drops := (bump t Reg.CHORUS_COUNT2_OVERLAP (overlapCount t e)).air.drops.filter fun (d : Nat × Int) => !(bit e.clusters d.1 && isRadio e.kind && covers e d.2) }
    ha (frame_bump (overlapCount t e) (hr (by simp [acceptRegs] : Reg.CHORUS_COUNT2_OVERLAP ∈ acceptRegs)) h)
  unfold acceptEntry
  dsimp only
  split
  · exact frame_forEach h1 fun u c _ hu => frame_forEach hu fun v k _ hv => frame_turnCheck _ _ hr he ha hv
  · exact h1

theorem turnCheck_queue (s : State) (c : Nat) (n : Int) : (turnCheck s c n).air.queue = s.air.queue ∧ (turnCheck s c n).air.nextId = s.air.nextId := by
  unfold turnCheck
  split
  · have h := samePart_of_frame (frame_raise_self (bump { s with air := { s.air with drops := (c, n) :: s.air.drops } } Reg.ESC_COUNT_SCHED_TURN 1) 0x2024
      (c + 16 * b2n (dirAt s c n == some true) + 65536 * (tagOf n % 65536))) (p := .air) (by simp)
    have hair := Eq.trans h (wr_air ..)
    exact ⟨(congrArg AirS.queue hair).trans rfl, (congrArg AirS.nextId hair).trans rfl⟩
  · exact ⟨rfl, rfl⟩

/-- An accepted entry stands at the queue's end. -/
theorem acceptEntry_queue (s : State) (e : SchedEntry) : (acceptEntry s e).air.queue = s.air.queue ++ [e] ∧ (acceptEntry s e).air.nextId = s.air.nextId + 1 := by
  have hair : (bump s Reg.CHORUS_COUNT2_OVERLAP (overlapCount s e)).air = s.air := wr_air ..
  have hcheck (t : State) : (turnCheckEntry t e).air.queue = t.air.queue ∧ (turnCheckEntry t e).air.nextId = t.air.nextId := by
    unfold turnCheckEntry
    exact ⟨forEach_same (fun t => t.air.queue) (fun u c _ => forEach_same (fun t => t.air.queue) (fun v k _ => (turnCheck_queue v c _).1) u) t,
      forEach_same (fun t => t.air.nextId) (fun u c _ => forEach_same (fun t => t.air.nextId) (fun v k _ => (turnCheck_queue v c _).2) u) t⟩
  unfold acceptEntry
  dsimp only
  split
  · exact ⟨(hcheck _).1.trans (by rw [hair]), (hcheck _).2.trans (by rw [hair])⟩
  · exact ⟨by rw [hair], by rw [hair]⟩

/-! ### Refusal outside SERVE and DIAG -/

/-- The registers that a refusal writes. -/
def refuseRegs : List Fld := [Reg.ESC_COUNT_SCHED_REJ, Reg.ESC_STATUS_REJ, Reg.ESC_STATUS_REJ_CAUSE] ++ eventRegs

theorem offerEntry_refused {s : State} (r : SchedRaw) (i : Nat) (h : modeOf s ≠ mServe) (h' : modeOf s ≠ mDiag) :
    offerEntry s r i = (refuseEntry s r 4 i, 4) := by
  have hc : rejCause s r = 4 := if_pos ⟨h, h'⟩
  unfold offerEntry
  dsimp only
  rw [hc]
  rfl

/-- What the refusal of an entry by cause 4 leaves. -/
theorem refuseEntry_effect (s : State) (r : SchedRaw) (i : Nat) : let t := refuseEntry s r 4 i
    rd t Reg.ESC_STATUS_REJ = 1 ∧ rd t Reg.ESC_STATUS_REJ_CAUSE = 4 ∧
      rd t Reg.ESC_COUNT_SCHED_REJ = min (rd s Reg.ESC_COUNT_SCHED_REJ + 1) (2 ^ (Reg.ESC_COUNT_SCHED_REJ).width - 1) ∧ Frame s t refuseRegs [.events] := by
  have hev {f : Fld} (h : ∀ e ∈ eventFields, f.key ≠ e.key) := rd_raise (wr (wr (bump s Reg.ESC_COUNT_SCHED_REJ 1) Reg.ESC_STATUS_REJ 1) Reg.ESC_STATUS_REJ_CAUSE 4)
    0x2023 (4 + 16 * (r.kind : Nat) + 65536 * (r.tag.toNat % 65536)) h
  refine ⟨(hev (by decide)).trans ?_, (hev (by decide)).trans (rd_wr ..), (hev (by decide)).trans ?_, ?_⟩
  · exact (rd_wr_ne _ _ (by decide)).trans (rd_wr ..)
  · exact (rd_wr_ne _ _ (by decide)).trans ((rd_wr_ne _ _ (by decide)).trans (rd_bump ..))
  · exact frame_raise _ _ (List.subset_append_right ..) (by simp) (frame_wr _ (by simp [refuseRegs]) (frame_wr _ (by simp [refuseRegs])
      (frame_bump _ (by simp [refuseRegs]) (frame_refl ..))))

theorem offerAll_cons (s : State) (r : SchedRaw) (rest : List SchedRaw) (i acc : Nat) (rej : Option (Nat × Nat)) :
    offerAll s (r :: rest) i acc rej = if (offerEntry s r i).2 = 0 then offerAll (offerEntry s r i).1 rest (i + 1) (acc + 1) rej
      else offerAll (offerEntry s r i).1 rest (i + 1) acc (match rej with | none => some (i, (offerEntry s r i).2) | some p => some p) := rfl

/-- Every entry offered outside SERVE and DIAG is refused by cause 4; the first names its place. -/
theorem offerAll_refused (s : State) (r : SchedRaw) (rest : List SchedRaw) (i : Nat) (rej : Option (Nat × Nat)) (h : modeOf s ≠ mServe) (h' : modeOf s ≠ mDiag) :
    let x := offerAll s (r :: rest) i 0 rej
    x.2 = (0, some (rej.getD (i, 4))) ∧ rd x.1 Reg.ESC_STATUS_REJ = 1 ∧ rd x.1 Reg.ESC_STATUS_REJ_CAUSE = 4 ∧
      rd x.1 Reg.ESC_COUNT_SCHED_REJ = min (rd s Reg.ESC_COUNT_SCHED_REJ + (rest.length + 1)) (2 ^ (Reg.ESC_COUNT_SCHED_REJ).width - 1) ∧
      Frame s x.1 refuseRegs [.events] := by
  have hstep (s : State) (r : SchedRaw) (rest : List SchedRaw) (i : Nat) (rej : Option (Nat × Nat)) (h : modeOf s ≠ mServe) (h' : modeOf s ≠ mDiag) :
      offerAll s (r :: rest) i 0 rej = offerAll (refuseEntry s r 4 i) rest (i + 1) 0 (some (rej.getD (i, 4))) := by
    rw [offerAll_cons, offerEntry_refused r i h h']
    cases rej <;> rfl
  induction rest generalizing s r i rej with
  | nil =>
    obtain ⟨h1, h2, h3, h4⟩ := refuseEntry_effect s r i
    rw [hstep s r [] i rej h h']
    exact ⟨rfl, h1, h2, h3, h4⟩
  | cons r2 rest ih =>
    obtain ⟨-, -, h3, h4⟩ := refuseEntry_effect s r i
    have hmode : modeOf (refuseEntry s r 4 i) = modeOf s := h4.1 _ (by decide)
    rw [hstep s r (r2 :: rest) i rej h h']
    obtain ⟨k0, k1, k2, k3, k4⟩ := ih (refuseEntry s r 4 i) r2 (i + 1) (some (rej.getD (i, 4))) (by rwa [hmode]) (by rwa [hmode])
    refine ⟨k0, k1, k2, ?_, frame_step h4 k4⟩
    rw [k3, h3, List.length_cons]
    omega

theorem schedRaws_length {n : Nat} {b : List Nat} {rs : List SchedRaw} (h : schedRaws n b = some rs) : rs.length = n := by
  induction n generalizing b rs with
  | zero => rw [← Option.some.inj h]; rfl
  | succ n ih =>
    unfold schedRaws at h
    split at h
    · next r l _ hl =>
      rw [← Option.some.inj h, List.length_cons, ih hl]
    · cases h

/-- A SCHED packet of whole entries outside a vote: they are offered in turn. -/
theorem sched_command {s u : State} {p : Packet} {rs : List SchedRaw} {k : Nat} {rej : Option (Nat × Nat)} (h : Arrives s p) (ha : p.auth = none)
    (hl : (body p).length = 16 * ((body p).length / 16)) (hn : 0 < (body p).length / 16) (hn' : (body p).length / 16 ≤ 252)
    (hr : schedRaws ((body p).length / 16) (body p) = some rs) (hv : voting s = false) (hx : offerAll (seqTaken s p) rs 0 0 none = (u, k, rej)) :
    exec (.sched p) s = .next (respond u false 0x14 p .absent (if rej.isSome then 0x05 else 0)
      (beBytes 2 k ++ beBytes 2 (rej.getD (0xFFFF, 0)).1 ++ [(rej.getD (0xFFFF, 0)).2, 0, 0, 0])) := by
  refine congrArg Host.Outcome.next (command_answers h ha rfl ?_)
  dsimp only
  rw [if_neg (by omega), hr, voteHost_of_closed 0 (show voting (seqTaken s p) = false from hv)]
  dsimp only
  rw [hx]

/-- Settles O32. -/
theorem scheduleEntries : Obligations.ScheduleEntries := by
  intro s p rs b n h ha hl hn hn' hr hv
  refine ⟨fun hm hm' => ?_, fun r hrs hc => ?_, within_of_mask (keepsO_execSched (w₀ := 6340648) (keeps_refl _ s) rfl) (by decide)⟩
  · obtain ⟨r, rest, rfl⟩ : ∃ r rest, rs = r :: rest := List.exists_cons_of_length_pos (by rw [schedRaws_length hr]; exact hn)
    have hlen : rest.length + 1 = n := schedRaws_length hr
    obtain ⟨k0, k1, k2, k3, k4⟩ := offerAll_refused (seqTaken s p) r rest 0 none hm hm'
    have hlink := sameLink_trans (sameLink_seqTaken s p) (sameLink_of_frame k4 (by simp) (by decide))
    have hkeep := (respond_keeps (offerAll (seqTaken s p) (r :: rest) 0 0 none).1 false 0x14 p .absent 0x05 [0, 0, 0, 0, 4, 0, 0, 0]).2
    have hx : offerAll (seqTaken s p) (r :: rest) 0 0 none = ((offerAll (seqTaken s p) (r :: rest) 0 0 none).1, 0, some (0, 4)) := Prod.ext rfl k0
    refine ⟨_, sched_command h ha hl hn hn' hr hv hx, ?_, (hkeep _ (by decide)).trans k1, (hkeep _ (by decide)).trans k2, (hkeep _ (by decide)).trans ?_,
      answered_respond _ hlink h.1.2.1 (.inr (.inr (by decide))) (.inl rfl)⟩
    · exact samePart_of_frame (frame_respond _ (by simp) (by simp) (.inl rfl) (frame_step (frame_mono (frame_seqTaken s p) (List.nil_subset _) (by simp))
        (frame_mono k4 (List.Subset.refl _) (by simp : [Part.events] ⊆ [.events, .pool, .link])))) (p := .air) (by simp)
    · rw [k3, hlen]
      rfl
  · subst hrs
    have hoffer : offerAll (seqTaken s p) [r] 0 0 none = (acceptEntry (seqTaken s p) (schedEntryOf s r), 1, none) := by
      unfold offerAll offerEntry
      rw [show rejCause (seqTaken s p) r = 0 from hc]
      rfl
    have hframe := frame_acceptEntry (schedEntryOf s r) (List.Subset.refl acceptRegs) (by simp) (by simp) (frame_refl (seqTaken s p) acceptRegs [.events, .air])
    have hlink := sameLink_trans (sameLink_seqTaken s p) (sameLink_of_frame hframe (by simp) (by decide))
    obtain ⟨hq, hid⟩ := acceptEntry_queue (seqTaken s p) (schedEntryOf s r)
    have hair : (respond (acceptEntry (seqTaken s p) (schedEntryOf s r)) false 0x14 p .absent 0 [0, 1, 255, 255, 0, 0, 0, 0]).air =
        (acceptEntry (seqTaken s p) (schedEntryOf s r)).air :=
      samePart_of_frame (frame_respond (ps := [.link, .pool]) _ (by simp) (by simp) (.inl rfl) (frame_refl _ [] _)) (p := .air) (by simp)
    refine ⟨_, sched_command h ha hl hn hn' hr hv hoffer, (congrArg AirS.queue hair).trans hq, (congrArg AirS.nextId hair).trans hid, ?_, fun hack => ?_⟩
    · exact ((respond_keeps ..).2 _ (by decide)).trans (hframe.1 _ (by decide))
    · exact answered_respond _ hlink h.1.2.1 (.inr (.inl hack)) (.inl rfl)

/-! The host's access to the memory die (R257, R345, R403). -/

/-! ### Words of the die -/

theorem dieWritable_iff {a : Nat} : dieWritable a = true ↔ 0x40000000 ≤ a ∧ a < dieEnd := by
  simp [dieWritable]

theorem target_die {a : Nat} (h : a < dieEnd) : target a = .die a := if_pos h

theorem misplaced_die {a : Nat} (h : a + 4 ≤ dieEnd) : misplaced a = false := by
  unfold misplaced
  rw [target_die (by omega)]
  simp [h]

/-- A word that runs out of the die has no place. -/
theorem misplaced_dieEnd {a : Nat} (h : a < dieEnd) (h' : dieEnd < a + 4) : misplaced a = true := by
  unfold misplaced
  rw [target_die h]
  unfold dieEnd at *
  simp
  omega

/-- A register address that is not aligned has no place. -/
theorem misplaced_window {a : Nat} (h : winBase ≤ a) (h' : a % 4 ≠ 0) : misplaced a = true := by
  have ht : target a = .reg (a - winBase) ∨ target a = .err := by
    unfold target
    rw [if_neg (by unfold dieEnd winBase at *; omega), if_neg (by unfold winBase at *; omega)]
    split
    · exact .inl rfl
    · exact .inr rfl
  unfold misplaced
  rcases ht with ht | ht <;> rw [ht] <;> simpa using h'

theorem accessVote_die {s : State} {a : Nat} (h : a < dieEnd) : accessVote s a = s := by
  unfold accessVote accessVoter
  rw [target_die h]

theorem accessVote_of_closed {s : State} (a : Nat) (h : voting s = false) : accessVote s a = s := by
  unfold accessVote
  split
  · exact voteHost_of_closed _ h
  · rfl

theorem dieWake_on {s : State} (h : domState s 2 = domOn) (hf : domFailed s 2 = false) : dieWake s = some s := by
  unfold dieWake
  rw [if_neg (by simp [hf]), if_pos h]

/-- A word of the host's area is written where the die is ready. -/
theorem busWrite_die {s : State} {i : Initiator} {a : Nat} (v : Nat) (hw : dieWritable a = true) (ha : a + 4 ≤ dieEnd) (h : domState s 2 = domOn)
    (hf : domFailed s 2 = false) : busWrite s i a v = (0, setMemWord s a v) := by
  unfold busWrite
  rw [if_neg (by simp [misplaced_die ha]), target_die (by omega)]
  dsimp only
  rw [if_neg (by simp [hw]), dieWake_on h hf]

theorem busWrite_misplaced {s : State} {i : Initiator} {a : Nat} (v : Nat) (h : misplaced a = true) : busWrite s i a v = (3, s) := if_pos h

/-- A word of the host's area is read where the die is ready. -/
theorem busRead_die {s : State} {a : Nat} (hw : dieWritable a = true) (ha : a + 4 ≤ dieEnd) (h : domState s 2 = domOn) (hf : domFailed s 2 = false) :
    busRead s a = (0, memWord s a, s) := by
  have h0 := (dieWritable_iff.mp hw).1
  unfold busRead
  rw [if_neg (by simp [misplaced_die ha]), target_die (by omega)]
  dsimp only
  rw [dieWake_on h hf]
  exact if_neg (by omega)

/-- A word of the die waits for the die in POWER-DOWN. -/
theorem accessWaits_die {s : State} {a : Nat} (ha : a < dieEnd) (h : domState s 2 = domPowerDown) (hf : domFailed s 2 = false) : accessWaits s a = true := by
  unfold accessWaits
  rw [target_die ha]
  simp [h, hf]

/-! ### The words of a request -/

theorem writeOk_length {p : Packet} (h : writeOk p = true) : 12 ≤ (body p).length := by
  simp only [writeOk, Bool.and_eq_true, decide_eq_true_eq] at h
  exact h.1.1.1.2

theorem wordsOf_succ (n : Nat) (bs : List Nat) : wordsOf (n + 1) bs = ofBytes (bs.take 4) :: wordsOf n (bs.drop 4) := rfl

theorem busReadUe_false (s : State) (a : Nat) : busReadUe s a false = busRead s a := by
  unfold busReadUe
  split
  · contradiction
  · rfl

theorem readWords_succ (s : State) (fix : Bool) (n a : Nat) (acc : List Nat) : readWords s fix none (n + 1) a acc =
    if (busRead s a).1 ≠ 0 then ((busRead s a).2.2, acc, (busRead s a).1)
    else readWords (busRead s a).2.2 fix none n (if fix then a else a + 4) (acc ++ [(busRead s a).2.1]) := by
  rw [← busReadUe_false]
  rfl

/-- A WRITE whose first word has no place writes none. -/
theorem runWrite_misplaced {s : State} {a : AuthOut} {p : Packet} (h : writeOk p = true) (hv : accessVote s (bytesAt (body p) 0 8) = s)
    (hm : misplaced (bytesAt (body p) 0 8) = true) : runWrite s a p 1008 = (s, 0, 3) := by
  obtain ⟨k, hk⟩ : ∃ k, ((body p).length - 8) / 4 = k + 1 := ⟨((body p).length - 8) / 4 - 1, by have := writeOk_length h; omega⟩
  unfold runWrite
  dsimp only
  rw [hv, hk, wordsOf_succ, List.take_succ_cons]
  unfold writeWords
  rw [busWrite_misplaced _ hm]
  rfl

/-- A WRITE of one word to the host's area. -/
theorem runWrite_one {s : State} {a : AuthOut} {p : Packet} (hl : (body p).length = 12) (hw : dieWritable (bytesAt (body p) 0 8) = true)
    (ha : bytesAt (body p) 0 8 + 4 ≤ dieEnd) (h : domState s 2 = domOn) (hf : domFailed s 2 = false) :
    runWrite s a p 1008 = (setMemWord s (bytesAt (body p) 0 8) (bytesAt (body p) 8 4), 1, 0) := by
  have hk : ((body p).length - 8) / 4 = 0 + 1 := by rw [hl]
  unfold runWrite
  dsimp only
  rw [accessVote_die (by omega), hk, wordsOf_succ, List.take_succ_cons]
  unfold writeWords
  rw [busWrite_die _ hw ha h hf]
  rfl

theorem runWrite_none (s : State) (a : AuthOut) (p : Packet) (h : bytesAt (body p) 0 8 < dieEnd) : runWrite s a p 0 = (s, 0, 0) := by
  unfold runWrite
  dsimp only
  rw [accessVote_die h, List.take_zero]
  rfl

/-- A READ of one word of the host's area. -/
theorem runRead_one {s : State} {p : Packet} (hn : bytesAt (body p) 8 2 = 1) (hw : dieWritable (bytesAt (body p) 0 8) = true)
    (ha : bytesAt (body p) 0 8 + 4 ≤ dieEnd) (h : domState s 2 = domOn) (hf : domFailed s 2 = false) :
    runRead s p none 1008 = (s, [memWord s (bytesAt (body p) 0 8)], 0) := by
  unfold runRead
  dsimp only
  rw [accessVote_die (by omega), hn, show min 1 1008 = 0 + 1 from rfl, readWords_succ, busRead_die hw ha h hf]
  rfl

theorem runRead_none (s : State) (p : Packet) (h : bytesAt (body p) 0 8 < dieEnd) : runRead s p none 0 = (s, [], 0) := by
  unfold runRead
  dsimp only
  rw [accessVote_die h, Nat.min_zero]
  rfl

/-- Settles O33. -/
theorem hostMemoryAccess : Obligations.HostMemoryAccess := by
  intro s p v ce b a h ha hack
  have hb : p.bcast = false := h.1.2.1
  have hlink := sameLink_seqTaken s p
  have hanswer {op st : Nat} {always : Bool} (pl : List Nat) : Answered s (respond (seqTaken s p) always op p .absent st pl) p op st pl :=
    answered_respond pl hlink hb (.inr (.inl hack)) (.inl rfl)
  have hframe {op st : Nat} {always : Bool} (pl : List Nat) : Frame s (respond (seqTaken s p) always op p .absent st pl) [] [.pool, .link] :=
    frame_answer s pl (.inl rfl)
  refine ⟨fun hw => ?_, fun hr => ?_, fun hw hwin hal hv => ?_, fun hw hl hval hdie hf => ⟨fun hend hon => ?_, fun hend => ?_, fun hend hdown => ?_⟩,
    fun hr hn hdie hf => ⟨fun hend hon => ?_, fun hend hdown => ?_⟩⟩
  · exact gives_next rfl (command_answers h ha rfl (if_pos (by simp [hw]))) ⟨hanswer _, hframe _⟩
  · exact gives_next rfl ((noBroadcast_of _ hb).trans (command_answers h ha rfl (if_pos (by simp [hr]))))
      ⟨hanswer _, fun x => memByte_congr ((hframe _).2.1 .mem (by simp)) x⟩
  · refine gives_next rfl (command_answers h ha rfl ((if_neg (by simp [hw])).trans ?_)) ⟨hanswer _, hframe _⟩
    rw [runWrite_misplaced (s := seqTaken s p) hw (accessVote_of_closed (s := seqTaken s p) _ hv) (misplaced_window hwin hal)]
  · have hrun := runWrite_one (s := seqTaken s p) (a := .absent) hl hdie hend hon hf
    have hmem : (respond (setMemWord (seqTaken s p) a (bytesAt b 8 4)) false 0x20 p .absent 0 (doneBytes 1)).mem = (setMemWord (seqTaken s p) a (bytesAt b 8 4)).mem :=
      samePart_of_frame (frame_respond (ps := [.link, .pool]) _ (by simp) (by simp) (.inl rfl) (frame_refl _ [] _)) (p := .mem) (by simp)
    have hset : Frame s (setMemWord (seqTaken s p) a (bytesAt b 8 4)) [] [.pool, .link, .mem] :=
      frame_setMemWord _ _ (by simp) (frame_mono (frame_seqTaken s p) (by simp) (by simp))
    refine gives_next rfl (command_answers (u := setMemWord (seqTaken s p) a (bytesAt b 8 4)) (st := 0) (pl := doneBytes 1) h ha rfl
      ((if_neg (by simp [hw])).trans ?_)) ⟨?_, fun x hx => ?_, ?_, ?_⟩
    · rw [hrun]
    · rw [memWord_congr hmem, memWord_setMemWord, hval]
      exact Nat.mod_eq_of_lt v.isLt
    · rw [memByte_congr hmem, memByte_setMemWord_out _ _ hx]
      rfl
    · exact answered_respond _ (sameLink_trans hlink (sameLink_of_frame (frame_setMemWord (ps := [.mem]) (rs := []) _ _ (by simp) (frame_refl ..)) (by simp) (by simp)))
        hb (.inr (.inl hack)) (.inl rfl)
    · exact frame_respond _ (by simp) (by simp) (.inl rfl) hset
  · refine gives_next rfl (command_answers h ha rfl ((if_neg (by simp [hw])).trans ?_)) ⟨hanswer _, hframe _⟩
    have hlt := (dieWritable_iff.mp hdie).2
    rw [runWrite_misplaced (s := seqTaken s p) hw (accessVote_die hlt) (misplaced_dieEnd hlt hend)]
  · have hlt := (dieWritable_iff.mp hdie).2
    have hk : 0 < ((body p).length - 8) / 4 := by rw [show (body p).length = 12 from hl]; decide
    refine gives_next rfl ((if_pos rfl).trans (command_answers (st := 0x04) (pl := doneBytes 0) (u := seqTaken s p) h ha rfl ((if_neg (by simp [hw])).trans ?_))) ⟨hanswer _, hframe _⟩
    dsimp only
    rw [show (0 : BitVec 10).toNat = 0 from rfl, runWrite_none _ _ _ hlt, if_pos]
    refine ⟨rfl, by simpa using hk, ?_⟩
    simpa using accessWaits_die (s := seqTaken s p) hlt hdown hf
  · refine gives_next rfl ((noBroadcast_of _ hb).trans (command_answers (st := 0) (pl := beBytes 4 (memWord s a)) (u := memCe (seqTaken s p) ce.toNat) h ha rfl
      ((if_neg (by simp [hr])).trans ?_))) ⟨?_, ?_, ?_⟩
    · dsimp only
      rw [show (none : Option (BitVec 10)).map BitVec.toNat = none from rfl, runRead_one (s := seqTaken s p) hn hdie hend hon hf]
      exact Prod.ext rfl (Prod.ext rfl (List.append_nil _))
    · exact answered_respond _ (sameLink_bump _ (by decide) : SameLink (seqTaken s p) _) hb (.inl rfl) (.inl rfl)
    · exact ((respond_keeps ..).2 _ (by decide)).trans (rd_bump ..)
    · exact frame_respond _ (by simp) (by simp) (.inl rfl) (frame_bump _ (List.mem_singleton_self _) (frame_mono (frame_seqTaken s p) (by simp) (List.Subset.refl _)))
  · have hlt := (dieWritable_iff.mp hdie).2
    refine gives_next rfl ((if_neg Bool.false_ne_true).trans ((noBroadcast_of _ hb).trans (command_answers (st := 0x04) (pl := []) (u := seqTaken s p) h ha rfl
      ((if_neg (by simp [hr])).trans ?_))))
      ⟨hanswer _, hframe _⟩
    dsimp only
    rw [show (0 : BitVec 10).toNat = 0 from rfl, runRead_none _ _ hlt, if_pos]
    · rfl
    refine ⟨rfl, by simp [show bytesAt (body p) 8 2 = 1 from hn], ?_⟩
    simpa using accessWaits_die (s := seqTaken s p) hlt hdown hf

/-! Rings and events over the link (R259, R311, R312). -/

/-! ### Runs of words -/

/-- Words stored one after the other from `a` on. -/
def storeWords : State → Nat → List Nat → State
  | s, _, [] => s
  | s, a, w :: r => storeWords (setMemWord s a w) (a + 4) r

theorem frame_storeWords {s t : State} {rs : List Fld} {ps : List Part} (a : Nat) (ws : List Nat) (hp : Part.mem ∈ ps) (h : Frame s t rs ps) :
    Frame s (storeWords t a ws) rs ps := by
  induction ws generalizing t a with
  | nil => exact h
  | cons w r ih => exact ih (a + 4) (frame_setMemWord _ _ hp h)

theorem memByte_storeWords_out (s : State) (a : Nat) (ws : List Nat) {x : Nat} (h : x < a ∨ a + 4 * ws.length ≤ x) : memByte (storeWords s a ws) x = memByte s x := by
  induction ws generalizing s a with
  | nil => rfl
  | cons w r ih =>
    rw [List.length_cons] at h
    exact (ih (setMemWord s a w) (a + 4) (by omega)).trans (memByte_setMemWord_out _ _ (by omega))

theorem memWord_storeWords (s : State) (a : Nat) (ws : List Nat) {j : Nat} (h : j < ws.length) : memWord (storeWords s a ws) (a + 4 * j) = ws[j] % 2 ^ 32 := by
  induction ws generalizing s a j with
  | nil => simp at h
  | cons w r ih =>
    cases j with
    | zero =>
      have hout (k : Nat) (hk : k < 4) : memByte (storeWords (setMemWord s a w) (a + 4) r) (a + k) = memByte (setMemWord s a w) (a + k) :=
        memByte_storeWords_out _ _ _ (by omega)
      have h0 := hout 0 (by decide)
      refine Eq.trans ?_ (memWord_setMemWord s a w)
      show memWord (storeWords (setMemWord s a w) (a + 4) r) a = _
      unfold memWord
      rw [hout 1 (by decide), hout 2 (by decide), hout 3 (by decide), show memByte (storeWords (setMemWord s a w) (a + 4) r) a = memByte (setMemWord s a w) a from h0]
    | succ j =>
      rw [List.length_cons] at h
      have := ih (setMemWord s a w) (a + 4) (j := j) (by omega)
      rw [show a + 4 * (j + 1) = a + 4 + 4 * j by omega, List.getElem_cons_succ, ← this]
      rfl

theorem ofBytes_lt (bs : List Nat) : ofBytes bs < 256 ^ bs.length := by
  have h : ∀ a, bs.foldl (fun a b => a * 256 + b % 256) a < (a + 1) * 256 ^ bs.length := by
    induction bs with
    | nil => intro a; simp
    | cons b r ih =>
      intro a
      have h1 := ih (a * 256 + b % 256)
      have h2 : a * 256 + b % 256 + 1 ≤ (a + 1) * 256 := by omega
      calc (b :: r).foldl (fun a b => a * 256 + b % 256) a < (a * 256 + b % 256 + 1) * 256 ^ r.length := h1
        _ ≤ (a + 1) * 256 * 256 ^ r.length := Nat.mul_le_mul_right _ h2
        _ = (a + 1) * 256 ^ (b :: r).length := by rw [List.length_cons, Nat.pow_succ']; ring
  simpa [ofBytes] using h 0

theorem bytesAt_lt (bs : List Nat) (o : Nat) : bytesAt bs o 4 < 2 ^ 32 := by
  refine (ofBytes_lt _).trans_le ?_
  calc 256 ^ ((bs.drop o).take 4).length ≤ 256 ^ 4 := Nat.pow_le_pow_right (by decide) (by simp)
    _ = 2 ^ 32 := by decide

@[simp] theorem length_wordsOf (n : Nat) (bs : List Nat) : (wordsOf n bs).length = n := by
  induction n generalizing bs with
  | zero => rfl
  | succ n ih => rw [wordsOf_succ, List.length_cons, ih]

theorem getElem_wordsOf (n : Nat) (bs : List Nat) {j : Nat} (h : j < (wordsOf n bs).length) : (wordsOf n bs)[j] = bytesAt bs (4 * j) 4 := by
  induction n generalizing bs j with
  | zero => simp at h
  | succ n ih =>
    cases j with
    | zero => rfl
    | succ j =>
      have := ih (bs.drop 4) (j := j) (by simpa using h)
      simp only [wordsOf_succ, List.getElem_cons_succ, this, bytesAt, List.drop_drop]
      rw [show 4 + 4 * j = 4 * (j + 1) by omega]

/-! ### Rings -/

theorem ringLen_pos (r : Fld → Nat) (n : Nat) : 0 < ringLen r n := by
  unfold ringLen
  split <;> omega

/-- Every descriptor of a ring inside the user area lies there. -/
theorem ringAt_inside {s : State} {n : Nat} (k : Nat) (h : ringOk (rd s) n = true) : userArea ≤ ringAt s n k ∧ ringAt s n k + 32 ≤ dieEnd := by
  obtain ⟨h1, h2⟩ : userArea ≤ ringBase (rd s) n ∧ ringBase (rd s) n + 32 * ringLen (rd s) n ≤ dieEnd := by simpa [ringOk] using h
  have h3 := Nat.mod_lt k (ringLen_pos (rd s) n)
  unfold ringAt
  constructor <;> omega

/-- Words posted at one position of a ring are stored there. -/
theorem postWords_eq {s : State} {n : Nat} (ws : List Nat) (h8 : ws.length ≤ 8) (hr : ringOk (rd s) n = true) (hd : domState s 2 = domOn)
    (hf : domFailed s 2 = false) : postWords s n ws = (storeWords s (ringAt s n (s.dma n).posted) ws, ws.length, 0) := by
  obtain ⟨hlo, hhi⟩ := ringAt_inside (s.dma n).posted hr
  have hind (ws : List Nat) : ∀ (i c : Nat) (t : State), i + ws.length ≤ 8 → domState t 2 = domOn → domFailed t 2 = false →
      (ws.zipIdx i).foldl (fun (r : State × Nat × Nat) x =>
        if r.2.2 ≠ 0 then r
        else
          let w := busWrite r.1 .dma (ringAt s n ((s.dma n).posted + x.2 / 8) + 4 * (x.2 % 8)) x.1
          (w.2, r.2.1 + 1, w.1)) (t, c, 0) = (storeWords t (ringAt s n (s.dma n).posted + 4 * i) ws, c + ws.length, 0) := by
    induction ws with
    | nil => exact fun _ _ _ _ _ _ => rfl
    | cons w r ih =>
      intro i c t hi hd hf
      rw [List.length_cons] at hi
      have hplace : ringAt s n ((s.dma n).posted + i / 8) + 4 * (i % 8) = ringAt s n (s.dma n).posted + 4 * i := by
        rw [Nat.div_eq_of_lt (by omega), Nat.mod_eq_of_lt (by omega), Nat.add_zero]
      have hw : dieWritable (ringAt s n (s.dma n).posted + 4 * i) = true := dieWritable_iff.mpr (by unfold userArea at hlo; omega)
      rw [List.zipIdx_cons, List.foldl_cons]
      simp only [ne_eq, not_true_eq_false, if_false]
      rw [hplace, busWrite_die w hw (by omega) hd hf]
      have hset := frame_setMemWord (ringAt s n (s.dma n).posted + 4 * i) w (List.mem_singleton_self _) (frame_refl t [] [.mem])
      refine (ih (i + 1) (c + 1) _ (by omega) ((hset.1 _ (by simp)).trans hd) ((on_congr (hset.1 _ (by simp))).trans hf)).trans ?_
      rw [List.length_cons, show c + 1 + r.length = c + (r.length + 1) by omega]
      rfl
  have := hind ws 0 0 s (by omega) hd hf
  unfold postWords
  rw [this, Nat.zero_add]
  rfl

theorem ringPost_outside {s : State} {n : Nat} (k : Nat) (bs : List Nat) (h : ringOk (rd s) n = false) : ringPost s n k bs = (s, 0x03) :=
  if_pos (by simp [h])

theorem own_one (s : State) (n : Nat) : ((List.range 1).any fun i => bit (memWord s (ringAt s n ((s.dma n).posted + i))) 31) =
    bit (memWord s (ringAt s n (s.dma n).posted)) 31 := by
  simp [List.range_succ]

/-- A descriptor still owned by the engine refuses the POST. -/
theorem ringPost_owned {s : State} {n : Nat} (bs : List Nat) (h : ringOk (rd s) n = true) (hd : domState s 2 = domOn) (hf : domFailed s 2 = false)
    (ho : bit (memWord s (ringAt s n (s.dma n).posted)) 31 = true) : ringPost s n 1 bs = (s, 0x05) := by
  unfold ringPost
  rw [if_neg (by simp [h]), dieWake_on hd hf, if_neg (by simp), own_one, ho]
  rfl

/-- The state once one descriptor has been posted. -/
def ringPosted (s : State) (n : Nat) (bs : List Nat) : State :=
  dmaDoorbell ((storeWords s (ringAt s n (s.dma n).posted) (wordsOf 8 bs)).modDma n fun x => { x with posted := (x.posted + 1) % ringLen (rd s) n }) n

theorem ringPost_one {s : State} {n : Nat} (bs : List Nat) (h : ringOk (rd s) n = true) (hd : domState s 2 = domOn) (hf : domFailed s 2 = false)
    (ho : bit (memWord s (ringAt s n (s.dma n).posted)) 31 = false) : ringPost s n 1 bs = (ringPosted s n bs, 0) := by
  have hlen : decide (ringLen (rd s) n < 1) = false := decide_eq_false (by have := ringLen_pos (rd s) n; omega)
  unfold ringPost
  rw [if_neg (by simp [h]), dieWake_on hd hf, if_neg (by simp), own_one, ho, hlen, if_neg (by decide), Nat.mul_one, postWords_eq _ (by simp) h hd hf]
  rfl

theorem frame_dmaDoorbell {s t : State} {rs : List Fld} {ps : List Part} (n : Nat) (hp : Part.dmas ∈ ps) (h : Frame s t rs ps) : Frame s (dmaDoorbell t n) rs ps := by
  unfold dmaDoorbell
  split
  · exact frame_modDma _ _ hp h
  · exact h

@[simp] theorem dma_modDma (s : State) (n : Nat) (g : DmaCh → DmaCh) : (s.modDma n g).dma n = g (s.dma n) := get_set ..

theorem dma_congr {s t : State} (h : t.dmas = s.dmas) (n : Nat) : t.dma n = s.dma n := by
  unfold State.dma
  rw [h]

/-- A doorbell leaves the last posted position. -/
theorem dmaDoorbell_posted (s : State) (n : Nat) : ((dmaDoorbell s n).dma n).posted = (s.dma n).posted := by
  unfold dmaDoorbell
  split
  · rw [dma_modDma]
    split_ifs <;> rfl
  · rfl

theorem frame_ringPosted {s t : State} {rs : List Fld} {ps : List Part} (n : Nat) (bs : List Nat) (hm : Part.mem ∈ ps) (hd : Part.dmas ∈ ps) (h : Frame s t rs ps) :
    Frame s (ringPosted t n bs) rs ps :=
  frame_dmaDoorbell n hd (frame_modDma _ _ hd (frame_storeWords _ _ hm h))

theorem ringPosted_posted (s : State) (n : Nat) (bs : List Nat) : ((ringPosted s n bs).dma n).posted = ((s.dma n).posted + 1) % ringLen (rd s) n := by
  have hst : (storeWords s (ringAt s n (s.dma n).posted) (wordsOf 8 bs)).dmas = s.dmas :=
    (frame_storeWords (ps := [.mem]) (rs := []) _ _ (by simp) (frame_refl s _ _)).2.1 .dmas (by simp)
  unfold ringPosted
  rw [dmaDoorbell_posted, dma_modDma, dma_congr hst]

theorem ringPosted_mem (s : State) (n : Nat) (bs : List Nat) : (ringPosted s n bs).mem = (storeWords s (ringAt s n (s.dma n).posted) (wordsOf 8 bs)).mem :=
  (frame_dmaDoorbell (ps := [.dmas]) (rs := []) n (by simp) (frame_modDma _ _ (by simp) (frame_refl _ _ _))).2.1 .mem (by simp)

/-! ### Events -/

theorem execEventPush_sends {s : State} {e : EventEntry} (h : s.events.entries.find? (fun e => !e.pushed) = some e) (hp : on s Reg.POOL_CTRL_EVT_PUSH = true)
    (hu : portUp s (activeUp s) = true) (hpad : padsFor s 11 1 = true) (hh : packageHeld s = false) : exec .eventPush s =
      .next (send { s with events := { s.events with entries := markPushed s.events.entries, lostPending := false } }
        { port := activeUp s, op := 0x40, aux := 1, payload := [b2n s.events.lostPending, 1, 0, 0, 0, 0, 0, 0] ++ eventBytes e }) := by
  show execEventPush s = _
  unfold execEventPush
  rw [h]
  dsimp only
  rw [if_pos (by simp [hp, hu, hpad, hh])]
  refine congrArg Host.Outcome.next ?_
  unfold eventPayload
  rw [List.flatMap_cons, List.flatMap_nil, List.append_nil]
  rfl

theorem execEventPush_silent {s : State} (h : on s Reg.POOL_CTRL_EVT_PUSH = false ∨ ∀ e ∈ s.events.entries, e.pushed = true) : exec .eventPush s = .next s := by
  show execEventPush s = _
  unfold execEventPush
  rcases h with h | h
  · split
    · rw [if_neg (by simp [h])]
    · rfl
  · rw [List.find?_eq_none.mpr fun e he => by simp [h e he]]

/-- A POST of one descriptor outside a vote. -/
theorem ringPost_command {s u : State} {p : Packet} {ch : Byte} {st : Nat} (h : Arrives s p) (ha : p.auth = none) (hn : ch.toNat < 16) (hv : voting s = false)
    (hl : (body p).length = 38) (hz : zeros ((body p).take 6) = true) (hx : ringPost (seqTaken s p) ch.toNat 1 ((body p).drop 6) = (u, st)) :
    exec (.ringPost ch p) s = .next (respond u false 0x30 p .absent st []) := by
  have hform : ¬(16 ≤ ch.toNat ∨ (body p).length ≠ 6 + 32 * (((body p).length - 6) / 32) ∨ ((body p).length - 6) / 32 = 0 ∨ 126 < ((body p).length - 6) / 32 ∨
      (!zeros ((body p).take 6)) = true) := by
    rw [hl, hz]
    simpa using hn
  refine congrArg Host.Outcome.next (command_answers h ha rfl ((if_neg hform).trans ?_))
  rw [voteHost_of_closed (s := seqTaken s p) 1 hv, hl, hx]

/-- The number of entries that a fetch asks for. -/
theorem event_command {s : State} {p : Packet} (h : Arrives s p) (ha : p.auth = none) (hl : (body p).length = 8) (h2 : (body p).getD 2 0 < 2)
    (hz : zeros ((body p).drop 4) = true) :
    let es := if (body p).getD 2 0 = 1 then ackEvents (bytesAt (body p) 0 2) s.events.entries else s.events.entries
    let out := es.take (if (body p).getD 3 0 = 0 then 252 else min ((body p).getD 3 0) 252)
    exec (.event p) s = .next (respond { seqTaken s p with events := { s.events with entries := es, lostPending := false } } true 0x40 p .absent 0
      ([b2n s.events.lostPending, out.length, 0, 0, 0, 0, 0, 0] ++ out.flatMap eventBytes)) := by
  have hform : ¬((body p).length ≠ 8 ∨ 2 ≤ (body p).getD 2 0 ∨ (!zeros ((body p).drop 4)) = true) := by
    rw [hl, hz]
    simpa using h2
  refine congrArg Host.Outcome.next ((noBroadcast_of _ h.1.2.1).trans (command_answers h ha rfl ((if_neg hform).trans ?_)))
  by_cases h1 : (body p).getD 2 0 = 1
  · simp only [h1, if_true]
    rfl
  · simp only [h1, if_false]
    rfl

/-- Settles O34. -/
theorem ringsAndEvents : Obligations.RingsAndEvents := by
  intro s p ch b n
  have hlink := sameLink_seqTaken s p
  refine ⟨fun h ha hack hn hv => ⟨fun hz => ?_, fun hl hz => ⟨fun hr => ?_, fun hr hd hf => ⟨fun ho => ?_, fun ho => ?_⟩⟩⟩, fun h ha hl hz h2 => ?_,
    fun e he hp hu hpad hh => ⟨_, execEventPush_sends he hp hu hpad hh, ⟨_, rfl, rfl, rfl, rfl⟩, rfl, ?_⟩, execEventPush_silent,
    within_of_mask (keepsO_execRingPost (w₀ := 66580477) (keeps_refl _ s) rfl) (by decide)⟩
  · have hbad : ¬(16 ≤ ch.toNat ∨ (body p).length ≠ 6 ∨ (!zeros (body p)) = true) := by
      rw [show body p = List.replicate 6 0 from hz]
      simpa [zeros] using hn
    refine gives_next rfl ((noBroadcast_of _ h.1.2.1).trans (command_answers (u := seqTaken s p) (st := 0) (pl := ringStatus s n) h ha rfl ((if_neg hbad).trans ?_)))
      ⟨answered_respond _ hlink h.1.2.1 (.inl rfl) (.inl rfl), frame_answer _ _ (.inl rfl)⟩
    rw [voteHost_of_closed (s := seqTaken s p) 1 hv]
    rfl
  · exact ⟨_, ringPost_command h ha hn hv hl hz (ringPost_outside (s := seqTaken s p) _ _ hr),
      answered_respond _ hlink h.1.2.1 (.inr (.inl hack)) (.inl rfl), frame_answer _ _ (.inl rfl)⟩
  · exact ⟨_, ringPost_command h ha hn hv hl hz (ringPost_owned (s := seqTaken s p) _ hr hd hf ho),
      answered_respond _ hlink h.1.2.1 (.inr (.inl hack)) (.inl rfl), frame_answer _ _ (.inl rfl)⟩
  · have hposted := frame_ringPosted (rs := []) (ps := [.mem, .dmas]) n (b.drop 6) (by simp) (by simp) (frame_refl (seqTaken s p) _ _)
    have hresp : Frame (ringPosted (seqTaken s p) n (b.drop 6)) (respond (ringPosted (seqTaken s p) n (b.drop 6)) false 0x30 p .absent 0 []) [] [.link, .pool] :=
      frame_respond _ (by simp) (by simp) (.inl rfl) (frame_refl ..)
    have hmem := (hresp.2.1 .mem (by simp)).trans (ringPosted_mem (seqTaken s p) n (b.drop 6))
    refine ⟨_, ringPost_command h ha hn hv hl hz (ringPost_one (s := seqTaken s p) _ hr hd hf ho), ?_, fun j hj => ?_, fun x hx => ?_,
      answered_respond _ (sameLink_trans hlink (sameLink_of_frame hposted (by simp) (by simp))) h.1.2.1 (.inr (.inl hack)) (.inl rfl), ?_⟩
    · exact (congrArg DmaCh.posted (dma_congr (hresp.2.1 .dmas (by simp)) n)).trans (ringPosted_posted (seqTaken s p) n (b.drop 6))
    · rw [memWord_congr hmem]
      refine (memWord_storeWords (seqTaken s p) _ _ (by simpa using hj)).trans ?_
      rw [getElem_wordsOf]
      exact Nat.mod_eq_of_lt (bytesAt_lt _ _)
    · rw [memByte_congr hmem]
      exact memByte_storeWords_out (seqTaken s p) _ _ (by rw [length_wordsOf]; exact hx)
    · exact frame_respond _ (by simp) (by simp) (.inl rfl) (frame_ringPosted n _ (by simp) (by simp) (frame_mono (frame_seqTaken s p) (by simp) (by simp)))
  · refine ⟨_, event_command h ha hl h2 hz, ⟨?_, ?_⟩, ?_⟩
    · exact (frame_respond (ps := [.link, .pool]) (rs := []) _ (by simp) (by simp) (.inl rfl) (frame_refl _ _ _)).2.1 .events (by simp)
    · exact answered_respond _ ⟨rfl, rfl, rfl⟩ h.1.2.1 (.inl rfl) (.inl rfl)
    · exact frame_respond _ (by simp) (by simp) (.inl rfl) (frame_events _ (by simp) (frame_mono (frame_seqTaken s p) (by simp) (by simp)))
  · exact frame_send _ (by simp) (by simp) (frame_events _ (by simp) (frame_refl ..))

/-! Images over the link (R262). -/

/-- An IMAGE command in BOOT under BOOTSEL LINK runs, and is answered with what has been received. -/
theorem image_command {s u : State} {p : Packet} {sub st : Nat} {f : State → State × Nat} (h : Arrives s p) (ha : p.auth = none) (hm : modeOf s = mBoot)
    (hb : bootSel s = 2) (hv : voting s = false) (hz : zeros ((body p).take 3) = true) (hl : 7 ≤ (body p).length) (hf : f (seqTaken s p) = (u, st)) :
    imageCommand s sub p f = respond u true 0x70 p .absent st (imageBytes u) := by
  have hmode : imageMode (seqTaken s p) = true := by
    have hm' : modeOf (seqTaken s p) = mBoot := hm
    have hb' : bootSel (seqTaken s p) = 2 := hb
    unfold imageMode
    rw [hm', hb']
    rfl
  have hform : ¬((!zeros ((body p).take 3)) = true ∨ (body p).length < 7) := by
    rw [hz]
    simpa using hl
  refine command_answers h ha (by rw [hm]; rfl) ((if_neg hform).trans ((if_neg (by simp [hmode])).trans ?_))
  rw [voteHost_of_closed (s := seqTaken s p) 6 hv, hf]

theorem imageWrite_next {s : State} {off : Nat} {bs : List Nat} (h0 : 0 < bs.length) (h1 : bs.length ≤ 4032) (ho : off = (imageGot s).length) (hs : imageSlot s = 2)
    (hr : (imageGot s).length + bs.length ≤ 48 * 1048576) :
    imageWrite s off bs = ({ s with boot := { s.boot with asm := some (2, imageGot s ++ bs) } }, 0) := by
  unfold imageWrite
  dsimp only
  rw [hs]
  refine if_neg ?_
  rintro (h | h | h | h)
  · rw [List.isEmpty_iff.mp h] at h0
    exact absurd h0 (by decide)
  · omega
  · exact h ho
  · rw [show imageLimit s 2 = 48 * 1048576 from if_pos rfl] at h
    omega

theorem imageWrite_gap {s : State} {off : Nat} {bs : List Nat} (ho : off ≠ (imageGot s).length) : imageWrite s off bs = (s, 0x02) :=
  if_pos (.inr (.inr (.inl ho)))

/-- COMMIT in BOOT with a start that is not at step 6: a verified image is the start's. -/
theorem imageCommit_boot {s : State} {img : ImageS} (hv : verifyImage s (imageGot s) = some img) (hm : modeOf s = mBoot) (hs : starting s = false ∨ stepNow s ≠ 6) :
    imageCommit s = ({ s with boot := { s.boot with asm := none, img := some img } }, 0) := by
  have hstep : ¬((starting s && stepNow s == 6) = true) := by
    rcases hs with h | h <;> simp [h]
  unfold imageCommit
  rw [hv]
  dsimp only
  exact (if_pos hm).trans (congrArg (fun t : State => (t, 0)) (if_neg hstep))

theorem imageCommit_bad {s : State} (hv : verifyImage s (imageGot s) = none) : imageCommit s = (s, 0x08) := by
  unfold imageCommit
  rw [hv]

/-- Without bytes, what is reported in BOOT. -/
theorem imageBytes_empty {s : State} (ha : s.boot.asm = none) (hm : modeOf s = mBoot) : imageBytes s = [0, 0, 0, 0, 2, 0, 0, 0] := by
  unfold imageBytes imageGot imageSlot
  rw [ha]
  dsimp only
  rw [if_pos hm]
  rfl

/-- Settles O35. -/
theorem imageCommands : Obligations.ImageCommands := by
  intro s p
  dsimp only
  intro h ha hm hbs hv hz
  have hb : p.bcast = false := h.1.2.1
  have hlink := sameLink_seqTaken s p
  have hboot {u : State} {st : Nat} (x : BootS) (hu : u = { seqTaken s p with boot := x }) (pl : List Nat) :
      (respond u true 0x70 p .absent st pl).boot = x ∧ Answered s (respond u true 0x70 p .absent st pl) p 0x70 st pl ∧
        Frame s (respond u true 0x70 p .absent st pl) [] [.pool, .link, .boot] := by
    subst hu
    refine ⟨?_, answered_respond pl hlink hb (.inl rfl) (.inl rfl), frame_respond _ (by simp) (by simp) (.inl rfl) (frame_boot _ (by simp)
      (frame_mono (frame_seqTaken s p) (by simp) (by simp)))⟩
    exact (frame_respond (ps := [.link, .pool]) (rs := []) _ (by simp) (by simp) (.inl rfl) (frame_refl _ _ _)).2.1 .boot (by simp)
  refine ⟨fun h7 hmax ho hs hr => ?_, fun h7 ho => ?_, fun h7 => ⟨?_, ?_, fun hstep => ?_⟩, within_of_mask (keepsO_execImageCommit (w₀ := 66973177) (keeps_refl _ s) rfl) (by decide)⟩
  · have hlen : ((body p).drop 7).length = (body p).length - 7 := List.length_drop
    have hx := imageWrite_next (s := seqTaken s p) (off := bytesAt (body p) 3 4) (bs := (body p).drop 7) (by omega) (by omega) ho hs (by rw [hlen]; exact hr)
    obtain ⟨h1, h2, h3⟩ := hboot (st := 0) _ rfl (imageBytes { seqTaken s p with boot := { s.boot with asm := some (2, imageGot s ++ (body p).drop 7) } })
    refine ⟨_, congrArg Host.Outcome.next (image_command h ha hm hbs hv hz (by omega) hx), h1, ?_, h3⟩
    have hbytes : imageBytes { seqTaken s p with boot := { s.boot with asm := some (2, imageGot s ++ (body p).drop 7) } } =
        beBytes 4 ((imageGot s).length + ((body p).length - 7)) ++ [2, 0, 0, 0] := by
      rw [← hlen, ← List.length_append]
      rfl
    rw [← hbytes]
    exact h2
  · exact ⟨_, congrArg Host.Outcome.next (image_command h ha hm hbs hv hz (by omega) (imageWrite_gap (s := seqTaken s p) ho)),
      answered_respond _ hlink hb (.inl rfl) (.inl rfl), frame_answer _ _ (.inl rfl)⟩
  · obtain ⟨h1, h2, h3⟩ := hboot (st := 0) { s.boot with asm := none } rfl (imageBytes { seqTaken s p with boot := { s.boot with asm := none } })
    refine ⟨_, congrArg Host.Outcome.next (image_command h ha hm hbs hv hz (by omega) (if_pos h7)), h1, ?_, h3⟩
    rw [← imageBytes_empty (s := { seqTaken s p with boot := { s.boot with asm := none } }) rfl hm]
    exact h2
  · exact ⟨_, congrArg Host.Outcome.next (image_command h ha hm hbs hv hz (by omega) (congrArg (Prod.mk (seqTaken s p)) (if_pos h7))),
      answered_respond _ hlink hb (.inl rfl) (.inl rfl), frame_answer _ _ (.inl rfl)⟩
  · cases hver : verifyImage s (imageGot s) with
    | none =>
      have hx : imageCommit (seqTaken s p) = (seqTaken s p, 0x08) := imageCommit_bad hver
      refine ⟨_, congrArg Host.Outcome.next (image_command h ha hm hbs hv hz (by omega) ((if_pos h7).trans hx)), fun img himg => (by cases himg), fun _ => ⟨?_, ?_⟩, ?_⟩
      · exact (frame_answer (s := s) (p := p) _ (.inl rfl)).2.1 .boot (by simp)
      · exact answered_respond _ hlink hb (.inl rfl) (.inl rfl)
      · exact frame_mono (frame_answer _ _ (.inl rfl)) (List.Subset.refl _) (by simp)
    | some img =>
      have hx : imageCommit (seqTaken s p) = ({ seqTaken s p with boot := { s.boot with asm := none, img := some img } }, 0) :=
        imageCommit_boot (s := seqTaken s p) hver hm hstep
      obtain ⟨h1, h2, h3⟩ := hboot (st := 0) { s.boot with asm := none, img := some img } rfl
        (imageBytes { seqTaken s p with boot := { s.boot with asm := none, img := some img } })
      refine ⟨_, congrArg Host.Outcome.next (image_command h ha hm hbs hv hz (by omega) ((if_pos h7).trans hx)), fun i himg => ?_, fun hnone => (by cases hnone), h3⟩
      obtain rfl := Option.some.inj himg
      rw [← imageBytes_empty (s := { seqTaken s p with boot := { s.boot with asm := none, img := some img } }) rfl hm]
      exact ⟨h1, h2⟩

/-! Forwarding and the pool's commit (R264, R270). -/

theorem forwardTo_dropped {s : State} {i n : Nat} {full : Bool} {o : OutPkt} (h : portUp s o.port = false ∨ padsFor s n 1 = false ∨ full = true) :
    forwardTo s i n full o = bump s (Reg.POOL_ERR_FWD_DROP i) 1 := by
  unfold forwardTo
  exact if_pos (by rcases h with h | h | h <;> simp [h])

theorem forwardTo_leaves {s : State} {i n : Nat} {o : OutPkt} (hu : portUp s o.port = true) (hp : padsFor s n 1 = true) :
    forwardTo s i n false o = { s with link := { s.link with out := s.link.out ++ [o] } } := by
  unfold forwardTo
  exact if_neg (by simp [hu, hp])

/-- A packet for another device, not broadcast, goes by its route. -/
theorem forwardDownstream_routed {s : State} {p : Packet} {op : Byte} {full : BitVec 2} (hu : portUp s p.port.val = true) (hb : p.bcast = false)
    (hc : consumed s p = false) : exec (.forwardDownstream op p full) s = .next (match routeOf s p.dev.toNat with
      | some q => forwardTo s p.port.val 13 (bit full.toNat (q - 2)) (forwardPkt false false q op p)
      | none =>
        let s1 := bump s (Reg.POOL_ERR_HDR_ERR p.port.val) 1
        if p.port.val ∈ s1.pool.noRoute then s1
        else raise { s1 with pool := { s1.pool with noRoute := s1.pool.noRoute ++ [p.port.val] } } 0x3010 0) := by
  refine congrArg Host.Outcome.next ((if_neg (by simp [hu])).trans ((if_neg (by simp [hb])).trans ((if_neg (by simp [hc])).trans ?_)))
  rfl

/-- A packet without a route: counted, and reported once for its port. -/
theorem noRoute_effect (s : State) (i : Fin 2) :
    let s1 := bump s (Reg.POOL_ERR_HDR_ERR i.val) 1
    let t := if i.val ∈ s1.pool.noRoute then s1 else raise { s1 with pool := { s1.pool with noRoute := s1.pool.noRoute ++ [i.val] } } 0x3010 0
    rd t (Reg.POOL_ERR_HDR_ERR i.val) = min (rd s (Reg.POOL_ERR_HDR_ERR i.val) + 1) (2 ^ (Reg.POOL_ERR_HDR_ERR i.val).width - 1) ∧ i.val ∈ t.pool.noRoute ∧
      (i.val ∉ s.pool.noRoute → Room s → Queued s t 0x3010 0) ∧ Frame s t (Reg.POOL_ERR_HDR_ERR i.val :: eventRegs) [.pool, .events] := by
  have hpool : (bump s (Reg.POOL_ERR_HDR_ERR i.val) 1).pool = s.pool := wr_pool ..
  have hev : ∀ j : Fin 2, ∀ e ∈ eventFields, (Reg.POOL_ERR_HDR_ERR j.val).key ≠ e.key := by decide
  dsimp only
  by_cases hin : i.val ∈ s.pool.noRoute
  · rw [if_pos (by rwa [hpool])]
    exact ⟨rd_bump .., by rwa [hpool], fun h => absurd hin h, frame_bump _ (List.mem_cons_self ..) (frame_refl ..)⟩
  · rw [if_neg (by rwa [hpool])]
    refine ⟨(rd_raise _ _ _ (hev i)).trans (rd_bump s (Reg.POOL_ERR_HDR_ERR i.val) 1), ?_, fun _ hroom => ?_, ?_⟩
    · refine (congrArg (i.val ∈ ·.noRoute) (samePart_of_frame (frame_raise_self _ 0x3010 0) (p := .pool) (by simp))).mpr ?_
      exact List.mem_append_right _ (List.mem_singleton_self _)
    · exact queued_raise 0 (wr_rst s (Reg.POOL_ERR_HDR_ERR i.val) (min (rd s (Reg.POOL_ERR_HDR_ERR i.val) + 1) (2 ^ 8 - 1)))
        (wr_events s (Reg.POOL_ERR_HDR_ERR i.val) (min (rd s (Reg.POOL_ERR_HDR_ERR i.val) + 1) (2 ^ 8 - 1))) hroom (by decide)
    · exact frame_raise _ _ (List.subset_cons_self ..) (by simp) (frame_pool _ (by simp) (frame_bump _ (List.mem_cons_self ..) (frame_refl ..)))

theorem poolCommit_passes {s : State} (hm : modeOf s ≠ mBoot) (hc : shadowChanged s poolGroup = true) (hp : poolPairOk s = true) :
    poolCommit s = copyShadow { s with silent := s.silent.filter (· != poolGroup.id) } poolGroup := by
  unfold poolCommit
  rw [if_neg hm, hp]
  exact congrArg Prod.fst (commitGroup_of_pass (.inl hc))

theorem poolCommit_refused {s : State} (hm : modeOf s ≠ mBoot) (hc : shadowChanged s poolGroup = true) (hp : poolPairOk s = false) :
    poolCommit s = refuseCommit s poolGroup [0x090100] := by
  unfold poolCommit
  rw [if_neg hm, hp]
  exact congrArg Prod.fst (commitGroup_of_fail (.inl hc) (by decide : failAt false 0x090100 ≠ []))

/-- The pool's reserves lie in its commit group. -/
theorem poolGroup_mem {i w x k : Nat} {p : Acc} (hk : k < 16) (hi : i < 32) :
    poolGroup.ranges.any (fun r => decide (r.1 ≤ Fld.key ⟨0x90100 + 0x4 * k, i, w, p, .H, x⟩) && decide (Fld.key ⟨0x90100 + 0x4 * k, i, w, p, .H, x⟩ < r.2)) = true := by
  have h1 : 0x90100 * 32 ≤ Fld.key ⟨0x90100 + 0x4 * k, i, w, p, .H, x⟩ := by
    simp only [Fld.key]
    omega
  have h2 : Fld.key ⟨0x90100 + 0x4 * k, i, w, p, .H, x⟩ < 0x90140 * 32 := by
    simp only [Fld.key]
    omega
  exact List.any_eq_true.mpr ⟨_, List.mem_singleton_self _, (Bool.and_eq_true ..).mpr ⟨decide_eq_true h1, decide_eq_true h2⟩⟩

/-- Settles O36. -/
theorem forwardingAndPool : Obligations.ForwardingAndPool := by
  intro s p op full err up i
  refine ⟨fun h => congrArg _ (if_pos (by simp [show portUp s p.port.val = false from h])), fun hu hb => ⟨fun hc => ?_, fun q hc hr hq hpad hf => ?_, fun q hc hr hd => ?_,
    fun hc hr => ?_⟩, fun h => congrArg _ (if_neg (by simp [show portUp s (2 + p.port.val) = false from h])), fun hu hb hpad hq => ?_, fun hu => ?_,
    fun h => congrArg _ (if_pos h), fun hm hc => ⟨fun hp => ?_, fun hp => ?_⟩⟩
  · exact congrArg Host.Outcome.next ((if_neg (by simp [show portUp s p.port.val = true from hu])).trans ((if_neg (by simp [hb])).trans (if_pos hc)))
  · have hx := forwardDownstream_routed (op := op) (full := full) hu hb hc
    rw [hr] at hx
    refine gives_next hx ((congrArg (forwardTo s p.port.val 13 · _) hf).trans (forwardTo_leaves hq hpad)) ⟨rfl, frame_link _ (by simp) (frame_refl ..)⟩
  · have hx := forwardDownstream_routed (op := op) (full := full) hu hb hc
    rw [hr] at hx
    exact gives_next hx (forwardTo_dropped hd) ⟨rd_bump .., frame_bump _ (List.mem_singleton_self _) (frame_refl ..)⟩
  · have hx := forwardDownstream_routed (op := op) (full := full) hu hb hc
    rw [hr] at hx
    exact gives_next hx rfl (noRoute_effect s p.port)
  · refine gives_next rfl ((if_pos hu).trans ((congrArg (fun q => forwardTo s (2 + p.port.val) 14 false (forwardPkt true err q op p)) (if_neg (by simp [hb]))).trans
      (forwardTo_leaves hq hpad))) ⟨rfl, frame_link _ (by simp) (frame_refl ..)⟩
  · exact gives_next rfl ((if_pos hu).trans (forwardTo_dropped (.inr (.inr rfl)))) ⟨rd_bump .., frame_bump _ (List.mem_singleton_self _) (frame_refl ..)⟩
  · refine gives_next rfl (poolCommit_passes hm hc hp) fun k hk => ⟨?_, ?_⟩
    · exact (rd_copyShadow _ _ (f := Reg.POOL_RSV_RSV k) rfl).trans (if_pos (poolGroup_mem hk (by decide)))
    · exact (rd_copyShadow _ _ (f := Reg.POOL_RSV_MAX k) rfl).trans (if_pos (poolGroup_mem hk (by decide)))
  · exact gives_next rfl (poolCommit_refused hm hc hp) fun f hf => rd_H_congr hf (refuseCommit_hact ..)

/-! Croak windows and the receiver up to the header (R163 to R170, Table 7.8). -/

theorem cState_setChorus (s : State) {st : Nat} (h : st < 8) : cState (setChorus s st) = st := (rd_wr ..).trans (Nat.mod_eq_of_lt h)

theorem frame_setChorus (s : State) (st : Nat) : Frame s (setChorus s st) [Reg.CHORUS_STATUS_STATE] [] := frame_wr _ (List.mem_singleton_self _) (frame_refl ..)

/-- The search opens where the window listens. -/
theorem searchOpen_opens {s : State} {w : CroakWin} (hw : s.chorus.win = some w) (hst : cState s = cOff) (hl : w.listen ≠ []) (hs : chorusStopped s = false) :
    let t := searchOpen s
    cState t = cSearch ∧ t.chorus = { s.chorus with idx := rd s Reg.CHORUS_RXCFG_CH_IDX0 } ∧
      Frame s t (Reg.CHORUS_STATUS_STATE :: w.listen.map fun u => Reg.CLUSTER_STROBE_RXON_NOW (u / 8)) [.chorus] := by
  have hloop : (forEach w.listen s fun s u => wr s (Reg.CLUSTER_STROBE_RXON_NOW (u / 8)) 1).chorus = s.chorus :=
    forEach_same State.chorus (fun t u _ => wr_chorus t (Reg.CLUSTER_STROBE_RXON_NOW (u / 8)) 1) s
  have hcond : cState s = cOff ∧ (!w.listen.isEmpty) = true ∧ (!chorusStopped s) = true := ⟨hst, by simpa using hl, by simp [hs]⟩
  unfold searchOpen
  rw [hw]
  dsimp only
  rw [if_pos hcond, hloop]
  refine ⟨cState_setChorus _ (by decide), wr_chorus .., frame_wr _ (List.mem_cons_self ..) (frame_chorus _ (by simp) (frame_forEach (frame_refl ..) fun t u hu ht => ?_))⟩
  exact frame_wr _ (List.mem_cons_of_mem _ (List.mem_map_of_mem hu)) ht

theorem searchOpen_none {s : State} (h : s.chorus.win = none) : searchOpen s = s := by
  unfold searchOpen
  rw [h]

theorem searchOpen_shut {s : State} {w : CroakWin} (hw : s.chorus.win = some w) (h : cState s ≠ cOff ∨ w.listen = [] ∨ chorusStopped s = true) :
    searchOpen s = s := by
  unfold searchOpen
  rw [hw]
  refine if_neg ?_
  rintro ⟨h1, h2, h3⟩
  rcases h with h | h | h
  · exact h h1
  · simp [h] at h2
  · simp [h] at h3

theorem croakSend_none {s : State} (h : s.chorus.win = none) : croakSend s = s := by
  unfold croakSend
  rw [h]

theorem croakSend_idle {s : State} {w : CroakWin} (hw : s.chorus.win = some w) (h : w.due = false) : croakSend s = s := by
  unfold croakSend
  rw [hw]
  exact if_neg (by simp [h])

theorem croakSend_sends {s : State} {w : CroakWin} {u : Nat} (hw : s.chorus.win = some w) (hd : w.due = true) (ht : w.tx = some u)
    (ha : croakAble s u w.fofs (w.role == 2) = true) (hg : on s (Reg.UNIT_TX_STATUS_GATED u) = false) :
    croakSend s = bump { s with chorus := { s.chorus with win := some { w with due := false }, sent := croakBytes s w } } Reg.CHORUS_COUNT2_TX_SENT 1 := by
  unfold croakSend
  rw [hw]
  dsimp only
  rw [if_pos hd, ht]
  exact if_pos (by simp [ha, hg])

/-- A window without a unit that may send: its croak is counted as not sent. -/
theorem croakSend_notSent {s : State} {w : CroakWin} (hw : s.chorus.win = some w) (hd : w.due = true) (ht : w.tx = none) :
    croakSend s = raiseIf (rd s Reg.CHORUS_COUNT1_NOT_SENT == 0)
      (bump { s with chorus := { s.chorus with win := some { w with due := false } } } Reg.CHORUS_COUNT1_NOT_SENT 1) 0x2041 0 := by
  unfold croakSend
  rw [hw]
  dsimp only
  rw [if_pos hd, ht]
  rfl

/-- A packet is given up, counted in `f`: the receiver searches again. -/
theorem abandon_effect (s : State) {f : Fld} (hf : f.key ≠ Reg.CHORUS_STATUS_STATE.key) : let t := abandon (bump s f 1)
    cState t = cSearch ∧ t.chorus = { s.chorus with rx := none } ∧ rd t f = min (rd s f + 1) (2 ^ f.width - 1) ∧
      Frame s t [Reg.CHORUS_STATUS_STATE, f] [.chorus] := by
  have hc : (bump s f 1).chorus = s.chorus := wr_chorus ..
  refine ⟨cState_setChorus _ (by decide), (wr_chorus ..).trans (by rw [hc]), (rd_wr_ne _ _ hf).trans (rd_bump s f 1), ?_⟩
  exact frame_wr _ (by simp) (frame_chorus _ (by simp) (frame_bump _ (by simp) (frame_refl ..)))

/-- Settles O40. -/
theorem chorusReceiverStates : Obligations.ChorusReceiverStates := by
  intro s p n bs
  refine ⟨fun w hw => ⟨fun hst hl hs => gives_next rfl rfl (searchOpen_opens hw hst hl hs), fun h => congrArg _ (searchOpen_shut hw h),
      fun h => congrArg _ (croakSend_idle hw h), fun u hd ht ha hg => gives_next rfl (croakSend_sends hw hd ht ha hg) ⟨wr_chorus .., rd_bump .., ?_⟩,
      fun hd ht => gives_next rfl (croakSend_notSent hw hd ht) ⟨?_, ?_, fun h0 hroom => ?_, ?_⟩⟩,
    fun h => ⟨congrArg _ (searchOpen_none h), congrArg _ (croakSend_none h)⟩, fun h => gives_next rfl (if_pos h) ⟨rfl, frame_chorus _ (by simp) (frame_refl ..)⟩,
    fun h => ⟨gives_next rfl (if_pos h) ⟨cState_setChorus _ (by decide), frame_setChorus ..⟩, gives_next rfl (if_pos h) ⟨cState_setChorus _ (by decide), frame_setChorus ..⟩⟩,
    fun h => gives_next rfl (if_pos h) ⟨cState_setChorus _ (by decide), frame_setChorus ..⟩,
    fun h hn => gives_next rfl (if_pos ⟨h, hn⟩) ⟨cState_setChorus _ (by decide), frame_setChorus ..⟩, fun h c hc => ?_,
    fun h => ⟨congrArg _ (if_neg h), congrArg _ (if_neg h)⟩, fun h => congrArg _ (if_neg h), fun h1 h2 => ⟨congrArg Host.Outcome.next ?_, congrArg _ (if_neg (by tauto))⟩, fun h hok => ?_⟩
  · exact frame_bump _ (by simp) (frame_chorus _ (by simp) (frame_refl ..))
  · exact (samePart_of_frame (frame_raiseIf _ _ _ (List.Subset.refl _) (List.mem_singleton_self _) (frame_refl ..)) (p := .chorus) (by simp)).trans (wr_chorus ..)
  · exact (rd_raiseIf _ _ _ _ (by decide)).trans (rd_bump { s with chorus := { s.chorus with win := some { w with due := false } } } Reg.CHORUS_COUNT1_NOT_SENT 1)
  · refine (congrArg (fun b => Queued s (raiseIf b _ 0x2041 0) 0x2041 0) (by simp [h0] : (rd s Reg.CHORUS_COUNT1_NOT_SENT == 0) = true)).mpr ?_
    exact queued_raise 0 (wr_rst ..) (wr_events ..) hroom (by decide)
  · exact frame_raiseIf _ _ _ (List.subset_cons_self ..) (by simp) (frame_bump _ (List.mem_cons_self ..) (frame_chorus _ (by simp) (frame_refl ..)))
  · have hst : cState s = cAcquire ∨ cState s = cAfc := by tauto
    have hshort := abandon_effect s (f := Reg.CHORUS_COUNT1_SHORT_PRE) (by decide)
    simp only [List.mem_cons, List.not_mem_nil, or_false] at hc
    rcases hc with rfl | rfl
    · refine gives_next rfl ((if_neg ?_).trans (if_pos hst)) hshort
      rintro ⟨h1, h2⟩
      rcases h with ⟨-, h⟩ | h
      · omega
      · rw [h1] at h
        exact absurd h (by decide)
    · exact gives_next rfl (if_pos hst) hshort
  · exact (if_neg (by tauto)).trans (if_neg (by tauto))
  · obtain ⟨h1, -, h3, h4⟩ := abandon_effect s (f := Reg.CHORUS_COUNT0_HDR_FAIL) (by decide)
    exact gives_next rfl ((if_pos h).trans (if_neg (by simp [hok]))) ⟨h1, h3, h4⟩

/-! PTP messages (R273 to R277). -/

/-! ### Domains -/

theorem dom_modDom (s : State) (d : Nat) (g : DomS → DomS) : (s.modDom d g).dom d = g (s.dom d) := by
  unfold State.modDom State.dom
  split
  · rfl
  · rfl

theorem dom_congr {s t : State} (h : t.time = s.time) (d : Nat) : t.dom d = s.dom d := by
  unfold State.dom
  rw [h]

/-- Of a domain, what only its messages change: the exchange, t1, the last offset, and what the Announce gave. -/
def exchangeOf (x : DomS) : Bool × Option Int × Option Int × Bool × Nat × Nat := (x.exch, x.t1, x.last, x.ann, x.gm, x.cls)

theorem exchangeOf_modDom {s : State} {g : DomS → DomS} (hg : ∀ x, exchangeOf (g x) = exchangeOf x) (d e : Nat) :
    exchangeOf ((s.modDom d g).dom e) = exchangeOf (s.dom e) := by
  unfold State.modDom State.dom
  split <;> split <;> first | rfl | exact hg _

/-! ### What validity, selection and the servo leave -/

/-- The registers that validity, selection, the servo and the step detector of the domains write. -/
def timeRegs : List Fld :=
  [Reg.TIME_STATUS_STATE, Reg.TIME_STATUS_SRC, Reg.TIME_STATUS_SEL, Reg.TIME_STATUS_VALID_A, Reg.TIME_STATUS_VALID_B, Reg.TIME_STATUS_SUSPECT_A,
    Reg.TIME_STATUS_SUSPECT_B, Reg.TIME_STATUS_STEP_HELD, Reg.TIME_HOLD_DRIFT, Reg.TIME_HOLD_HOLD_ERR, Reg.TIME_COUNT_OUTLIER_A, Reg.TIME_COUNT_OUTLIER_B,
    Reg.TIME_OFS_OFS 0, Reg.TIME_OFS_OFS 1] ++ eventRegs

/-- A step of validity, selection, the servo or a step detector: it leaves every other register, the active copies of class H, whether PPS is present, and of each domain
what only messages change. -/
def TimeStep (s t : State) : Prop :=
  Frame s t timeRegs [.time, .free, .events] ∧ t.hact = s.hact ∧ t.time.ppsOk = s.time.ppsOk ∧ ∀ e, exchangeOf (t.dom e) = exchangeOf (s.dom e)

theorem timeStep_refl (s : State) : TimeStep s s := ⟨frame_refl .., rfl, rfl, fun _ => rfl⟩

theorem timeStep_trans {s t u : State} (h : TimeStep s t) (k : TimeStep t u) : TimeStep s u :=
  ⟨frame_step h.1 k.1, k.2.1.trans h.2.1, k.2.2.1.trans h.2.2.1, fun e => (k.2.2.2 e).trans (h.2.2.2 e)⟩

section
variable {s t : State}

theorem timeStep_wr {f : Fld} (v : Nat) (hf : f ∈ timeRegs) (hc : f.cls ≠ .H) (h : TimeStep s t) : TimeStep s (wr t f v) :=
  timeStep_trans h ⟨frame_wr v hf (frame_refl ..), wr_hact_of_L t v hc, congrArg TimeS.ppsOk (wr_time ..), fun e => congrArg exchangeOf (dom_congr (wr_time ..) e)⟩

theorem timeStep_raise (c a : Nat) (h : TimeStep s t) : TimeStep s (raise t c a) := by
  have htime : (raise t c a).time = t.time := samePart_of_frame (frame_raise_self t c a) (p := .time) (by simp)
  exact timeStep_trans h ⟨frame_raise c a (List.subset_append_right ..) (by simp) (frame_refl ..), raise_hact t c a, congrArg TimeS.ppsOk htime,
    fun e => congrArg exchangeOf (dom_congr htime e)⟩

theorem timeStep_takeFree (w : Nat) (h : TimeStep s t) : TimeStep s (takeFree t w).2 :=
  timeStep_trans h ⟨frame_free _ (by simp) (frame_refl ..), rfl, rfl, fun _ => rfl⟩

theorem timeStep_modDom {g : DomS → DomS} (d : Nat) (hg : ∀ x, exchangeOf (g x) = exchangeOf x) (h : TimeStep s t) : TimeStep s (t.modDom d g) := by
  refine timeStep_trans h ⟨frame_modDom d g (by simp) (frame_refl ..), modDom_hact .., ?_, exchangeOf_modDom hg d⟩
  unfold State.modDom
  split <;> rfl

theorem timeStep_time (x : TimeS) (ha : x.domA = t.time.domA) (hb : x.domB = t.time.domB) (hp : x.ppsOk = t.time.ppsOk) (h : TimeStep s t) :
    TimeStep s { t with time := x } := by
  refine timeStep_trans h ⟨frame_time x (by simp) (frame_refl ..), rfl, hp, fun e => ?_⟩
  unfold State.dom
  split
  · exact congrArg exchangeOf ha
  · exact congrArg exchangeOf hb

theorem timeStep_forEach {α : Type} {l : List α} {g : State → α → State} (hg : ∀ u a, TimeStep s u → TimeStep s (g u a)) (h : TimeStep s t) :
    TimeStep s (forEach l t g) := by
  unfold forEach
  induction l generalizing t with
  | nil => exact h
  | cons a r ih => exact ih (hg t a h)

end

theorem validFld_mem (d : Nat) : validFld d ∈ timeRegs ∧ (validFld d).cls ≠ .H := by
  unfold validFld
  split <;> exact ⟨by simp [timeRegs], fun h => Cls.noConfusion h⟩

theorem suspectFld_mem (d : Nat) : suspectFld d ∈ timeRegs ∧ (suspectFld d).cls ≠ .H := by
  unfold suspectFld
  split <;> exact ⟨by simp [timeRegs], fun h => Cls.noConfusion h⟩

theorem outlierFld_mem (d : Nat) : outlierFld d ∈ timeRegs ∧ (outlierFld d).cls ≠ .H := by
  unfold outlierFld
  split <;> exact ⟨by simp [timeRegs], fun h => Cls.noConfusion h⟩

section
variable {s t : State}

theorem timeStep_refreshDom (d : Nat) (h : TimeStep s t) : TimeStep s (refreshDom t d) := by
  have hw := fun v => timeStep_wr v (validFld_mem d).1 (validFld_mem d).2 h
  unfold refreshDom
  dsimp only
  split_ifs
  · exact hw 0
  · exact timeStep_raise _ _ (timeStep_modDom d (fun _ => rfl) (hw 0))
  · exact hw 1
  · exact h

theorem timeStep_refreshSel (b : Bool) (h : TimeStep s t) : TimeStep s (refreshSel t b) := by
  unfold refreshSel
  dsimp only
  split
  · exact timeStep_raise _ _ (timeStep_wr _ (by simp [timeRegs]) (fun h => Cls.noConfusion h) h)
  · exact h

theorem timeStep_state (v : Nat) (h : TimeStep s t) : TimeStep s (wr t Reg.TIME_STATUS_STATE v) :=
  timeStep_wr v (by simp [timeRegs]) (fun h => Cls.noConfusion h) h

theorem timeStep_enterHoldover (h : TimeStep s t) : TimeStep s (enterHoldover t) := by
  have h1 : TimeStep s (if 800000 ≤ t.time.lockTicks then takeFree t 16 else (0, t)).2 := by
    split
    · exact timeStep_takeFree 16 h
    · exact h
  unfold enterHoldover
  exact timeStep_raise _ _ (timeStep_state _ (timeStep_time _ rfl rfl rfl (timeStep_wr _ (by simp [timeRegs]) (fun h => Cls.noConfusion h)
    (timeStep_wr _ (by simp [timeRegs]) (fun h => Cls.noConfusion h) h1))))

theorem timeStep_refreshTime (h : TimeStep s t) : TimeStep s (refreshTime t) := by
  have h1 := timeStep_refreshSel (domValid t (rd t Reg.TIME_DOMAIN_PREF)) (timeStep_refreshDom 1 (timeStep_refreshDom 0 h))
  have h2 := fun v => timeStep_wr (f := Reg.TIME_STATUS_SRC) v (by simp [timeRegs]) (fun h => Cls.noConfusion h) h1
  unfold refreshTime
  dsimp only
  split
  · exact timeStep_enterHoldover (h2 _)
  · exact h2 _

theorem timeStep_stepOrSlew (e : Int) (h : TimeStep s t) : TimeStep s (stepOrSlew t e) := by
  have hheld := timeStep_wr (f := Reg.TIME_STATUS_STEP_HELD) 1 (by simp [timeRegs]) (fun h => Cls.noConfusion h) h
  unfold stepOrSlew
  split_ifs
  · have htime (b : Bool) : (raiseIf b (wr t Reg.TIME_STATUS_STEP_HELD 1) 0x4007 0).time = t.time :=
      (samePart_of_frame (frame_raiseIf b _ _ (List.Subset.refl _) (List.mem_singleton_self _) (frame_refl ..)) (p := .time) (by simp)).trans (wr_time ..)
    refine timeStep_time _ ?_ ?_ ?_ (t := stickyEvent t Reg.TIME_STATUS_STEP_HELD 0x4007 0) ?_
    · exact (congrArg TimeS.domA (htime _).symm : t.time.domA = _)
    · exact (congrArg TimeS.domB (htime _).symm : t.time.domB = _)
    · exact (congrArg TimeS.ppsOk (htime _).symm : t.time.ppsOk = _)
    · unfold stickyEvent raiseIf
      split
      · exact timeStep_raise _ _ hheld
      · exact hheld
  · exact timeStep_raise _ _ (timeStep_time _ rfl rfl rfl h)
  · exact h

theorem timeStep_servoError (e : Int) (h : TimeStep s t) : TimeStep s (servoError t e) := by
  have h0 : TimeStep s { t with time := { t.time with srcErr := e } } := timeStep_time _ rfl rfl rfl h
  have h1 : TimeStep s (if modeOf { t with time := { t.time with srcErr := e } } = mServe ∨ t.time.stepHeld then stepOrSlew { t with time := { t.time with srcErr := e } } e
      else { t with time := { t.time with srcErr := e } }) := by
    split
    · exact timeStep_stepOrSlew e h0
    · exact h0
  have hrest (u : State) (hu : TimeStep s u) (near : Nat) : TimeStep s (if rd { t with time := { t.time with srcErr := e } } Reg.TIME_STATUS_STATE = tAcquire ∧ 4 ≤ near then
      raise (wr { u with time := { u.time with near := near, wasLocked := true } } Reg.TIME_STATUS_STATE tLocked) 0x4001 0
      else { u with time := { u.time with near := near } }) := by
    split
    · exact timeStep_raise _ _ (timeStep_state _ (timeStep_time _ rfl rfl rfl hu))
    · exact timeStep_time _ rfl rfl rfl hu
  unfold servoError
  dsimp only
  split
  · exact timeStep_time _ rfl rfl rfl h
  · split
    · exact timeStep_time _ rfl rfl rfl (timeStep_state _ (timeStep_stepOrSlew e h0))
    · exact hrest _ h1 _

theorem timeStep_acceptOffset {d : Nat} (hd : d < 2) (th : Int) (h : TimeStep s t) : TimeStep s (acceptOffset t d th) := by
  have hmem : Reg.TIME_OFS_OFS d ∈ timeRegs := by
    interval_cases d <;> simp [timeRegs]
  have h1 : TimeStep s ((wr t (Reg.TIME_OFS_OFS d) (code 32 th)).modDom d fun x => { x with acc := (th :: x.acc).take 4, view0 := chorusView t }) :=
    timeStep_modDom d (fun _ => rfl) (timeStep_wr _ hmem (fun h => Cls.noConfusion h) h)
  unfold acceptOffset
  dsimp only
  split
  · exact timeStep_servoError th h1
  · exact h1

theorem timeStep_acceptPending {d : Nat} (hd : d < 2) (h : TimeStep s t) : TimeStep s (acceptPending t d) :=
  timeStep_forEach (fun _ _ hu => timeStep_acceptOffset hd _ hu) (timeStep_modDom d (fun _ => rfl) h)

/-- The step detector keeps the offset it is given as the domain's last, and is a step of the servo for the rest. -/
theorem timeStep_stepDetect {d : Nat} (hd : d < 2) (th : Int) (s : State) : TimeStep (s.modDom d fun x => { x with last := some th }) (stepDetect s d th) := by
  unfold stepDetect
  dsimp only
  generalize s.modDom d (fun x => { x with last := some th }) = u
  have h := timeStep_refl u
  have hback (n : Nat) : TimeStep u (if 16 ≤ n then
      acceptOffset ((wr u (suspectFld d) 0).modDom d fun x => { x with back := 0, acc := [], pend := [] }) d th
      else u.modDom d fun x => { x with back := n }) := by
    split
    · exact timeStep_acceptOffset hd th (timeStep_modDom d (fun _ => rfl) (timeStep_wr 0 (suspectFld_mem d).1 (suspectFld_mem d).2 h))
    · exact timeStep_modDom d (fun _ => rfl) h
  split
  · exact hback _
  · split
    · exact timeStep_acceptOffset hd th h
    · split
      · exact timeStep_acceptOffset hd th (timeStep_wr _ (outlierFld_mem d).1 (outlierFld_mem d).2 (timeStep_modDom d (fun _ => rfl) h))
      · have h1 : TimeStep u (u.modDom d fun x => { x with pend := x.pend ++ [th] }) := timeStep_modDom d (fun _ => rfl) h
        split
        · exact timeStep_acceptPending hd h1
        · split
          · exact timeStep_raise _ _ (timeStep_modDom d (fun _ => rfl) (timeStep_wr 1 (suspectFld_mem d).1 (suspectFld_mem d).2 h1))
          · exact h1

end

/-! PTP messages: consumption, exchanges and residence (R273 to R277). -/

theorem domOf_lt {s : State} {n d : Nat} (h : domOf s n = some d) : d < 2 := by
  have := List.mem_of_find?_eq_some h
  simp only [List.mem_cons, List.not_mem_nil, or_false] at this
  omega

theorem consumePtp_none {s : State} {m : PtpMsg} (f : Nat → State) (h : domOf s m.domain.toNat = none) : consumePtp s m f = s := by
  unfold consumePtp
  rw [h]

theorem consumePtp_bad {s : State} {m : PtpMsg} (f : Nat → State) (h : domOf s m.domain.toNat ≠ none) (hm : msgOk m = false) :
    consumePtp s m f = bump s Reg.TIME_COUNT_MSG_ERR 1 := by
  obtain ⟨d, hd⟩ := Option.ne_none_iff_exists'.mp h
  unfold consumePtp
  rw [hd]
  exact if_neg (by simp [hm])

theorem consumePtp_good {s : State} {m : PtpMsg} {d : Nat} (f : Nat → State) (h : domOf s m.domain.toNat = some d) (hm : msgOk m = true) :
    consumePtp s m f = f d := by
  unfold consumePtp
  rw [h]
  exact if_pos hm

/-- The messages run through `consumePtp`. -/
theorem exec_consumePtp {s : State} {p : Fin 2} {m : PtpMsg} {c : Instr} (hc : c ∈ [Instr.ptpSync p m, .followUp p m, .delayResp p m, .announce m]) :
    ∃ f, exec c s = .next (consumePtp s m f) := by
  simp only [List.mem_cons, List.not_mem_nil, or_false] at hc
  rcases hc with rfl | rfl | rfl | rfl
  · exact ⟨_, rfl⟩
  · exact ⟨_, rfl⟩
  · exact ⟨_, rfl⟩
  · exact ⟨_, rfl⟩

/-- A Delay_Req goes out, or not: of the domain it changes t3 and the time of the request. -/
theorem delayReq_effect (s : State) (d seq : Nat) : (∃ x y, (delayReq s d seq).dom d = { s.dom d with t3 := x, reqAt := y }) ∧
    Frame s (delayReq s d seq) [] [.time, .link, .pool] := by
  have hboth (b : Bool) (x : Int) (o : OutPkt) : let t := if b = true then send (s.modDom d fun x' => { x' with t3 := some x, reqAt := some s.time.bal }) o
        else (s.modDom d fun x' => { x' with t3 := none });
      (∃ x y, t.dom d = { s.dom d with t3 := x, reqAt := y }) ∧ Frame s t [] [.time, .link, .pool] := by
    split
    · exact ⟨⟨_, _, dom_modDom s d fun x' => { x' with t3 := some x, reqAt := some s.time.bal }⟩,
        frame_send _ (by simp) (by simp) (frame_modDom _ _ (by simp) (frame_refl ..))⟩
    · exact ⟨⟨_, _, dom_modDom s d fun x' => { x' with t3 := none }⟩, frame_modDom _ _ (by simp) (frame_refl ..)⟩
  exact hboth _ _ _

theorem code_lt (w : Nat) (i : Int) : code w i < 2 ^ w := by
  have hpos : (0 : Int) < 2 ^ w := by positivity
  have hlt : i % 2 ^ w < 2 ^ w := Int.emod_lt_of_pos i hpos
  have hnat : ((2 ^ w : Nat) : Int) = 2 ^ w := by push_cast; rfl
  have hnn : 0 ≤ i % 2 ^ w := Int.emod_nonneg i (ne_of_gt hpos)
  unfold code
  omega

/-- A completed exchange: nothing of it is kept, and it counts. -/
def exchangeCounted (x : DomS) : DomS :=
  { x with exch := true, t1 := none, t2 := none, t3 := none, good := x.good + 1, lost := x.lost && decide (x.good + 1 < 4) }

/-- The end of an exchange: its delay is shown, and of the domain t1 goes and the offset is the last. -/
theorem exchangeDone_effect (s : State) {d : Nat} (hd : d < 2) (dly th : Int) : let t := exchangeDone s d dly th
    (t.dom d).exch = true ∧ (t.dom d).t1 = none ∧ (t.dom d).last = some th ∧ rd t (Reg.TIME_DLY_DLY d) = code 32 dly := by
  let a := (wr s (Reg.TIME_DLY_DLY d) (code 32 dly)).modDom d exchangeCounted
  have h1 : TimeStep a (refreshTime a) := timeStep_refreshTime (timeStep_refl a)
  have h2 : TimeStep ((refreshTime a).modDom d fun x => { x with last := some th }) (exchangeDone s d dly th) :=
    timeStep_refreshTime (timeStep_stepDetect hd th (refreshTime a))
  have hdom : exchangeOf ((exchangeDone s d dly th).dom d) = (true, none, some th, exchangeOf (a.dom d) |>.2.2.2) := by
    have ha : exchangeOf ((refreshTime a).dom d) = exchangeOf (a.dom d) := h1.2.2.2 d
    have hx : a.dom d = exchangeCounted _ := dom_modDom ..
    rw [h2.2.2.2 d, dom_modDom]
    rw [hx] at ha ⊢
    simp only [exchangeOf, exchangeCounted, Prod.mk.injEq] at ha ⊢
    tauto
  have hkey : ∀ g ∈ timeRegs, (Reg.TIME_DLY_DLY d).key ≠ g.key := by
    have : ∀ d < 2, ∀ g ∈ timeRegs, (Reg.TIME_DLY_DLY d).key ≠ g.key := by decide
    exact this d hd
  simp only [exchangeOf, Prod.mk.injEq] at hdom
  obtain ⟨he, h3, h4, -⟩ := hdom
  refine ⟨he, h3, h4, (h2.1.1 _ hkey).trans ((rd_modDom ..).trans ((h1.1.1 _ hkey).trans ((rd_modDom ..).trans ((rd_wr ..).trans ?_))))⟩
  exact Nat.mod_eq_of_lt (code_lt 32 dly)

/-! ### The messages of an enabled domain -/

section
variable {s : State} {p : Fin 2} {m : PtpMsg} {d : Nat}

theorem ptpSync_at (hd : domOf s m.domain.toNat = some d) (hm : msgOk m = true) (hp : p.val = timePort s) :
    Gives (.ptpSync p m) s fun t => (t.dom d).seq = m.seq.toNat ∧ (t.dom d).wait = m.twoStep ∧
      (t.dom d).t2 = some (now16 s - ps16 (rd s (Reg.TIME_PORT_LAT_LAT_IN p))) ∧
      (t.dom d).t1 = some (if m.twoStep then m.corr.toInt else msgTime m + m.corr.toInt) ∧ Frame s t [] [.time, .link, .pool] := by
  let a := s.modDom d fun x => { x with
    seq := m.seq.toNat, t2 := some (now16 s - ps16 (rd s (Reg.TIME_PORT_LAT_LAT_IN p))), wait := m.twoStep,
    t1 := if m.twoStep then some m.corr.toInt else some (msgTime m + m.corr.toInt) }
  obtain ⟨⟨x, y, hdom⟩, hf⟩ := delayReq_effect a d m.seq.toNat
  have ha := dom_modDom s d fun x => { x with
    seq := m.seq.toNat, t2 := some (now16 s - ps16 (rd s (Reg.TIME_PORT_LAT_LAT_IN p))), wait := m.twoStep,
    t1 := if m.twoStep then some m.corr.toInt else some (msgTime m + m.corr.toInt) }
  refine gives_next (t := delayReq a d m.seq.toNat) rfl ((consumePtp_good _ hd hm).trans (if_pos hp))
    ⟨?_, ?_, ?_, ?_, frame_step (frame_modDom _ _ (by simp) (frame_refl ..)) hf⟩
  · exact (congrArg DomS.seq hdom).trans (congrArg DomS.seq ha)
  · exact (congrArg DomS.wait hdom).trans (congrArg DomS.wait ha)
  · exact (congrArg DomS.t2 hdom).trans (congrArg DomS.t2 ha)
  · refine (congrArg DomS.t1 hdom).trans ((congrArg DomS.t1 ha).trans ?_)
    cases m.twoStep <;> rfl

theorem followUp_of (hd : domOf s m.domain.toNat = some d) (hm : msgOk m = true) {x y : Int} (h1 : (s.dom d).t1 = some x) (h2 : (s.dom d).t2 = some y) :
    followUp s p m = if p.val = timePort s ∧ (s.dom d).wait ∧ (s.dom d).seq = m.seq.toNat ∧ now16 s - y ≤ 1000000000 * 65536 then
      s.modDom d fun x' => { x' with wait := false, t1 := some (x + msgTime m + m.corr.toInt) } else s := by
  refine (consumePtp_good _ hd hm).trans ?_
  dsimp only
  rw [h1, h2]

theorem followUp_elsewhere (hd : domOf s m.domain.toNat = some d) (hm : msgOk m = true) (hp : p.val ≠ timePort s) : followUp s p m = s := by
  refine (consumePtp_good _ hd hm).trans ?_
  dsimp only
  split
  · exact if_neg fun h => hp h.1
  · rfl

theorem delayResp_idle (hd : domOf s m.domain.toNat = some d) (hm : msgOk m = true) (h : ¬(p.val = timePort s ∧ m.own ∧ !(s.dom d).wait)) : delayResp s p m = s :=
  (consumePtp_good _ hd hm).trans (if_neg h)

theorem delayResp_completes (hd : domOf s m.domain.toNat = some d) (hm : msgOk m = true) (hp : p.val = timePort s) (ho : m.own = true) (hw : (s.dom d).wait = false)
    {x y z : Int} (h1 : (s.dom d).t1 = some x) (h2 : (s.dom d).t2 = some y) (h3 : (s.dom d).t3 = some z) :
    let dd := ((y - x) + (msgTime m - m.corr.toInt - z)) / 2
    delayResp s p m = exchangeDone (s.modDom d fun x' => { x' with reqLog := some m.log.toInt }) d (dd / 4096)
      (((y - x) - dd - rdI s (Reg.TIME_ASYM_ASYM p) * 4096) / 4096) := by
  refine (consumePtp_good _ hd hm).trans ((if_pos ⟨hp, ho, by simp [hw]⟩).trans ?_)
  dsimp only
  rw [h1, h2, h3]

theorem announce_of (hd : domOf s m.domain.toNat = some d) (hm : msgOk m = true) :
    Gives (.announce m) s fun t => (t.dom d).ann = true ∧ (t.dom d).gm = m.gm.toNat ∧ (t.dom d).cls = m.cls.toNat := by
  let a := s.modDom d fun x => { x with ann := true, gm := m.gm.toNat, cls := m.cls.toNat }
  have h : exchangeOf ((refreshTime a).dom d) = _ := (timeStep_refreshTime (timeStep_refl a)).2.2.2 d
  have ha := dom_modDom s d fun x => { x with ann := true, gm := m.gm.toNat, cls := m.cls.toNat }
  rw [show a.dom d = _ from ha] at h
  simp only [exchangeOf, Prod.mk.injEq] at h
  obtain ⟨-, -, -, hann, hgm, hcls⟩ := h
  exact gives_next (t := refreshTime a) rfl (consumePtp_good _ hd hm) ⟨hann, hgm, hcls⟩

end

/-- Settles O44. -/
theorem ptpMessages : Obligations.PtpMessages := by
  unfold Obligations.PtpMessages
  intro s p m out corr res
  refine ⟨fun c hc => ?_, fun d hd hm => ⟨fun hp => ?_, ptpSync_at hd hm, fun x y hp h1 h2 => ⟨fun hw hq ht => ?_, fun h => ?_, fun z ho hw h3 => ?_⟩, fun h => ?_,
    announce_of hd hm⟩, ?_, within_of_mask (keepsO_execDelayResp (w₀ := 8388632) (keeps_refl _ s) rfl) (by decide),
    within_of_mask (keepsO_execAnnounce (w₀ := 8388632) (keeps_refl _ s) rfl) (by decide)⟩
  · obtain ⟨f, hf⟩ := exec_consumePtp hc (s := s)
    refine ⟨fun h => hf.trans (congrArg _ (consumePtp_none f h)), fun h hm => gives_next hf (consumePtp_bad f h hm) ⟨rd_bump .., frame_bump 1 (by simp) (frame_refl ..)⟩⟩
  · exact ⟨congrArg Host.Outcome.next ((consumePtp_good _ hd hm).trans (if_neg hp)), congrArg Host.Outcome.next (followUp_elsewhere hd hm hp),
      congrArg Host.Outcome.next (delayResp_idle hd hm fun h => hp h.1)⟩
  · exact gives_next rfl ((followUp_of hd hm h1 h2).trans (if_pos ⟨hp, hw, hq, ht⟩)) ⟨dom_modDom .., frame_modDom _ _ (by simp) (frame_refl ..)⟩
  · refine congrArg Host.Outcome.next ((followUp_of hd hm h1 h2).trans (if_neg fun hc => ?_))
    obtain ⟨-, hw, hq, -⟩ := hc
    exact h.elim (fun h => by simp [hw] at h) (fun h => h hq)
  · obtain ⟨he, ht1, hl, hdly⟩ := exchangeDone_effect (s.modDom d fun x' => { x' with reqLog := some m.log.toInt }) (domOf_lt hd)
      (((y - x) + (msgTime m - m.corr.toInt - z)) / 2 / 4096)
      (((y - x) - ((y - x) + (msgTime m - m.corr.toInt - z)) / 2 - rdI s (Reg.TIME_ASYM_ASYM p) * 4096) / 4096)
    exact gives_next rfl (delayResp_completes hd hm hp ho hw h1 h2 h3) ⟨he, ht1, hl, hdly⟩
  · refine congrArg Host.Outcome.next (delayResp_idle hd hm fun hc => ?_)
    obtain ⟨-, ho, hw⟩ := hc
    exact h.elim (fun h => by simp [ho] at h) (fun h => by simp [h] at hw)
  · exact gives_next rfl rfl ⟨⟨_, rfl, rfl, rfl, rfl⟩, frame_send _ (by simp) (by simp) (frame_refl ..)⟩

/-! The servo's reach (R280, R281), tile phases, PPS, SNAP and the time commit (R271, R283 to R285). -/

/-! ### STEER -/

theorem sgn_code_24 {n : Int} (h : n.natAbs ≤ 2000000) : sgn 24 (code 24 n) = n := by
  unfold sgn code
  split <;> omega

theorem steerNext_within (cur target : Int) : (steerNext cur target).natAbs ≤ 2000000 := by
  unfold steerNext steerMax
  dsimp only
  omega

theorem steerNext_near {cur : Int} (target : Int) (h : cur.natAbs ≤ 2000000) : (steerNext cur target - cur).natAbs ≤ 100 := by
  unfold steerNext steerMax
  dsimp only
  omega

theorem steerNext_self {cur : Int} (h : cur.natAbs ≤ 2000000) : steerNext cur cur = cur := by
  unfold steerNext steerMax
  dsimp only
  omega

/-- What STEER moves towards. -/
def steerTarget (s : State) : Int :=
  if rd s Reg.TIME_STATUS_STATE = tHoldover then holdTarget s
  else if rd s Reg.TIME_STATUS_STATE = tFree then rdI s Reg.TIME_STEER_STEER else sgn 32 (takeFree s 32).1

/-- The end of an update shows the new STEER. -/
theorem steer_shown {s u : State} {n : Int} (v : Nat) (x : TimeS) (b : Bool) (hn : n.natAbs ≤ 2000000) (hx : x.bal = s.time.bal) (h : Frame s u [] [.free]) :
    let t := raiseIf b { wr (wr u Reg.TIME_STEER_STEER (code 24 n)) Reg.TIME_HOLD_HOLD_ERR v with time := x } 0x4008 0
    rdI t Reg.TIME_STEER_STEER = n ∧ t.time.bal = s.time.bal ∧ Frame s t ([Reg.TIME_STEER_STEER, Reg.TIME_HOLD_HOLD_ERR] ++ eventRegs) [.time, .free, .events] := by
  intro t
  have hf : Frame { wr (wr u Reg.TIME_STEER_STEER (code 24 n)) Reg.TIME_HOLD_HOLD_ERR v with time := x } t eventRegs [.events] :=
    frame_raiseIf b _ _ (List.Subset.refl _) (List.mem_singleton_self _) (frame_refl ..)
  have hsteer : rd t Reg.TIME_STEER_STEER = code 24 n :=
    (rd_raiseIf b _ _ _ (by decide)).trans ((rd_wr_ne (wr u Reg.TIME_STEER_STEER (code 24 n)) v (by decide)).trans
      ((rd_wr u Reg.TIME_STEER_STEER _).trans (Nat.mod_eq_of_lt (code_lt 24 n))))
  refine ⟨(congrArg (sgn 24) hsteer).trans (sgn_code_24 hn), (congrArg TimeS.bal (samePart_of_frame hf (p := .time) (by simp))).trans hx,
    frame_raiseIf b _ _ (by simp) (by simp) (frame_time x (by simp) (frame_wr _ (by simp) (frame_wr _ (by simp) (frame_mono h (List.nil_subset _) (by simp)))))⟩

theorem steerUpdate_effect (s : State) : rdI (steerUpdate s) Reg.TIME_STEER_STEER = steerNext (rdI s Reg.TIME_STEER_STEER) (steerTarget s) ∧
    (steerUpdate s).time.bal = s.time.bal ∧ Frame s (steerUpdate s) ([Reg.TIME_STEER_STEER, Reg.TIME_HOLD_HOLD_ERR] ++ eventRegs) [.time, .free, .events] := by
  have hn := steerNext_within (rdI s Reg.TIME_STEER_STEER) (steerTarget s)
  have hfree (w : Nat) : Frame s (takeFree s w).2 [] [.free] := frame_free _ (by simp) (frame_refl ..)
  unfold steerTarget at hn ⊢
  unfold steerUpdate
  dsimp only
  by_cases hh : rd s Reg.TIME_STATUS_STATE = tHoldover
  · simp only [if_pos hh] at hn ⊢
    exact steer_shown _ _ _ hn rfl (hfree 16)
  · by_cases hf : rd s Reg.TIME_STATUS_STATE = tFree
    · simp only [if_neg hh, if_pos hf] at hn ⊢
      exact steer_shown _ _ _ hn rfl (hfree 32)
    · simp only [if_neg hh, if_neg hf] at hn ⊢
      exact steer_shown _ _ _ hn rfl (hfree 32)

/-- Settles O46. -/
theorem steerMovesByOnePpb : Obligations.SteerMovesByOnePpb := by
  intro s
  obtain ⟨hs, hb, hf⟩ := steerUpdate_effect s
  refine gives_next rfl rfl ⟨?_, fun h => ?_, fun h => ?_, fun h hc => ?_, hb, hf⟩
  · rw [hs]
    exact steerNext_within ..
  · rw [hs]
    exact steerNext_near _ h
  · rw [hs, show steerTarget s = _ from if_pos h]
  · rw [hs, show steerTarget s = _ from (if_neg (by rw [h]; decide)).trans (if_pos h)]
    exact steerNext_self hc

/-! ### Tile phases and PPS -/

theorem tilePhaseCheck_of {s : State} {k : Fin 4} (ph : BitVec 16) (h : tileEnabled s k = true) : Gives (.tilePhaseCheck k ph) s fun t =>
    rd t (Reg.TIME_TILE_PH_TILE_PH k) = ph.toNat ∧ (50 < ph.toInt.natAbs → Room s → Queued s t 0x4009 0) ∧ (ph.toInt.natAbs ≤ 50 → t.events = s.events) ∧
    Frame s t (Reg.TIME_TILE_PH_TILE_PH k :: eventRegs) [.events] := by
  have hkey : ∀ k : Fin 4, ∀ e ∈ eventFields, (Reg.TIME_TILE_PH_TILE_PH k).key ≠ e.key := by decide
  refine gives_next rfl (if_pos h) ⟨?_, fun hph hr => ?_, fun hph => ?_,
    frame_raiseIf _ _ _ (List.subset_cons_self ..) (List.mem_singleton_self _) (frame_wr _ (List.mem_cons_self ..) (frame_refl ..))⟩
  · exact (rd_raiseIf _ _ _ _ (hkey k)).trans ((rd_wr s _ _).trans (Nat.mod_eq_of_lt ph.isLt))
  · rw [show raiseIf _ _ _ _ = _ from if_pos (decide_eq_true hph)]
    exact queued_raise 0 (wr_rst ..) (wr_events ..) hr (by decide)
  · rw [show raiseIf _ _ _ _ = _ from if_neg (by simp [hph])]
    exact wr_events ..

theorem ppsIn_of {s : State} (h : on s Reg.TIME_PPS_IN_EN = true) : Gives .ppsIn s fun t => t.time.ppsOk = true ∧ rd t Reg.TIME_PPS_IN_PPS_IN = code 32
    (if s.time.bal / 2 ^ 36 % 16000000000 < 8000000000 then ((s.time.bal / 2 ^ 36 % 16000000000 : Nat) : Int)
      else ((s.time.bal / 2 ^ 36 % 16000000000 : Nat) : Int) - 16000000000) := by
  have hofs (n : Nat) : (if (n : Int) < 8000000000 then (n : Int) else n - 16000000000) = if n < 8000000000 then (n : Int) else n - 16000000000 :=
    if_congr (by omega) rfl rfl
  generalize hv : (if s.time.bal / 2 ^ 36 % 16000000000 < 8000000000 then ((s.time.bal / 2 ^ 36 % 16000000000 : Nat) : Int)
      else ((s.time.bal / 2 ^ 36 % 16000000000 : Nat) : Int) - 16000000000) = v
  rw [← hofs] at hv
  let a := wr s Reg.TIME_PPS_IN_PPS_IN (code 32 v)
  let b : State := { a with time := { a.time with ppsOk := true } }
  have hstep : TimeStep b (if sourceOf (refreshTime b) = 4 then servoError (refreshTime b) v else refreshTime b) := by
    split
    · exact timeStep_servoError v (timeStep_refreshTime (timeStep_refl b))
    · exact timeStep_refreshTime (timeStep_refl b)
  obtain ⟨hf, -, hp, -⟩ := hstep
  refine gives_next rfl (if_pos h) ⟨?_, ?_⟩
  · dsimp only
    rw [hv]
    exact hp
  · dsimp only
    rw [hv]
    exact (hf.1 _ (by decide)).trans ((rd_wr s Reg.TIME_PPS_IN_PPS_IN _).trans (Nat.mod_eq_of_lt (code_lt 32 v)))

theorem ppsInLost_of {s : State} (h : on s Reg.TIME_PPS_IN_EN = true) : Gives .ppsInLost s fun t => t.time.ppsOk = false ∧ rd t Reg.TIME_STATUS_IN_LOST = 1 := by
  let a := raise (wr s Reg.TIME_STATUS_IN_LOST 1) 0x400A 0
  obtain ⟨hf, -, hp, -⟩ := timeStep_refreshTime (timeStep_refl { a with time := { s.time with ppsOk := false } })
  refine gives_next rfl (if_pos h) ⟨hp, (hf.1 _ (by decide)).trans ?_⟩
  exact (rd_raise (wr s Reg.TIME_STATUS_IN_LOST 1) 0x400A 0 (by decide)).trans (rd_wr ..)

/-- SNAP latches the balance whole. -/
theorem snap_effect (s : State) : Gives .snap s fun t => rd t Reg.TIME_SNAP0_SEC_HI * 2 ^ 32 + rd t Reg.TIME_SNAP1_SEC_LO = balSec s % 2 ^ 64 ∧
    rd t Reg.TIME_SNAP2_NS = balNs s ∧ rd t Reg.TIME_SNAP3_FRAC = s.time.bal / 2 ^ 24 % 65536 ∧
    Frame s t [Reg.TIME_SNAP0_SEC_HI, Reg.TIME_SNAP1_SEC_LO, Reg.TIME_SNAP2_NS, Reg.TIME_SNAP3_FRAC] [] := by
  let a := wr s Reg.TIME_SNAP0_SEC_HI (bits (balSec s) 32 32)
  let b := wr a Reg.TIME_SNAP1_SEC_LO (bits (balSec s) 0 32)
  let c := wr b Reg.TIME_SNAP2_NS (balNs s)
  let t := wr c Reg.TIME_SNAP3_FRAC (s.time.bal / 2 ^ 24 % 65536)
  have h0 : rd t Reg.TIME_SNAP0_SEC_HI = balSec s / 2 ^ 32 % 2 ^ 32 % 2 ^ 32 := by
    refine (rd_wr_ne c _ (by decide)).trans ((rd_wr_ne b _ (by decide)).trans ((rd_wr_ne a _ (by decide)).trans ((rd_wr s Reg.TIME_SNAP0_SEC_HI _).trans ?_)))
    exact congrArg (· % 2 ^ 32 % 2 ^ 32) (Nat.shiftRight_eq_div_pow ..)
  have h1 : rd t Reg.TIME_SNAP1_SEC_LO = balSec s % 2 ^ 32 % 2 ^ 32 :=
    (rd_wr_ne c _ (by decide)).trans ((rd_wr_ne b _ (by decide)).trans (rd_wr a Reg.TIME_SNAP1_SEC_LO _))
  have h2 : rd t Reg.TIME_SNAP2_NS = balNs s :=
    (rd_wr_ne c _ (by decide)).trans ((rd_wr b Reg.TIME_SNAP2_NS _).trans (Nat.mod_eq_of_lt ((Nat.mod_lt _ (by decide)).trans (by decide))))
  have h3 : rd t Reg.TIME_SNAP3_FRAC = s.time.bal / 2 ^ 24 % 65536 := (rd_wr c Reg.TIME_SNAP3_FRAC _).trans (Nat.mod_mod ..)
  refine gives_next (u := t) (t := t) rfl rfl ⟨?_, h2, h3, frame_wr _ (by simp) (frame_wr _ (by simp) (frame_wr _ (by simp) (frame_wr _ (by simp) (frame_refl ..))))⟩
  rw [h0, h1]
  omega

/-! ### The time commit -/

/-- A domain whose number or enable changes at the commit starts afresh. -/
def timeRestart (s t : State) (d : Nat) : State :=
  if domNum s d != domNum t d || domEn s d != domEn t d then (wr (wr t (validFld d) 0) (suspectFld d) 0).modDom d fun _ => {} else t

theorem timeRestart_hact (s t : State) (d : Nat) : (timeRestart s t d).hact = t.hact := by
  unfold timeRestart
  split
  · exact (modDom_hact ..).trans ((wr_hact_of_L _ 0 (suspectFld_mem d).2).trans (wr_hact_of_L _ 0 (validFld_mem d).2))
  · rfl

theorem timeCommit_passes {s : State} (hm : modeOf s ≠ mBoot) (hc : shadowChanged s timeGroup = true) (hp : timePairOk s = true) :
    (timeCommit s).hact = (copyShadow { s with silent := s.silent.filter (· != timeGroup.id) } timeGroup).hact := by
  have h : timeCommit s = refreshTime (timeRestart s (timeRestart s (copyShadow { s with silent := s.silent.filter (· != timeGroup.id) } timeGroup) 0) 1) := by
    unfold timeCommit
    rw [if_neg hm, hp, show failAt true Reg.TIME_DOMAIN_DOMAIN_A.off = [] from rfl, commitGroup_of_pass (.inl hc)]
    rfl
  rw [h, (timeStep_refreshTime (timeStep_refl _)).2.1, timeRestart_hact, timeRestart_hact]

theorem timeCommit_refused {s : State} (hm : modeOf s ≠ mBoot) (hc : shadowChanged s timeGroup = true) (hp : timePairOk s = false) :
    timeCommit s = refuseCommit s timeGroup [Reg.TIME_DOMAIN_DOMAIN_A.off] := by
  unfold timeCommit
  rw [if_neg hm, hp, show failAt false Reg.TIME_DOMAIN_DOMAIN_A.off = [Reg.TIME_DOMAIN_DOMAIN_A.off] from rfl, commitGroup_of_fail (.inl hc) (List.cons_ne_nil _ _)]
  rfl

/-- Settles O47. -/
theorem ppsSnapAndTimeCommit : Obligations.PpsSnapAndTimeCommit := by
  intro s k ph
  refine ⟨fun h => congrArg Host.Outcome.next (if_neg (by simp [h])), tilePhaseCheck_of ph, fun he hs => ?_, fun h => ?_, fun h => ⟨?_, ?_⟩, fun h => ⟨ppsIn_of h, ppsInLost_of h⟩,
    snap_effect s, fun h => congrArg Host.Outcome.next (if_pos h), fun hm hc => ⟨fun hp => ?_, fun hp => ?_⟩,
    within_of_mask (keepsO_execPpsIn (w₀ := 8388632) (keeps_refl _ s) rfl) (by decide), within_of_mask (keepsO_execPpsInLost (w₀ := 8388632) (keeps_refl _ s) rfl) (by decide),
    within_of_mask (keepsO_execTimeCommit (w₀ := 8388633) (keeps_refl _ s) rfl) (by decide)⟩
  · exact gives_next rfl (if_pos (by simp [he, hs])) ⟨rfl, frame_time _ (by simp) (frame_refl ..)⟩
  · refine congrArg Host.Outcome.next (if_neg ?_)
    rcases h with h | h <;> simp [h]
  · exact congrArg Host.Outcome.next (if_neg (by simp [h]))
  · exact congrArg Host.Outcome.next (if_neg (by simp [h]))
  · refine gives_next rfl rfl fun f hf hg => ?_
    exact (rd_H_congr hf (timeCommit_passes hm hc hp)).trans ((rd_copyShadow _ _ hf).trans (if_pos hg))
  · exact gives_next rfl (timeCommit_refused hm hc hp) fun f hf => rd_H_congr hf (refuseCommit_hact ..)

/-! Capture: stops, streams, staging overflow and skew (R286, R293, R296, R299). -/

/-! ### Channels -/

theorem cap_modCap (s : State) (n : Nat) (g : CapCh → CapCh) : (s.modCap n g).cap n = g (s.cap n) := get_set ..

theorem cap_congr {s t : State} (h : t.caps = s.caps) (n : Nat) : t.cap n = s.cap n := by
  unfold State.cap
  rw [h]

/-- The registers that recording writes: PROG and the marks of a closed segment, none of which is the channel's STATE. -/
theorem capKey_ne : ∀ n : Fin 16, (∀ f ∈ [Reg.CAP_CH_STATUS_STATE n, Reg.CAP_CH_STATUS_STAGE n, Reg.CAP_CH_STATUS_TRUNC n, Reg.CAP_CH_COUNT_TRUNC_CNT n],
    f.key ≠ (Reg.CAP_CH_PROG_PROG n).key ∧ f.key ≠ Reg.CAP_BW_BW_USED.key ∧ ∀ e ∈ eventFields, f.key ≠ e.key) ∧
    [Reg.CAP_CH_STATUS_STATE n, Reg.CAP_CH_STATUS_STAGE n, Reg.CAP_CH_STATUS_TRUNC n, Reg.CAP_CH_COUNT_TRUNC_CNT n].Pairwise fun f g => f.key ≠ g.key := by
  decide

/-! ### What recording leaves -/

section
variable {s t : State} {rs : List Fld} {ps : List Part}

theorem frame_setMemBytes (l : List Nat) (a : Nat) (hp : Part.mem ∈ ps) (h : Frame s t rs ps) : Frame s (setMemBytes t a l) rs ps := by
  induction l generalizing t a with
  | nil => exact h
  | cons b r ih => exact ih (a + 1) (frame_setMemByte _ _ hp h)

theorem frame_streamBytes (base room k : Nat) (l : List Nat) (hp : Part.mem ∈ ps) (h : Frame s t rs ps) : Frame s (streamBytes t base room k l) rs ps := by
  induction l generalizing t k with
  | nil => exact h
  | cons b r ih => exact ih (k + 1) (frame_setMemByte _ _ hp h)

theorem frame_redOuts (n : Nat) (xs : List CapSample) (hp : Part.free ∈ ps) (h : Frame s t rs ps) : Frame s (redOuts t n xs).2 rs ps := by
  unfold redOuts
  refine List.foldlRecOn _ _ (motive := fun (a : List (List Nat) × State) => Frame s a.2 rs ps) h fun a ha j _ => ?_
  split
  · exact frame_free _ hp ha
  · exact ha

end

theorem frame_storeSamples (s : State) (n : Nat) (smp : List (List CapSample)) : Frame s (storeSamples s n smp) [Reg.CAP_CH_PROG_PROG n] [.mem, .caps] := by
  unfold storeSamples
  split
  · exact frame_wr _ (by simp) (frame_modCap _ _ (by simp) (frame_streamBytes _ _ _ _ (by simp) (frame_refl ..)))
  · exact frame_modCap _ _ (by simp) (frame_refl ..)

theorem cap_storeSamples_stream {s : State} {n : Nat} (smp : List (List CapSample)) (h : capSt s n = cpStreaming) :
    (storeSamples s n smp).cap n = { s.cap n with count := (s.cap n).count + smp.length } := by
  have hmem := fun base room k l => samePart_of_frame (frame_streamBytes (rs := []) base room k l (List.mem_singleton_self _) (frame_refl s _ _)) (p := .caps) (by simp)
  unfold storeSamples
  rw [if_pos h]
  refine (cap_congr (wr_caps ..) n).trans ((cap_modCap ..).trans ?_)
  rw [cap_congr (hmem ..) n]

theorem storeSamples_segment {s : State} {n : Nat} (smp : List (List CapSample)) (h : capSt s n ≠ cpStreaming) :
    storeSamples s n smp = s.modCap n fun x => { x with opn := x.opn.map fun g => { g with got := g.got ++ smp } } := if_neg h

theorem capSt_storeSamples (s : State) (n : Fin 16) (smp : List (List CapSample)) : capSt (storeSamples s n smp) n = capSt s n :=
  (frame_storeSamples s n smp).1 _ fun f hf => by
    rw [List.mem_singleton.mp hf]
    exact ((capKey_ne n).1 _ (by simp)).1

theorem closeSeg_effect (s : State) (n : Nat) (g : CapSeg) (trunc stage : Bool) :
    Frame s (closeSeg s n g trunc stage) [Reg.CAP_CH_PROG_PROG n] [.mem, .caps, .free] ∧
    (closeSeg s n g trunc stage).cap n = { s.cap n with seg := (s.cap n).seg + 1, opn := none, rearmed := false } := by
  have hro (xs : List CapSample) : Frame s (redOuts s n xs).2 [] [.mem, .free] := frame_redOuts n xs (by simp) (frame_refl ..)
  have hbytes {u : State} (c : Prop) [Decidable c] (a b : Nat) (l m : List Nat) (hu : Frame s u [] [.mem, .free]) :
      Frame s (if c then setMemBytes (setMemBytes u a l) b m else setMemBytes u a l) [] [.mem, .free] :=
    frame_ite (frame_setMemBytes _ _ (by simp) (frame_setMemBytes _ _ (by simp) hu)) (frame_setMemBytes _ _ (by simp) hu)
  have hend {u : State} (hu : Frame s u [] [.mem, .free]) :
      let t := wr (u.modCap n fun x => { x with seg := x.seg + 1, opn := none, rearmed := false }) (Reg.CAP_CH_PROG_PROG n)
        ((u.modCap n fun x => { x with seg := x.seg + 1, opn := none, rearmed := false }).cap n).seg
      Frame s t [Reg.CAP_CH_PROG_PROG n] [.mem, .caps, .free] ∧ t.cap n = { s.cap n with seg := (s.cap n).seg + 1, opn := none, rearmed := false } := by
    refine ⟨frame_wr _ (by simp) (frame_modCap _ _ (by simp) (frame_mono hu (by simp) (by simp))), (cap_congr (wr_caps ..) n).trans ((cap_modCap ..).trans ?_)⟩
    rw [cap_congr (samePart_of_frame hu (p := .caps) (by simp)) n]
  exact hend (frame_setMemBytes _ _ (by simp) (hbytes _ _ _ _ _ (hro _)))

theorem writeMark_effect (s : State) (n pos kind frac count ns sec : Nat) : Frame s (writeMark s n pos kind frac count ns sec) [] [.mem, .caps] ∧
    ∃ m, (writeMark s n pos kind frac count ns sec).cap n = { s.cap n with marks := m } := by
  unfold writeMark
  dsimp only
  split
  · refine ⟨frame_modCap _ _ (by simp) (frame_setMemBytes _ _ (by simp) (frame_refl ..)), (s.cap n).marks + 1, (cap_modCap ..).trans ?_⟩
    rw [cap_congr (samePart_of_frame (frame_setMemBytes (rs := []) _ _ (List.mem_singleton_self _) (frame_refl s _ _)) (p := .caps) (by simp)) n]
  · exact ⟨frame_refl .., (s.cap n).marks, rfl⟩

/-! ### A channel's state -/

theorem frame_setCap (s : State) (n st : Nat) : Frame s (setCap s n st) [Reg.CAP_CH_STATUS_STATE n, Reg.CAP_BW_BW_USED] [.caps] := by
  have h : Frame s (wr s (Reg.CAP_CH_STATUS_STATE n) st) [Reg.CAP_CH_STATUS_STATE n, Reg.CAP_BW_BW_USED] [.caps] := frame_wr _ (by simp) (frame_refl ..)
  unfold setCap showBw
  exact frame_ite (frame_wr _ (by simp) (frame_modCap _ _ (by simp) h)) h

theorem capSt_setCap (s : State) (n : Fin 16) {st : Nat} (h : st < 8) : capSt (setCap s n st) n = st := by
  have hw : capSt (wr s (Reg.CAP_CH_STATUS_STATE n) st) n = st := (rd_wr ..).trans (Nat.mod_eq_of_lt h)
  unfold setCap showBw
  split
  · exact (rd_wr_ne _ _ ((capKey_ne n).1 _ (by simp)).2.1).trans hw
  · exact hw

theorem cap_setCap_stopped (s : State) (n : Nat) {st : Nat} (h : st = cpIdle ∨ st = cpDone) : (setCap s n st).cap n = { s.cap n with charge := 0 } := by
  unfold setCap showBw
  rw [if_pos h]
  refine (cap_congr (wr_caps ..) n).trans ((cap_modCap ..).trans ?_)
  rw [cap_congr (wr_caps ..) n]

theorem cap_setCap_runs (s : State) (n : Nat) {st : Nat} (h : ¬(st = cpIdle ∨ st = cpDone)) : (setCap s n st).cap n = s.cap n := by
  unfold setCap
  rw [if_neg h]
  exact cap_congr (wr_caps ..) n

theorem opn_setCap (s : State) (n st : Nat) : ((setCap s n st).cap n).opn = (s.cap n).opn := by
  by_cases h : st = cpIdle ∨ st = cpDone
  · rw [cap_setCap_stopped s n h]
  · rw [cap_setCap_runs s n h]

/-! ### Stops -/

/-- A running channel's record is closed, then it goes to IDLE. -/
theorem capStopCh_runs {s : State} {n : Fin 16} (h : capRuns s n = true) : ∃ u, capStopCh s n = raise (setCap u n cpIdle) 0x2071 0 ∧
    Frame s u [Reg.CAP_CH_PROG_PROG n, Reg.CAP_CH_STATUS_STAGE n] [.mem, .caps, .free] ∧
    (capSt s n ≠ cpStreaming → (s.cap n).opn ≠ none → rd u (Reg.CAP_CH_STATUS_STAGE n) = 1 ∧ (u.cap n).opn = none ∧ (u.cap n).seg = (s.cap n).seg + 1) := by
  let s1 := match (s.cap n).opn with
    | some g => wr (closeSeg s n g false true) (Reg.CAP_CH_STATUS_STAGE n) 1
    | none => s
  have h1 : Frame s s1 [Reg.CAP_CH_PROG_PROG n, Reg.CAP_CH_STATUS_STAGE n] [.mem, .caps, .free] := by
    unfold s1
    split
    · exact frame_wr _ (by simp) (frame_mono (closeSeg_effect ..).1 (by simp) (by simp))
    · exact frame_refl ..
  have hc : (s.cap n).opn ≠ none → rd s1 (Reg.CAP_CH_STATUS_STAGE n) = 1 ∧ (s1.cap n).opn = none ∧ (s1.cap n).seg = (s.cap n).seg + 1 := by
    unfold s1
    split
    next g _ =>
      intro _
      have hcap := (cap_congr (wr_caps (closeSeg s n g false true) (Reg.CAP_CH_STATUS_STAGE n) 1) n).trans (closeSeg_effect s n g false true).2
      exact ⟨rd_wr .., congrArg CapCh.opn hcap, congrArg CapCh.seg hcap⟩
    next hnone => exact fun hn => absurd hnone hn
  by_cases hs : capSt s n = cpStreaming
  · refine ⟨wr (writeMark s1 n ((s1.cap n).count % 2 ^ 32) 4 0 0 (balNs s1) (balSec s1 % 2 ^ 32)) (Reg.CAP_CH_STATUS_STAGE n) 1, ?_, ?_, fun hn => absurd hs hn⟩
    · exact (if_pos h).trans (congrArg (fun u => raise (setCap u n cpIdle) 0x2071 0) (if_pos hs))
    · exact frame_wr _ (by simp) (frame_step h1 (frame_mono (writeMark_effect ..).1 (by simp) (by simp)))
  · exact ⟨s1, (if_pos h).trans (congrArg (fun u => raise (setCap u n cpIdle) 0x2071 0) (if_neg hs)), h1, fun _ => hc⟩

theorem capRuns_storeSamples (s : State) (n : Fin 16) (smp : List (List CapSample)) : capRuns (storeSamples s n smp) n = capRuns s n := by
  unfold capRuns
  rw [capSt_storeSamples]

theorem capStop_runs {s : State} {n : Fin 16} (smp : List (List CapSample)) (h : capRuns s n = true) : Gives (.capStop n smp) s fun t =>
    capSt t n = cpIdle ∧ (t.cap n).charge = 0 ∧ (Room s → Queued s t 0x2071 0) ∧
    (capSt s n ≠ cpStreaming → (s.cap n).opn ≠ none → rd t (Reg.CAP_CH_STATUS_STAGE n) = 1 ∧ (t.cap n).opn = none ∧ (t.cap n).seg = (s.cap n).seg + 1) := by
  obtain ⟨u, ht, hf, hc⟩ := capStopCh_runs ((capRuns_storeSamples s n smp).trans h)
  have hu := frame_trans (frame_storeSamples s n smp) (frame_trans hf (frame_setCap u n cpIdle))
  have hcap : (raise (setCap u n cpIdle) 0x2071 0).cap n = { u.cap n with charge := 0 } :=
    (cap_congr (samePart_of_frame (frame_raise_self ..) (p := .caps) (by simp)) n).trans (cap_setCap_stopped u n (.inl rfl))
  refine gives_next rfl ht ⟨?_, congrArg CapCh.charge hcap, fun hr => ?_, fun hs hn => ?_⟩
  · exact (rd_raise _ _ _ ((capKey_ne n).1 _ (by simp)).2.2).trans (capSt_setCap u n (by decide))
  · exact queued_raise 0 (samePart_of_frame hu (p := .rst) (by simp)) (samePart_of_frame hu (p := .events) (by simp)) hr (by decide)
  · have h0 := (congrArg (fun t : State => t.cap n) (storeSamples_segment smp hs)).trans (cap_modCap ..)
    obtain ⟨hg, ho, hseg⟩ := hc (by rw [capSt_storeSamples]; exact hs) (by rw [h0]; simpa using hn)
    refine ⟨?_, (congrArg CapCh.opn hcap).trans ho, (congrArg CapCh.seg hcap).trans (hseg.trans (by rw [h0]))⟩
    refine (rd_raise _ _ _ ((capKey_ne n).1 _ (by simp)).2.2).trans (((frame_setCap u n cpIdle).1 _ fun f hf => ?_).trans hg)
    have hne := (capKey_ne n).2
    simp only [List.pairwise_cons, List.mem_cons, List.not_mem_nil, or_false, forall_eq_or_imp, forall_eq] at hne hf
    obtain ⟨⟨hne, -⟩, -⟩ := hne
    rcases hf with rfl | rfl
    · exact hne.symm
    · exact ((capKey_ne n).1 _ (by simp)).2.1

/-! ### Streams and staging -/

theorem capBufferFull_ends {s : State} {n : Fin 16} (smp : List (List CapSample)) (h : capSt s n = cpStreaming) (hw : on s (Reg.CAP_CH_CTRL_WRAP n) = false) :
    Gives (.capBufferFull n smp) s fun t => capSt t n = cpDone ∧ (t.cap n).charge = 0 ∧ (t.cap n).count = (s.cap n).count + smp.length := by
  let s1 := storeSamples s n smp
  have hwrap : ∀ n : Fin 16, (Reg.CAP_CH_CTRL_WRAP n).key ≠ (Reg.CAP_CH_PROG_PROG n).key := by decide
  have hw1 : on s1 (Reg.CAP_CH_CTRL_WRAP n) = false :=
    (on_congr ((frame_storeSamples s n smp).1 _ fun f hf => by rw [List.mem_singleton.mp hf]; exact hwrap n)).trans hw
  obtain ⟨m, hm⟩ := (writeMark_effect s1 n ((s1.cap n).count % 2 ^ 32) 4 0 0 (balNs s1) (balSec s1 % 2 ^ 32)).2
  have hcap := (cap_setCap_stopped (writeMark s1 n ((s1.cap n).count % 2 ^ 32) 4 0 0 (balNs s1) (balSec s1 % 2 ^ 32)) n (st := cpDone) (.inr rfl)).trans
    (congrArg (fun x : CapCh => { x with charge := 0 }) (hm.trans (congrArg (fun x : CapCh => { x with marks := m }) (cap_storeSamples_stream smp h))))
  exact gives_next rfl (if_pos ⟨(capSt_storeSamples s n smp).trans h, by simp [show on (storeSamples s n smp) (Reg.CAP_CH_CTRL_WRAP n) = false from hw1]⟩)
    ⟨capSt_setCap _ n (by decide), congrArg CapCh.charge hcap, congrArg CapCh.count hcap⟩

/-- After a segment of `seg` recorded: DONE after the last, else REARM; nothing of the record changes. -/
theorem afterSeg_effect (s : State) (n : Fin 16) : capSt (afterSeg s n) n = (if capSegs (rd s) n ≤ (s.cap n).seg then cpDone else cpRearm) ∧
    ((afterSeg s n).cap n).opn = (s.cap n).opn ∧ Frame s (afterSeg s n) ([Reg.CAP_CH_STATUS_STATE n, Reg.CAP_BW_BW_USED] ++ eventRegs) [.caps, .events] := by
  unfold afterSeg
  split
  · refine ⟨(rd_raise _ _ _ ((capKey_ne n).1 _ (by simp)).2.2).trans (capSt_setCap s n (by decide)), ?_,
      frame_raise _ _ (List.subset_append_right ..) (by simp) (frame_mono (frame_setCap ..) (by simp) (by simp))⟩
    exact (congrArg CapCh.opn (cap_congr (samePart_of_frame (frame_raise_self ..) (p := .caps) (by simp)) n)).trans (opn_setCap ..)
  · exact ⟨capSt_setCap s n (by decide), opn_setCap .., frame_mono (frame_setCap ..) (by simp) (by simp)⟩

theorem capTrunc_closes {s : State} {n : Fin 16} (lost : Word) (smp : List (List CapSample)) (h : capSt s n ≠ cpStreaming) (hn : (s.cap n).opn ≠ none) :
    Gives (.capTrunc n lost smp) s fun t => rd t (Reg.CAP_CH_STATUS_TRUNC n) = 1 ∧ (t.cap n).opn = none ∧
      rd t (Reg.CAP_CH_COUNT_TRUNC_CNT n) = min (rd s (Reg.CAP_CH_COUNT_TRUNC_CNT n) + 1) 65535 ∧
      capSt t n = (if capSegs (rd s) n ≤ (s.cap n).seg + 1 then cpDone else cpRearm) := by
  have hkey : ∀ n : Fin 16, (∀ f ∈ [Reg.CAP_CH_PROG_PROG n, Reg.CAP_CH_STATUS_TRUNC n, Reg.CAP_CH_COUNT_TRUNC_CNT n] ++ eventRegs, (Reg.CAP_CH_SEGS_SEGS n).key ≠ f.key) ∧
      (Reg.CAP_CH_STATUS_TRUNC n).key ≠ (Reg.CAP_CH_COUNT_TRUNC_CNT n).key ∧
      ∀ f ∈ [Reg.CAP_CH_STATUS_STATE n, Reg.CAP_BW_BW_USED] ++ eventRegs, (Reg.CAP_CH_STATUS_TRUNC n).key ≠ f.key ∧ (Reg.CAP_CH_COUNT_TRUNC_CNT n).key ≠ f.key := by decide
  obtain ⟨hsegs, hne, hlast⟩ := hkey n
  obtain ⟨g0, hg0⟩ := Option.ne_none_iff_exists'.mp hn
  let s1 := storeSamples s n smp
  have h1 : s1.cap n = _ := (congrArg (fun t : State => t.cap n) (storeSamples_segment smp h)).trans (cap_modCap ..)
  obtain ⟨g, hg⟩ : ∃ g, (s1.cap n).opn = some g := ⟨_, (congrArg CapCh.opn h1).trans (congrArg (Option.map _) hg0)⟩
  obtain ⟨hc, hcap⟩ := closeSeg_effect s1 n g true false
  let c := closeSeg s1 n g true false
  let s2 := bump (wr c (Reg.CAP_CH_STATUS_TRUNC n) 1) (Reg.CAP_CH_COUNT_TRUNC_CNT n) 1
  let s3 := raise s2 0x2070 0
  have hsc : Frame s c [Reg.CAP_CH_PROG_PROG n] [.mem, .caps, .free] := frame_mono (frame_trans (frame_storeSamples s n smp) hc) (by simp) (by simp)
  have hs3 : Frame s s3 ([Reg.CAP_CH_PROG_PROG n, Reg.CAP_CH_STATUS_TRUNC n, Reg.CAP_CH_COUNT_TRUNC_CNT n] ++ eventRegs) [.mem, .caps, .free, .events] :=
    frame_raise _ _ (List.subset_append_right ..) (by simp) (frame_bump 1 (by simp) (frame_wr 1 (by simp) (frame_mono hsc (by simp) (by simp))))
  have hc3 : s3.cap n = { s1.cap n with seg := (s1.cap n).seg + 1, opn := none, rearmed := false } :=
    (cap_congr (samePart_of_frame (frame_raise_self ..) (p := .caps) (by simp)) n).trans ((cap_congr ((wr_caps ..).trans (wr_caps ..)) n).trans hcap)
  have htr : rd s3 (Reg.CAP_CH_STATUS_TRUNC n) = 1 :=
    (rd_raise _ _ _ ((capKey_ne n).1 _ (by simp)).2.2).trans ((rd_bump_ne _ 1 hne).trans (rd_wr c _ _))
  have hcn : rd s3 (Reg.CAP_CH_COUNT_TRUNC_CNT n) = min (rd s (Reg.CAP_CH_COUNT_TRUNC_CNT n) + 1) 65535 := by
    refine (rd_raise _ _ _ ((capKey_ne n).1 _ (by simp)).2.2).trans ((rd_bump ..).trans ?_)
    rw [rd_wr_ne c 1 hne.symm, hsc.1 _ fun f hf => by rw [List.mem_singleton.mp hf]; exact ((capKey_ne n).1 _ (by simp)).1]
    rfl
  have hsg : capSegs (rd s3) n = capSegs (rd s) n := by
    unfold capSegs
    rw [hs3.1 _ hsegs]
  obtain ⟨hst, ho, hf⟩ := afterSeg_effect s3 n
  refine gives_next (t := afterSeg s3 n) rfl (by dsimp only; rw [show (storeSamples s n smp).cap n = s1.cap n from rfl, hg]) ⟨?_, ?_, ?_, ?_⟩
  · exact (hf.1 _ fun f hf => (hlast f hf).1).trans htr
  · exact ho.trans (congrArg CapCh.opn hc3)
  · exact (hf.1 _ fun f hf => (hlast f hf).2).trans hcn
  · rw [hst, hsg, hc3, h1]

/-! ### Skew -/

theorem rd_skews (s : State) (sk : List (BitVec 16)) {l : List Nat} {k : Nat} (hk : k ∈ l) :
    rd (forEach l s fun s n => wr s (Reg.CAP_CH_SKEW_SKEW n) (sk.getD n 0).toNat) (Reg.CAP_CH_SKEW_SKEW k) = (sk.getD k 0).toNat := by
  have hset (u : State) (a : Nat) : rd (wr u (Reg.CAP_CH_SKEW_SKEW a) (sk.getD a 0).toNat) (Reg.CAP_CH_SKEW_SKEW a) = (sk.getD a 0).toNat :=
    (rd_wr ..).trans (Nat.mod_eq_of_lt (sk.getD a 0).isLt)
  refine forEach_of_mem (k := k) (P := fun t => rd t (Reg.CAP_CH_SKEW_SKEW k) = (sk.getD k 0).toNat) (hset · k) (fun u a hu => ?_) s (.inl hk)
  by_cases hka : k = a
  · rw [← hka]
    exact hset u k
  · refine (rd_wr_ne u _ ?_).trans hu
    simp only [Fld.key, Reg.CAP_CH_SKEW_SKEW]
    omega

theorem skewDone_of {s : State} (sk : List (BitVec 16)) (h : on s Reg.CAP_CTRL_SKEW_BUSY = true) : Gives (.skewDone sk) s fun t =>
    rd t Reg.CAP_CTRL_SKEW_BUSY = 0 ∧ rd t Reg.CAP_CTRL_SKEW_OK = 1 ∧ (∀ k < 16, rd t (Reg.CAP_CH_SKEW_SKEW k) = (sk.getD k 0).toNat) ∧
    Frame s t ([Reg.CAP_CTRL_SKEW_BUSY, Reg.CAP_CTRL_SKEW_OK] ++ (List.range 16).map Reg.CAP_CH_SKEW_SKEW) [] := by
  have hkey : ∀ k < 16, (Reg.CAP_CH_SKEW_SKEW k).key ≠ Reg.CAP_CTRL_SKEW_BUSY.key ∧ (Reg.CAP_CH_SKEW_SKEW k).key ≠ Reg.CAP_CTRL_SKEW_OK.key := by decide
  let s1 := forEach (List.range 16) s fun s n => wr s (Reg.CAP_CH_SKEW_SKEW n) (sk.getD n 0).toNat
  refine gives_next (t := wr (wr s1 Reg.CAP_CTRL_SKEW_BUSY 0) Reg.CAP_CTRL_SKEW_OK 1) rfl (if_pos h)
    ⟨(rd_wr_ne _ _ (by decide)).trans (rd_wr ..), rd_wr .., fun k hk => ?_, ?_⟩
  · refine (rd_wr_ne _ _ (hkey k hk).2).trans ((rd_wr_ne _ _ (hkey k hk).1).trans ?_)
    exact rd_skews s sk (List.mem_range.mpr hk)
  · refine frame_wr _ (by simp) (frame_wr _ (by simp) (frame_forEach (frame_refl ..) fun u a ha hu => frame_wr _ ?_ hu))
    exact List.mem_append_right _ (List.mem_map_of_mem ha)

/-- Settles O49. -/
theorem captureStopsAndSkew : Obligations.CaptureStopsAndSkew := by
  intro s n lost smp sk
  refine ⟨capStop_runs smp, fun h => ?_, capBufferFull_ends smp, fun h => ?_, capTrunc_closes lost smp, fun h => ?_, fun hi hd => ?_, skewDone_of sk, fun h => ?_,
    within_of_mask (keepsO_execCapStop (w₀ := 8456200) (keeps_refl _ s) rfl) (by decide), within_of_mask (keepsO_execCapBufferFull (w₀ := 67584) (keeps_refl _ s) rfl) (by decide),
    within_of_mask (keepsO_execCapTrunc (w₀ := 8456200) (keeps_refl _ s) rfl) (by decide)⟩
  · have hs : capSt s n ≠ cpStreaming := fun hc => by simp [capRuns, hc, cpStreaming] at h
    refine gives_next rfl (if_neg (by simp [(capRuns_storeSamples s n smp).trans h])) ?_
    rw [storeSamples_segment smp hs]
    exact frame_modCap _ _ (by simp) (frame_refl ..)
  · refine gives_next rfl (if_neg (by simp [capSt_storeSamples, h])) ?_
    rw [storeSamples_segment smp h]
    exact frame_modCap _ _ (by simp) (frame_refl ..)
  · exact gives_next rfl (if_pos h) ⟨rd_wr .., frame_wr _ (by simp) (frame_refl ..)⟩
  · exact congrArg Host.Outcome.next (if_neg (by simp [hi, hd]))
  · exact congrArg Host.Outcome.next (if_neg (by simp [h]))

/-! Control of a DMA channel (R309, R311, R313). -/

/-! ### A commit without failing pairs -/

/-- With nothing changed the active copies of the group are its shadow copies already. -/
theorem rd_of_unchanged {s : State} {g : Group} {f : Fld} (hf : f.cls = .H) (h : shadowChanged s g = false)
    (hin : g.ranges.any (fun r => decide (r.1 ≤ f.key) && decide (f.key < r.2)) = true) : rd s f = rdSh s f := by
  obtain ⟨r, hr, hk⟩ := List.any_eq_true.mp hin
  have hk' : r.1 ≤ f.key ∧ f.key < r.2 := by simpa using hk
  have he : s.hact.range r.1 r.2 = s.hsh.range r.1 r.2 := by
    have := List.any_eq_false.mp h r hr
    simpa using this
  rw [rd_of_H hf, ← get_range s.hact f.reset hk', he, get_range s.hsh f.reset hk']
  rfl

theorem rd_commitGroup_pass {s : State} {g : Group} {f : Fld} (hf : f.cls = .H)
    (hin : g.ranges.any (fun r => decide (r.1 ≤ f.key) && decide (f.key < r.2)) = true) : rd (commitGroup s g []).1 f = rdSh s f := by
  cases h : shadowChanged s g
  · rw [commitGroup_of_unchanged [] h]
    exact rd_of_unchanged hf h hin
  · rw [commitGroup_of_pass (.inl h)]
    exact (rd_copyShadow _ _ hf).trans (if_pos hin)

theorem commitGroup_pass_act (s : State) (g : Group) : (commitGroup s g []).1.act = s.act := by
  cases h : shadowChanged s g
  · rw [commitGroup_of_unchanged [] h]
  · rw [commitGroup_of_pass (.inl h)]
    exact copyShadow_act ..

/-- The registers that a refused commit or write shows. -/
def cfgRegs : List Fld :=
  [Reg.CFG_ERR_ADDR_ADDR, Reg.CFG_STATUS_ERR_KIND, Reg.CFG_STATUS_ERR_OVF, Reg.CFG_STATUS_CFG_PAIR_ERR, Reg.CFG_STATUS_CFG_IGNORED] ++ eventRegs

theorem frame_refuseCommit {s t : State} {rs : List Fld} {ps : List Part} (g : Group) (fails : List Nat) (hr : cfgRegs ⊆ rs) (hs : Part.silent ∈ ps) (he : Part.events ∈ ps)
    (h : Frame s t rs ps) : Frame s (refuseCommit t g fails) rs ps := by
  unfold refuseCommit
  split
  · exact h
  · exact frame_cfgError true _ (fun f hf => hr (List.mem_append_left _ hf)) (fun f hf => hr (List.mem_append_right _ hf)) he (frame_silent _ hs h)

theorem rd_frame_one {s t : State} {f g : Fld} {ps : List Part} (h : Frame s t [f] ps) (hne : g.key ≠ f.key) : rd t g = rd s g :=
  h.1 g (List.forall_mem_singleton.mpr hne)

theorem rd_frame_two {s t : State} {f f' g : Fld} {ps : List Part} (h : Frame s t [f, f'] ps) (hne : g.key ≠ f.key) (hne' : g.key ≠ f'.key) : rd t g = rd s g :=
  h.1 g (List.forall_mem_cons.mpr ⟨hne, List.forall_mem_singleton.mpr hne'⟩)

/-! ### START -/

/-- What a channel shows lies apart from the events' registers and those of a refused commit. -/
theorem dmaKey_ne_cfg : ∀ n : Fin 16, ∀ f ∈ [Reg.DMA_CH_STATUS_STATE n, Reg.DMA_CH_STATUS_ERR n, Reg.DMA_CH_STATUS_REFUSED n, Reg.DMA_CH_ERR_LO_ERR_LO n],
    ∀ e ∈ cfgRegs, f.key ≠ e.key := by
  decide

theorem dmaKey_ne_event (n : Fin 16) {f : Fld} (hf : f ∈ [Reg.DMA_CH_STATUS_STATE n, Reg.DMA_CH_STATUS_ERR n, Reg.DMA_CH_STATUS_REFUSED n, Reg.DMA_CH_ERR_LO_ERR_LO n]) :
    ∀ e ∈ eventFields, f.key ≠ e.key :=
  fun e he => dmaKey_ne_cfg n f hf e ((by decide : eventFields ⊆ cfgRegs) he)

theorem dmaSt_enterRun (s : State) (n : Nat) : dmaSt (enterRun s n) n = dRun := rd_wr s (Reg.DMA_CH_STATUS_STATE n) dRun

theorem dma_enterRun (s : State) (n : Nat) : (enterRun s n).dma n = { s.dma n with pausing := on s (Reg.DMA_CH_CTRL_PAUSE n) } := by
  refine (dma_modDma ..).trans ?_
  rw [show (setDma s n dRun).dma n = s.dma n from dma_congr (wr_dmas ..) n]

theorem frame_enterRun (s : State) (n : Nat) : Frame s (enterRun s n) [Reg.DMA_CH_STATUS_STATE n] [.dmas] :=
  frame_modDma _ _ (by simp) (frame_wr _ (by simp) (frame_refl ..))

theorem frame_setCur (s : State) (n a : Nat) : Frame s (setCur s n a) [Reg.DMA_CH_CUR_LO_CUR_LO n, Reg.DMA_CH_CUR_HI_CUR_HI n] [] :=
  frame_wr _ (by simp) (frame_wr _ (by simp) (frame_refl ..))

theorem rd_curLo_setCur (s : State) (n a : Nat) : rd (setCur s n a) (Reg.DMA_CH_CUR_LO_CUR_LO n) = a % 2 ^ 32 :=
  (rd_wr_ne _ _ (key_ne (by decide))).trans (rd_wr ..)

/-- The ring's registers lie in the channel's group. -/
theorem dmaGroup_mem {n i w x k : Nat} {p : Acc} (hk : k < 2) (hi : i < 32) :
    (dmaGroup n).ranges.any (fun r => decide (r.1 ≤ Fld.key ⟨0x61008 + 0x4 * k + 0x40 * n, i, w, p, .H, x⟩) &&
      decide (Fld.key ⟨0x61008 + 0x4 * k + 0x40 * n, i, w, p, .H, x⟩ < r.2)) = true := by
  refine List.any_eq_true.mpr ⟨_, List.mem_singleton_self _, (Bool.and_eq_true ..).mpr ⟨decide_eq_true ?_, decide_eq_true ?_⟩⟩
  · simp only [regsAt, Fld.key]
    omega
  · simp only [regsAt, Fld.key]
    omega

/-- A START's commit and counters: the ring's shadow copies are in force, and nothing has been counted. -/
theorem dmaStart_begun (s : State) (n : Nat) :
    let t := wr (wr (wr (commitGroup s (dmaGroup n) []).1 (Reg.DMA_CH_COUNT_COUNT n) 0) (Reg.DMA_CH_DONE_DONE n) 0) (Reg.DMA_CH_STATUS_ERR n) 0
    rd t (Reg.DMA_CH_COUNT_COUNT n) = 0 ∧ rd t (Reg.DMA_CH_DONE_DONE n) = 0 ∧ rd t (Reg.DMA_CH_STATUS_ERR n) = 0 ∧
    (∀ f : Fld, f.cls = .H → (dmaGroup n).ranges.any (fun r => decide (r.1 ≤ f.key) && decide (f.key < r.2)) = true → rd t f = rdSh s f) ∧
    rd t (Reg.DMA_CH_CUR_LO_CUR_LO n) = rd s (Reg.DMA_CH_CUR_LO_CUR_LO n) := by
  refine ⟨?_, (rd_wr_ne _ _ (key_ne (by decide))).trans (rd_wr ..), rd_wr .., fun f hf hin => ?_, ?_⟩
  · exact (rd_wr_ne _ _ (key_ne (by decide))).trans ((rd_wr_ne _ _ (key_ne (by decide))).trans (rd_wr ..))
  · refine (rd_H_congr hf ?_).trans (rd_commitGroup_pass hf hin)
    exact (wr_hact_of_L _ 0 fun h => Cls.noConfusion h).trans ((wr_hact_of_L _ 0 fun h => Cls.noConfusion h).trans (wr_hact_of_L _ 0 fun h => Cls.noConfusion h))
  · exact (rd_wr_ne _ _ (key_ne (by decide))).trans ((rd_wr_ne _ _ (key_ne (by decide))).trans ((rd_wr_ne _ _ (key_ne (by decide))).trans
      (rd_of_L rfl (commitGroup_pass_act ..))))

theorem dmaStart_runs {s : State} {n : Fin 16} (fromCur : Bool) (h : dmaSt s n = dIdle ∨ dmaSt s n = dHalted) (hr : ringOk (rdSh s) n = true) :
    Gives (.dmaStart n fromCur) s fun t => dmaSt t n = dRun ∧ (t.dma n).reading = true ∧ (t.dma n).posted = 0 ∧
      rd t (Reg.DMA_CH_COUNT_COUNT n) = 0 ∧ rd t (Reg.DMA_CH_DONE_DONE n) = 0 ∧ rd t (Reg.DMA_CH_STATUS_ERR n) = 0 ∧
      rd t (Reg.DMA_CH_RING_LO_BASE_LO n) = rdSh s (Reg.DMA_CH_RING_LO_BASE_LO n) ∧
      rd t (Reg.DMA_CH_CUR_LO_CUR_LO n) = (if fromCur then rd s (Reg.DMA_CH_CUR_LO_CUR_LO n) else ringBase (rdSh s) n % 2 ^ 32) := by
  obtain ⟨hc, hd, he, hsh, hcur⟩ := dmaStart_begun s n
  generalize ht : wr (wr (wr (commitGroup s (dmaGroup n) []).1 (Reg.DMA_CH_COUNT_COUNT n) 0) (Reg.DMA_CH_DONE_DONE n) 0) (Reg.DMA_CH_STATUS_ERR n) 0 = u at hc hd he hsh hcur
  let v := if fromCur then u else setCur u n (ringBase (rd u) n)
  have hv : Frame u v [Reg.DMA_CH_CUR_LO_CUR_LO n, Reg.DMA_CH_CUR_HI_CUR_HI n] [] := frame_ite (frame_refl ..) (frame_setCur ..)
  have hbase : ringBase (rd u) n = ringBase (rdSh s) n := by
    unfold ringBase
    rw [hsh (Reg.DMA_CH_RING_LO_BASE_LO n) rfl (dmaGroup_mem (k := 0) (by decide) (by decide)),
      hsh (Reg.DMA_CH_RING_HI_BASE_HI n) rfl (dmaGroup_mem (k := 1) (by decide) (by decide))]
  have hvcur : rd v (Reg.DMA_CH_CUR_LO_CUR_LO n) = if fromCur then rd s (Reg.DMA_CH_CUR_LO_CUR_LO n) else ringBase (rdSh s) n % 2 ^ 32 := by
    unfold v
    split
    · exact hcur
    · exact (rd_curLo_setCur ..).trans (by rw [hbase])
  let t := enterRun (v.modDma n fun _ => { reading := true }) n
  have hf : Frame v t [Reg.DMA_CH_STATUS_STATE n] [.dmas] := frame_step (frame_modDma _ _ (List.mem_singleton_self _) (frame_refl ..)) (frame_enterRun ..)
  have hdma : (v.modDma n fun _ => { reading := true }).dma n = { reading := true } := dma_modDma ..
  refine gives_next (t := t) rfl ((if_pos h).trans ((if_pos hr).trans (by dsimp only; rw [ht]))) ⟨dmaSt_enterRun .., 
    (congrArg DmaCh.reading (dma_enterRun ..)).trans (congrArg DmaCh.reading hdma), (congrArg DmaCh.posted (dma_enterRun ..)).trans (congrArg DmaCh.posted hdma), ?_, ?_, ?_, ?_, ?_⟩
  · exact (rd_frame_one hf (key_ne (by decide))).trans ((rd_frame_two hv (key_ne (by decide)) (key_ne (by decide))).trans hc)
  · exact (rd_frame_one hf (key_ne (by decide))).trans ((rd_frame_two hv (key_ne (by decide)) (key_ne (by decide))).trans hd)
  · exact (rd_frame_one hf (key_ne (by decide))).trans ((rd_frame_two hv (key_ne (by decide)) (key_ne (by decide))).trans he)
  · exact (rd_frame_one hf (key_ne (by decide))).trans ((rd_frame_two hv (key_ne (by decide)) (key_ne (by decide))).trans
      (hsh (Reg.DMA_CH_RING_LO_BASE_LO n) rfl (dmaGroup_mem (k := 0) (by decide) (by decide))))
  · exact (rd_frame_one hf (key_ne (by decide))).trans hvcur

theorem dmaStart_refused {s : State} {n : Fin 16} (fromCur : Bool) (h : dmaSt s n = dIdle ∨ dmaSt s n = dHalted) (hr : ringOk (rdSh s) n = false) :
    Gives (.dmaStart n fromCur) s fun t => rd t (Reg.DMA_CH_STATUS_REFUSED n) = 1 ∧ dmaSt t n = dmaSt s n ∧ t.dmas = s.dmas ∧
      ∀ f : Fld, f.cls = .H → rd t f = rd s f := by
  let a := wr s (Reg.DMA_CH_STATUS_REFUSED n) 1
  have hf : Frame a (refuseCommit a (dmaGroup n) [(Reg.DMA_CH_RING_LO_BASE_LO n).off]) cfgRegs [.silent, .events] :=
    frame_refuseCommit _ _ (List.Subset.refl _) (by simp) (by simp) (frame_refl ..)
  refine gives_next rfl ((if_pos h).trans (if_neg (by simp [hr]))) ⟨(hf.1 _ (dmaKey_ne_cfg n _ (by simp))).trans (rd_wr s _ _), ?_,
    (samePart_of_frame hf (p := .dmas) (by simp)).trans (wr_dmas ..), fun f hc => ?_⟩
  · exact (hf.1 _ (dmaKey_ne_cfg n _ (by simp))).trans (rd_wr_ne s _ (key_ne (by decide)))
  · exact rd_H_congr hc ((refuseCommit_hact ..).trans (wr_hact_of_L _ 1 fun h => Cls.noConfusion h))

/-! ### PAUSE, ABORT and doorbells -/

theorem dmaPause_runs {s : State} {n : Fin 16} (v : Bool) (h : dmaSt s n = dRun) : Gives (.dmaPause n v) s fun t =>
    rd t (Reg.DMA_CH_CTRL_PAUSE n) = b2n v ∧ dmaSt t n = dRun ∧ (t.dma n) = { s.dma n with pausing := v || (s.dma n).lost } ∧
    Frame s t [Reg.DMA_CH_CTRL_PAUSE n] [.dmas] := by
  refine gives_next rfl (if_pos h) ⟨(rd_wr s (Reg.DMA_CH_CTRL_PAUSE n) _).trans ?_, (rd_wr_ne s _ (key_ne (by decide))).trans h, (dma_modDma ..).trans ?_,
    frame_modDma _ _ (by simp) (frame_wr _ (by simp) (frame_refl ..))⟩
  · cases v <;> rfl
  · rw [dma_congr (wr_dmas ..)]

theorem dmaPause_resumes {s : State} {n : Fin 16} (h : dmaSt s n = dPaused) (hl : (s.dma n).lost = false) : Gives (.dmaPause n false) s fun t =>
    dmaSt t n = dRun ∧ (t.dma n).pausing = false ∧ Frame s t [Reg.DMA_CH_CTRL_PAUSE n, Reg.DMA_CH_STATUS_STATE n] [.dmas] := by
  have hp : on (wr s (Reg.DMA_CH_CTRL_PAUSE n) (b2n false)) (Reg.DMA_CH_CTRL_PAUSE n) = false := by
    unfold on
    rw [rd_wr]
    rfl
  refine gives_next rfl ((if_neg (by rw [h]; decide)).trans (if_pos ⟨h, by simp [hl]⟩)) ⟨dmaSt_enterRun .., (congrArg DmaCh.pausing (dma_enterRun ..)).trans hp, ?_⟩
  exact frame_step (frame_wr _ (by simp) (frame_refl ..)) (frame_mono (frame_enterRun ..) (by simp) (by simp))

theorem dmaAbort_idle {s : State} {n : Fin 16} (h : dmaSt s n ≠ dIdle) : Gives (.dmaAbort n) s fun t =>
    dmaSt t n = dIdle ∧ (t.dma n) = { posted := (s.dma n).posted } ∧ Frame s t [Reg.DMA_CH_STATUS_STATE n] [.dmas] :=
  gives_next rfl (if_neg h) ⟨rd_wr (s.modDma n fun x => { posted := x.posted }) (Reg.DMA_CH_STATUS_STATE n) dIdle,
    (dma_congr (wr_dmas ..) n).trans (dma_modDma ..), frame_wr _ (by simp) (frame_modDma _ _ (by simp) (frame_refl ..))⟩

theorem doorbell_acts {s : State} {n : Fin 16} (h : dmaSt s n = dWait ∨ dmaSt s n = dRun) : exec (.doorbell n) s = .next (s.modDma n fun x =>
    if x.reading then { x with again := true } else if dmaSt s n = dWait then { x with reading := true } else x) :=
  congrArg Host.Outcome.next (if_pos h)

/-! ### Halts -/

/-- The error latched, nothing of the channel kept but its posted position. -/
theorem dmaHalt_effect (s : State) (n : Fin 16) {err : Nat} (he : err < 16) : let t := dmaHalt s n err
    dmaSt t n = dHalted ∧ rd t (Reg.DMA_CH_STATUS_ERR n) = err ∧ (t.dma n) = { posted := (s.dma n).posted } ∧
    rd t (Reg.DMA_CH_ERR_LO_ERR_LO n) = dmaCur s n % 2 ^ 32 ∧ (Room s → Queued s t 0x0031 (n + 256 * err)) ∧
    Frame s t ([Reg.DMA_CH_STATUS_STATE n, Reg.DMA_CH_STATUS_ERR n, Reg.DMA_CH_ERR_LO_ERR_LO n, Reg.DMA_CH_ERR_HI_ERR_HI n] ++ eventRegs) [.dmas, .events] := by
  let a := wr s (Reg.DMA_CH_STATUS_ERR n) err
  let b := wr a (Reg.DMA_CH_ERR_LO_ERR_LO n) (dmaCur s n)
  let c := wr b (Reg.DMA_CH_ERR_HI_ERR_HI n) (dmaCur s n / 2 ^ 32)
  let u := setDma (c.modDma n fun x => { posted := x.posted }) n dHalted
  have hu : Frame s u [Reg.DMA_CH_STATUS_STATE n, Reg.DMA_CH_STATUS_ERR n, Reg.DMA_CH_ERR_LO_ERR_LO n, Reg.DMA_CH_ERR_HI_ERR_HI n] [.dmas] :=
    frame_wr _ (by simp) (frame_modDma _ _ (by simp) (frame_wr _ (by simp) (frame_wr _ (by simp) (frame_wr _ (by simp) (frame_refl ..)))))
  have hdma : u.dma n = { posted := (s.dma n).posted } := by
    refine (dma_congr (wr_dmas ..) n).trans ((dma_modDma ..).trans ?_)
    rw [show c.dma n = s.dma n from dma_congr ((wr_dmas ..).trans ((wr_dmas ..).trans (wr_dmas ..))) n]
  refine ⟨(rd_raise _ _ _ (dmaKey_ne_event n (by simp))).trans (rd_wr (c.modDma n _) (Reg.DMA_CH_STATUS_STATE n) dHalted), ?_,
    (dma_congr (samePart_of_frame (frame_raise_self ..) (p := .dmas) (by simp)) n).trans hdma, ?_, fun hr => ?_,
    frame_raise _ _ (List.subset_append_right ..) (by simp) (frame_mono hu (List.subset_append_left ..) (by simp))⟩
  · refine (rd_raise _ _ _ (dmaKey_ne_event n (by simp))).trans ((rd_wr_ne (c.modDma n _) _ (key_ne (by decide))).trans ?_)
    exact (rd_wr_ne b _ (key_ne (by decide))).trans ((rd_wr_ne a _ (key_ne (by decide))).trans ((rd_wr s (Reg.DMA_CH_STATUS_ERR n) err).trans (Nat.mod_eq_of_lt he)))
  · refine (rd_raise _ _ _ (dmaKey_ne_event n (by simp))).trans ((rd_wr_ne (c.modDma n _) _ (key_ne (by decide))).trans ?_)
    exact (rd_wr_ne b _ (key_ne (by decide))).trans (rd_wr a (Reg.DMA_CH_ERR_LO_ERR_LO n) _)
  · exact queued_raise _ (samePart_of_frame hu (p := .rst) (by simp)) (samePart_of_frame hu (p := .events) (by simp)) hr (by decide)

/-! ### Drains and timeouts without a descriptor -/

theorem dmaDrained_empty {s : State} {n : Fin 16} (bytes : BitVec 15) (h : dmaSt s n = dRun) (hp : (s.dma n).pausing = true) (hd : (s.dma n).desc = none) :
    Gives (.dmaDrained n bytes) s fun t => dmaSt t n = dPaused ∧ (t.dma n) = { s.dma n with pausing := false } ∧ Frame s t [Reg.DMA_CH_STATUS_STATE n] [.dmas] := by
  have hdr : dmaDrain s n bytes.toNat = s := by
    unfold dmaDrain
    rw [hd]
  refine gives_next (t := setDma (s.modDma n fun x => { x with pausing := false }) n dPaused) rfl
    ((if_pos ⟨h, hp⟩).trans (by dsimp only; rw [hdr]; exact if_pos h))
    ⟨rd_wr (s.modDma n _) (Reg.DMA_CH_STATUS_STATE n) dPaused, (dma_congr (wr_dmas ..) n).trans (dma_modDma ..),
      frame_wr _ (by simp) (frame_modDma _ _ (by simp) (frame_refl ..))⟩

/-- Settles O50. -/
theorem dmaChannelControl : Obligations.DmaChannelControl := by
  intro s n fromCur v bytes moved
  refine ⟨fun hi hh => ?_, fun h => ⟨dmaStart_refused fromCur h, dmaStart_runs fromCur h⟩, dmaPause_runs v, dmaPause_resumes, fun h => congrArg Host.Outcome.next (if_pos h),
    dmaAbort_idle, fun hw hr => congrArg Host.Outcome.next (if_neg (by simp [hw, hr])), fun h hr => ?_, fun h hr => ?_, fun h => ?_, fun hr hp => ?_, fun h hd => ?_,
    fun h => congrArg Host.Outcome.next (if_neg h), dmaDrained_empty bytes, fun h => ?_,
    within_of_mask (keepsO_execDmaBusTimeout (w₀ := 66580477) (keeps_refl _ s) rfl) (by decide),
    within_of_mask (keepsO_execDmaDrained (w₀ := 66580477) (keeps_refl _ s) rfl) (by decide)⟩
  · exact gives_next rfl (if_neg (by simp [hi, hh])) ⟨rd_wr .., frame_wr _ (by simp) (frame_refl ..)⟩
  · exact gives_next (doorbell_acts h) rfl ⟨(dma_modDma ..).trans (if_pos hr), frame_modDma _ _ (by simp) (frame_refl ..)⟩
  · exact gives_next (doorbell_acts (.inl h)) rfl ⟨(dma_modDma ..).trans ((if_neg (by simp [hr])).trans (if_pos h)), frame_modDma _ _ (by simp) (frame_refl ..)⟩
  · exact gives_next rfl (if_pos h) (dmaHalt_effect s n (by decide))
  · exact congrArg Host.Outcome.next (if_neg (by simp [hr, hp]))
  · exact gives_next (t := dmaHalt s n 3) rfl ((if_pos h).trans (by rw [hd]; exact if_pos h)) (dmaHalt_effect s n (by decide))
  · exact congrArg Host.Outcome.next (if_neg fun hc => h.elim (fun h => h hc.1) (fun h => by simp [h] at hc))

/-! DMA descriptors and their data (R307 to R315). -/

/-! ### The memory die ready -/

/-- The die's domain is on and has not failed. -/
def DieReady (s : State) : Prop := domState s 2 = domOn ∧ domFailed s 2 = false

theorem rd_setMemWord (s : State) (a v : Nat) (f : Fld) : rd (setMemWord s a v) f = rd s f :=
  (frame_setMemWord (rs := []) a v (List.mem_singleton_self _) (frame_refl s _ _)).1 f (by simp)

theorem dieReady_setMemWord {s : State} (a v : Nat) (h : DieReady s) : DieReady (setMemWord s a v) :=
  ⟨(rd_setMemWord ..).trans h.1, (on_congr (rd_setMemWord ..)).trans h.2⟩

theorem memWord_setMemWord_out (s : State) {a k : Nat} (v : Nat) (h : k + 4 ≤ a ∨ a + 4 ≤ k) : memWord (setMemWord s a v) k = memWord s k := by
  unfold memWord
  rw [memByte_setMemWord_out s v (by omega), memByte_setMemWord_out s v (by omega), memByte_setMemWord_out s v (by omega), memByte_setMemWord_out s v (by omega)]

theorem memWord_of_bytes {s t : State} {a : Nat} (h : ∀ i < 4, memByte t (a + i) = memByte s (a + i)) : memWord t a = memWord s a := by
  unfold memWord
  rw [← h 1 (by decide), ← h 2 (by decide), ← h 3 (by decide), show memByte s a = memByte t a from (h 0 (by decide)).symm]

theorem dieWritable_user {a : Nat} (h : userArea ≤ a) (h' : a + 4 ≤ dieEnd) : dieWritable a = true :=
  dieWritable_iff.mpr ⟨(by decide : 0x40000000 ≤ userArea).trans h, by omega⟩

theorem busRead_user {s : State} {a : Nat} (h : DieReady s) (hl : userArea ≤ a) (hh : a + 4 ≤ dieEnd) : busRead s a = (0, memWord s a, s) :=
  busRead_die (dieWritable_user hl hh) hh h.1 h.2

theorem busWrite_user {s : State} {a : Nat} (v : Nat) (h : DieReady s) (hl : userArea ≤ a) (hh : a + 4 ≤ dieEnd) :
    busWrite s .dma a v = (0, setMemWord s a v) :=
  busWrite_die v (dieWritable_user hl hh) hh h.1 h.2

/-! ### Reading a descriptor -/

theorem dmaWords_user {s : State} (k : Nat) {a : Nat} (acc : List Nat) (h : DieReady s) (hl : userArea ≤ a) (hh : a + 4 * k ≤ dieEnd) :
    dmaWords s a k acc = (some (acc ++ (List.range k).map fun j => memWord s (a + 4 * j)), s) := by
  induction k generalizing a acc with
  | zero => simp [dmaWords]
  | succ k ih =>
    unfold dmaWords
    rw [busRead_user h hl (by omega)]
    refine (if_neg (by simp)).trans ((ih _ (by omega) (by omega)).trans ?_)
    rw [List.range_succ_eq_map]
    simp [Function.comp_def, Nat.mul_add, Nat.add_assoc, Nat.add_comm 4]

/-- The eight words of the descriptor at CUR. -/
def descWords (s : State) (n : Nat) : List Nat := (List.range 8).map fun k => memWord s (dmaCur s n + 4 * k)

theorem descFetch_reads {s : State} {n : Fin 16} (h : DieReady s) (hl : userArea ≤ dmaCur s n) (hh : dmaCur s n + 32 ≤ dieEnd) (hr : (s.dma n).reading = true)
    (hp : (s.dma n).pausing = false) (hst : dmaSt s n = dRun ∨ dmaSt s n = dWait) : descFetch s n false =
      if bit ((descWords s n).getD 0 0) 31 then descRun s n (descWords s n)
      else (setDma s n dWait).modDma n fun x => { x with reading := x.again, again := false } := by
  have hw := dmaWords_user 8 [] h hl (by omega)
  unfold descFetch
  refine (if_pos (by rcases hst with hst | hst <;> simp [hr, hp, hst])).trans ?_
  dsimp only
  rw [if_neg (by simp), if_neg (by simp), hw]
  rfl

theorem memCe_none_frame (s : State) : Frame s (memCe s 0) [Reg.DMA_MEM_STATUS_CE_CNT] [] := frame_bump 0 (List.mem_singleton_self _) (frame_refl ..)

/-- A channel's registers lie apart from the corrected errors. -/
theorem dmaKey_ne_ce {a n i v x : Nat} {p : Acc} {c : Cls} (h : 0x60000 < a) : Fld.key ⟨a + n, i, v, p, c, x⟩ ≠ Reg.DMA_MEM_STATUS_CE_CNT.key := by
  simp only [Fld.key, Reg.DMA_MEM_STATUS_CE_CNT]
  omega

theorem descRun_bad {s : State} {n : Fin 16} {w : List Nat} (h : descBad w = true) : descRun s n w = dmaHalt s n 5 := if_pos h

theorem dmaSt_dmaGo {s : State} {n : Nat} (h : dmaSt s n = dRun ∨ dmaSt s n = dWait) : dmaSt (dmaGo s n) n = dRun := by
  unfold dmaGo
  split
  · exact dmaSt_enterRun ..
  next hw => exact h.resolve_right hw

theorem frame_dmaGo (s : State) (n : Nat) : Frame s (dmaGo s n) [Reg.DMA_CH_STATUS_STATE n] [.dmas] := frame_ite (frame_enterRun ..) (frame_refl ..)

/-- A good DATA descriptor runs. -/
theorem descRun_data {s : State} {n : Fin 16} {w : List Nat} (hb : descBad w = false) (hk : bits (w.getD 0 0) 29 2 = 0) (hbud : rd s (Reg.DMA_CH_BUDGET_BUDGET n) = 0) :
    descRun s n w = (wr (dmaGo s n) (Reg.DMA_CH_DONE_DONE n) 0).modDma n fun x => { x with desc := some (descOf w), reading := false, again := false, links := 0 } := by
  have hlink : (bits (w.getD 0 0) 29 2 == 1) = false := by rw [hk]; rfl
  unfold descRun
  dsimp only
  rw [hlink, if_neg (by simp [hb]), if_neg (by simp), if_neg (by simp [hbud])]
  rfl

theorem descFetch_waits {s : State} {n : Fin 16} (h : DieReady s) (hl : userArea ≤ dmaCur s n) (hh : dmaCur s n + 32 ≤ dieEnd) (hr : (s.dma n).reading = true)
    (hp : (s.dma n).pausing = false) (hst : dmaSt s n = dRun ∨ dmaSt s n = dWait) (ho : bit ((descWords s n).getD 0 0) 31 = false) :
    Gives (.dmaDescFetch n false 0) s fun t => dmaSt t n = dWait ∧ (t.dma n) = { s.dma n with reading := (s.dma n).again, again := false } ∧ t.mem = s.mem := by
  let u := (setDma s n dWait).modDma n fun x => { x with reading := x.again, again := false }
  have hu : descFetch s n false = u := (descFetch_reads h hl hh hr hp hst).trans (if_neg (by rw [ho]; exact Bool.false_ne_true))
  have hc := memCe_none_frame u
  refine gives_next rfl (congrArg (memCe · 0) hu) ⟨?_, (dma_congr (samePart_of_frame hc (p := .dmas) (by simp)) n).trans ((dma_modDma ..).trans ?_),
    (samePart_of_frame hc (p := .mem) (by simp)).trans (wr_mem ..)⟩
  · exact (rd_frame_one hc (dmaKey_ne_ce (by decide))).trans (rd_wr s (Reg.DMA_CH_STATUS_STATE n) dWait)
  · rw [show (setDma s n dWait).dma n = s.dma n from dma_congr (wr_dmas ..) n]

theorem descFetch_halts {s : State} {n : Fin 16} (h : DieReady s) (hl : userArea ≤ dmaCur s n) (hh : dmaCur s n + 32 ≤ dieEnd) (hr : (s.dma n).reading = true)
    (hp : (s.dma n).pausing = false) (hst : dmaSt s n = dRun ∨ dmaSt s n = dWait) (ho : bit ((descWords s n).getD 0 0) 31 = true)
    (hb : descBad (descWords s n) = true) : Gives (.dmaDescFetch n false 0) s fun t => dmaSt t n = dHalted ∧ rd t (Reg.DMA_CH_STATUS_ERR n) = 5 ∧
      (Room s → Queued s t 0x0031 (n + 256 * 5)) := by
  have hu : descFetch s n false = dmaHalt s n 5 := (descFetch_reads h hl hh hr hp hst).trans ((if_pos ho).trans (descRun_bad hb))
  obtain ⟨hst, he, -, -, hq, -⟩ := dmaHalt_effect s n (err := 5) (by decide)
  have hc := memCe_none_frame (dmaHalt s n 5)
  exact gives_next rfl (congrArg (memCe · 0) hu) ⟨(rd_frame_one hc (dmaKey_ne_ce (by decide))).trans hst, (rd_frame_one hc (dmaKey_ne_ce (by decide))).trans he,
    fun hr => queued_congr (hq hr) (samePart_of_frame hc (p := .events) (by simp))⟩

theorem descFetch_runs {s : State} {n : Fin 16} (h : DieReady s) (hl : userArea ≤ dmaCur s n) (hh : dmaCur s n + 32 ≤ dieEnd) (hr : (s.dma n).reading = true)
    (hp : (s.dma n).pausing = false) (hst : dmaSt s n = dRun ∨ dmaSt s n = dWait) (ho : bit ((descWords s n).getD 0 0) 31 = true)
    (hb : descBad (descWords s n) = false) (hk : bits ((descWords s n).getD 0 0) 29 2 = 0) (hbud : rd s (Reg.DMA_CH_BUDGET_BUDGET n) = 0) :
    Gives (.dmaDescFetch n false 0) s fun t => dmaSt t n = dRun ∧ (t.dma n).desc = some (descOf (descWords s n)) ∧ (t.dma n).reading = false ∧ (t.dma n).links = 0 ∧
      rd t (Reg.DMA_CH_DONE_DONE n) = 0 ∧ t.mem = s.mem := by
  let u := (wr (dmaGo s n) (Reg.DMA_CH_DONE_DONE n) 0).modDma n fun x => { x with desc := some (descOf (descWords s n)), reading := false, again := false, links := 0 }
  have hu : descFetch s n false = u := (descFetch_reads h hl hh hr hp hst).trans ((if_pos ho).trans (descRun_data hb hk hbud))
  have hc := memCe_none_frame u
  have hdma := (dma_congr (samePart_of_frame hc (p := .dmas) (by simp)) n).trans (dma_modDma ..)
  refine gives_next rfl (congrArg (memCe · 0) hu) ⟨?_, congrArg DmaCh.desc hdma, congrArg DmaCh.reading hdma, congrArg DmaCh.links hdma, ?_, ?_⟩
  · exact (rd_frame_one hc (dmaKey_ne_ce (by decide))).trans ((rd_wr_ne (dmaGo s n) 0 (key_ne (by decide))).trans (dmaSt_dmaGo hst))
  · exact (rd_frame_one hc (dmaKey_ne_ce (by decide))).trans (rd_wr (dmaGo s n) (Reg.DMA_CH_DONE_DONE n) 0)
  · exact (samePart_of_frame hc (p := .mem) (by simp)).trans ((wr_mem ..).trans (samePart_of_frame (frame_dmaGo s n) (p := .mem) (by simp)))

/-! ### The write-back -/

/-- Where the memory ends after a write-back: word 6, then word 0. -/
def wroteBack (s : State) (n : Nat) (d : DmaDesc) : State := setMemWord (setMemWord s (dmaCur s n + 24) d.len) (dmaCur s n) (clrBit d.word0 31)

/-- The position of the ring after `cur`. -/
def nextCur (r : Fld → Nat) (n cur : Nat) : Nat := if cur = ringBase r n + 32 * (ringLen r n - 1) then ringBase r n else cur + 32

/-- The channel after a write-back: CUR at the next position, one more counted, and the next descriptor to be read. -/
def descStepped (s : State) (n cur : Nat) : State :=
  let b := wr (setCur s n (nextCur (rd s) n cur)) (Reg.DMA_CH_DONE_DONE n) 0
  (wr b (Reg.DMA_CH_COUNT_COUNT n) (rd b (Reg.DMA_CH_COUNT_COUNT n) + 1)).modDma n fun x => { x with desc := none, reading := true, again := false }

theorem descDone_of_writes {s m u : State} {n : Nat} {d : DmaDesc} (hm : busWrite s .dma (dmaCur s n + 24) d.len = (0, m))
    (hu : busWrite m .dma (dmaCur s n) (clrBit d.word0 31) = (0, u)) (he : d.evt = false) : descDone s n d = descStepped u n (dmaCur s n) := by
  unfold descDone
  dsimp only
  rw [hm]
  dsimp only
  rw [if_neg (by simp), hu, he]
  rfl

theorem descStepped_effect (s : State) (n cur : Nat) : let t := descStepped s n cur
    (t.dma n) = { s.dma n with desc := none, reading := true, again := false } ∧ dmaSt t n = dmaSt s n ∧ rd t (Reg.DMA_CH_DONE_DONE n) = 0 ∧
    rd t (Reg.DMA_CH_CUR_LO_CUR_LO n) = nextCur (rd s) n cur % 2 ^ 32 ∧ t.mem = s.mem := by
  have hcur := frame_setCur s n (nextCur (rd s) n cur)
  unfold descStepped
  dsimp only
  have hlo := rd_curLo_setCur s n (nextCur (rd s) n cur)
  generalize setCur s n (nextCur (rd s) n cur) = a at hcur hlo ⊢
  generalize rd (wr a (Reg.DMA_CH_DONE_DONE n) 0) (Reg.DMA_CH_COUNT_COUNT n) + 1 = k
  refine ⟨(dma_modDma ..).trans ?_, ?_, ?_, ?_, ?_⟩
  · rw [dma_congr ((wr_dmas ..).trans ((wr_dmas ..).trans (samePart_of_frame hcur (p := .dmas) (by simp)))) n]
  · exact (rd_wr_ne (f := Reg.DMA_CH_COUNT_COUNT n) (g := Reg.DMA_CH_STATUS_STATE n) _ k (key_ne (by decide))).trans
      ((rd_wr_ne a 0 (key_ne (by decide))).trans (rd_frame_two hcur (key_ne (by decide)) (key_ne (by decide))))
  · exact (rd_wr_ne _ k (key_ne (by decide))).trans (rd_wr a (Reg.DMA_CH_DONE_DONE n) 0)
  · exact (rd_wr_ne _ k (key_ne (by decide))).trans ((rd_wr_ne a 0 (key_ne (by decide))).trans hlo)
  · exact (wr_mem ..).trans ((wr_mem ..).trans (samePart_of_frame hcur (p := .mem) (by simp)))

theorem descDone_effect {s : State} {n : Nat} {d : DmaDesc} (h : DieReady s) (hl : userArea ≤ dmaCur s n) (hh : dmaCur s n + 32 ≤ dieEnd) (he : d.evt = false) :
    let t := descDone s n d
    (t.dma n) = { s.dma n with desc := none, reading := true, again := false } ∧ dmaSt t n = dmaSt s n ∧ rd t (Reg.DMA_CH_DONE_DONE n) = 0 ∧
    rd t (Reg.DMA_CH_CUR_LO_CUR_LO n) = nextCur (rd s) n (dmaCur s n) % 2 ^ 32 ∧ t.mem = (wroteBack s n d).mem := by
  have hd := descDone_of_writes (busWrite_user _ h (by omega) (by omega)) (busWrite_user _ (dieReady_setMemWord _ _ h) hl (by omega)) he
  have hf : Frame s (wroteBack s n d) [] [.mem] := frame_setMemWord _ _ (by simp) (frame_setMemWord _ _ (by simp) (frame_refl ..))
  have hrd : rd (wroteBack s n d) = rd s := funext fun f => hf.1 f (by simp)
  obtain ⟨h1, h2, h3, h4, h5⟩ := descStepped_effect (wroteBack s n d) n (dmaCur s n)
  rw [hd]
  refine ⟨h1.trans ?_, h2.trans (congrFun hrd _), h3, h4.trans (by rw [hrd]), h5⟩
  rw [dma_congr (samePart_of_frame hf (p := .dmas) (by simp))]

theorem wroteBack_len (s : State) (n : Nat) (d : DmaDesc) : memWord (wroteBack s n d) (dmaCur s n + 24) = d.len % 2 ^ 32 :=
  (memWord_setMemWord_out _ _ (by omega)).trans (memWord_setMemWord ..)

theorem wroteBack_word0 (s : State) (n : Nat) (d : DmaDesc) : memWord (wroteBack s n d) (dmaCur s n) = clrBit d.word0 31 % 2 ^ 32 := memWord_setMemWord ..

theorem wroteBack_out (s : State) (n : Nat) (d : DmaDesc) {a : Nat} (h : a < dmaCur s n ∨ (dmaCur s n + 4 ≤ a ∧ a < dmaCur s n + 24) ∨ dmaCur s n + 28 ≤ a) :
    memByte (wroteBack s n d) a = memByte s a :=
  (memByte_setMemWord_out _ _ (by omega)).trans (memByte_setMemWord_out _ _ (by omega))

/-! ### The data of a descriptor -/

/-- Every swap gives a 32-bit word. -/
theorem dmaSwap_lt (m v : Nat) : dmaSwap m v < 2 ^ 32 := by
  unfold dmaSwap
  dsimp only
  split_ifs <;> omega

theorem fixBad_free {d : DmaDesc} (hs : d.fixSrc = false) (hd : d.fixDst = false ∨ d.link = true) : fixBad d = false := by
  unfold fixBad
  rcases hd with hd | hd <;> simp [hs, hd]

/-- The last word of a running descriptor. -/
theorem dmaMove_one {s : State} {n : Nat} {d : DmaDesc} (h : DieReady s) (hs : d.fixSrc = false) (hd : d.fixDst = false)
    (hs1 : userArea ≤ d.src + dmaDone s n) (hs2 : d.src + dmaDone s n + 4 ≤ dieEnd) (hd1 : userArea ≤ d.dst + dmaDone s n) (hd2 : d.dst + dmaDone s n + 4 ≤ dieEnd) :
    dmaMove s n d 1 = (wr (setMemWord s (d.dst + dmaDone s n) (dmaSwap d.swap (memWord s (d.src + dmaDone s n)))) (Reg.DMA_CH_DONE_DONE n) (dmaDone s n + 4), true) := by
  have hat (a : Nat) : dmaAt false a (dmaDone s n) = a + dmaDone s n := if_neg Bool.false_ne_true
  unfold dmaMove
  dsimp only
  rw [fixBad_free hs (.inl hd), hs, hd, hat, hat, busRead_user h hs1 hs2]
  dsimp only
  rw [busWrite_user _ h hd1 hd2]
  rfl

/-- The last packet of a link-destined descriptor: its last word, in address order. -/
def lastBulk (s : State) (n : Nat) (d : DmaDesc) : OutPkt :=
  { port := activeUp s, op := 0x31, more := false, tag := rd s (Reg.DMA_CH_COUNT_COUNT n)
    payload := [n, 0, 0, 0] ++ beBytes 4 (dmaDone s n) ++ (beBytes 4 (dmaSwap d.swap (memWord s (d.src + dmaDone s n)))).reverse }

theorem bulkSend_last {s : State} {n : Nat} {d : DmaDesc} (h : DieReady s) (hl : d.link = true) (hlen : dmaDone s n + 4 = d.len) (hs : d.fixSrc = false)
    (hs1 : userArea ≤ d.src + dmaDone s n) (hs2 : d.src + dmaDone s n + 4 ≤ dieEnd) (hu : portUp s (activeUp s) = true) (hp : padsFor s 12 1 = true) :
    bulkSend s n d = wr (send s (lastBulk s n d)) (Reg.DMA_CH_DONE_DONE n) d.len := by
  have hat (a : Nat) : dmaAt false a (dmaDone s n) = a + dmaDone s n := if_neg Bool.false_ne_true
  have hg : dmaGather s d (dmaDone s n) 1 [] = (some (beBytes 4 (dmaSwap d.swap (memWord s (d.src + dmaDone s n)))).reverse, s) := by
    unfold dmaGather
    dsimp only
    rw [fixBad_free hs (.inr hl), hs, hat, busRead_user h hs1 hs2]
    rfl
  have hk : min 4032 (d.len - dmaDone s n) = 4 := by omega
  unfold bulkSend
  dsimp only
  rw [hk, if_neg (by simp [hu, hp]), hg, ← hlen]
  simp [lastBulk]

/-- The rest of a descriptor of the memory has moved: its write-back follows. -/
theorem descDone_data {s r : State} {n : Fin 16} {d : DmaDesc} (hd : (s.dma n).desc = some d) (hst : dmaSt s n = dRun) (hp : (s.dma n).pausing = false) (hl : d.link = false)
    (hr : dmaMove s n d ((d.len - dmaDone s n) / 4) = (r, true)) : exec (.dmaDescDone n none 0) s = .next (descDone (memCe r 0) n d) := by
  refine congrArg Host.Outcome.next ?_
  rw [hd]
  dsimp only
  rw [if_pos ⟨hst, by simp [hp]⟩, if_neg (by simp [hl]), hr]
  exact if_neg Bool.false_ne_true

/-- The write-back after the last words have moved, in state `r`. -/
theorem descDone_after {s r : State} {n : Nat} {d : DmaDesc} (hf : Frame s r [Reg.DMA_CH_DONE_DONE n] [.mem]) (h : DieReady s) (hl : userArea ≤ dmaCur s n)
    (hh : dmaCur s n + 32 ≤ dieEnd) (he : d.evt = false) : let t := descDone (memCe r 0) n d
    (t.dma n) = { s.dma n with desc := none, reading := true, again := false } ∧ dmaSt t n = dmaSt s n ∧ rd t (Reg.DMA_CH_DONE_DONE n) = 0 ∧
    rd t (Reg.DMA_CH_CUR_LO_CUR_LO n) = nextCur (rd s) n (dmaCur s n) % 2 ^ 32 ∧ memWord t (dmaCur s n + 24) = d.len % 2 ^ 32 ∧
    memWord t (dmaCur s n) = clrBit d.word0 31 % 2 ^ 32 ∧
    (∀ a, (a < dmaCur s n ∨ (dmaCur s n + 4 ≤ a ∧ a < dmaCur s n + 24) ∨ dmaCur s n + 28 ≤ a) → memByte t a = memByte r a) := by
  have hu : Frame s (memCe r 0) [Reg.DMA_CH_DONE_DONE n, Reg.DMA_MEM_STATUS_CE_CNT] [.mem] :=
    frame_bump 0 (by simp) (frame_mono hf (by simp) (by simp))
  have hmem : (memCe r 0).mem = r.mem := wr_mem ..
  have hdma : (memCe r 0).dma n = s.dma n := dma_congr (samePart_of_frame hu (p := .dmas) (by simp)) n
  generalize memCe r 0 = u at hu hmem hdma ⊢
  have hst : dmaSt u n = dmaSt s n := rd_frame_two hu (key_ne (by decide)) (dmaKey_ne_ce (by decide))
  have hcur : dmaCur u n = dmaCur s n := by
    unfold dmaCur
    rw [rd_frame_two hu (g := Reg.DMA_CH_CUR_LO_CUR_LO n) (key_ne (by decide)) (dmaKey_ne_ce (by decide)),
      rd_frame_two hu (g := Reg.DMA_CH_CUR_HI_CUR_HI n) (key_ne (by decide)) (dmaKey_ne_ce (by decide))]
  have hnext (c : Nat) : nextCur (rd u) n c = nextCur (rd s) n c := by
    unfold nextCur ringBase ringLen
    rw [rd_frame_two hu (g := Reg.DMA_CH_RING_LO_BASE_LO n) (key_ne (by decide)) (dmaKey_ne_ce (by decide)),
      rd_frame_two hu (g := Reg.DMA_CH_RING_HI_BASE_HI n) (key_ne (by decide)) (dmaKey_ne_ce (by decide)),
      rd_frame_two hu (g := Reg.DMA_CH_RING_HI_RLEN n) (key_ne (by decide)) (dmaKey_ne_ce (by decide))]
  have hready : DieReady u :=
    ⟨(rd_frame_two hu (key_ne_fixed (by decide)).symm (by decide)).trans h.1, (on_congr (rd_frame_two hu (key_ne_fixed (by decide)).symm (by decide))).trans h.2⟩
  obtain ⟨h1, h2, h3, h4, h5⟩ := descDone_effect hready (hcur ▸ hl) (hcur ▸ hh) he
  refine ⟨h1.trans (by rw [hdma]), h2.trans hst, h3, h4.trans (by rw [hcur, hnext]), ?_, ?_, fun a ha => ?_⟩
  · rw [memWord_congr h5, ← hcur, wroteBack_len]
  · rw [memWord_congr h5, ← hcur, wroteBack_word0]
  · rw [memByte_congr h5, wroteBack_out u n d (by rw [hcur]; exact ha), memByte_congr hmem]

/-- Settles O51. -/
theorem dmaDescriptors : Obligations.DmaDescriptors := by
  intro s n x cur w hon hfail hlo hhi _
  have hr : DieReady s := ⟨hon, hfail⟩
  refine ⟨fun h1 h2 h3 => ⟨descFetch_waits hr hlo hhi h1 h2 h3, descFetch_halts hr hlo hhi h1 h2 h3, descFetch_runs hr hlo hhi h1 h2 h3⟩,
    fun d hd hst hp => ⟨fun hl hn he => ?_, fun hl hn hlen he hs hf hs1 hs2 hd1 hd2 hout => ?_, fun hl hn hlen hs hs1 hs2 hu hpads => ?_, fun hl => ?_⟩, fun hst => ?_,
    within_of_mask (keepsO_execDmaDescFetch (w₀ := 46302364) (keeps_refl _ s) rfl) (by decide),
    within_of_mask (keepsO_execDmaDescDone (w₀ := 66580477) (a0 := n) (a1 := none) (a2 := 0) (keeps_refl _ s) rfl) (by decide)⟩
  · have hx := descDone_data hd hst hp hl (r := s) (by rw [hn, Nat.sub_self]; rfl)
    obtain ⟨hdma, hst', hdone, hcur, h6, h0, hout⟩ := descDone_after (frame_refl s _ _) hr hlo hhi he
    exact gives_next hx rfl ⟨congrArg DmaCh.desc hdma, congrArg DmaCh.reading hdma, hst'.trans hst, h6, h0, hdone, hcur, hout⟩
  · have hm := dmaMove_one hr hs hf hs1 (by omega) hd1 (by omega)
    have hx := descDone_data hd hst hp hl (by rw [show (d.len - dmaDone s n) / 4 = 1 by omega]; exact hm)
    obtain ⟨hdma, -, -, -, -, -, hkeep⟩ := descDone_after (n := n) (frame_wr (dmaDone s n + 4) (List.mem_singleton_self _)
      (frame_setMemWord (d.dst + dmaDone s n) (dmaSwap d.swap (memWord s (d.src + dmaDone s n))) (List.mem_singleton_self _) (frame_refl s _ _))) hr hlo hhi he
    refine gives_next hx rfl ⟨congrArg DmaCh.desc hdma, ?_⟩
    refine (memWord_of_bytes fun i hi => hkeep _ (by omega)).trans ((memWord_congr (wr_mem ..) _).trans ((memWord_setMemWord ..).trans ?_))
    exact Nat.mod_eq_of_lt (dmaSwap_lt ..)
  · have hb := bulkSend_last hr hl hn hs hs1 (by omega) hu hpads
    refine gives_next (t := wr (send s (lastBulk s n d)) (Reg.DMA_CH_DONE_DONE n) d.len) rfl (by rw [hd]; exact (if_pos ⟨hst, by simp [show (s.dma n).pausing = false from hp], hl⟩).trans hb)
      ⟨(rd_wr ..).trans (Nat.mod_eq_of_lt hlen), ⟨{ lastBulk s n d with up := true, dev := devId s, seq := _ }, (congrArg LinkS.out (wr_link ..)).trans rfl, rfl, rfl, rfl, rfl, rfl⟩, ?_⟩
    exact frame_wr _ (by simp) (frame_send _ (by simp) (by simp) (frame_refl ..))
  · refine congrArg Host.Outcome.next ?_
    rw [hd]
    exact if_neg (by simp [hl])
  · refine congrArg Host.Outcome.next ?_
    split
    · exact if_neg (by simp [hst])
    · rfl

/-! Control flow of the Newt cores (R212): a body that ends at PM index 0x7FFF. -/

/-- Core 0's user kernel at the last PM index, the last of a loop's body: its STOP is 0x8000, where the index that follows, of 15 bits, is 0. -/
def lastIndexS : State := { ({} : State) with newts := [(0, { user := { pc := 32767, loops := [{ start := 5, stop := 32768, left := 2 }] } })] }

/-- The loop goes round: the next index is its start, although 0 is not its STOP. -/
theorem stepOn_lastIndexS : (stepOn lastIndexS 0 true 1 (lastIndexS.ctx 0 true)).pc = 5 := by decide

/-- Refutes O52: the statement compares the next index, of 15 bits, with a loop's STOP, which may be 0x8000 (R212); a body that ends at index 0x7FFF is followed by index 0, so
that the statement leaves the loop there, while the machine goes round. -/
theorem not_newtControlFlow : ¬ Obligations.NewtControlFlow := by
  intro h
  obtain ⟨-, hloops, -⟩ := h lastIndexS 0 true
  have hseq := (hloops { start := 5, stop := 32768, left := 2 } [] (by decide)).1 (by decide)
  have hpc : (5 : Nat) = 0 := stepOn_lastIndexS.symm.trans (congrArg CtxS.pc hseq)
  exact absurd hpc (by decide)

/-! What one instruction of a Newt context leaves, and its exceptions (R212, R215). -/

/-! ### The other context -/

theorem ctx_rollLoad (s : State) (g : Nat) (user : Bool) : (rollLoad s g).ctx g user = s.ctx g user := by
  unfold rollLoad
  dsimp only
  split
  · rfl
  · rw [ctx_wr, ctx_wr]
    unfold State.ctx
    rw [newt_modNewt]

theorem other_of_stopsCtx {s t : State} {g : Nat} {user : Bool} (h : StopsCtx s t g user) (o : Bool) : t.ctx g o = s.ctx g o := by
  rcases h with ⟨-, st, rfl⟩ | ⟨-, rfl⟩
  · exact (ctx_wr ..).trans (ctx_takeView ..)
  · exact ctx_wr ..

/-- The end of an instruction leaves the core's other context. -/
theorem newtFinish_other (o : NOut) (g : Nat) (user : Bool) (pc w : Nat) : (newtFinish o g user pc w).ctx g (!user) = o.s.ctx g (!user) := by
  have hend : ∃ (f : NewtS → NewtS) (n : Nat), (∀ x, (if !user then (f x).user else (f x).vendor) = if !user then x.user else x.vendor) ∧
      let s2 := bump ((rollLoad o.s g).modNewt g f) (Reg.NEWT_LOAD_CONFLICT g) n
      newtFinish o g user pc w = s2 ∨ StopsCtx s2 (newtFinish o g user pc w) g user := by
    refine ⟨_, _, fun x => ?_, stays_or_stops ..⟩
    cases user <;> rfl
  obtain ⟨f, n, hf, hend⟩ := hend
  have hctx : (bump ((rollLoad o.s g).modNewt g f) (Reg.NEWT_LOAD_CONFLICT g) n).ctx g (!user) = o.s.ctx g (!user) := by
    refine (ctx_wr ..).trans (Eq.trans ?_ (ctx_rollLoad ..))
    unfold State.ctx
    rw [newt_modNewt]
    exact hf _
  rcases hend with hend | hend
  · rw [hend]
    exact hctx
  · exact (other_of_stopsCtx hend _).trans hctx

/-! ### Instructions that end in sequence -/

/-- `t` is `s` after an instruction of `w` words that ended in sequence with registers `c`. -/
def Ends (s t : State) (g : Nat) (user : Bool) (w : Nat) (c : CtxS) : Prop :=
  t.ctx g user = stepOn s g user w c ∧ t.ctx g (!user) = s.ctx g (!user) ∧ Frame s t (newtRegs g) [.newts]

theorem newtFinish_ends {s : State} {o : NOut} {g : Nat} {user : Bool} {w : Nat} {c : CtxS} (pc : Nat) (hj : o.jump = false) (hs : o.s = s)
    (hc : o.c = { c with wait := none }) (hp : o.pc = ((s.ctx g user).pc + w) % 32768) : Ends s (newtFinish o g user pc w) g user w c := by
  obtain ⟨hctx, hframe⟩ := newtFinish_effect g user pc w hj
  refine ⟨hctx.trans ?_, (newtFinish_other ..).trans (by rw [hs]), hs ▸ hframe⟩
  unfold seqCtx
  rw [hc, hp]
  rfl

/-- An instruction that only changes registers. -/
theorem newtRun_plain {s : State} {g : Nat} {user : Bool} {i : NI} {w : Nat} {eff : NI → Option (CtxS → Nat → NRes)} {f : CtxS → CtxS} {c : CtxS}
    (h : AtPC s g user i w) (hf : eff i = plain s f) (hc : f { s.ctx g user with wait := none } = { c with wait := none }) :
    Ends s (newtRun s g user eff) g user w c := by
  rw [newtRun_of_ok h hf rfl]
  exact newtFinish_ends _ rfl rfl hc rfl

/-! ### Exceptions -/

theorem newtRun_of_error {s : State} {g : Nat} {user : Bool} {e : Nat} {eff : NI → Option (CtxS → Nat → NRes)} (h : ctxRuns s g user = true)
    (he : fetchInstr s g user (s.ctx g user).pc = .error e) : newtRun s g user eff = newtFault s g user e := by
  simp [newtRun, h, he]

theorem newtRun_of_fault {s : State} {g : Nat} {user : Bool} {i : NI} {w e : Nat} {eff : NI → Option (CtxS → Nat → NRes)} {f : CtxS → Nat → NRes}
    (h : AtPC s g user i w) (hf : eff i = some f) (ho : f { s.ctx g user with wait := none } (((s.ctx g user).pc + w) % 32768) = .error (e, s)) :
    newtRun s g user eff = newtFault s g user e := by
  obtain ⟨hrun, hfetch⟩ := h
  simp [newtRun, hrun, hfetch, hf, ho]

theorem fetchInstr_error_lt {s : State} {g : Nat} {user : Bool} {pc e : Nat} (h : fetchInstr s g user pc = .error e) : e < 16 := by
  unfold fetchInstr at h
  split at h
  · cases h
    decide
  · split at h
    · cases h
      decide
    · cases h

/-- An exception suspends the use of the loop cache and nothing else of the core. -/
theorem newt_suspendCache (s : State) (g : Nat) : ((suspendCache s g).newt g).user = (s.newt g).user := by
  unfold suspendCache
  rw [newt_modNewt]

/-- An exception of the user kernel in a state that differs from `s` in the cores only, and not in the kernel's registers. -/
theorem userFault_faults {s v : State} {g e : Nat} (hv : Frame s v [] [.newts]) (hr : (v.newt g).user = (s.newt g).user) (he : e < 16) :
    NewtFaults s (userFault v g e) g true e := by
  have hev {i v x k : Nat} {p : Acc} : ∀ f ∈ eventFields, Fld.key ⟨0x840000 + k + 0x100000 * g, i, v, p, .L, x⟩ ≠ f.key := by
    rw [Nat.add_assoc]
    exact key_ne_event (by decide)
  let u := takeView v g
  have hview : (u.newt g).view = (s.newt g).user := by
    unfold u takeView
    rw [newt_modNewt]
    exact hr
  have huser : (u.newt g).user = (s.newt g).user := by
    unfold u takeView
    rw [newt_modNewt]
    exact hr
  have hu : Frame s u [] [.newts] := frame_takeView g (by simp) hv
  let a := wr u (Reg.NEWT_USER_FAULT_CODE g) e
  let b := wr a (Reg.NEWT_USER_FAULT_FAULT_PC g) (u.newt g).user.pc
  let c := setU b g uFault
  have hc : Frame s c [Reg.NEWT_STATUS_USTATE g, Reg.NEWT_USER_FAULT_CODE g, Reg.NEWT_USER_FAULT_FAULT_PC g] [.newts] :=
    frame_wr _ (by simp) (frame_wr _ (by simp) (frame_wr _ (by simp) (frame_mono hu (by simp) (by simp))))
  have hcode : rd c (Reg.NEWT_USER_FAULT_CODE g) = e :=
    (rd_wr_ne b _ (key_ne (by decide))).trans ((rd_wr_ne a _ (key_ne (by decide))).trans ((rd_wr u (Reg.NEWT_USER_FAULT_CODE g) e).trans (Nat.mod_eq_of_lt he)))
  have hpc : rd c (Reg.NEWT_USER_FAULT_FAULT_PC g) = (s.newt g).user.pc % 2 ^ (Reg.NEWT_USER_FAULT_FAULT_PC g).width :=
    (rd_wr_ne b _ (key_ne (by decide))).trans ((rd_wr a (Reg.NEWT_USER_FAULT_FAULT_PC g) _).trans (by rw [huser]))
  refine ⟨(rd_raise c _ _ (hev (k := 0))).trans (rd_wr b (Reg.NEWT_STATUS_USTATE g) uFault), (rd_raise c _ _ (hev (k := 0x10))).trans hcode,
    (rd_raise c _ _ (hev (k := 0x10))).trans hpc, ?_, fun hr => ?_, frame_raise _ _ (List.subset_append_right ..) (by simp) (frame_mono hc (by simp) (by simp))⟩
  · have hn : (raise c 0x2060 0).newts = u.newts :=
      (samePart_of_frame (frame_raise_self ..) (p := .newts) (by simp)).trans ((wr_newts ..).trans ((wr_newts ..).trans (wr_newts ..)))
    refine Eq.trans ?_ hview
    unfold State.newt
    rw [show (userFault v g e).newts = u.newts from hn]
  · exact queued_raise 0 (samePart_of_frame hc (p := .rst) (by simp)) (samePart_of_frame hc (p := .events) (by simp)) hr (by decide)

theorem newtFault_faults (s : State) (g : Nat) (user : Bool) {e : Nat} (he : e < 16) : NewtFaults s (newtFault s g user e) g user e := by
  cases user
  · rfl
  · exact userFault_faults (frame_modNewt g _ (by simp) (frame_refl ..)) (newt_suspendCache ..) he

/-! Newt instructions of classes ALU and ALUI (R214; Table 9.6). -/

section
variable {s : State} {g : Nat} {user : Bool} {w : Nat} {d a b v : Nat}

theorem aluRow_ends {op : AluOp} {f : CtxS → Nat → Nat → Nat → CtxS} (h : AtPC s g user (.alu op d a b) w) (c : CtxS)
    (hc : f { s.ctx g user with wait := none } d ((s.ctx g user).getX a) ((s.ctx g user).getX b) = { c with wait := none }) :
    Ends s (aluRow s g user op f) g user w c :=
  newtRun_plain h (if_pos rfl) hc

theorem immRow_ends {op : ImmOp} {f : CtxS → Nat → Nat → Nat → CtxS} (h : AtPC s g user (.imm op d a v) w) (c : CtxS)
    (hc : f { s.ctx g user with wait := none } d ((s.ctx g user).getX a) v = { c with wait := none }) : Ends s (immRow s g user op f) g user w c :=
  newtRun_plain h (if_pos rfl) hc

/-- Free values do not change what is at PC. -/
theorem atPC_takeFree {i : NI} (k : Nat) (h : AtPC s g user i w) : AtPC (takeFree s k).2 g user i w := h

end

/-- What the statement says an instruction leaves: it ended in sequence, and free values may have been used. -/
def EndsFree (s t : State) (g : Nat) (user : Bool) (w : Nat) (c : CtxS) : Prop :=
  t.ctx g user = stepOn s g user w c ∧ t.ctx g (!user) = s.ctx g (!user) ∧ Frame s t (newtRegs g) [.newts, .free]

theorem endsFree_of_ends {s t : State} {g : Nat} {user : Bool} {w : Nat} {c : CtxS} (h : Ends s t g user w c) : EndsFree s t g user w c :=
  ⟨h.1, h.2.1, frame_mono h.2.2 (List.Subset.refl _) (by simp)⟩

theorem endsFree_of_takeFree {s t : State} {g k : Nat} {user : Bool} {w : Nat} {c : CtxS} (h : Ends (takeFree s k).2 t g user w c) : EndsFree s t g user w c :=
  ⟨h.1, h.2.1, frame_step (frame_free _ (by simp) (frame_refl ..)) (frame_mono h.2.2 (List.Subset.refl _) (by simp))⟩

/-! ### Parts of complex words -/

theorem satInt_16 (i : Int) : satInt 16 i = max (-32768) (min 32767 i) := by
  unfold satInt
  split_ifs <;> omega

theorem xIQ_lt (i q : Int) : xIQ i q < 2 ^ 32 := by
  have h1 := code_lt 16 i
  have h2 := code_lt 16 q
  unfold xIQ
  omega

theorem setX_xIQ (c : CtxS) (d : Nat) (i q : Int) : c.setX d (xIQ i q) = { c with x := c.x.set d 0 (code 16 i * 65536 + code 16 q) } := by
  unfold CtxS.setX
  rw [Nat.mod_eq_of_lt (xIQ_lt ..)]
  rfl

theorem partsSat_eq (c : CtxS) (d : Nat) (i q : Int) : partsSat c d i q = { c with
    x := c.x.set d 0 (code 16 (max (-32768) (min 32767 i)) * 65536 + code 16 (max (-32768) (min 32767 q))),
    sat := c.sat || decide (max (-32768) (min 32767 i) ≠ i) || decide (max (-32768) (min 32767 q) ≠ q) } := by
  unfold partsSat CtxS.setX
  rw [Nat.mod_eq_of_lt (xIQ_lt ..), satInt_16, satInt_16]
  simp only [xIQ, decide_not]
  rfl

/-! ### The rows of the two classes -/

section
variable {s : State} {g : Fin 8} {user : Bool} {d a b v : Nat}

/-- An ALU instruction that writes `r` of Xa and Xb to Xd. -/
theorem alu_gives {op : AluOp} {q : Instr} {r : Nat → Nat → Nat} (hq : exec q s = .next (aluRow s g user op fun c d a b => c.setX d (r a b)))
    (h : AtPC s g user (.alu op d a b) 1) : Gives q s fun t => EndsFree s t g user 1
      { s.ctx g user with x := (s.ctx g user).x.set d 0 (r ((s.ctx g user).getX a) ((s.ctx g user).getX b) % 2 ^ 32) } :=
  gives_next hq rfl (endsFree_of_ends (aluRow_ends h _ rfl))

/-- An ALUI instruction that writes `r` of the registers, Xa and IMM to Xd. -/
theorem imm_gives {op : ImmOp} {q : Instr} {r : CtxS → Nat → Nat → Nat → Nat} (hq : exec q s = .next (immRow s g user op fun c d a v => c.setX d (r c d a v)))
    (hr : ∀ c : CtxS, ∀ d a v, r { c with wait := none } d a v = r c d a v) (h : AtPC s g user (.imm op d a v) 1) : Gives q s fun t => EndsFree s t g user 1
      { s.ctx g user with x := (s.ctx g user).x.set d 0 (r (s.ctx g user) d ((s.ctx g user).getX a) v % 2 ^ 32) } := by
  refine gives_next hq rfl (endsFree_of_ends (immRow_ends h _ ?_))
  rw [hr]
  rfl

theorem setX_eq (c : CtxS) (d v : Nat) : c.setX d v = { c with x := c.x.set d 0 (v % 2 ^ 32) } := rfl

theorem flags_eq (c : CtxS) (r : Nat) (f k : Bool) : ({ flagsZN c r with c := f, v := k } : CtxS) = { c with z := decide (r = 0), n := bit r 31, c := f, v := k } := rfl

theorem flagsAdd_eq (c : CtxS) (x y : Nat) : flagsAdd c x y = { c with
    z := decide ((x + y) % 2 ^ 32 = 0), n := bit ((x + y) % 2 ^ 32) 31, c := decide (2 ^ 32 ≤ x + y)
    v := bit x 31 == bit y 31 && bit ((x + y) % 2 ^ 32) 31 != bit x 31 } :=
  flags_eq c ((x + y) % 2 ^ 32) (decide (2 ^ 32 ≤ x + y)) (bit x 31 == bit y 31 && bit ((x + y) % 2 ^ 32) 31 != bit x 31)

theorem flagsSub_eq (c : CtxS) (x y : Nat) (f : Bool) : flagsSub c x y f = { c with
    z := decide ((x + 2 ^ 32 - y) % 2 ^ 32 = 0), n := bit ((x + 2 ^ 32 - y) % 2 ^ 32) 31, c := f
    v := bit x 31 != bit y 31 && bit ((x + 2 ^ 32 - y) % 2 ^ 32) 31 != bit x 31 } :=
  flags_eq c ((x + 2 ^ 32 - y) % 2 ^ 32) f (bit x 31 != bit y 31 && bit ((x + 2 ^ 32 - y) % 2 ^ 32) 31 != bit x 31)

theorem add_gives (h : AtPC s g user (.alu .add d a b) 1) :
    let x := (s.ctx g user).getX a
    let y := (s.ctx g user).getX b
    let sum := (x + y) % 2 ^ 32
    Gives (.nAdd g user) s fun t => EndsFree s t g user 1 { s.ctx g user with
      x := (s.ctx g user).x.set d 0 sum, z := decide (sum = 0), n := bit sum 31, c := decide (2 ^ 32 ≤ x + y)
      v := bit x 31 == bit y 31 && bit sum 31 != bit x 31 } :=
  gives_next rfl rfl (endsFree_of_ends (aluRow_ends h _ (by rw [setX_eq, flagsAdd_eq])))

theorem sub_gives (h : AtPC s g user (.alu .sub d a b) 1) :
    let x := (s.ctx g user).getX a
    let y := (s.ctx g user).getX b
    let dif := (x + 2 ^ 32 - y) % 2 ^ 32
    Gives (.nSub g user) s fun t => ∃ f, EndsFree s t g user 1 { s.ctx g user with
      x := (s.ctx g user).x.set d 0 dif, z := decide (dif = 0), n := bit dif 31, c := f, v := bit x 31 != bit y 31 && bit dif 31 != bit x 31 } :=
  gives_next rfl rfl ⟨_, endsFree_of_takeFree (aluRow_ends (atPC_takeFree 1 h) _ (by rw [setX_eq, flagsSub_eq]; rfl))⟩

/-- A logical instruction: Z and N by its result, C and V free. -/
theorem logic_gives {op : AluOp} {q : Instr} {r : Nat → Nat → Nat}
    (hq : exec q s = .next (aluRow (takeFree s 2).2 g user op fun c d a b => (flagsLogic c (r a b) (bit (takeFree s 2).1 0) (bit (takeFree s 2).1 1)).setX d (r a b)))
    (h : AtPC s g user (.alu op d a b) 1) : Gives q s fun t => ∃ f k, EndsFree s t g user 1
      { s.ctx g user with
        x := (s.ctx g user).x.set d 0 (r ((s.ctx g user).getX a) ((s.ctx g user).getX b) % 2 ^ 32)
        z := decide (r ((s.ctx g user).getX a) ((s.ctx g user).getX b) = 0)
        n := bit (r ((s.ctx g user).getX a) ((s.ctx g user).getX b)) 31, c := f, v := k } :=
  gives_next hq rfl ⟨_, _, endsFree_of_takeFree (aluRow_ends (atPC_takeFree 2 h) _ rfl)⟩

/-- A per-part instruction: each part is clamped, and a clamped part sets SAT. -/
theorem parts_gives {op : AluOp} {q : Instr} {i k : Nat → Nat → Int} (hq : exec q s = .next (aluRow s g user op fun c d a b => partsSat c d (i a b) (k a b)))
    (h : AtPC s g user (.alu op d a b) 1) :
    let e := i ((s.ctx g user).getX a) ((s.ctx g user).getX b)
    let f := k ((s.ctx g user).getX a) ((s.ctx g user).getX b)
    Gives q s fun t => EndsFree s t g user 1
      { s.ctx g user with
        x := (s.ctx g user).x.set d 0 (code 16 (max (-32768) (min 32767 e)) * 65536 + code 16 (max (-32768) (min 32767 f)))
        sat := (s.ctx g user).sat || decide (max (-32768) (min 32767 e) ≠ e) || decide (max (-32768) (min 32767 f) ≠ f) } :=
  gives_next hq rfl (endsFree_of_ends (aluRow_ends h _ (partsSat_eq ..)))

theorem cconj_gives (h : AtPC s g user (.alu .cconj d a b) 1) : Gives (.nCconj g user) s fun t =>
    ∃ q, (xQ ((s.ctx g user).getX a) ≠ -32768 → q = code 16 (-xQ ((s.ctx g user).getX a))) ∧ q < 65536 ∧ EndsFree s t g user 1
      { s.ctx g user with x := (s.ctx g user).x.set d 0 (code 16 (xI ((s.ctx g user).getX a)) * 65536 + q) } := by
  refine gives_next rfl rfl ⟨code 16 (if xQ ((s.ctx g user).getX a) = -32768 then ((takeFree s 16).1 : Int) else -xQ ((s.ctx g user).getX a)), fun hne => ?_, (code_lt 16 _).trans_eq (by norm_num),
    endsFree_of_takeFree (aluRow_ends (atPC_takeFree 16 h) _ ?_)⟩
  · rw [if_neg hne]
  · exact setX_xIQ ..

end

/-- Settles O53. -/
theorem newtArithmetic : Obligations.NewtArithmetic := by
  intro s g user d a b v c x y left sum dif
  refine ⟨add_gives, sub_gives,
    fun e he => ?_, fun e he => ?_, fun e he => ?_, cconj_gives, fun e he => ?_,
    fun e hrun he => gives_next rfl (newtRun_of_error hrun he) (newtFault_faults s g user (fetchInstr_error_lt he))⟩
  · simp only [List.mem_cons, List.not_mem_nil, or_false] at he
    rcases he with rfl | rfl | rfl
    · exact logic_gives (r := (· &&& ·)) rfl
    · exact logic_gives (r := (· ||| ·)) rfl
    · exact logic_gives (r := (· ^^^ ·)) rfl
  · simp only [List.mem_cons, List.not_mem_nil, or_false] at he
    rcases he with rfl | rfl | rfl | rfl | rfl | rfl | rfl
    · exact alu_gives (r := fun x y => x * 2 ^ (y % 32)) rfl
    · exact alu_gives (r := fun x y => x / 2 ^ (y % 32)) rfl
    · exact alu_gives (r := fun x y => sarWord x (y % 32)) rfl
    · exact alu_gives (r := fun x y => if sgn 32 x ≤ sgn 32 y then x else y) rfl
    · exact alu_gives (r := fun x y => if sgn 32 x ≤ sgn 32 y then y else x) rfl
    · exact alu_gives (r := fun x _ => x % 65536 * 65536 + x / 65536) rfl
    · exact alu_gives (r := fun x _ => x) rfl
  · simp only [List.mem_cons, List.not_mem_nil, or_false] at he
    rcases he with rfl | rfl
    · exact parts_gives (i := fun x y => xI x + xI y) (k := fun x y => xQ x + xQ y) rfl
    · exact parts_gives (i := fun x y => xI x - xI y) (k := fun x y => xQ x - xQ y) rfl
  · simp only [List.mem_cons, List.not_mem_nil, or_false] at he
    rcases he with rfl | rfl | rfl | rfl | rfl | rfl | rfl | rfl | rfl
    · exact imm_gives (r := fun _ _ x v => w32 (x + immSign v)) rfl fun _ _ _ _ => rfl
    · exact imm_gives (r := fun _ _ x v => x &&& v) rfl fun _ _ _ _ => rfl
    · exact imm_gives (r := fun _ _ x v => x ||| v) rfl fun _ _ _ _ => rfl
    · exact imm_gives (r := fun _ _ x v => x ^^^ v) rfl fun _ _ _ _ => rfl
    · exact imm_gives (r := fun _ _ x v => x * 2 ^ (v % 32)) rfl fun _ _ _ _ => rfl
    · exact imm_gives (r := fun _ _ x v => x / 2 ^ (v % 32)) rfl fun _ _ _ _ => rfl
    · exact imm_gives (r := fun _ _ x v => sarWord x (v % 32)) rfl fun _ _ _ _ => rfl
    · exact imm_gives (r := fun _ _ _ v => w32 (immSign v)) rfl fun _ _ _ _ => rfl
    · exact imm_gives (r := fun c d _ v => v * 65536 + c.getX d % 65536) rfl fun _ _ _ _ => rfl

/-! The moves of one Newt instruction, and class MAC (R205, R210, R215). -/

/-! ### Accumulators -/

theorem bne_int (a b : Int) : (a != b) = decide (a ≠ b) := by
  rw [decide_not]
  rfl

theorem accClamp_eq (v : Int) : accClamp v = max (-(2 ^ 39)) (min (2 ^ 39 - 1) v) := by
  unfold accClamp satInt
  norm_num
  split_ifs <;> omega

/-- A sum of both parts is clamped, and a clamped part sets AOV. -/
theorem accAdd_eq (c : CtxS) (k : Nat) (r i : Int) : accAdd c k r i =
    { c with
      ar := c.ar.set k 0 (max (-(2 ^ 39)) (min (2 ^ 39 - 1) (c.ar.get k 0 + r)))
      ai := c.ai.set k 0 (max (-(2 ^ 39)) (min (2 ^ 39 - 1) (c.ai.get k 0 + i)))
      aov := c.aov || decide (max (-(2 ^ 39)) (min (2 ^ 39 - 1) (c.ar.get k 0 + r)) ≠ c.ar.get k 0 + r) ||
        decide (max (-(2 ^ 39)) (min (2 ^ 39 - 1) (c.ai.get k 0 + i)) ≠ c.ai.get k 0 + i) } := by
  unfold accAdd CtxS.setAcc
  dsimp only
  rw [accClamp_eq, accClamp_eq, bne_int, bne_int]

/-! ### Moves within the core's memories -/

/-- The registers after the moves `ms` that loaded `vs`. -/
def afterMoves (ms : List Move) (c : CtxS) (vs : List (Nat × Nat)) : CtxS := ms.foldl moveUpdate (vs.foldl (fun c e => c.setX e.1 e.2) c)

theorem afterMoves_wait (ms : List Move) (c : CtxS) (vs : List (Nat × Nat)) (k : Option Nat) :
    afterMoves ms { c with wait := k } vs = { afterMoves ms c vs with wait := k } := by
  have hx (c : CtxS) : vs.foldl (fun c e => c.setX e.1 e.2) { c with wait := k } = { vs.foldl (fun c e => c.setX e.1 e.2) c with wait := k } := by
    induction vs generalizing c with
    | nil => rfl
    | cons e vs ih => exact ih (c.setX e.1 e.2)
  have hm (c : CtxS) : ms.foldl moveUpdate { c with wait := k } = { ms.foldl moveUpdate c with wait := k } := by
    induction ms generalizing c with
    | nil => rfl
    | cons m ms ih => exact (congrArg (ms.foldl moveUpdate) (moveUpdate_wait c m k)).trans (ih (moveUpdate c m))
  unfold afterMoves
  rw [hx, hm]

/-- A move that is permitted and stays within the core's memories. -/
def localMove (s : State) (g : Nat) (user : Bool) (c : CtxS) (m : Move) : Bool := permitted s g user c m.store (moveAddr c m) && !outside (moveAddr c m)

/-- What the loads of `ms` find in memory. -/
def loadedWords (s : State) (g : Nat) (c : CtxS) (ms : List Move) : List (Nat × Nat) :=
  (ms.filter fun m => !m.store).map fun m => (m.x, memWord s (newtBase g + moveAddr c m))

theorem runLoads_local {s : State} {g : Nat} {c : CtxS} (ue ce : Bool) {ms : List Move} (h : ∀ m ∈ ms, outside (moveAddr c m) = false) :
    runLoads g c ue ce s ms = (s, some (loadedWords s g c ms)) := by
  induction ms with
  | nil => rfl
  | cons m ms ih =>
    have hr := ih fun m hm => h m (List.mem_cons_of_mem _ hm)
    unfold runLoads
    cases hs : m.store
    · rw [if_neg Bool.false_ne_true, show coreRead s g c ue ce (moveAddr c m) = (0, memWord s (newtBase g + moveAddr c m), s) from
        if_neg (by simp [h m (List.mem_cons_self ..)])]
      dsimp only
      rw [if_neg (by simp), hr]
      simp [loadedWords, hs]
    · rw [if_pos rfl, hr]
      simp [loadedWords, hs]

/-- The stores of `ms` write their words and nothing else. -/
theorem runStores_local {g : Nat} {user : Bool} {c : CtxS} (s : State) {ms : List Move} (h : ∀ m ∈ ms, outside (moveAddr c m) = false) :
    ∃ u, runStores g user c s ms = (u, true) ∧ Frame s u [] [.mem] ∧
      ∀ n, (∀ m ∈ ms, m.store = true → n < newtBase g + moveAddr c m ∨ newtBase g + moveAddr c m + 4 ≤ n) → memByte u n = memByte s n := by
  induction ms generalizing s with
  | nil => exact ⟨s, rfl, frame_refl .., fun _ _ => rfl⟩
  | cons m ms ih =>
    have hr := fun m hm => h m (List.mem_cons_of_mem _ hm)
    unfold runStores
    cases hs : m.store
    · obtain ⟨u, hu, hf, hm⟩ := ih s hr
      exact ⟨u, (if_neg Bool.false_ne_true).trans hu, hf, fun n hn => hm n fun m hm => hn m (List.mem_cons_of_mem _ hm)⟩
    · obtain ⟨u, hu, hf, hm⟩ := ih (setMemWord s (newtBase g + moveAddr c m) (c.getX m.x)) hr
      refine ⟨u, ?_, frame_step (frame_setMemWord _ _ (by simp) (frame_refl ..)) hf, fun n hn => ?_⟩
      · rw [if_pos rfl, show coreWrite s g user c (moveAddr c m) (c.getX m.x) = (0, setMemWord s (newtBase g + moveAddr c m) (c.getX m.x)) from
          if_neg (by simp [h m (List.mem_cons_self ..)])]
        exact (if_neg (by simp)).trans hu
      · exact (hm n fun m hm => hn m (List.mem_cons_of_mem _ hm)).trans (memByte_setMemWord_out s _ (hn m (List.mem_cons_self ..) hs))

theorem runMoves_of_runs {s s1 s2 : State} {g : Nat} {user ue ce : Bool} {c0 : CtxS} (c : CtxS) {ms : List Move} {vs : List (Nat × Nat)}
    (hp : ∀ m ∈ ms, permitted s g user c0 m.store (moveAddr c0 m) = true) (hl : runLoads g c0 ue ce s ms = (s1, some vs))
    (hs : runStores g user c0 s1 ms = (s2, true)) : runMoves s g user ue ce c0 c ms = .ok (s2, afterMoves ms c vs) := by
  unfold runMoves
  rw [if_neg, hl]
  · dsimp only
    rw [hs]
    rfl
  · simpa using hp

theorem runMoves_denied {s : State} {g : Nat} {user ue ce : Bool} {c0 : CtxS} (c : CtxS) {ms : List Move} {m : Move} (hm : m ∈ ms)
    (hp : permitted s g user c0 m.store (moveAddr c0 m) = false) : runMoves s g user ue ce c0 c ms = .error (2, s) :=
  if_pos (List.any_eq_true.mpr ⟨m, hm, by simp [hp]⟩)

/-! ### Instructions that move -/

/-- An instruction that ended in sequence, in a state `u` that its moves left. -/
theorem newtRun_moves {s u : State} {g : Nat} {user : Bool} {i : NI} {w : Nat} {eff : NI → Option (CtxS → Nat → NRes)} {f : CtxS → Nat → NRes} {c : CtxS}
    {bus : Nat × Nat × Nat} (h : AtPC s g user i w) (hf : eff i = some f) (hn : u.newts = s.newts)
    (ho : f { s.ctx g user with wait := none } (((s.ctx g user).pc + w) % 32768) =
      .ok { s := u, c := { c with wait := none }, pc := ((s.ctx g user).pc + w) % 32768, bus := bus }) :
    (newtRun s g user eff).ctx g user = stepOn s g user w c ∧ (newtRun s g user eff).ctx g (!user) = s.ctx g (!user) ∧
      Frame u (newtRun s g user eff) (newtRegs g) [.newts] := by
  rw [newtRun_of_ok h hf ho]
  obtain ⟨hctx, hframe⟩ := newtFinish_effect (o := { s := u, c := { c with wait := none }, pc := ((s.ctx g user).pc + w) % 32768, bus := bus }) g user
    (s.ctx g user).pc w rfl
  exact ⟨hctx, (newtFinish_other ..).trans (ctx_congr hn g _), hframe⟩

section
variable {s : State} {g : Fin 8} {user ue ce : Bool} {k a b w : Nat} {ms : List Move} {op : MacOp} {f : CtxS → Nat → Nat → Nat → CtxS}

theorem macRow_of_moves {u : State} {c : CtxS} (h : AtPC s g user (.mac op k a b ms) w) (hn : u.newts = s.newts)
    (hr : runMoves s g user ue ce { s.ctx g user with wait := none } (f { s.ctx g user with wait := none } k ((s.ctx g user).getX a) ((s.ctx g user).getX b)) ms =
      .ok (u, { c with wait := none })) :
    (macRow s g user ue ce op f).ctx g user = stepOn s g user w c ∧ (macRow s g user ue ce op f).ctx g (!user) = s.ctx g (!user) ∧
      Frame u (macRow s g user ue ce op f) (newtRegs g) [.newts] :=
  newtRun_moves h (if_pos rfl) hn (by
    dsimp only
    rw [show runMoves s g user ue ce { s.ctx g user with wait := none } (f { s.ctx g user with wait := none } k
      (CtxS.getX { s.ctx g user with wait := none } a) (CtxS.getX { s.ctx g user with wait := none } b)) ms = _ from hr])

/-- A row of class MAC: its moves within the core, the moves of any outcome, and a move that is not permitted. -/
theorem macRow_gives {q : Instr} {c' : CtxS} (hq : exec q s = .next (macRow s g user ue ce op f))
    (hc : f { s.ctx g user with wait := none } k ((s.ctx g user).getX a) ((s.ctx g user).getX b) = { c' with wait := none })
    (h : AtPC s g user (.mac op k a b ms) w) :
    (ms.all (localMove s g user (s.ctx g user)) = true → Gives q s fun t =>
      (t.ctx g user = stepOn s g user w (afterMoves ms c' (loadedWords s g (s.ctx g user) ms)) ∧ t.ctx g (!user) = s.ctx g (!user)) ∧
      Frame s t (newtRegs g) [.newts, .mem] ∧
      ∀ n, (∀ m ∈ ms, m.store = true → n < newtBase g + moveAddr (s.ctx g user) m ∨ newtBase g + moveAddr (s.ctx g user) m + 4 ≤ n) → memByte t n = memByte s n) ∧
    ((∀ m ∈ ms, permitted s g user (s.ctx g user) m.store (moveAddr (s.ctx g user) m) = true) → ∀ s1 vs s2,
      runLoads g { s.ctx g user with wait := none } ue ce s ms = (s1, some vs) → runStores g user { s.ctx g user with wait := none } s1 ms = (s2, true) →
      s2.newts = s1.newts → s1.newts = s.newts →
      Gives q s fun t => (t.ctx g user = stepOn s g user w (afterMoves ms c' vs) ∧ t.ctx g (!user) = s.ctx g (!user)) ∧ t.mem = s2.mem) ∧
    (∀ m ∈ ms, permitted s g user (s.ctx g user) m.store (moveAddr (s.ctx g user) m) = false → Gives q s fun t => NewtFaults s t g user 2) := by
  have hafter (vs : List (Nat × Nat)) : afterMoves ms (f { s.ctx g user with wait := none } k ((s.ctx g user).getX a) ((s.ctx g user).getX b)) vs =
      { afterMoves ms c' vs with wait := none } := by rw [hc, afterMoves_wait]
  refine ⟨fun hl => ?_, fun hp s1 vs s2 hload hstore hn2 hn1 => ?_, fun m hm hp => ?_⟩
  · have hl' : ∀ m ∈ ms, permitted s g user (s.ctx g user) m.store (moveAddr (s.ctx g user) m) = true ∧ outside (moveAddr (s.ctx g user) m) = false := fun m hm => by
      have := List.all_eq_true.mp hl m hm
      simpa [localMove] using this
    obtain ⟨u, hu, hf, hmem⟩ := runStores_local (g := g) (user := user) (c := { s.ctx g user with wait := none }) s fun m hm => (hl' m hm).2
    have hr := runMoves_of_runs (c0 := { s.ctx g user with wait := none }) (f { s.ctx g user with wait := none } k ((s.ctx g user).getX a) ((s.ctx g user).getX b)) (fun m hm => (hl' m hm).1)
      (runLoads_local ue ce fun m hm => (hl' m hm).2) hu
    rw [hafter] at hr
    obtain ⟨h1, h2, h3⟩ := macRow_of_moves h (samePart_of_frame hf (p := .newts) (by simp)) hr
    refine gives_next hq rfl ⟨⟨h1, h2⟩, frame_step (frame_mono hf (by simp) (by simp)) (frame_mono h3 (List.Subset.refl _) (by simp)), fun n hn => ?_⟩
    exact (memByte_congr (samePart_of_frame h3 (p := .mem) (by simp)) n).trans (hmem n hn)
  · have hr := runMoves_of_runs (c0 := { s.ctx g user with wait := none }) (f { s.ctx g user with wait := none } k ((s.ctx g user).getX a) ((s.ctx g user).getX b)) hp hload hstore
    rw [hafter] at hr
    obtain ⟨h1, h2, h3⟩ := macRow_of_moves h (hn2.trans hn1) hr
    exact gives_next hq rfl ⟨⟨h1, h2⟩, samePart_of_frame h3 (p := .mem) (by simp)⟩
  · refine gives_next hq (newtRun_of_fault h (if_pos rfl) ?_) (newtFault_faults s g user (by decide))
    dsimp only
    rw [runMoves_denied (c0 := { s.ctx g user with wait := none }) _ hm hp]

end

/-! Newt instructions of classes LDST, ACC, PTR and LONG (R206 to R210). -/

section
variable {s : State} {g : Fin 8} {user ue ce : Bool} {k a b w : Nat}

/-! ### LDST -/

theorem ldst_of_moves {u : State} {m : Move} {c : CtxS} (h : AtPC s g user (.ldst m) 1) (hn : u.newts = s.newts)
    (hr : runMoves s g user ue ce { s.ctx g user with wait := none } { s.ctx g user with wait := none } [m] = .ok (u, { c with wait := none })) :
    (ldstRow s g user ue ce m.store).ctx g user = stepOn s g user 1 c ∧ (ldstRow s g user ue ce m.store).ctx g (!user) = s.ctx g (!user) ∧
      Frame u (ldstRow s g user ue ce m.store) (newtRegs g) [.newts] :=
  newtRun_moves h (if_pos rfl) hn (by rw [hr])

theorem ld_gives {m : Move} (h : AtPC s g user (.ldst m) 1) (hl : localMove s g user (s.ctx g user) m = true) (hm : m.store = false) :
    Gives (.nLd g user ue ce) s fun t =>
      (t.ctx g user = stepOn s g user 1 (moveUpdate ((s.ctx g user).setX m.x (memWord s (newtBase g + moveAddr (s.ctx g user) m))) m) ∧
        t.ctx g (!user) = s.ctx g (!user)) ∧ t.mem = s.mem ∧ Frame s t (newtRegs g) [.newts] := by
  obtain ⟨hp, ho⟩ : permitted s g user (s.ctx g user) m.store (moveAddr (s.ctx g user) m) = true ∧ outside (moveAddr (s.ctx g user) m) = false := by
    simpa [localMove] using hl
  obtain ⟨h1, h2, h3⟩ := ldst_of_moves (c := moveUpdate ((s.ctx g user).setX m.x (memWord s (newtBase g + moveAddr (s.ctx g user) m))) m) h rfl
    ((runMoves_load (ue := ue) (ce := ce) (c := { s.ctx g user with wait := none }) hm hp ho).trans (by rw [← moveUpdate_wait]; rfl))
  rw [hm] at h1 h2 h3
  exact gives_next rfl rfl ⟨⟨h1, h2⟩, samePart_of_frame h3 (p := .mem) (by simp), h3⟩

theorem st_gives {m : Move} (h : AtPC s g user (.ldst m) 1) (hl : localMove s g user (s.ctx g user) m = true) (hm : m.store = true) :
    Gives (.nSt g user) s fun t => (t.ctx g user = stepOn s g user 1 (moveUpdate (s.ctx g user) m) ∧ t.ctx g (!user) = s.ctx g (!user)) ∧
      memWord t (newtBase g + moveAddr (s.ctx g user) m) = (s.ctx g user).getX m.x % 2 ^ 32 ∧ Frame s t (newtRegs g) [.newts, .mem] ∧
      ∀ n, (n < newtBase g + moveAddr (s.ctx g user) m ∨ newtBase g + moveAddr (s.ctx g user) m + 4 ≤ n) → memByte t n = memByte s n := by
  obtain ⟨hp, ho⟩ : permitted s g user (s.ctx g user) m.store (moveAddr (s.ctx g user) m) = true ∧ outside (moveAddr (s.ctx g user) m) = false := by
    simpa [localMove] using hl
  have hf : Frame s (setMemWord s (newtBase g + moveAddr (s.ctx g user) m) ((s.ctx g user).getX m.x)) [] [.mem] := frame_setMemWord _ _ (by simp) (frame_refl ..)
  obtain ⟨h1, h2, h3⟩ := ldst_of_moves (c := moveUpdate (s.ctx g user) m) h (samePart_of_frame hf (p := .newts) (by simp))
    ((runMoves_store (ue := false) (ce := false) (c := { s.ctx g user with wait := none }) hm hp ho).trans (by rw [← moveUpdate_wait]; rfl))
  rw [hm] at h1 h2 h3
  have hmem := samePart_of_frame h3 (p := .mem) (by simp)
  refine gives_next rfl rfl ⟨⟨h1, h2⟩, (memWord_congr hmem _).trans (memWord_setMemWord ..),
    frame_step (frame_mono hf (by simp) (by simp)) (frame_mono h3 (List.Subset.refl _) (by simp)), fun n hn => (memByte_congr hmem n).trans (memByte_setMemWord_out s _ hn)⟩

theorem ldst_denied {m : Move} (h : AtPC s g user (.ldst m) 1) (hp : permitted s g user (s.ctx g user) m.store (moveAddr (s.ctx g user) m) = false) :
    NewtFaults s (ldstRow s g user ue ce m.store) g user 2 := by
  have hr : ldstRow s g user ue ce m.store = newtFault s g user 2 := by
    refine newtRun_of_fault h (if_pos rfl) ?_
    dsimp only
    rw [runMoves_denied (c0 := { s.ctx g user with wait := none }) _ (List.mem_singleton_self m) hp]
  rw [hr]
  exact newtFault_faults s g user (by decide)

/-! ### ACC -/

/-- The part of a result that fits 40 bits is the result. -/
theorem accOr_of_fits {v : Int} (f : Nat) (h : max (-(2 ^ 39)) (min (2 ^ 39 - 1) v) = v) : accOr v f = v := if_pos ((accClamp_eq v).trans h)

/-- An instruction whose parts `r` and `p`, and AOV, are open where a result does not fit 40 bits. -/
theorem openAcc_ends {u : State} {i : NI} {eff : NI → Option (CtxS → Nat → NRes)} {x y : Nat} {z : Bool} {r p : CtxS → Int} (h : AtPC u g user i 1)
    (hu : u.newts = s.newts) (hfree : Frame s u [] [.free])
    (hf : eff i = plain u fun c => { c.setAcc k (accOr (r c) x) (accOr (p c) y) with aov := c.aov || ((accClamp (r c) != r c || accClamp (p c) != p c) && z) })
    (hr : ∀ c : CtxS, r { c with wait := none } = r c ∧ p { c with wait := none } = p c) :
    let c := s.ctx g user
    let t := newtRun u g user eff
    ∃ e f o, (max (-(2 ^ 39)) (min (2 ^ 39 - 1) (r c)) = r c → e = r c) ∧ (max (-(2 ^ 39)) (min (2 ^ 39 - 1) (p c)) = p c → f = p c) ∧
      (max (-(2 ^ 39)) (min (2 ^ 39 - 1) (r c)) = r c → max (-(2 ^ 39)) (min (2 ^ 39 - 1) (p c)) = p c → o = c.aov) ∧
      (t.ctx g user = stepOn s g user 1 { c with ar := c.ar.set k 0 e, ai := c.ai.set k 0 f, aov := o } ∧ t.ctx g (!user) = s.ctx g (!user)) ∧
      Frame s t (newtRegs g) [.newts, .free] := by
  intro c t
  obtain ⟨hr1, hr2⟩ := hr c
  have hctx : u.ctx g user = c := ctx_congr hu g user
  have hstep (c' : CtxS) : stepOn u g user 1 c' = stepOn s g user 1 c' := by
    unfold stepOn
    rw [hctx]
  obtain ⟨h1, h2, h3⟩ := newtRun_plain h hf (c := { c with
    ar := c.ar.set k 0 (accOr (r c) x), ai := c.ai.set k 0 (accOr (p c) y),
    aov := c.aov || ((accClamp (r c) != r c || accClamp (p c) != p c) && z) }) (by
      rw [hctx, hr1, hr2]
      rfl)
  refine ⟨_, _, _, accOr_of_fits x, accOr_of_fits y, fun hc hd => ?_, ⟨h1.trans (hstep _), h2.trans (ctx_congr hu g _)⟩,
    frame_step (frame_mono hfree (by simp) (by simp)) (frame_mono h3 (List.Subset.refl _) (by simp))⟩
  rw [accClamp_eq, accClamp_eq, hc, hd]
  simp

/-! ### PTR -/

theorem ptrRow_gives {op : PtrOp} {q : Instr} {f : CtxS → Nat → Nat → Nat → CtxS} {c' : CtxS} (hq : exec q s = .next (ptrRow s g user op f))
    (hc : f { s.ctx g user with wait := none } k a b = { c' with wait := none }) (h : AtPC s g user (.ptr op k a b) 1) :
    Gives q s fun t => (t.ctx g user = stepOn s g user 1 c' ∧ t.ctx g (!user) = s.ctx g (!user)) ∧ Frame s t (newtRegs g) [.newts] := by
  obtain ⟨h1, h2, h3⟩ : Ends s (ptrRow s g user op f) g user 1 c' := newtRun_plain h (if_pos rfl) hc
  exact gives_next hq rfl ⟨⟨h1, h2⟩, h3⟩

theorem circ_gives (h : AtPC s g user (.ptr .circ k a b) 1) :
    let x := (s.ctx g user).getX a
    let y := (s.ctx g user).getX b
    (circOk (x / 4 * 4) y = true → Gives (.nCirc g user) s fun t =>
      (t.ctx g user = stepOn s g user 1 { s.ctx g user with b := (s.ctx g user).b.set k 0 (x / 4 * 4), l := (s.ctx g user).l.set k 0 y } ∧
        t.ctx g (!user) = s.ctx g (!user)) ∧ Frame s t (newtRegs g) [.newts]) ∧
    (circOk (x / 4 * 4) y = false → Gives (.nCirc g user) s fun t => NewtFaults s t g user 5) := by
  intro x y
  refine ⟨fun ho => ?_, fun ho => ?_⟩
  · exact gives_next rfl (newtRun_of_ok h rfl (if_pos ho)) (and_assoc.mpr (newtFinish_ends _ rfl rfl rfl rfl))
  · exact gives_next rfl (newtRun_of_fault h rfl (if_neg (ne_of_eq_of_ne ho Bool.false_ne_true))) (newtFault_faults s g user (by decide))

end

theorem ends_left {s t : State} {g w : Nat} {user : Bool} {c : CtxS} (h : Ends s t g user w c) : t.ctx g user = stepOn s g user w c ∧ t.ctx g (!user) = s.ctx g (!user) :=
  ⟨h.1, h.2.1⟩

/-- LONG's register does not touch the wait. -/
theorem longSet_wait (c : CtxS) (file k v : Nat) (n : Option Nat) :
    (if file = 0 then CtxS.setX { c with wait := n } k v else if file = 1 then CtxS.setP { c with wait := n } k v else CtxS.setM { c with wait := n } k v) =
      { (if file = 0 then c.setX k v else if file = 1 then c.setP k v else c.setM k v) with wait := n } := by
  split_ifs <;> rfl

theorem frame_takeFree {s t : State} (k : Nat) (h : Frame s t [] [.free]) : Frame s (takeFree t k).2 [] [.free] := frame_free _ (List.mem_singleton_self _) h

/-- Settles O54. -/
theorem newtAccumulatorsAndMoves : Obligations.NewtAccumulatorsAndMoves := by
  intro s g user ue ce k a b w ms c x y left clamp put add after local' words
  refine ⟨fun e he => ?_, fun m h hl => ⟨ld_gives h hl, st_gives h hl⟩, fun m h hp => ?_, fun d sh rnd h => ?_, fun h => ?_, fun e he => ?_, fun e he => ?_, circ_gives,
    fun file v h => ?_⟩
  · simp only [List.mem_cons, List.not_mem_nil, or_false] at he
    rcases he with rfl | rfl | rfl | rfl | rfl | rfl | rfl | rfl
    · exact macRow_gives rfl rfl
    · exact macRow_gives rfl (accAdd_eq ..)
    · exact macRow_gives rfl (accAdd_eq ..)
    · exact macRow_gives rfl (accAdd_eq ..)
    · exact macRow_gives rfl rfl
    · exact macRow_gives rfl (accAdd_eq ..)
    · exact macRow_gives rfl (accAdd_eq ..)
    · exact macRow_gives rfl rfl
  · have hd := ldst_denied (ue := if m.store then false else ue) (ce := if m.store then false else ce) h hp
    cases hm : m.store
    · rw [hm] at hd
      exact gives_next rfl rfl hd
    · rw [hm] at hd
      exact gives_next rfl rfl hd
  · exact gives_next rfl rfl (ends_left (newtRun_plain h rfl (partsSat_eq ..)))
  · exact gives_next rfl rfl (ends_left (newtRun_plain h rfl rfl))
  · simp only [List.mem_cons, List.not_mem_nil, or_false] at he
    rcases he with rfl | rfl
    · exact fun h => gives_next rfl rfl (openAcc_ends (r := fun c => c.ar.get k 0 + c.ar.get b 0) (p := fun c => c.ai.get k 0 + c.ai.get b 0)
        (atPC_takeFree 1 (atPC_takeFree 40 (atPC_takeFree 40 h))) rfl (frame_takeFree _ (frame_takeFree _ (frame_takeFree _ (frame_refl ..)))) rfl fun _ => ⟨rfl, rfl⟩)
    · exact fun h => gives_next rfl rfl (openAcc_ends (r := fun c => -c.ar.get k 0) (p := fun c => -c.ai.get k 0)
        (atPC_takeFree 1 (atPC_takeFree 40 (atPC_takeFree 40 h))) rfl (frame_takeFree _ (frame_takeFree _ (frame_takeFree _ (frame_refl ..)))) rfl fun _ => ⟨rfl, rfl⟩)
  · simp only [List.mem_cons, List.not_mem_nil, or_false] at he
    rcases he with rfl | rfl | rfl | rfl | rfl | rfl
    · exact ptrRow_gives rfl rfl
    · exact ptrRow_gives rfl rfl
    · exact ptrRow_gives rfl rfl
    · exact ptrRow_gives rfl rfl
    · exact ptrRow_gives rfl rfl
    · exact ptrRow_gives rfl rfl
  · exact gives_next rfl rfl (and_assoc.mpr (newtRun_plain h rfl (longSet_wait ..)))

/-! The user-kernel slot, core faults and the fall-back (R213, R215, R220 to R224). -/

/-! ### The slot -/

theorem newt_congr {s t : State} (h : t.newts = s.newts) (g : Nat) : t.newt g = s.newt g := by
  unfold State.newt
  rw [h]

/-- The fields of a core's block are no event's. -/
theorem newtKey_ne_event {g i v x k : Nat} {p : Acc} {c : Cls} : ∀ f ∈ eventFields, Fld.key ⟨0x840000 + k + 0x100000 * g, i, v, p, c, x⟩ ≠ f.key := by
  rw [Nat.add_assoc]
  exact key_ne_event (by decide)

/-- A refused START or STOP. -/
theorem userRefused_effect (s : State) : (Room s → Queued s (userRefused s) 0x1040 0) ∧ Frame s (userRefused s) eventRegs [.events] :=
  ⟨fun hr => queued_raise 0 rfl rfl hr (by decide), frame_raise_self ..⟩

/-- The kernel begins: at ENTRY with empty stacks and the registers of the view. -/
theorem beginRun_effect (s : State) (g : Nat) : let t := beginRun s g
    uState t g = (if fallback s g && zbUse s g then uSuspended else uRunning) ∧ (t.newt g).cycles = 0 ∧ (t.newt g).stopReq = false ∧
    t.ctx g true = { (s.newt g).view with pc := (s.newt g).entry, loops := [], calls := [], wait := none } ∧ t.ctx g false = s.ctx g false ∧
    rd t (Reg.NEWT_USER_COUNT_RUNS g) = min (rd s (Reg.NEWT_USER_COUNT_RUNS g) + 1) (2 ^ (Reg.NEWT_USER_COUNT_RUNS g).width - 1) ∧
    Frame s t [Reg.NEWT_STATUS_USTATE g, Reg.NEWT_USER_COUNT_RUNS g] [.newts] := by
  intro t
  let a := s.modNewt g fun x => { x with
    user := { x.view with pc := x.entry, loops := [], calls := [], wait := none }, cycles := 0, stopReq := false, auto := false }
  let st := if fallback s g && zbUse s g then uSuspended else uRunning
  have hst : st < 8 := by
    unfold st
    split <;> decide
  have hend : t = bump (setU a g st) (Reg.NEWT_USER_COUNT_RUNS g) 1 := rfl
  have ht : t.newt g = a.newt g := newt_congr ((wr_newts ..).trans (wr_newts ..)) g
  have ha : a.newt g = { s.newt g with
    user := { (s.newt g).view with pc := (s.newt g).entry, loops := [], calls := [], wait := none }, cycles := 0, stopReq := false, auto := false } := newt_modNewt ..
  refine ⟨?_, ?_, ?_, ?_, ?_, ?_, frame_bump 1 (by simp) (frame_wr _ (by simp) (frame_modNewt g _ (by simp) (frame_refl ..)))⟩
  · rw [hend]
    exact (rd_bump_ne (f := Reg.NEWT_USER_COUNT_RUNS g) (g := Reg.NEWT_STATUS_USTATE g) (setU a g st) 1 (key_ne (by decide))).trans ((rd_wr a (Reg.NEWT_STATUS_USTATE g) st).trans (Nat.mod_eq_of_lt hst))
  · rw [ht, ha]
  · rw [ht, ha]
  · exact (congrArg NewtS.user (ht.trans ha)).trans rfl
  · exact (congrArg NewtS.vendor (ht.trans ha)).trans rfl
  · rw [hend]
    refine (rd_bump (setU a g st) (Reg.NEWT_USER_COUNT_RUNS g) 1).trans ?_
    rw [show rd (setU a g st) (Reg.NEWT_USER_COUNT_RUNS g) = rd s (Reg.NEWT_USER_COUNT_RUNS g) from rd_wr_ne a st (key_ne (by decide))]

theorem userStart_runs {s : State} {g : Fin 8} (he : regionEnabled s g = true) (hs : uState s g = uStopped) (hm : userMode s g = true)
    (hp : ((List.range 8).all fun i => circOk ((s.newt g).bSh.get i 0) ((s.newt g).lSh.get i 0)) = true) :
    let x := s.newt g
    Gives (.userStart g) s fun t => (uState t g = (if fallback s g && zbUse s g then uSuspended else uRunning) ∧ (t.newt g).cycles = 0 ∧ (t.newt g).stopReq = false ∧
      t.ctx g true = { ({ x.view with b := x.bSh, l := x.lSh } : CtxS) with pc := x.entry, loops := [], calls := [], wait := none } ∧ t.ctx g false = s.ctx g false ∧
      rd t (Reg.NEWT_USER_COUNT_RUNS g) = min (rd s (Reg.NEWT_USER_COUNT_RUNS g) + 1) (2 ^ (Reg.NEWT_USER_COUNT_RUNS g).width - 1)) ∧
      rd t (Reg.NEWT_USER_FAULT_CODE g) = 0 ∧ rd t (Reg.NEWT_USER_FAULT_FAULT_PC g) = 0 ∧
      Frame s t [Reg.NEWT_STATUS_USTATE g, Reg.NEWT_USER_FAULT_CODE g, Reg.NEWT_USER_FAULT_FAULT_PC g, Reg.NEWT_USER_COUNT_RUNS g] [.newts] := by
  intro x
  let a := s.modNewt g fun x => { x with view := { x.view with b := x.bSh, l := x.lSh } }
  let b := wr a (Reg.NEWT_USER_FAULT_CODE g) 0
  let c := wr b (Reg.NEWT_USER_FAULT_FAULT_PC g) 0
  have hstart : userStart s g = beginRun c g := (if_pos ⟨hs, hm⟩).trans (if_pos hp)
  have hc : Frame s c [Reg.NEWT_USER_FAULT_CODE g, Reg.NEWT_USER_FAULT_FAULT_PC g] [.newts] :=
    frame_wr _ (by simp) (frame_wr _ (by simp) (frame_modNewt g _ (by simp) (frame_refl ..)))
  have hn : c.newt g = { x with view := { x.view with b := x.bSh, l := x.lSh } } := (newt_congr ((wr_newts ..).trans (wr_newts ..)) g).trans (newt_modNewt ..)
  have hfall : fallback c g = fallback s g := on_congr (rd_frame_two hc (key_ne (by decide)) (key_ne (by decide)))
  have hz : zbUse c g = zbUse s g := by
    unfold zbUse
    rw [hn]
  obtain ⟨h1, h2, h3, h4, h5, h6, h7⟩ := beginRun_effect c g
  refine gives_next rfl ((if_pos he).trans hstart) ⟨⟨?_, h2, h3, ?_, ?_, ?_⟩, ?_, ?_, frame_step (frame_mono hc (by simp) (by simp)) (frame_mono h7 (by simp) (by simp))⟩
  · rw [h1, hfall, hz]
  · rw [h4, hn]
  · exact h5.trans (show (c.newt g).vendor = x.vendor by rw [hn])
  · rw [h6, rd_frame_two hc (g := Reg.NEWT_USER_COUNT_RUNS g) (key_ne (by decide)) (key_ne (by decide))]
  · exact (rd_frame_two h7 (key_ne (by decide)) (key_ne (by decide))).trans ((rd_wr_ne b 0 (key_ne (by decide))).trans (rd_wr a (Reg.NEWT_USER_FAULT_CODE g) 0))
  · exact (rd_frame_two h7 (key_ne (by decide)) (key_ne (by decide))).trans (rd_wr b (Reg.NEWT_USER_FAULT_FAULT_PC g) 0)

theorem userStart_unpaired {s : State} {g : Fin 8} (he : regionEnabled s g = true) (hs : uState s g = uStopped) (hm : userMode s g = true)
    (hp : ((List.range 8).all fun i => circOk ((s.newt g).bSh.get i 0) ((s.newt g).lSh.get i 0)) = false) :
    Gives (.userStart g) s fun t => uState t g = uStopped ∧ t.newts = s.newts ∧ rd t Reg.CFG_STATUS_CFG_PAIR_ERR = 1 := by
  have hf : Frame s (cfgError s true (0x841000 + 0x100000 * g + 128)) cfgRegs [.events] :=
    frame_cfgError true _ (List.subset_append_left ..) (List.subset_append_right ..) (List.mem_singleton_self _) (frame_refl ..)
  refine gives_next rfl ((if_pos he).trans ((if_pos ⟨hs, hm⟩).trans (if_neg (ne_of_eq_of_ne hp Bool.false_ne_true))))
    ⟨(rd_cfgError_high s true _ (lt_key (by decide)).le).trans hs, samePart_of_frame hf (p := .newts) (by simp), rd_cfgError_pairErr ..⟩

theorem stopKernel_effect (s : State) (g : Nat) : uState (stopKernel s g) g = uStopped ∧ ((stopKernel s g).newt g).view = (s.newt g).user ∧
    Frame s (stopKernel s g) [Reg.NEWT_STATUS_USTATE g] [.newts] := by
  refine ⟨rd_wr (takeView s g) (Reg.NEWT_STATUS_USTATE g) uStopped, ?_, frame_wr _ (by simp) (frame_takeView g (by simp) (frame_refl ..))⟩
  refine (congrArg NewtS.view (newt_congr (wr_newts ..) g)).trans ?_
  unfold takeView
  rw [newt_modNewt]

theorem userStop_running {s : State} {g : Fin 8} (he : regionEnabled s g = true) (hs : uState s g = uRunning) (hl : (s.newt g).user.loops ≠ []) :
    Gives (.userStop g) s fun t => t.newt g = { s.newt g with stopReq := true } ∧ Frame s t [] [.newts] :=
  gives_next rfl ((if_pos he).trans ((if_neg (by rw [hs]; decide)).trans (if_pos ⟨hs, by simp [hl]⟩))) ⟨newt_modNewt .., frame_modNewt g _ (by simp) (frame_refl ..)⟩

theorem userStop_stops {s : State} {g : Fin 8} (he : regionEnabled s g = true)
    (hs : uState s g = uRunning ∧ (s.newt g).user.loops = [] ∨ uState s g = uWaiting ∨ uState s g = uSuspended ∨ uState s g = uFault) :
    Gives (.userStop g) s fun t => uState t g = uStopped ∧ (t.newt g).view = (s.newt g).user ∧ Frame s t [Reg.NEWT_STATUS_USTATE g] [.newts] := by
  refine gives_next rfl ((if_pos he).trans ((if_neg ?_).trans (if_neg ?_))) (stopKernel_effect s g)
  · rcases hs with ⟨h, -⟩ | h | h | h <;> (rw [h]; decide)
  · rcases hs with ⟨-, h⟩ | h | h | h <;> simp [h, uWaiting, uSuspended, uFault, uRunning]

/-! ### Triggers -/

theorem userTrigger_begins {s : State} {g k : Nat} (hb : bit (rd s (Reg.NEWT_USER_CTRL_TRIG_EN g)) k = true) (hs : uState s g = uWaiting) :
    userTrigger s g k = beginRun s g := (if_pos hb).trans (if_pos hs)

theorem userTrigger_overrun {s : State} {g k : Nat} (hb : bit (rd s (Reg.NEWT_USER_CTRL_TRIG_EN g)) k = true) (hs : uState s g = uRunning ∨ uState s g = uSuspended) :
    userTrigger s g k = raiseIf (rd s (Reg.NEWT_USER_COUNT_OVERRUN g) == 0) (bump s (Reg.NEWT_USER_COUNT_OVERRUN g) 1) 0x2063 0 :=
  (if_pos hb).trans ((if_neg (by rcases hs with h | h <;> (rw [h]; decide))).trans (if_pos hs))

theorem overrun_effect (s : State) (g : Nat) : let t := raiseIf (rd s (Reg.NEWT_USER_COUNT_OVERRUN g) == 0) (bump s (Reg.NEWT_USER_COUNT_OVERRUN g) 1) 0x2063 0
    rd t (Reg.NEWT_USER_COUNT_OVERRUN g) = min (rd s (Reg.NEWT_USER_COUNT_OVERRUN g) + 1) (2 ^ (Reg.NEWT_USER_COUNT_OVERRUN g).width - 1) ∧
    (rd s (Reg.NEWT_USER_COUNT_OVERRUN g) = 0 → Room s → Queued s t 0x2063 0) ∧ Frame s t (Reg.NEWT_USER_COUNT_OVERRUN g :: eventRegs) [.events] := by
  refine ⟨(rd_raiseIf _ _ _ _ (newtKey_ne_event (k := 0x14))).trans (rd_bump ..), fun h0 hr => ?_,
    frame_raiseIf _ _ _ (List.subset_cons_self ..) (List.mem_singleton_self _) (frame_bump 1 (List.mem_cons_self ..) (frame_refl ..))⟩
  rw [show raiseIf _ _ _ _ = _ from if_pos (by simp [h0])]
  exact queued_raise 0 (wr_rst ..) (wr_events ..) hr (by decide)

theorem userTrigger_idle {s : State} {g k : Nat}
    (h : bit (rd s (Reg.NEWT_USER_CTRL_TRIG_EN g)) k = false ∨ uState s g = uEmpty ∨ uState s g = uStopped ∨ uState s g = uFault) : userTrigger s g k = s := by
  rcases h with h | h
  · exact if_neg (by simp [h])
  · have hn : uState s g ≠ uWaiting ∧ ¬(uState s g = uRunning ∨ uState s g = uSuspended) := by
      rcases h with h | h | h <;> (rw [h]; decide)
    unfold userTrigger
    split
    · exact (if_neg hn.1).trans (if_neg hn.2)
    · rfl

/-! The fall-back (R213) and the faults of a core (R211, R215). -/

/-! ### Loops over the regions -/

/-- A loop whose turns leave the others alone does at `k` what one turn does. -/
theorem forEach_at {β : Type} (p : State → β) {g : State → Nat → State} {l : List Nat} {k : Nat} (hn : l.Nodup) (hk : k ∈ l)
    (hother : ∀ s, ∀ a ∈ l, k ≠ a → p (g s a) = p s) (s : State) : ∃ u, p u = p s ∧ p (forEach l s g) = p (g u k) := by
  induction l generalizing s with
  | nil => exact absurd hk List.not_mem_nil
  | cons a l ih =>
    obtain ⟨ha, hl⟩ := List.nodup_cons.mp hn
    rcases List.mem_cons.mp hk with rfl | hk
    · exact ⟨s, rfl, forEach_same p (fun s b hb => hother s b (List.mem_cons_of_mem _ hb) fun h => ha (h ▸ hb)) (g s k)⟩
    · obtain ⟨u, hu, hg⟩ := ih hl hk (fun s b hb => hother s b (List.mem_cons_of_mem _ hb)) (g s a)
      exact ⟨u, hu.trans (hother s a (List.mem_cons_self ..) fun h => ha (h ▸ hk)), hg⟩

theorem mem_enabledRegions {s : State} {g : Nat} : g ∈ enabledRegions s ↔ regionEnabled s g = true := by
  unfold enabledRegions regionEnabled gradeUnits
  rw [List.mem_range, decide_eq_true_eq]
  split_ifs <;> omega

/-! ### One core's turn -/

/-- A core falls back: its FALLBACK bit is set, and a running kernel that uses ZB is suspended. -/
def fallBack (s : State) (g : Nat) : State :=
  let s2 := wr (s.modNewt g fun x => { x with fallReq := false }) (Reg.NEWT_STATUS_FALLBACK g) 1
  if uState s2 g = uRunning ∧ zbUse s2 g then setU s2 g uSuspended else s2

theorem enterFallback_eq {s : State} (h : ((enabledRegions s).any fun g => (s.newt g).fallReq) = true) :
    enterFallback s = raise (forEach (enabledRegions s) s fallBack) 0x2062 0 := if_pos h

/-- What the fall-back shows of a core. -/
def coreFall (s : State) (g : Nat) : Nat × Bool × NewtS := (uState s g, fallback s g, s.newt g)

theorem newt_modNewt_ne (s : State) {g a : Nat} (f : NewtS → NewtS) (h : g ≠ a) : (s.modNewt a f).newt g = s.newt g := get_set_ne _ _ _ _ h

theorem coreFall_fallBack_ne (s : State) {g a : Nat} (h : g ≠ a) : coreFall (fallBack s a) g = coreFall s g := by
  have hkey {i j v w x y : Nat} {p q : Acc} (hi : i < 32) (hj : j < 32) : Fld.key ⟨0x840000 + 0x100000 * g, i, v, p, .L, x⟩ ≠
      Fld.key ⟨0x840000 + 0x100000 * a, j, w, q, .L, y⟩ := key_ne_tile (k := 0) h rfl (by decide) (by decide) (by decide) hi hj
  let s2 := wr (s.modNewt a fun x => { x with fallReq := false }) (Reg.NEWT_STATUS_FALLBACK a) 1
  have h2 : coreFall s2 g = coreFall s g := by
    have h0 : s2.newt g = s.newt g := (newt_congr (wr_newts ..) g).trans (newt_modNewt_ne s _ h)
    have h1 : uState s2 g = uState s g := rd_wr_ne (s.modNewt a _) 1 (hkey (by decide) (by decide))
    have h3 : fallback s2 g = fallback s g := on_congr (rd_wr_ne (s.modNewt a _) 1 (hkey (by decide) (by decide)))
    unfold coreFall
    rw [h0, h1, h3]
  have h4 : coreFall (setU s2 a uSuspended) g = coreFall s2 g := by
    have h0 : (setU s2 a uSuspended).newt g = s2.newt g := newt_congr (wr_newts ..) g
    have h1 : uState (setU s2 a uSuspended) g = uState s2 g := rd_wr_ne s2 _ (hkey (by decide) (by decide))
    have h3 : fallback (setU s2 a uSuspended) g = fallback s2 g := on_congr (rd_wr_ne s2 _ (hkey (by decide) (by decide)))
    unfold coreFall
    rw [h0, h1, h3]
  have hend : coreFall (if uState s2 a = uRunning ∧ zbUse s2 a then setU s2 a uSuspended else s2) g = coreFall s g := by
    split
    · exact h4.trans h2
    · exact h2
  exact hend

theorem coreFall_fallBack (s : State) (g : Nat) : coreFall (fallBack s g) g =
    (if uState s g = uRunning ∧ zbUse s g = true then uSuspended else uState s g, true, { s.newt g with fallReq := false }) := by
  let s2 := wr (s.modNewt g fun x => { x with fallReq := false }) (Reg.NEWT_STATUS_FALLBACK g) 1
  have h0 : s2.newt g = { s.newt g with fallReq := false } := (newt_congr (wr_newts ..) g).trans (newt_modNewt ..)
  have h1 : uState s2 g = uState s g := rd_wr_ne (s.modNewt g _) 1 (key_ne (by decide))
  have h2 : fallback s2 g = true := on_wr_one (s.modNewt g _) (Reg.NEWT_STATUS_FALLBACK g) rfl
  have hz : zbUse s2 g = zbUse s g := by
    unfold zbUse
    rw [h0]
  have hend : coreFall (if uState s2 g = uRunning ∧ zbUse s2 g then setU s2 g uSuspended else s2) g =
      (if uState s g = uRunning ∧ zbUse s g = true then uSuspended else uState s g, true, { s.newt g with fallReq := false }) := by
    rw [h1, hz]
    unfold coreFall
    split
    · have h3 : uState (setU s2 g uSuspended) g = uSuspended := rd_wr s2 (Reg.NEWT_STATUS_USTATE g) uSuspended
      have h4 : fallback (setU s2 g uSuspended) g = true := (on_congr (rd_wr_ne s2 uSuspended (key_ne (by decide)))).trans h2
      have h5 : (setU s2 g uSuspended).newt g = s2.newt g := newt_congr (wr_newts ..) g
      rw [h3, h4, h5, h0]
    · rw [h1, h2, h0]
  exact hend

/-- The fields that the fall-back of the cores writes. -/
def fallRegs : List Fld := (List.range 8).map Reg.NEWT_STATUS_FALLBACK ++ (List.range 8).map Reg.NEWT_STATUS_USTATE ++ eventRegs

theorem lt_eight_of_enabled {s : State} {g : Nat} (h : g ∈ enabledRegions s) : g < 8 := by
  unfold enabledRegions gradeUnits at h
  rw [List.mem_range] at h
  split_ifs at h <;> omega

theorem frame_enterFallback (s : State) : Frame s (enterFallback s) fallRegs [.newts, .events] := by
  have hturn {t : State} {g : Nat} (hg : g < 8) (h : Frame s t fallRegs [.newts, .events]) : Frame s (fallBack t g) fallRegs [.newts, .events] := by
    have hm := List.mem_range.mpr hg
    have h1 : Frame s (wr (t.modNewt g fun x => { x with fallReq := false }) (Reg.NEWT_STATUS_FALLBACK g) 1) fallRegs [.newts, .events] :=
      frame_wr _ (List.mem_append_left _ (List.mem_append_left _ (List.mem_map_of_mem hm))) (frame_modNewt g _ (by simp) h)
    exact frame_ite (frame_wr _ (List.mem_append_left _ (List.mem_append_right _ (List.mem_map_of_mem hm))) h1) h1
  unfold enterFallback
  split
  · exact frame_raise _ _ (List.subset_append_right ..) (by simp) (frame_forEach (frame_refl ..) fun u a ha hu => hturn (lt_eight_of_enabled ha) hu)
  · exact frame_refl ..

/-- After the fall-back every enabled core runs from its local memories. -/
theorem coreFall_enterFallback {s : State} {g : Nat} (hg : regionEnabled s g = true) (h : (s.newt g).fallReq = true) : coreFall (enterFallback s) g =
    (if uState s g = uRunning ∧ zbUse s g = true then uSuspended else uState s g, true, { s.newt g with fallReq := false }) := by
  have hm := mem_enabledRegions.mpr hg
  obtain ⟨u, hu, hend⟩ := forEach_at (g := fallBack) (coreFall · g) List.nodup_range hm (fun s a _ => coreFall_fallBack_ne s) s
  rw [enterFallback_eq (List.any_eq_true.mpr ⟨g, hm, h⟩)]
  have hr (t : State) : coreFall (raise t 0x2062 0) g = coreFall t g := by
    have h0 : (raise t 0x2062 0).newt g = t.newt g := newt_congr (samePart_of_frame (frame_raise_self ..) (p := .newts) (by simp)) g
    have h1 : uState (raise t 0x2062 0) g = uState t g := rd_raise _ _ _ (newtKey_ne_event (k := 0))
    have h2 : fallback (raise t 0x2062 0) g = fallback t g := on_congr (rd_raise _ _ _ (newtKey_ne_event (k := 0)))
    unfold coreFall
    rw [h0, h1, h2]
  rw [hr, show coreFall (forEach (enabledRegions s) s fallBack) g = coreFall (fallBack u g) g from hend, coreFall_fallBack]
  simp only [coreFall, Prod.mk.injEq] at hu
  obtain ⟨hus, -, hun⟩ := hu
  have hz : zbUse u g = zbUse s g := by
    unfold zbUse
    rw [hun]
  rw [hus, hun, hz]

/-! ### The memory die -/

theorem frame_dmaDomainDown (s : State) (f : Nat → Bool) : Frame s (dmaDomainDown s f) ((List.range 16).map Reg.DMA_CH_STATUS_DOMAIN_LOST ++ eventRegs) [.dmas, .events] := by
  unfold dmaDomainDown
  refine frame_forEach (frame_refl ..) fun u a ha hu => frame_ite ?_ hu
  exact frame_raise _ _ (List.subset_append_right ..) (List.mem_cons_of_mem _ (List.mem_singleton_self _))
    (frame_wr _ (List.mem_append_left _ (List.mem_map_of_mem ha)) (frame_modDma _ _ (List.mem_cons_self ..) hu))

theorem frame_memRefresh (s : State) : Frame s (memRefresh s true) [Reg.DMA_MEM_STATUS_SELF_REFRESH, Reg.DMA_MEM_STATUS_READY] [] := by
  rw [show memRefresh s true = wr (wr s Reg.DMA_MEM_STATUS_SELF_REFRESH 1) Reg.DMA_MEM_STATUS_READY 0 from if_pos rfl]
  exact frame_wr _ (by simp) (frame_wr _ (by simp) (frame_refl ..))

/-- The registers that shedding the die writes. -/
def shedRegs : List Fld :=
  Reg.PWR_DOM_STATE 2 :: [Reg.DMA_MEM_STATUS_SELF_REFRESH, Reg.DMA_MEM_STATUS_READY] ++ ((List.range 16).map Reg.DMA_CH_STATUS_DOMAIN_LOST ++ eventRegs)

theorem shedMem_effect (s : State) : ∃ u, shedMem s = u ∧ Frame (enterFallback s) u shedRegs [.dmas, .events] ∧
    domState u 2 = if domState s 2 = domOff ∨ domFailed s 2 = true then domOff else domSelfRefresh := by
  have hf := frame_enterFallback s
  have hkey : (∀ e ∈ fallRegs, (Reg.PWR_DOM_STATE 2).key ≠ e.key) ∧ ∀ e ∈ fallRegs, (Reg.PWR_DOM_FAILED 2).key ≠ e.key := by decide
  have h0 : domState (enterFallback s) 2 = domState s 2 := hf.1 _ hkey.1
  have h1 : domFailed (enterFallback s) 2 = domFailed s 2 := on_congr (hf.1 _ hkey.2)
  refine ⟨_, rfl, ?_, ?_⟩
  · unfold shedMem
    refine frame_ite (frame_refl ..) ?_
    exact frame_step (frame_step (frame_wr _ (by simp [shedRegs]) (frame_refl ..)) (frame_mono (frame_memRefresh _) (by simp [shedRegs]) (by simp)))
      (frame_mono (frame_dmaDomainDown _ _) (fun f hf => List.mem_append_right _ hf) (by simp))
  · by_cases hoff : domState s 2 = domOff
    · rw [if_pos (.inl hoff), show shedMem s = enterFallback s from if_pos (h0.trans hoff), h0, hoff]
    · rw [show shedMem s = dmaDomainDown (memRefresh (setDom (enterFallback s) 2 domSelfRefresh) true) inDie from if_neg (by rw [h0]; exact hoff)]
      have hlost : ∀ e ∈ (List.range 16).map Reg.DMA_CH_STATUS_DOMAIN_LOST ++ eventRegs, (Reg.PWR_DOM_STATE 2).key ≠ e.key := by decide
      refine ((frame_dmaDomainDown _ _).1 _ hlost).trans ((rd_frame_two (frame_memRefresh _) (by decide) (by decide)).trans ((rd_wr (enterFallback s) (Reg.PWR_DOM_STATE 2) _).trans ?_))
      rw [h1]
      cases hfail : domFailed s 2 <;> simp [hoff] <;> rfl

/-- Where a core waits for the acknowledgement of its fall-back, the end of the wait makes it fall back and sheds the die. -/
theorem fallbackAckTimeout_falls {s : State} {g : Fin 8} (he : regionEnabled s g = true) (hf : (s.newt g).fallReq = true) :
    Gives .fallbackAckTimeout s fun t => fallback t g = true ∧ (t.newt g).fallReq = false ∧ t.ctx g true = s.ctx g true ∧ t.ctx g false = s.ctx g false ∧
      uState t g = (if uState s g = uRunning ∧ zbUse s g = true then uSuspended else uState s g) ∧
      domState t 2 = (if domState s 2 = domOff ∨ domFailed s 2 = true then domOff else domSelfRefresh) ∧ ∀ a, memByte t a = memByte s a := by
  obtain ⟨u, hu, hframe, hdom⟩ := shedMem_effect s
  obtain ⟨hst, hfb, hnewt⟩ : uState (enterFallback s) g = _ ∧ fallback (enterFallback s) g = _ ∧ (enterFallback s).newt g = _ := by
    simpa only [coreFall, Prod.mk.injEq] using coreFall_enterFallback he hf
  have hkey (k v x : Nat) (p : Acc) : ∀ e ∈ shedRegs, Fld.key ⟨0x840000 + 0x100000 * g, k, v, p, .L, x⟩ ≠ e.key := by
    have hlow : ∀ e ∈ shedRegs, e.key < 0x840000 * 32 := by decide
    intro e he h
    have hk := hlow e he
    rw [← h] at hk
    simp only [Fld.key] at hk
    omega
  have hn : u.newt g = { s.newt g with fallReq := false } := (newt_congr (samePart_of_frame hframe (p := .newts) (by simp)) g).trans hnewt
  have hany : ((enabledRegions s).any fun g => (s.newt g).fallReq) = true := List.any_eq_true.mpr ⟨g, mem_enabledRegions.mpr he, hf⟩
  refine gives_next rfl ((if_pos hany).trans hu)
    ⟨(on_congr (hframe.1 _ (hkey _ _ _ _))).trans hfb, by rw [hn], ?_, ?_, (hframe.1 _ (hkey _ _ _ _)).trans hst, hdom, ?_⟩
  · exact (congrArg NewtS.user hn).trans rfl
  · exact (congrArg NewtS.vendor hn).trans rfl
  · exact memByte_congr ((samePart_of_frame hframe (p := .mem) (by simp)).trans (samePart_of_frame (frame_enterFallback s) (p := .mem) (by simp)))

/-- Without a core that waits nothing falls back. -/
theorem fallbackAckTimeout_idle {s : State} (h : ∀ r : Fin 8, regionEnabled s r = true → (s.newt r).fallReq = false) :
    exec .fallbackAckTimeout s = .next s := by
  have hnone : ¬((enabledRegions s).any fun g => (s.newt g).fallReq) = true := by
    intro hany
    obtain ⟨g, hg, hreq⟩ := List.any_eq_true.mp hany
    exact absurd hreq (by simp [h ⟨g, lt_eight_of_enabled hg⟩ (mem_enabledRegions.mp hg)])
  exact congrArg Host.Outcome.next (if_neg hnone)

theorem userWdog_faults {s : State} {g : Fin 8} (hr : ctxRuns s g true = true) (hl : rd s (Reg.NEWT_USER_LIMIT_MAXCYC g) ≠ 0) :
    Gives (.userWdog g) s fun t => NewtFaults s t g true 6 :=
  gives_next rfl (if_pos (Bool.and_eq_true_iff.mpr ⟨hr, bne_iff_ne.mpr hl⟩)) (userFault_faults (frame_refl ..) rfl (by decide))

theorem userWdog_idle {s : State} {g : Fin 8} (h : ctxRuns s g true = false ∨ rd s (Reg.NEWT_USER_LIMIT_MAXCYC g) = 0) :
    exec (.userWdog g) s = .next s :=
  congrArg Host.Outcome.next (if_neg fun hn => by
    obtain ⟨hr, hl⟩ := Bool.and_eq_true_iff.mp hn
    exact h.elim (fun h => Bool.false_ne_true (h.symm.trans hr)) (bne_iff_ne.mp hl))

/-- Settles O56. -/
theorem newtKernelSlotAndFaults : Obligations.NewtKernelSlotAndFaults := by
  intro s g user x pairs begins refused
  refine ⟨fun he => ⟨userStart_runs he, userStart_unpaired he, fun h => ?_, fun h => ?_, userStop_running he, userStop_stops he⟩, fun he => ⟨?_, ?_⟩,
    fun e hm => ?_, userWdog_faults, userWdog_idle, fun hr ho => ?_, fun h => ?_, fun he hv => ?_, fun h => ?_,
    fallbackAckTimeout_falls, fallbackAckTimeout_idle, ?_, ?_, ?_⟩
  · exact gives_next rfl ((if_pos he).trans (if_neg fun hn => h.elim (· hn.1) fun h => Bool.false_ne_true (h.symm.trans hn.2))) (userRefused_effect s)
  · exact gives_next rfl ((if_pos he).trans (if_pos h)) (userRefused_effect s)
  · exact congrArg Host.Outcome.next (if_neg (ne_of_eq_of_ne he Bool.false_ne_true))
  · exact congrArg Host.Outcome.next (if_neg (ne_of_eq_of_ne he Bool.false_ne_true))
  · have hexec : exec e.2 s = .next (userTrigger s g e.1) := by
      rcases List.mem_cons.mp hm with rfl | hm
      · rfl
      · obtain rfl := List.mem_singleton.mp hm
        rfl
    refine ⟨fun hb => ⟨fun hs => ?_, fun hs => ?_⟩, fun h => ?_⟩
    · obtain ⟨hst, hcyc, hstop, huser, hvendor, hruns, hframe⟩ := beginRun_effect s g
      exact gives_next hexec (userTrigger_begins hb hs) ⟨⟨hst, hcyc, hstop, huser, hvendor, hruns⟩, hframe⟩
    · exact gives_next hexec (userTrigger_overrun hb hs) (overrun_effect s g)
    · exact hexec.trans (congrArg Host.Outcome.next (userTrigger_idle h))
  · exact gives_next rfl (if_pos (Bool.and_eq_true_iff.mpr ⟨hr, ho⟩)) (newtFault_faults s g user (by decide))
  · exact congrArg Host.Outcome.next (if_neg fun hn => by simp_all)
  · exact gives_next rfl (if_pos (Bool.and_eq_true_iff.mpr ⟨he, beq_iff_eq.mpr hv⟩)) rfl
  · exact congrArg Host.Outcome.next (if_neg fun hn => by simp_all)
  · exact within_of_mask (keepsO_execFallbackAckTimeout (w₀ := 132104) (keeps_refl _ s) rfl) (by decide)
  · exact within_of_mask (keepsO_execNewtHeartbeatMiss (w₀ := 8596556) (keeps_refl _ s) rfl) (by decide)
  · exact within_of_mask (keepsO_execNewtBusTimeout (w₀ := 8596556) (keeps_refl _ s) rfl) (by decide)

/-! Events that an operation adds, the choice of the upstream port (R237), and lanes that leave their state (Table 10.4). -/

/-! ### Events that an operation adds -/

/-- With room for `n` more entries, `t` has those of `s` and at most `n` after them. -/
def Adds (n : Nat) (s t : State) : Prop :=
  packageHeld t = packageHeld s ∧
    (packageHeld s = false → s.events.entries.length + n ≤ 512 → ∃ l, t.events.entries = s.events.entries ++ l ∧ l.length ≤ n)

/-- An entry of this code is queued. -/
def Has (t : State) (c : Nat) : Prop := ∃ e ∈ t.events.entries, e.code = c

theorem adds_of_frame {s t : State} {rs : List Fld} {ps : List Part} (h : Frame s t rs ps) (hr : Part.rst ∉ ps) (he : Part.events ∉ ps) : Adds 0 s t :=
  ⟨packageHeld_congr (samePart_of_frame h hr), fun _ _ => ⟨[], by rw [show t.events = s.events from samePart_of_frame h he, List.append_nil], le_refl _⟩⟩

theorem adds_mono {n m : Nat} {s t : State} (h : Adds n s t) (hn : n ≤ m) : Adds m s t :=
  ⟨h.1, fun hp hl => (h.2 hp (by omega)).imp fun _ ⟨he, hk⟩ => ⟨he, hk.trans hn⟩⟩

theorem adds_trans {n m : Nat} {s t u : State} (h : Adds n s t) (k : Adds m t u) : Adds (n + m) s u := by
  refine ⟨k.1.trans h.1, fun hp hl => ?_⟩
  obtain ⟨l, hl', hn⟩ := h.2 hp (by omega)
  obtain ⟨r, hr, hm⟩ := k.2 (h.1.trans hp) (by rw [hl', List.length_append]; omega)
  exact ⟨l ++ r, by rw [hr, hl', List.append_assoc], by rw [List.length_append]; omega⟩

theorem adds_raise (s : State) {c : Nat} (a : Nat) (hc : eventClass c ≠ 0xF) : Adds 1 s (raise s c a) :=
  ⟨packageHeld_congr (samePart_of_frame (frame_raise_self s c a) (p := .rst) (by simp)), fun hp hl => ⟨_, raise_room a hp (by omega) hc, le_refl _⟩⟩

theorem has_raise {s : State} {c : Nat} (a : Nat) (hp : packageHeld s = false) (hl : s.events.entries.length < 512) (hc : eventClass c ≠ 0xF) : Has (raise s c a) c := by
  unfold Has
  rw [raise_room a hp hl hc]
  exact ⟨_, List.mem_append_right _ (List.mem_singleton_self _), rfl⟩

theorem has_of_adds {n c : Nat} {s t : State} (h : Adds n s t) (hp : packageHeld s = false) (hl : s.events.entries.length + n ≤ 512) (hc : Has s c) : Has t c := by
  obtain ⟨l, hl, -⟩ := h.2 hp hl
  obtain ⟨e, he, hc⟩ := hc
  exact ⟨e, hl ▸ List.mem_append_left _ he, hc⟩

/-- An event issued on the way is queued at the end, where all fit. -/
theorem has_of_raised {n m c : Nat} {s t u : State} (a : Nat) (h : Adds n s t) (k : Adds m (raise t c a) u) (hp : packageHeld s = false)
    (hl : s.events.entries.length + (n + 1 + m) ≤ 512) (hc : eventClass c ≠ 0xF) : Has u c := by
  obtain ⟨l, he, hn⟩ := h.2 hp (by omega)
  have htp : packageHeld t = false := h.1.trans hp
  have htl : t.events.entries.length ≤ s.events.entries.length + n := by
    rw [he, List.length_append]
    omega
  refine has_of_adds k ((adds_raise t a hc).1.trans htp) ?_ (has_raise a htp (by omega) hc)
  rw [raise_room a htp (by omega) hc, List.length_append, List.length_singleton]
  omega

/-! ### The upstream port -/

/-- The fields that the choice of the upstream port writes. -/
def upRegs : List Fld := Reg.LINK_STATUS_BOND_OK 0 :: Reg.LINK_STATUS_ACTIVE_UP 0 :: Reg.LINK_STATUS_ACTIVE_UP 1 :: eventRegs

theorem frame_timeSwitch (s : State) : Frame s (timeSwitch s) [] [.time] :=
  frame_time _ (List.mem_singleton_self _) (frame_time _ (List.mem_singleton_self _) (frame_refl ..))

/-- The choice of the upstream port before the change of it is told. -/
def upShown (s : State) (a : Option Nat) : State :=
  wr (wr (wr s (Reg.LINK_STATUS_BOND_OK 0) (b2n (bondReady s))) (Reg.LINK_STATUS_ACTIVE_UP 0) (b2n (bondReady s || a == some 0)))
    (Reg.LINK_STATUS_ACTIVE_UP 1) (b2n (bondReady s || a == some 1))

/-- The choice, with the port in use recorded. -/
def upTaken (s : State) (a : Option Nat) : State :=
  { upShown s a with link := { (upShown s a).link with lastUp := a, upLost := false } }

theorem setUpActive_cases (s : State) (a : Option Nat) : setUpActive s a = upShown s a ∨ setUpActive s a = upTaken s a ∨
    ∃ n, setUpActive s a = timeSwitch (raise (upTaken s a) 0x3009 n) := by
  unfold setUpActive
  cases a with
  | none => exact .inl rfl
  | some x =>
    cases s.link.lastUp with
    | none => exact .inr (.inl rfl)
    | some y =>
      dsimp only
      split
      · exact .inr (.inl rfl)
      · exact .inr (.inr ⟨_, rfl⟩)

theorem frame_upShown (s : State) (a : Option Nat) : Frame s (upShown s a) upRegs [] :=
  frame_wr _ (by simp [upRegs]) (frame_wr _ (by simp [upRegs]) (frame_wr _ (by simp [upRegs]) (frame_refl ..)))

theorem frame_upTaken (s : State) (a : Option Nat) : Frame s (upTaken s a) upRegs [.link] :=
  frame_link _ (List.mem_singleton_self _) (frame_mono (frame_upShown s a) (List.Subset.refl _) (List.nil_subset _))

theorem frame_setUpActive (s : State) (a : Option Nat) : Frame s (setUpActive s a) upRegs [.link, .time, .events] := by
  have hev : eventRegs ⊆ upRegs := fun f hf => List.mem_cons_of_mem _ (List.mem_cons_of_mem _ (List.mem_cons_of_mem _ hf))
  rcases setUpActive_cases s a with h | h | ⟨n, h⟩ <;> rw [h]
  · exact frame_mono (frame_upShown s a) (List.Subset.refl _) (List.nil_subset _)
  · exact frame_mono (frame_upTaken s a) (List.Subset.refl _) (by simp)
  · exact frame_step (frame_raise _ _ hev (by simp) (frame_mono (frame_upTaken s a) (List.Subset.refl _) (by simp)))
      (frame_mono (frame_timeSwitch _) (List.nil_subset _) (by simp))

theorem frame_refreshUp (s : State) : Frame s (refreshUp s) upRegs [.link, .time, .events] := frame_setUpActive ..

theorem adds_setUpActive (s : State) (a : Option Nat) : Adds 1 s (setUpActive s a) := by
  rcases setUpActive_cases s a with h | h | ⟨n, h⟩ <;> rw [h]
  · exact adds_mono (adds_of_frame (frame_upShown s a) (by simp) (by simp)) (by omega)
  · exact adds_mono (adds_of_frame (frame_upTaken s a) (by simp) (by simp)) (by omega)
  · exact adds_trans (adds_trans (adds_of_frame (frame_upTaken s a) (by simp) (by simp)) (adds_raise _ n (by decide)))
      (adds_of_frame (frame_timeSwitch _) (by simp) (by simp))

/-- The choice of the upstream port leaves the ports, their first bring-up and their clock alone. -/
theorem link_setUpActive (s : State) (a : Option Nat) : (setUpActive s a).link.ports = s.link.ports ∧ (setUpActive s a).link.backup = s.link.backup ∧
    (setUpActive s a).link.started = s.link.started := by
  have h0 : (upShown s a).link = s.link := samePart_of_frame (frame_upShown s a) (p := .link) (by simp)
  have h1 : (upTaken s a).link.ports = s.link.ports ∧ (upTaken s a).link.backup = s.link.backup ∧ (upTaken s a).link.started = s.link.started :=
    ⟨(congrArg LinkS.ports h0 :), (congrArg LinkS.backup h0 :), (congrArg LinkS.started h0 :)⟩
  rcases setUpActive_cases s a with h | h | ⟨n, h⟩ <;> rw [h]
  · rw [h0]
    exact ⟨rfl, rfl, rfl⟩
  · exact h1
  · have h2 : (timeSwitch (raise (upTaken s a) 0x3009 n)).link = (upTaken s a).link :=
      samePart_of_frame (p := .link) (frame_step (frame_mono (frame_raise_self ..) (List.Subset.refl _) (by simp))
        (frame_mono (frame_timeSwitch _) (List.nil_subset _) (ps' := [.time, .events]) (by simp))) (by simp)
    rw [h2]
    exact h1

theorem port_refreshUp (s : State) (p : Nat) : (refreshUp s).port p = s.port p := by
  unfold State.port
  rw [show (refreshUp s).link.ports = s.link.ports from (link_setUpActive s _).1]

theorem port_congr {s t : State} (h : t.link = s.link) (p : Nat) : t.port p = s.port p := by
  unfold State.port
  rw [h]

theorem port_modPort (s : State) (p : Nat) (f : PortS → PortS) : (s.modPort p f).port p = f (s.port p) := get_set _ _ _ _

theorem port_wr (s : State) (f : Fld) (v p : Nat) : (wr s f v).port p = s.port p := port_congr (wr_link ..) p

theorem port_bump (s : State) (f : Fld) (n p : Nat) : (bump s f n).port p = s.port p := port_congr (wr_link ..) p

theorem port_raise (s : State) (c a p : Nat) : (raise s c a).port p = s.port p :=
  port_congr (samePart_of_frame (frame_raise_self s c a) (p := .link) (by simp)) p

/-! ### What the choice leaves of a port -/

/-- The fields of a port that the choice of the upstream port leaves alone. -/
def portShown (p : Nat) : List Fld :=
  [Reg.LINK_STATUS_STATE p, Reg.LINK_STATUS_WIDTH p, Reg.LINK_STATUS_GROUP p, Reg.LINK_STATUS_RATE_ACT p, Reg.LINK_STATUS_NO_PARTNER p,
    Reg.LINK_STATUS_BACKOFF_MS p, Reg.LINK_COUNT_DOWN_CNT p, Reg.LINK_COUNT_LANE_LOST_CNT p, Reg.LINK_PARTNER_VALID p, Reg.LINK_PARTNER_RX_GOOD p,
    Reg.LINK_PARTNER_FLAGS p, Reg.LINK_PARTNER_DEVICE_ID p, Reg.LINK_CTRL_EN p, Reg.LINK_CTRL_LANE_EN p, Reg.LINK_CTRL_RATE p]

theorem portShown_ne_up : ∀ p : Fin 4, ∀ f ∈ portShown p, ∀ e ∈ upRegs, f.key ≠ e.key := by decide

theorem lane_ne_up : ∀ p : Fin 4, ∀ l : Fin 8, ∀ e ∈ upRegs, (laneFld p l).key ≠ e.key := by decide

theorem rd_refreshUp (s : State) {f : Fld} (h : ∀ e ∈ upRegs, f.key ≠ e.key) : rd (refreshUp s) f = rd s f := (frame_refreshUp s).1 f h

/-! ### Lanes -/

theorem laneKey_ne {p l k : Nat} (h : k ≠ l) : (laneFld p k).key ≠ (laneFld p l).key := by
  simp only [Fld.key, laneFld]
  omega

theorem laneSt_setLane (s : State) (p l : Nat) {st : Nat} (h : st < 16) : laneSt (setLane s p l st) p l = st := (rd_wr s (laneFld p l) st).trans (Nat.mod_eq_of_lt h)

theorem laneSt_setLane_ne (s : State) (p st : Nat) {l k : Nat} (h : k ≠ l) : laneSt (setLane s p l st) p k = laneSt s p k := rd_wr_ne s st (laneKey_ne h)

/-- The fields of an eye scan. -/
def eyeRegs (p : Nat) : List Fld :=
  [Reg.LINK_EYE_CTRL_BUSY p, Reg.LINK_EYE_CTRL_ABORT p, Reg.LINK_EYE_SUMMARY_LEFT p, Reg.LINK_EYE_SUMMARY_RIGHT p, Reg.LINK_EYE_SUMMARY_TOP p, Reg.LINK_EYE_SUMMARY_BOTTOM p]

theorem frame_eyeAbort (s : State) (p l : Nat) : Frame s (eyeAbort s p l) (eyeRegs p) [.free] := by
  have h1 : Frame s (wr (wr s (Reg.LINK_EYE_CTRL_BUSY p) 0) (Reg.LINK_EYE_CTRL_ABORT p) 1) (eyeRegs p) [.free] :=
    frame_wr _ (by simp [eyeRegs]) (frame_wr _ (by simp [eyeRegs]) (frame_refl ..))
  unfold eyeAbort
  refine frame_ite (frame_ite ?_ h1) (frame_refl ..)
  exact frame_wr _ (by simp [eyeRegs]) (frame_wr _ (by simp [eyeRegs]) (frame_wr _ (by simp [eyeRegs]) (frame_wr _ (by simp [eyeRegs])
    (frame_free _ (List.mem_singleton_self _) h1))))

/-- The fields of a lane that stops receiving, and of the scan on it. -/
def dropRegs (p l : Nat) : List Fld := Reg.LINK_EQ_CONV p l :: eyeRegs p

/-- A lane that drops changes its own state, its convergence, and the eye scan. -/
theorem frame_dropLane (s : State) (p l st : Nat) : Frame s (dropLane s p l st) (laneFld p l :: dropRegs p l) [.free] := by
  have h1 : Frame s (if laneSt s p l = lnGood then eyeAbort s p l else s) (laneFld p l :: dropRegs p l) [.free] :=
    frame_ite (frame_mono (frame_eyeAbort s p l) (fun f hf => List.mem_cons_of_mem _ (List.mem_cons_of_mem _ hf)) (List.Subset.refl _)) (frame_refl ..)
  exact frame_wr _ (by simp) (frame_wr _ (by simp [dropRegs]) h1)

theorem dropLane_of_not_good {s : State} {p l : Nat} (st : Nat) (h : laneSt s p l ≠ lnGood) :
    dropLane s p l st = setLane (wr s (Reg.LINK_EQ_CONV p l) 0) p l st := by
  unfold dropLane
  rw [if_neg h]

theorem laneSt_dropLane (s : State) (p l : Nat) {st : Nat} (h : st < 16) : laneSt (dropLane s p l st) p l = st := laneSt_setLane _ p l h

theorem drop_ne_lane : ∀ p : Fin 4, ∀ l k : Fin 8, ∀ e ∈ dropRegs p l, (laneFld p k).key ≠ e.key := by decide

theorem laneSt_dropLane_ne (s : State) (p : Fin 4) {l k : Nat} (st : Nat) (hl : l < 8) (hk : k < 8) (h : k ≠ l) : laneSt (dropLane s p l st) p k = laneSt s p k :=
  (frame_dropLane s p l st).1 _ (List.forall_mem_cons.mpr ⟨laneKey_ne h, drop_ne_lane p ⟨l, hl⟩ ⟨k, hk⟩⟩)

theorem port_dropLane (s : State) (p l st q : Nat) : (dropLane s p l st).port q = s.port q :=
  port_congr (samePart_of_frame (frame_dropLane s p l st) (p := .link) (by simp)) q

theorem rising_iff {s : State} {p l : Nat} : laneRising s p l = true ↔ 1 ≤ laneSt s p l ∧ laneSt s p l ≤ 4 := by
  simp [laneRising]

theorem not_good_of_rising {s : State} {p l : Nat} (h : laneRising s p l = true) : laneSt s p l ≠ lnGood := by
  obtain ⟨-, h4⟩ := rising_iff.mp h
  unfold lnGood
  omega

/-! The states of a port (R232 to R234, Table 10.5). -/

/-! ### What the states of a port write -/

/-- The fields of a port's own state, with those of the choice of the upstream port. -/
def portRegs (p : Nat) : List Fld :=
  [Reg.LINK_STATUS_STATE p, Reg.LINK_STATUS_WIDTH p, Reg.LINK_STATUS_GROUP p, Reg.LINK_STATUS_BACKOFF_MS p, Reg.LINK_COUNT_DOWN_CNT p,
    Reg.LINK_STATUS_DEGRADED p] ++ upRegs

/-- The states of the port's lanes. -/
def laneRegs (p : Nat) : List Fld := lanes.map (laneFld p)

/-- All the fields of the lanes of a port that drop. -/
def dropAllRegs (p : Nat) : List Fld := lanes.flatMap fun l => laneFld p l :: dropRegs p l

theorem lane_ne_port : ∀ p : Fin 4, ∀ l : Fin 8, ∀ e ∈ portRegs p, (laneFld p l).key ≠ e.key := by decide

theorem upRegs_subset (p : Nat) : upRegs ⊆ portRegs p := List.subset_append_right ..

theorem mem_lanes {k : Nat} (h : k < 8) : k ∈ lanes := List.mem_range.mpr h

theorem frame_leaveUp (s : State) (p : Nat) : Frame s (leaveUp s p) [Reg.LINK_COUNT_DOWN_CNT p, Reg.LINK_STATUS_DEGRADED p] [] := by
  unfold leaveUp
  exact frame_ite (frame_wr _ (by simp) (frame_bump 1 (by simp) (frame_refl ..))) (frame_refl ..)

theorem port_leaveUp (s : State) (p q : Nat) : (leaveUp s p).port q = s.port q := port_congr (samePart_of_frame (frame_leaveUp s p) (p := .link) (by simp)) q

theorem rd_setGroup_group (s : State) (p : Nat) {g : Nat} (h : g < 256) : rd (setGroup s p g) (Reg.LINK_STATUS_GROUP p) = g :=
  (rd_wr_ne _ _ (key_ne (by decide))).trans ((rd_wr s (Reg.LINK_STATUS_GROUP p) g).trans (Nat.mod_eq_of_lt h))

theorem widthCode_lt (g : Nat) : widthCode g < 4 := by
  unfold widthCode
  split_ifs <;> decide

theorem rd_setGroup_width (s : State) (p g : Nat) : rd (setGroup s p g) (Reg.LINK_STATUS_WIDTH p) = widthCode g :=
  (rd_wr _ (Reg.LINK_STATUS_WIDTH p) _).trans (Nat.mod_eq_of_lt (widthCode_lt g))

theorem groupOf_lt (m : Nat) : groupOf m < 256 := by
  unfold groupOf
  split
  · next g h =>
    have hg : g ∈ ([0xFF, 0x0F, 0xF0, 0x03, 0x0C, 0x30, 0xC0] : List Nat) := List.mem_of_find?_eq_some h
    exact (by decide : ∀ g ∈ ([0xFF, 0x0F, 0xF0, 0x03, 0x0C, 0x30, 0xC0] : List Nat), g < 256) g hg
  · decide

theorem foldl_lanes_congr {f g : Nat → Bool} (l : List Nat) (h : ∀ k ∈ l, f k = g k) (m : Nat) :
    l.foldl (fun m l => if f l then m + 2 ^ l else m) m = l.foldl (fun m l => if g l then m + 2 ^ l else m) m := by
  induction l generalizing m with
  | nil => rfl
  | cons a l ih => rw [List.foldl_cons, List.foldl_cons, h a (List.mem_cons_self ..), ih fun k hk => h k (List.mem_cons_of_mem _ hk)]

theorem laneMask_congr {f g : Nat → Bool} (h : ∀ k < 8, f k = g k) : laneMask f = laneMask g :=
  foldl_lanes_congr lanes (fun k hk => h k (List.mem_range.mp hk)) 0

theorem rxGood_congr {s t : State} {p : Nat} (h : ∀ k < 8, laneSt t p k = lnGood ↔ laneSt s p k = lnGood) : rxGood t p = rxGood s p :=
  laneMask_congr fun k hk => by rw [Bool.eq_iff_iff, beq_iff_eq, beq_iff_eq, h k hk]

theorem partnerGood_congr {s t : State} {p : Nat} (hv : rd t (Reg.LINK_PARTNER_VALID p) = rd s (Reg.LINK_PARTNER_VALID p))
    (hg : rd t (Reg.LINK_PARTNER_RX_GOOD p) = rd s (Reg.LINK_PARTNER_RX_GOOD p)) : partnerGood t p = partnerGood s p := by
  unfold partnerGood
  rw [on_congr hv, hg]

theorem agreedMask_congr {s t : State} {p : Nat} (h : ∀ k < 8, laneSt t p k = lnGood ↔ laneSt s p k = lnGood)
    (hv : rd t (Reg.LINK_PARTNER_VALID p) = rd s (Reg.LINK_PARTNER_VALID p)) (hg : rd t (Reg.LINK_PARTNER_RX_GOOD p) = rd s (Reg.LINK_PARTNER_RX_GOOD p)) :
    agreedMask t p = agreedMask s p := congrArg₂ (· &&& ·) (rxGood_congr h) (partnerGood_congr hv hg)

/-! ### BACKOFF and DESKEW -/

theorem portBackoff_effect (s : State) (p : Fin 4) : let t := portBackoff s p
    portSt t p = pBackoff ∧ rd t (Reg.LINK_STATUS_BACKOFF_MS p) = 2 ^ min (s.port p).backoff 6 ∧ (t.port p).backoff = (s.port p).backoff + 1 ∧
      rd t (Reg.LINK_STATUS_GROUP p) = 0 ∧ Frame s t (portRegs p) [.link, .time, .events] ∧ Adds 1 s t := by
  intro t
  let a := (leaveUp s p).modPort p fun x => { x with backoff := x.backoff + 1, fails := x.fails + 1 }
  let b := wr a (Reg.LINK_STATUS_BACKOFF_MS p) (backoffMs (s.port p).backoff)
  let c := setPort (setGroup b p 0) p pBackoff
  have ht : t = refreshUp c := rfl
  have hms : backoffMs (s.port p).backoff < 256 := by
    unfold backoffMs
    calc 2 ^ min (s.port p).backoff 6 ≤ 2 ^ 6 := Nat.pow_le_pow_right (by decide) (min_le_right ..)
      _ < 256 := by decide
  have hc : Frame s c (portRegs p) [.link] := by
    have ha : Frame s a (portRegs p) [.link] := frame_modPort _ _ (by simp) (frame_mono (frame_leaveUp s p) (by simp [portRegs]) (by simp))
    exact frame_wr _ (by simp [portRegs]) (frame_wr _ (by simp [portRegs]) (frame_wr _ (by simp [portRegs]) (frame_wr _ (by simp [portRegs]) ha)))
  have hshown {f : Fld} (hf : f ∈ portShown p) : rd t f = rd c f := ht ▸ rd_refreshUp c (portShown_ne_up p f hf)
  refine ⟨(hshown (by simp [portShown])).trans (rd_wr _ (Reg.LINK_STATUS_STATE p) _), ?_, ?_, ?_, ?_, ?_⟩
  · refine (hshown (by simp [portShown])).trans ?_
    refine (rd_wr_ne _ _ (key_ne (by decide))).trans ((rd_wr_ne _ _ (key_ne (by decide))).trans ((rd_wr_ne _ _ (key_ne (by decide))).trans ?_))
    exact (rd_wr a (Reg.LINK_STATUS_BACKOFF_MS p) _).trans (Nat.mod_eq_of_lt hms)
  · rw [ht, port_refreshUp, show c.port p = a.port p from (port_wr ..).trans ((port_wr ..).trans ((port_wr ..).trans (port_wr ..))),
      show a.port p = _ from port_modPort .., port_leaveUp]
  · exact (hshown (by simp [portShown])).trans ((rd_wr_ne _ _ (key_ne (by decide))).trans (rd_setGroup_group b p (by decide)))
  · rw [ht]
    exact frame_step (frame_mono hc (List.Subset.refl _) (by simp)) (frame_mono (frame_refreshUp c) (upRegs_subset p) (by simp))
  · rw [ht]
    exact adds_trans (adds_of_frame hc (by simp) (by simp)) (adds_setUpActive ..)

/-- One lane's turn in the back-offs of failed lanes. -/
def laneBackoffTurn (p : Nat) (s : State) (l : Nat) : State :=
  if laneSt s p l = lnFail then
    (setLane s p l lnBackoff).modPort p fun x => { x with laneFails := x.laneFails.set l 0 (x.laneFails.get l 0 + 1) }
  else s

theorem laneBackoffs_running {s : State} {p : Nat} (h : portSt s p = pUp ∨ portSt s p = pDeskew) : laneBackoffs s p = forEach lanes s (laneBackoffTurn p) := if_pos h

theorem laneBackoffs_other {s : State} {p : Nat} (h : ¬(portSt s p = pUp ∨ portSt s p = pDeskew)) : laneBackoffs s p = s := if_neg h

/-- What the back-offs show of a lane: its state and the attempts that it has failed. -/
def laneFace (p k : Nat) (s : State) : Nat × Nat := (laneSt s p k, (s.port p).laneFails.get k 0)

theorem laneFace_turn_ne (p : Nat) {k a : Nat} (h : k ≠ a) (s : State) : laneFace p k (laneBackoffTurn p s a) = laneFace p k s := by
  unfold laneBackoffTurn
  split
  · refine Prod.ext (laneSt_setLane_ne s p lnBackoff h) ?_
    refine (congrArg (fun x : PortS => x.laneFails.get k 0) (port_modPort ..)).trans ?_
    dsimp only
    exact (get_set_ne _ _ _ _ h).trans (congrArg (fun x : PortS => x.laneFails.get k 0) (port_wr ..))
  · rfl

theorem laneFace_turn (p k : Nat) (s : State) : laneSt (laneBackoffTurn p s k) p k = (if laneSt s p k = lnFail then lnBackoff else laneSt s p k) ∧
    (laneSt s p k ≠ lnFail → laneFace p k (laneBackoffTurn p s k) = laneFace p k s) := by
  unfold laneBackoffTurn
  split
  · next h => exact ⟨(laneSt_setLane s p k (st := lnBackoff) (by decide) :), fun hn => absurd h hn⟩
  · exact ⟨rfl, fun _ => rfl⟩

theorem frame_laneBackoffs (s : State) (p : Nat) : Frame s (laneBackoffs s p) (laneRegs p) [.link] := by
  unfold laneBackoffs
  refine frame_ite (frame_forEach (frame_refl ..) fun u l hl hu => frame_ite (frame_modPort _ _ (by simp) (frame_wr _ ?_ hu)) hu) (frame_refl ..)
  exact List.mem_map_of_mem hl

/-- Beside a running port every failed lane goes to its back-off. -/
theorem laneBackoffs_lane {s : State} {p k : Nat} (h : portSt s p = pUp ∨ portSt s p = pDeskew) (hk : k < 8) :
    laneSt (laneBackoffs s p) p k = (if laneSt s p k = lnFail then lnBackoff else laneSt s p k) ∧
      (laneSt s p k ≠ lnFail → ((laneBackoffs s p).port p).laneFails.get k 0 = (s.port p).laneFails.get k 0) := by
  obtain ⟨u, hu, hend⟩ := forEach_at (l := lanes) (laneFace p k) List.nodup_range (mem_lanes hk) (fun s a _ h => laneFace_turn_ne p h s) s
  rw [← laneBackoffs_running h] at hend
  obtain ⟨hst, hface⟩ := laneFace_turn p k u
  have hus : laneSt u p k = laneSt s p k := congrArg Prod.fst hu
  refine ⟨(congrArg Prod.fst hend).trans (hst.trans (by rw [hus])), fun hn => ?_⟩
  exact (congrArg Prod.snd hend).trans ((congrArg Prod.snd (hface (by rwa [hus]))).trans (congrArg Prod.snd hu))

/-- The back-offs of lanes count the lanes' failures, and change nothing else of the port. -/
theorem port_laneBackoffs (s : State) (p : Nat) : { (laneBackoffs s p).port p with laneFails := [] } = { s.port p with laneFails := [] } := by
  unfold laneBackoffs
  split
  · refine forEach_same (fun s => { s.port p with laneFails := [] }) (fun u l _ => ?_) s
    dsimp only
    split
    · rw [port_modPort, show (setLane u p l lnBackoff).port p = u.port p from port_wr ..]
    · rfl
  · rfl

/-- The fields that forming a group writes. -/
def deskewRegs (p : Nat) : List Fld := portRegs p ++ laneRegs p

theorem portDeskew_effect (s : State) (p : Fin 4) : let t := portDeskew s p
    portSt t p = pDeskew ∧ rd t (Reg.LINK_STATUS_GROUP p) = groupOf (agreedMask s p) ∧ rd t (Reg.LINK_STATUS_WIDTH p) = widthCode (groupOf (agreedMask s p)) ∧
      (∀ k < 8, laneSt t p k = if laneSt s p k = lnFail then lnBackoff else laneSt s p k) ∧
      (∀ k < 8, laneSt s p k ≠ lnFail → (t.port p).laneFails.get k 0 = (s.port p).laneFails.get k 0) ∧
      Frame s t (deskewRegs p) [.link, .time, .events] ∧ Adds 1 s t := by
  intro t
  let a := (leaveUp s p).modPort p fun x => { x with agree := 0 }
  let b := setGroup a p (groupOf (agreedMask a p))
  let c := setPort b p pDeskew
  let d := laneBackoffs c p
  have ht : t = refreshUp d := rfl
  have hleave : Frame s a [Reg.LINK_COUNT_DOWN_CNT p, Reg.LINK_STATUS_DEGRADED p] [.link] :=
    frame_modPort _ _ (by simp) (frame_mono (frame_leaveUp s p) (List.Subset.refl _) (by simp))
  have ha : Frame s a (portRegs p) [.link] := frame_mono hleave (by simp [portRegs]) (by simp)
  have hb : Frame s b (portRegs p) [.link] := frame_wr _ (by simp [portRegs]) (frame_wr _ (by simp [portRegs]) ha)
  have hc : Frame s c (portRegs p) [.link] := frame_wr _ (by simp [portRegs]) hb
  have hst : portSt c p = pDeskew := rd_wr b (Reg.LINK_STATUS_STATE p) _
  have hmask : agreedMask a p = agreedMask s p := by
    refine agreedMask_congr (fun k hk => ?_) (rd_frame_two hleave (key_ne (by decide)) (key_ne (by decide))) (rd_frame_two hleave (key_ne (by decide)) (key_ne (by decide)))
    rw [show laneSt a p k = laneSt s p k from ha.1 _ (lane_ne_port p ⟨k, hk⟩)]
  have hkept {f : Fld} (hf : f ∈ portShown p) (hl : ∀ e ∈ laneRegs p, f.key ≠ e.key) : rd t f = rd c f :=
    (ht ▸ rd_refreshUp d (portShown_ne_up p f hf)).trans ((frame_laneBackoffs c p).1 f hl)
  have hlanes : ∀ p : Fin 4, ∀ f ∈ [Reg.LINK_STATUS_STATE p, Reg.LINK_STATUS_GROUP p, Reg.LINK_STATUS_WIDTH p], ∀ e ∈ laneRegs p, f.key ≠ e.key := by decide
  have hlt := groupOf_lt (agreedMask a p)
  refine ⟨(hkept (by simp [portShown]) (hlanes p _ (by simp))).trans hst, ?_, ?_, fun k hk => ?_, fun k hk hn => ?_, ?_, ?_⟩
  · refine (hkept (by simp [portShown]) (hlanes p _ (by simp))).trans ((rd_wr_ne b _ (key_ne (by decide))).trans ?_)
    exact (rd_setGroup_group a p hlt).trans (by rw [hmask])
  · refine (hkept (by simp [portShown]) (hlanes p _ (by simp))).trans ((rd_wr_ne b _ (key_ne (by decide))).trans ?_)
    exact (rd_setGroup_width a p _).trans (by rw [hmask])
  · rw [show laneSt t p k = laneSt d p k from ht ▸ rd_refreshUp d (lane_ne_up p ⟨k, hk⟩), (laneBackoffs_lane (.inr hst) hk).1,
      show laneSt c p k = laneSt s p k from hc.1 _ (lane_ne_port p ⟨k, hk⟩)]
  · rw [ht, port_refreshUp, (laneBackoffs_lane (.inr hst) hk).2 (by rwa [show laneSt c p k = laneSt s p k from hc.1 _ (lane_ne_port p ⟨k, hk⟩)]),
      show c.port p = a.port p from (port_wr ..).trans ((port_wr ..).trans (port_wr ..)), show a.port p = _ from port_modPort .., port_leaveUp]
  · have hd : Frame s d (deskewRegs p) [.link] :=
      frame_step (frame_mono hc (List.subset_append_left ..) (List.Subset.refl _)) (frame_mono (frame_laneBackoffs c p) (List.subset_append_right ..) (List.Subset.refl _))
    rw [ht]
    exact frame_step (frame_mono hd (List.Subset.refl _) (by simp))
      (frame_mono (frame_refreshUp d) (fun f hf => List.mem_append_left _ (upRegs_subset p hf)) (by simp))
  · rw [ht]
    exact adds_trans (adds_trans (adds_of_frame hc (by simp) (by simp)) (adds_of_frame (frame_laneBackoffs c p) (by simp) (by simp))) (adds_setUpActive ..)

/-! ### TRAIN and STOP -/

theorem frame_dropAll (s : State) (p : Nat) (f : State → Nat → Nat) : Frame s (forEach lanes s fun s l => dropLane s p l (f s l)) (dropAllRegs p) [.free] :=
  frame_forEach (frame_refl ..) fun u l hl hu => frame_step hu
    (frame_mono (frame_dropLane u p l _) (fun _ hf => List.mem_flatMap.mpr ⟨l, hl, hf⟩) (List.Subset.refl _))

theorem enable_ne_drop : ∀ p : Fin 4, ∀ l : Fin 8, ∀ e ∈ laneFld p l :: dropRegs p l, (Reg.LINK_CTRL_LANE_EN p).key ≠ e.key := by decide

/-- Every lane takes the state that its enable gives it. -/
theorem laneSt_dropAll (s : State) (p : Fin 4) (f : Nat → Nat → Nat) (hf : ∀ m l, f m l < 16) {k : Nat} (hk : k < 8) :
    laneSt (forEach lanes s fun s l => dropLane s p l (f (rd s (Reg.LINK_CTRL_LANE_EN p)) l)) p k = f (rd s (Reg.LINK_CTRL_LANE_EN p)) k := by
  have hinv {u : State} {a : Nat} (ha : a < 8) (st : Nat) : rd (dropLane u p a st) (Reg.LINK_CTRL_LANE_EN p) = rd u (Reg.LINK_CTRL_LANE_EN p) :=
    (frame_dropLane u p a st).1 _ (enable_ne_drop p ⟨a, ha⟩)
  have hall : ∀ (l : List Nat), l.Nodup → (∀ a ∈ l, a < 8) → ∀ u : State,
      laneSt (forEach l u fun s l => dropLane s p l (f (rd s (Reg.LINK_CTRL_LANE_EN p)) l)) p k =
        if k ∈ l then f (rd u (Reg.LINK_CTRL_LANE_EN p)) k else laneSt u p k := by
    intro l
    induction l with
    | nil => exact fun _ _ u => rfl
    | cons a l ih =>
      intro hn hb u
      obtain ⟨ha, hl⟩ := List.nodup_cons.mp hn
      have ha8 := hb a (List.mem_cons_self ..)
      refine (ih hl (fun b hm => hb b (List.mem_cons_of_mem _ hm)) _).trans ?_
      rw [hinv ha8]
      by_cases hka : k = a
      · subst hka
        rw [if_neg ha, if_pos (List.mem_cons_self ..), laneSt_dropLane u p k (hf ..)]
      · rw [laneSt_dropLane_ne u p _ ha8 hk hka]
        simp only [List.mem_cons, hka, false_or]
  rw [hall lanes List.nodup_range (fun a ha => List.mem_range.mp ha) s, if_pos (mem_lanes hk)]

/-! A port in TRAIN, STOP and UP (R232, R234, R241, Table 10.5). -/

/-! ### A new attempt -/

/-- The state of lane `l` in a new attempt, by the mask of the enabled lanes. -/
def attemptLane (m l : Nat) : Nat := if bit m l then lnSigdet else lnOff

/-- The port with its lanes dropped for a new attempt. -/
def attemptDropped (s : State) (p : Nat) : State :=
  forEach lanes (leaveUp s p) fun s l => dropLane s p l (attemptLane (rd s (Reg.LINK_CTRL_LANE_EN p)) l)

/-- The rate and the clock of a new attempt. -/
def attemptRated (s : State) (p : Nat) : State :=
  let s2 := wr s (Reg.LINK_STATUS_RATE_ACT p) (attemptRate s p)
  wr (wr s2 (Reg.LINK_STATUS_BACKUP p) (b2n s2.link.backup)) (Reg.LINK_STATUS_BACKOFF_MS p) 0

/-- A new attempt before the upstream port is chosen. -/
def attemptSet (s : State) (p : Nat) : State :=
  setPort (setGroup ((attemptRated s p).modPort p fun x => { x with own := [], seen := false, agree := 0 }) p 0) p pTrain

theorem portAttempt_eq (s : State) (p : Nat) : portAttempt s p = refreshUp (attemptSet (attemptDropped s p) p) := rfl

/-- The fields that a new attempt sets. -/
def attemptRegs (p : Nat) : List Fld :=
  [Reg.LINK_STATUS_RATE_ACT p, Reg.LINK_STATUS_BACKUP p, Reg.LINK_STATUS_BACKOFF_MS p, Reg.LINK_STATUS_GROUP p, Reg.LINK_STATUS_WIDTH p, Reg.LINK_STATUS_STATE p]

theorem rd_attemptSet (s : State) {p : Nat} {f : Fld} (hs : f.key ≠ (Reg.LINK_STATUS_STATE p).key) (hw : f.key ≠ (Reg.LINK_STATUS_WIDTH p).key)
    (hg : f.key ≠ (Reg.LINK_STATUS_GROUP p).key) : rd (attemptSet s p) f = rd (attemptRated s p) f :=
  (rd_wr_ne _ _ hs).trans ((rd_wr_ne _ _ hw).trans ((rd_wr_ne _ _ hg).trans (rd_modPort ..)))

theorem frame_attemptSet (s : State) (p : Nat) : Frame s (attemptSet s p) (attemptRegs p) [.link] := by
  have h3 : Frame s (attemptRated s p) (attemptRegs p) [.link] :=
    frame_wr _ (by simp [attemptRegs]) (frame_wr _ (by simp [attemptRegs]) (frame_wr _ (by simp [attemptRegs]) (frame_refl ..)))
  exact frame_wr _ (by simp [attemptRegs]) (frame_wr _ (by simp [attemptRegs]) (frame_wr _ (by simp [attemptRegs]) (frame_modPort _ _ (by simp) h3)))

/-- What a new attempt shows. -/
structure Attempt (p : Fin 4) (s t : State) (rate : Nat) : Prop where
  state : portSt t p = pTrain
  rate : rd t (Reg.LINK_STATUS_RATE_ACT p) = rate
  group : rd t (Reg.LINK_STATUS_GROUP p) = 0
  lane : ∀ k < 8, laneSt t p k = if laneOn s p k then lnSigdet else lnOff
  backoff : rd t (Reg.LINK_STATUS_BACKOFF_MS p) = 0
  down : rd t (Reg.LINK_COUNT_DOWN_CNT p) = rd (leaveUp s p) (Reg.LINK_COUNT_DOWN_CNT p)
  enable : rd t (Reg.LINK_CTRL_EN p) = rd s (Reg.LINK_CTRL_EN p)
  adds : Adds 1 s t

theorem lane_ne_attempt : ∀ p : Fin 4, ∀ l : Fin 8, ∀ e ∈ attemptRegs p, (laneFld p l).key ≠ e.key := by decide

theorem control_ne_drop : ∀ p : Fin 4, ∀ l : Fin 8, ∀ f ∈ [Reg.LINK_CTRL_EN p, Reg.LINK_CTRL_RATE p, Reg.LINK_CTRL_FALLBACK p, Reg.LINK_COUNT_DOWN_CNT p],
    ∀ e ∈ laneFld p l :: dropRegs p l, f.key ≠ e.key := by decide

/-- Dropping the lanes leaves the controls and the counts of the port. -/
theorem rd_dropAll (s : State) (p : Fin 4) (g : State → Nat → Nat) {f : Fld}
    (hf : f ∈ [Reg.LINK_CTRL_EN p, Reg.LINK_CTRL_RATE p, Reg.LINK_CTRL_FALLBACK p, Reg.LINK_COUNT_DOWN_CNT p]) :
    rd (forEach lanes s fun s l => dropLane s p l (g s l)) f = rd s f :=
  forEach_same (rd · f) (fun u a ha => (frame_dropLane u p a _).1 f (control_ne_drop p ⟨a, List.mem_range.mp ha⟩ f hf)) s

theorem attemptRate_congr {s t : State} {p : Nat} (hl : t.link = s.link) (hf : rd t (Reg.LINK_CTRL_FALLBACK p) = rd s (Reg.LINK_CTRL_FALLBACK p))
    (hr : rd t (Reg.LINK_CTRL_RATE p) = rd s (Reg.LINK_CTRL_RATE p)) : attemptRate t p = attemptRate s p := by
  unfold attemptRate
  rw [hl, port_congr hl, on_congr hf, hr]

theorem portAttempt_effect (s : State) (p : Fin 4) : Attempt p s (portAttempt s p) (attemptRate s p % 4) := by
  let a := leaveUp s p
  let b := attemptDropped s p
  let c := attemptSet b p
  have ht : portAttempt s p = refreshUp c := portAttempt_eq ..
  have ha : Frame s a [Reg.LINK_COUNT_DOWN_CNT p, Reg.LINK_STATUS_DEGRADED p] [] := frame_leaveUp ..
  have hb : Frame a b (dropAllRegs p) [.free] := frame_dropAll ..
  have hc : Frame b c (attemptRegs p) [.link] := frame_attemptSet ..
  have hshown {f : Fld} (hf : f ∈ portShown p) : rd (portAttempt s p) f = rd c f := ht ▸ rd_refreshUp c (portShown_ne_up p f hf)
  have hrate : attemptRate b p = attemptRate s p :=
    attemptRate_congr ((samePart_of_frame hb (p := .link) (by simp)).trans (samePart_of_frame ha (p := .link) (by simp)))
      ((rd_dropAll a p _ (by simp)).trans (rd_frame_two ha (key_ne (by decide)) (key_ne (by decide))))
      ((rd_dropAll a p _ (by simp)).trans (rd_frame_two ha (key_ne (by decide)) (key_ne (by decide))))
  refine ⟨(hshown (by simp [portShown])).trans (rd_wr _ (Reg.LINK_STATUS_STATE p) _), ?_, ?_, fun k hk => ?_, ?_, ?_, ?_, ?_⟩
  · have h0 : rd c (Reg.LINK_STATUS_RATE_ACT p) = attemptRate b p % 4 :=
      (rd_attemptSet b (key_ne (by decide)) (key_ne (by decide)) (key_ne (by decide))).trans
        ((rd_wr_ne _ _ (key_ne (by decide))).trans ((rd_wr_ne _ _ (key_ne (by decide))).trans (rd_wr b (Reg.LINK_STATUS_RATE_ACT p) _)))
    rw [hshown (by simp [portShown]), h0, hrate]
  · exact (hshown (by simp [portShown])).trans ((rd_wr_ne _ _ (key_ne (by decide))).trans (rd_setGroup_group _ p (by decide)))
  · rw [show laneSt (portAttempt s p) p k = laneSt c p k from ht ▸ rd_refreshUp c (lane_ne_up p ⟨k, hk⟩),
      show laneSt c p k = laneSt b p k from hc.1 _ (lane_ne_attempt p ⟨k, hk⟩),
      show laneSt b p k = _ from laneSt_dropAll a p attemptLane (fun m l => by unfold attemptLane; split <;> decide) hk,
      show rd a (Reg.LINK_CTRL_LANE_EN p) = _ from rd_frame_two ha (key_ne (by decide)) (key_ne (by decide))]
    rfl
  · exact (hshown (by simp [portShown])).trans ((rd_attemptSet b (key_ne (by decide)) (key_ne (by decide)) (key_ne (by decide))).trans
      (rd_wr _ (Reg.LINK_STATUS_BACKOFF_MS p) _))
  · refine (hshown (by simp [portShown])).trans ((hc.1 _ ?_).trans (rd_dropAll a p _ (by simp)))
    exact (by decide : ∀ p : Fin 4, ∀ e ∈ attemptRegs p, (Reg.LINK_COUNT_DOWN_CNT p).key ≠ e.key) p
  · refine (hshown (by simp [portShown])).trans ((hc.1 _ ?_).trans ((rd_dropAll a p _ (by simp)).trans (rd_frame_two ha (key_ne (by decide)) (key_ne (by decide)))))
    exact (by decide : ∀ p : Fin 4, ∀ e ∈ attemptRegs p, (Reg.LINK_CTRL_EN p).key ≠ e.key) p
  · rw [ht]
    exact adds_trans (adds_trans (adds_trans (adds_of_frame ha (by simp) (by simp)) (adds_of_frame hb (by simp) (by simp))) (adds_of_frame hc (by simp) (by simp)))
      (adds_setUpActive ..)

/-- A TRAIN that begins afresh runs at RATE, on the backup oscillator at rate 2. -/
theorem portFresh_effect (s : State) (p : Fin 4) : Attempt p s (portFresh s p) (if s.link.backup then 2 else rd s (Reg.LINK_CTRL_RATE p) % 4) := by
  let a := s.modPort p fun x => { x with fails := 0, low := false }
  have hrate : attemptRate a p % 4 = if s.link.backup then 2 else rd s (Reg.LINK_CTRL_RATE p) % 4 := by
    have hp : a.port p = { s.port p with fails := 0, low := false } := port_modPort ..
    have hb : a.link.backup = s.link.backup := rfl
    have hr : rd a (Reg.LINK_CTRL_RATE p) = rd s (Reg.LINK_CTRL_RATE p) := rfl
    unfold attemptRate
    rw [hp, hb, hr]
    cases s.link.backup <;> simp
  obtain ⟨h1, h2, h3, h4, h5, h6, h7, h8⟩ := portAttempt_effect a p
  refine ⟨h1, h2.trans hrate, h3, h4, h5, h6.trans ?_, h7, ⟨h8.1, h8.2⟩⟩
  unfold leaveUp
  rw [show portUp a p = portUp s p from rfl]
  split <;> rfl

theorem down_leaveUp {s : State} {p : Nat} (h : portUp s p = true) :
    rd (leaveUp s p) (Reg.LINK_COUNT_DOWN_CNT p) = min (rd s (Reg.LINK_COUNT_DOWN_CNT p) + 1) (2 ^ (Reg.LINK_COUNT_DOWN_CNT p).width - 1) := by
  unfold leaveUp
  rw [if_pos h]
  exact (rd_wr_ne _ _ (key_ne (by decide))).trans (rd_bump ..)

/-! ### Electrical idle -/

/-- A port in electrical idle before the upstream port is chosen. -/
def idleSet (s : State) (p st : Nat) : State :=
  let s2 := s.modPort p fun x => { eyeLane := x.eyeLane, eyeMode := x.eyeMode }
  let s3 := wr (wr s2 (Reg.LINK_PARTNER_VALID p) 0) (Reg.LINK_STATUS_BACKOFF_MS p) 0
  setPort (setGroup s3 p 0) p st

theorem portIdle_eq (s : State) (p st : Nat) : portIdle s p st = refreshUp (idleSet (forEach lanes (leaveUp s p) fun s l => dropLane s p l lnOff) p st) := rfl

/-- The fields that electrical idle sets. -/
def idleRegs (p : Nat) : List Fld :=
  [Reg.LINK_PARTNER_VALID p, Reg.LINK_STATUS_BACKOFF_MS p, Reg.LINK_STATUS_GROUP p, Reg.LINK_STATUS_WIDTH p, Reg.LINK_STATUS_STATE p]

theorem frame_idleSet (s : State) (p st : Nat) : Frame s (idleSet s p st) (idleRegs p) [.link] :=
  frame_wr _ (by simp [idleRegs]) (frame_wr _ (by simp [idleRegs]) (frame_wr _ (by simp [idleRegs]) (frame_wr _ (by simp [idleRegs]) (frame_wr _ (by simp [idleRegs])
    (frame_modPort _ _ (by simp) (frame_refl ..))))))

theorem portIdle_effect (s : State) (p : Fin 4) {st : Nat} (h : st < 8) : let t := portIdle s p st
    rd t (Reg.LINK_CTRL_EN p) = rd s (Reg.LINK_CTRL_EN p) ∧ portSt t p = st ∧ (∀ k < 8, laneSt t p k = lnOff) ∧ rd t (Reg.LINK_PARTNER_VALID p) = 0 := by
  intro t
  let a := leaveUp s p
  let b := forEach lanes a fun s l => dropLane s p l lnOff
  let c := idleSet b p st
  have ht : t = refreshUp c := portIdle_eq ..
  have ha : Frame s a [Reg.LINK_COUNT_DOWN_CNT p, Reg.LINK_STATUS_DEGRADED p] [] := frame_leaveUp ..
  have hc : Frame b c (idleRegs p) [.link] := frame_idleSet ..
  have hshown {f : Fld} (hf : f ∈ portShown p) : rd t f = rd c f := ht ▸ rd_refreshUp c (portShown_ne_up p f hf)
  refine ⟨?_, (hshown (by simp [portShown])).trans ((rd_wr _ (Reg.LINK_STATUS_STATE p) _).trans (Nat.mod_eq_of_lt h)), fun k hk => ?_, ?_⟩
  · refine (hshown (by simp [portShown])).trans ((hc.1 _ ?_).trans ((rd_dropAll a p _ (by simp)).trans (rd_frame_two ha (key_ne (by decide)) (key_ne (by decide)))))
    exact (by decide : ∀ p : Fin 4, ∀ e ∈ idleRegs p, (Reg.LINK_CTRL_EN p).key ≠ e.key) p
  · rw [show laneSt t p k = laneSt c p k from ht ▸ rd_refreshUp c (lane_ne_up p ⟨k, hk⟩),
      show laneSt c p k = laneSt b p k from hc.1 _ ((by decide : ∀ p : Fin 4, ∀ l : Fin 8, ∀ e ∈ idleRegs p, (laneFld p l).key ≠ e.key) p ⟨k, hk⟩)]
    exact laneSt_dropAll a p (fun _ _ => lnOff) (fun _ _ => by decide) hk
  · exact (hshown (by simp [portShown])).trans ((rd_wr_ne _ _ (key_ne (by decide))).trans ((rd_wr_ne _ _ (key_ne (by decide))).trans
      ((rd_wr_ne _ _ (key_ne (by decide))).trans ((rd_wr_ne _ _ (key_ne (by decide))).trans (rd_wr _ (Reg.LINK_PARTNER_VALID p) _)))))

/-! ### UP -/

/-- The fields that UP writes. -/
def enterRegs (p : Nat) : List Fld :=
  [Reg.LINK_STATUS_DEGRADED p, Reg.LINK_STATUS_NO_PARTNER p, Reg.LINK_STATUS_BACKOFF_MS p, Reg.LINK_STATUS_STATE p] ++ laneRegs p ++ upRegs

theorem portEnterUp_effect (s : State) (p : Fin 4) : let t := portEnterUp s p
    portSt t p = pUp ∧ (t.port p).backoff = 0 ∧ Frame s t (enterRegs p) [.link, .time, .events] := by
  intro t
  let low := rd s (Reg.LINK_STATUS_RATE_ACT p) == 2 && rd s (Reg.LINK_CTRL_RATE p) != 2 && !s.link.backup
  let narrow := rd s (Reg.LINK_STATUS_WIDTH p) != 3
  let a := s.modPort p fun x => { x with backoff := 0, fails := 0, low := low }
  let b := wr (wr (wr a (Reg.LINK_STATUS_DEGRADED p) (b2n narrow)) (Reg.LINK_STATUS_NO_PARTNER p) 0) (Reg.LINK_STATUS_BACKOFF_MS p) 0
  let c := setPort b p pUp
  let d := laneBackoffs c p
  let e := raiseIf narrow (raise d 0x3001 (linkUpArg d p)) 0x3003 (linkUpArg d p)
  have ht : t = refreshUp e := rfl
  have hev : eventRegs ⊆ upRegs := fun f hf => List.mem_cons_of_mem _ (List.mem_cons_of_mem _ (List.mem_cons_of_mem _ hf))
  have hmem {f : Fld} (h : f ∈ [Reg.LINK_STATUS_DEGRADED p, Reg.LINK_STATUS_NO_PARTNER p, Reg.LINK_STATUS_BACKOFF_MS p, Reg.LINK_STATUS_STATE p]) : f ∈ enterRegs p :=
    List.mem_append_left _ (List.mem_append_left _ h)
  have hc : Frame s c (enterRegs p) [.link, .time, .events] :=
    frame_wr _ (hmem (by simp)) (frame_wr _ (hmem (by simp)) (frame_wr _ (hmem (by simp)) (frame_wr _ (hmem (by simp)) (frame_modPort _ _ (by simp) (frame_refl ..)))))
  have hd : Frame c d (laneRegs p) [.link] := frame_laneBackoffs c p
  have he : Frame d e upRegs [.events] :=
    frame_raiseIf _ _ _ hev (List.mem_singleton_self _) (frame_raise _ _ hev (List.mem_singleton_self _) (frame_refl ..))
  have hst : portSt c p = pUp := rd_wr b (Reg.LINK_STATUS_STATE p) pUp
  have hport : { t.port p with laneFails := [] } = { c.port p with laneFails := [] } := by
    rw [ht, port_refreshUp, port_congr (samePart_of_frame he (p := .link) (by simp))]
    exact port_laneBackoffs c p
  refine ⟨?_, ?_, ?_⟩
  · refine (ht ▸ rd_refreshUp e (portShown_ne_up p _ (by simp [portShown]))).trans ((he.1 _ (portShown_ne_up p _ (by simp [portShown]))).trans ((hd.1 _ ?_).trans hst))
    exact (by decide : ∀ p : Fin 4, ∀ e ∈ laneRegs p, (Reg.LINK_STATUS_STATE p).key ≠ e.key) p
  · rw [show (t.port p).backoff = (c.port p).backoff from (congrArg PortS.backoff hport :),
      show c.port p = a.port p from (port_wr ..).trans ((port_wr ..).trans ((port_wr ..).trans (port_wr ..))), show a.port p = _ from port_modPort ..]
  · have hup : upRegs ⊆ enterRegs p := List.subset_append_right ..
    rw [ht]
    exact frame_step (frame_step (frame_step hc (frame_mono hd (fun f hf => List.mem_append_left _ (List.mem_append_right _ hf)) (by simp)))
      (frame_mono he hup (by simp))) (frame_mono (frame_refreshUp e) hup (by simp))

/-! Lanes that lose their signal, and windows that end (R230, R233, Table 10.4). -/

/-! ### A port that re-forms -/

/-- What a port that re-forms its group shows. -/
structure Regroups (p : Fin 4) (s t : State) : Prop where
  state : portSt t p = pDeskew ∨ portSt t p = pBackoff
  lane : ∀ k < 8, laneSt s p k ≠ lnFail → laneSt t p k = laneSt s p k
  frame : Frame s t (deskewRegs p) [.link, .time, .events]
  adds : Adds 1 s t

theorem portRegroup_effect (s : State) (p : Fin 4) : Regroups p s (portRegroup s p) := by
  unfold portRegroup
  split
  · obtain ⟨hst, -, -, -, hf, ha⟩ := portBackoff_effect s p
    exact ⟨.inr hst, fun k hk _ => hf.1 _ (lane_ne_port p ⟨k, hk⟩), frame_mono hf (List.subset_append_left ..) (List.Subset.refl _), ha⟩
  · obtain ⟨hst, -, -, hl, -, hf, ha⟩ := portDeskew_effect s p
    exact ⟨.inl hst, fun k hk hn => (hl k hk).trans (if_neg hn), hf, ha⟩

theorem lane_ne_event : ∀ p : Fin 4, ∀ l : Fin 8, ∀ e ∈ eventRegs, (laneFld p l).key ≠ e.key := by decide

theorem laneSt_raise (s : State) (c a : Nat) (p : Fin 4) {k : Nat} (hk : k < 8) : laneSt (raise s c a) p k = laneSt s p k :=
  (frame_raise_self s c a).1 _ (lane_ne_event p ⟨k, hk⟩)

theorem eventRegs_subset_deskew (p : Nat) : eventRegs ⊆ deskewRegs p := fun _ hf =>
  List.mem_append_left _ (upRegs_subset p (List.mem_cons_of_mem _ (List.mem_cons_of_mem _ (List.mem_cons_of_mem _ hf))))

theorem laneLeft_of {s : State} {p l : Nat} (h : portUp s p = true ∧ bit (rd s (Reg.LINK_STATUS_GROUP p)) l = true) :
    laneLeft s p l = portRegroup (raise s 0x3002 p) p := if_pos h

theorem laneLeft_not {s : State} {p l : Nat} (h : ¬(portUp s p = true ∧ bit (rd s (Reg.LINK_STATUS_GROUP p)) l = true)) : laneLeft s p l = s := if_neg h

theorem laneLeft_effect (s : State) (p : Fin 4) (l : Nat) : let t := laneLeft s p l
    (∀ k < 8, laneSt s p k ≠ lnFail → laneSt t p k = laneSt s p k) ∧ Frame s t (deskewRegs p) [.link, .time, .events] ∧ Adds 2 s t ∧
      (portUp s p = true → bit (rd s (Reg.LINK_STATUS_GROUP p)) l = true → (portSt t p = pDeskew ∨ portSt t p = pBackoff) ∧
        (packageHeld s = false → s.events.entries.length + 2 ≤ 512 → Has t 0x3002)) := by
  intro t
  by_cases h : portUp s p = true ∧ bit (rd s (Reg.LINK_STATUS_GROUP p)) l = true
  · obtain ⟨hst, hl, hf, ha⟩ := portRegroup_effect (raise s 0x3002 p) p
    have ht : t = portRegroup (raise s 0x3002 p) p := laneLeft_of h
    rw [← ht] at hst hl hf ha
    refine ⟨fun k hk hn => ?_, ?_, adds_trans (adds_raise s p (by decide)) ha, fun _ _ => ⟨hst, fun hp he => ?_⟩⟩
    · rw [hl k hk (by rwa [laneSt_raise s _ _ p hk]), laneSt_raise s _ _ p hk]
    · exact frame_step (frame_mono (frame_raise_self ..) (eventRegs_subset_deskew p) (by simp)) hf
    · exact has_of_raised p (adds_of_frame (frame_refl s [] []) (by simp) (by simp)) ha hp he (by decide)
  · rw [show t = s from laneLeft_not h]
    exact ⟨fun _ _ _ => rfl, frame_refl .., adds_mono (adds_of_frame (frame_refl s [] []) (by simp) (by simp)) (by omega), fun hu hb => absurd ⟨hu, hb⟩ h⟩

/-! ### A lost lane -/

theorem laneLost_keys : ∀ p : Fin 4, ∀ l : Fin 8,
    (∀ f ∈ [Reg.LINK_COUNT_LANE_LOST_CNT p, Reg.LINK_LANE_ERR_LOS_CNT p l, Reg.LINK_LANE_ERR_BAD_MARKER p l, Reg.LINK_STATUS_STATE p, Reg.LINK_STATUS_GROUP p],
      ∀ e ∈ laneFld p l :: dropRegs p l, f.key ≠ e.key) ∧
    ∀ f ∈ [Reg.LINK_COUNT_LANE_LOST_CNT p, Reg.LINK_LANE_ERR_LOS_CNT p l, Reg.LINK_LANE_ERR_BAD_MARKER p l], ∀ e ∈ deskewRegs p, f.key ≠ e.key := by decide

theorem laneCount_ne : ∀ p : Fin 4, ∀ l : Fin 8, ∀ f ∈ [laneFld p l, Reg.LINK_LANE_ERR_LOS_CNT p l, Reg.LINK_LANE_ERR_BAD_MARKER p l, Reg.LINK_STATUS_STATE p, Reg.LINK_STATUS_GROUP p],
    f.key ≠ (Reg.LINK_COUNT_LANE_LOST_CNT p).key := by decide

theorem laneLost_ne_event : ∀ p : Fin 4, ∀ l : Fin 8, ∀ f ∈ [laneFld p l, Reg.LINK_COUNT_LANE_LOST_CNT p, Reg.LINK_LANE_ERR_LOS_CNT p l, Reg.LINK_LANE_ERR_BAD_MARKER p l,
    Reg.LINK_STATUS_STATE p, Reg.LINK_STATUS_GROUP p], ∀ e ∈ eventRegs, f.key ≠ e.key := by decide

/-- What a lost lane shows. -/
structure Loses (p : Fin 4) (l : Fin 8) (s t : State) : Prop where
  lost : rd t (Reg.LINK_COUNT_LANE_LOST_CNT p) = min (rd s (Reg.LINK_COUNT_LANE_LOST_CNT p) + 1) (2 ^ (Reg.LINK_COUNT_LANE_LOST_CNT p).width - 1)
  counts : ∀ f ∈ [Reg.LINK_LANE_ERR_LOS_CNT p l, Reg.LINK_LANE_ERR_BAD_MARKER p l], rd t f = rd s f
  lane : laneSt t p l = lnSigdet
  event : packageHeld s = false → s.events.entries.length + 3 ≤ 512 → Has t 0x3005
  left : portUp s p = true → bit (rd s (Reg.LINK_STATUS_GROUP p)) l = true → (portSt t p = pDeskew ∨ portSt t p = pBackoff) ∧
    (packageHeld s = false → s.events.entries.length + 3 ≤ 512 → Has t 0x3002)

theorem laneLost_effect (s : State) (p : Fin 4) (l : Fin 8) : Loses p l s (laneLost s p l) := by
  let a := dropLane s p l lnSigdet
  let b := (bump a (Reg.LINK_COUNT_LANE_LOST_CNT p) 1).modPort p fun x => { x with own := l :: x.own.filter (· != l.val) }
  let c := raise b 0x3005 0
  obtain ⟨hlane, hframe, hadds, hleft⟩ := laneLeft_effect c p l
  have ha : Frame s a (laneFld p l :: dropRegs p l) [.free] := frame_dropLane ..
  have hb : Frame s b (Reg.LINK_COUNT_LANE_LOST_CNT p :: laneFld p l :: dropRegs p l) [.link, .free] :=
    frame_modPort _ _ (by simp) (frame_bump 1 (List.mem_cons_self ..) (frame_mono ha (List.subset_cons_self ..) (by simp)))
  obtain ⟨hdrop, hdeskew⟩ := laneLost_keys p l
  have hcb {f : Fld} (hf : f ∈ [laneFld p l, Reg.LINK_COUNT_LANE_LOST_CNT p, Reg.LINK_LANE_ERR_LOS_CNT p l, Reg.LINK_LANE_ERR_BAD_MARKER p l,
      Reg.LINK_STATUS_STATE p, Reg.LINK_STATUS_GROUP p]) : rd c f = rd b f := (frame_raise_self b 0x3005 0).1 f (laneLost_ne_event p l f hf)
  have hbs {f : Fld} (hn : f.key ≠ (Reg.LINK_COUNT_LANE_LOST_CNT p).key) (hd : ∀ e ∈ laneFld p l :: dropRegs p l, f.key ≠ e.key) : rd b f = rd s f :=
    (rd_modPort ..).trans ((rd_bump_ne a 1 hn).trans (ha.1 f hd))
  have hcl : laneSt c p l = lnSigdet :=
    (hcb (by simp)).trans ((rd_bump_ne a 1 (laneCount_ne p l _ (by simp))).trans (laneSt_dropLane s p l (by decide)))
  have hb0 : Adds 0 s b := adds_of_frame hb (by simp) (by simp)
  refine ⟨?_, fun f hf => ?_, ?_, fun hp he => ?_, fun hu hg => ?_⟩
  · refine (hframe.1 _ (hdeskew _ (by simp))).trans ((hcb (by simp)).trans ((rd_modPort ..).trans ((rd_bump a (Reg.LINK_COUNT_LANE_LOST_CNT p) 1).trans ?_)))
    rw [ha.1 _ (hdrop _ (by simp))]
  · have hm : f ∈ [laneFld p l, Reg.LINK_LANE_ERR_LOS_CNT p l, Reg.LINK_LANE_ERR_BAD_MARKER p l, Reg.LINK_STATUS_STATE p, Reg.LINK_STATUS_GROUP p] := by
      simp only [List.mem_cons, List.not_mem_nil, or_false] at hf ⊢
      tauto
    have hm' : f ∈ [Reg.LINK_COUNT_LANE_LOST_CNT p, Reg.LINK_LANE_ERR_LOS_CNT p l, Reg.LINK_LANE_ERR_BAD_MARKER p l] := List.mem_cons_of_mem _ hf
    exact (hframe.1 f (hdeskew f hm')).trans ((hcb (List.mem_cons_of_mem _ (List.mem_append_left _ hm'))).trans
      (hbs (laneCount_ne p l f hm) (hdrop f (List.mem_append_left [Reg.LINK_STATUS_STATE p, Reg.LINK_STATUS_GROUP p] hm'))))
  · exact (hlane l l.isLt (by rw [hcl]; decide)).trans hcl
  · exact has_of_raised 0 hb0 hadds hp he (by decide)
  · have hst : rd c (Reg.LINK_STATUS_STATE p) = rd s (Reg.LINK_STATUS_STATE p) := (hcb (by simp)).trans (hbs (laneCount_ne p l _ (by simp)) (hdrop _ (by simp)))
    have hgr : rd c (Reg.LINK_STATUS_GROUP p) = rd s (Reg.LINK_STATUS_GROUP p) := (hcb (by simp)).trans (hbs (laneCount_ne p l _ (by simp)) (hdrop _ (by simp)))
    obtain ⟨hend, hevent⟩ := hleft (by unfold portUp at hu ⊢; rw [hst]; exact hu) (by rw [hgr]; exact hg)
    have hc1 : Adds 1 s c := adds_trans hb0 (adds_raise b 0 (by decide))
    refine ⟨hend, fun hp he => hevent (hc1.1.trans hp) ?_⟩
    obtain ⟨r, hr, hlen⟩ := hc1.2 hp (by omega)
    rw [hr, List.length_append]
    omega

/-! ### Lanes that fail beside the others -/

/-- The fields that a failing lane writes. -/
def failRegs (p : Nat) : List Fld := lanes.flatMap fun l => [laneFld p l, Reg.LINK_EQ_CONV p l, Reg.LINK_LANE_ERR_LOS_CNT p l]

/-- Rising lanes fail or begin again; no lane becomes or ceases to be GOOD. -/
structure Fails (p : Fin 4) (s t : State) : Prop where
  good : ∀ k < 8, laneSt t p k = lnGood ↔ laneSt s p k = lnGood
  frame : Frame s t (failRegs p) [.link]
  port : { t.port p with own := [] } = { s.port p with own := [] }

theorem fails_refl (p : Fin 4) (s : State) : Fails p s s := ⟨fun _ _ => Iff.rfl, frame_refl .., rfl⟩

theorem fails_trans {p : Fin 4} {s t u : State} (h : Fails p s t) (k : Fails p t u) : Fails p s u :=
  ⟨fun n hn => (k.good n hn).trans (h.good n hn), frame_step h.frame k.frame, k.port.trans h.port⟩

theorem fails_forEach {p : Fin 4} {g : State → Nat → State} (h : ∀ u, ∀ l < 8, Fails p u (g u l)) (s : State) : Fails p s (forEach lanes s g) := by
  have hall : ∀ (l : List Nat), (∀ a ∈ l, a < 8) → ∀ u, Fails p u (forEach l u g) := by
    intro l
    induction l with
    | nil => exact fun _ u => fails_refl p u
    | cons a l ih => exact fun hb u => fails_trans (h u a (hb a (List.mem_cons_self ..))) (ih (fun b hm => hb b (List.mem_cons_of_mem _ hm)) _)
  exact hall lanes (fun a ha => List.mem_range.mp ha) s

theorem conv_ne_lane : ∀ p : Fin 4, ∀ l k : Fin 8, ∀ e ∈ [Reg.LINK_EQ_CONV p l, Reg.LINK_LANE_ERR_LOS_CNT p l], (laneFld p k).key ≠ e.key := by decide

/-- A rising lane that drops, from a state that counts its loss or not, fails beside the others. -/
theorem fails_drop {s c : State} {p : Fin 4} {l st : Nat} (hl : l < 8) (hr : laneRising s p l = true) (hst : st < 16) (hg : st ≠ lnGood)
    (hc : Frame s c [Reg.LINK_LANE_ERR_LOS_CNT p l] []) : Fails p s (dropLane c p l st) := by
  have hlane (k : Fin 8) : laneSt c p k = laneSt s p k := rd_frame_one hc (conv_ne_lane p ⟨l, hl⟩ k _ (by simp))
  have heq : dropLane c p l st = setLane (wr c (Reg.LINK_EQ_CONV p l) 0) p l st :=
    dropLane_of_not_good st (by rw [hlane ⟨l, hl⟩]; exact not_good_of_rising hr)
  have hmem {f : Fld} (hf : f ∈ [laneFld p l, Reg.LINK_EQ_CONV p l, Reg.LINK_LANE_ERR_LOS_CNT p l]) : f ∈ failRegs p := List.mem_flatMap.mpr ⟨l, mem_lanes hl, hf⟩
  refine ⟨fun k hk => ?_, ?_, ?_⟩
  · by_cases hkl : k = l
    · subst hkl
      rw [laneSt_dropLane c p k hst]
      exact ⟨fun h => absurd h hg, fun h => absurd h (not_good_of_rising hr)⟩
    · rw [laneSt_dropLane_ne c p st hl hk hkl, hlane ⟨k, hk⟩]
  · rw [heq]
    have hc' : Frame s c (failRegs p) [.link] := frame_mono hc (List.cons_subset.mpr ⟨hmem (by simp), List.nil_subset _⟩) (List.nil_subset _)
    exact frame_wr _ (hmem (by simp)) (frame_wr _ (hmem (by simp)) hc')
  · rw [port_dropLane, port_congr (samePart_of_frame hc (p := .link) (by simp))]

theorem laneLos_rising {s : State} {p l : Nat} (h : laneRising s p l = true) : laneLos s p l = dropLane (bump s (Reg.LINK_LANE_ERR_LOS_CNT p l) 1) p l lnSigdet := if_pos h

/-- A lane's turn in the losses that fall in the window's last cycle. -/
def losTurn (p : Nat) (los : Byte) (s : State) (l : Nat) : State := if bit los.toNat l && laneRising s p l then laneLos s p l else s

theorem losTurn_of {p : Nat} {los : Byte} {s : State} {l : Nat} (h : (bit los.toNat l && laneRising s p l) = true) :
    losTurn p los s l = dropLane (bump s (Reg.LINK_LANE_ERR_LOS_CNT p l) 1) p l lnSigdet := (if_pos h).trans (laneLos_rising (Bool.and_eq_true_iff.mp h).2)

theorem losTurn_not {p : Nat} {los : Byte} {s : State} {l : Nat} (h : (bit los.toNat l && laneRising s p l) = false) : losTurn p los s l = s :=
  if_neg (ne_of_eq_of_ne h Bool.false_ne_true)

theorem fails_losTurn (p : Fin 4) (los : Byte) (s : State) {l : Nat} (hl : l < 8) : Fails p s (losTurn p los s l) := by
  cases h : bit los.toNat l && laneRising s p l
  · rw [losTurn_not h]
    exact fails_refl p s
  · rw [losTurn_of h]
    exact fails_drop hl (Bool.and_eq_true_iff.mp h).2 (by decide) (by decide) (frame_bump 1 (List.mem_singleton_self _) (frame_refl ..))

theorem laneFail_rising {s : State} {p l : Nat} (h : laneRising s p l = true) :
    laneFail s p l = (dropLane s p l lnFail).modPort p fun x => { x with own := x.own.filter (· != l) } := if_pos h

theorem fails_laneFail (p : Fin 4) (s : State) {l : Nat} (hl : l < 8) : Fails p s (laneFail s p l) := by
  by_cases h : laneRising s p l = true
  · rw [laneFail_rising h]
    obtain ⟨hgood, hframe, hport⟩ := fails_drop (c := s) (st := lnFail) hl h (by decide) (by decide) (frame_refl ..)
    refine ⟨hgood, frame_modPort _ _ (by simp) hframe, ?_⟩
    rw [port_modPort]
    exact hport
  · rw [show laneFail s p l = s from if_neg h]
    exact fails_refl p s

theorem fail_ne_port : ∀ p : Fin 4, ∀ f ∈ [Reg.LINK_STATUS_STATE p, Reg.LINK_PARTNER_VALID p, Reg.LINK_PARTNER_RX_GOOD p], ∀ e ∈ failRegs p, f.key ≠ e.key := by decide

theorem Fails.state {p : Fin 4} {s t : State} (h : Fails p s t) : portSt t p = portSt s p := h.frame.1 _ (fail_ne_port p _ (by simp))

theorem Fails.agreed {p : Fin 4} {s t : State} (h : Fails p s t) : agreedMask t p = agreedMask s p :=
  agreedMask_congr h.good (h.frame.1 _ (fail_ne_port p _ (by simp))) (h.frame.1 _ (fail_ne_port p _ (by simp)))

theorem Fails.seen {p : Fin 4} {s t : State} (h : Fails p s t) : (t.port p).seen = (s.port p).seen := (congrArg PortS.seen h.port :)

theorem Fails.backoff {p : Fin 4} {s t : State} (h : Fails p s t) : (t.port p).backoff = (s.port p).backoff := (congrArg PortS.backoff h.port :)

theorem Fails.adds {p : Fin 4} {s t : State} (h : Fails p s t) : Adds 0 s t := adds_of_frame h.frame (by simp) (by simp)

/-! ### The end of the port's window -/

/-- The lanes without a window of their own that still rise fail. -/
def windowFails (s : State) (p : Nat) : State := forEach lanes s fun s l => if (s.port p).own.contains l then s else laneFail s p l

/-- The lanes outside the group that still rise fail. -/
def groupFails (s : State) (p g : Nat) : State := forEach lanes s fun s l => if bit g l then s else laneFail s p l

theorem fails_windowFails (p : Fin 4) (s : State) : Fails p s (windowFails s p) :=
  fails_forEach (fun u l hl => by split; exacts [fails_refl p u, fails_laneFail p u hl]) s

theorem fails_groupFails (p : Fin 4) (s : State) (g : Nat) : Fails p s (groupFails s p g) :=
  fails_forEach (fun u l hl => by split; exacts [fails_refl p u, fails_laneFail p u hl]) s

theorem attemptEnd_eq (s : State) (p : Nat) : attemptEnd s p =
    let s1 := windowFails s p
    if portSt s1 p = pTrain then
      if groupOf (agreedMask s1 p) = 0 then
        portBackoff (raiseIf (!(s1.port p).seen) (wr s1 (Reg.LINK_STATUS_NO_PARTNER p) (b2n (!(s1.port p).seen))) 0x3004 0) p
      else portDeskew (wr (groupFails s1 p (groupOf (agreedMask s1 p))) (Reg.LINK_STATUS_NO_PARTNER p) 0) p
    else s1 := rfl

theorem attemptEnd_alone {s : State} {p : Fin 4} (h : portSt s p = pTrain) (hg : groupOf (agreedMask s p) = 0) :
    attemptEnd s p = portBackoff (raiseIf (!(s.port p).seen) (wr (windowFails s p) (Reg.LINK_STATUS_NO_PARTNER p) (b2n (!(s.port p).seen))) 0x3004 0) p := by
  have hf := fails_windowFails p s
  rw [attemptEnd_eq]
  dsimp only
  rw [if_pos (hf.state.trans h), if_pos ((congrArg groupOf hf.agreed).trans hg), hf.seen]

theorem attemptEnd_group {s : State} {p : Fin 4} (h : portSt s p = pTrain) (hg : groupOf (agreedMask s p) ≠ 0) :
    attemptEnd s p = portDeskew (wr (groupFails (windowFails s p) p (groupOf (agreedMask s p))) (Reg.LINK_STATUS_NO_PARTNER p) 0) p := by
  have hf := fails_windowFails p s
  rw [attemptEnd_eq]
  dsimp only
  rw [if_pos (hf.state.trans h), hf.agreed, if_neg hg]

/-! The end of windows and the status words of a port (R229, R231 to R233, Table 10.5). -/

/-! ### The end of a window -/

/-- The state after the losses of the window's last cycle. -/
def losses (p : Nat) (los : Byte) (s : State) : State := forEach lanes s (losTurn p los)

theorem exec_laneWindowEnd_port (p : Fin 4) (los : Byte) (s : State) :
    exec (.laneWindowEnd p none los) s = .next (if portSt s p = pTrain then attemptEnd (losses p los s) p else losses p los s) := rfl

theorem exec_laneWindowEnd_lane (p : Fin 4) (l : Fin 8) (los : Byte) (s : State) : exec (.laneWindowEnd p (some l) los) s =
    .next (if ((losses p los s).port p).own.contains l.val then laneBackoffs (laneFail (losses p los s) p l) p else losses p los s) := rfl

theorem fails_losses (p : Fin 4) (los : Byte) (s : State) : Fails p s (losses p los s) := fails_forEach (fun u _ hl => fails_losTurn p los u hl) s

theorem laneSt_losTurn_ne (p : Fin 4) (los : Byte) (s : State) {a k : Nat} (ha : a < 8) (hk : k < 8) (h : k ≠ a) : laneSt (losTurn p los s a) p k = laneSt s p k := by
  cases hb : bit los.toNat a && laneRising s p a
  · rw [losTurn_not hb]
  · rw [losTurn_of hb, laneSt_dropLane_ne _ p _ ha hk h]
    exact rd_bump_ne s 1 (conv_ne_lane p ⟨a, ha⟩ ⟨k, hk⟩ _ (by simp))

/-- A rising lane whose signal is lost begins again; every other lane stays. -/
theorem laneSt_losses (p : Fin 4) (los : Byte) (s : State) {k : Nat} (hk : k < 8) :
    laneSt (losses p los s) p k = if bit los.toNat k && laneRising s p k then lnSigdet else laneSt s p k := by
  have hall : ∀ (l : List Nat), l.Nodup → (∀ a ∈ l, a < 8) → ∀ u, laneSt (forEach l u (losTurn p los)) p k =
      if k ∈ l then (if bit los.toNat k && laneRising u p k then lnSigdet else laneSt u p k) else laneSt u p k := by
    intro l
    induction l with
    | nil => exact fun _ _ u => rfl
    | cons a l ih =>
      intro hn hb u
      obtain ⟨ha, hl⟩ := List.nodup_cons.mp hn
      have ha8 := hb a (List.mem_cons_self ..)
      refine (ih hl (fun b hm => hb b (List.mem_cons_of_mem _ hm)) (losTurn p los u a)).trans ?_
      by_cases hka : k = a
      · subst hka
        rw [if_neg ha, if_pos (List.mem_cons_self ..)]
        cases hc : bit los.toNat k && laneRising u p k
        · rw [losTurn_not hc, if_neg Bool.false_ne_true]
        · rw [losTurn_of hc, if_pos rfl, laneSt_dropLane _ p k (by decide)]
      · have hsame := laneSt_losTurn_ne p los u ha8 hk hka
        have hrise : laneRising (losTurn p los u a) p k = laneRising u p k := by
          unfold laneRising
          rw [hsame]
        rw [hsame, hrise]
        exact if_congr (by simp [hka]) rfl rfl
  exact (hall lanes List.nodup_range (fun a ha => List.mem_range.mp ha) s).trans (if_pos (mem_lanes hk))

/-- The losses leave the windows of the lanes alone. -/
theorem port_losses (p : Nat) (los : Byte) (s : State) : (losses p los s).port p = s.port p := by
  refine forEach_same (fun s : State => s.port p) (fun u l _ => ?_) s
  cases hb : bit los.toNat l && laneRising u p l
  · rw [losTurn_not hb]
  · rw [losTurn_of hb, port_dropLane, port_bump]

/-- Without a group the port backs off, from a state that still tells whether a partner was seen. -/
theorem laneWindowEnd_backsOff {s : State} {p : Fin 4} (los : Byte) (h : portSt s p = pTrain) (hg : groupOf (agreedMask s p) = 0) :
    ∃ u, exec (.laneWindowEnd p none los) s = .next (portBackoff u p) ∧ (u.port p).backoff = (s.port p).backoff ∧
      ((s.port p).seen = false → ∃ v, Adds 0 s v ∧ u = raise v 0x3004 0) := by
  have h0 : Fails p s (losses p los s) := fails_losses p los s
  generalize hs0 : losses p los s = s0 at h0
  have h1 : Fails p s (windowFails s0 p) := fails_trans h0 (fails_windowFails p s0)
  have hend := attemptEnd_alone (h0.state.trans h) ((congrArg groupOf h0.agreed).trans hg)
  generalize windowFails s0 p = w at h1 hend
  refine ⟨_, (exec_laneWindowEnd_port p los s).trans (congrArg Host.Outcome.next ((if_pos h).trans ((congrArg (attemptEnd · p) hs0).trans hend))), ?_, fun hseen => ?_⟩
  · refine Eq.trans ?_ h1.backoff
    unfold raiseIf
    split
    · rw [port_raise, port_wr]
    · rw [port_wr]
  · refine ⟨_, adds_trans h1.adds (adds_of_frame (frame_wr (f := Reg.LINK_STATUS_NO_PARTNER p) (rs := [Reg.LINK_STATUS_NO_PARTNER p]) (ps := []) _ (by simp)
      (frame_refl ..)) (by simp) (by simp)), if_pos ?_⟩
    rw [h0.seen, hseen]
    rfl

theorem laneWindowEnd_alone {s : State} {p : Fin 4} (los : Byte) (h : portSt s p = pTrain) (hg : groupOf (agreedMask s p) = 0) :
    Gives (.laneWindowEnd p none los) s fun t =>
      (portSt t p = pBackoff ∧ rd t (Reg.LINK_STATUS_BACKOFF_MS p) = 2 ^ min (s.port p).backoff 6 ∧ (t.port p).backoff = (s.port p).backoff + 1 ∧
        rd t (Reg.LINK_STATUS_GROUP p) = 0) ∧
      (packageHeld s = false ∧ s.events.entries.length + 3 ≤ 512 → (s.port p).seen = false → ∃ e ∈ t.events.entries, e.code = 0x3004) := by
  obtain ⟨u, hend, hport, htold⟩ := laneWindowEnd_backsOff los h hg
  obtain ⟨hst, hms, hbo, hgr, -, hadds⟩ := portBackoff_effect u p
  refine gives_next hend rfl ⟨⟨hst, by rw [hms, hport], by rw [hbo, hport], hgr⟩, fun ⟨hp, he⟩ hseen => ?_⟩
  obtain ⟨v, hv, rfl⟩ := htold hseen
  exact has_of_raised 0 hv hadds hp (by omega) (by decide)

theorem laneWindowEnd_group {s : State} {p : Fin 4} (los : Byte) (h : portSt s p = pTrain) (hg : groupOf (agreedMask s p) ≠ 0) :
    Gives (.laneWindowEnd p none los) s fun t => portSt t p = pDeskew ∧ rd t (Reg.LINK_STATUS_GROUP p) = groupOf (agreedMask s p) ∧
      rd t (Reg.LINK_STATUS_WIDTH p) = widthCode (groupOf (agreedMask s p)) ∧ rd t (Reg.LINK_STATUS_NO_PARTNER p) = 0 := by
  let s0 := losses p los s
  let v := groupFails (windowFails s0 p) p (groupOf (agreedMask s0 p))
  let u := wr v (Reg.LINK_STATUS_NO_PARTNER p) 0
  have h0 : Fails p s s0 := fails_losses p los s
  have h1 : Fails p s v := fails_trans (fails_trans h0 (fails_windowFails p s0)) (fails_groupFails p _ _)
  have hend : exec (.laneWindowEnd p none los) s = .next (portDeskew u p) :=
    (exec_laneWindowEnd_port p los s).trans (congrArg Host.Outcome.next ((if_pos h).trans (attemptEnd_group (h0.state.trans h) (by rwa [h0.agreed]))))
  have hmask : agreedMask u p = agreedMask s p := by
    have hlane : ∀ p : Fin 4, ∀ l : Fin 8, (laneFld p l).key ≠ (Reg.LINK_STATUS_NO_PARTNER p).key := by decide
    refine Eq.trans (agreedMask_congr (fun k hk => ?_) (rd_wr_ne v _ (key_ne (by decide))) (rd_wr_ne v _ (key_ne (by decide)))) h1.agreed
    rw [show laneSt u p k = laneSt v p k from rd_wr_ne v 0 (hlane p ⟨k, hk⟩)]
  obtain ⟨hst, hgr, hw, -, -, hframe, -⟩ := portDeskew_effect u p
  rw [hmask] at hgr hw
  refine gives_next hend rfl ⟨hst, hgr, hw, ?_⟩
  exact (hframe.1 _ ((by decide : ∀ p : Fin 4, ∀ e ∈ deskewRegs p, (Reg.LINK_STATUS_NO_PARTNER p).key ≠ e.key) p)).trans (rd_wr v (Reg.LINK_STATUS_NO_PARTNER p) 0)

/-! The end of a lane's own window, status words, and eye scans (R229, R231, R232, R236). -/

/-! ### A lane's own window -/

theorem laneRising_losses {p : Fin 4} {los : Byte} {s : State} {l : Fin 8} (h : laneRising s p l = true) : laneRising (losses p los s) p l = true := by
  have hl := laneSt_losses p los s l.isLt
  obtain ⟨h1, h4⟩ := rising_iff.mp h
  refine rising_iff.mpr ?_
  rw [hl]
  split
  · decide
  · exact ⟨h1, h4⟩

theorem laneWindowEnd_own {s : State} {p : Fin 4} {l : Fin 8} (los : Byte) (ho : (s.port p).own.contains l.val = true) (hr : laneRising s p l = true) :
    Gives (.laneWindowEnd p (some l) los) s fun t => laneSt t p l = (if portSt s p = pUp ∨ portSt s p = pDeskew then lnBackoff else lnFail) ∧
      (t.port p).own.contains l.val = false := by
  have h0 := fails_losses p los s
  have hr0 := laneRising_losses (los := los) hr
  have hown : ((losses p los s).port p).own.contains l.val = true := by rwa [port_losses]
  have hexec := (exec_laneWindowEnd_lane p l los s).trans (congrArg Host.Outcome.next (if_pos hown))
  generalize losses p los s = s0 at h0 hr0 hexec
  have h1 : Fails p s0 (laneFail s0 p l) := fails_laneFail p s0 l.isLt
  have hlane : laneSt (laneFail s0 p l) p l = lnFail := by
    rw [laneFail_rising hr0]
    exact (laneSt_dropLane s0 p l (st := lnFail) (by decide) :)
  have hfilter : ((laneFail s0 p l).port p).own.contains l.val = false := by
    rw [laneFail_rising hr0, port_modPort]
    simp
  generalize laneFail s0 p l = a at h1 hlane hfilter hexec
  have hst : portSt a p = portSt s p := h1.state.trans h0.state
  refine gives_next hexec rfl ⟨?_, ?_⟩
  · by_cases hrun : portSt s p = pUp ∨ portSt s p = pDeskew
    · rw [if_pos hrun, (laneBackoffs_lane (hst ▸ hrun) l.isLt).1, if_pos hlane]
    · rw [if_neg hrun, laneBackoffs_other (hst ▸ hrun), hlane]
  · rw [show ((laneBackoffs a p).port p).own = (a.port p).own from (congrArg PortS.own (port_laneBackoffs a p) :)]
    exact hfilter

theorem laneWindowEnd_stays {s : State} {p : Fin 4} {l : Fin 8} (ho : (s.port p).own.contains l.val = false) : exec (.laneWindowEnd p (some l) 0) s = .next s := by
  have h0 : losses p 0 s = s := forEach_same id (fun u a _ => losTurn_not (by simp [bit])) s
  refine (exec_laneWindowEnd_lane p l 0 s).trans (congrArg Host.Outcome.next ?_)
  rw [h0]
  exact if_neg (ne_of_eq_of_ne ho Bool.false_ne_true)

/-! ### Status words -/

/-- What a status word shows of the partner. -/
def partnerShown (s : State) (p : Nat) (bs : List Nat) : State :=
  wr (wr (wr (wr s (Reg.LINK_PARTNER_DEVICE_ID p) (bs.getD 2 0 * 256 + bs.getD 3 0)) (Reg.LINK_PARTNER_RX_GOOD p) (bs.getD 4 0))
    (Reg.LINK_PARTNER_FLAGS p) (bs.getD 5 0 % 64)) (Reg.LINK_PARTNER_VALID p) 1

theorem headD_drop (l : List Nat) (i : Nat) : (l.drop i).headD 0 = l.getD i 0 := by
  rw [List.headD_eq_head?_getD, List.head?_drop, List.getD_eq_getElem?_getD]

theorem statusIn_eq (s : State) (p : Nat) (bs : List Nat) (aligned : Bool) (late : Nat) : statusIn s p bs aligned late =
    (let s1 := partnerShown s p bs
    let st := portSt s1 p
    if st = pTrain then trainCheck s1 p
    else if st = pDeskew then deskewWord s1 p aligned late
    else if st = pUp then
      if agreedMask s1 p &&& rd s1 (Reg.LINK_STATUS_GROUP p) = rd s1 (Reg.LINK_STATUS_GROUP p) then s1 else portRegroup (raise s1 0x3002 p) p
    else s1) := by
  unfold statusIn partnerShown
  simp only [headD_drop]

/-- The fields of the partner. -/
def partnerRegs (p : Nat) : List Fld := [Reg.LINK_PARTNER_DEVICE_ID p, Reg.LINK_PARTNER_RX_GOOD p, Reg.LINK_PARTNER_FLAGS p, Reg.LINK_PARTNER_VALID p]

theorem frame_partnerShown (s : State) (p : Nat) (bs : List Nat) : Frame s (partnerShown s p bs) (partnerRegs p) [] :=
  frame_wr _ (by simp [partnerRegs]) (frame_wr _ (by simp [partnerRegs]) (frame_wr _ (by simp [partnerRegs]) (frame_wr _ (by simp [partnerRegs]) (frame_refl ..))))

/-- The fields that the port writes on a status word. -/
def statusRegs (p : Nat) : List Fld := Reg.LINK_STATUS_NO_PARTNER p :: (deskewRegs p ++ enterRegs p ++ dropAllRegs p)

theorem partner_ne_status : ∀ p : Fin 4, ∀ f ∈ partnerRegs p, ∀ e ∈ statusRegs p, f.key ≠ e.key := by decide

theorem deskew_subset_status (p : Nat) : deskewRegs p ⊆ statusRegs p := fun _ h => List.mem_cons_of_mem _ (List.mem_append_left _ (List.mem_append_left _ h))

theorem enter_subset_status (p : Nat) : enterRegs p ⊆ statusRegs p := fun _ h => List.mem_cons_of_mem _ (List.mem_append_left _ (List.mem_append_right _ h))

theorem drop_subset_status (p : Nat) : dropAllRegs p ⊆ statusRegs p := fun _ h => List.mem_cons_of_mem _ (List.mem_append_right _ h)

/-- The parts that a port changes on a status word. -/
def statusParts : List Part := [.events, .time, .link, .free]

theorem frame_portRegroup (s : State) (p : Fin 4) : Frame s (portRegroup s p) (statusRegs p) statusParts :=
  frame_mono (portRegroup_effect s p).frame (deskew_subset_status p) (by simp [statusParts])

theorem frame_trainCheck (s : State) (p : Fin 4) : Frame s (trainCheck s p) (statusRegs p) statusParts := by
  obtain ⟨-, -, -, -, -, hf, -⟩ := portDeskew_effect s p
  unfold trainCheck
  exact frame_ite (frame_wr _ (List.mem_cons_self ..) (frame_mono hf (deskew_subset_status p) (by simp [statusParts]))) (frame_refl ..)

/-- DESKEW with no lane late: the agreed masks are counted, and the group is that of the mask. -/
def deskewCounted (s : State) (p : Nat) : State := setGroup (countAgree s p) p (groupOf (agreedMask s p))

/-- DESKEW with late lanes: they fail. -/
def deskewLate (s : State) (p late : Nat) : State :=
  forEach lanes s fun s' l => if bit (late &&& groupOf (agreedMask s p)) l then dropLane s' p l lnFail else s'

theorem deskewWord_late {s : State} {p late : Nat} (aligned : Bool) (h : (late &&& groupOf (agreedMask s p) != 0) = true) :
    deskewWord s p aligned late = portRegroup (deskewLate s p late) p := if_pos h

theorem deskewWord_counted {s : State} {p late : Nat} (aligned : Bool) (h : (late &&& groupOf (agreedMask s p) != 0) = false) : deskewWord s p aligned late =
    if aligned = true ∧ groupOf (agreedMask s p) ≠ 0 ∧ 3 ≤ ((deskewCounted s p).port p).agree then portEnterUp (deskewCounted s p) p else deskewCounted s p :=
  if_neg (ne_of_eq_of_ne h Bool.false_ne_true)

theorem frame_deskewCounted (s : State) (p : Nat) : Frame s (deskewCounted s p) [Reg.LINK_STATUS_WIDTH p, Reg.LINK_STATUS_GROUP p] [.link] :=
  frame_wr _ (by simp) (frame_wr _ (by simp) (frame_modPort _ _ (by simp) (frame_refl ..)))

theorem frame_deskewWord (s : State) (p : Fin 4) (aligned : Bool) (late : Nat) : Frame s (deskewWord s p aligned late) (statusRegs p) statusParts := by
  cases h : late &&& groupOf (agreedMask s p) != 0
  · rw [deskewWord_counted aligned h]
    have hc : Frame s (deskewCounted s p) (statusRegs p) statusParts :=
      frame_mono (frame_deskewCounted s p) (fun f hf => deskew_subset_status p (List.mem_append_left _ (by simp [portRegs] at hf ⊢; tauto))) (by simp [statusParts])
    obtain ⟨-, -, hup⟩ := portEnterUp_effect (deskewCounted s p) p
    exact frame_ite (frame_step hc (frame_mono hup (enter_subset_status p) (by simp [statusParts]))) hc
  · rw [deskewWord_late aligned h]
    have hd : Frame s (deskewLate s p late) (dropAllRegs p) [.free] := frame_forEach (frame_refl ..) fun u l hl hu => frame_ite
      (frame_step hu (frame_mono (frame_dropLane u p l _) (fun _ hf => List.mem_flatMap.mpr ⟨l, hl, hf⟩) (List.Subset.refl _))) hu
    exact frame_step (frame_mono hd (drop_subset_status p) (by simp [statusParts])) (frame_portRegroup _ p)

theorem frame_statusIn (s : State) (p : Fin 4) (bs : List Nat) (aligned : Bool) (late : Nat) :
    Frame (partnerShown s p bs) (statusIn s p bs aligned late) (statusRegs p) statusParts := by
  rw [statusIn_eq]
  dsimp only
  have hev : eventRegs ⊆ statusRegs p := fun f hf => deskew_subset_status p (eventRegs_subset_deskew p hf)
  exact frame_ite (frame_trainCheck ..) (frame_ite (frame_deskewWord ..) (frame_ite (frame_ite (frame_refl ..)
    (frame_step (frame_raise _ _ hev (by simp [statusParts]) (frame_refl ..)) (frame_portRegroup _ p))) (frame_refl ..)))

/-! ### The state that a status word leads to -/

theorem shown_ne_partner : ∀ p : Fin 4, ∀ f ∈ [Reg.LINK_STATUS_STATE p, Reg.LINK_STATUS_GROUP p], ∀ e ∈ partnerRegs p, f.key ≠ e.key := by decide

theorem lane_ne_partner : ∀ p : Fin 4, ∀ l : Fin 8, ∀ e ∈ partnerRegs p, (laneFld p l).key ≠ e.key := by decide

theorem portSt_partnerShown (s : State) (p : Fin 4) (bs : List Nat) : portSt (partnerShown s p bs) p = portSt s p :=
  (frame_partnerShown s p bs).1 _ (shown_ne_partner p _ (by simp))

theorem port_partnerShown (s : State) (p : Nat) (bs : List Nat) : (partnerShown s p bs).port p = s.port p :=
  port_congr (samePart_of_frame (frame_partnerShown s p bs) (p := .link) (by simp)) p

theorem partnerShown_good (s : State) (p : Nat) {bs : List Nat} (h : bs.getD 4 0 < 256) : partnerGood (partnerShown s p bs) p = bs.getD 4 0 := by
  have hv : on (partnerShown s p bs) (Reg.LINK_PARTNER_VALID p) = true := on_wr_one _ (Reg.LINK_PARTNER_VALID p) rfl
  unfold partnerGood
  rw [if_pos hv]
  exact (rd_wr_ne _ _ (key_ne (by decide))).trans ((rd_wr_ne _ _ (key_ne (by decide))).trans
    ((rd_wr _ (Reg.LINK_PARTNER_RX_GOOD p) _).trans (Nat.mod_eq_of_lt h)))

theorem agreed_partnerShown (s : State) (p : Fin 4) {bs : List Nat} (h : bs.getD 4 0 < 256) : agreedMask (partnerShown s p bs) p = rxGood s p &&& bs.getD 4 0 :=
  congrArg₂ (· &&& ·) (rxGood_congr fun k hk => by
    rw [show laneSt (partnerShown s p bs) p k = laneSt s p k from (frame_partnerShown s p bs).1 _ (lane_ne_partner p ⟨k, hk⟩)]) (partnerShown_good s p h)

theorem wordBytes_lt (w : BitVec 64) (i : Nat) : (wordBytes w).getD i 0 < 256 := by
  have hall : ∀ b ∈ wordBytes w, b < 256 := by
    intro b hb
    obtain ⟨n, -, rfl⟩ := List.mem_map.mp hb
    exact Nat.mod_lt _ (by decide)
  rw [List.getD_eq_getElem?_getD]
  rcases h : (wordBytes w)[i]? with _ | b
  · decide
  · exact hall b (List.mem_of_getElem? h)

theorem rd_partnerShown (s : State) (p : Nat) (w : BitVec 64) : let u := partnerShown s p (wordBytes w)
    rd u (Reg.LINK_PARTNER_DEVICE_ID p) = (wordBytes w).getD 2 0 * 256 + (wordBytes w).getD 3 0 ∧ rd u (Reg.LINK_PARTNER_RX_GOOD p) = (wordBytes w).getD 4 0 ∧
      rd u (Reg.LINK_PARTNER_FLAGS p) = (wordBytes w).getD 5 0 % 64 ∧ rd u (Reg.LINK_PARTNER_VALID p) = 1 := by
  have hb := wordBytes_lt w
  refine ⟨?_, ?_, ?_, rd_wr _ (Reg.LINK_PARTNER_VALID p) 1⟩
  · refine (rd_wr_ne _ _ (key_ne (by decide))).trans ((rd_wr_ne _ _ (key_ne (by decide))).trans ((rd_wr_ne _ _ (key_ne (by decide))).trans
      ((rd_wr _ (Reg.LINK_PARTNER_DEVICE_ID p) _).trans (Nat.mod_eq_of_lt ?_))))
    have h2 := hb 2
    have h3 := hb 3
    show _ < 65536
    omega
  · exact (rd_wr_ne _ _ (key_ne (by decide))).trans ((rd_wr_ne _ _ (key_ne (by decide))).trans ((rd_wr _ (Reg.LINK_PARTNER_RX_GOOD p) _).trans (Nat.mod_eq_of_lt (hb 4))))
  · exact (rd_wr_ne _ _ (key_ne (by decide))).trans ((rd_wr _ (Reg.LINK_PARTNER_FLAGS p) _).trans (Nat.mod_eq_of_lt (Nat.mod_lt _ (by decide))))

theorem agree_countAgree (s : State) (p : Nat) : ((countAgree s p).port p).agree =
    if ((s.port p).agree != 0 && (s.port p).agreeMask == agreedMask s p) = true then (s.port p).agree + 1 else 1 := by
  unfold countAgree
  rw [port_modPort]
  split <;> rfl

theorem port_deskewCounted (s : State) (p : Nat) : (deskewCounted s p).port p = (countAgree s p).port p := (port_wr ..).trans (port_wr ..)

theorem portSt_deskewCounted (s : State) (p : Nat) : portSt (deskewCounted s p) p = portSt s p :=
  rd_frame_two (frame_deskewCounted s p) (key_ne (by decide)) (key_ne (by decide))

theorem late_zero (g : Nat) : ((0 : Byte).toNat &&& g != 0) = false := by simp

theorem statusIn_deskew {s : State} {p : Fin 4} {bs : List Nat} (aligned : Bool) (late : Nat) (h : portSt s p = pDeskew) :
    statusIn s p bs aligned late = deskewWord (partnerShown s p bs) p aligned late := by
  have hst := (portSt_partnerShown s p bs).trans h
  rw [statusIn_eq]
  dsimp only
  rw [hst]
  rfl

theorem statusIn_backoff {s : State} {p : Fin 4} {bs : List Nat} (aligned : Bool) (late : Nat) (h : portSt s p = pBackoff) :
    statusIn s p bs aligned late = partnerShown s p bs := by
  have hst := (portSt_partnerShown s p bs).trans h
  rw [statusIn_eq]
  dsimp only
  rw [hst]
  rfl

theorem statusIn_up {s : State} {p : Fin 4} {bs : List Nat} (aligned : Bool) (late : Nat) (hb : bs.getD 4 0 < 256) (h : portSt s p = pUp)
    (hm : rxGood s p &&& bs.getD 4 0 &&& rd s (Reg.LINK_STATUS_GROUP p) = rd s (Reg.LINK_STATUS_GROUP p)) : statusIn s p bs aligned late = partnerShown s p bs := by
  have hst := (portSt_partnerShown s p bs).trans h
  have hg : rd (partnerShown s p bs) (Reg.LINK_STATUS_GROUP p) = rd s (Reg.LINK_STATUS_GROUP p) := (frame_partnerShown s p bs).1 _ (shown_ne_partner p _ (by simp))
  rw [statusIn_eq]
  dsimp only
  rw [hst, if_neg (by decide), if_neg (by decide), if_pos rfl, hg, agreed_partnerShown s p hb, if_pos hm]

theorem statusIn_agreed {s : State} {p : Fin 4} {bs : List Nat} (hb : bs.getD 4 0 < 256) (h : portSt s p = pDeskew)
    (hg : groupOf (rxGood s p &&& bs.getD 4 0) ≠ 0) (ha : 2 ≤ (s.port p).agree) (hm : (s.port p).agreeMask = rxGood s p &&& bs.getD 4 0) :
    let t := statusIn s p bs true (0 : Byte).toNat
    portSt t p = pUp ∧ rd t (Reg.LINK_STATUS_GROUP p) = groupOf (rxGood s p &&& bs.getD 4 0) ∧ (t.port p).backoff = 0 := by
  intro t
  have hmask := agreed_partnerShown s p hb
  have hport := port_partnerShown s p bs
  have ht : t = deskewWord (partnerShown s p bs) p true (0 : Byte).toNat := statusIn_deskew true _ h
  generalize partnerShown s p bs = u at hmask hport ht
  have hagree : ((deskewCounted u p).port p).agree = (s.port p).agree + 1 := by
    rw [port_deskewCounted, agree_countAgree, hport, hmask, hm]
    exact if_pos (by simp; omega)
  rw [deskewWord_counted true (late_zero _), if_pos ⟨rfl, by rwa [hmask], by rw [hagree]; omega⟩] at ht
  obtain ⟨hst, hbo, hf⟩ := portEnterUp_effect (deskewCounted u p) p
  rw [ht]
  refine ⟨hst, (hf.1 _ ((by decide : ∀ p : Fin 4, ∀ e ∈ enterRegs p, (Reg.LINK_STATUS_GROUP p).key ≠ e.key) p)).trans ?_, hbo⟩
  exact (rd_setGroup_group _ p (groupOf_lt _)).trans (by rw [hmask])

theorem statusIn_stays {s : State} {p : Fin 4} {bs : List Nat} {aligned : Bool} (hb : bs.getD 4 0 < 256) (h : portSt s p = pDeskew)
    (hn : aligned = false ∨ groupOf (rxGood s p &&& bs.getD 4 0) = 0 ∨ (s.port p).agree < 2 ∨ (s.port p).agreeMask ≠ rxGood s p &&& bs.getD 4 0) :
    portSt (statusIn s p bs aligned (0 : Byte).toNat) p = pDeskew := by
  have hmask := agreed_partnerShown s p hb
  have hport := port_partnerShown s p bs
  have hst := (portSt_partnerShown s p bs).trans h
  rw [statusIn_deskew aligned _ h]
  generalize partnerShown s p bs = u at hmask hport hst
  rw [deskewWord_counted aligned (late_zero _), if_neg, portSt_deskewCounted, hst]
  rintro ⟨hal, hg, h3⟩
  rw [port_deskewCounted, agree_countAgree, hport, hmask] at h3
  rw [hmask] at hg
  rcases hn with hn | hn | hn | hn
  · exact Bool.false_ne_true (hn.symm.trans hal)
  · exact hg hn
  · split at h3 <;> omega
  · rw [if_neg fun hc => hn (beq_iff_eq.mp (Bool.and_eq_true_iff.mp hc).2)] at h3
    omega

/-! Lanes, ports, status words and eye scans (R229 to R237, R241). -/

/-! ### Lanes -/

/-- Two fields of one register. -/
theorem key_ne_bit {a i j v w x y : Nat} {p q : Acc} {c d : Cls} (h : i ≠ j) : Fld.key ⟨a, i, v, p, c, x⟩ ≠ Fld.key ⟨a, j, w, q, d, y⟩ := by
  simp only [Fld.key]
  omega

theorem laneSigdet_gives {s : State} {p : Fin 4} {l : Fin 8} (h : laneSt s p l = lnSigdet) :
    Gives (.laneSigdet p l) s fun t => (laneSt t p l = lnCdr ∧ Frame s t [laneFld p l] [.link]) ∧ (t.port p).seen = true := by
  refine gives_next rfl (if_pos h) ⟨⟨(laneSt_setLane s p l (st := lnCdr) (by decide) :), frame_modPort _ _ (by simp) (frame_wr _ (by simp) (frame_refl ..))⟩, ?_⟩
  rw [port_modPort]

theorem eqConverged_gives {s : State} {p : Fin 4} {l : Fin 8} (e0 : BitVec 4) (e1 : BitVec 7) (e2 : BitVec 6) (e3 : BitVec 5) (h : laneSt s p l = lnEq) :
    Gives (.laneEqConverged p l e0 e1 e2 e3) s fun t => rd t (Reg.LINK_EQ_CTLE p l) = e0.toNat ∧ rd t (Reg.LINK_EQ_DFE1 p l) = e1.toNat ∧
      rd t (Reg.LINK_EQ_DFE2 p l) = e2.toNat ∧ rd t (Reg.LINK_EQ_DFE3 p l) = e3.toNat ∧ rd t (Reg.LINK_EQ_CONV p l) = 1 ∧ laneSt t p l = lnMarker ∧
      Frame s t [laneFld p l, Reg.LINK_EQ_CTLE p l, Reg.LINK_EQ_DFE1 p l, Reg.LINK_EQ_DFE2 p l, Reg.LINK_EQ_DFE3 p l, Reg.LINK_EQ_CONV p l] [] := by
  let a := wr s (Reg.LINK_EQ_CTLE p l) e0.toNat
  let b := wr a (Reg.LINK_EQ_DFE1 p l) e1.toNat
  let c := wr b (Reg.LINK_EQ_DFE2 p l) e2.toNat
  let d := wr c (Reg.LINK_EQ_DFE3 p l) e3.toNat
  let e := wr d (Reg.LINK_EQ_CONV p l) 1
  have hlane : ∀ p : Fin 4, ∀ l : Fin 8, ∀ f ∈ [Reg.LINK_EQ_CTLE p l, Reg.LINK_EQ_DFE1 p l, Reg.LINK_EQ_DFE2 p l, Reg.LINK_EQ_DFE3 p l, Reg.LINK_EQ_CONV p l],
      f.key ≠ (laneFld p l).key := by decide
  have hset {f : Fld} (hf : f ∈ [Reg.LINK_EQ_CTLE p l, Reg.LINK_EQ_DFE1 p l, Reg.LINK_EQ_DFE2 p l, Reg.LINK_EQ_DFE3 p l, Reg.LINK_EQ_CONV p l]) :
      rd (setLane e p l lnMarker) f = rd e f := rd_wr_ne e _ (hlane p l f hf)
  refine gives_next (t := setLane e p l lnMarker) rfl (if_pos h) ⟨?_, ?_, ?_, ?_, ?_, laneSt_setLane e p l (by decide), ?_⟩
  · refine (hset (by simp)).trans ((rd_wr_ne d _ (key_ne_bit (by decide))).trans ((rd_wr_ne c _ (key_ne_bit (by decide))).trans ((rd_wr_ne b _ (key_ne_bit (by decide))).trans
      ((rd_wr_ne a _ (key_ne_bit (by decide))).trans ((rd_wr s (Reg.LINK_EQ_CTLE p l) _).trans (Nat.mod_eq_of_lt e0.isLt))))))
  · exact (hset (by simp)).trans ((rd_wr_ne d _ (key_ne_bit (by decide))).trans ((rd_wr_ne c _ (key_ne_bit (by decide))).trans ((rd_wr_ne b _ (key_ne_bit (by decide))).trans
      ((rd_wr a (Reg.LINK_EQ_DFE1 p l) _).trans (Nat.mod_eq_of_lt e1.isLt)))))
  · exact (hset (by simp)).trans ((rd_wr_ne d _ (key_ne_bit (by decide))).trans ((rd_wr_ne c _ (key_ne_bit (by decide))).trans
      ((rd_wr b (Reg.LINK_EQ_DFE2 p l) _).trans (Nat.mod_eq_of_lt e2.isLt))))
  · exact (hset (by simp)).trans ((rd_wr_ne d _ (key_ne_bit (by decide))).trans ((rd_wr c (Reg.LINK_EQ_DFE3 p l) _).trans (Nat.mod_eq_of_lt e3.isLt)))
  · exact (hset (by simp)).trans (rd_wr d (Reg.LINK_EQ_CONV p l) 1)
  · exact frame_wr _ (by simp) (frame_wr _ (by simp) (frame_wr _ (by simp) (frame_wr _ (by simp) (frame_wr _ (by simp) (frame_wr _ (by simp) (frame_refl ..))))))

theorem markerGood_gives {s : State} {p : Fin 4} {l : Fin 8} (h : laneSt s p l = lnMarker) :
    Gives (.laneMarkerGood p l) s fun t => laneSt t p l = lnGood ∧ (t.port p).laneFails.get l 0 = 0 ∧ (portSt s p ≠ pTrain → Frame s t [laneFld p l] [.link]) := by
  let u := (setLane s p l lnGood).modPort p fun x => { x with own := x.own.filter (· != l.val), laneFails := x.laneFails.set l 0 0 }
  have hlane : laneSt u p l = lnGood := (laneSt_setLane s p l (st := lnGood) (by decide) :)
  have hport : (u.port p).laneFails.get l 0 = 0 := by
    rw [show u.port p = _ from port_modPort ..]
    dsimp only
    exact get_set ..
  have hframe : Frame s u [laneFld p l] [.link] := frame_modPort _ _ (by simp) (frame_wr _ (by simp) (frame_refl ..))
  have hst : portSt u p = portSt s p := rd_frame_one hframe ((by decide : ∀ p : Fin 4, ∀ l : Fin 8, (Reg.LINK_STATUS_STATE p).key ≠ (laneFld p l).key) p l)
  have hx : exec (.laneMarkerGood p l) s = .next (trainCheck u p) := congrArg Host.Outcome.next (if_pos h)
  have hgood : lnGood ≠ lnFail := by decide
  generalize u = u at hlane hport hframe hst hx
  by_cases hc : portSt u p = pTrain ∧ rd u (Reg.LINK_CTRL_LANE_EN p) ≠ 0 ∧ rxGood u p &&& rd u (Reg.LINK_CTRL_LANE_EN p) = rd u (Reg.LINK_CTRL_LANE_EN p) ∧
      partnerGood u p &&& rd u (Reg.LINK_CTRL_LANE_EN p) = rd u (Reg.LINK_CTRL_LANE_EN p)
  · obtain ⟨-, -, -, hl, hfails, -, -⟩ := portDeskew_effect u p
    have hne : (laneFld p l).key ≠ (Reg.LINK_STATUS_NO_PARTNER p).key := (by decide : ∀ p : Fin 4, ∀ l : Fin 8, (laneFld p l).key ≠ (Reg.LINK_STATUS_NO_PARTNER p).key) p l
    refine gives_next hx (if_pos hc) ⟨(rd_wr_ne _ 0 hne).trans ?_, ?_, fun hn => absurd (hst.symm.trans hc.1) hn⟩
    · rw [show rd (portDeskew u p) (laneFld p l) = _ from hl l l.isLt, hlane, if_neg hgood]
    · rw [port_wr, hfails l l.isLt (by rw [hlane]; exact hgood), hport]
  · exact gives_next hx (if_neg hc) ⟨hlane, hport, fun _ => hframe⟩

theorem key_ne_lanes : ∀ p : Fin 4, ∀ l : Fin 8, (Reg.LINK_LANE_ERR_LOS_CNT p l).key ≠ (Reg.LINK_EQ_CONV p l).key := by decide

theorem laneLos_gives {s : State} {p : Fin 4} {l : Fin 8} (h : laneRising s p l = true) :
    Gives (.laneLos p l) s fun t => rd t (Reg.LINK_LANE_ERR_LOS_CNT p l) = min (rd s (Reg.LINK_LANE_ERR_LOS_CNT p l) + 1) (2 ^ (Reg.LINK_LANE_ERR_LOS_CNT p l).width - 1) ∧
      laneSt t p l = lnSigdet ∧ Frame s t [laneFld p l, Reg.LINK_LANE_ERR_LOS_CNT p l, Reg.LINK_EQ_CONV p l] [] := by
  let c := bump s (Reg.LINK_LANE_ERR_LOS_CNT p l) 1
  have hlane : laneSt c p l = laneSt s p l := rd_bump_ne s 1 (conv_ne_lane p l l _ (by simp))
  have heq : dropLane c p l lnSigdet = setLane (wr c (Reg.LINK_EQ_CONV p l) 0) p l lnSigdet :=
    dropLane_of_not_good _ (by rw [hlane]; exact not_good_of_rising h)
  refine gives_next (t := setLane (wr c (Reg.LINK_EQ_CONV p l) 0) p l lnSigdet) rfl ((laneLos_rising h).trans heq) ⟨?_, laneSt_setLane _ p l (by decide), ?_⟩
  · exact (rd_wr_ne _ _ (conv_ne_lane p l l _ (by simp)).symm).trans ((rd_wr_ne c 0 (key_ne_lanes p l)).trans (rd_bump s (Reg.LINK_LANE_ERR_LOS_CNT p l) 1))
  · exact frame_wr _ (by simp) (frame_wr _ (by simp) (frame_bump 1 (by simp) (frame_refl ..)))

theorem laneLos_good {s : State} {p l : Nat} (h : laneSt s p l = lnGood) : laneLos s p l = laneLost (bump s (Reg.LINK_LANE_ERR_LOS_CNT p l) 1) p l :=
  (if_neg fun hr => not_good_of_rising hr h).trans (if_pos h)

/-- A GOOD lane is lost after its count. -/
theorem lost_gives {s : State} {p : Fin 4} {l : Fin 8} {c : Instr} {f : Fld} {n : Nat} (hf : f ∈ [Reg.LINK_LANE_ERR_LOS_CNT p l, Reg.LINK_LANE_ERR_BAD_MARKER p l])
    (hx : exec c s = .next (laneLost (bump s f n) p l)) : Gives c s fun t => rd t f = min (rd s f + n) (2 ^ f.width - 1) ∧
      rd t (Reg.LINK_COUNT_LANE_LOST_CNT p) = min (rd s (Reg.LINK_COUNT_LANE_LOST_CNT p) + 1) (2 ^ (Reg.LINK_COUNT_LANE_LOST_CNT p).width - 1) ∧ laneSt t p l = lnSigdet ∧
      (packageHeld s = false ∧ s.events.entries.length + 3 ≤ 512 → ∃ e ∈ t.events.entries, e.code = 0x3005) ∧
      (portUp s p = true → bit (rd s (Reg.LINK_STATUS_GROUP p)) l = true → (portSt t p = pDeskew ∨ portSt t p = pBackoff) ∧
        (packageHeld s = false ∧ s.events.entries.length + 3 ≤ 512 → ∃ e ∈ t.events.entries, e.code = 0x3002)) := by
  obtain ⟨hlost, hcounts, hlane, hevent, hleft⟩ := laneLost_effect (bump s f n) p l
  have hkeys : ∀ p : Fin 4, ∀ l : Fin 8, ∀ f ∈ [Reg.LINK_LANE_ERR_LOS_CNT p l, Reg.LINK_LANE_ERR_BAD_MARKER p l],
      ∀ g ∈ [Reg.LINK_COUNT_LANE_LOST_CNT p, Reg.LINK_STATUS_STATE p, Reg.LINK_STATUS_GROUP p], g.key ≠ f.key := by decide
  have hkept {g : Fld} (hg : g ∈ [Reg.LINK_COUNT_LANE_LOST_CNT p, Reg.LINK_STATUS_STATE p, Reg.LINK_STATUS_GROUP p]) : rd (bump s f n) g = rd s g :=
    rd_bump_ne s n (hkeys p l f hf g hg)
  have hheld : packageHeld (bump s f n) = packageHeld s := packageHeld_congr (wr_rst ..)
  have hev : (bump s f n).events = s.events := wr_events ..
  have hup : portUp (bump s f n) p = portUp s p := congrArg (· == 3) (hkept (by simp))
  rw [hkept (by simp)] at hlost
  rw [hheld, hev] at hevent
  rw [hheld, hev, hup, hkept (by simp)] at hleft
  refine gives_next hx rfl ⟨(hcounts f hf).trans (rd_bump s f n), hlost, hlane, fun ⟨hp, he⟩ => hevent hp he, fun hu hb => ?_⟩
  obtain ⟨hst, he⟩ := hleft hu hb
  exact ⟨hst, fun ⟨hp, hl⟩ => he hp hl⟩

theorem laneBackoffEnd_gives {s : State} {p : Fin 4} {l : Fin 8} (h : laneSt s p l = lnBackoff) :
    Gives (.laneBackoffEnd p l) s fun t => (laneSt t p l = lnSigdet ∧ Frame s t [laneFld p l] [.link]) ∧ (t.port p).own.contains l.val = true := by
  refine gives_next rfl (if_pos h) ⟨⟨(laneSt_setLane s p l (st := lnSigdet) (by decide) :), frame_modPort _ _ (by simp) (frame_wr _ (by simp) (frame_refl ..))⟩, ?_⟩
  rw [port_modPort]
  simp

/-! ### Status words -/

theorem statusWord_gives {s : State} {p : Fin 4} {w : BitVec 64} {aligned : Bool} {late : Byte}
    (h : (portReceives s p && (wordBytes w).take 2 == [0, 1] && crc8 ((wordBytes w).take 7) == (wordBytes w).getD 7 0) = true) :
    Gives (.statusWord p w aligned late) s fun t => t = statusIn s p (wordBytes w) aligned late.toNat :=
  gives_next rfl (if_pos (by rw [headD_drop]; exact h)) rfl

theorem statusWord_shows (s : State) (p : Fin 4) (w : BitVec 64) (aligned : Bool) (late : Nat) : let t := statusIn s p (wordBytes w) aligned late
    rd t (Reg.LINK_PARTNER_DEVICE_ID p) = (wordBytes w).getD 2 0 * 256 + (wordBytes w).getD 3 0 ∧ rd t (Reg.LINK_PARTNER_RX_GOOD p) = (wordBytes w).getD 4 0 ∧
      rd t (Reg.LINK_PARTNER_FLAGS p) = (wordBytes w).getD 5 0 % 64 ∧ rd t (Reg.LINK_PARTNER_VALID p) = 1 := by
  obtain ⟨h1, h2, h3, h4⟩ := rd_partnerShown s p w
  have hkept {f : Fld} (hf : f ∈ partnerRegs p) := (frame_statusIn s p (wordBytes w) aligned late).1 f (partner_ne_status p f hf)
  exact ⟨(hkept (by simp [partnerRegs])).trans h1, (hkept (by simp [partnerRegs])).trans h2, (hkept (by simp [partnerRegs])).trans h3,
    (hkept (by simp [partnerRegs])).trans h4⟩

/-! ### Ports -/

theorem portDeskewTimeout_gives {s : State} {p : Fin 4} (h : portSt s p = pDeskew) : Gives (.portDeskewTimeout p) s fun t =>
    portSt t p = pBackoff ∧ rd t (Reg.LINK_STATUS_BACKOFF_MS p) = 2 ^ min (s.port p).backoff 6 ∧ (t.port p).backoff = (s.port p).backoff + 1 ∧
      rd t (Reg.LINK_STATUS_GROUP p) = 0 := by
  obtain ⟨hst, hms, hbo, hgr, -, -⟩ := portBackoff_effect s p
  exact gives_next rfl (if_pos h) ⟨hst, hms, hbo, hgr⟩

theorem portWiden_gives {s : State} {p : Fin 4} (hu : portUp s p = true) (ha : on s (Reg.LINK_CTRL_AUTO_WIDEN p) = true)
    (hw : rd s (Reg.LINK_STATUS_WIDTH p) < widthCode (groupOf (agreedMask s p))) : Gives (.portWiden p) s fun t =>
      portSt t p = pDeskew ∧ rd t (Reg.LINK_STATUS_GROUP p) = groupOf (agreedMask s p) ∧
      (packageHeld s = false ∧ s.events.entries.length + 3 ≤ 512 → ∃ e ∈ t.events.entries, e.code = 0x3002) := by
  obtain ⟨hst, hgr, -, -, -, -, hadds⟩ := portDeskew_effect (raise s 0x3002 p) p
  have hpartner : ∀ p : Fin 4, ∀ f ∈ [Reg.LINK_PARTNER_VALID p, Reg.LINK_PARTNER_RX_GOOD p], ∀ e ∈ eventRegs, f.key ≠ e.key := by decide
  have hmask : agreedMask (raise s 0x3002 p) p = agreedMask s p :=
    agreedMask_congr (fun k hk => by rw [laneSt_raise s _ _ p hk]) ((frame_raise_self ..).1 _ (hpartner p _ (by simp))) ((frame_raise_self ..).1 _ (hpartner p _ (by simp)))
  rw [hmask] at hgr
  exact gives_next rfl (if_pos ⟨hu, ha, hw⟩) ⟨hst, hgr, fun ⟨hp, he⟩ =>
    has_of_raised p (adds_of_frame (frame_refl s [] []) (by simp) (by simp)) hadds hp (by omega) (by decide)⟩

theorem control_ne_event : ∀ p : Fin 4, ∀ f ∈ [Reg.LINK_CTRL_RATE p, Reg.LINK_CTRL_LANE_EN p, Reg.LINK_COUNT_DOWN_CNT p, Reg.LINK_STATUS_STATE p], ∀ e ∈ eventRegs, f.key ≠ e.key := by decide

theorem retrain_gives {s : State} {p : Fin 4} (hu : portUp s p = true) : Gives (.retrain p) s fun t =>
    (portSt t p = pTrain ∧ rd t (Reg.LINK_STATUS_RATE_ACT p) = (if s.link.backup then 2 else rd s (Reg.LINK_CTRL_RATE p) % 4) ∧ rd t (Reg.LINK_STATUS_GROUP p) = 0 ∧
      ∀ k < 8, laneSt t p k = if laneOn s p k then lnSigdet else lnOff) ∧
    rd t (Reg.LINK_COUNT_DOWN_CNT p) = min (rd s (Reg.LINK_COUNT_DOWN_CNT p) + 1) (2 ^ (Reg.LINK_COUNT_DOWN_CNT p).width - 1) ∧
      (packageHeld s = false ∧ s.events.entries.length + 3 ≤ 512 → ∃ e ∈ t.events.entries, e.code = 0x3002) := by
  have hx : exec (.retrain p) s = .next (portFresh (raise s 0x3002 p) p) := by
    refine congrArg Host.Outcome.next ((if_pos hu).trans ?_)
    unfold portRetrain
    rw [show raiseIf (portUp s p) s 0x3002 p = raise s 0x3002 p from if_pos hu]
  obtain ⟨h1, h2, h3, h4, -, h6, -, h8⟩ := portFresh_effect (raise s 0x3002 p) p
  have hev {f : Fld} (hf : f ∈ [Reg.LINK_CTRL_RATE p, Reg.LINK_CTRL_LANE_EN p, Reg.LINK_COUNT_DOWN_CNT p, Reg.LINK_STATUS_STATE p]) : rd (raise s 0x3002 p) f = rd s f :=
    (frame_raise_self s 0x3002 p).1 f (control_ne_event p f hf)
  have hlink : (raise s 0x3002 p).link = s.link := samePart_of_frame (frame_raise_self ..) (p := .link) (by simp)
  have hup : portUp (raise s 0x3002 p) p = true := (congrArg (· == 3) (hev (by simp))).trans hu
  refine gives_next hx rfl ⟨⟨h1, by rw [h2, hlink, hev (by simp)], h3, fun k hk => ?_⟩, ?_, fun ⟨hp, he⟩ =>
    has_of_raised p (adds_of_frame (frame_refl s [] []) (by simp) (by simp)) h8 hp (by omega) (by decide)⟩
  · rw [h4 k hk]
    unfold laneOn
    rw [hev (by simp)]
  · rw [h6, down_leaveUp hup, hev (by simp)]

theorem portBackoffEnd_gives {s : State} {p : Fin 4} (h : portSt s p = pBackoff) : Gives (.portBackoffEnd p) s fun t =>
    (portSt t p = pTrain ∧ rd t (Reg.LINK_STATUS_RATE_ACT p) = attemptRate s p % 4 ∧ rd t (Reg.LINK_STATUS_GROUP p) = 0 ∧
      ∀ k < 8, laneSt t p k = if laneOn s p k then lnSigdet else lnOff) ∧ rd t (Reg.LINK_STATUS_BACKOFF_MS p) = 0 := by
  obtain ⟨h1, h2, h3, h4, h5, -, -, -⟩ := portAttempt_effect s p
  exact gives_next rfl (if_pos h) ⟨⟨h1, h2, h3, h4⟩, h5⟩

theorem portEnable_true (s : State) (p : Nat) : portEnable s p true = portStart (wr s (Reg.LINK_CTRL_EN p) 1) p := rfl

theorem portEnable_false (s : State) (p : Nat) : portEnable s p false =
    if portSt (wr s (Reg.LINK_CTRL_EN p) 0) p = pStop then wr s (Reg.LINK_CTRL_EN p) 0 else portIdle (wr s (Reg.LINK_CTRL_EN p) 0) p pStop := rfl

theorem portEnable_starts {s : State} {p : Fin 4} (h : portSt s p = pStop) (hh : portHeld s p = false) (hs : s.link.started = true) :
    Gives (.portEnable p true) s fun t => (portSt t p = pTrain ∧
      rd t (Reg.LINK_STATUS_RATE_ACT p) = (if s.link.backup then 2 else rd s (Reg.LINK_CTRL_RATE p) % 4) ∧ rd t (Reg.LINK_STATUS_GROUP p) = 0 ∧
      ∀ k < 8, laneSt t p k = if laneOn s p k then lnSigdet else lnOff) ∧ rd t (Reg.LINK_CTRL_EN p) = 1 := by
  let a := wr s (Reg.LINK_CTRL_EN p) 1
  have hlink : a.link = s.link := wr_link ..
  have hheld : portHeld a p = portHeld s p := by
    unfold portHeld blkHeld
    rw [show a.rst = s.rst from wr_rst ..]
  have hst : portSt a p = pStop := (rd_wr_ne s 1 (key_ne (by decide))).trans h
  have hrun : portMayRun a p = true := by
    unfold portMayRun
    rw [hheld, hh, hlink, hs, show on a (Reg.LINK_CTRL_EN p) = true from on_wr_one s (Reg.LINK_CTRL_EN p) rfl]
    rfl
  obtain ⟨h1, h2, h3, h4, -, -, h7, -⟩ := portFresh_effect a p
  refine gives_next (t := portFresh a p) rfl ((portEnable_true s p).trans (if_pos ⟨hst, hrun⟩)) ⟨⟨h1, ?_, h3, fun k hk => ?_⟩, h7.trans (rd_wr s (Reg.LINK_CTRL_EN p) 1)⟩
  · rw [h2, hlink, show rd a (Reg.LINK_CTRL_RATE p) = _ from rd_wr_ne s 1 (key_ne (by decide))]
  · rw [h4 k hk]
    unfold laneOn
    rw [show rd a (Reg.LINK_CTRL_LANE_EN p) = _ from rd_wr_ne s 1 (key_ne (by decide))]

theorem portSt_enable (s : State) (p v : Nat) : portSt (wr s (Reg.LINK_CTRL_EN p) v) p = portSt s p := rd_wr_ne s v (key_ne (by decide))

theorem portEnable_set {s : State} {p : Fin 4} (h : portSt s p ≠ pStop) :
    Gives (.portEnable p true) s fun t => rd t (Reg.LINK_CTRL_EN p) = 1 ∧ Frame s t [Reg.LINK_CTRL_EN p] [] :=
  gives_next (t := wr s (Reg.LINK_CTRL_EN p) 1) rfl ((portEnable_true s p).trans (if_neg fun hn => h ((portSt_enable s p 1).symm.trans hn.1)))
    ⟨rd_wr s (Reg.LINK_CTRL_EN p) 1, frame_wr _ (by simp) (frame_refl ..)⟩

theorem portEnable_clears {s : State} {p : Fin 4} (h : portSt s p = pStop) :
    Gives (.portEnable p false) s fun t => rd t (Reg.LINK_CTRL_EN p) = 0 ∧ Frame s t [Reg.LINK_CTRL_EN p] [] :=
  gives_next (t := wr s (Reg.LINK_CTRL_EN p) 0) rfl ((portEnable_false s p).trans (if_pos ((portSt_enable s p 0).trans h)))
    ⟨rd_wr s (Reg.LINK_CTRL_EN p) 0, frame_wr _ (by simp) (frame_refl ..)⟩

theorem portEnable_idles {s : State} {p : Fin 4} (h : portSt s p ≠ pStop) :
    Gives (.portEnable p false) s fun t => rd t (Reg.LINK_CTRL_EN p) = 0 ∧ portSt t p = pStop ∧ (∀ k < 8, laneSt t p k = lnOff) ∧ rd t (Reg.LINK_PARTNER_VALID p) = 0 := by
  obtain ⟨h1, h2, h3, h4⟩ := portIdle_effect (wr s (Reg.LINK_CTRL_EN p) 0) p (st := pStop) (by decide)
  exact gives_next (t := portIdle (wr s (Reg.LINK_CTRL_EN p) 0) p pStop) rfl ((portEnable_false s p).trans (if_neg fun hn => h ((portSt_enable s p 0).symm.trans hn)))
    ⟨h1.trans (rd_wr s (Reg.LINK_CTRL_EN p) 0), h2, h3, h4⟩

/-! Eye scans, the upstream ports, and what every lane and port command does (R236, R237). -/

/-! ### Eye scans -/

/-- The fields that a write to LINK_EYE_CTRL changes. -/
def scanRegs (p : Nat) : List Fld :=
  [Reg.LINK_EYE_CTRL_LANE p, Reg.LINK_EYE_CTRL_MODE p, Reg.LINK_EYE_CTRL_PHASE p, Reg.LINK_EYE_CTRL_VOLT p, Reg.LINK_EYE_CTRL_DWELL p,
    Reg.LINK_EYE_CTRL_ABORT p, Reg.LINK_EYE_CTRL_REFUSED p]

/-- The settings that a write to LINK_EYE_CTRL leaves. -/
def scanSettings (s : State) (p v : Nat) : State :=
  wr (wr (wr (wr (wr s (Reg.LINK_EYE_CTRL_LANE p) (bits v 0 3)) (Reg.LINK_EYE_CTRL_MODE p) (bits v 3 1))
    (Reg.LINK_EYE_CTRL_PHASE p) (bits v 4 6)) (Reg.LINK_EYE_CTRL_VOLT p) (bits v 11 7)) (Reg.LINK_EYE_CTRL_DWELL p) (bits v 18 4)

/-- The settings, with the flags written 1 cleared. -/
def scanSet (s : State) (p v : Nat) : State :=
  wrIf (bit v 24) (wrIf (bit v 23) (scanSettings s p v) (Reg.LINK_EYE_CTRL_ABORT p) 0) (Reg.LINK_EYE_CTRL_REFUSED p) 0

theorem exec_eyeScan (p : Fin 4) (v : Word) (s : State) :
    exec (.eyeScan p v) s = .next (if bit v.toNat 31 then eyeStart (scanSet s p v.toNat) p else scanSet s p v.toNat) := rfl

theorem frame_scanFlags (s : State) (p v : Nat) : Frame (scanSettings s p v) (scanSet s p v) [Reg.LINK_EYE_CTRL_ABORT p, Reg.LINK_EYE_CTRL_REFUSED p] [] :=
  frame_wrIf _ _ (by simp) (frame_wrIf _ _ (by simp) (frame_refl ..))

theorem frame_scanSet (s : State) (p v : Nat) : Frame s (scanSet s p v) (scanRegs p) [] := by
  have h : Frame s (scanSettings s p v) (scanRegs p) [] :=
    frame_wr _ (by simp [scanRegs]) (frame_wr _ (by simp [scanRegs]) (frame_wr _ (by simp [scanRegs]) (frame_wr _ (by simp [scanRegs]) (frame_wr _ (by simp [scanRegs]) (frame_refl ..)))))
  exact frame_step h (frame_mono (frame_scanFlags s p v) (by simp [scanRegs]) (List.Subset.refl _))

theorem bits_lt (v i n : Nat) : bits v i n < 2 ^ n := Nat.mod_lt _ (Nat.two_pow_pos n)

theorem rd_scanSet (s : State) (p v : Nat) : let t := scanSet s p v
    rd t (Reg.LINK_EYE_CTRL_LANE p) = bits v 0 3 ∧ rd t (Reg.LINK_EYE_CTRL_MODE p) = bits v 3 1 ∧ rd t (Reg.LINK_EYE_CTRL_PHASE p) = bits v 4 6 ∧
      rd t (Reg.LINK_EYE_CTRL_VOLT p) = bits v 11 7 ∧ rd t (Reg.LINK_EYE_CTRL_DWELL p) = bits v 18 4 := by
  have hflags {i w : Nat} {x : Nat} {q : Acc} (h : i ≠ 23) (h' : i ≠ 24) :
      rd (scanSet s p v) ⟨0x80100 + 0x4000 * p, i, w, q, .L, x⟩ = rd (scanSettings s p v) ⟨0x80100 + 0x4000 * p, i, w, q, .L, x⟩ :=
    rd_frame_two (frame_scanFlags s p v) (key_ne_bit h) (key_ne_bit h')
  refine ⟨?_, ?_, ?_, ?_, ?_⟩
  · refine (hflags (by decide) (by decide)).trans ((rd_wr_ne _ _ (key_ne (by decide))).trans ((rd_wr_ne _ _ (key_ne (by decide))).trans
      ((rd_wr_ne _ _ (key_ne (by decide))).trans ((rd_wr_ne _ _ (key_ne (by decide))).trans ((rd_wr s (Reg.LINK_EYE_CTRL_LANE p) _).trans (Nat.mod_eq_of_lt (bits_lt ..)))))))
  · exact (hflags (by decide) (by decide)).trans ((rd_wr_ne _ _ (key_ne (by decide))).trans ((rd_wr_ne _ _ (key_ne (by decide))).trans
      ((rd_wr_ne _ _ (key_ne (by decide))).trans ((rd_wr _ (Reg.LINK_EYE_CTRL_MODE p) _).trans (Nat.mod_eq_of_lt (bits_lt ..))))))
  · exact (hflags (by decide) (by decide)).trans ((rd_wr_ne _ _ (key_ne (by decide))).trans ((rd_wr_ne _ _ (key_ne (by decide))).trans
      ((rd_wr _ (Reg.LINK_EYE_CTRL_PHASE p) _).trans (Nat.mod_eq_of_lt (bits_lt ..)))))
  · exact (hflags (by decide) (by decide)).trans ((rd_wr_ne _ _ (key_ne (by decide))).trans ((rd_wr _ (Reg.LINK_EYE_CTRL_VOLT p) _).trans (Nat.mod_eq_of_lt (bits_lt ..))))
  · exact (hflags (by decide) (by decide)).trans ((rd_wr _ (Reg.LINK_EYE_CTRL_DWELL p) _).trans (Nat.mod_eq_of_lt (bits_lt ..)))

theorem lane_ne_scan : ∀ p : Fin 4, ∀ l : Fin 8, ∀ e ∈ scanRegs p, (laneFld p l).key ≠ e.key := by decide

theorem laneSt_scanSet (s : State) (p : Fin 4) (v : Nat) {l : Nat} (hl : l < 8) : laneSt (scanSet s p v) p l = laneSt s p l :=
  (frame_scanSet s p v).1 _ (lane_ne_scan p ⟨l, hl⟩)

theorem busy_scanSet (s : State) (p : Fin 4) (v : Nat) : on (scanSet s p v) (Reg.LINK_EYE_CTRL_BUSY p) = on s (Reg.LINK_EYE_CTRL_BUSY p) :=
  on_congr ((frame_scanSet s p v).1 _ ((by decide : ∀ p : Fin 4, ∀ e ∈ scanRegs p, (Reg.LINK_EYE_CTRL_BUSY p).key ≠ e.key) p))

theorem eyeScan_refused {s : State} {p : Fin 4} {v : Word} (hb : bit v.toNat 31 = true)
    (h : on s (Reg.LINK_EYE_CTRL_BUSY p) = true ∨ laneSt s p (bits v.toNat 0 3) ≠ lnGood) :
    Gives (.eyeScan p v) s fun t => rd t (Reg.LINK_EYE_CTRL_REFUSED p) = 1 ∧ Frame s t (scanRegs p) [] := by
  obtain ⟨hl, -⟩ := rd_scanSet s p v.toNat
  refine gives_next (t := wr (scanSet s p v.toNat) (Reg.LINK_EYE_CTRL_REFUSED p) 1) (exec_eyeScan p v s) ((if_pos hb).trans (if_pos ?_))
    ⟨rd_wr _ (Reg.LINK_EYE_CTRL_REFUSED p) 1, frame_wr _ (by simp [scanRegs]) (frame_scanSet ..)⟩
  rw [hl, busy_scanSet, laneSt_scanSet s p _ (bits_lt ..), Bool.or_eq_true, bne_iff_ne]
  exact h

theorem eyeScan_starts {s : State} {p : Fin 4} {v : Word} (hb : bit v.toNat 31 = true) (h : on s (Reg.LINK_EYE_CTRL_BUSY p) = false)
    (hg : laneSt s p (bits v.toNat 0 3) = lnGood) : Gives (.eyeScan p v) s fun t =>
      rd t (Reg.LINK_EYE_CTRL_BUSY p) = 1 ∧ (t.port p).eyeLane = bits v.toNat 0 3 ∧ (t.port p).eyeMode = bits v.toNat 3 1 ∧
      rd t (Reg.LINK_EYE_CTRL_PHASE p) = bits v.toNat 4 6 ∧ rd t (Reg.LINK_EYE_CTRL_VOLT p) = bits v.toNat 11 7 ∧
      rd t (Reg.LINK_EYE_CTRL_DWELL p) = bits v.toNat 18 4 ∧ Frame s t (Reg.LINK_EYE_CTRL_BUSY p :: scanRegs p) [.link] := by
  obtain ⟨hl, hm, hph, hv, hd⟩ := rd_scanSet s p v.toNat
  have hbusy := busy_scanSet s p v.toNat
  have hlane := laneSt_scanSet s p v.toNat (bits_lt v.toNat 0 3)
  have hframe := frame_scanSet s p v.toNat
  have hx := exec_eyeScan p v s
  generalize scanSet s p v.toNat = u at hl hm hph hv hd hbusy hlane hframe hx
  have hnot : ¬(on u (Reg.LINK_EYE_CTRL_BUSY p) || laneSt u p (rd u (Reg.LINK_EYE_CTRL_LANE p)) != lnGood) = true := by
    rw [hl, hbusy, hlane, h, hg]
    decide
  refine gives_next (t := (wr u (Reg.LINK_EYE_CTRL_BUSY p) 1).modPort p fun x => { x with eyeLane := rd u (Reg.LINK_EYE_CTRL_LANE p), eyeMode := rd u (Reg.LINK_EYE_CTRL_MODE p) })
    hx ((if_pos hb).trans (if_neg hnot)) ⟨rd_wr u (Reg.LINK_EYE_CTRL_BUSY p) 1, ?_, ?_, (rd_wr_ne u 1 (key_ne (by decide))).trans hph,
      (rd_wr_ne u 1 (key_ne (by decide))).trans hv, (rd_wr_ne u 1 (key_ne (by decide))).trans hd, ?_⟩
  · rw [port_modPort]
    exact hl
  · rw [port_modPort]
    exact hm
  · exact frame_modPort _ _ (by simp) (frame_wr _ (List.mem_cons_self ..) (frame_mono hframe (List.subset_cons_self ..) (List.nil_subset _)))

theorem eyeScan_sets {s : State} {p : Fin 4} {v : Word} (hb : bit v.toNat 31 = false) :
    Gives (.eyeScan p v) s fun t => rd t (Reg.LINK_EYE_CTRL_LANE p) = bits v.toNat 0 3 ∧ Frame s t (scanRegs p) [] :=
  gives_next (exec_eyeScan p v s) (if_neg (ne_of_eq_of_ne hb Bool.false_ne_true)) ⟨(rd_scanSet s p v.toNat).1, frame_scanSet ..⟩

/-- The result of a scan: its error count, or its four edges. -/
def scanResult (s : State) (p m : Nat) (errors : Word) (left right top bottom : Byte) : State :=
  if m = 0 then wr s (Reg.LINK_EYE_RESULT_ERRORS p) errors.toNat
  else wr (wr (wr (wr s (Reg.LINK_EYE_SUMMARY_LEFT p) left.toNat) (Reg.LINK_EYE_SUMMARY_RIGHT p) right.toNat)
    (Reg.LINK_EYE_SUMMARY_TOP p) top.toNat) (Reg.LINK_EYE_SUMMARY_BOTTOM p) bottom.toNat

/-- The fields of a scan's result. -/
def resultRegs (p : Nat) : List Fld :=
  [Reg.LINK_EYE_RESULT_ERRORS p, Reg.LINK_EYE_SUMMARY_LEFT p, Reg.LINK_EYE_SUMMARY_RIGHT p, Reg.LINK_EYE_SUMMARY_TOP p, Reg.LINK_EYE_SUMMARY_BOTTOM p]

theorem frame_scanResult (s : State) (p m : Nat) (errors : Word) (left right top bottom : Byte) :
    Frame s (scanResult s p m errors left right top bottom) (resultRegs p) [] :=
  frame_ite (frame_wr _ (by simp [resultRegs]) (frame_refl ..)) (frame_wr _ (by simp [resultRegs]) (frame_wr _ (by simp [resultRegs])
    (frame_wr _ (by simp [resultRegs]) (frame_wr _ (by simp [resultRegs]) (frame_refl ..)))))

theorem result_ne_event : ∀ p : Fin 4, ∀ f ∈ Reg.LINK_EYE_CTRL_BUSY p :: resultRegs p, ∀ e ∈ eventRegs, f.key ≠ e.key := by decide

theorem eyeDone_gives {s : State} {p : Fin 4} (errs : Word) (x0 x1 x2 x3 : Byte) (h : on s (Reg.LINK_EYE_CTRL_BUSY p) = true) :
    Gives (.eyeDone p errs x0 x1 x2 x3) s fun t => rd t (Reg.LINK_EYE_CTRL_BUSY p) = 0 ∧ (Room s → Queued s t 0x3008 0) ∧
      ((s.port p).eyeMode = 0 → rd t (Reg.LINK_EYE_RESULT_ERRORS p) = errs.toNat) ∧
      ((s.port p).eyeMode ≠ 0 → rd t (Reg.LINK_EYE_SUMMARY_LEFT p) = x0.toNat ∧ rd t (Reg.LINK_EYE_SUMMARY_RIGHT p) = x1.toNat ∧
        rd t (Reg.LINK_EYE_SUMMARY_TOP p) = x2.toNat ∧ rd t (Reg.LINK_EYE_SUMMARY_BOTTOM p) = x3.toNat) := by
  let a := wr s (Reg.LINK_EYE_CTRL_BUSY p) 0
  let b := scanResult a p (s.port p).eyeMode errs x0 x1 x2 x3
  have hb : Frame a b (resultRegs p) [] := frame_scanResult ..
  have hframe : Frame s b (Reg.LINK_EYE_CTRL_BUSY p :: resultRegs p) [] :=
    frame_step (frame_wr _ (List.mem_cons_self ..) (frame_refl ..)) (frame_mono hb (List.subset_cons_self ..) (List.Subset.refl _))
  have hkept {f : Fld} (hf : f ∈ Reg.LINK_EYE_CTRL_BUSY p :: resultRegs p) : rd (raise b 0x3008 0) f = rd b f :=
    (frame_raise_self b 0x3008 0).1 f (result_ne_event p f hf)
  refine gives_next (t := raise b 0x3008 0) rfl (if_pos h) ⟨(hkept (by simp)).trans ?_, fun hr => ?_, fun hm => ?_, fun hm => ?_⟩
  · exact (hb.1 _ ((by decide : ∀ p : Fin 4, ∀ e ∈ resultRegs p, (Reg.LINK_EYE_CTRL_BUSY p).key ≠ e.key) p)).trans (rd_wr s (Reg.LINK_EYE_CTRL_BUSY p) 0)
  · exact queued_raise 0 (samePart_of_frame hframe (p := .rst) (by simp)) (samePart_of_frame hframe (p := .events) (by simp)) hr (by decide)
  · refine (hkept (by simp [resultRegs])).trans ?_
    rw [show b = wr a (Reg.LINK_EYE_RESULT_ERRORS p) errs.toNat from if_pos hm]
    exact (rd_wr a (Reg.LINK_EYE_RESULT_ERRORS p) _).trans (Nat.mod_eq_of_lt errs.isLt)
  · have hset : b = wr (wr (wr (wr a (Reg.LINK_EYE_SUMMARY_LEFT p) x0.toNat) (Reg.LINK_EYE_SUMMARY_RIGHT p) x1.toNat)
        (Reg.LINK_EYE_SUMMARY_TOP p) x2.toNat) (Reg.LINK_EYE_SUMMARY_BOTTOM p) x3.toNat := if_neg hm
    refine ⟨(hkept (by simp [resultRegs])).trans ?_, (hkept (by simp [resultRegs])).trans ?_, (hkept (by simp [resultRegs])).trans ?_, (hkept (by simp [resultRegs])).trans ?_⟩ <;> rw [hset]
    · exact (rd_wr_ne _ _ (key_ne (by decide))).trans ((rd_wr_ne _ _ (key_ne (by decide))).trans ((rd_wr_ne _ _ (key_ne (by decide))).trans
        ((rd_wr _ (Reg.LINK_EYE_SUMMARY_LEFT p) _).trans (Nat.mod_eq_of_lt x0.isLt))))
    · exact (rd_wr_ne _ _ (key_ne (by decide))).trans ((rd_wr_ne _ _ (key_ne (by decide))).trans ((rd_wr _ (Reg.LINK_EYE_SUMMARY_RIGHT p) _).trans (Nat.mod_eq_of_lt x1.isLt)))
    · exact (rd_wr_ne _ _ (key_ne (by decide))).trans ((rd_wr _ (Reg.LINK_EYE_SUMMARY_TOP p) _).trans (Nat.mod_eq_of_lt x2.isLt))
    · exact (rd_wr _ (Reg.LINK_EYE_SUMMARY_BOTTOM p) _).trans (Nat.mod_eq_of_lt x3.isLt)

/-! ### The upstream ports -/

theorem bondReady_off {s : State} (h : on s (Reg.LINK_CFG_BOND 0) = false) : bondReady s = false := by
  unfold bondReady
  rw [h]
  rfl

/-- After a change from the other port the switch is told; otherwise the port is recorded only. -/
theorem setUpActive_some {s : State} (hb : on s (Reg.LINK_CFG_BOND 0) = false) (a : Nat) : setUpActive s (some a) =
    match s.link.lastUp with
    | some y => if a = y then upTaken s (some a) else timeSwitch (raise (upTaken s (some a)) 0x3009 (a + 16 * y))
    | none => upTaken s (some a) := by
  have hcond (y : Nat) : (a = y ∨ on s (Reg.LINK_CFG_BOND 0) = true) ↔ a = y := by simp [hb]
  unfold setUpActive
  cases s.link.lastUp with
  | none => rfl
  | some y =>
    dsimp only
    rw [if_congr (hcond y) rfl rfl]
    rfl

theorem upstreamRevert_gives {s : State} (hb : on s (Reg.LINK_CFG_BOND 0) = false) (hu : portUp s 0 = true) (ha : on s (Reg.LINK_STATUS_ACTIVE_UP 1) = true) :
    Gives .upstreamRevert s fun t => rd t (Reg.LINK_STATUS_ACTIVE_UP 0) = 1 ∧ rd t (Reg.LINK_STATUS_ACTIVE_UP 1) = 0 ∧ t.link.lastUp = some 0 ∧
      (s.link.lastUp = some 1 → Room s → Queued s t 0x3009 16) := by
  have hx : exec .upstreamRevert s = .next (setUpActive s (some 0)) := congrArg Host.Outcome.next (if_pos (by simp [hb, hu, ha]))
  let u := upTaken s (some 0)
  have hframe : Frame s u upRegs [.link] := frame_upTaken ..
  have h0 : rd u (Reg.LINK_STATUS_ACTIVE_UP 0) = 1 := by
    refine (rd_wr_ne _ _ (by decide)).trans ((rd_wr _ (Reg.LINK_STATUS_ACTIVE_UP 0) _).trans ?_)
    rw [bondReady_off hb]
    rfl
  have h1 : rd u (Reg.LINK_STATUS_ACTIVE_UP 1) = 0 := by
    refine (rd_wr _ (Reg.LINK_STATUS_ACTIVE_UP 1) _).trans ?_
    rw [bondReady_off hb]
    rfl
  have hup : u.link.lastUp = some 0 := rfl
  have hend := setUpActive_some hb 0
  rw [show upTaken s (some 0) = u from rfl] at hend
  generalize u = u at hframe h0 h1 hup hend
  have hsame (h : setUpActive s (some 0) = u) (hn : s.link.lastUp ≠ some 1) : Gives .upstreamRevert s fun t =>
      rd t (Reg.LINK_STATUS_ACTIVE_UP 0) = 1 ∧ rd t (Reg.LINK_STATUS_ACTIVE_UP 1) = 0 ∧ t.link.lastUp = some 0 ∧
      (s.link.lastUp = some 1 → Room s → Queued s t 0x3009 16) := gives_next hx h ⟨h0, h1, hup, fun h => absurd h hn⟩
  cases hl : s.link.lastUp with
  | none => exact hl ▸ hsame (hend.trans (by rw [hl])) (by rw [hl]; exact nofun)
  | some y =>
    rw [hl] at hend
    dsimp only at hend
    by_cases hy : 0 = y
    · rw [if_pos hy] at hend
      exact hl ▸ hsame hend (by rw [hl, ← hy]; decide)
    · rw [if_neg hy] at hend
      have hev : ∀ e ∈ eventRegs, (Reg.LINK_STATUS_ACTIVE_UP 0).key ≠ e.key ∧ (Reg.LINK_STATUS_ACTIVE_UP 1).key ≠ e.key := by decide
      have hraise := frame_raise_self u 0x3009 (0 + 16 * y)
      refine gives_next hx hend ⟨(hraise.1 _ fun e he => (hev e he).1).trans h0, (hraise.1 _ fun e he => (hev e he).2).trans h1, ?_, fun h1y hr => ?_⟩
      · exact (congrArg LinkS.lastUp (samePart_of_frame hraise (p := .link) (by simp))).trans hup
      · obtain rfl := Option.some.inj h1y
        exact queued_congr (queued_raise 16 (samePart_of_frame hframe (p := .rst) (by simp)) (samePart_of_frame hframe (p := .events) (by simp)) hr (by decide)) rfl

theorem uploss_gives {s : State} (h0 : portUp s 0 = false) (h1 : portUp s 1 = false) (h : s.link.upLost = false) :
    Gives .uploss s fun t => t.link.upLost = true ∧ (Room s → Queued s t 0x3006 0) ∧ Frame s t eventRegs [.link, .events] := by
  have hraise := frame_raise_self { s with link := { s.link with upLost := true } } 0x3006 0
  refine gives_next rfl (if_pos (by simp [h0, h1, h])) ⟨?_, fun hr => queued_raise 0 rfl rfl hr (by decide), ?_⟩
  · exact (congrArg LinkS.upLost (samePart_of_frame hraise (p := .link) (by simp))).trans rfl
  · exact frame_raise _ _ (List.Subset.refl _) (by simp) (frame_link _ (by simp) (frame_refl ..))

/-- Settles O57. -/
theorem lanesAndPorts : Obligations.LanesAndPorts := by
  intro s p l e0 e1 e2 e3 los late w al v errs x0 x1 x2 x3
  dsimp only
  have stays {c : Instr} {u : State} {q : Prop} [Decidable q] (hx : exec c s = .next (if q then u else s)) (h : ¬q) : exec c s = .next s :=
    hx.trans (congrArg Host.Outcome.next (if_neg h))
  have hdown {q : Prop} (h : portUp s p = false) : ¬(portUp s p = true ∧ q) := fun hn => Bool.false_ne_true (h.symm.trans hn.1)
  refine ⟨laneSigdet_gives, stays rfl, fun h => ?_, stays rfl, eqConverged_gives e0 e1 e2 e3, stays rfl, markerGood_gives, stays rfl, laneLos_gives, fun h c hc => ?_,
    fun hr hg => ?_, stays rfl, fun h => ⟨laneWindowEnd_alone los h, laneWindowEnd_group los h⟩, fun h => ?_, laneWindowEnd_own los, laneWindowEnd_stays,
    laneBackoffEnd_gives, stays rfl, fun h => ?_, fun h => ?_, fun h => ?_, fun h => ⟨?_, ?_⟩, portDeskewTimeout_gives, stays rfl, portWiden_gives, fun h => ?_,
    retrain_gives, portBackoffEnd_gives, stays rfl, portEnable_starts, portEnable_set, portEnable_idles, portEnable_clears,
    ⟨eyeScan_refused, eyeScan_starts, eyeScan_sets⟩, eyeDone_gives errs x0 x1 x2 x3, fun h => ?_, upstreamRevert_gives, fun h => ?_, uploss_gives, fun h => ?_,
    ?_, ?_, ?_, ?_, ?_, ?_, ?_, ?_, ?_, ?_, ?_, ?_⟩
  · exact gives_next rfl (if_pos h) ⟨laneSt_setLane s p l (by decide), frame_wr _ (by simp) (frame_refl ..)⟩
  · rcases List.mem_cons.mp hc with rfl | hc
    · exact lost_gives (by simp) (congrArg Host.Outcome.next (laneLos_good h))
    · obtain rfl := List.mem_singleton.mp hc
      exact lost_gives (by simp) (congrArg Host.Outcome.next (if_pos h))
  · exact congrArg Host.Outcome.next ((if_neg (ne_of_eq_of_ne hr Bool.false_ne_true)).trans (if_neg hg))
  · exact gives_next (exec_laneWindowEnd_port p los s) (if_neg h) ⟨(fails_losses p los s).state, fun k hk => laneSt_losses p los s hk⟩
  · exact stays rfl (by rw [headD_drop]; exact ne_of_eq_of_ne h Bool.false_ne_true)
  · obtain ⟨t, hx, ht⟩ := statusWord_gives h
    subst ht
    obtain ⟨h1, h2, h3, h4⟩ := statusWord_shows s p w al late.toNat
    have hb := wordBytes_lt w 4
    refine gives_next hx rfl ⟨h1, h2, h3, h4, fun hst => ?_, fun hst hl hg ha hagree hm => ?_, fun hst hl hn => ?_, fun hst hm => ?_⟩
    · rw [statusIn_backoff al late.toNat hst, portSt_partnerShown, hst]
    · subst hl ha
      exact statusIn_agreed hb hst hg hagree hm
    · subst hl
      exact statusIn_stays hb hst hn
    · rw [statusIn_up al late.toNat hb hst hm, portSt_partnerShown, hst]
  · exact gives_next rfl (if_pos h) ⟨rfl, frame_link _ (by simp) (frame_refl ..)⟩
  · exact stays rfl (ne_of_eq_of_ne h Bool.false_ne_true)
  · exact stays rfl (ne_of_eq_of_ne h Bool.false_ne_true)
  · refine stays rfl fun ⟨hu, ha, hw⟩ => ?_
    rcases h with h | h | h
    · exact Bool.false_ne_true (h.symm.trans hu)
    · exact Bool.false_ne_true (h.symm.trans ha)
    · omega
  · exact stays rfl (ne_of_eq_of_ne h Bool.false_ne_true)
  · exact stays rfl fun hn => by rcases h with h | h | h <;> simp [h] at hn
  · exact stays rfl fun hn => by rcases h with h | h | h <;> simp [h] at hn
  · exact within_of_mask (keepsO_execLaneMarkerGood (w₀ := 16408) (keeps_refl _ s) rfl) (by decide)
  · exact within_of_mask (keepsO_execLaneLos (w₀ := 8405016) (keeps_refl _ s) rfl) (by decide)
  · exact within_of_mask (keepsO_execLaneMarkersBad (w₀ := 8405016) (keeps_refl _ s) rfl) (by decide)
  · exact within_of_mask (keepsO_execLaneWindowEnd (a0 := p) (a1 := none) (a2 := los) (w₀ := 8405016) (keeps_refl _ s) rfl) (by decide)
  · exact within_of_mask (keepsO_execStatusWord (w₀ := 8405016) (keeps_refl _ s) rfl) (by decide)
  · exact within_of_mask (keepsO_execPortDeskewTimeout (w₀ := 16408) (keeps_refl _ s) rfl) (by decide)
  · exact within_of_mask (keepsO_execPortWiden (w₀ := 16408) (keeps_refl _ s) rfl) (by decide)
  · exact within_of_mask (keepsO_execRetrain (w₀ := 8405016) (keeps_refl _ s) rfl) (by decide)
  · exact within_of_mask (keepsO_execPortBackoffEnd (w₀ := 8405016) (keeps_refl _ s) rfl) (by decide)
  · exact within_of_mask (keepsO_execPortEnable (w₀ := 8405016) (keeps_refl _ s) rfl) (by decide)
  · exact within_of_mask (keepsO_execEyeDone (w₀ := 8) (keeps_refl _ s) rfl) (by decide)
  · exact within_of_mask (keepsO_execUpstreamRevert (w₀ := 16408) (keeps_refl _ s) rfl) (by decide)

/-! The hub sensor's tamper (R378) beside its failure (R334). -/

/-- IDLE, with the hub sensor FAILED and, as after a sample in a sleep mode (`sleepSample` sets VALID of a FAILED sensor too), VALID. -/
def hubFailedS : State :=
  { ({} : State) with act := [((Reg.MODE_STATUS_MODE).key, mIdle), ((Reg.THERM_SENSOR_VALID 20).key, 1), ((Reg.THERM_SENSOR_FAILED 20).key, 1)] }

/-- 25.0 °C at every sensor but the hub's, which reads 145.0 °C. -/
def hotHub : List (BitVec 16) := List.replicate 20 250 ++ [1450]

/-- Below shutdown the outcome shows sensor 0 VALID. -/
def showsSample : Host.Outcome State Fault Refusal → Bool
  | .next t => rd t Reg.THERM_STATUS_LEVEL == 3 || rd t (Reg.THERM_SENSOR_VALID 0) == 1
  | _ => true

/-- The hub sensor's reading is a tamper: the reset that follows leaves no valid sample of sensor 0. -/
theorem thermSample_hubFailedS : showsSample (exec (.thermSample hotHub false) hubFailedS) = false := by decide +kernel

/-- Refutes O58: the statement takes a FAILED hub sensor to be no tamper, whatever it reads; but R378's comparison reads its VALID bit, which may stand beside FAILED. Then a reading
of 145.0 °C erases the keys and resets the device, and the samples of the other sensors do not stand, as the statement claims. -/
theorem not_housekeepingAndTemperature : ¬ Obligations.HousekeepingAndTemperature := by
  intro h
  obtain ⟨-, -, -, -, -, -, -, -, -, -, -, -, -, -, -, -, -, -, -, -, -, -, -, -, hsample, -⟩ := h hubFailedS 0 0 0 0 [] [] [] hotHub 0 false { }
  obtain ⟨t, hx, hclaim⟩ := hsample (by decide) (.inl (by decide))
  have hshow : showsSample (.next t) = false := hx ▸ thermSample_hubFailedS
  simp only [showsSample, Bool.or_eq_false_iff, beq_eq_false_iff_ne] at hshow
  obtain ⟨hlevel, hvalid⟩ := hshow
  obtain ⟨hsensors, -⟩ := hclaim hlevel
  exact hvalid (hsensors 0 (by decide) 250 (by decide) (by decide) (by decide) (by decide) (by decide) (.inr (by decide))).2

/-! Registers that the datapath's own operations spare: MODE, the supply stage, the marks of failed essential domains, the security block's state, and the freeze
of the adaptation by a supply stage. -/

/-- The fields that entering SAFE, waking and the stage actions leave as they are. -/
def spared : List Fld :=
  [Reg.MODE_STATUS_MODE, Reg.PWR_STATUS_STAGE, Reg.SEC_STATUS_APPROVED, Reg.SEC_STATUS_STATE] ++ (List.range 6).map Reg.PWR_DOM_FAILED ++
    (List.range 8).map Reg.REGION_ADAPT_STATUS_FROZEN_S2

/-- The spared fields read in `t` as in `s`. -/
def Spares (s t : State) : Prop := ∀ f ∈ spared, t.act.get f.key f.reset = s.act.get f.key f.reset

/-- A write of `f` reaches no spared field: it is of class H, or lies elsewhere. -/
def Clear (f : Fld) : Prop := f.cls = .H ∨ ∀ e ∈ spared, e.key ≠ f.key

theorem spared_plain : ∀ f ∈ spared, f.cls = .L := by decide

theorem Spares.rd {s t : State} (h : Spares s t) {f : Fld} (hf : f ∈ spared) : Machine.rd t f = Machine.rd s f := by
  simp only [Machine.rd, spared_plain f hf]
  exact h f hf

/-! ### Fields that no spared one meets -/

theorem clear_fixed {f : Fld} (h : ∀ e ∈ spared, e.key ≠ f.key) : Clear f := .inr h

theorem clear_ite {c : Prop} [Decidable c] {a b : Fld} (ha : Clear a) (hb : Clear b) : Clear (if c then a else b) := by
  split <;> assumption

theorem spared_off : ∀ f ∈ spared, f.off ≤ 0x20114 ∨ f.off = 0xB0000 ∨ 0x300004 ≤ f.off ∧ f.off < 0x380000 ∧ f.off % 0x1000 = 4 := by decide

theorem spared_lo : ∀ f ∈ spared, f.lo < 32 ∧ (f.lo = 0 ∨ f.lo = 1 ∨ f.lo = 3) := by decide

theorem clear_high {f : Fld} (h : 0x380000 ≤ f.off) : Clear f := by
  refine .inr fun e he => ?_
  have hk := spared_off e he
  have hl := spared_lo e he
  unfold Fld.key
  omega

/-- A field of a unit, cluster or region block at another place than the freeze. -/
theorem clear_block {f : Fld} (h : 0x100000 ≤ f.off ∧ f.off % 0x1000 ≠ 4) (hl : f.lo < 32) : Clear f := by
  refine .inr fun e he => ?_
  have hk := spared_off e he
  have hl := spared_lo e he
  unfold Fld.key
  omega

theorem clear_lo {f : Fld} (h : 1 < f.lo ∧ f.lo ≠ 3 ∧ f.lo < 32) : Clear f := by
  refine .inr fun e he => ?_
  have hk := spared_lo e he
  unfold Fld.key
  omega

theorem spared_odd : ∀ f ∈ spared, f.lo = 0 ∨ f.off ≤ 0xB0000 := by decide

theorem clear_odd {f : Fld} (h : 0xB0000 < f.off) (hl : f.lo ≠ 0 ∧ f.lo < 32) : Clear f := by
  refine .inr fun e he => ?_
  have hk := spared_odd e he
  have he := spared_lo e he
  unfold Fld.key
  omega

theorem clear_between {f : Fld} (h : 0x20114 < f.off ∧ f.off < 0xB0000) (hl : f.lo < 32) : Clear f := by
  refine .inr fun e he => ?_
  have hk := spared_off e he
  have he := spared_lo e he
  unfold Fld.key
  omega

/-- A field of an indexed block past the power registers, at a distance from the security block's state and from the freeze. -/
theorem clear_mid {f : Fld} (h : 0x40000 ≤ f.off ∧ f.off % 64 ≠ 0 ∧ f.off % 64 ≠ 4) (hl : f.lo < 32) : Clear f := by
  refine .inr fun e he => ?_
  have hk := spared_off e he
  have he := spared_lo e he
  unfold Fld.key
  omega

/-! ### Rules of the updates -/

theorem spares_refl (s : State) : Spares s s := fun _ _ => rfl

theorem spares_of_act {s₀ s t : State} (h : Spares s₀ s) (ha : t.act = s.act) : Spares s₀ t := by
  intro f hf
  rw [ha]
  exact h f hf

/-- An update of parts of the state that are no registers. -/
theorem spares_mk {s₀ t : State} {act hact hsh : Tbl Nat} {silent : List Nat} {fuse : Fuses} {rst : ResetS} {events : EventQueue} {time : TimeS}
    {air : AirS} {units : Tbl UnitS} {clusters : Tbl ClusterS} {beam : BeamS} {cal : CalS} {newts : Tbl NewtS} {mem : Tbl Byte}
    {absent : List Nat} {chorus : ChorusS} {link : LinkS} {pool : PoolS} {caps : Tbl CapCh} {dmas : Tbl DmaCh} {hk : HkS} {flash : FlashS}
    {boot : BootS} {sec : SecS} {power : PowerS} {free : Nat} {pending : List Instr} (ha : act = t.act) (h : Spares s₀ t) :
    Spares s₀ (State.mk act hact hsh silent fuse rst events time air units clusters beam cal newts mem absent chorus link pool caps dmas hk flash
      boot sec power free pending) := spares_of_act h ha

theorem spares_wr {s₀ s : State} {f : Fld} {v : Nat} (h : Spares s₀ s)
    (hf : Clear f := by
      first
        | exact clear_high (by with_unfolding_all show 0x380000 ≤ _ + _; omega)
        | exact clear_block (by with_unfolding_all show 0x100000 ≤ _ + _ ∧ (_ + _) % 0x1000 ≠ 4; omega) (of_decide_eq_true rfl)
        | exact clear_fixed (by with_unfolding_all decide)
        | exact .inl rfl
        | exact clear_odd (by with_unfolding_all show 0xB0000 < _ + _; omega) ⟨of_decide_eq_true rfl, of_decide_eq_true rfl⟩
        | exact clear_lo (by with_unfolding_all exact ⟨of_decide_eq_true rfl, of_decide_eq_true rfl, of_decide_eq_true rfl⟩)
        | exact clear_mid (by with_unfolding_all show 0x40000 ≤ _ + _ ∧ (_ + _) % 64 ≠ 0 ∧ (_ + _) % 64 ≠ 4; omega) (of_decide_eq_true rfl)) : Spares s₀ (wr s f v) := by
  unfold wr
  split
  · exact spares_mk rfl h
  · rename_i hcls
    intro e he
    exact (get_set_ne _ _ _ _ (hf.resolve_left hcls e he)).trans (h e he)

theorem spares_bump {s₀ s : State} {f : Fld} {n : Nat} (h : Spares s₀ s)
    (hf : Clear f := by
      first
        | exact clear_high (by with_unfolding_all show 0x380000 ≤ _ + _; omega)
        | exact clear_block (by with_unfolding_all show 0x100000 ≤ _ + _ ∧ (_ + _) % 0x1000 ≠ 4; omega) (of_decide_eq_true rfl)
        | exact clear_fixed (by with_unfolding_all decide)
        | exact .inl rfl
        | exact clear_odd (by with_unfolding_all show 0xB0000 < _ + _; omega) ⟨of_decide_eq_true rfl, of_decide_eq_true rfl⟩
        | exact clear_lo (by with_unfolding_all exact ⟨of_decide_eq_true rfl, of_decide_eq_true rfl, of_decide_eq_true rfl⟩)
        | exact clear_mid (by with_unfolding_all show 0x40000 ≤ _ + _ ∧ (_ + _) % 64 ≠ 0 ∧ (_ + _) % 64 ≠ 4; omega) (of_decide_eq_true rfl)) : Spares s₀ (bump s f n) :=
  spares_wr h hf

theorem spares_wrSh {s₀ s : State} {f : Fld} {v : Nat} (h : Spares s₀ s) : Spares s₀ (wrSh s f v) := spares_of_act h rfl

theorem spares_ite {s₀ a b : State} {c : Prop} [Decidable c] (ha : Spares s₀ a) (hb : Spares s₀ b) : Spares s₀ (if c then a else b) := by
  split <;> assumption

theorem spares_foldl {α : Type} {s t : State} {l : List α} {g : State → α → State} (h : Spares s t) (hg : ∀ u a, Spares s u → Spares s (g u a)) :
    Spares s (l.foldl g t) := by
  induction l generalizing t with
  | nil => exact h
  | cons a r ih => exact ih (hg t a h)

theorem spares_foldl_snd {α β : Type} {s : State} {t : β × State} {l : List α} {g : β × State → α → β × State} (h : Spares s t.2)
    (hg : ∀ u a, Spares s u.2 → Spares s (g u a).2) : Spares s (l.foldl g t).2 := by
  induction l generalizing t with
  | nil => exact h
  | cons a r ih => exact ih (hg t a h)

theorem spares_forEach {α : Type} {s t : State} {l : List α} {g : State → α → State} (h : Spares s t) (hg : ∀ u a, Spares s u → Spares s (g u a)) :
    Spares s (forEach l t g) := spares_foldl h hg

/-- A loop over a bounded list. -/
theorem spares_forEach_mem {α : Type} {s t : State} {l : List α} {g : State → α → State} (h : Spares s t)
    (hg : ∀ u, ∀ a ∈ l, Spares s u → Spares s (g u a)) : Spares s (forEach l t g) := by
  induction l generalizing t with
  | nil => exact h
  | cons a r ih => exact ih (hg t a (List.mem_cons_self ..) h) fun u b hb => hg u b (List.mem_cons_of_mem _ hb)

theorem spares_setMemBytes {s₀ : State} (bs : List Nat) {s : State} {a : Nat} (h : Spares s₀ s) : Spares s₀ (setMemBytes s a bs) := by
  induction bs generalizing s a with
  | nil => exact h
  | cons b r ih => exact ih (spares_of_act h rfl)

theorem spares_takeFree {s₀ s : State} {w : Nat} (h : Spares s₀ s) : Spares s₀ (takeFree s w).2 := spares_of_act h rfl

/-! The operations that entering SAFE is made of spare the spared registers. -/

theorem spares_setMemWord {s₀ s : State} {a1} {a2} (h : Spares s₀ s) : Spares s₀ (setMemWord s a1 a2) := by
  unfold setMemWord
  with_reducible repeat' (first
    | assumption | apply spares_setMemBytes)

theorem spares_State_modUnit {s₀ s : State} {a1} {a2} (h : Spares s₀ s) : Spares s₀ (State.modUnit s a1 a2) := by
  unfold State.modUnit
  with_reducible repeat' (first
    | assumption | refine spares_mk rfl ?_)

theorem spares_State_modRx {s₀ s : State} {a1} {a2} (h : Spares s₀ s) : Spares s₀ (State.modRx s a1 a2) := by
  unfold State.modRx
  with_reducible repeat' (first
    | assumption | apply spares_State_modUnit)

theorem spares_State_modTx {s₀ s : State} {a1} {a2} (h : Spares s₀ s) : Spares s₀ (State.modTx s a1 a2) := by
  unfold State.modTx
  with_reducible repeat' (first
    | assumption | apply spares_State_modUnit)

theorem spares_enqueue {s₀ s : State} {code arg : Nat} (h : Spares s₀ s) : Spares s₀ (enqueue s code arg) := by
  unfold enqueue
  with_reducible repeat' (first
    | assumption | apply spares_ite | refine spares_wr ?_ | refine spares_mk rfl ?_)

theorem spares_alertPend {s₀ s : State} {a1} (h : Spares s₀ s) : Spares s₀ (alertPend s a1) := by
  unfold alertPend
  with_reducible repeat' (first
    | assumption | apply spares_ite | refine spares_wr ?_)

theorem spares_raise {s₀ s : State} {a1} {a2} (h : Spares s₀ s) : Spares s₀ (raise s a1 a2) := by
  unfold raise
  with_reducible repeat' (first
    | assumption | apply spares_ite | apply spares_alertPend | apply spares_enqueue)

theorem spares_cfgError {s₀ s : State} {a1} {a2} (h : Spares s₀ s) : Spares s₀ (cfgError s a1 a2) := by
  unfold cfgError
  have h1 : Spares s₀ (if (rd s Reg.CFG_STATUS_CFG_IGNORED == 0 && rd s Reg.CFG_STATUS_CFG_PAIR_ERR == 0) = true then
      wr (wr s Reg.CFG_ERR_ADDR_ADDR a2) Reg.CFG_STATUS_ERR_KIND (b2n a1) else wr s Reg.CFG_STATUS_ERR_OVF 1) :=
    spares_ite (spares_wr (spares_wr h)) (spares_wr h)
  exact spares_raise (spares_wr h1 (clear_ite (clear_fixed (by decide)) (clear_fixed (by decide))))

theorem spared_dom : ∀ f ∈ spared, f.key % 32 = 3 ∨ f.key ≤ 0x20000 * 32 ∨ 0xB0000 * 32 ≤ f.key := by decide

/-- A domain's state is apart from its FAILED mark. -/
theorem spares_setDom {s₀ s : State} {d st : Nat} (h : Spares s₀ s) (hd : d < 64 := by omega) : Spares s₀ (setDom s d st) := by
  refine spares_wr h (.inr fun e he => ?_)
  have hk := spared_dom e he
  unfold Fld.key at *
  show _ ≠ (0x20100 + 0x4 * d) * 32 + 0
  omega

theorem spares_memRefresh {s₀ s : State} {a1} (h : Spares s₀ s) : Spares s₀ (memRefresh s a1) := by
  unfold memRefresh
  with_reducible repeat' (first
    | assumption | apply spares_ite | refine spares_wr ?_)

theorem spares_dropCause {s₀ s : State} {a1} {a2} (h : Spares s₀ s) : Spares s₀ (dropCause s a1 a2) := by
  unfold dropCause
  with_reducible repeat' (first
    | assumption | refine spares_wr ?_)

theorem spares_holdCause {s₀ s : State} {a1} {a2} (h : Spares s₀ s) : Spares s₀ (holdCause s a1 a2) := by
  unfold holdCause
  with_reducible repeat' (first
    | assumption | apply spares_State_modTx | refine spares_wr ?_)

theorem spares_updateNbLive {s₀ s : State} {a1} (h : Spares s₀ s) : Spares s₀ (updateNbLive s a1) := by
  unfold updateNbLive
  with_reducible repeat' (first
    | assumption | refine spares_wr ?_)

theorem spares_txonCheck {s₀ s : State} {a1} (h : Spares s₀ s) : Spares s₀ (txonCheck s a1) := by
  unfold txonCheck
  with_reducible repeat' (first
    | assumption | apply spares_ite | refine spares_wr ?_)

theorem spares_immediateMute {s₀ s : State} {a1} {a2} (h : Spares s₀ s) : Spares s₀ (immediateMute s a1 a2) := by
  unfold immediateMute
  with_reducible repeat' (first
    | assumption | apply spares_txonCheck | apply spares_forEach | apply spares_holdCause | apply spares_updateNbLive)

theorem spares_setLo {s₀ s : State} {a1} {a2} (h : Spares s₀ s) : Spares s₀ (setLo s a1 a2) := by
  unfold setLo
  with_reducible repeat' (first
    | assumption | refine spares_wr ?_)

theorem spares_loDown {s₀ s : State} {a1} (h : Spares s₀ s) : Spares s₀ (loDown s a1) := by
  unfold loDown
  with_reducible repeat' (first
    | assumption | apply spares_forEach | apply spares_ite | apply spares_setLo | apply spares_dropCause | intro _ _ _)

theorem spares_discardQueue {s₀ s : State} (h : Spares s₀ s) : Spares s₀ (discardQueue s) := by
  unfold discardQueue
  with_reducible repeat' (first
    | assumption | refine spares_mk rfl ?_)

theorem spares_State_modDom {s₀ s : State} {a1} {a2} (h : Spares s₀ s) : Spares s₀ (State.modDom s a1 a2) := by
  unfold State.modDom
  with_reducible repeat' (first
    | assumption | apply spares_ite | refine spares_mk rfl ?_)

theorem spares_timeSwitch {s₀ s : State} (h : Spares s₀ s) : Spares s₀ (timeSwitch s) := by
  unfold timeSwitch
  with_reducible repeat' (first
    | assumption | apply spares_State_modDom)

theorem spares_State_modNewt {s₀ s : State} {a1} {a2} (h : Spares s₀ s) : Spares s₀ (State.modNewt s a1 a2) := by
  unfold State.modNewt
  with_reducible repeat' (first
    | assumption | refine spares_mk rfl ?_)

theorem spares_setU {s₀ s : State} {a1} {a2} (h : Spares s₀ s) : Spares s₀ (setU s a1 a2) := by
  unfold setU
  with_reducible repeat' (first
    | assumption | refine spares_wr ?_)

theorem spares_loadPm {s₀ s : State} {a1} {a2} {a3} {a4} (h : Spares s₀ s) : Spares s₀ (loadPm s a1 a2 a3 a4) := by
  unfold loadPm
  with_reducible repeat' (first
    | assumption | apply spares_forEach | apply spares_setMemWord | intro _ _ _)

theorem spares_loadBytes {s₀ s : State} {a1} {a2} {a3} (h : Spares s₀ s) : Spares s₀ (loadBytes s a1 a2 a3) := by
  unfold loadBytes
  with_reducible repeat' (first
    | assumption | apply spares_setMemBytes)

theorem spares_clearView {s₀ s : State} {a1} (h : Spares s₀ s) : Spares s₀ (clearView s a1) := by
  unfold clearView
  with_reducible repeat' (first
    | assumption | apply spares_State_modNewt)

theorem spares_beginRun {s₀ s : State} {a1} (h : Spares s₀ s) : Spares s₀ (beginRun s a1) := by
  unfold beginRun
  with_reducible repeat' (first
    | assumption | refine spares_bump ?_ | apply spares_setU | apply spares_State_modNewt)

theorem spares_startKernel {s₀ s : State} {a1} (h : Spares s₀ s) : Spares s₀ (startKernel s a1) := by
  unfold startKernel
  with_reducible repeat' (first
    | assumption | apply spares_ite | apply spares_beginRun | refine spares_wr ?_ | apply spares_State_modNewt
    | apply spares_cfgError)

theorem spares_autoStart {s₀ s : State} {a1} (h : Spares s₀ s) : Spares s₀ (autoStart s a1) := by
  unfold autoStart
  with_reducible repeat' (first
    | assumption | apply spares_ite | apply spares_startKernel | apply spares_State_modNewt)

theorem spares_autoKernel {s₀ s : State} {a1} (h : Spares s₀ s) : Spares s₀ (autoKernel s a1) := by
  unfold autoKernel
  with_reducible repeat' (first
    | assumption | apply spares_ite | apply spares_startKernel | apply spares_State_modNewt)

theorem spares_loadKernel {s₀ s : State} {a1} {a2} (h : Spares s₀ s) : Spares s₀ (loadKernel s a1 a2) := by
  unfold loadKernel
  with_reducible repeat' (first
    | assumption | apply spares_setU | refine spares_wr ?_ | apply spares_State_modNewt | apply spares_clearView
    | apply spares_loadBytes | apply spares_loadPm)

theorem spares_takeView {s₀ s : State} {a1} (h : Spares s₀ s) : Spares s₀ (takeView s a1) := by
  unfold takeView
  with_reducible repeat' (first
    | assumption | apply spares_State_modNewt)

theorem spares_stopKernel {s₀ s : State} {a1} (h : Spares s₀ s) : Spares s₀ (stopKernel s a1) := by
  unfold stopKernel
  with_reducible repeat' (first
    | assumption | apply spares_setU | apply spares_takeView)

theorem spares_safeStopKernel {s₀ s : State} {a1} (h : Spares s₀ s) : Spares s₀ (safeStopKernel s a1) := by
  unfold safeStopKernel
  with_reducible repeat' (first
    | assumption | apply spares_ite | apply spares_stopKernel)

theorem spares_State_modPort {s₀ s : State} {a1} {a2} (h : Spares s₀ s) : Spares s₀ (State.modPort s a1 a2) := by
  unfold State.modPort
  with_reducible repeat' (first
    | assumption | refine spares_mk rfl ?_)

theorem spares_setLane {s₀ s : State} {p l st : Nat} (h : Spares s₀ s) (hl : l < 8) : Spares s₀ (setLane s p l st) := by
  refine spares_wr h (clear_mid ?_ ?_)
  · show 0x40000 ≤ 0x8000C + 0x4000 * p ∧ (0x8000C + 0x4000 * p) % 64 ≠ 0 ∧ (0x8000C + 0x4000 * p) % 64 ≠ 4
    omega
  · show 4 * l < 32
    omega

theorem spares_setPort {s₀ s : State} {a1} {a2} (h : Spares s₀ s) : Spares s₀ (setPort s a1 a2) := by
  unfold setPort
  with_reducible repeat' (first
    | assumption | refine spares_wr ?_)

theorem spares_setGroup {s₀ s : State} {a1} {a2} (h : Spares s₀ s) : Spares s₀ (setGroup s a1 a2) := by
  unfold setGroup
  with_reducible repeat' (first
    | assumption | refine spares_wr ?_)

theorem spares_setUpActive {s₀ s : State} {a1} (h : Spares s₀ s) : Spares s₀ (setUpActive s a1) := by
  unfold setUpActive
  with_reducible repeat' (first
    | assumption | apply spares_ite | refine spares_wr ?_ | apply spares_timeSwitch | apply spares_raise | split
    | refine spares_mk rfl ?_)

theorem spares_refreshUp {s₀ s : State} (h : Spares s₀ s) : Spares s₀ (refreshUp s) := by
  unfold refreshUp
  with_reducible repeat' (first
    | assumption | apply spares_setUpActive)

theorem spares_eyeAbort {s₀ s : State} {a1} {a2} (h : Spares s₀ s) : Spares s₀ (eyeAbort s a1 a2) := by
  unfold eyeAbort
  with_reducible repeat' (first
    | assumption | apply spares_ite | refine spares_wr ?_ | apply spares_takeFree)

theorem spares_leaveUp {s₀ s : State} {a1} (h : Spares s₀ s) : Spares s₀ (leaveUp s a1) := by
  unfold leaveUp
  with_reducible repeat' (first
    | assumption | apply spares_ite | refine spares_wr ?_ | refine spares_bump ?_)

theorem spares_dropLane {s₀ s : State} {p l st : Nat} (h : Spares s₀ s) (hl : l < 8) : Spares s₀ (dropLane s p l st) :=
  spares_setLane (spares_wr (spares_ite (spares_eyeAbort h) h)) hl

theorem spares_portAttempt {s₀ s : State} {p : Nat} (h : Spares s₀ s) : Spares s₀ (portAttempt s p) :=
  have h1 : Spares s₀ (forEach lanes (leaveUp s p) fun s l => dropLane s p l (if laneOn s p l then lnSigdet else lnOff)) :=
    spares_forEach_mem (spares_leaveUp h) fun _ _ hl k => spares_dropLane k (List.mem_range.mp hl)
  spares_refreshUp (spares_setPort (spares_setGroup (spares_State_modPort (spares_wr (spares_wr (spares_wr h1))))))

theorem spares_portFresh {s₀ s : State} {a1} (h : Spares s₀ s) : Spares s₀ (portFresh s a1) := by
  unfold portFresh
  with_reducible repeat' (first
    | assumption | apply spares_portAttempt | apply spares_State_modPort)

theorem spares_portStart {s₀ s : State} {a1} (h : Spares s₀ s) : Spares s₀ (portStart s a1) := by
  unfold portStart
  with_reducible repeat' (first
    | assumption | apply spares_ite | apply spares_portFresh)

theorem spares_linkBringUp {s₀ s : State} (h : Spares s₀ s) : Spares s₀ (linkBringUp s) := by
  unfold linkBringUp
  with_reducible repeat' (first
    | assumption | apply spares_ite | apply spares_forEach | apply spares_portStart | intro _ _ _
    | refine spares_mk rfl ?_)

theorem spares_linkWake {s₀ s : State} (h : Spares s₀ s) : Spares s₀ (linkWake s) := by
  unfold linkWake
  with_reducible repeat' (first
    | assumption | apply spares_forEach | apply spares_ite | apply spares_portStart | apply spares_setPort | intro _ _ _)

theorem spares_State_modCap {s₀ s : State} {a1} {a2} (h : Spares s₀ s) : Spares s₀ (State.modCap s a1 a2) := by
  unfold State.modCap
  with_reducible repeat' (first
    | assumption | refine spares_mk rfl ?_)

theorem spares_showBw {s₀ s : State} (h : Spares s₀ s) : Spares s₀ (showBw s) := by
  unfold showBw
  with_reducible repeat' (first
    | assumption | refine spares_wr ?_)

theorem spares_setCap {s₀ s : State} {a1} {a2} (h : Spares s₀ s) : Spares s₀ (setCap s a1 a2) := by
  unfold setCap
  with_reducible repeat' (first
    | assumption | apply spares_ite | apply spares_showBw | apply spares_State_modCap | refine spares_wr ?_)

theorem spares_redOuts {s₀ s : State} {a1} {a2} (h : Spares s₀ s) : Spares s₀ (redOuts s a1 a2).2 := by
  unfold redOuts
  with_reducible repeat' (first
    | assumption | apply spares_foldl_snd | apply spares_ite_snd | apply spares_takeFree | intro _ _ _ | split)

theorem spares_closeSeg {s₀ s : State} {a1} {a2} {a3} {a4} (h : Spares s₀ s) : Spares s₀ (closeSeg s a1 a2 a3 a4) := by
  unfold closeSeg
  with_reducible repeat' (first
    | assumption | refine spares_wr ?_ | apply spares_State_modCap | apply spares_setMemBytes | apply spares_ite
    | apply spares_redOuts)

theorem spares_writeMark {s₀ s : State} {a1} {a2} {a3} {a4} {a5} {a6} {a7} (h : Spares s₀ s) : Spares s₀ (writeMark s a1 a2 a3 a4 a5 a6 a7) := by
  unfold writeMark
  with_reducible repeat' (first
    | assumption | apply spares_ite | apply spares_State_modCap | apply spares_setMemBytes)

theorem spares_capStopCh {s₀ s : State} {a1} (h : Spares s₀ s) : Spares s₀ (capStopCh s a1) := by
  unfold capStopCh
  with_reducible repeat' (first
    | assumption | apply spares_ite | apply spares_raise | apply spares_setCap | refine spares_wr ?_ | apply spares_writeMark
    | apply spares_closeSeg | split)

theorem spares_capStopAll {s₀ s : State} {a1} (h : Spares s₀ s) : Spares s₀ (capStopAll s a1) := by
  unfold capStopAll
  with_reducible repeat' (first
    | assumption | apply spares_forEach | apply spares_ite | apply spares_capStopCh | intro _ _ _)

theorem spares_capLeaveDiag {s₀ s : State} (h : Spares s₀ s) : Spares s₀ (capLeaveDiag s) := by
  unfold capLeaveDiag
  with_reducible repeat' (first
    | assumption | apply spares_capStopAll)

theorem spares_State_modConv {s₀ s : State} {a1} {a2} (h : Spares s₀ s) : Spares s₀ (State.modConv s a1 a2) := by
  unfold State.modConv
  with_reducible repeat' (first
    | assumption | refine spares_mk rfl ?_)

theorem spares_State_modBias {s₀ s : State} {a1} {a2} (h : Spares s₀ s) : Spares s₀ (State.modBias s a1 a2) := by
  unfold State.modBias
  with_reducible repeat' (first
    | assumption | refine spares_mk rfl ?_)

theorem spares_hkSafe {s₀ s : State} (h : Spares s₀ s) : Spares s₀ (hkSafe s) := by
  unfold hkSafe
  with_reducible repeat' (first
    | assumption | apply spares_forEach | apply spares_State_modConv | refine spares_wr ?_ | intro _ _ _)

theorem spares_driveTo {s₀ s : State} {a1} {a2} {a3} (h : Spares s₀ s) : Spares s₀ (driveTo s a1 a2 a3) := by
  unfold driveTo
  with_reducible repeat' (first
    | assumption | apply spares_ite | apply spares_State_modBias)

theorem spares_biasApply {s₀ s : State} {a1} (h : Spares s₀ s) : Spares s₀ (biasApply s a1) := by
  unfold biasApply
  with_reducible repeat' (first
    | assumption | apply spares_ite | refine spares_wr ?_ | apply spares_State_modBias | apply spares_driveTo | split)

theorem spares_biasAll {s₀ s : State} (h : Spares s₀ s) : Spares s₀ (biasAll s) := by
  unfold biasAll
  with_reducible repeat' (first
    | assumption | apply spares_forEach | apply spares_biasApply)

theorem spares_biasSafe {s₀ s : State} (h : Spares s₀ s) : Spares s₀ (biasSafe s) := by
  unfold biasSafe
  with_reducible repeat' (first
    | assumption | apply spares_biasAll | apply spares_forEach | apply spares_State_modBias | intro _ _ _)

theorem spares_gateTx {s₀ s : State} {a1} (h : Spares s₀ s) : Spares s₀ (gateTx s a1) := by
  unfold gateTx
  with_reducible repeat' (first
    | assumption | apply spares_ite | apply spares_forEach | apply spares_State_modTx | refine spares_wr ?_
    | apply spares_updateNbLive)

theorem spares_gateRx {s₀ s : State} {a1} (h : Spares s₀ s) : Spares s₀ (gateRx s a1) := by
  unfold gateRx
  with_reducible repeat' (first
    | assumption | apply spares_ite | apply spares_State_modRx | refine spares_wr ?_)

theorem spares_modeDomains {s₀ s : State} {m : Nat} (h : Spares s₀ s) : Spares s₀ (modeDomains s m) := by
  unfold modeDomains
  have h1 : Spares s₀ (forEach (List.range 20) s fun t d => setDom t d (modeDomain s m d)) :=
    spares_forEach_mem h fun u d hd k => spares_setDom k (Nat.lt_trans (List.mem_range.mp hd) (by decide))
  refine spares_mk rfl (spares_memRefresh (spares_ite (spares_forEach h1 fun u a k => spares_gateRx (spares_gateTx k)) h1))

theorem spares_escStop {s₀ s : State} (h : Spares s₀ s) : Spares s₀ (escStop s) := by
  unfold escStop
  with_reducible repeat' (first
    | assumption | apply spares_discardQueue | refine spares_wr ?_ | refine spares_mk rfl ?_)

theorem spares_radiosOff {s₀ s : State} (h : Spares s₀ s) : Spares s₀ (radiosOff s) := by
  unfold radiosOff
  with_reducible repeat' (first
    | assumption | apply spares_forEach | apply spares_escStop | apply spares_immediateMute | apply spares_loDown | intro _ _ _)

theorem spares_frozenTherm {s₀ s : State} {a1} (h : Spares s₀ s) : Spares s₀ (frozenTherm s a1) := by
  unfold frozenTherm
  with_reducible repeat' (first
    | assumption | apply spares_forEach | refine spares_wr ?_ | intro _ _ _)

theorem spares_reloadSlot {s₀ s : State} {a1} (h : Spares s₀ s) : Spares s₀ (reloadSlot s a1) := by
  unfold reloadSlot
  with_reducible repeat' (first
    | assumption | apply spares_setU | apply spares_clearView | apply spares_ite | apply spares_autoStart
    | apply spares_loadKernel | apply spares_raise | split)

theorem spares_beginMode {s₀ s : State} {a1} (h : Spares s₀ s) : Spares s₀ (beginMode s a1) := by
  unfold beginMode
  with_reducible repeat' (first
    | assumption | refine spares_wr ?_)

theorem spares_refuseMode {s₀ s : State} {a1} {a2} {a3} (h : Spares s₀ s) : Spares s₀ (refuseMode s a1 a2 a3) := by
  unfold refuseMode
  with_reducible repeat' (first
    | assumption | apply spares_raise)

theorem spares_openVote {s₀ s : State} (h : Spares s₀ s) : Spares s₀ (openVote s) := by
  unfold openVote
  with_reducible repeat' (first
    | assumption | apply spares_beginMode | refine spares_wr ?_ | refine spares_mk rfl ?_)

theorem spares_closeVote {s₀ s : State} (h : Spares s₀ s) : Spares s₀ (closeVote s) := by
  unfold closeVote
  with_reducible repeat' (first
    | assumption | apply spares_ite | refine spares_wr ?_ | refine spares_mk rfl ?_)

theorem spares_endSleep {s₀ s : State} (h : Spares s₀ s) : Spares s₀ (endSleep s) := by
  unfold endSleep
  with_reducible repeat' (first
    | assumption | refine spares_wr ?_ | refine spares_mk rfl ?_)

theorem spares_sleepRequest {s₀ s : State} {a1} {a2} (h : Spares s₀ s) : Spares s₀ (sleepRequest s a1 a2) := by
  unfold sleepRequest
  with_reducible repeat' (first
    | assumption | apply spares_openVote | refine spares_wr ?_ | refine spares_mk rfl ?_)

theorem spares_dropSleep {s₀ s : State} (h : Spares s₀ s) : Spares s₀ (dropSleep s) := by
  unfold dropSleep
  with_reducible repeat' (first
    | assumption | apply spares_ite | apply spares_endSleep | apply spares_closeVote)

theorem spares_scheduleAct {s₀ s : State} {a1} (h : Spares s₀ s) : Spares s₀ (scheduleAct s a1) := by
  unfold scheduleAct
  with_reducible repeat' (first
    | assumption | apply spares_ite | apply spares_dropSleep | refine spares_wr ?_ | apply spares_sleepRequest
    | apply spares_refuseMode | split | refine spares_mk rfl ?_)

theorem spares_drainDue {s₀ s : State} (h : Spares s₀ s) : Spares s₀ (drainDue s) := by
  unfold drainDue
  with_reducible repeat' (first
    | assumption | apply spares_ite | apply spares_foldl | apply spares_scheduleAct | intro _ _ _
    | refine spares_mk rfl ?_)

/-- Leaving IDLE or DIAG. -/
theorem spares_leaveMode {s₀ s : State} {m : Nat} (h : Spares s₀ s) (hm : m = mIdle ∨ m = mDiag) : Spares s₀ (leaveMode s m) := by
  rcases hm with rfl | rfl
  · exact h
  · exact spares_forEach (spares_capLeaveDiag h) fun _ _ => spares_reloadSlot

theorem spares_enterMode_safe {s₀ s : State} (h : Spares s₀ s) : Spares s₀ (enterMode s mSafe) := by
  unfold enterMode
  rw [if_neg (by decide), if_neg (by decide), if_neg (by decide), if_neg (by decide), if_pos rfl]
  exact spares_linkBringUp (spares_linkWake (spares_biasSafe (spares_hkSafe (spares_forEach
    (spares_frozenTherm (spares_capStopAll (spares_modeDomains (spares_radiosOff h)))) fun _ _ => spares_safeStopKernel))))

/-- The state in which a transition to mode `m` completes, before its effects. -/
def modeShown (s : State) (m cause : Nat) : State :=
  wr (wr (wr (wr s Reg.MODE_STATUS_MODE m) Reg.MODE_STATUS_BUSY 0) Reg.MODE_STATUS_TARGET m) Reg.MODE_STATUS_CAUSE cause

theorem spares_finishMode_safe {s : State} {cause : Nat} (hm : modeOf s = mIdle ∨ modeOf s = mDiag) :
    Spares (modeShown s mSafe cause) (finishMode s mSafe cause) :=
  spares_drainDue (spares_forEach (spares_enterMode_safe (spares_leaveMode (spares_raise (spares_refl _)) hm)) fun _ _ => spares_autoKernel)

/-! Services of the security block: the mailbox and its refusals (R374). -/

/-! ### The mailbox -/

theorem rd_putResponse (s : State) (bs : List Nat) {i : Nat} (hi : i < 256) :
    rd (putResponse s bs) (Reg.SEC_MB_RSP_RSP i) = ofBytes ((List.range 4).map fun j => bs.getD (4 * i + j) 0) := by
  obtain ⟨u, -, hu⟩ := forEach_at (fun t => rd t (Reg.SEC_MB_RSP_RSP i)) (l := List.range 256) (k := i)
    (g := fun s i => wr s (Reg.SEC_MB_RSP_RSP i) (ofBytes ((List.range 4).map fun k => bs.getD (4 * i + k) 0))) List.nodup_range (List.mem_range.mpr hi)
    (fun s a _ ha => rd_wr_ne _ _ (by exact key_ne_word ha (by decide) (by decide))) s
  refine hu.trans ((rd_wr ..).trans (Nat.mod_eq_of_lt ?_))
  exact lt_of_lt_of_eq (ofBytes_lt _) (by simp; rfl)

theorem rd_putResponse_low (s : State) (bs : List Nat) {f : Fld} (h : f.key < 0xB0800 * 32) : rd (putResponse s bs) f = rd s f :=
  forEach_same (fun t => rd t f) (fun _ _ _ => rd_wr_ne _ _ (by exact (key_ne_fixed h).symm)) s

theorem putResponse_sec (s : State) (bs : List Nat) : (putResponse s bs).sec = s.sec := forEach_same State.sec (fun _ _ _ => wr_sec ..) s
theorem putResponse_fuse (s : State) (bs : List Nat) : (putResponse s bs).fuse = s.fuse := forEach_same State.fuse (fun _ _ _ => wr_fuse ..) s
theorem putResponse_rst (s : State) (bs : List Nat) : (putResponse s bs).rst = s.rst := forEach_same State.rst (fun _ _ _ => wr_rst ..) s
theorem putResponse_events (s : State) (bs : List Nat) : (putResponse s bs).events = s.events := forEach_same State.events (fun _ _ _ => wr_events ..) s

@[simp] theorem serviceDone_sec (s : State) (st role : Nat) (resp : List Nat) : (serviceDone s st role resp).sec = { s.sec with job := none } := by
  unfold serviceDone
  simp [putResponse_sec]

@[simp] theorem serviceDone_fuse (s : State) (st role : Nat) (resp : List Nat) : (serviceDone s st role resp).fuse = s.fuse := by
  unfold serviceDone
  simp [putResponse_fuse]

@[simp] theorem serviceDone_rst (s : State) (st role : Nat) (resp : List Nat) : (serviceDone s st role resp).rst = s.rst := by
  unfold serviceDone
  simp [putResponse_rst]

@[simp] theorem serviceDone_events (s : State) (st role : Nat) (resp : List Nat) : (serviceDone s st role resp).events = s.events := by
  unfold serviceDone
  simp [putResponse_events]

/-- The mailbox's own fields. -/
def mailbox : List Fld := [Reg.SEC_MB_RESULT_STATUS, Reg.SEC_MB_RESULT_RLEN, Reg.SEC_MB_RESULT_ROLE, Reg.SEC_MB_RESULT_APPROVED, Reg.SEC_MB_CTRL_BUSY]

/-- The mailbox with a service's result. -/
def resultShown (s : State) (st role len : Nat) : State :=
  let s1 := wr (wr (wr s Reg.SEC_MB_RESULT_STATUS st) Reg.SEC_MB_RESULT_RLEN len) Reg.SEC_MB_RESULT_ROLE role
  wr (wr s1 Reg.SEC_MB_RESULT_APPROVED (rd s1 Reg.SEC_STATUS_APPROVED)) Reg.SEC_MB_CTRL_BUSY 0

theorem rd_serviceDone_low (s : State) (st role : Nat) (resp : List Nat) {f : Fld} (h : f.key < 0xB0800 * 32) :
    rd (serviceDone s st role resp) f = rd (resultShown s st role resp.length) f := rd_putResponse_low _ _ h

/-- A service's end writes the mailbox alone. -/
theorem rd_serviceDone_ne (s : State) (st role : Nat) (resp : List Nat) {f : Fld} (hl : f.key < 0xB0800 * 32) (hm : ∀ e ∈ mailbox, f.key ≠ e.key) :
    rd (serviceDone s st role resp) f = rd s f := by
  simp only [mailbox, List.forall_mem_cons] at hm
  obtain ⟨h1, h2, h3, h4, h5, -⟩ := hm
  rw [rd_serviceDone_low _ _ _ _ hl]
  unfold resultShown
  rw [rd_wr_ne _ _ h5, rd_wr_ne _ _ h4, rd_wr_ne _ _ h3, rd_wr_ne _ _ h2, rd_wr_ne _ _ h1]

/-- The mailbox shows a service's end (Table 17.8). -/
def Served (t : State) (status role : Nat) (resp : List Nat) : Prop :=
  rd t Reg.SEC_MB_RESULT_STATUS = status ∧ rd t Reg.SEC_MB_RESULT_RLEN = resp.length % 2048 ∧ rd t Reg.SEC_MB_RESULT_ROLE = role % 4 ∧
    rd t Reg.SEC_MB_CTRL_BUSY = 0 ∧ t.sec.job = none ∧
    ∀ i < 256, rd t (Reg.SEC_MB_RSP_RSP i) = ofBytes ((List.range 4).map fun j => resp.getD (4 * i + j) 0)

theorem serviceDone_served (s : State) {st : Nat} (role : Nat) (resp : List Nat) (h : st < 256 := by decide) : Served (serviceDone s st role resp) st role resp := by
  refine ⟨?_, ?_, ?_, ?_, by simp, fun i hi => rd_putResponse _ _ hi⟩ <;> rw [rd_serviceDone_low _ _ _ _ (by decide)] <;> unfold resultShown
  · rw [rd_wr_ne _ _ (by decide), rd_wr_ne _ _ (by decide), rd_wr_ne _ _ (by decide), rd_wr_ne _ _ (by decide), rd_wr]
    exact Nat.mod_eq_of_lt h
  · rw [rd_wr_ne _ _ (by decide), rd_wr_ne _ _ (by decide), rd_wr_ne _ _ (by decide), rd_wr]
    rfl
  · rw [rd_wr_ne _ _ (by decide), rd_wr_ne _ _ (by decide), rd_wr]
    rfl
  · rw [rd_wr]
    rfl

/-! ### Which service runs, and its refusals -/

section
variable {s : State} {sv role : Nat} {len : Option Nat} {modes : List Nat} {f : State → Nat → List Nat → State} {r : Nat} {req : List Nat}

theorem runService_none (h : s.sec.job = none) : runService s sv len role modes f = s := by
  unfold runService
  rw [h]

theorem runService_other {v : Nat} (h : s.sec.job = some (v, r, req)) (hv : v ≠ sv) : runService s sv len role modes f = s := by
  unfold runService
  rw [h]
  exact if_pos hv

theorem runService_error (h : s.sec.job = some (sv, r, req)) (he : secError s = true) : runService s sv len role modes f = serviceDone s 0x07 r [] := by
  unfold runService
  rw [h]
  simp [he]

variable (h : s.sec.job = some (sv, r, req)) (he : secError s = false)
include h he

theorem runService_len (hl : len.any (· != req.length) = true) : runService s sv len role modes f = serviceDone s 0x02 r [] := by
  unfold runService
  rw [h]
  simp [he, hl]

theorem runService_role (hl : len.any (· != req.length) = false) (hr : r < role) : runService s sv len role modes f = serviceDone s 0x03 r [] := by
  unfold runService
  rw [h]
  simp [he, hl, hr]

theorem runService_mode (hl : len.any (· != req.length) = false) (hr : role ≤ r) (hm : modes.contains (modeOf s) = false) :
    runService s sv len role modes f = serviceDone s 0x04 r [] := by
  unfold runService
  rw [h]
  dsimp only
  rw [if_neg (fun k => k rfl), if_neg (by simp [he]), if_neg (by simp [hl]), if_neg (by omega), hm]
  rfl

theorem runService_run (hl : len.any (· != req.length) = false) (hr : role ≤ r) (hm : modes.contains (modeOf s) = true) :
    runService s sv len role modes f = f s r req := by
  unfold runService
  rw [h]
  dsimp only
  rw [if_neg (fun k => k rfl), if_neg (by simp [he]), if_neg (by simp [hl]), if_neg (by omega), hm]
  rfl

end

/-- The services of Table 17.3 but STATUS: command, number, length, least role and modes. -/
noncomputable def servicesOf (ok : Bool) : List (Instr × Nat × Option Nat × Nat × List Nat) :=
  [(Instr.selftest ok, 0x02, some 0, 0, [mIdle, mDiag]), (.zeroise, 0x03, some 0, 2, anyMode), (.identity, 0x04, some 0, 0, anyMode), (.keyImport, 0x10, some 236, 0, [mIdle, mSafe]),
    (.keyDelete, 0x11, some 4, 2, [mIdle, mSafe]), (.keyStatus, 0x12, some 0, 0, anyMode), (.rollbackCommit, 0x20, some 0, 2, [mIdle]), (.fuseProgram, 0x30, none, 2, [mIdle]),
    (.fuseRead, 0x31, some 0, 0, anyMode), (.dbgChallenge, 0x40, some 0, 0, [mIdle, mDiag, mSafe]), (.dbgResponse, 0x41, some 96, 0, [mIdle, mDiag, mSafe]), (.random, 0x50, some 2, 1, anyMode)]

/-- Each of them runs in the mailbox. -/
theorem exec_service (s : State) (ok : Bool) : ∀ e ∈ servicesOf ok, ∃ f, exec e.1 s = .next (runService s e.2.1 e.2.2.1 e.2.2.2.1 e.2.2.2.2 f) := by
  simp only [servicesOf, List.forall_mem_cons]
  exact ⟨⟨_, rfl⟩, ⟨_, rfl⟩, ⟨_, rfl⟩, ⟨_, rfl⟩, ⟨_, rfl⟩, ⟨_, rfl⟩, ⟨_, rfl⟩, ⟨_, rfl⟩, ⟨_, rfl⟩, ⟨_, rfl⟩, ⟨_, rfl⟩, ⟨_, rfl⟩, fun _ h => nomatch h⟩

theorem service_waits (s : State) (ok : Bool) (h : s.sec.job = none) : ∀ e ∈ servicesOf ok, exec e.1 s = .next s := by
  intro e he
  obtain ⟨f, hx⟩ := exec_service s ok e he
  exact hx.trans (congrArg Host.Outcome.next (runService_none h))

/-- The refusals of a service, in their order. -/
theorem service_refusals (s : State) (ok : Bool) {sv r : Nat} {req : List Nat} (h : s.sec.job = some (sv, r, req)) : ∀ e ∈ servicesOf ok,
    (sv ≠ e.2.1 → exec e.1 s = .next s) ∧
    (sv = e.2.1 →
      (secError s = true → Gives e.1 s fun t => Served t 0x07 r []) ∧
      (secError s = false →
        (e.2.2.1.any (· != req.length) = true → Gives e.1 s fun t => Served t 0x02 r []) ∧
        (e.2.2.1.any (· != req.length) = false → r < e.2.2.2.1 → Gives e.1 s fun t => Served t 0x03 r []) ∧
        (e.2.2.1.any (· != req.length) = false → e.2.2.2.1 ≤ r → e.2.2.2.2.contains (modeOf s) = false → Gives e.1 s fun t => Served t 0x04 r []))) := by
  intro e he
  obtain ⟨f, hx⟩ := exec_service s ok e he
  refine ⟨fun hv => hx.trans (congrArg Host.Outcome.next (runService_other h hv)), fun hv => ?_⟩
  subst hv
  exact ⟨fun herr => gives_next hx (runService_error h herr) (serviceDone_served ..), fun herr =>
    ⟨fun hl => gives_next hx (runService_len h herr hl) (serviceDone_served ..), fun hl hr => gives_next hx (runService_role h herr hl hr) (serviceDone_served ..),
      fun hl hr hm => gives_next hx (runService_mode h herr hl hr hm) (serviceDone_served ..)⟩⟩

/-! What each service of the security block does (R367 to R381). -/

theorem raise_rst (s : State) (c a : Nat) : (raise s c a).rst = s.rst := samePart_of_frame (frame_raise_self s c a) (p := .rst) (by decide)
theorem raise_sec (s : State) (c a : Nat) : (raise s c a).sec = s.sec := samePart_of_frame (frame_raise_self s c a) (p := .sec) (by decide)
theorem raise_fuse (s : State) (c a : Nat) : (raise s c a).fuse = s.fuse := samePart_of_frame (frame_raise_self s c a) (p := .fuse) (by decide)

/-! ### Self-tests (R379, R380) -/

theorem selfTests_pass (s : State) : rd (selfTests s true) Reg.SEC_STATUS_STATE = 1 ∧
    rd (selfTests s true) Reg.SEC_STATUS_APPROVED = b2n (rd s Reg.SEC_STATUS_DBG_UNLOCKED == 0) ∧ modeOf (selfTests s true) = modeOf s := by
  let u : State := wr { s with sec := { s.sec with passed := true } } Reg.SEC_STATUS_STATE 1
  have hu : selfTests s true = wr u Reg.SEC_STATUS_APPROVED (b2n (u.sec.passed && rd u Reg.SEC_STATUS_STATE == 1 && rd u Reg.SEC_STATUS_DBG_UNLOCKED == 0)) := rfl
  have hstate : rd u Reg.SEC_STATUS_STATE = 1 := rd_wr ..
  have hdbg : rd u Reg.SEC_STATUS_DBG_UNLOCKED = rd s Reg.SEC_STATUS_DBG_UNLOCKED := rd_wr_ne _ _ (by decide)
  have hpass : u.sec.passed = true := by simp [u]
  have hmode : modeOf u = modeOf s := modeOf_wr_ne _ _ (by decide)
  rw [hu, hpass, hstate, hdbg]
  refine ⟨(rd_wr_ne _ _ (by decide)).trans hstate, (rd_wr ..).trans ?_, (modeOf_wr_ne _ _ (by decide)).trans hmode⟩
  cases rd s Reg.SEC_STATUS_DBG_UNLOCKED == 0 <;> rfl

/-- Entering SAFE from IDLE or DIAG leaves the security block's state. -/
theorem enterSafe_effect {s : State} (code : Nat) (hp : packageHeld s = false) (hm : modeOf s = mIdle ∨ modeOf s = mDiag) :
    modeOf (enterSafe s code) = mSafe ∧ rd (enterSafe s code) Reg.SEC_STATUS_STATE = rd s Reg.SEC_STATUS_STATE ∧
      rd (enterSafe s code) Reg.SEC_STATUS_APPROVED = rd s Reg.SEC_STATUS_APPROVED := by
  let v : State := { s with boot := { s.boot with safe := if code ∈ s.boot.safe then s.boot.safe else s.boot.safe ++ [code] } }
  let u : State := { endSleep v with power := { (endSleep v).power with snap := none } }
  have hsp : Spares s u := spares_of_act (spares_endSleep (spares_of_act (spares_refl s) rfl)) rfl
  have hmu : modeOf u = modeOf s := hsp.rd (f := Reg.MODE_STATUS_MODE) (by decide)
  have hne : modeOf v ≠ mSafe := by
    show modeOf s ≠ mSafe
    rcases hm with h | h <;> rw [h] <;> decide
  have he : enterSafe s code = finishMode u mSafe 7 := by
    unfold enterSafe
    rw [if_neg (by simp [hp])]
    exact if_neg hne
  have hf : Spares (modeShown u mSafe 7) (finishMode u mSafe 7) := spares_finishMode_safe (hmu ▸ hm)
  have hshown (f : Fld) (h1 : f.key ≠ Reg.MODE_STATUS_MODE.key ∧ f.key ≠ Reg.MODE_STATUS_BUSY.key ∧ f.key ≠ Reg.MODE_STATUS_TARGET.key ∧
      f.key ≠ Reg.MODE_STATUS_CAUSE.key) : rd (modeShown u mSafe 7) f = rd u f := by
    unfold modeShown
    rw [rd_wr_ne _ _ h1.2.2.2, rd_wr_ne _ _ h1.2.2.1, rd_wr_ne _ _ h1.2.1, rd_wr_ne _ _ h1.1]
  rw [he]
  exact ⟨modeOf_finishMode _ _ (by decide), ((hf.rd (by decide)).trans (hshown _ (by decide))).trans (hsp.rd (by decide)),
    ((hf.rd (by decide)).trans (hshown _ (by decide))).trans (hsp.rd (by decide))⟩

theorem selfTests_fail {s : State} (hp : packageHeld s = false) (hm : modeOf s = mIdle ∨ modeOf s = mDiag) :
    rd (selfTests s false) Reg.SEC_STATUS_STATE = 2 ∧ rd (selfTests s false) Reg.SEC_STATUS_APPROVED = 0 ∧ modeOf (selfTests s false) = mSafe := by
  let u : State := wr { s with sec := { s.sec with passed := false } } Reg.SEC_STATUS_STATE 2
  have hpass : u.sec.passed = false := by simp [u]
  let v : State := raise (showApproved u) 0xF008 0
  have hv : selfTests s false = enterSafe v 0xF008 := rfl
  have hmode : modeOf v = modeOf s :=
    (rd_raise _ _ _ (by decide)).trans ((modeOf_wr_ne _ _ (by decide)).trans (modeOf_wr_ne _ _ (by decide)))
  have hheld : packageHeld v = false := by
    rw [packageHeld_congr (t := v) (s := s) ((raise_rst ..).trans (by simp [u, showApproved])), hp]
  have hstate : rd v Reg.SEC_STATUS_STATE = 2 := (rd_raise _ _ _ (by decide)).trans ((rd_wr_ne _ _ (by decide)).trans (rd_wr ..))
  have happ : rd v Reg.SEC_STATUS_APPROVED = 0 := by
    refine (rd_raise _ _ _ (by decide)).trans ?_
    unfold showApproved
    rw [rd_wr, hpass]
    rfl
  obtain ⟨h1, h2, h3⟩ := enterSafe_effect (s := v) 0xF008 hheld (hmode ▸ hm)
  rw [hv]
  exact ⟨h2.trans hstate, h3.trans happ, h1⟩

/-! ### Slots -/

@[simp] theorem showSlots_sec (s : State) : (showSlots s).sec = s.sec := by unfold showSlots; simp
@[simp] theorem showSlots_rst (s : State) : (showSlots s).rst = s.rst := by unfold showSlots; simp
@[simp] theorem showSlots_events (s : State) : (showSlots s).events = s.events := by unfold showSlots; simp

theorem rd_showSlots_ne (s : State) {f : Fld} (h : f.key ≠ Reg.SEC_STATUS_SLOTS.key) : rd (showSlots s) f = rd s f := rd_wr_ne _ _ h

@[simp] theorem setSlot_sec (s : State) (k : Nat) (x : Option KeySlot) : (setSlot s k x).sec = { s.sec with slots := s.sec.slots.set k none x } := by
  unfold setSlot
  simp

theorem slot_congr {s t : State} (h : t.sec.slots = s.sec.slots) (k : Nat) : t.slot k = s.slot k := by
  unfold State.slot
  rw [h]

/-- Bit `k` of a mask built from the bits that satisfy `p`. -/
theorem testBit_mask (p : Nat → Bool) (n k : Nat) :
    ((List.range n).foldl (fun m k => if p k then setBit m k else m) 0).testBit k = (decide (k < n) && p k) := by
  induction n with
  | zero => simp
  | succ n ih =>
    rw [List.range_succ, List.foldl_append, List.foldl_cons, List.foldl_nil]
    by_cases hp : p n = true
    · rw [if_pos hp, testBit_setBit, ih]
      by_cases hk : n = k
      · simp [hk, hk ▸ hp]
      · simp [hk, show (k < n + 1) = (k < n) from propext ⟨fun h => by omega, fun h => by omega⟩]
    · rw [if_neg hp, ih]
      by_cases hk : n = k
      · simp [← hk, hp]
      · simp [show (k < n + 1) = (k < n) from propext ⟨fun h => by omega, fun h => by omega⟩]

/-- SLOTS shows an empty slot. -/
theorem slots_empty (s : State) {k : Nat} (h : s.slot k = none) : bit (rd (showSlots s) Reg.SEC_STATUS_SLOTS) k = false := by
  unfold showSlots bit
  rw [rd_wr, show Reg.SEC_STATUS_SLOTS.width = 8 from rfl, Nat.testBit_mod_two_pow, testBit_mask (fun k => (s.slot k).isSome), h]
  simp

/-! ### Tamper and ZEROISE (R378) -/

/-- Nothing secret is left, and no service waits. -/
def Erased (t : State) : Prop := t.sec.slots = [] ∧ t.sec.blobs = [] ∧ t.sec.challenge = none ∧ t.sec.job = none

theorem erased_eraseSecrets (s : State) : Erased (eraseSecrets s) := by
  unfold eraseSecrets Erased
  simp

theorem erased_congr {s t : State} (h : t.sec = s.sec) (hs : Erased s) : Erased t := by
  unfold Erased
  rwa [h]

/-- The TAMPER source keeps the secrets erased and the tamper records, and holds the device unless an MTP pulse runs. -/
theorem sourceOn_tamper {s : State} (hs : Erased s) : Erased (sourceOn s 6) ∧
    (∀ f ∈ [Reg.SEC_TAMPER_CAUSE, Reg.SEC_TAMPER_ZEROISED], rd (sourceOn s 6) f = rd s f) ∧
    (s.rst.mtpPulse = false → packageHeld (sourceOn s 6) = true ∧ modeOf (sourceOn s 6) = mBoot) := by
  by_cases hp : s.rst.mtpPulse = true
  · have ht : sourceOn s 6 = _ := assertSrc_pulse hp (show 6 ≠ 0 by decide)
    rw [ht]
    exact ⟨hs, fun _ _ => rfl, fun h => absurd (hp.symm.trans h) (by decide)⟩
  · have hp : s.rst.mtpPulse = false := by simpa using hp
    obtain ⟨-, hheld, hmode, -⟩ := sourceOn_effect (s := s) (src := 6) (.inr rfl) (by decide) hp
    have ht : sourceOn s 6 = _ := (assertSrc_wide (.inl hp) (show 3 ≤ 4 by decide)).trans (assertNow_wide (show 3 ≤ 4 by decide) (show 6 ≠ 0 by decide))
    refine ⟨?_, fun f hf => ?_, fun _ => ⟨hheld, hmode⟩⟩
    · rw [ht]
      refine erased_congr (wr_sec ..) ⟨rfl, ?_, rfl, rfl⟩
      exact hs.2.1
    · rw [ht]
      unfold causeBit
      have hL : ∀ f ∈ [Reg.SEC_TAMPER_CAUSE, Reg.SEC_TAMPER_ZEROISED], f.cls = .L ∧ f.key ≠ Reg.RESET_CAUSE_SRC.key ∧ f.key ≠ Reg.SEC_STATUS_SLOTS.key ∧
        f.key ≠ Reg.SEC_STATUS_DBG_UNLOCKED.key ∧ (aonKept false).any (fun r => decide (r.1 ≤ f.key) && decide (f.key < r.2)) = true := by decide
      obtain ⟨hc, h1, h2, h3, hk⟩ := hL f hf
      rw [rd_wr_ne _ _ h1, rd_resetPackage _ _ _ hc h2 h3, if_pos hk]
      rfl

theorem tamper_effect (s : State) (c : Nat) : Erased (tamper s c) ∧ rd (tamper s c) Reg.SEC_TAMPER_CAUSE = setBit (rd s Reg.SEC_TAMPER_CAUSE) c % 16 ∧
    (s.rst.mtpPulse = false → packageHeld (tamper s c) = true ∧ modeOf (tamper s c) = mBoot) := by
  obtain ⟨h1, h2, h3⟩ := sourceOn_tamper (s := wr (eraseSecrets s) Reg.SEC_TAMPER_CAUSE (setBit (rd s Reg.SEC_TAMPER_CAUSE) c))
    (erased_congr (wr_sec ..) (erased_eraseSecrets s))
  exact ⟨h1, (h2 _ (by simp)).trans (rd_wr ..), fun hp => h3 (by simpa [eraseSecrets] using hp)⟩

/-- ZEROISE's effect, after which the mailbox is lost with the rest. -/
def zeroised (s : State) (r : Nat) : State := sourceOn (wr (eraseSecrets (serviceDone s 0 r [])) Reg.SEC_TAMPER_ZEROISED 1) 6

theorem zeroised_effect (s : State) (r : Nat) : Erased (zeroised s r) ∧ rd (zeroised s r) Reg.SEC_TAMPER_ZEROISED = 1 ∧
    (s.rst.mtpPulse = false → packageHeld (zeroised s r) = true ∧ modeOf (zeroised s r) = mBoot) := by
  obtain ⟨h1, h2, h3⟩ := sourceOn_tamper (s := wr (eraseSecrets (serviceDone s 0 r [])) Reg.SEC_TAMPER_ZEROISED 1)
    (erased_congr (wr_sec ..) (erased_eraseSecrets _))
  exact ⟨h1, (h2 _ (by simp)).trans (rd_wr ..), fun hp => h3 (by simpa [eraseSecrets] using hp)⟩

/-! Keys, roll-back, fuses and debug unlock (R367 to R377). -/

theorem serviceDone_slot (s : State) (st role : Nat) (resp : List Nat) (k : Nat) : (serviceDone s st role resp).slot k = s.slot k :=
  slot_congr (by simp) k

/-! ### Keys (R375) -/

theorem keyImport_malformed {s : State} {r : Nat} {q : List Nat}
    (h : (decide (q.getD 0 0 < 8) && (q.getD 1 0 == 1 || q.getD 1 0 == 2) && decide (q.getD 2 0 < 4) && q.getD 3 0 == 0) = false) :
    keyImport s r q = serviceDone s 0x02 r [] := by
  unfold keyImport
  dsimp only
  rw [h]
  rfl

section
variable {s : State} {r : Nat} {q : List Nat}
  (h : (decide (q.getD 0 0 < 8) && (q.getD 1 0 == 1 || q.getD 1 0 == 2) && decide (q.getD 2 0 < 4) && q.getD 3 0 == 0) = true)
include h

theorem keyImport_unsigned (hs : rootOk s (q.getD 2 0) (beBytes 16 s.fuse.uid ++ q.take 140) (q.drop 140) = false) :
    keyImport s r q = serviceDone s 0x05 r [] := by
  unfold keyImport
  dsimp only
  rw [h, hs]
  rfl

theorem keyImport_wrapped (hs : rootOk s (q.getD 2 0) (beBytes 16 s.fuse.uid ++ q.take 140) (q.drop 140) = true)
    (hu : Config.unwrapKey s.fuse.duk s.fuse.uid ((q.drop 4).take 96) ((q.drop 100).take 40) = none) : keyImport s r q = serviceDone s 0x05 3 [] := by
  unfold keyImport
  dsimp only
  rw [h, hs, hu]
  rfl

/-- The slot and its blob of an imported key. -/
def importedSlot (s : State) (q : List Nat) (key : Nat) : KeySlot :=
  { key := key, role := q.getD 1 0, gen := match s.sec.blobs.get (q.getD 0 0) none with | some b => b.gen + 1 | none => 0 }

theorem keyImport_good {key : Nat} (hs : rootOk s (q.getD 2 0) (beBytes 16 s.fuse.uid ++ q.take 140) (q.drop 140) = true)
    (hu : Config.unwrapKey s.fuse.duk s.fuse.uid ((q.drop 4).take 96) ((q.drop 100).take 40) = some key) :
    Served (keyImport s r q) 0 3 [] ∧ (keyImport s r q).slot (q.getD 0 0) = some (importedSlot s q key) ∧
      (keyImport s r q).sec.blobs.get (q.getD 0 0) none = some (importedSlot s q key) ∧
      ∀ j, j ≠ q.getD 0 0 → (keyImport s r q).slot j = s.slot j := by
  let s1 := setSlot s (q.getD 0 0) (some (importedSlot s q key))
  let s2 : State := { s1 with sec := { s1.sec with blobs := s1.sec.blobs.set (q.getD 0 0) none (some (importedSlot s q key)) } }
  have hk : keyImport s r q = serviceDone s2 0 3 [] := by
    unfold keyImport
    dsimp only
    rw [h, hs, hu]
    rfl
  have hslots : s2.sec.slots = s.sec.slots.set (q.getD 0 0) none (some (importedSlot s q key)) := by simp [s2, s1]
  rw [hk]
  refine ⟨serviceDone_served .., ?_, ?_, fun j hj => ?_⟩
  · rw [serviceDone_slot]
    unfold State.slot
    rw [hslots, get_set]
  · rw [serviceDone_sec]
    exact get_set s1.sec.blobs (q.getD 0 0) none (some (importedSlot s q key))
  · rw [serviceDone_slot]
    unfold State.slot
    rw [hslots]
    exact get_set_ne _ _ _ _ hj

end

theorem keyDelete_malformed {s : State} {r : Nat} {q : List Nat} (h : 8 ≤ q.getD 0 0 ∨ (q.drop 1).all (· == 0) = false) :
    keyDelete s r q = serviceDone s 0x02 r [] := by
  unfold keyDelete
  refine if_pos ?_
  rcases h with h | h
  · simp only [Bool.not_eq_true', Bool.and_eq_false_iff, decide_eq_false_iff_not]
    exact .inl (by omega)
  · simp only [h, Bool.and_false, Bool.not_false]

theorem keyDelete_good {s : State} (r : Nat) {q : List Nat} (h : q.getD 0 0 < 8) (hz : (q.drop 1).all (· == 0) = true) :
    Served (keyDelete s r q) 0 r [] ∧ (keyDelete s r q).slot (q.getD 0 0) = none ∧ (keyDelete s r q).sec.blobs.get (q.getD 0 0) none = none ∧
      bit (rd (keyDelete s r q) Reg.SEC_STATUS_SLOTS) (q.getD 0 0) = false ∧ ∀ j, j ≠ q.getD 0 0 → (keyDelete s r q).slot j = s.slot j := by
  let k := q.getD 0 0
  let s1 := setSlot s k none
  let s2 : State := { s1 with sec := { s1.sec with blobs := s1.sec.blobs.set k none none } }
  have hk : keyDelete s r q = serviceDone s2 0 r [] := by
    unfold keyDelete
    exact if_neg (by simp only [hz, decide_eq_true h, Bool.and_self]; decide)
  have hslots : s2.sec.slots = s.sec.slots.set k none none := by simp [s2, s1]
  have hnone : s2.slot k = none := by
    unfold State.slot
    rw [hslots, get_set]
  rw [hk]
  refine ⟨serviceDone_served .., (serviceDone_slot ..).trans hnone, ?_, ?_, fun j hj => ?_⟩
  · rw [serviceDone_sec]
    exact get_set s1.sec.blobs k none none
  · rw [rd_serviceDone_ne _ _ _ _ (by decide) (by decide)]
    refine slots_empty { s with sec := { s.sec with slots := s.sec.slots.set k none none } } ?_
    exact get_set s.sec.slots k none none
  · rw [serviceDone_slot]
    unfold State.slot
    rw [hslots]
    exact get_set_ne _ _ _ _ hj

/-! ### Roll-back (R370) -/

theorem rollbackCommit_effect {s : State} (r : Nat) :
    let old := rd s Reg.SEC_MIN_VER_MIN_VER
    (s.boot.img = none → rollbackCommit s r = serviceDone s 0x04 r []) ∧
    ∀ i, s.boot.img = some i →
      (rd s Reg.BOOT_STATUS_SLOT = 2 ∨ i.rollback ≤ old → rollbackCommit s r = serviceDone s 0x04 r []) ∧
      (rd s Reg.BOOT_STATUS_SLOT ≠ 2 → old < i.rollback → 128 ≤ s.sec.copies → rollbackCommit s r = serviceDone s 0x06 r []) ∧
      (rd s Reg.BOOT_STATUS_SLOT ≠ 2 → old < i.rollback → s.sec.copies < 128 →
        Served (rollbackCommit s r) 0 r (beBytes 4 i.rollback) ∧ rd (rollbackCommit s r) Reg.SEC_MIN_VER_MIN_VER = i.rollback % 2 ^ 32 ∧
          (rollbackCommit s r).sec.copies = s.sec.copies + 1 ∧ (rollbackCommit s r).rst.mtpPulse = true ∧ (Room s → Queued s (rollbackCommit s r) 0x7006 0)) := by
  intro old
  refine ⟨fun h => by unfold rollbackCommit; rw [h], fun i hi => ⟨fun h => ?_, fun h1 h2 h3 => ?_, fun h1 h2 h3 => ?_⟩⟩
  · unfold rollbackCommit
    rw [hi]
    exact if_pos h
  · unfold rollbackCommit
    rw [hi]
    dsimp only
    rw [if_neg (by omega), if_pos h3]
  · let u : State := { s with sec := { s.sec with copies := s.sec.copies + 1, minPrev := old }, rst := { s.rst with mtpPulse := true } }
    let s1 := wr u Reg.SEC_MIN_VER_MIN_VER i.rollback
    have hk : rollbackCommit s r = serviceDone (raise s1 0x7006 0) 0 r (beBytes 4 i.rollback) := by
      unfold rollbackCommit
      rw [hi]
      dsimp only
      rw [if_neg (by omega), if_neg (by omega)]
    rw [hk]
    refine ⟨serviceDone_served .., ?_, ?_, ?_, fun hroom => ?_⟩
    · rw [rd_serviceDone_ne _ _ _ _ (by decide) (by decide), rd_raise _ _ _ (by decide), rd_wr]
      rfl
    · rw [serviceDone_sec, raise_sec]
      exact congrArg SecS.copies (wr_sec ..)
    · rw [serviceDone_rst, raise_rst]
      exact congrArg ResetS.mtpPulse (wr_rst ..)
    · have hq : Queued u (raise s1 0x7006 0) 0x7006 0 := queued_raise 0 (wr_rst ..) (wr_events ..) ⟨hroom.1, hroom.2⟩ (by decide)
      exact queued_congr (s := s) hq (serviceDone_events ..)

/-! ### Fuses (R375) -/

theorem fuseProgram_none {s : State} {r : Nat} {q : List Nat} (h : fuseGet s.fuse (Config.fuseField (q.getD 0 0)) = none) :
    fuseProgram s r q = serviceDone s 0x02 r [] := by
  unfold fuseProgram
  rw [h]

/-- A named field: its checks in order, then its programming. -/
theorem fuseProgram_some {s : State} {r n old : Nat} {q : List Nat} {put : Nat → Fuses}
    (h : fuseGet s.fuse (Config.fuseField (q.getD 0 0)) = some (n, old, put)) : fuseProgram s r q =
      if q.length ≠ 4 + n ∨ (q.drop 1).take 3 ≠ [0, 0, 0] then serviceDone s 0x02 r []
      else if ofBytes (q.drop 4) &&& old ≠ old then serviceDone s 0x05 r []
      else if Config.fuseField (q.getD 0 0) = 11 ∧ noRoots s.fuse = false ∧ noRoots (put (ofBytes (q.drop 4))) = true then serviceDone s 0x04 r []
      else serviceDone (raise { s with fuse := put (ofBytes (q.drop 4)) } 0x7007 0) 0 r [] := by
  unfold fuseProgram
  rw [h]
  dsimp only
  simp only [Bool.not_eq_true']

theorem fuse_programmed (s : State) (x : Fuses) (r : Nat) :
    let t := serviceDone (raise { s with fuse := x } 0x7007 0) 0 r []
    Served t 0 r [] ∧ t.fuse = x ∧ (Room s → Queued s t 0x7007 0) := by
  intro t
  have hq (hroom : Room s) : Queued s (raise { s with fuse := x } 0x7007 0) 0x7007 0 := queued_raise 0 rfl rfl hroom (by decide)
  exact ⟨serviceDone_served .., by simp [t, raise_fuse], fun hroom => queued_congr (hq hroom) (serviceDone_events ..)⟩

/-! ### Random bytes and challenges (R374, R376) -/

theorem length_beBytes (n v : Nat) : (beBytes n v).length = n := by simp [beBytes]

theorem newChallenge_effect (s : State) : ∃ nonce : List Nat, nonce.length = 32 ∧
    (newChallenge s).1 = nonce ++ beBytes 16 s.fuse.uid ++ [0, 0, 0, 1] ∧
    (newChallenge s).2 = { s with sec := { s.sec with challenge := some (newChallenge s).1 }, free := s.free + 1 } :=
  ⟨_, length_beBytes .., rfl, rfl⟩

/-! ### Debug responses (R376, R377) -/

theorem debugResponse_none {s : State} (sig : List Nat) (h : s.sec.challenge = none) :
    debugResponse s sig = ({ s with sec := { s.sec with challenge := none } }, false) := by
  unfold debugResponse
  rw [h]

theorem debugResponse_bad {s : State} {sig ch : List Nat} (h : s.sec.challenge = some ch) (hs : rootOk s s.fuse.dbgRoot ch sig = false) :
    debugResponse s sig = ({ s with sec := { s.sec with challenge := none } }, false) := by
  unfold debugResponse
  rw [h]
  dsimp only
  rw [hs]
  rfl

/-- A response that verifies: the debug port opens, the slots are lost, and the block is no longer in approved mode. -/
theorem debugResponse_good {s : State} {sig ch : List Nat} (h : s.sec.challenge = some ch) (hs : rootOk s s.fuse.dbgRoot ch sig = true) :
    let t := (debugResponse s sig).1
    (debugResponse s sig).2 = true ∧ t.sec = { s.sec with challenge := none, slots := [] } ∧ rd t Reg.SEC_STATUS_DBG_UNLOCKED = 1 ∧
      rd t Reg.SEC_STATUS_APPROVED = 0 ∧ (Room s → Queued s t 0x7003 0) := by
  let u : State := wr { s with sec := { s.sec with challenge := none, slots := [] } } Reg.SEC_STATUS_DBG_UNLOCKED 1
  have hd : debugResponse s sig = (raise (showApproved (showSlots u)) 0x7003 0, true) := by
    unfold debugResponse
    rw [h]
    dsimp only
    rw [hs]
    rfl
  have hdbg : rd (showSlots u) Reg.SEC_STATUS_DBG_UNLOCKED = 1 := (rd_showSlots_ne _ (by decide)).trans (rd_wr ..)
  rw [hd]
  refine ⟨rfl, ?_, ?_, ?_, fun hroom => queued_raise 0 ?_ ?_ hroom (by decide)⟩
  · rw [raise_sec]
    simp [showApproved, u]
  · rw [rd_raise _ _ _ (by decide)]
    exact (rd_wr_ne _ _ (by decide)).trans hdbg
  · rw [rd_raise _ _ _ (by decide)]
    unfold showApproved
    rw [rd_wr, hdbg, show ((1 : Nat) == 0) = false from rfl, Bool.and_false]
    rfl
  · simp [showApproved, u]
  · simp [showApproved, u]

/-! The obligation on the security services. -/

/-- A service that waits in a mode in which it runs, of its length and for a role that may ask. -/
theorem gives_service {s : State} {c : Instr} {sv role r : Nat} {len : Option Nat} {modes req : List Nat} {f : State → Nat → List Nat → State} {P : State → Prop}
    (hx : exec c s = .next (runService s sv len role modes f)) (h : s.sec.job = some (sv, r, req)) (he : secError s = false)
    (hm : modes.contains (modeOf s) = true) (hr : role ≤ r) (hp : P (f s r req)) (hl : len.any (· != req.length) = false := by rfl) : Gives c s P :=
  gives_next hx (runService_run h he hl hr hm) hp

theorem any_len {n : Nat} {q : List Nat} (h : q.length = n) : (some n).any (· != q.length) = false := by simp [h]

theorem mem_anyMode {m : Nat} (h : m < 8) : anyMode.contains m = true := by simpa [anyMode] using h

theorem mem_dbgModes {m : Nat} (h : m = mIdle ∨ m = mDiag ∨ m = mSafe) : dbgModes.contains m = true := by
  rcases h with rfl | rfl | rfl <;> rfl

theorem mem_keyModes {m : Nat} (h : m = mIdle ∨ m = mSafe) : [mIdle, mSafe].contains m = true := by
  rcases h with rfl | rfl <;> rfl

theorem mem_testModes {m : Nat} (h : m = mIdle ∨ m = mDiag) : [mIdle, mDiag].contains m = true := by
  rcases h with rfl | rfl <;> rfl

theorem mem_idle {m : Nat} (h : m = mIdle) : [mIdle].contains m = true := by
  rw [h]
  rfl

theorem gives_selftest {s : State} {r : Nat} (ok : Bool) (he : secError s = false) (h : s.sec.job = some (0x02, r, []))
    (hm : modeOf s = mIdle ∨ modeOf s = mDiag) (hp : packageHeld s = false) :
    Gives (.selftest ok) s fun t => Served t (if ok then 0 else 7) r [] ∧ rd t Reg.SEC_STATUS_STATE = (if ok then 1 else 2) ∧
      rd t Reg.SEC_STATUS_APPROVED = b2n (ok && rd s Reg.SEC_STATUS_DBG_UNLOCKED == 0) ∧ modeOf t = (if ok then modeOf s else mSafe) := by
  refine gives_service rfl h he (mem_testModes hm) (Nat.zero_le _) ⟨serviceDone_served _ _ _ (by split <;> decide), ?_⟩
  rw [rd_serviceDone_ne _ _ _ _ (by decide) (by decide), rd_serviceDone_ne _ _ _ _ (by decide) (by decide),
    show modeOf (serviceDone (selfTests s ok) (if ok then 0 else 0x07) r []) = modeOf (selfTests s ok) from rd_serviceDone_ne _ _ _ _ (by decide) (by decide)]
  cases ok with
  | true => exact selfTests_pass s
  | false => exact selfTests_fail hp hm

theorem gives_keyImport {s : State} {r : Nat} {q : List Nat} (he : secError s = false) (h : s.sec.job = some (0x10, r, q)) (hq : q.length = 236)
    (hm : modeOf s = mIdle ∨ modeOf s = mSafe) :
    let slot := q.getD 0 0
    let good := decide (slot < 8) && (q.getD 1 0 == 1 || q.getD 1 0 == 2) && decide (q.getD 2 0 < 4) && q.getD 3 0 == 0
    (good = false → Gives .keyImport s fun t => Served t 0x02 r [] ∧ t.sec.slots = s.sec.slots) ∧
    (good = true → Gives .keyImport s fun t =>
      if rootOk s (q.getD 2 0) (beBytes 16 s.fuse.uid ++ q.take 140) (q.drop 140) = false then Served t 0x05 r [] ∧ t.sec.slots = s.sec.slots
      else match Config.unwrapKey s.fuse.duk s.fuse.uid ((q.drop 4).take 96) ((q.drop 100).take 40) with
        | none => Served t 0x05 3 [] ∧ t.sec.slots = s.sec.slots
        | some x => Served t 0 3 [] ∧ (∃ y, t.slot slot = some y ∧ y.key = x ∧ y.role = q.getD 1 0 ∧ y.last = 0 ∧ y.up = 0 ∧ t.sec.blobs.get slot none = some y) ∧
          ∀ j, j ≠ slot → t.slot j = s.slot j) := by
  intro slot good
  have run {P : State → Prop} (hp : P (keyImport s r q)) : Gives .keyImport s P := gives_service rfl h he (mem_keyModes hm) (Nat.zero_le _) hp (any_len hq)
  refine ⟨fun hg => run ?_, fun hg => run ?_⟩
  · rw [keyImport_malformed hg]
    exact ⟨serviceDone_served .., by simp⟩
  · cases hs : rootOk s (q.getD 2 0) (beBytes 16 s.fuse.uid ++ q.take 140) (q.drop 140) with
    | false =>
      rw [if_pos rfl, keyImport_unsigned hg hs]
      exact ⟨serviceDone_served .., by simp⟩
    | true =>
      rw [if_neg (by decide)]
      cases hu : Config.unwrapKey s.fuse.duk s.fuse.uid ((q.drop 4).take 96) ((q.drop 100).take 40) with
      | none =>
        rw [keyImport_wrapped hg hs hu]
        exact ⟨serviceDone_served .., by simp⟩
      | some key =>
        obtain ⟨hserved, hslot, hblob, hother⟩ := keyImport_good (r := r) hg hs hu
        exact ⟨hserved, ⟨_, hslot, rfl, rfl, rfl, rfl, hblob⟩, hother⟩

theorem gives_keyDelete {s : State} {r : Nat} {q : List Nat} (he : secError s = false) (h : s.sec.job = some (0x11, r, q)) (hq : q.length = 4) (hr : 2 ≤ r)
    (hm : modeOf s = mIdle ∨ modeOf s = mSafe) :
    (q.getD 0 0 < 8 → (q.drop 1).all (· == 0) = true → Gives .keyDelete s fun t => Served t 0 r [] ∧ t.slot (q.getD 0 0) = none ∧ t.sec.blobs.get (q.getD 0 0) none = none ∧
      bit (rd t Reg.SEC_STATUS_SLOTS) (q.getD 0 0) = false ∧ ∀ j, j ≠ q.getD 0 0 → t.slot j = s.slot j) ∧
    (8 ≤ q.getD 0 0 ∨ (q.drop 1).all (· == 0) = false → Gives .keyDelete s fun t => Served t 0x02 r [] ∧ t.sec.slots = s.sec.slots) := by
  have run {P : State → Prop} (hp : P (keyDelete s r q)) : Gives .keyDelete s P := gives_service rfl h he (mem_keyModes hm) hr hp (any_len hq)
  refine ⟨fun h1 h2 => run (keyDelete_good r h1 h2), fun hbad => run ?_⟩
  rw [keyDelete_malformed hbad]
  exact ⟨serviceDone_served .., by simp⟩

theorem gives_rollbackCommit {s : State} {r : Nat} (he : secError s = false) (h : s.sec.job = some (0x20, r, [])) (hr : 2 ≤ r) (hm : modeOf s = mIdle) :
    let old := rd s Reg.SEC_MIN_VER_MIN_VER
    (s.boot.img = none → Gives .rollbackCommit s fun t => Served t 0x04 r [] ∧ rd t Reg.SEC_MIN_VER_MIN_VER = old) ∧
    ∀ i, s.boot.img = some i →
      (rd s Reg.BOOT_STATUS_SLOT = 2 ∨ i.rollback ≤ old → Gives .rollbackCommit s fun t => Served t 0x04 r [] ∧ rd t Reg.SEC_MIN_VER_MIN_VER = old) ∧
      (rd s Reg.BOOT_STATUS_SLOT ≠ 2 → old < i.rollback → 128 ≤ s.sec.copies → Gives .rollbackCommit s fun t => Served t 0x06 r [] ∧ rd t Reg.SEC_MIN_VER_MIN_VER = old) ∧
      (rd s Reg.BOOT_STATUS_SLOT ≠ 2 → old < i.rollback → s.sec.copies < 128 → Gives .rollbackCommit s fun t => Served t 0 r (beBytes 4 i.rollback) ∧
        rd t Reg.SEC_MIN_VER_MIN_VER = i.rollback % 2 ^ 32 ∧ t.sec.copies = s.sec.copies + 1 ∧ t.rst.mtpPulse = true ∧ (Room s → Queued s t 0x7006 0)) := by
  intro old
  have run {P : State → Prop} (hp : P (rollbackCommit s r)) : Gives .rollbackCommit s P :=
    gives_service rfl h he (mem_idle hm) hr hp
  have refused {st : Nat} (hst : st < 256) (hk : rollbackCommit s r = serviceDone s st r []) :
      Gives .rollbackCommit s fun t => Served t st r [] ∧ rd t Reg.SEC_MIN_VER_MIN_VER = old := by
    refine run ?_
    rw [hk]
    exact ⟨serviceDone_served _ _ _ hst, rd_serviceDone_ne _ _ _ _ (by decide) (by decide)⟩
  obtain ⟨hnone, hsome⟩ := rollbackCommit_effect (s := s) r
  refine ⟨fun hi => refused (by decide) (hnone hi), fun i hi => ?_⟩
  obtain ⟨hslot, hfull, hgood⟩ := hsome i hi
  exact ⟨fun h1 => refused (by decide) (hslot h1), fun h1 h2 h3 => refused (by decide) (hfull h1 h2 h3), fun h1 h2 h3 => run (hgood h1 h2 h3)⟩

theorem gives_fuseProgram {s : State} {r : Nat} {q : List Nat} (he : secError s = false) (h : s.sec.job = some (0x30, r, q)) (hr : 2 ≤ r) (hm : modeOf s = mIdle) :
    Gives .fuseProgram s fun t =>
      match fuseGet s.fuse (Config.fuseField (q.getD 0 0)) with
      | none => Served t 0x02 r [] ∧ t.fuse = s.fuse
      | some (n, old, put) =>
        let v := ofBytes (q.drop 4)
        if q.length ≠ 4 + n ∨ (q.drop 1).take 3 ≠ [0, 0, 0] then Served t 0x02 r [] ∧ t.fuse = s.fuse
        else if v &&& old ≠ old then Served t 0x05 r [] ∧ t.fuse = s.fuse
        else if Config.fuseField (q.getD 0 0) = 11 ∧ noRoots s.fuse = false ∧ noRoots (put v) = true then Served t 0x04 r [] ∧ t.fuse = s.fuse
        else Served t 0 r [] ∧ t.fuse = put v ∧ (Room s → Queued s t 0x7007 0) := by
  refine gives_service rfl h he (mem_idle hm) hr ?_
  rcases hf : fuseGet s.fuse (Config.fuseField (q.getD 0 0)) with _ | ⟨n, old, put⟩
  · rw [fuseProgram_none hf]
    exact ⟨serviceDone_served .., by simp⟩
  · rw [fuseProgram_some hf]
    dsimp only
    by_cases h1 : q.length ≠ 4 + n ∨ (q.drop 1).take 3 ≠ [0, 0, 0]
    · rw [if_pos h1, if_pos h1]
      exact ⟨serviceDone_served .., by simp⟩
    rw [if_neg h1, if_neg h1]
    by_cases h2 : ofBytes (q.drop 4) &&& old ≠ old
    · rw [if_pos h2, if_pos h2]
      exact ⟨serviceDone_served .., by simp⟩
    rw [if_neg h2, if_neg h2]
    by_cases h3 : Config.fuseField (q.getD 0 0) = 11 ∧ noRoots s.fuse = false ∧ noRoots (put (ofBytes (q.drop 4))) = true
    · rw [if_pos h3, if_pos h3]
      exact ⟨serviceDone_served .., by simp⟩
    rw [if_neg h3, if_neg h3]
    exact fuse_programmed s _ r

theorem gives_dbgChallenge {s : State} {r : Nat} (he : secError s = false) (h : s.sec.job = some (0x40, r, [])) (hm : modeOf s = mIdle ∨ modeOf s = mDiag ∨ modeOf s = mSafe) :
    Gives .dbgChallenge s fun t => ∃ nonce : List Nat, nonce.length = 32 ∧ Served t 0 r (nonce ++ beBytes 16 s.fuse.uid ++ [0, 0, 0, 1]) ∧
      t.sec.challenge = some (nonce ++ beBytes 16 s.fuse.uid ++ [0, 0, 0, 1]) := by
  obtain ⟨nonce, hlen, hch, hst⟩ := newChallenge_effect s
  refine gives_service rfl h he (mem_dbgModes hm) (Nat.zero_le _) ⟨nonce, hlen, ?_, ?_⟩
  · rw [hch]
    exact serviceDone_served ..
  · rw [serviceDone_sec, hst, hch]

theorem gives_dbgResponse {s : State} {r : Nat} {q : List Nat} (he : secError s = false) (h : s.sec.job = some (0x41, r, q)) (hq : q.length = 96)
    (hm : modeOf s = mIdle ∨ modeOf s = mDiag ∨ modeOf s = mSafe) :
    (s.sec.challenge = none → Gives .dbgResponse s fun t => Served t 0x05 r [] ∧ t.sec.challenge = none ∧ t.sec.slots = s.sec.slots) ∧
    ∀ ch, s.sec.challenge = some ch → Gives .dbgResponse s fun t => t.sec.challenge = none ∧ t.sec.blobs = s.sec.blobs ∧
      if rootOk s s.fuse.dbgRoot ch q = true then Served t 0 3 [] ∧ rd t Reg.SEC_STATUS_DBG_UNLOCKED = 1 ∧ t.sec.slots = [] ∧ rd t Reg.SEC_STATUS_APPROVED = 0 ∧
        (Room s → Queued s t 0x7003 0)
      else Served t 0x05 r [] ∧ t.sec.slots = s.sec.slots := by
  have run {P : State → Prop} (hp : P (serviceDone (debugResponse s q).1 (if (debugResponse s q).2 then 0 else 0x05) (if (debugResponse s q).2 then 3 else r) [])) :
      Gives .dbgResponse s P := gives_service rfl h he (mem_dbgModes hm) (Nat.zero_le _) hp (any_len hq)
  refine ⟨fun hc => run ?_, fun ch hc => run ?_⟩
  · rw [debugResponse_none q hc]
    exact ⟨serviceDone_served (st := 0x05) .., by simp, by simp⟩
  · cases hs : rootOk s s.fuse.dbgRoot ch q with
    | false =>
      rw [debugResponse_bad hc hs]
      exact ⟨by simp, by simp, serviceDone_served (st := 0x05) .., by simp⟩
    | true =>
      obtain ⟨hok, hsec, hdbg, happ, hev⟩ := debugResponse_good hc hs
      rw [hok, if_pos rfl, if_pos rfl, if_pos rfl]
      refine ⟨by simp [hsec], by simp [hsec], serviceDone_served .., ?_, by simp [hsec], ?_, fun hroom => queued_congr (hev hroom) (serviceDone_events ..)⟩
      · rw [rd_serviceDone_ne _ _ _ _ (by decide) (by decide), hdbg]
      · rw [rd_serviceDone_ne _ _ _ _ (by decide) (by decide), happ]

theorem gives_random {s : State} {r : Nat} {q : List Nat} (he : secError s = false) (h : s.sec.job = some (0x50, r, q)) (hq : q.length = 2) (hr : 1 ≤ r) (hm : modeOf s < 8) :
    (1 ≤ ofBytes q → ofBytes q ≤ 1024 → Gives .random s fun t => ∃ bs : List Nat, bs.length = ofBytes q ∧ Served t 0 r bs) ∧
    (ofBytes q = 0 ∨ 1024 < ofBytes q → Gives .random s fun t => Served t 0x02 r []) := by
  have run {P : State → Prop} (hp : P (if ofBytes q = 0 ∨ 1024 < ofBytes q then serviceDone s 0x02 r [] else serviceDone (freeBytes s (ofBytes q)).2 0 r (freeBytes s (ofBytes q)).1)) :
      Gives .random s P := gives_service rfl h he (mem_anyMode hm) hr hp (any_len hq)
  refine ⟨fun h1 h2 => run ?_, fun hbad => run ?_⟩
  · rw [if_neg (by omega)]
    exact ⟨_, length_beBytes .., serviceDone_served ..⟩
  · rw [if_pos hbad]
    exact serviceDone_served ..

/-! ### STATUS -/

theorem exec_status {s : State} {r : Nat} {req : List Nat} (h : s.sec.job = some (0x01, r, req)) : exec .status s = .next
    (if req.length ≠ 0 ∧ !secError s then serviceDone s 0x02 r []
      else serviceDone (freeBytes s 4).2 (if secError s then 0x07 else 0) r
        (if secError s then [] else beBytes 4 (wordShow s ((regAt 0xB0000).getD [])) ++ (freeBytes s 4).1)) := by
  show execStatus s = _
  unfold execStatus
  rw [h]
  rfl

theorem gives_status {s : State} {r : Nat} (h : s.sec.job = some (0x01, r, [])) (he : secError s = false) :
    Gives .status s fun t => ∃ w, w < 2 ^ 32 ∧ Served t 0 r (beBytes 4 (wordShow s ((regAt 0xB0000).getD [])) ++ beBytes 4 w) := by
  have hx := exec_status h
  rw [if_neg (fun k => k.1 rfl), he] at hx
  exact gives_next hx rfl ⟨_, Nat.mod_lt _ (Nat.two_pow_pos _), serviceDone_served ..⟩

theorem gives_status_error {s : State} {r : Nat} {req : List Nat} (h : s.sec.job = some (0x01, r, req)) (he : secError s = true) :
    Gives .status s fun t => Served t 0x07 r [] := by
  have hx := exec_status h
  rw [if_neg (by simp [he]), he] at hx
  exact gives_next hx rfl (serviceDone_served ..)

/-! ### The debug port's own requests (R376) -/

theorem debugPort_shut {s : State} (h : secError s = true ∨ (modeOf s ≠ mIdle ∧ modeOf s ≠ mDiag ∧ modeOf s ≠ mSafe)) :
    (secError s || !dbgModes.contains (modeOf s)) = true := by
  rcases h with h | ⟨h1, h2, h3⟩
  · rw [h, Bool.true_or]
  · rw [show dbgModes.contains (modeOf s) = false by simp [dbgModes, h1, h2, h3]]
    simp

theorem debugPort_open {s : State} (he : secError s = false) (hm : modeOf s = mIdle ∨ modeOf s = mDiag ∨ modeOf s = mSafe) :
    (secError s || !dbgModes.contains (modeOf s)) = false := by
  rw [he, mem_dbgModes hm]
  rfl

theorem gives_secChal_shut {s : State} (h : (secError s || !dbgModes.contains (modeOf s)) = true) :
    Gives .secChal s fun t => t.sec = { s.sec with dr := List.replicate 96 0 } ∧ Frame s t [] [.sec] :=
  gives_next (t := { s with sec := { s.sec with dr := List.replicate 96 0 } }) rfl (if_pos h) ⟨rfl, frame_sec _ (by simp) (frame_refl ..)⟩

theorem gives_secChal_open {s : State} (h : (secError s || !dbgModes.contains (modeOf s)) = false) :
    Gives .secChal s fun t => ∃ nonce : List Nat, nonce.length = 32 ∧ t.sec.challenge = some (nonce ++ beBytes 16 s.fuse.uid ++ [0, 0, 0, 1]) ∧
      t.sec.dr = nonce ++ beBytes 16 s.fuse.uid ++ [0, 0, 0, 1] ++ List.replicate 44 0 ∧ Frame s t [] [.sec, .free] := by
  obtain ⟨nonce, hlen, hch, hst⟩ := newChallenge_effect s
  refine gives_next rfl (if_neg (ne_of_eq_of_ne h Bool.false_ne_true)) ⟨nonce, hlen, ?_, ?_, ?_⟩
  · dsimp only
    rw [hst, hch]
  · dsimp only
    rw [hch]
  · dsimp only
    rw [hst]
    exact frame_free _ (by simp) (frame_sec _ (by simp) (frame_refl ..))

theorem gives_secResp_shut {s : State} (dr : BitVec 768) (h : (secError s || !dbgModes.contains (modeOf s)) = true) :
    Gives (.secResp dr) s fun t => t.sec = { s.sec with dr := beBytes 96 dr.toNat } ∧ Frame s t [] [.sec] :=
  gives_next (t := { s with sec := { s.sec with dr := beBytes 96 dr.toNat } }) rfl (if_pos h) ⟨rfl, frame_sec _ (by simp) (frame_refl ..)⟩

theorem gives_secResp_open {s : State} (dr : BitVec 768) (h : (secError s || !dbgModes.contains (modeOf s)) = false) :
    (s.sec.challenge = none → Gives (.secResp dr) s fun t => t.sec = { s.sec with dr := beBytes 96 dr.toNat } ∧ Frame s t [] [.sec]) ∧
    (∀ ch, s.sec.challenge = some ch → Gives (.secResp dr) s fun t => t.sec.challenge = none ∧ t.sec.dr = beBytes 96 dr.toNat ∧
      if rootOk s s.fuse.dbgRoot ch (beBytes 96 dr.toNat) = true then rd t Reg.SEC_STATUS_DBG_UNLOCKED = 1 ∧ t.sec.slots = [] else Frame s t [] [.sec]) := by
  let u : State := { s with sec := { s.sec with dr := beBytes 96 dr.toNat } }
  have hx : exec (.secResp dr) s = .next (debugResponse u (beBytes 96 dr.toNat)).1 := congrArg Host.Outcome.next (if_neg (ne_of_eq_of_ne h Bool.false_ne_true))
  refine ⟨fun hc => ?_, fun ch hc => ?_⟩
  · refine gives_next hx (congrArg Prod.fst (debugResponse_none (s := u) _ hc)) ⟨?_, frame_sec _ (by simp) (frame_sec _ (by simp) (frame_refl ..))⟩
    show { s.sec with dr := beBytes 96 dr.toNat, challenge := none } = _
    rw [← hc]
  · cases hs : rootOk s s.fuse.dbgRoot ch (beBytes 96 dr.toNat) with
    | false =>
      exact gives_next hx (congrArg Prod.fst (debugResponse_bad (s := u) hc hs))
        ⟨rfl, rfl, frame_sec _ (by simp) (frame_sec _ (by simp) (frame_refl ..))⟩
    | true =>
      obtain ⟨-, hsec, hdbg, -⟩ := debugResponse_good (s := u) hc hs
      exact ⟨_, hx, by rw [hsec], by rw [hsec], hdbg, by rw [hsec]⟩

/-- Settles O60. -/
theorem securityServices : Obligations.SecurityServices := by
  intro s ok dr k c ends services erased halted
  refine ⟨service_waits s ok, fun sv r req h => service_refusals s ok h, fun r h he => gives_status h he, fun r req h he => gives_status_error h he,
    fun he r q hm => ⟨fun h hmode hp => gives_selftest ok he h hmode hp, fun h hr => ?_, fun h => ?_, fun h hq hmode => gives_keyImport he h hq hmode,
      fun h hq hr hmode => gives_keyDelete he h hq hr hmode, fun h => ?_, fun h hr hmode => gives_rollbackCommit he h hr hmode,
      fun h hr hmode => gives_fuseProgram he h hr hmode, fun h => ?_,
      fun hmode => ⟨fun h => gives_dbgChallenge he h hmode, fun h hq => gives_dbgResponse he h hq hmode⟩, fun h hq hr => gives_random he h hq hr hm⟩,
    fun h => ⟨gives_secChal_shut (debugPort_shut h), gives_secResp_shut dr (debugPort_shut h)⟩, fun he hm => ?_,
    gives_next rfl rfl ⟨rd_wr .., frame_wr _ (by simp) (frame_refl ..)⟩, gives_next rfl rfl ⟨rfl, frame_sec _ (by simp) (frame_refl ..)⟩,
    fun hc hf => congrArg Host.Outcome.next (if_pos ⟨hc, hf⟩), fun h => ?_, ?_⟩
  · obtain ⟨h1, h2, h3⟩ := zeroised_effect s r
    exact gives_service (f := fun s r _ => zeroised s r) rfl h he (mem_anyMode hm) hr ⟨h1, h2, h3⟩
  · exact gives_service rfl h he (mem_anyMode hm) (Nat.zero_le _) (serviceDone_served ..)
  · exact gives_service rfl h he (mem_anyMode hm) (Nat.zero_le _) (serviceDone_served ..)
  · exact gives_service rfl h he (mem_anyMode hm) (Nat.zero_le _) (serviceDone_served ..)
  · have hopen := debugPort_open he hm
    obtain ⟨hnone, hsome⟩ := gives_secResp_open dr hopen
    exact ⟨gives_secChal_open hopen, hnone, hsome⟩
  · exact gives_next rfl (if_neg (by omega)) (tamper_effect s c)
  · exact ⟨within_of_mask (keepsO_execIdentity (w₀ := 2097152) (keeps_refl _ s) rfl) (by decide),
      within_of_mask (keepsO_execKeyImport (w₀ := 2097152) (keeps_refl _ s) rfl) (by decide),
      within_of_mask (keepsO_execKeyDelete (w₀ := 2097152) (keeps_refl _ s) rfl) (by decide),
      within_of_mask (keepsO_execKeyStatus (w₀ := 2097152) (keeps_refl _ s) rfl) (by decide),
      within_of_mask (keepsO_execRollbackCommit (w₀ := 2097164) (keeps_refl _ s) rfl) (by decide),
      within_of_mask (keepsO_execFuseProgram (w₀ := 2097162) (keeps_refl _ s) rfl) (by decide),
      within_of_mask (keepsO_execFuseRead (w₀ := 2097152) (keeps_refl _ s) rfl) (by decide),
      within_of_mask (keepsO_execDbgChallenge (w₀ := 10485760) (keeps_refl _ s) rfl) (by decide),
      within_of_mask (keepsO_execDbgResponse (w₀ := 2097160) (keeps_refl _ s) rfl) (by decide),
      within_of_mask (keepsO_execRandom (w₀ := 10485760) (keeps_refl _ s) rfl) (by decide),
      within_of_mask (keepsO_execStatus (w₀ := 10485760) (keeps_refl _ s) rfl) (by decide)⟩

/-! The register map: each register's fields lie at its own offset. -/

/-- The offset of a row's block at given indexes. -/
def rowOff (r : RegRow) (i j k : Nat) : Nat :=
  match r.dims with
  | [] => r.base
  | [(_, a)] => r.base + a * i
  | [(_, a), (_, b)] => r.base + a * i + b * j
  | [(_, a), (_, b), (_, c)] => r.base + a * i + b * j + c * k
  | _ => 0

/-- A row's fields lie at its block's offset, within one word. -/
def RowOk (r : RegRow) : Prop :=
  decide (r.dims.length ≤ 3) = true ∧
    ∀ i j k, (r.flds i j k).map Fld.off = List.replicate (r.flds i j k).length (rowOff r i j k) ∧ (r.flds i j k).all (fun f => decide (f.lo < 32)) = true

theorem rowOk_all : List.Forall RowOk regRows := by
  repeat (first | exact ⟨rfl, fun _ _ _ => ⟨rfl, rfl⟩⟩ | refine ⟨⟨rfl, fun _ _ _ => ⟨rfl, rfl⟩⟩, ?_⟩)

theorem dimIndexes_cons {d c st : Nat} {r : List (Nat × Nat)} {l : List Nat} (h : dimIndexes d ((c, st) :: r) = some l) :
    ∃ l', l = d / st :: l' ∧ dimIndexes (d % st) r = some l' := by
  unfold dimIndexes at h
  split at h
  · cases hr : dimIndexes (d % st) r with
    | none => simp [hr] at h
    | some l' => exact ⟨l', by simpa [hr] using h.symm, rfl⟩
  · cases h

theorem dimIndexes_nil {d : Nat} {l : List Nat} (h : dimIndexes d [] = some l) : d = 0 := by
  unfold dimIndexes at h
  split at h
  · assumption
  · cases h

/-- The indexes of a block give back its distance. -/
theorem rowOff_of_dimIndexes {r : RegRow} {d : Nat} {l : List Nat} (h : dimIndexes d r.dims = some l) (hd : r.dims.length ≤ 3) :
    rowOff r (l.getD 0 0) (l.getD 1 0) (l.getD 2 0) = r.base + d := by
  unfold rowOff
  rcases hr : r.dims with _ | ⟨⟨c, a⟩, _ | ⟨⟨c', b⟩, _ | ⟨⟨c'', e⟩, _ | ⟨x, y⟩⟩⟩⟩ <;> rw [hr] at h hd
  · simp [dimIndexes_nil h]
  · obtain ⟨l1, rfl, h1⟩ := dimIndexes_cons h
    have h0 := dimIndexes_nil h1
    have := Nat.div_add_mod d a
    simp only [List.getD_cons_zero]
    omega
  · obtain ⟨l1, rfl, h1⟩ := dimIndexes_cons h
    obtain ⟨l2, rfl, h2⟩ := dimIndexes_cons h1
    have h0 := dimIndexes_nil h2
    have := Nat.div_add_mod d a
    have := Nat.div_add_mod (d % a) b
    simp only [List.getD_cons_zero, List.getD_cons_succ]
    omega
  · obtain ⟨l1, rfl, h1⟩ := dimIndexes_cons h
    obtain ⟨l2, rfl, h2⟩ := dimIndexes_cons h1
    obtain ⟨l3, rfl, h3⟩ := dimIndexes_cons h2
    have h0 := dimIndexes_nil h3
    have := Nat.div_add_mod d a
    have := Nat.div_add_mod (d % a) b
    have := Nat.div_add_mod (d % a % b) e
    simp only [List.getD_cons_zero, List.getD_cons_succ]
    omega
  · simp only [List.length_cons] at hd
    omega

/-- The fields of the register at an offset lie at it. -/
theorem regAt_off {o : Nat} {fs : List Fld} (h : regAt o = some fs) : ∀ f ∈ fs, f.off = o ∧ f.lo < 32 := by
  intro f hf
  obtain ⟨r, hr, hrow⟩ := List.exists_of_findSome?_eq_some h
  obtain ⟨hdims, hrow'⟩ := List.forall_iff_forall_mem.mp rowOk_all r hr
  unfold rowAt at hrow
  split at hrow
  · cases hrow
  · rename_i hbase
    cases hl : dimIndexes (o - r.base) r.dims with
    | none => simp [hl] at hrow
    | some l =>
      obtain ⟨hoff, hlo⟩ := hrow' (l.getD 0 0) (l.getD 1 0) (l.getD 2 0)
      have hfs : r.flds (l.getD 0 0) (l.getD 1 0) (l.getD 2 0) = fs := by simpa [hl] using hrow
      rw [hfs] at hoff hlo
      have hmem : f.off ∈ fs.map Fld.off := List.mem_map_of_mem hf
      rw [hoff] at hmem
      have h1 := List.eq_of_mem_replicate hmem
      have h2 := rowOff_of_dimIndexes hl (of_decide_eq_true hdims)
      exact ⟨by omega, of_decide_eq_true (List.all_eq_true.mp hlo f hf)⟩

/-- A spared field is read-only where the map has it. -/
theorem spared_readOnly : (spared.all fun e => ((regAt e.off).getD []).all fun f => f.lo != e.lo || f.acc == .ro) = true := by decide +kernel

/-- What a command or REG_INIT may write through the map reaches no spared field. -/
theorem clear_of_map {o : Nat} {fs : List Fld} (h : regAt o = some fs) {f : Fld} (hf : f ∈ fs) (ha : f.acc ≠ .ro) : Clear f := by
  refine .inr fun e he hk => ?_
  obtain ⟨hoff, hlo⟩ := regAt_off h f hf
  have helo := (spared_lo e he).1
  have hsame : f.off = e.off ∧ f.lo = e.lo := by
    unfold Fld.key at hk
    omega
  have hro := List.all_eq_true.mp spared_readOnly e he
  rw [← hsame.1, hoff, h] at hro
  have := List.all_eq_true.mp hro f hf
  simp [hsame.2, ha] at this

/-! The operations that a wake and the supply stages are made of spare the spared registers. -/

theorem spares_copyShadow {s₀ s : State} {g : Group} (h : Spares s₀ s) : Spares s₀ (copyShadow s g) := spares_forEach h fun _ _ k => spares_of_act k rfl

theorem spares_commitGroup {s₀ s : State} {g : Group} {fails : List Nat} {leave : Bool} (h : Spares s₀ s) : Spares s₀ (commitGroup s g fails leave).1 := by
  unfold commitGroup
  split
  · exact h
  · split
    · exact spares_copyShadow (spares_of_act h rfl)
    · exact spares_ite h (spares_cfgError (spares_of_act h rfl))

theorem spares_clearMem {s₀ s : State} {a b : Nat} (h : Spares s₀ s) : Spares s₀ (clearMem s a b) := spares_of_act h rfl

theorem spares_State_modCluster {s₀ s : State} {a1} {a2} (h : Spares s₀ s) : Spares s₀ (State.modCluster s a1 a2) := by
  unfold State.modCluster
  with_reducible repeat' (first
    | assumption | refine spares_mk rfl ?_)

theorem spares_raiseIf {s₀ : State} {a0} {s : State} {a2} {a3} (h : Spares s₀ s) : Spares s₀ (raiseIf a0 s a2 a3) := by
  unfold raiseIf
  with_reducible repeat' (first
    | assumption | apply spares_ite | apply spares_raise)

theorem spares_markTag {s₀ s : State} {a1} {a2} {a3} (h : Spares s₀ s) : Spares s₀ (markTag s a1 a2 a3) := by
  unfold markTag
  with_reducible repeat' (first
    | assumption | apply spares_State_modRx)

theorem spares_setGain {s₀ s : State} {a1} {a2} (h : Spares s₀ s) : Spares s₀ (setGain s a1 a2) := by
  unfold setGain
  with_reducible repeat' (first
    | assumption | apply spares_ite | apply spares_markTag | apply spares_State_modRx | refine spares_wr ?_)

theorem spares_gainCommitted {s₀ s : State} {a1} {a2} {a3} (h : Spares s₀ s) : Spares s₀ (gainCommitted s a1 a2 a3) := by
  unfold gainCommitted
  with_reducible repeat' (first
    | assumption | apply spares_ite | apply spares_setGain | apply spares_State_modRx)

theorem spares_channelChange {s₀ s : State} {a1} (h : Spares s₀ s) : Spares s₀ (channelChange s a1) := by
  unfold channelChange
  with_reducible repeat' (first
    | assumption | apply spares_markTag)

theorem spares_bankChange {s₀ s : State} {a1} {a2} {a3} (h : Spares s₀ s) : Spares s₀ (bankChange s a1 a2 a3) := by
  unfold bankChange
  with_reducible repeat' (first
    | assumption | apply spares_ite | apply spares_State_modRx | refine spares_wr ?_ | apply spares_markTag)

theorem spares_rxCommit {s₀ s : State} {a1} (h : Spares s₀ s) : Spares s₀ (rxCommit s a1) := by
  unfold rxCommit
  with_reducible repeat' (first
    | assumption | apply spares_ite | apply spares_channelChange | refine spares_wr ?_ | apply spares_gainCommitted
    | apply spares_bankChange | apply spares_commitGroup)

theorem spares_txCommit {s₀ s : State} {a1} (h : Spares s₀ s) : Spares s₀ (txCommit s a1) := by
  unfold txCommit
  with_reducible repeat' (first
    | assumption | apply spares_ite | refine spares_wr ?_ | apply spares_commitGroup)

theorem spares_shadowReady {s₀ s : State} {a1} (h : Spares s₀ s) : Spares s₀ (shadowReady s a1) := by
  unfold shadowReady
  with_reducible repeat' (first
    | assumption | apply spares_State_modTx | refine spares_wr ?_)

theorem spares_loadShadow {s₀ s : State} {a1} {a2} (h : Spares s₀ s) : Spares s₀ (loadShadow s a1 a2) := by
  unfold loadShadow
  with_reducible repeat' (first
    | assumption | apply spares_shadowReady | apply spares_State_modTx)

theorem spares_loSearch {s₀ s : State} {a1} (h : Spares s₀ s) : Spares s₀ (loSearch s a1) := by
  unfold loSearch
  with_reducible repeat' (first
    | assumption | apply spares_State_modCluster | apply spares_setLo | split | refine spares_mk rfl ?_)

theorem spares_loKick {s₀ s : State} {a1} (h : Spares s₀ s) : Spares s₀ (loKick s a1) := by
  unfold loKick
  with_reducible repeat' (first
    | assumption | apply spares_ite | apply spares_loSearch)

theorem spares_loMute {s₀ s : State} {a1} (h : Spares s₀ s) : Spares s₀ (loMute s a1) := by
  unfold loMute
  with_reducible repeat' (first
    | assumption | apply spares_ite | apply spares_txonCheck | apply spares_forEach | apply spares_holdCause
    | apply spares_updateNbLive | intro _ _ _)

theorem spares_loTag {s₀ s : State} {a1} (h : Spares s₀ s) : Spares s₀ (loTag s a1) := by
  unfold loTag
  with_reducible repeat' (first
    | assumption | apply spares_forEach | apply spares_markTag | intro _ _ _)

theorem spares_clusterCommit {s₀ s : State} {a1} (h : Spares s₀ s) : Spares s₀ (clusterCommit s a1) := by
  unfold clusterCommit
  with_reducible repeat' (first
    | assumption | apply spares_ite | apply spares_loSearch | apply spares_loMute | apply spares_loTag
    | apply spares_State_modCluster | apply spares_commitGroup | apply spares_loKick)

theorem spares_State_modWset {s₀ s : State} {a1} {a2} (h : Spares s₀ s) : Spares s₀ (State.modWset s a1 a2) := by
  unfold State.modWset
  with_reducible repeat' (first
    | assumption | refine spares_mk rfl ?_)

theorem spares_forTiles {s₀ s : State} {g : State → Nat → State} (h : Spares s₀ s) (hg : ∀ u t, Spares s₀ u → Spares s₀ (g u t)) :
    Spares s₀ (forTiles s g) := spares_forEach h hg

theorem spares_discardWset {s₀ s : State} {a1} (h : Spares s₀ s) : Spares s₀ (discardWset s a1) := by
  unfold discardWset
  with_reducible repeat' (first
    | assumption | apply spares_forTiles | apply spares_State_modWset | refine spares_wr ?_ | intro _ _ _)

theorem spares_corrCommitted {s₀ s : State} {a1} (h : Spares s₀ s) : Spares s₀ (corrCommitted s a1) := by
  unfold corrCommitted
  with_reducible repeat' (first
    | assumption | refine spares_wr ?_ | refine spares_mk rfl ?_)

theorem spares_recipUpdate {s₀ s : State} (h : Spares s₀ s) : Spares s₀ (recipUpdate s) := by
  unfold recipUpdate
  with_reducible repeat' (first
    | assumption | apply spares_raiseIf | apply spares_forTiles | refine spares_wr ?_ | intro _ _ _)

theorem spares_psiToCorr {s₀ s : State} (h : Spares s₀ s) : Spares s₀ (psiToCorr s) := by
  unfold psiToCorr
  with_reducible repeat' (first
    | assumption | apply spares_ite | refine spares_wr ?_ | apply spares_forEach | apply spares_wrSh | intro _ _ _
    | refine spares_mk rfl ?_)

theorem spares_tileCommit {s₀ s : State} (h : Spares s₀ s) : Spares s₀ (tileCommit s) := by
  unfold tileCommit
  with_reducible repeat' (first
    | assumption | apply spares_ite | apply spares_recipUpdate | apply spares_psiToCorr | apply spares_forEach
    | apply spares_commitGroup | apply spares_discardWset | apply spares_corrCommitted | intro _ _ _ | refine spares_mk rfl ?_)

theorem spares_wsetFail {s₀ s : State} {a1} {a2} {a3} (h : Spares s₀ s) : Spares s₀ (wsetFail s a1 a2 a3) := by
  unfold wsetFail
  with_reducible repeat' (first
    | assumption | apply spares_raise | apply spares_ite | apply spares_forTiles | refine spares_wr ?_
    | apply spares_State_modWset | intro _ _ _)

theorem spares_wsetArrive {s₀ s : State} {a1} {a2} (h : Spares s₀ s) : Spares s₀ (wsetArrive s a1 a2) := by
  unfold wsetArrive
  with_reducible repeat' (first
    | assumption | apply spares_ite | apply spares_wsetFail | apply spares_forTiles | apply spares_State_modWset
    | refine spares_wr ?_ | intro _ _ _)

theorem spares_solveResult {s₀ s : State} {a1} {a2} (h : Spares s₀ s) : Spares s₀ (solveResult s a1 a2) := by
  unfold solveResult
  with_reducible repeat' (first
    | assumption | apply spares_forTiles | refine spares_wr ?_ | intro _ _ _)

theorem clear_validFld (d : Nat) : Clear (validFld d) := clear_ite (clear_fixed (by decide)) (clear_fixed (by decide))

theorem spares_refreshDom {s₀ s : State} {d : Nat} (h : Spares s₀ s) : Spares s₀ (refreshDom s d) := by
  have hv {v : Nat} : Spares s₀ (wr s (validFld d) v) := spares_wr h (clear_validFld d)
  exact spares_ite (spares_ite hv (spares_raise (spares_State_modDom hv))) (spares_ite hv h)

theorem spares_refreshSel {s₀ s : State} {a1} (h : Spares s₀ s) : Spares s₀ (refreshSel s a1) := by
  unfold refreshSel
  with_reducible repeat' (first
    | assumption | apply spares_ite | apply spares_raise | refine spares_wr ?_)

theorem spares_enterHoldover {s₀ s : State} (h : Spares s₀ s) : Spares s₀ (enterHoldover s) := by
  unfold enterHoldover
  with_reducible repeat' (first
    | assumption | apply spares_raise | refine spares_wr ?_ | apply spares_takeFree | split
    | refine spares_mk rfl ?_)

theorem spares_refreshTime {s₀ s : State} (h : Spares s₀ s) : Spares s₀ (refreshTime s) := by
  unfold refreshTime
  with_reducible repeat' (first
    | assumption | apply spares_ite | apply spares_enterHoldover | refine spares_wr ?_ | apply spares_refreshSel
    | apply spares_refreshDom)

theorem spares_timeCommit {s₀ s : State} (h : Spares s₀ s) : Spares s₀ (timeCommit s) := by
  unfold timeCommit
  with_reducible repeat' (first
    | assumption | apply spares_ite | apply spares_refreshTime | apply spares_State_modDom | refine spares_wr ?_
    | apply spares_commitGroup)

theorem spares_setActive {s₀ s : State} {a1} {a2} (h : Spares s₀ s) : Spares s₀ (setActive s a1 a2) := by
  unfold setActive
  with_reducible repeat' (first
    | assumption | apply spares_ite | refine spares_wr ?_)

theorem spares_showParents {s₀ s : State} (h : Spares s₀ s) : Spares s₀ (showParents s) := by
  unfold showParents
  with_reducible repeat' (first
    | assumption | apply spares_forEach | refine spares_wr ?_ | intro _ _ _)

theorem spares_chorusCommit {s₀ s : State} (h : Spares s₀ s) : Spares s₀ (chorusCommit s) := by
  unfold chorusCommit
  with_reducible repeat' (first
    | assumption | apply spares_ite | apply spares_refreshTime | apply spares_showParents | apply spares_commitGroup
    | apply spares_setActive | refine spares_mk rfl ?_)

theorem spares_loadFirmware {s₀ s : State} {a1} {a2} (h : Spares s₀ s) : Spares s₀ (loadFirmware s a1 a2) := by
  unfold loadFirmware
  with_reducible repeat' (first
    | assumption | refine spares_wr ?_ | apply spares_State_modNewt | apply spares_loadBytes | apply spares_loadPm)

theorem spares_loadCore {s₀ s : State} {a1} {a2} {a3} (h : Spares s₀ s) : Spares s₀ (loadCore s a1 a2 a3) := by
  unfold loadCore
  with_reducible repeat' (first
    | assumption | apply spares_setU | apply spares_clearView | apply spares_loadFirmware | apply spares_clearMem
    | apply spares_State_modNewt | apply spares_ite | apply spares_autoStart | apply spares_loadKernel | apply spares_raise | refine spares_wr ?_ | split)

theorem spares_enterFallback {s₀ s : State} (h : Spares s₀ s) : Spares s₀ (enterFallback s) := by
  unfold enterFallback
  with_reducible repeat' (first
    | assumption | apply spares_ite | apply spares_raise | apply spares_forEach | apply spares_setU | refine spares_wr ?_
    | apply spares_State_modNewt | intro _ _ _)

theorem spares_capStageStop {s₀ s : State} (h : Spares s₀ s) : Spares s₀ (capStageStop s) := by
  unfold capStageStop
  with_reducible repeat' (first
    | assumption | apply spares_capStopAll)

theorem spares_State_modDma {s₀ s : State} {a1} {a2} (h : Spares s₀ s) : Spares s₀ (State.modDma s a1 a2) := by
  unfold State.modDma
  with_reducible repeat' (first
    | assumption | refine spares_mk rfl ?_)

theorem spares_dmaDomainDown {s₀ s : State} {a1} (h : Spares s₀ s) : Spares s₀ (dmaDomainDown s a1) := by
  unfold dmaDomainDown
  with_reducible repeat' (first
    | assumption | apply spares_forEach | apply spares_ite | apply spares_raise | refine spares_wr ?_
    | apply spares_State_modDma | intro _ _ _)

theorem spares_State_modPwm {s₀ s : State} {a1} {a2} (h : Spares s₀ s) : Spares s₀ (State.modPwm s a1 a2) := by
  unfold State.modPwm
  with_reducible repeat' (first
    | assumption | refine spares_mk rfl ?_)

theorem spares_showConv {s₀ s : State} {a1} (h : Spares s₀ s) : Spares s₀ (showConv s a1) := by
  unfold showConv
  with_reducible repeat' (first
    | assumption | refine spares_wr ?_ | split)

/-- An entry of a vendor sequence of converter `k`. -/
theorem spares_vendorEntry {s₀ s : State} {k q e v : Nat} (h : Spares s₀ s) (hk : k < 2) (hq : q < 4) (he : e < 16) :
    Spares s₀ (wr (wr s (Reg.HK_ENTRY0_MUX k q e) v) (Reg.HK_ENTRY0_ST k q e) 1) := by
  refine spares_wr (spares_wr h (clear_between ?_ (of_decide_eq_true rfl)))
  show 0x20114 < 0x30100 + 0x200 * k + 0x80 * q + 0x8 * e ∧ 0x30100 + 0x200 * k + 0x80 * q + 0x8 * e < 0xB0000
  omega

theorem spares_vendorSeq {s₀ s : State} {k : Nat} (h : Spares s₀ s) (hk : k < 2) : Spares s₀ (vendorSeq s k) := by
  unfold vendorSeq
  have h1 := spares_forEach_mem (l := List.range 16) (g := fun s e => wr (wr s (Reg.HK_ENTRY0_MUX k 2 e) (0x20 + 16 * k + e)) (Reg.HK_ENTRY0_ST k 2 e) 1) h
    fun u e he hu => spares_vendorEntry hu hk (by decide) (List.mem_range.mp he)
  have h2 := spares_vendorEntry (v := 0x18) (spares_vendorEntry (v := 0x1A) h1 hk (by decide : 3 < 4) (by decide : 0 < 16)) hk (by decide : 3 < 4) (by decide : 1 < 16)
  have h3 := spares_forEach_mem (l := List.range 12) (g := fun s e => wr (wr s (Reg.HK_ENTRY0_MUX k 3 (2 + e)) (0x40 + e)) (Reg.HK_ENTRY0_ST k 3 (2 + e)) 1) h2
    fun u e he hu => spares_vendorEntry hu hk (by decide) (by have := List.mem_range.mp he; omega)
  refine spares_wr (spares_wr (spares_wr (spares_wr h3 (clear_between ?_ (of_decide_eq_true rfl)))) (clear_between ?_ (of_decide_eq_true rfl)))
      (clear_between ?_ (of_decide_eq_true rfl))
  · show 0x20114 < 0x30010 + 0x10 * k + 0x4 * 2 ∧ 0x30010 + 0x10 * k + 0x4 * 2 < 0xB0000
    omega
  · show 0x20114 < 0x30010 + 0x10 * k + 0x4 * 2 ∧ 0x30010 + 0x10 * k + 0x4 * 2 < 0xB0000
    omega
  · show 0x20114 < 0x30010 + 0x10 * k + 0x4 * 3 ∧ 0x30010 + 0x10 * k + 0x4 * 3 < 0xB0000
    omega

theorem spares_hkOn {s₀ s : State} (h : Spares s₀ s) : Spares s₀ (hkOn s) := by
  refine spares_forEach_mem h fun u k hk hu => spares_showConv (spares_State_modConv (spares_vendorSeq hu ?_))
  rcases List.mem_pair.mp hk with rfl | rfl <;> decide

theorem spares_wrBoth {s₀ s : State} {f : Fld} {v : Nat} (h : Spares s₀ s) (hf : Clear f) : Spares s₀ (wrBoth s f v) := spares_wrSh (spares_wr h hf)

theorem spares_biasLoad {s₀ s : State} (h : Spares s₀ s) : Spares s₀ (biasLoad s) :=
  spares_forEach h fun _ _ k => spares_biasApply (spares_State_modBias (spares_wr (spares_wrBoth (spares_wrBoth k (.inl rfl)) (.inl rfl))))

theorem spares_biasCommitted {s₀ s : State} {a1} {a2} {a3} {a4} {a5} (h : Spares s₀ s) : Spares s₀ (biasCommitted s a1 a2 a3 a4 a5) := by
  unfold biasCommitted
  with_reducible repeat' (first
    | assumption | apply spares_ite | apply spares_biasApply | apply spares_State_modBias)

theorem spares_hkCommit {s₀ s : State} (h : Spares s₀ s) : Spares s₀ (hkCommit s) := by
  unfold hkCommit
  with_reducible repeat' (first
    | assumption | apply spares_ite | apply spares_forEach | apply spares_commitGroup | apply spares_biasCommitted
    | apply spares_State_modPwm | intro _ _ _ | refine spares_mk rfl ?_)

theorem spares_gateRegion {s₀ s : State} {g : Nat} (h : Spares s₀ s) (hg : g < 8) : Spares s₀ (gateRegion s g) :=
  spares_forEach (spares_setDom h) fun _ _ k => spares_gateRx (spares_gateTx k)

theorem spares_poolCommit {s₀ s : State} (h : Spares s₀ s) : Spares s₀ (poolCommit s) := by
  unfold poolCommit
  with_reducible repeat' (first
    | assumption | apply spares_ite | apply spares_commitGroup)

theorem spares_orxCommit {s₀ s : State} {a1} (h : Spares s₀ s) : Spares s₀ (orxCommit s a1) := by
  unfold orxCommit
  with_reducible repeat' (first
    | assumption | apply spares_ite | apply spares_commitGroup)

theorem spares_leaveBoot {s₀ s : State} (h : Spares s₀ s) : Spares s₀ (leaveBoot s) := by
  unfold leaveBoot
  with_reducible repeat' (first
    | assumption | apply spares_forEach | apply spares_hkCommit | apply spares_chorusCommit | apply spares_tileCommit
    | apply spares_poolCommit | apply spares_timeCommit | apply spares_orxCommit | apply spares_commitGroup | apply spares_ite
    | apply spares_clusterCommit | apply spares_rxCommit | apply spares_txCommit | intro _ _ _)

theorem spares_trainStart {s₀ s : State} {a1} (h : Spares s₀ s) : Spares s₀ (trainStart s a1) := by
  unfold trainStart
  with_reducible repeat' (first
    | assumption | apply spares_loadShadow | apply spares_State_modTx | refine spares_wr ?_)

theorem spares_tableLoad {s₀ s : State} {a1} {a2} (h : Spares s₀ s) : Spares s₀ (tableLoad s a1 a2) := by
  unfold tableLoad
  with_reducible repeat' (first
    | assumption | apply spares_loadShadow | apply spares_ite | apply spares_trainStart | split)

theorem spares_archiveLoad {s₀ s : State} {a1} (h : Spares s₀ s) : Spares s₀ (archiveLoad s a1) := by
  unfold archiveLoad
  with_reducible repeat' (first
    | assumption | apply spares_tableLoad)

theorem spares_shadowTouched {s₀ s : State} {a1} (h : Spares s₀ s) : Spares s₀ (shadowTouched s a1) := by
  unfold shadowTouched
  with_reducible repeat' (first
    | assumption | refine spares_mk rfl ?_)

theorem spares_writeShadow {s₀ s : State} {a1} {a2} (h : Spares s₀ s) : Spares s₀ (writeShadow s a1 a2) := by
  unfold writeShadow
  with_reducible repeat' (first
    | assumption | apply spares_shadowTouched | apply spares_wrSh)

/-- A field of the map, written as REG_INIT does. -/
theorem spares_initField {s₀ s : State} {f : Fld} {v o : Nat} {fs : List Fld} (ho : regAt o = some fs) (hf : f ∈ fs) (h : Spares s₀ s) :
    Spares s₀ (initField s f v) := by
  unfold initField
  split
  · exact spares_writeShadow h
  · next ha _ => exact spares_wr h (clear_of_map ho hf (by rw [ha]; decide))
  · next ha => exact spares_wr h (clear_of_map ho hf (by rw [ha]; decide))
  · exact h

theorem spares_corrTouched {s₀ s : State} {a1} (h : Spares s₀ s) : Spares s₀ (corrTouched s a1) := by
  unfold corrTouched
  with_reducible repeat' (first
    | assumption | apply spares_ite | split | refine spares_mk rfl ?_)

theorem spares_initEntry {s₀ s : State} {e : Nat × Nat × Nat} (h : Spares s₀ s) : Spares s₀ (initEntry s e) := by
  unfold initEntry
  split
  · exact h
  · split
    · exact h
    · next fs ho => exact spares_corrTouched (spares_forEach_mem h fun u f hf hu => spares_initField ho hf hu)

theorem spares_applyInit {s₀ s : State} (h : Spares s₀ s) : Spares s₀ (applyInit s) := by
  unfold applyInit
  with_reducible repeat' (first
    | assumption | apply spares_forEach | apply spares_initEntry)

theorem spares_applyInitIn {s₀ s : State} {a1} {a2} (h : Spares s₀ s) : Spares s₀ (applyInitIn s a1 a2) := by
  unfold applyInitIn
  with_reducible repeat' (first
    | assumption | apply spares_forEach | apply spares_initEntry)

theorem spares_restoreNewt {s₀ s : State} {a1} (h : Spares s₀ s) : Spares s₀ (restoreNewt s a1) := by
  unfold restoreNewt
  with_reducible repeat' (first
    | assumption | refine spares_wr ?_ | apply spares_applyInitIn | apply spares_loadCore)

theorem spares_restoreSets {s₀ s : State} {a1} (h : Spares s₀ s) : Spares s₀ (restoreSets s a1) := by
  unfold restoreSets
  with_reducible repeat' (first
    | assumption | apply spares_forEach | apply spares_ite | apply spares_wsetArrive | intro _ _ _ | split)

/-- A plane without some of its keys. -/
theorem get_filter (t : Tbl Nat) (p : Nat → Bool) (k d : Nat) : Tbl.get (t.filter fun x => p x.1) k d = if p k then t.get k d else d := by
  induction t with
  | nil => simp [Tbl.get]
  | cons x r ih =>
    obtain ⟨j, v⟩ := x
    by_cases hj : j = k <;> by_cases hp : p j = true <;> simp_all [Tbl.get]

/-- The snapshot covers no spared field. -/
theorem spared_noSnap : (spared.all fun e => !snapKey e.key) = true := by decide +kernel

theorem spares_putSnap {s₀ s : State} {sn : Snap} {f : Nat → Bool} (h : Spares s₀ s) : Spares s₀ (putSnap s sn f) := by
  intro e he
  have hk : snapKey e.key = false := by simpa using List.all_eq_true.mp spared_noSnap e he
  have hmine : (f (e.key / 32) && snapKey e.key) = false := by rw [hk, Bool.and_false]
  refine Eq.trans ?_ (h e he)
  show (Tbl.merge (s.act.filter fun p => !(f (p.1 / 32) && snapKey p.1)) (sn.act.filter fun p => f (p.1 / 32) && snapKey p.1)).get e.key e.reset = _
  rw [get_merge, get_filter sn.act (fun k => f (k / 32) && snapKey k), hmine, if_neg Bool.false_ne_true,
    get_filter s.act (fun k => !(f (k / 32) && snapKey k)), hmine]
  simp

theorem spares_railsUp {s₀ s : State} (h : Spares s₀ s) : Spares s₀ (railsUp s) := by
  unfold railsUp
  with_reducible repeat' (first
    | assumption | apply spares_forEach | apply spares_ite | refine spares_wr ?_ | intro _ _ _)

theorem spares_tileLeave {s₀ s : State} {a1} (h : Spares s₀ s) : Spares s₀ (tileLeave s a1) := by
  unfold tileLeave
  with_reducible repeat' (first
    | assumption | apply spares_forEach | apply spares_tileCommit | apply spares_ite | apply spares_clusterCommit
    | apply spares_orxCommit | apply spares_txCommit | apply spares_rxCommit | intro _ _ _)

theorem spares_wakeNewts {s₀ s : State} (h : Spares s₀ s) : Spares s₀ (wakeNewts s) := by
  unfold wakeNewts
  with_reducible repeat' (first
    | assumption | apply spares_forEach | apply spares_ite | apply spares_restoreNewt | intro _ _ _)

theorem spares_wakeTile {s₀ s : State} {a1} {a2} (h : Spares s₀ s) : Spares s₀ (wakeTile s a1 a2) := by
  unfold wakeTile
  with_reducible repeat' (first
    | assumption | apply spares_restoreSets | apply spares_tileLeave | apply spares_forEach | apply spares_archiveLoad
    | intro _ _ _ | refine spares_mk rfl ?_)

theorem spares_restoreSentinel {s₀ s : State} {a1} (h : Spares s₀ s) : Spares s₀ (restoreSentinel s a1) := by
  unfold restoreSentinel
  with_reducible repeat' (first
    | assumption | apply spares_wakeNewts | apply spares_forEach | apply spares_ite | apply spares_putSnap | apply spares_raise
    | apply spares_applyInitIn | apply spares_wakeTile | intro _ _ _)

theorem spares_putBack {s₀ s : State} {o : Option Snap} (h : Spares s₀ s) : Spares s₀ (putBack s o) := by
  unfold putBack
  split
  · exact spares_wr (spares_putSnap (spares_of_act h rfl))
  · exact spares_raise h

theorem spares_restoreBrumate {s₀ s : State} {w : Wake} {ok : Bool} (h : Spares s₀ s) : Spares s₀ (restoreBrumate s w ok) := by
  unfold restoreBrumate
  exact spares_wakeNewts (spares_forEach (spares_leaveBoot (spares_mk rfl (spares_biasLoad (spares_wr (spares_putBack
    (spares_applyInit (spares_mk rfl h))))))) fun _ _ hu => spares_wakeTile hu)

theorem spares_shedMem {s₀ s : State} (h : Spares s₀ s) : Spares s₀ (shedMem s) :=
  have h1 := spares_enterFallback h
  spares_ite h1 (spares_dmaDomainDown (spares_memRefresh (spares_setDom h1 (by decide))))

/-- The freeze that stage 2 puts on. -/
def frozenS2 (s : State) : State := forEach (enabledRegions s) s fun s g => wr s (Reg.REGION_ADAPT_STATUS_FROZEN_S2 g) 1

theorem spares_freezeS2 (s : State) : Spares (frozenS2 s) (freezeS2 s) := by
  unfold freezeS2
  have h1 : Spares (frozenS2 s) (raise (forEach (enabledUnits (frozenS2 s)) (frozenS2 s) fun s u => s.modTx u fun x => { x with adapt := .idle }) 0x2013 0) :=
    spares_raise (spares_forEach (spares_refl _) fun _ _ => spares_State_modTx)
  generalize hu : raise (forEach (enabledUnits (frozenS2 s)) (frozenS2 s) fun s u => s.modTx u fun x => { x with adapt := .idle }) 0x2013 0 = u at h1
  have hd : raise (forEach (enabledUnits (forEach (enabledRegions s) s fun s g => wr s (Reg.REGION_ADAPT_STATUS_FROZEN_S2 g) 1))
      (forEach (enabledRegions s) s fun s g => wr s (Reg.REGION_ADAPT_STATUS_FROZEN_S2 g) 1) fun s u => s.modTx u fun x => { x with adapt := .idle }) 0x2013 0 = u := hu
  dsimp only
  rw [hd]
  split
  · exact h1
  · exact spares_raise (spares_solveResult (spares_forTiles (spares_mk rfl h1) fun _ _ k => spares_wr k))

theorem spares_stageAction {s : State} {k : Nat} {acked : Bool} (hk : k ≠ 2) : Spares s (stageAction s k acked) := by
  unfold stageAction
  split
  · exact spares_capStageStop (spares_refl s)
  · exact absurd rfl hk
  · exact spares_biasAll (spares_forEach_mem (spares_forEach (spares_closeVote (spares_refl s)) fun _ _ => spares_immediateMute) fun _ g hg k =>
      spares_gateRegion k (lt_eight_of_enabled hg))
  · exact spares_mk rfl (spares_refl s)
  · exact spares_refl s

/-- Stage 2, after the freeze. -/
theorem spares_stageTwo (s : State) (acked : Bool) : Spares (frozenS2 (capStopAll (closeVote s) fun n => n == 15)) (stageAction s 2 acked) := by
  have h1 := spares_forEach (l := enabledRegions (freezeS2 (capStopAll (closeVote s) fun n => n == 15))) (g := fun s g => s.modNewt g fun x => { x with fallReq := true })
    (spares_freezeS2 (capStopAll (closeVote s) fun n => n == 15)) fun _ _ => spares_State_modNewt
  exact spares_ite (spares_shedMem h1) h1

/-! Wakes end in IDLE (R351 to R355). -/

/-! ### The snapshot over a transition -/

theorem snap_of_keeps {m : Nat} {s t : State} (h : Keeps m s t) (hm : m.testBit 22 = false) : t.power.snap = s.power.snap :=
  congrArg PowerS.snap (h.part .power hm)

theorem snap_endSleep (s : State) : (endSleep s).power.snap = s.power.snap := by simp [endSleep]

theorem snap_closeVote (s : State) : (closeVote s).power.snap = s.power.snap := by
  unfold closeVote
  split
  · simp
  · rfl

theorem snap_dropSleep (s : State) : (dropSleep s).power.snap = s.power.snap := by
  unfold dropSleep
  split
  · rw [snap_endSleep, snap_closeVote]
  · rfl

theorem snap_sleepRequest (s : State) (t c : Nat) : (sleepRequest s t c).power.snap = s.power.snap := by
  simp [sleepRequest, openVote, beginMode]

theorem snap_refuseMode (s : State) (t c r : Nat) : (refuseMode s t c r).power.snap = s.power.snap :=
  snap_of_keeps (keeps_refuseMode (w₀ := 8) (keeps_refl _ s) rfl) rfl

theorem snap_scheduleAct (s : State) (i : Nat) : (scheduleAct s i).power.snap = s.power.snap := by
  unfold scheduleAct
  split
  · rfl
  · next at' period t _ =>
    dsimp only
    split
    · rfl
    · have h0 : (if period = 0 then { s with power := { s.power with acted := s.power.acted ++ [i] } } else s).power.snap = s.power.snap := by split <;> rfl
      generalize (if period = 0 then { s with power := { s.power with acted := s.power.acted ++ [i] } } else s) = u at h0 ⊢
      split
      · split
        · split
          · exact (snap_dropSleep u).trans h0
          · exact h0
        · split
          · exact h0
          · exact (snap_sleepRequest ..).trans h0
      · exact (snap_refuseMode ..).trans h0

theorem snap_drainDue (s : State) : (drainDue s).power.snap = s.power.snap := by
  unfold drainDue
  split
  · rfl
  · refine (forEach_same (fun t => t.power.snap) (fun t i _ => ?_) { s with power := { s.power with due := [] } })
    dsimp only
    split
    · rfl
    · exact snap_scheduleAct t i

theorem snap_modeDomains (s : State) (m : Nat) : (modeDomains s m).power.snap = s.power.snap := by
  unfold modeDomains
  dsimp only
  have h1 : Keeps 64 s (forEach (List.range 20) s fun t d => setDom t d (modeDomain s m d)) := keeps_forEach (keeps_refl _ s) fun _ _ h => keeps_setDom h
  exact snap_of_keeps (keeps_memRefresh (keeps_ite (keeps_forEach h1 fun _ _ h => keeps_gateRx (keeps_gateTx h rfl) rfl) h1)) rfl

theorem snap_enterIdle (s : State) : (enterMode s mIdle).power.snap = s.power.snap :=
  (snap_modeDomains (radiosOff s) mIdle).trans (snap_of_keeps (keeps_radiosOff (w₀ := 96) (keeps_refl _ s) rfl) rfl)

/-- Entering IDLE from a sleep mode leaves the snapshot as it is. -/
theorem snap_finishMode_idle {s : State} (cause : Nat) (hm : modeOf s = mSentinel ∨ modeOf s = mBrumate) : (finishMode s mIdle cause).power.snap = s.power.snap := by
  have hl (u : State) : leaveMode u (modeOf s) = u := by rcases hm with h | h <;> rw [h] <;> rfl
  unfold finishMode
  dsimp only
  rw [snap_drainDue, hl, snap_of_keeps (keeps_forEach (keeps_refl 1032 _) fun _ _ h => keeps_autoKernel h rfl) rfl, snap_enterIdle,
    snap_of_keeps (keeps_raise (w₀ := 8) (keeps_refl _ _) rfl) rfl]
  simp

/-! ### The restore -/

/-- What decides on a wake's end: the mode, and the marks of failed essential domains. -/
def WakesAs (s t : State) : Prop := modeOf t = modeOf s ∧ ∀ d < 6, rd t (Reg.PWR_DOM_FAILED d) = rd s (Reg.PWR_DOM_FAILED d)

theorem wakesAs_trans {s t u : State} (h : WakesAs s t) (k : WakesAs t u) : WakesAs s u := ⟨k.1.trans h.1, fun d hd => (k.2 d hd).trans (h.2 d hd)⟩

theorem wakesAs_of_spares {s t : State} (h : Spares s t) : WakesAs s t :=
  ⟨h.rd (f := Reg.MODE_STATUS_MODE) (by decide), fun d hd => h.rd (by
    have : ∀ d < 6, Reg.PWR_DOM_FAILED d ∈ spared := by decide
    exact this d hd)⟩

theorem essentialFailed_congr {s t : State} (h : WakesAs s t) : essentialFailed t = essentialFailed s := by
  have hd (d : Nat) (hd : d < 6) : domFailed t d = domFailed s d := on_congr (h.2 d hd)
  unfold essentialFailed
  simp only [List.any_cons, List.any_nil, hd 0 (by decide), hd 1 (by decide), hd 2 (by decide), hd 3 (by decide), hd 4 (by decide), hd 5 (by decide)]

/-- A power-on self-test set that passes. -/
theorem wakesAs_selfTests (s : State) : WakesAs s (selfTests s true) := by
  refine ⟨(selfTests_pass s).2.2, fun d hd => ?_⟩
  have hne : ∀ d < 6, (Reg.PWR_DOM_FAILED d).key ≠ Reg.SEC_STATUS_APPROVED.key ∧ (Reg.PWR_DOM_FAILED d).key ≠ Reg.SEC_STATUS_STATE.key := by decide
  obtain ⟨h1, h2⟩ := hne d hd
  exact (rd_wr_ne _ _ h1).trans (rd_wr_ne _ _ h2)

/-- The registers and blocks are back, and the snapshot has served. -/
def wakeResumed (s : State) (w : Wake) : State :=
  let ok := w.snapOk && !domFailed s 2
  let s1 := linkWake (hkOn (railsUp (if modeOf s = mBrumate then restoreBrumate s w ok else restoreSentinel s ok)))
  { s1 with power := { s1.power with snap := none } }

theorem wakeRestore_eq {s : State} {w : Wake} (hf : w.fails = []) :
    wakeRestore s w = if modeOf s = mBrumate then selfTests (wakeResumed s w) w.testsOk else wakeResumed s w := by
  unfold wakeRestore wakeResumed
  simp only [hf, List.filter_nil, forEach, List.foldl_nil]

theorem spares_wakeResumed (s : State) (w : Wake) : Spares s (wakeResumed s w) :=
  spares_mk rfl (spares_linkWake (spares_hkOn (spares_railsUp (spares_ite (spares_restoreBrumate (spares_refl s)) (spares_restoreSentinel (spares_refl s))))))

theorem selfTests_power (s : State) : (selfTests s true).power = s.power := by simp [selfTests, showApproved]

theorem wakeRestore_effect {s : State} {w : Wake} (hf : w.fails = []) (ht : modeOf s = mBrumate → w.testsOk = true) :
    WakesAs s (wakeRestore s w) ∧ (wakeRestore s w).power.snap = none := by
  have hw := wakesAs_of_spares (spares_wakeResumed s w)
  have hs : (wakeResumed s w).power.snap = none := rfl
  rw [wakeRestore_eq hf]
  generalize wakeResumed s w = t at hw hs ⊢
  split
  · next hb =>
    rw [ht hb, selfTests_power]
    exact ⟨wakesAs_trans hw (wakesAs_selfTests t), hs⟩
  · exact ⟨hw, hs⟩

/-- The device is awake. -/
def Awake (t : State) : Prop := modeOf t = mIdle ∧ t.power.snap = none

/-- A wake without a failing step, of a device whose essential domains are up. -/
theorem wakeUp_awake {s : State} {w : Wake} (cause : Nat) (hf : w.fails = []) (hm : modeOf s = mSentinel ∨ modeOf s = mBrumate)
    (ht : modeOf s = mBrumate → w.testsOk = true) (he : essentialFailed s = false) : Awake (wakeUp s cause w) := by
  obtain ⟨hw, hsnap⟩ := wakeRestore_effect hf ht
  have heq : wakeUp s cause w = finishMode (wakeRestore s w) mIdle cause := by
    unfold wakeUp
    dsimp only
    rw [if_neg (by rw [hw.1]; rcases hm with h | h <;> rw [h] <;> decide), if_neg (by rw [hf]; simp), essentialFailed_congr hw, he]
    rfl
  rw [heq]
  exact ⟨modeOf_finishMode _ _ (by decide), (snap_finishMode_idle cause (by rwa [hw.1])).trans hsnap⟩

/-! ### The end of a sample -/

/-- A region's gating, beside its domain. -/
theorem spares_gateUnits {s : State} (g : Nat) : Spares (setDom s (12 + g) domGated) (gateRegion s g) :=
  spares_forEach (spares_refl _) fun _ _ k => spares_gateRx (spares_gateTx k)

theorem wakesAs_setDom (s : State) (d st : Nat) : WakesAs s (setDom s d st) := by
  refine ⟨modeOf_wr _ _ (notMode_off (by show 65536 ≤ _ + _; omega)), fun e he => rd_wr_ne _ _ ?_⟩
  show (0x20100 + 0x4 * e) * 32 + 3 ≠ (0x20100 + 0x4 * d) * 32 + 0
  omega

theorem wakesAs_endSample (s : State) : WakesAs s (endSample s) := by
  unfold endSample
  split
  · have h1 : WakesAs s (setLo s (sentCluster s) loOff) := wakesAs_of_spares (spares_setLo (spares_refl s))
    have h2 := wakesAs_trans h1 (wakesAs_setDom _ (12 + sentCluster s / 2) domGated)
    exact wakesAs_trans (wakesAs_trans h2 (wakesAs_of_spares (spares_gateUnits (sentCluster s / 2)))) (wakesAs_setDom ..)
  · exact ⟨rfl, fun _ _ => rfl⟩

theorem sleeping_cases {s : State} (h : sleeping s = true) : (modeOf s = mSentinel ∨ modeOf s = mBrumate) ∧ packageHeld s = false := by
  simpa [sleeping] using h

/-! Idle timers, the mode schedule and the sleep vote (R345 to R349). -/

/-! ### Idle timers and on-demand wakes (R345) -/

theorem domState_setDom (s : State) (d : Nat) {st : Nat} (h : st < 8) : domState (setDom s d st) d = if domFailed s d then domOff else st := by
  unfold domState setDom
  rw [rd_wr]
  refine Nat.mod_eq_of_lt (show _ < 8 from ?_)
  split
  · decide
  · exact h

theorem domState_setDom_ne (s : State) {d e : Nat} (st : Nat) (h : d ≠ e) : domState (setDom s e st) d = domState s d :=
  rd_wr_ne _ _ (by exact key_ne_word h (by decide) (by decide))

theorem domFailed_setDom (s : State) (d e st : Nat) : domFailed (setDom s e st) d = domFailed s d := by
  refine on_congr (rd_wr_ne _ _ ?_)
  show (0x20100 + 0x4 * d) * 32 + 3 ≠ (0x20100 + 0x4 * e) * 32 + 0
  omega

theorem frame_setDom (s : State) (d st : Nat) : Frame s (setDom s d st) [Reg.PWR_DOM_STATE d] [] := frame_wr _ (by simp) (frame_refl ..)

theorem idleDown_effect {s : State} {c : Instr} {d st : Nat} (hx : exec c s = .next (idleDown s d st)) (hst : st < 8) :
    (modeOf s = mIdle → domState s d = domOn → domEnabled s d = true → domainUsed s d = false → Gives c s fun t =>
      domState t d = (if domFailed s d then domOff else st) ∧ Frame s t [Reg.PWR_DOM_STATE d] []) ∧
    (modeOf s ≠ mIdle ∨ domState s d ≠ domOn ∨ domEnabled s d = false ∨ domainUsed s d = true → exec c s = .next s) := by
  refine ⟨fun h1 h2 h3 h4 => gives_next hx (if_pos ⟨h1, h2, h3, by simp [h4]⟩) ⟨domState_setDom s d hst, frame_setDom s d st⟩, fun h => ?_⟩
  refine hx.trans (congrArg Host.Outcome.next (if_neg fun k => ?_))
  obtain ⟨k1, k2, k3, k4⟩ := k
  rcases h with h | h | h | h
  · exact h k1
  · exact h k2
  · exact Bool.false_ne_true (h.symm.trans k3)
  · simp [h] at k4

/-- Channels that go on write their states alone. -/
theorem frame_dmaDomainUp (s : State) (f : Nat → Bool) : Frame s (dmaDomainUp s f) ((List.range 16).map Reg.DMA_CH_STATUS_STATE) [.dmas] := by
  unfold dmaDomainUp
  refine frame_forEach (frame_refl ..) fun u n hn hu => frame_ite ?_ hu
  have h1 := frame_modDma n (fun x => { x with lost := false, pausing := on u (Reg.DMA_CH_CTRL_PAUSE n) }) (List.mem_singleton_self Part.dmas) hu
  exact frame_ite (frame_step h1 (frame_mono (frame_enterRun ..) (fun f hf => List.mem_singleton.mp hf ▸ List.mem_map_of_mem hn) (by simp))) h1

theorem domState_dmaDomainUp (s : State) (f : Nat → Bool) {d : Nat} (hd : d < 20) : domState (dmaDomainUp s f) d = domState s d := by
  refine (frame_dmaDomainUp s f).1 _ ?_
  have : ∀ d < 20, ∀ e ∈ (List.range 16).map Reg.DMA_CH_STATUS_STATE, (Reg.PWR_DOM_STATE d).key ≠ e.key := by decide
  exact this d hd

theorem domainReady_stays {s : State} {d : Nat} (h : domFailed s d = true ∨ domEnabled s d = false) : domainReady s d = s := by
  unfold domainReady
  refine if_pos ?_
  rcases h with h | h <;> simp [h]

/-- The die or a tile that is ready is on. -/
theorem domainReady_on {s : State} {d : Nat} (hf : domFailed s d = false) (he : domEnabled s d = true) (hd : d < 20)
    (h : d = 2 ∧ domState s 2 = domPowerDown ∨ 8 ≤ d ∧ d ≤ 11 ∧ domState s d = domQuiesced) : domState (domainReady s d) d = domOn := by
  have hset : domState (setDom s d domOn) d = domOn := by rw [domState_setDom s d (by decide), hf]; rfl
  unfold domainReady
  rw [if_neg (by simp [hf, he])]
  rcases h with ⟨rfl, h⟩ | ⟨h1, h2, h⟩
  · rw [if_pos rfl, if_pos h, domState_dmaDomainUp _ _ hd, hset]
  · rw [if_neg (by omega), if_pos ⟨h1, h2⟩, if_pos h, domState_dmaDomainUp _ _ hd, hset]

theorem domainReady_other {s : State} {d : Nat} (h : d = 2 ∧ domState s 2 ≠ domPowerDown ∨ 8 ≤ d ∧ d ≤ 11 ∧ domState s d ≠ domQuiesced ∨
    12 ≤ d ∧ d - 12 ∉ s.power.woken) : domainReady s d = s := by
  unfold domainReady
  split
  · rfl
  · rcases h with ⟨rfl, h⟩ | ⟨h1, h2, h⟩ | ⟨h1, h⟩
    · rw [if_pos rfl, if_neg h]
    · rw [if_neg (by omega), if_pos ⟨h1, h2⟩, if_neg h]
    · rw [if_neg (by omega), if_neg (by omega), if_neg (fun k => h k.2)]

/-! ### The mode schedule (R347) -/

theorem scheduleAct_idle {s : State} {i at' period target : Nat} (h : scheduleEntry s i = some (at', period, target)) (hp : period = 0 → i ∉ s.power.acted)
    (hm : modeOf s = mIdle) : ∃ u : State, u.act = s.act ∧ scheduleAct s i =
      if on s Reg.PWR_STATUS_SLEEP_PEND then
        if target = mIdle then dropSleep u else { (wr u Reg.MODE_REQ_TARGET target) with power := { u.power with target := target, cause := 2, backoff := 0 } }
      else if target = mIdle then u else sleepRequest u target 2 := by
  refine ⟨if period = 0 then { s with power := { s.power with acted := s.power.acted ++ [i] } } else s, by split <;> rfl, ?_⟩
  unfold scheduleAct
  rw [h]
  dsimp only
  have hno : ¬((period = 0 ∧ i ∈ s.power.acted) ∨ modeOf s = mSentinel ∨ modeOf s = mBrumate) := by
    rw [hm]
    rintro (⟨h1, h2⟩ | h | h)
    · exact hp h1 h2
    · exact absurd h (by decide)
    · exact absurd h (by decide)
  rw [if_neg hno, if_pos hm]
  have hon : on (if period = 0 then { s with power := { s.power with acted := s.power.acted ++ [i] } } else s) Reg.PWR_STATUS_SLEEP_PEND = on s Reg.PWR_STATUS_SLEEP_PEND := by
    split <;> rfl
  rw [hon]

/-- An entry for a sleep mode in IDLE makes its request as the host does. -/
theorem scheduleAct_sleeps {s : State} {i at' period target : Nat} (h : scheduleEntry s i = some (at', period, target)) (hp : period = 0 → i ∉ s.power.acted)
    (hm : modeOf s = mIdle) (hpend : on s Reg.PWR_STATUS_SLEEP_PEND = false) (ht : target = mSentinel ∨ target = mBrumate) :
    let t := scheduleAct s i
    voting t = true ∧ rd t Reg.PWR_STATUS_SLEEP_PEND = 1 ∧ modeBusy t = true ∧ modeTarget t = target ∧ t.power.target = target ∧ t.power.cause = 2 := by
  obtain ⟨u, -, hu⟩ := scheduleAct_idle h hp hm
  have hne : target ≠ mIdle ∧ target < 8 := by rcases ht with rfl | rfl <;> decide
  rw [hpend, if_neg Bool.false_ne_true, if_neg hne.1] at hu
  intro t
  obtain ⟨hbusy, htg, hvote, hp, htarget, hcause⟩ := sleepRequest_effect u 2 hne.2
  rw [show t = _ from hu]
  exact ⟨hvote, hp, hbusy, htg, htarget, hcause⟩

theorem rd_endSleep_pend (s : State) : rd (endSleep s) Reg.PWR_STATUS_SLEEP_PEND = 0 := by
  show rd (wr (wr s Reg.PWR_STATUS_SLEEP_PEND 0) Reg.PWR_STATUS_VOTE 0) Reg.PWR_STATUS_SLEEP_PEND = 0
  rw [rd_wr_ne _ _ (by decide), rd_wr]
  rfl

theorem on_of_act {s t : State} (h : t.act = s.act) {f : Fld} (hf : f.cls = .L) : on t f = on s f := by
  refine on_congr ?_
  simp [rd, hf, h]

/-- An entry for IDLE in IDLE cancels the request that is pending. -/
theorem scheduleAct_cancels {s : State} {i at' period : Nat} (h : scheduleEntry s i = some (at', period, mIdle)) (hp : period = 0 → i ∉ s.power.acted)
    (hm : modeOf s = mIdle) (hpend : on s Reg.PWR_STATUS_SLEEP_PEND = true) : rd (scheduleAct s i) Reg.PWR_STATUS_SLEEP_PEND = 0 := by
  obtain ⟨u, hact, hu⟩ := scheduleAct_idle h hp hm
  rw [hpend, if_pos rfl, if_pos rfl] at hu
  rw [hu]
  unfold dropSleep
  rw [if_pos ((on_of_act hact rfl).trans hpend)]
  exact rd_endSleep_pend _

/-- An entry in another mode than IDLE, the sleep modes apart, is refused. -/
theorem scheduleAct_refused {s : State} {i at' period target : Nat} (h : scheduleEntry s i = some (at', period, target)) (hp : period = 0 → i ∉ s.power.acted)
    (h1 : modeOf s ≠ mIdle) (h2 : modeOf s ≠ mSentinel) (h3 : modeOf s ≠ mBrumate) :
    (Room s → Queued s (scheduleAct s i) 0x1003 (modeOf s + 16 * target + 512 + 4096)) ∧ Frame s (scheduleAct s i) eventRegs [.power, .events] := by
  have hu : ∃ u : State, scheduleAct s i = raise u 0x1003 (modeOf s + 16 * target + 512 + 4096) ∧ u.rst = s.rst ∧ u.events = s.events ∧ Frame s u eventRegs [.power, .events] := by
    unfold scheduleAct
    rw [h]
    dsimp only
    rw [if_neg (by rintro (⟨k1, k2⟩ | k | k); exacts [hp k1 k2, h2 k, h3 k]), if_neg h1]
    by_cases hp0 : period = 0
    · rw [if_pos hp0]
      exact ⟨_, rfl, rfl, rfl, frame_power _ (by simp) (frame_refl ..)⟩
    · rw [if_neg hp0]
      exact ⟨_, rfl, rfl, rfl, frame_refl ..⟩
  obtain ⟨u, hu, hr, he, hf⟩ := hu
  rw [hu]
  exact ⟨fun hroom => queued_raise _ hr he hroom (by decide), frame_raise _ _ (by simp) (by simp) hf⟩

theorem scheduleAct_stays {s : State} {i : Nat} (h : scheduleEntry s i = none ∨ modeOf s = mSentinel ∨ modeOf s = mBrumate) : scheduleAct s i = s := by
  unfold scheduleAct
  split
  · rfl
  · next hs =>
    refine if_pos ?_
    rcases h with h | h | h
    · rw [h] at hs
      cases hs
    · exact .inr (.inl h)
    · exact .inr (.inr h)

/-! ### The vote (R346, R348) -/

/-- The registers that a failed vote writes. -/
def voteRegs : List Fld :=
  [Reg.PWR_STATUS_VOTE, Reg.MODE_STATUS_BUSY, Reg.MODE_STATUS_TARGET, Reg.PWR_SLEEP_SLEEP_REFUSED, Reg.PWR_SLEEP_SLEEP_CNT] ++ eventRegs

theorem closeVote_eq {s : State} (h : voting s = true) : closeVote s =
    { wr (wr (wr s Reg.PWR_STATUS_VOTE 3) Reg.MODE_STATUS_BUSY 0) Reg.MODE_STATUS_TARGET (modeOf s) with
      power := { s.power with accepted := [], refused := [] } } := by
  unfold closeVote
  rw [if_pos h]
  simp

theorem drainDue_idle {s : State} (hb : on s Reg.MODE_STATUS_BUSY = false) (hd : s.power.due = []) : drainDue s = s := by
  have hp : { s.power with due := [] } = s.power := by rw [← hd]
  unfold drainDue
  rw [if_neg (by simp [hb]), hd, hp]
  rfl

/-- A vote that fails: recorded and counted, and the request waits in back-off. -/
theorem failVote_effect {s : State} {m : Nat} (hv : voting s = true) (hd : s.power.due = []) :
    let t := failVote s m
    rd t Reg.PWR_STATUS_VOTE = 3 ∧ modeBusy t = false ∧ t.power.backoff = s.power.backoff + 1 ∧
      rd t Reg.PWR_SLEEP_SLEEP_REFUSED = (rd s Reg.PWR_SLEEP_SLEEP_REFUSED ||| m) % 1024 ∧ rd t Reg.PWR_SLEEP_SLEEP_CNT = min (rd s Reg.PWR_SLEEP_SLEEP_CNT + 1) 63 ∧
      (Room s → Queued s t 0x5003 m) ∧ Frame s t voteRegs [.power, .events] := by
  intro t
  let u := wr (bump s Reg.PWR_SLEEP_SLEEP_CNT 1) Reg.PWR_SLEEP_SLEEP_REFUSED (rd s Reg.PWR_SLEEP_SLEEP_REFUSED ||| m)
  let v := raise u 0x5003 m
  have hvv : rd v Reg.PWR_STATUS_VOTE = rd s Reg.PWR_STATUS_VOTE :=
    (rd_raise _ _ _ (by decide)).trans ((rd_wr_ne _ _ (by decide)).trans (rd_bump_ne _ _ (by decide)))
  have hpow : v.power = s.power := (samePart_of_frame (frame_raise_self u _ _) (p := .power) (by decide)).trans (by simp [u, bump])
  have hvote : voting v = true := by
    unfold voting
    rw [hvv]
    exact hv
  let w : State := wr (wr (wr v Reg.PWR_STATUS_VOTE 3) Reg.MODE_STATUS_BUSY 0) Reg.MODE_STATUS_TARGET (modeOf v)
  let x : State := { w with power := { v.power with accepted := [], refused := [], backoff := v.power.backoff + 1 } }
  have hbusy : on x Reg.MODE_STATUS_BUSY = false := by
    have : rd w Reg.MODE_STATUS_BUSY = 0 := (rd_wr_ne _ _ (by decide)).trans (rd_wr ..)
    show (rd w Reg.MODE_STATUS_BUSY == 1) = false
    rw [this]
    rfl
  have hx : t = x := by
    show drainDue _ = x
    rw [show raise u 0x5003 m = v from rfl, closeVote_eq hvote]
    exact drainDue_idle hbusy (congrArg PowerS.due hpow |>.trans hd)
  have hkeep (f : Fld) (h : ∀ e ∈ [Reg.PWR_STATUS_VOTE, Reg.MODE_STATUS_BUSY, Reg.MODE_STATUS_TARGET] ++ eventFields, f.key ≠ e.key) : rd w f = rd u f :=
    (rd_wr_ne _ _ (h _ (by simp))).trans ((rd_wr_ne _ _ (h _ (by simp))).trans ((rd_wr_ne _ _ (h _ (by simp))).trans
      (rd_raise _ _ _ fun e he => h e (List.mem_append_right _ he))))
  rw [hx]
  have hw : rd w Reg.PWR_STATUS_VOTE = 3 := (rd_wr_ne _ _ (by decide)).trans ((rd_wr_ne _ _ (by decide)).trans (rd_wr ..))
  refine ⟨hw, hbusy, ?_, ?_, ?_, fun hroom => ?_, ?_⟩
  · show v.power.backoff + 1 = _
    rw [hpow]
  · exact (hkeep Reg.PWR_SLEEP_SLEEP_REFUSED (by decide)).trans (rd_wr ..)
  · refine (hkeep Reg.PWR_SLEEP_SLEEP_CNT (by decide)).trans ?_
    exact (rd_wr_ne _ _ (by decide)).trans (rd_bump ..)
  · have hq : Queued s v 0x5003 m := queued_raise m (by simp [u, bump]) (by simp [u, bump]) hroom (by decide)
    refine queued_congr hq ?_
    show w.events = v.events
    simp [w]
  · have h1 : Frame s v voteRegs [.power, .events] := frame_raise _ _ (List.subset_append_right ..) (by simp)
      (frame_wr _ (by simp [voteRegs]) (frame_bump _ (by simp [voteRegs]) (frame_refl ..)))
    exact frame_power _ (by simp) (frame_wr _ (by simp [voteRegs]) (frame_wr _ (by simp [voteRegs]) (frame_wr _ (by simp [voteRegs]) h1)))

/-- A request that is dropped, with its open vote. -/
theorem dropSleep_effect {s : State} (h : on s Reg.PWR_STATUS_SLEEP_PEND = true) :
    let t := dropSleep s
    rd t Reg.PWR_STATUS_SLEEP_PEND = 0 ∧ rd t Reg.PWR_STATUS_VOTE = 0 ∧ t.power.target = 0 ∧ modeBusy t = (modeBusy s && !voting s) ∧
      Frame s t [Reg.PWR_STATUS_VOTE, Reg.PWR_STATUS_SLEEP_PEND, Reg.MODE_STATUS_BUSY, Reg.MODE_STATUS_TARGET] [.power] := by
  intro t
  have ht : t = endSleep (closeVote s) := if_pos h
  have hend (u : State) : Frame u (endSleep u) [Reg.PWR_STATUS_VOTE, Reg.PWR_STATUS_SLEEP_PEND] [.power] :=
    frame_power _ (by simp) (frame_wr _ (by simp) (frame_wr _ (by simp) (frame_refl ..)))
  have hbusy : modeBusy t = modeBusy (closeVote s) := by
    rw [ht]
    exact on_congr ((hend _).1 _ (by decide))
  rw [hbusy, ht]
  have hvote (u : State) : rd (endSleep u) Reg.PWR_STATUS_VOTE = 0 := by
    show rd (wr (wr u Reg.PWR_STATUS_SLEEP_PEND 0) Reg.PWR_STATUS_VOTE 0) Reg.PWR_STATUS_VOTE = 0
    rw [rd_wr]
    rfl
  refine ⟨rd_endSleep_pend _, hvote _, rfl, ?_, ?_⟩
  · by_cases hv : voting s = true
    · rw [hv, Bool.not_true, Bool.and_false, closeVote_eq hv]
      have : rd (wr (wr (wr s Reg.PWR_STATUS_VOTE 3) Reg.MODE_STATUS_BUSY 0) Reg.MODE_STATUS_TARGET (modeOf s)) Reg.MODE_STATUS_BUSY = 0 :=
        (rd_wr_ne _ _ (by decide)).trans (rd_wr ..)
      show (rd (wr (wr (wr s Reg.PWR_STATUS_VOTE 3) Reg.MODE_STATUS_BUSY 0) Reg.MODE_STATUS_TARGET (modeOf s)) Reg.MODE_STATUS_BUSY == 1) = false
      rw [this]
      rfl
    · rw [show voting s = false by simpa using hv, Bool.not_false, Bool.and_true]
      unfold closeVote
      rw [if_neg hv]
  · refine frame_step ?_ (frame_mono (hend _) (by simp) (by simp))
    unfold closeVote
    exact frame_ite (frame_power _ (by simp) (frame_wr _ (by simp) (frame_wr _ (by simp) (frame_wr _ (by simp) (frame_refl ..))))) (frame_refl ..)

theorem openVote_effect (s : State) : let t := openVote s
    voting t = true ∧ modeBusy t = true ∧ modeTarget t = s.power.target % 8 ∧ t.power = { s.power with accepted := [], refused := [] } ∧
      Frame s t [Reg.PWR_STATUS_VOTE, Reg.MODE_STATUS_BUSY, Reg.MODE_STATUS_TARGET] [.power] := by
  intro t
  let u := wr (wr (wr s Reg.PWR_STATUS_VOTE 1) Reg.MODE_STATUS_BUSY 1) Reg.MODE_STATUS_TARGET s.power.target
  have hu (f : Fld) : rd t f = rd u f := by
    show rd (beginMode (wr s Reg.PWR_STATUS_VOTE 1) s.power.target) f = rd u f
    rfl
  refine ⟨beq_iff_eq.mpr ((hu _).trans ?_), on_eq_true.mpr ((hu _).trans ?_), (hu _).trans (rd_wr ..), ?_, ?_⟩
  · exact (rd_wr_ne _ _ (by decide)).trans ((rd_wr_ne _ _ (by decide)).trans (rd_wr ..))
  · exact (rd_wr_ne _ _ (by decide)).trans (rd_wr ..)
  · simp [t, openVote, beginMode]
  · exact frame_power _ (by simp) (frame_wr _ (by simp) (frame_wr _ (by simp) (frame_wr _ (by simp) (frame_refl ..))))

/-! The answers of the voters and the commit of a sleep mode (R348, R349, R353). -/

/-! ### The commit -/

/-- BRUMATE keeps the mode's register. -/
theorem modeOf_brumateLoss (s : State) : modeOf (brumateLoss s) = modeOf s := by
  let kept : State := { act := rangesOf s.act [regsAt 0x10000 0x30000, regsAt 0xB0000 0xB0400, regsAt 0x20 0x24] }
  have hkept : rd kept Reg.MODE_STATUS_MODE = modeOf s :=
    get_keepRanges s.act [] [regsAt 0x10000 0x30000, regsAt 0xB0000 0xB0400, regsAt 0x20 0x24] Reg.MODE_STATUS_MODE.key Reg.MODE_STATUS_MODE.reset
  unfold brumateLoss
  dsimp only
  refine (rd_wr_ne _ _ (by decide)).trans ((forEach_same (fun u => rd u Reg.MODE_STATUS_MODE) (fun u p _ => ?_) _).trans hkept)
  exact modeOf_wr _ _ (notMode_off (by show 65536 ≤ _ + _; omega))

theorem snap_brumateLoss (s : State) : (brumateLoss s).power.snap = s.power.snap := by
  unfold brumateLoss
  simp [forEach_same (fun u => u.power.snap) (fun u p _ => congrArg PowerS.snap (show (setPort u p pSleep).power = u.power by simp [setPort]))]

/-- The commit ends in the mode asked for, with a snapshot. -/
theorem sleepCommit_effect {s : State} (h : s.power.target = mSentinel ∨ s.power.target = mBrumate) :
    modeOf (sleepCommit s) = s.power.target ∧ (sleepCommit s).power.snap.isSome = true := by
  have hlt : s.power.target < 8 := by rcases h with h | h <;> rw [h] <;> decide
  have hm := modeOf_finishMode (railsDown (hkOff (linkSleep (endSleep s)))) s.power.cause hlt
  unfold sleepCommit
  dsimp only
  generalize finishMode (railsDown (hkOff (linkSleep (endSleep s)))) s.power.target s.power.cause = u at hm ⊢
  have hdom : modeOf (modeDomains u s.power.target) = s.power.target :=
    ((keeps_modeDomains (w₀ := 4194368) (keeps_refl _ u) rfl).mode rfl).trans hm
  have hsnap : modeOf (takeSnap (modeDomains u s.power.target)) = s.power.target := hdom
  have hsome : (takeSnap (modeDomains u s.power.target)).power.snap.isSome = true := rfl
  generalize takeSnap (modeDomains u s.power.target) = x at hsnap hsome ⊢
  split
  · exact ⟨(modeOf_brumateLoss x).trans hsnap, by rwa [snap_brumateLoss]⟩
  · have hk := keeps_sentinelLoss (w₀ := 16779201) (keeps_refl _ x) rfl
    exact ⟨(hk.mode rfl).trans hsnap, by rwa [snap_of_keeps hk rfl]⟩

/-! ### The answers -/

theorem voterAnswer_stays {s : State} {v : Nat} (h : voting s = false ∨ s.power.accepted.contains v = true) : voterAnswer s v = s := by
  unfold voterAnswer
  refine if_neg fun k => ?_
  rw [Bool.and_eq_true, Bool.not_eq_true'] at k
  rcases h with h | h
  · exact Bool.false_ne_true (h.symm.trans k.1)
  · exact Bool.false_ne_true (k.2.symm.trans h)

theorem voterAnswer_open {s : State} {v : Nat} (hv : voting s = true) (ha : s.power.accepted.contains v = false) : voterAnswer s v =
    if voterRefuses s v then failVote s (2 ^ v)
    else if (List.range 8).all (fun w => (v :: s.power.accepted).contains w || (w == 7 && s.power.target == mBrumate)) then
      sleepCommit (wr { s with power := { s.power with accepted := v :: s.power.accepted } } Reg.PWR_STATUS_VOTE 2)
    else { s with power := { s.power with accepted := v :: s.power.accepted } } := by
  unfold voterAnswer
  rw [if_pos (by rw [hv, ha]; rfl)]

/-- Every voter has accepted, with voter `v`. -/
theorem allAccepted_iff (s : State) (v : Nat) :
    (List.range 8).all (fun w => (v :: s.power.accepted).contains w || (w == 7 && s.power.target == mBrumate)) = true ↔
      ∀ k < 8, s.power.accepted.contains k = true ∨ k = v ∨ (k = 7 ∧ s.power.target = mBrumate) := by
  simp only [List.all_eq_true, List.mem_range, Bool.or_eq_true, Bool.and_eq_true, beq_iff_eq, List.contains_cons]
  refine forall_congr' fun k => imp_congr_right fun _ => ?_
  constructor
  · rintro ((h | h) | h)
    exacts [.inr (.inl h), .inl h, .inr (.inr h)]
  · rintro (h | h | h)
    exacts [.inl (.inr h), .inl (.inl h), .inr h]

theorem voterAnswer_accepts {s : State} {v : Nat} (hv : voting s = true) (ha : s.power.accepted.contains v = false) (hr : voterRefuses s v = false)
    (hall : ¬∀ k < 8, s.power.accepted.contains k = true ∨ k = v ∨ (k = 7 ∧ s.power.target = mBrumate)) :
    voterAnswer s v = { s with power := { s.power with accepted := v :: s.power.accepted } } := by
  rw [voterAnswer_open hv ha, hr, if_neg Bool.false_ne_true, if_neg ((allAccepted_iff s v).not.mpr hall)]

/-- The last answer commits the sleep mode. -/
theorem voterAnswer_commits {s : State} {v : Nat} (hv : voting s = true) (ha : s.power.accepted.contains v = false) (hr : voterRefuses s v = false)
    (hall : ∀ k < 8, s.power.accepted.contains k = true ∨ k = v ∨ (k = 7 ∧ s.power.target = mBrumate))
    (h : s.power.target = mSentinel ∨ s.power.target = mBrumate) :
    modeOf (voterAnswer s v) = s.power.target ∧ (voterAnswer s v).power.snap.isSome = true := by
  rw [voterAnswer_open hv ha, hr, if_neg Bool.false_ne_true, if_pos ((allAccepted_iff s v).mpr hall)]
  exact sleepCommit_effect (s := wr { s with power := { s.power with accepted := v :: s.power.accepted } } Reg.PWR_STATUS_VOTE 2) h

theorem sleepRetry_effect {s : State} (h1 : rd s Reg.PWR_STATUS_VOTE = 3) (h2 : on s Reg.PWR_STATUS_SLEEP_PEND = true) (h3 : modeOf s = mIdle)
    (h4 : modeBusy s = false) : exec .sleepRetry s = .next (openVote s) :=
  congrArg Host.Outcome.next (if_pos ⟨h1, h2, h3, by rw [h4]; rfl⟩)

theorem sleepRetry_stays {s : State} (h : rd s Reg.PWR_STATUS_VOTE ≠ 3 ∨ on s Reg.PWR_STATUS_SLEEP_PEND = false ∨ modeOf s ≠ mIdle ∨ modeBusy s = true) :
    exec .sleepRetry s = .next s := by
  refine congrArg Host.Outcome.next (if_neg fun ⟨k1, k2, k3, k4⟩ => ?_)
  rcases h with h | h | h | h
  · exact h k1
  · exact Bool.false_ne_true (h.symm.trans k2)
  · exact h k3
  · simp [h] at k4

/-- An entry that falls due during a transition waits for its end. -/
theorem modeScheduleDue_waits {s : State} (ix : BitVec 16) (hp : packageHeld s = false) (hb : modeBusy s = true) (hm : modeOf s ≠ mBoot) :
    exec (.modeScheduleDue ix) s = .next { s with power := { s.power with due := s.power.due ++ [ix.toNat] } } :=
  congrArg Host.Outcome.next ((if_neg (ne_of_eq_of_ne hp Bool.false_ne_true)).trans (if_pos ⟨hb, hm⟩))

theorem modeScheduleDue_acts {s : State} (ix : BitVec 16) (hp : packageHeld s = false) (hb : modeBusy s = false) :
    exec (.modeScheduleDue ix) s = .next (scheduleAct s ix.toNat) :=
  congrArg Host.Outcome.next ((if_neg (ne_of_eq_of_ne hp Bool.false_ne_true)).trans (if_neg fun k => Bool.false_ne_true (hb.symm.trans k.1)))

/-! The adaptive voltage loop, residency, and a step of a wake that comes too late (R354, R357, R358, R362). -/

/-! ### The loop (R357) -/

/-- What one rail's pass reads. -/
def railView (s : State) (r : Nat) : Bool × Bool × Nat × Nat × Nat :=
  (railOn s r, on s (Reg.PWR_AVS_EN r), rd s (Reg.PWR_AVS_AVS_LO r), rd s (Reg.PWR_AVS_AVS_HI r), rd s (Reg.PWR_AVS_TARGET r))

/-- The target that a pass with `slack` leads to. -/
def railNext (v : Bool × Bool × Nat × Nat × Nat) (slack : Int) : Nat :=
  let (up, en, lo, hi, y) := v
  if up = true ∧ en = true then min 850 (max 620 (if slack < 5 * lo then y + 5 else if 5 * hi < slack then y - 5 else y)) else y

def avsRegs (r : Nat) : List Fld := [Reg.PWR_AVS_TARGET r, Reg.PWR_STATUS_LIMIT] ++ eventRegs

theorem frame_avsRail (s : State) (r : Nat) (slack : Int) : Frame s (avsRail s r slack) (avsRegs r) [.power, .events] := by
  unfold avsRail
  dsimp only
  have h0 : Frame s { s with power := { s.power with avs := s.power.avs.erase r } } (avsRegs r) [.power, .events] := frame_power _ (by simp) (frame_refl ..)
  have h1 := frame_stickyEvent (f := Reg.PWR_STATUS_LIMIT) 0x5005 0 (by simp [avsRegs]) (by simp [avsRegs]) (by simp) h0
  have h2 := frame_ite (c := rd s (Reg.PWR_AVS_TARGET r) = 850 ∧ decide (slack < 5 * rd s (Reg.PWR_AVS_AVS_LO r)) = true) h1 h0
  exact frame_ite (frame_ite h2 (frame_wr _ (by simp [avsRegs]) (frame_power _ (by simp) h2))) h0

theorem domEnabled_congr {s t : State} (h : t.fuse = s.fuse) (d : Nat) : domEnabled t d = domEnabled s d := by
  unfold domEnabled tileEnabled regionEnabled gradeUnits
  rw [h]

theorem railView_congr {s t : State} {r : Nat} (h : ∀ f ∈ [Reg.PWR_DOM_STATE (if r = 4 then 0 else 8 + r), Reg.PWR_AVS_EN r, Reg.PWR_AVS_AVS_LO r, Reg.PWR_AVS_AVS_HI r,
    Reg.PWR_AVS_TARGET r], rd t f = rd s f) (hf : t.fuse = s.fuse) : railView t r = railView s r := by
  have hon : railOn t r = railOn s r := by
    unfold railOn domState
    rw [h _ (by simp), domEnabled_congr hf]
  unfold railView
  rw [hon, on_congr (h (Reg.PWR_AVS_EN r) (by simp)), h (Reg.PWR_AVS_AVS_LO r) (by simp), h (Reg.PWR_AVS_AVS_HI r) (by simp), h (Reg.PWR_AVS_TARGET r) (by simp)]

/-- One rail's pass leaves the others alone. -/
theorem railView_avsRail_ne (s : State) {r a : Nat} (slack : Int) (hr : r < 5) (ha : a < 5) (h : r ≠ a) : railView (avsRail s a slack) r = railView s r := by
  have hf := frame_avsRail s a slack
  refine railView_congr (fun f hf' => hf.1 f ?_) (samePart_of_frame hf (p := .fuse) (by simp))
  have hall : ∀ r < 5, ∀ a < 5, r ≠ a → ∀ f ∈ [Reg.PWR_DOM_STATE (if r = 4 then 0 else 8 + r), Reg.PWR_AVS_EN r, Reg.PWR_AVS_AVS_LO r, Reg.PWR_AVS_AVS_HI r,
      Reg.PWR_AVS_TARGET r], ∀ e ∈ avsRegs a, f.key ≠ e.key := by decide
  exact hall r hr a ha h f hf'

theorem target_avsRail (s : State) {r : Nat} (slack : Int) (hr : r < 5) : rd (avsRail s r slack) (Reg.PWR_AVS_TARGET r) = railNext (railView s r) slack := by
  let s0 : State := { s with power := { s.power with avs := s.power.avs.erase r } }
  let y := rd s (Reg.PWR_AVS_TARGET r)
  let n := min 850 (max 620 (if slack < 5 * rd s (Reg.PWR_AVS_AVS_LO r) then y + 5 else if 5 * rd s (Reg.PWR_AVS_AVS_HI r) < slack then y - 5 else y))
  have hsticky : rd (stickyEvent s0 Reg.PWR_STATUS_LIMIT 0x5005 0) (Reg.PWR_AVS_TARGET r) = y := by
    refine (frame_stickyEvent (rs := Reg.PWR_STATUS_LIMIT :: eventRegs) 0x5005 0 (by simp) (by simp) (List.mem_singleton_self _) (frame_refl s0 _ _)).1 _ ?_
    have hall : ∀ r < 5, ∀ e ∈ Reg.PWR_STATUS_LIMIT :: eventRegs, (Reg.PWR_AVS_TARGET r).key ≠ e.key := by decide
    exact hall r hr
  unfold avsRail
  dsimp only
  show rd (if (railOn s r && on s (Reg.PWR_AVS_EN r)) = true then _ else s0) _ = if railOn s r = true ∧ on s (Reg.PWR_AVS_EN r) = true then _ else _
  simp only [Bool.and_eq_true]
  split
  · simp only [decide_eq_true_eq]
    generalize hs1 : (if rd s0 (Reg.PWR_AVS_TARGET r) = 850 ∧ slack < 5 * rd s0 (Reg.PWR_AVS_AVS_LO r) then stickyEvent s0 Reg.PWR_STATUS_LIMIT 0x5005 0 else s0) = s1
    have h1 : rd s1 (Reg.PWR_AVS_TARGET r) = y := by
      rw [← hs1]
      split
      · exact hsticky
      · rfl
    show rd (if n = y then s1 else wr { s1 with power := { s1.power with avs := s1.power.avs.set r (0, 0) (y, 0) } } (Reg.PWR_AVS_TARGET r) n) _ = n
    split
    · next h => exact h1.trans h.symm
    · exact (rd_wr ..).trans (Nat.mod_eq_of_lt (Nat.lt_of_le_of_lt (Nat.min_le_left ..) (show 850 < 1024 by decide)))
  · rfl

/-- One millisecond's pass over the rails. -/
def avsPass (s : State) (slack : List (BitVec 16)) : State :=
  forEach rails s fun s r => match slack[r]? with | some v => avsRail s r v.toInt | none => s

/-- The registers of a pass over the rails. -/
def passRegs : List Fld := rails.flatMap avsRegs

theorem frame_avsPass (s : State) (slack : List (BitVec 16)) : Frame s (avsPass s slack) passRegs [.power, .events] := by
  refine frame_forEach (frame_refl ..) fun u r hr hu => ?_
  split
  · exact frame_step hu (frame_mono (frame_avsRail ..) (fun f hf => List.mem_flatMap.mpr ⟨r, hr, hf⟩) (by simp))
  · exact hu

theorem target_avsPass (s : State) {slack : List (BitVec 16)} {r : Nat} {x : BitVec 16} (hr : r < 5) (hx : slack[r]? = some x) :
    rd (avsPass s slack) (Reg.PWR_AVS_TARGET r) = railNext (railView s r) x.toInt := by
  obtain ⟨u, hu, hend⟩ := forEach_at (railView · r) (g := fun s r => match slack[r]? with | some v => avsRail s r v.toInt | none => s) (l := rails) List.nodup_range
    (List.mem_range.mpr hr) (fun s a ha h => by
      split
      · exact railView_avsRail_ne s _ hr (List.mem_range.mp ha) h
      · rfl) s
  have ht : rd (avsPass s slack) (Reg.PWR_AVS_TARGET r) = rd (avsRail u r x.toInt) (Reg.PWR_AVS_TARGET r) := by
    have := congrArg (fun v => v.2.2.2.2) hend
    rw [hx] at this
    exact this
  rw [ht, target_avsRail u _ hr, hu]

/-! ### Residency (R362) -/

/-- The count of the mode, before what the regions count. -/
def modeCounted (s : State) : State := wr s (Reg.PWR_RES_MODE_RES (modeOf s)) (rd s (Reg.PWR_RES_MODE_RES (modeOf s)) + 1)

theorem frame_residency (s : State) :
    Frame (modeCounted s) (residency s) ((List.range 8).map Reg.PWR_RES_REGION_RES ++ (List.range 8).map Reg.PWR_TXGATE_TXGATE) [.power] := by
  unfold residency
  dsimp only
  have hmem {g : Nat} {t : State} (hg : g ∈ enabledRegions t) : g ∈ List.range 8 := List.mem_range.mpr (lt_eight_of_enabled hg)
  have h2 := frame_forEach (frame_refl (modeCounted s) ((List.range 8).map Reg.PWR_RES_REGION_RES ++ (List.range 8).map Reg.PWR_TXGATE_TXGATE) [.power])
    (l := enabledRegions (modeCounted s)) (g := fun s g =>
      let a := if domState s (12 + g) = domGated then wr s (Reg.PWR_RES_REGION_RES g) (rd s (Reg.PWR_RES_REGION_RES g) + 1) else s
      { a with power := { a.power with gated := a.power.gated.set g 0 (a.power.gated.get g 0 + gatedPaths a g) } }) fun u g hg hu =>
    frame_power _ (List.mem_singleton_self _) (frame_ite (frame_wr _ (List.mem_append_left _ (List.mem_map_of_mem (hmem hg))) hu) hu)
  exact frame_ite (frame_power _ (List.mem_singleton_self _) h2) (frame_power _ (List.mem_singleton_self _) (frame_forEach h2 fun u g hg hu =>
    frame_wr _ (List.mem_append_right _ (List.mem_map_of_mem (hmem hg))) hu))

/-- One millisecond of residency counts the mode and leaves the rails' targets. -/
theorem residency_effect {s : State} (h : modeOf s < 8) :
    rd (residency s) (Reg.PWR_RES_MODE_RES (modeOf s)) = (rd s (Reg.PWR_RES_MODE_RES (modeOf s)) + 1) % 2 ^ 32 ∧
      ∀ r < 5, rd (residency s) (Reg.PWR_AVS_TARGET r) = rd s (Reg.PWR_AVS_TARGET r) := by
  have hf := (frame_residency s).1
  have hm : ∀ m < 8, ∀ e ∈ (List.range 8).map Reg.PWR_RES_REGION_RES ++ (List.range 8).map Reg.PWR_TXGATE_TXGATE, (Reg.PWR_RES_MODE_RES m).key ≠ e.key := by decide
  have ht : ∀ r < 5, (∀ e ∈ (List.range 8).map Reg.PWR_RES_REGION_RES ++ (List.range 8).map Reg.PWR_TXGATE_TXGATE, (Reg.PWR_AVS_TARGET r).key ≠ e.key) ∧
      ∀ m < 8, (Reg.PWR_AVS_TARGET r).key ≠ (Reg.PWR_RES_MODE_RES m).key := by decide
  exact ⟨(hf _ (hm _ h)).trans (rd_wr ..), fun r hr => (hf _ (ht r hr).1).trans (rd_wr_ne _ _ ((ht r hr).2 _ h))⟩

theorem avsLoop_next {s : State} (slack : List (BitVec 16)) (hp : packageHeld s = false) : exec (.avsLoop slack) s = .next (residency (avsPass s slack)) :=
  congrArg Host.Outcome.next (if_neg (ne_of_eq_of_ne hp Bool.false_ne_true))

theorem avsLoop_effect {s : State} (slack : List (BitVec 16)) (h : modeOf s < 8) : let t := residency (avsPass s slack)
    rd t (Reg.PWR_RES_MODE_RES (modeOf s)) = (rd s (Reg.PWR_RES_MODE_RES (modeOf s)) + 1) % 2 ^ 32 ∧
      ∀ r < 5, ∀ x, slack[r]? = some x → rd t (Reg.PWR_AVS_TARGET r) = railNext (railView s r) x.toInt := by
  have hf := (frame_avsPass s slack).1
  have hmode : modeOf (avsPass s slack) = modeOf s := hf _ (by decide)
  have hne : ∀ m < 8, ∀ e ∈ passRegs, (Reg.PWR_RES_MODE_RES m).key ≠ e.key := by decide
  obtain ⟨h1, h2⟩ := residency_effect (s := avsPass s slack) (hmode.symm ▸ h)
  rw [hmode, hf _ (hne _ h)] at h1
  exact ⟨h1, fun r hr x hx => (h2 r hr).trans (target_avsPass s hr hx)⟩

/-! ### A rail change that is not acknowledged (R358) -/

theorem avsLate_idle {s : State} {r : Nat} {nak : Bool} (h : (s.power.avs.find? fun p => p.1 == r) = none) : avsLate s r nak = s := by
  unfold avsLate
  rw [h]

/-- The NAK, where the write had one, counts. -/
def nakCounted (s : State) (r : Nat) (nak : Bool) : State := if nak then bump s (Reg.PWR_AVS_NAK_CNT r) 1 else s

theorem frame_nakCounted (s : State) (r : Nat) (nak : Bool) : Frame s (nakCounted s r nak) [Reg.PWR_AVS_NAK_CNT r] [] :=
  frame_ite (frame_bump _ (by simp) (frame_refl ..)) (frame_refl ..)

/-- The write is tried again, three times. -/
theorem avsLate_again {s : State} {r rr old m : Nat} {nak : Bool} (h : (s.power.avs.find? fun p => p.1 == r) = some (rr, old, m)) (hm : m < 3) :
    (avsLate s r nak).power.avs.get r (0, 0) = (old, m + 1) ∧ Frame s (avsLate s r nak) [Reg.PWR_AVS_NAK_CNT r] [.power] := by
  let u := nakCounted s r nak
  have heq : avsLate s r nak = { u with power := { u.power with avs := u.power.avs.set r (0, 0) (old, m + 1) } } := by
    unfold avsLate
    rw [h]
    exact if_pos hm
  rw [heq]
  exact ⟨get_set .., frame_power _ (by simp) (frame_mono (frame_nakCounted s r nak) (by simp) (by simp))⟩

/-- The target is taken back after the third. -/
theorem avsLate_given {s : State} {r rr old m : Nat} {nak : Bool} (hr : r < 5) (h : (s.power.avs.find? fun p => p.1 == r) = some (rr, old, m)) (hm : 3 ≤ m) :
    rd (avsLate s r nak) (Reg.PWR_AVS_TARGET r) = old % 1024 ∧ (Room s → Queued s (avsLate s r nak) 0x5006 0) ∧
      Frame s (avsLate s r nak) ([Reg.PWR_AVS_NAK_CNT r, Reg.PWR_AVS_TARGET r] ++ eventRegs) [.power, .events] := by
  let u := nakCounted s r nak
  let v := wr { u with power := { u.power with avs := u.power.avs.erase r } } (Reg.PWR_AVS_TARGET r) old
  have heq : avsLate s r nak = raise v 0x5006 0 := by
    unfold avsLate
    rw [h]
    exact if_neg (by omega)
  have hf : Frame s v [Reg.PWR_AVS_NAK_CNT r, Reg.PWR_AVS_TARGET r] [.power] :=
    frame_wr _ (by simp) (frame_power _ (by simp) (frame_mono (frame_nakCounted s r nak) (by simp) (by simp)))
  have hne : ∀ r < 5, ∀ e ∈ eventFields, (Reg.PWR_AVS_TARGET r).key ≠ e.key := by decide
  rw [heq]
  refine ⟨(rd_raise _ _ _ (hne r hr)).trans (rd_wr ..), fun hroom => ?_, frame_raise _ _ (by simp) (by simp) (frame_mono hf (by simp) (by simp))⟩
  exact queued_raise _ (samePart_of_frame hf (p := .rst) (by simp)) (samePart_of_frame hf (p := .events) (by simp)) hroom (by decide)

/-! ### RES_CLR (R362) -/

/-- The residency registers. -/
def resRegs : List Fld := (List.range 8).map Reg.PWR_RES_MODE_RES ++ (List.range 8).map Reg.PWR_RES_REGION_RES

theorem resClr_effect (s : State) :
    let t := forEach (List.range 8) s fun s i => wr (wr s (Reg.PWR_RES_MODE_RES i) 0) (Reg.PWR_RES_REGION_RES i) 0
    (∀ j < 8, rd t (Reg.PWR_RES_MODE_RES j) = 0 ∧ rd t (Reg.PWR_RES_REGION_RES j) = 0) ∧ Frame s t resRegs [] := by
  intro t
  have hpair : ∀ i < 8, ∀ j < 8, (Reg.PWR_RES_MODE_RES j).key ≠ (Reg.PWR_RES_REGION_RES i).key := by decide
  refine ⟨fun j hj => ?_, frame_forEach (frame_refl ..) fun u i hi hu =>
    frame_wr _ (List.mem_append_right _ (List.mem_map_of_mem hi)) (frame_wr _ (List.mem_append_left _ (List.mem_map_of_mem hi)) hu)⟩
  obtain ⟨u, -, hu⟩ := forEach_at (fun u => (rd u (Reg.PWR_RES_MODE_RES j), rd u (Reg.PWR_RES_REGION_RES j))) (l := List.range 8) (k := j)
    (g := fun s i => wr (wr s (Reg.PWR_RES_MODE_RES i) 0) (Reg.PWR_RES_REGION_RES i) 0) List.nodup_range (List.mem_range.mpr hj) (fun u i hi hne => by
      have hi := List.mem_range.mp hi
      rw [rd_wr_ne _ _ (hpair i hi j hj), rd_wr_ne _ _ (by exact key_ne_word hne (by decide) (by decide)), rd_wr_ne _ _ (by exact key_ne_word hne (by decide) (by decide)),
        rd_wr_ne _ _ (hpair j hj i hi).symm]) s
  refine Prod.mk.inj (hu.trans ?_)
  rw [rd_wr, rd_wr_ne _ _ (hpair j hj j hj), rd_wr]
  rfl

/-! ### A step that comes too late (R354) -/

/-- What a failed domain shows. -/
def domRegs (d : Nat) : List Fld := [Reg.PWR_DOM_FAILED d, Reg.PWR_DOM_STATE d, Reg.PWR_DOM_FAIL_STEP d]

/-- A domain that is marked as failed at step `n`. -/
def failMarked (s : State) (d n : Nat) : State := wr (markFailed s d) (Reg.PWR_DOM_FAIL_STEP d) n

theorem frame_failMarked (s : State) (d n : Nat) : Frame s (failMarked s d n) (domRegs d) [.absent] :=
  frame_wr _ (by simp [domRegs]) (frame_absent _ (by simp) (frame_wr _ (by simp [domRegs]) (frame_wr _ (by simp [domRegs]) (frame_refl ..))))

theorem failMarked_effect (s : State) {d n : Nat} (hn : n < 8) :
    rd (failMarked s d n) (Reg.PWR_DOM_FAILED d) = 1 ∧ rd (failMarked s d n) (Reg.PWR_DOM_STATE d) = domOff ∧ rd (failMarked s d n) (Reg.PWR_DOM_FAIL_STEP d) = n :=
  ⟨(rd_wr_ne _ _ (by exact key_ne (by decide))).trans (markFailed_same s d).1, (rd_wr_ne _ _ (by exact key_ne (by decide))).trans (markFailed_same s d).2,
    (rd_wr ..).trans (Nat.mod_eq_of_lt hn)⟩

/-- A domain beside the essential ones that fails is marked, and its units are absent. -/
theorem failStep_effect {s : State} {d n : Nat} (hd : 8 ≤ d) (hd' : d < 20) (hn : n < 5) (h1 : n ≠ 1) (hf : domFailed s d = false) (hen : domEnabled s d = true)
    (hess : essentialFailed s = false) : let t := failStep s d n
    domFailed t d = true ∧ domState t d = domOff ∧ rd t (Reg.PWR_DOM_FAIL_STEP d) = n ∧ (Room s → Queued s t 0x5004 d) ∧
      Frame s t (domRegs d ++ eventRegs) [.events, .absent] := by
  intro t
  let v := raise (failMarked s d n) 0x5004 d
  have hm := frame_failMarked s d n
  have hframe : Frame s v (domRegs d ++ eventRegs) [.events, .absent] := frame_raise _ _ (by simp) (by simp) (frame_mono hm (by simp) (by simp))
  have hv : failDomain s d n = v := by
    unfold failDomain
    rw [if_neg (by simp [hf, hen])]
    exact if_neg (by omega)
  have hclear : ∀ d < 20, 8 ≤ d → ∀ e < 6, ∀ f ∈ domRegs d ++ eventRegs, (Reg.PWR_DOM_FAILED e).key ≠ f.key ∧ Reg.MODE_STATUS_MODE.key ≠ f.key := by decide
  have hwakes : WakesAs s v := ⟨hframe.1 _ fun f hf' => (hclear d hd' hd 0 (by decide) f hf').2, fun e he => hframe.1 _ fun f hf' => (hclear d hd' hd e he f hf').1⟩
  have ht : t = v := by
    show failStep s d n = v
    unfold failStep
    dsimp only
    rw [if_neg h1, hv, if_neg (by rw [essentialFailed_congr hwakes, hess]; exact Bool.false_ne_true)]
  have hevent : ∀ d < 20, ∀ f ∈ domRegs d, ∀ e ∈ eventFields, f.key ≠ e.key := by decide
  have hrd (f : Fld) (h : f ∈ domRegs d) : rd v f = rd (failMarked s d n) f := rd_raise _ _ _ (hevent d hd' f h)
  obtain ⟨hfail, hoff, hstep⟩ := failMarked_effect s (d := d) (n := n) (by omega)
  rw [ht]
  refine ⟨on_eq_true.mpr ((hrd _ (by simp [domRegs])).trans hfail), (hrd _ (by simp [domRegs])).trans hoff, (hrd _ (by simp [domRegs])).trans hstep,
    fun hroom => ?_, hframe⟩
  exact queued_raise _ (samePart_of_frame hm (p := .rst) (by simp)) (samePart_of_frame hm (p := .events) (by simp)) hroom (by decide)

/-! Sentinel samples (R350, R351) and the causes of a wake (R238, R347, R352). -/

/-! ### The units' paths write the units' registers only -/

/-- The registers below the units' blocks read the same. -/
def LowSame (s t : State) : Prop := ∀ f : Fld, f.key < 0x200000 * 32 → rd t f = rd s f

theorem lowSame_refl (s : State) : LowSame s s := fun _ _ => rfl

theorem lowSame_wr {s t : State} {f : Fld} (v : Nat) (hf : 0x200000 ≤ f.off) (h : LowSame s t) : LowSame s (wr t f v) := by
  refine fun g hg => (rd_wr_ne _ _ fun hk => ?_).trans (h g hg)
  rw [hk] at hg
  unfold Fld.key at hg
  omega

theorem lowSame_forEach {α : Type} {s t : State} {l : List α} {g : State → α → State} (h : LowSame s t) (hg : ∀ u a, LowSame s u → LowSame s (g u a)) :
    LowSame s (forEach l t g) := by
  induction l generalizing t with
  | nil => exact h
  | cons a l ih => exact ih (hg t a h)

theorem lowSame_gateTx {s t : State} (u : Nat) (h : LowSame s t) : LowSame s (gateTx t u) := by
  unfold gateTx
  split
  · exact h
  · refine lowSame_forEach (fun f hf => (rd_modTx ..).trans (lowSame_wr (f := Reg.UNIT_TX_STATUS_GATED u) 1 (Nat.le_add_right_of_le (by decide)) h f hf)) fun x a k => ?_
    exact lowSame_wr _ (Nat.le_add_right_of_le (by decide)) (lowSame_wr _ (Nat.le_add_right_of_le (by decide)) k)

theorem lowSame_gateRx {s t : State} (u : Nat) (h : LowSame s t) : LowSame s (gateRx t u) := by
  unfold gateRx
  split
  · exact h
  · refine fun f hf => (rd_modRx ..).trans ?_
    refine lowSame_wr _ (Nat.le_add_right_of_le (by decide)) (lowSame_wr _ (Nat.le_add_right_of_le (by decide)) (lowSame_wr _ (Nat.le_add_right_of_le (by decide))
      (lowSame_wr _ (Nat.le_add_right_of_le (by decide)) (lowSame_wr _ (Nat.le_add_right_of_le (by decide)) h)))) f hf

theorem lowSame_wakeRx {s t : State} (u : Nat) (h : LowSame s t) : LowSame s (wakeRx t u) := by
  unfold wakeRx
  split
  · exact fun f hf => lowSame_wr (f := Reg.UNIT_RX_STATUS_GATED u) 0 (Nat.le_add_right_of_le (by decide)) h f hf
  · exact h

theorem lowSame_gateRegion (s : State) (g : Nat) : LowSame (setDom s (12 + g) domGated) (gateRegion s g) :=
  lowSame_forEach (lowSame_refl _) fun _ u k => lowSame_gateRx u (lowSame_gateTx u k)

/-! ### The end of a sample -/

theorem setLo_low (s : State) (c st : Nat) {f : Fld} (h : f.key < 0x100000 * 32) : rd (setLo s c st) f = rd s f := by
  unfold setLo
  rw [rd_wr_ne _ _ (by exact (key_ne_fixed (by omega)).symm), rd_wr_ne _ _ (by exact (key_ne_fixed (by omega)).symm)]

theorem modeOf_sampling {s : State} (h : sampling s = true) : modeOf s = mSentinel := by
  unfold sampling at h
  rw [Bool.and_eq_true, beq_iff_eq] at h
  exact h.1

/-- A sample that ends leaves the LO OFF and its tile in RETAIN. -/
theorem endSample_effect {s : State} (h : sampling s = true) (hc : sentCluster s < 16) : let c := sentCluster s
    modeOf (endSample s) = mSentinel ∧ loState (endSample s) c = loOff ∧
      domState (endSample s) (8 + c / 4) = (if domFailed s (8 + c / 4) then domOff else domRetain) := by
  intro c
  refine ⟨(wakesAs_endSample s).1.trans (modeOf_sampling h), ?_⟩
  have heq : endSample s = setDom (gateRegion (setLo s c loOff) (c / 2)) (8 + c / 4) domRetain := if_pos h
  have hlow := lowSame_gateRegion (setLo s c loOff) (c / 2)
  have hlo : loState (setDom (setLo s c loOff) (12 + c / 2) domGated) c = loOff := by
    refine (rd_wr_ne _ _ ?_).trans (loState_setLo s c (by decide)).1
    show (0x100008 + 0x10000 * c) * 32 + 0 ≠ (0x20100 + 0x4 * (12 + c / 2)) * 32 + 0
    omega
  have hfail : domFailed (gateRegion (setLo s c loOff) (c / 2)) (8 + c / 4) = domFailed s (8 + c / 4) := by
    have hkey : (Reg.PWR_DOM_FAILED (8 + c / 4)).key < 0x100000 * 32 := by
      show (0x20100 + 0x4 * (8 + c / 4)) * 32 + 3 < _
      omega
    exact (on_congr (hlow _ (Nat.lt_trans hkey (by decide)))).trans ((domFailed_setDom ..).trans (on_congr (setLo_low s c _ hkey)))
  have hkey : (Reg.CLUSTER_LO_STATUS_STATE c).key < 0x200000 * 32 := by
    show (0x100008 + 0x10000 * c) * 32 + 0 < _
    omega
  rw [heq]
  refine ⟨?_, (domState_setDom _ _ (by decide)).trans (by rw [hfail])⟩
  refine (rd_wr_ne _ _ ?_).trans ((hlow _ hkey).trans hlo)
  show (0x100008 + 0x10000 * c) * 32 + 0 ≠ (0x20100 + 0x4 * (8 + c / 4)) * 32 + 0
  omega

/-! ### The beginning of a sample -/

theorem sgn_code_16 {n : Int} (h : -32768 ≤ n ∧ n < 32768) : sgn 16 (code 16 n) = n := by
  unfold sgn code
  split <;> omega

theorem clipTemp_low {t : Int} (h : t < 1250) : clipTemp t = max (-550) t := by
  unfold clipTemp
  split_ifs <;> omega

/-- A sample below the shutdown threshold is taken, and nothing else comes of it (R338). -/
theorem sleepSample_low (s : State) (i : Nat) {t : Int} (w : Wake) (h : t < 1250) :
    sleepSample s i t w = (wr (wr s (Reg.THERM_SENSOR_TEMP i) (code 16 (max (-550) t))) (Reg.THERM_SENSOR_VALID i) 1, false) := by
  unfold sleepSample
  dsimp only
  rw [clipTemp_low h]
  exact if_neg (by omega)

theorem loSearch_effect (s : State) (c : Nat) : (loState (loSearch s c) c = loLocking ∨ loState (loSearch s c) c = loCal) ∧
    ∀ f : Fld, f.key < 0x100000 * 32 → rd (loSearch s c) f = rd s f := by
  have hst {st : Nat} (h : st < 8) (g : ClusterS → ClusterS) : loState ((setLo s c st).modCluster c g) c = st := (loState_setLo s c h).1
  have hlow (st : Nat) (g : ClusterS → ClusterS) (f : Fld) (hf : f.key < 0x100000 * 32) : rd ((setLo s c st).modCluster c g) f = rd s f := setLo_low s c st hf
  unfold loSearch
  dsimp only
  split
  · exact ⟨.inl (hst (by decide) _), hlow _ _⟩
  · exact ⟨.inr (hst (by decide) _), hlow _ _⟩

/-- A sample that may begin. -/
theorem beginSample_open {s : State} {t : Int} (w : Wake) (hm : modeOf s = mSentinel) (hd : domState s (8 + sentCluster s / 4) = domRetain)
    (hf : domFailed s (12 + sentCluster s / 2) = false) (hp : packageHeld s = false) (ht : t < 1250) : let c := sentCluster s
    let s1 := wr (wr (setDom s (8 + c / 4) domOn) (Reg.THERM_SENSOR_TEMP c) (code 16 (max (-550) t))) (Reg.THERM_SENSOR_VALID c) 1
    LowSame (loSearch (wakeRegion s1 (c / 2)) c) (beginSample s t w) := by
  intro c s1
  unfold beginSample
  dsimp only
  rw [if_pos ⟨hm, hd, by simp [hf], by simp [hp]⟩, sleepSample_low _ _ _ ht]
  rw [if_neg Bool.false_ne_true]
  exact lowSame_forEach (lowSame_refl _) fun x i k => lowSame_wr _ (Nat.le_add_right_of_le (by decide)) (lowSame_wakeRx _ k)

/-- A sample has its tile and its region on, the sensor read, and the LO searched. -/
theorem beginSample_effect {s : State} {t : Int} (w : Wake) (hm : modeOf s = mSentinel) (hd : domState s (8 + sentCluster s / 4) = domRetain)
    (hf8 : domFailed s (8 + sentCluster s / 4) = false) (hf : domFailed s (12 + sentCluster s / 2) = false) (hp : packageHeld s = false)
    (hc : sentCluster s < 16) (ht : t < 1250) (ht' : -32768 ≤ t) : let c := sentCluster s
    let u := beginSample s t w
    domState u (8 + c / 4) = domOn ∧ domState u (12 + c / 2) = domOn ∧ rdI u (Reg.THERM_SENSOR_TEMP c) = max (-550) t ∧
      (loState u c = loLocking ∨ loState u c = loCal) := by
  intro c u
  have hlow := beginSample_open w hm hd hf hp ht
  let s0 := setDom s (8 + c / 4) domOn
  let s1 := wr (wr s0 (Reg.THERM_SENSOR_TEMP c) (code 16 (max (-550) t))) (Reg.THERM_SENSOR_VALID c) 1
  have hs1 (f : Fld) (h : f.key < 0x33100 * 32) : rd s1 f = rd s0 f :=
    (rd_wr_ne _ _ (by exact (key_ne_fixed h).symm)).trans (rd_wr_ne _ _ (by exact (key_ne_fixed h).symm))
  obtain ⟨hlo, hsearch⟩ := loSearch_effect (wakeRegion s1 (c / 2)) c
  have hu (f : Fld) (h : f.key < 0x100000 * 32) : rd u f = rd (setDom s1 (12 + c / 2) domOn) f :=
    (hlow f (Nat.lt_trans h (by decide))).trans (hsearch f h)
  have hdom (d : Nat) (h : d < 64) : (Reg.PWR_DOM_STATE d).key < 0x33100 * 32 := by
    show (0x20100 + 0x4 * d) * 32 + 0 < _
    omega
  have hfail : domFailed s1 (12 + c / 2) = false := by
    refine (on_congr (hs1 _ ?_)).trans ((domFailed_setDom ..).trans hf)
    show (0x20100 + 0x4 * (12 + c / 2)) * 32 + 3 < _
    omega
  refine ⟨(hu _ (Nat.lt_trans (hdom _ (by omega)) (by decide))).trans ?_, (hu _ (Nat.lt_trans (hdom _ (by omega)) (by decide))).trans ?_, ?_, ?_⟩
  · refine (domState_setDom_ne s1 _ (by omega)).trans ((hs1 _ (hdom _ (by omega))).trans ((domState_setDom s _ (by decide)).trans ?_))
    rw [hf8]
    rfl
  · refine (domState_setDom s1 _ (by decide)).trans ?_
    rw [hfail]
    rfl
  · have hk : (Reg.THERM_SENSOR_TEMP c).key < 0x100000 * 32 := by
      show (0x33100 + 0x4 * c) * 32 + 0 < _
      omega
    have hne : (Reg.THERM_SENSOR_TEMP c).key ≠ (Reg.PWR_DOM_STATE (12 + c / 2)).key := by
      show (0x33100 + 0x4 * c) * 32 + 0 ≠ (0x20100 + 0x4 * (12 + c / 2)) * 32 + 0
      omega
    have hr : rd u (Reg.THERM_SENSOR_TEMP c) = code 16 (max (-550) t) % 2 ^ 16 :=
      (hu _ hk).trans ((rd_wr_ne _ _ hne).trans ((rd_wr_ne _ _ (by exact key_ne (by decide))).trans (rd_wr ..)))
    unfold rdI
    rw [hr, Nat.mod_eq_of_lt (code_lt 16 _)]
    exact sgn_code_16 (by omega)
  · have hk : (Reg.CLUSTER_LO_STATUS_STATE c).key < 0x200000 * 32 := by
      show (0x100008 + 0x10000 * c) * 32 + 0 < _
      omega
    exact hlo.imp ((hlow _ hk).trans ·) ((hlow _ hk).trans ·)

theorem beginSample_stays {s : State} {t : Int} (w : Wake) (h : modeOf s ≠ mSentinel ∨ domState s (8 + sentCluster s / 4) ≠ domRetain ∨
    domFailed s (12 + sentCluster s / 2) = true ∨ packageHeld s = true) : beginSample s t w = s := by
  refine if_neg fun ⟨k1, k2, k3, k4⟩ => ?_
  rcases h with h | h | h | h
  · exact h k1
  · exact h k2
  · simp [h] at k3
  · simp [h] at k4

/-! What wakes the device from SENTINEL and BRUMATE (R238, R347, R351, R352). -/

/-- A wake that may be granted: no step fails, and the essential domains are up. -/
def Wakes (s : State) (w : Wake) : Prop := w.fails = [] ∧ essentialFailed s = false

/-- A wake from a sleep mode whose self-tests pass where they run. -/
theorem wakeUp_sleeping {s t : State} {w : Wake} (cause : Nat) (hs : sleeping s = true) (hw : Wakes s w) (h : WakesAs s t)
    (ht : modeOf s = mBrumate → w.testsOk = true) : Awake (wakeUp t cause w) :=
  wakeUp_awake cause hw.1 (h.1.symm ▸ (sleeping_cases hs).1) (fun hm => ht (h.1 ▸ hm)) ((essentialFailed_congr h).trans hw.2)

theorem wakesAs_raise (s : State) (c a : Nat) : WakesAs s (raise s c a) := wakesAs_of_spares (spares_raise (spares_refl s))

/-- A schedule entry that acts after a wake leaves the device awake. -/
theorem awake_scheduleAct {s : State} (i : Nat) (h : Awake s) : Awake (scheduleAct s i) :=
  ⟨((keeps_scheduleAct (w₀ := 4194312) (keeps_refl _ s) rfl).mode rfl).trans h.1, (snap_scheduleAct s i).trans h.2⟩

/-! ### The end of a sample's window -/

theorem windowEnd_stays {s : State} (nows : List (List (BitVec 8 × Bool))) (w : Wake) (h : sampling s = false) : exec (.sentinelWindowEnd nows w) s = .next s :=
  congrArg Host.Outcome.next (if_neg (ne_of_eq_of_ne h Bool.false_ne_true))

theorem windowEnd_none {s : State} {nows : List (List (BitVec 8 × Bool))} (w : Wake) (h : sampling s = true)
    (hd : loState s (sentCluster s) ≠ loLocked ∨ detected s nows = none) : exec (.sentinelWindowEnd nows w) s = .next (endSample s) := by
  refine congrArg Host.Outcome.next ((if_pos h).trans ?_)
  rcases hd with hd | hd
  · rw [show (loState s (sentCluster s) == loLocked) = false from beq_eq_false_iff_ne.mpr hd]
  · rw [hd]
    cases loState s (sentCluster s) == loLocked <;> rfl

theorem windowEnd_detects {s : State} {nows : List (List (BitVec 8 × Bool))} {w : Wake} (h : sampling s = true) (hs : sleeping s = true)
    (hlo : loState s (sentCluster s) = loLocked) (hd : (detected s nows).isSome = true) (hw : Wakes s w) : Gives (.sentinelWindowEnd nows w) s Awake := by
  obtain ⟨u, hu⟩ := Option.isSome_iff_exists.mp hd
  refine gives_next rfl ((if_pos h).trans ?_) (wakeUp_sleeping (t := raise (endSample s) 0x5008 u) 3 hs hw ?_ ?_)
  · rw [hlo, hu]
    rfl
  · exact wakesAs_trans (wakesAs_endSample s) (wakesAs_raise ..)
  · intro hb
    exact absurd ((modeOf_sampling h).symm.trans hb) (by decide)

/-! ### Pattern, pin and timers -/

theorem linkWakePattern_wakes {s : State} {w : Wake} (hs : sleeping s = true) (hw : Wakes s w) (ht : w.testsOk = true) : Gives (.linkWakePattern w) s Awake :=
  gives_next rfl (if_pos hs) (wakeUp_sleeping 4 hs hw (wakesAs_endSample s) fun _ => ht)

theorem wakePin_wakes {s : State} {w : Wake} (hs : sleeping s = true) (hw : Wakes s w) (ht : w.testsOk = true) (hm : modeOf s = mBrumate)
    (hp : on s Reg.PWR_BRUM_WAKE_PIN_EN = true) : Gives (.wakePin w) s Awake :=
  gives_next rfl (if_pos ⟨hs, hm, hp⟩) (wakeUp_sleeping 5 hs hw ⟨rfl, fun _ _ => rfl⟩ fun _ => ht)

theorem brumTimer_wakes {s : State} {w : Wake} (hs : sleeping s = true) (hw : Wakes s w) (ht : w.testsOk = true) (hm : modeOf s = mBrumate)
    (hb : rd s Reg.PWR_BRUM_BRUM_TIMER ≠ 0) : Gives (.aonTimer none w) s Awake :=
  gives_next rfl (if_pos ⟨hs, hm, hb⟩) (wakeUp_sleeping 6 hs hw ⟨rfl, fun _ _ => rfl⟩ fun _ => ht)

theorem entryTimer_wakes {s : State} {w : Wake} {ix : BitVec 16} (hs : sleeping s = true) (hw : Wakes s w) (ht : w.testsOk = true)
    (hk : scheduleWakes s ix.toNat = true) : Gives (.aonTimer (some ix) w) s Awake := by
  have ha := wakeUp_sleeping 6 hs hw (wakesAs_endSample s) fun _ => ht
  refine gives_next rfl ((if_pos (by rw [hs, hk]; rfl)).trans (if_pos ha.1)) (awake_scheduleAct _ ha)

theorem linkWakePattern_stays {s : State} (w : Wake) (h : sleeping s = false) : exec (.linkWakePattern w) s = .next s :=
  congrArg Host.Outcome.next (if_neg (ne_of_eq_of_ne h Bool.false_ne_true))

theorem wakePin_stays {s : State} (w : Wake) (h : sleeping s = false ∨ modeOf s ≠ mBrumate ∨ on s Reg.PWR_BRUM_WAKE_PIN_EN = false) :
    exec (.wakePin w) s = .next s := by
  refine congrArg Host.Outcome.next (if_neg fun ⟨k1, k2, k3⟩ => ?_)
  rcases h with h | h | h
  · exact Bool.false_ne_true (h.symm.trans k1)
  · exact h k2
  · exact Bool.false_ne_true (h.symm.trans k3)

theorem brumTimer_stays {s : State} (w : Wake) (h : sleeping s = false ∨ modeOf s ≠ mBrumate ∨ rd s Reg.PWR_BRUM_BRUM_TIMER = 0) :
    exec (.aonTimer none w) s = .next s := by
  refine congrArg Host.Outcome.next (if_neg fun ⟨k1, k2, k3⟩ => ?_)
  rcases h with h | h | h
  · exact Bool.false_ne_true (h.symm.trans k1)
  · exact h k2
  · exact k3 h

theorem entryTimer_stays {s : State} (w : Wake) {ix : BitVec 16} (h : sleeping s = false ∨ scheduleWakes s ix.toNat = false) :
    exec (.aonTimer (some ix) w) s = .next s := by
  refine congrArg Host.Outcome.next (if_neg fun k => ?_)
  rw [Bool.and_eq_true] at k
  rcases h with h | h
  · exact Bool.false_ne_true (h.symm.trans k.1)
  · exact Bool.false_ne_true (h.symm.trans k.2)

/-! The supply stages (R359, R360). -/

/-! ### The freeze of the adaptation -/

/-- Every region's freeze by stage 2 takes the value of the loop that writes it. -/
theorem rd_frozen_forEach (l : List Nat) (s : State) {g v : Nat} (hg : g ∈ l) (hv : v < 2) :
    rd (forEach l s fun s g => wr s (Reg.REGION_ADAPT_STATUS_FROZEN_S2 g) v) (Reg.REGION_ADAPT_STATUS_FROZEN_S2 g) = v := by
  have hset (u : State) : rd (wr u (Reg.REGION_ADAPT_STATUS_FROZEN_S2 g) v) (Reg.REGION_ADAPT_STATUS_FROZEN_S2 g) = v := (rd_wr ..).trans (Nat.mod_eq_of_lt hv)
  refine forEach_of_mem (k := g) (P := fun u => rd u (Reg.REGION_ADAPT_STATUS_FROZEN_S2 g) = v) hset (fun u a hu => ?_) s (.inl hg)
  by_cases h : a = g
  · rw [h]
    exact hset u
  · refine (rd_wr_ne _ _ ?_).trans hu
    show (0x300004 + 0x10000 * g) * 32 + 0 ≠ (0x300004 + 0x10000 * a) * 32 + 0
    omega

theorem rd_frozen_forEach_ne (l : List Nat) (s : State) (v : Nat) {f : Fld} (hf : f.key < 0x300000 * 32) :
    rd (forEach l s fun s g => wr s (Reg.REGION_ADAPT_STATUS_FROZEN_S2 g) v) f = rd s f :=
  forEach_same (fun u => rd u f) (fun u g _ => rd_wr_ne _ _ (by exact (key_ne_fixed (by omega)).symm)) s

theorem enabledRegions_congr {s t : State} (h : t.fuse.grade = s.fuse.grade) : enabledRegions t = enabledRegions s := by
  unfold enabledRegions
  rw [h]

theorem frozen_spared {g : Nat} (h : g < 8) : Reg.REGION_ADAPT_STATUS_FROZEN_S2 g ∈ spared := by
  have : ∀ g < 8, Reg.REGION_ADAPT_STATUS_FROZEN_S2 g ∈ spared := by decide
  exact this g h

/-! ### The actions of a stage -/

/-- The stage and the mode read the same. -/
def ShowsSame (s t : State) : Prop := stageOf t = stageOf s ∧ modeOf t = modeOf s

theorem showsSame_trans {s t u : State} (h : ShowsSame s t) (k : ShowsSame t u) : ShowsSame s u := ⟨k.1.trans h.1, k.2.trans h.2⟩

theorem showsSame_of_spares {s t : State} (h : Spares s t) : ShowsSame s t :=
  ⟨h.rd (f := Reg.PWR_STATUS_STAGE) (by decide), h.rd (f := Reg.MODE_STATUS_MODE) (by decide)⟩

theorem showsSame_frozen (l : List Nat) (s : State) (v : Nat) : ShowsSame s (forEach l s fun s g => wr s (Reg.REGION_ADAPT_STATUS_FROZEN_S2 g) v) :=
  ⟨rd_frozen_forEach_ne l s v (by decide), rd_frozen_forEach_ne l s v (by decide)⟩

theorem showsSame_stageAction (s : State) (k : Nat) (acked : Bool) : ShowsSame s (stageAction s k acked) := by
  by_cases h : k = 2
  · rw [h]
    have h1 : ShowsSame s (capStopAll (closeVote s) fun n => n == 15) := showsSame_of_spares (spares_capStopAll (spares_closeVote (spares_refl s)))
    exact showsSame_trans (showsSame_trans h1 (showsSame_frozen ..)) (showsSame_of_spares (spares_stageTwo s acked))
  · exact showsSame_of_spares (spares_stageAction h)

theorem grade_stageAction (s : State) (k : Nat) (acked : Bool) : (stageAction s k acked).fuse.grade = s.fuse.grade :=
  (keeps_stageAction (w₀ := 13045064) (keeps_refl _ s) rfl).grade

/-- The adaptation of every region is frozen by stage 2. -/
def AllFrozen (s : State) : Prop := ∀ g ∈ enabledRegions s, rd s (Reg.REGION_ADAPT_STATUS_FROZEN_S2 g) = 1

theorem allFrozen_stageTwo (s : State) (acked : Bool) : AllFrozen (stageAction s 2 acked) := by
  intro g hg
  let x := capStopAll (closeVote s) fun n => n == 15
  have hx : x.fuse.grade = s.fuse.grade := (keeps_capStopAll (w₀ := 16777215) (keeps_closeVote (keeps_refl _ s) rfl) rfl).grade
  rw [enabledRegions_congr ((grade_stageAction s 2 acked).trans hx.symm)] at hg
  exact ((spares_stageTwo s acked).rd (frozen_spared (lt_eight_of_enabled hg))).trans (rd_frozen_forEach _ _ hg (by decide))

theorem allFrozen_stageAction {s : State} (k : Nat) (acked : Bool) (h : AllFrozen s) : AllFrozen (stageAction s k acked) := by
  by_cases hk : k = 2
  · rw [hk]
    exact allFrozen_stageTwo s acked
  · intro g hg
    rw [enabledRegions_congr (grade_stageAction s k acked)] at hg
    exact ((spares_stageAction hk).rd (frozen_spared (lt_eight_of_enabled hg))).trans (h g hg)

/-! ### Entry -/

/-- The stage is shown before its actions. -/
def stageShown (s : State) (k rail : Nat) : State := raise (wr s Reg.PWR_STATUS_STAGE k) 0x5001 (k + 256 * rail)

theorem stageEnter_eq {s : State} {k : Nat} (rail : Nat) (acked : Bool) (h : stageOf s < k) : stageEnter s k rail acked =
    forEach ((List.range (k - stageOf s)).map (stageOf s + 1 + ·)) (stageShown s k rail) fun s j => stageAction s j acked :=
  if_neg (by omega)

theorem stageShown_effect (s : State) {k : Nat} (rail : Nat) (h : k < 8) : stageOf (stageShown s k rail) = k ∧ modeOf (stageShown s k rail) = modeOf s :=
  ⟨(rd_raise _ _ _ (by decide)).trans ((rd_wr ..).trans (Nat.mod_eq_of_lt h)), (rd_raise _ _ _ (by decide)).trans (rd_wr_ne _ _ (by decide))⟩

theorem stageEnter_effect {s : State} {k : Nat} (rail : Nat) (acked : Bool) (h : stageOf s < k) (hk : k < 6) : let t := stageEnter s k rail acked
    stageOf t = k ∧ modeOf t = modeOf s ∧ (stageOf s < 2 → 2 ≤ k → ∀ g ∈ enabledRegions s, rd t (Reg.REGION_ADAPT_STATUS_FROZEN_S2 g) = 1) := by
  intro t
  obtain ⟨h1, h2⟩ := stageShown_effect s (k := k) rail (by omega)
  have ht : t = _ := stageEnter_eq rail acked h
  let l := (List.range (k - stageOf s)).map (stageOf s + 1 + ·)
  have hshow : ShowsSame (stageShown s k rail) t := by
    rw [ht]
    have hst := forEach_same stageOf (g := fun s j => stageAction s j acked) (l := l) (fun u j _ => (showsSame_stageAction u j acked).1) (stageShown s k rail)
    have hmo := forEach_same modeOf (g := fun s j => stageAction s j acked) (l := l) (fun u j _ => (showsSame_stageAction u j acked).2) (stageShown s k rail)
    exact ⟨hst, hmo⟩
  refine ⟨hshow.1.trans h1, hshow.2.trans h2, fun hlow hhigh g hg => ?_⟩
  have hmem : 2 ∈ l := List.mem_map.mpr ⟨1 - stageOf s, List.mem_range.mpr (by omega), by omega⟩
  have hall : AllFrozen t := by
    rw [ht]
    exact forEach_of_mem (P := AllFrozen) (g := fun s j => stageAction s j acked) (fun u => allFrozen_stageTwo u acked)
      (fun u j hu => allFrozen_stageAction j acked hu) (stageShown s k rail) (.inl hmem)
  have hgrade : t.fuse.grade = s.fuse.grade := by
    rw [ht]
    refine (forEach_same (fun u => u.fuse.grade) (fun u j _ => grade_stageAction u j acked) (stageShown s k rail)).trans ?_
    exact (keeps_raise (w₀ := 8) (keeps_refl _ _) rfl).grade.trans (by simp)
  exact hall g (by rwa [enabledRegions_congr hgrade])

/-! The restore of a supply stage (R360). -/

theorem spares_biasRestore {s₀ s : State} (h : Spares s₀ s) : Spares s₀ (biasRestore s) :=
  spares_biasAll (spares_forEach h fun _ _ k => spares_ite k (spares_State_modBias k))

theorem spares_enterRun {s₀ s : State} {n : Nat} (h : Spares s₀ s) (hn : n < 16) : Spares s₀ (enterRun s n) :=
  spares_mk rfl (spares_wr h (clear_between (by with_unfolding_all show 0x20114 < _ + _ ∧ _ + _ < 0xB0000; omega) (of_decide_eq_true rfl)))

theorem spares_dmaDomainUp {s₀ s : State} {f : Nat → Bool} (h : Spares s₀ s) : Spares s₀ (dmaDomainUp s f) :=
  spares_forEach_mem h fun _ _ hn k => spares_ite (spares_ite (spares_enterRun (spares_mk rfl k) (List.mem_range.mp hn)) (spares_mk rfl k)) k

/-! ### The cores after the fall-back -/

/-- A core leaves the fall-back. -/
def fallUp (s : State) (g : Nat) : State :=
  let s1 := wr (s.modNewt g fun x => { x with fallReq := false }) (Reg.NEWT_STATUS_FALLBACK g) 0
  if uState s1 g = uSuspended then setU s1 g uRunning else s1

theorem leaveFallback_eq (s : State) : leaveFallback s = forEach (enabledRegions s) s fallUp := rfl

theorem spares_fallUp {s₀ s : State} {g : Nat} (h : Spares s₀ s) : Spares s₀ (fallUp s g) :=
  have h1 : Spares s₀ (wr (s.modNewt g fun x => { x with fallReq := false }) (Reg.NEWT_STATUS_FALLBACK g) 0) := spares_wr (spares_State_modNewt h)
  spares_ite (spares_setU h1) h1

theorem fallback_fallUp (s : State) (g : Nat) : fallback (fallUp s g) g = false := by
  let s1 := wr (s.modNewt g fun x => { x with fallReq := false }) (Reg.NEWT_STATUS_FALLBACK g) 0
  have h1 : rd s1 (Reg.NEWT_STATUS_FALLBACK g) = 0 := rd_wr ..
  have h : rd (fallUp s g) (Reg.NEWT_STATUS_FALLBACK g) = 0 := by
    show rd (if uState s1 g = uSuspended then setU s1 g uRunning else s1) _ = 0
    split
    · exact (rd_wr_ne s1 _ (key_ne (by decide))).trans h1
    · exact h1
  unfold fallback on
  rw [h]
  rfl

theorem fallback_fallUp_ne (s : State) {g a : Nat} (h : g ≠ a) : fallback (fallUp s a) g = fallback s g := by
  have hkey {i j v w x y : Nat} {p q : Acc} (hi : i < 32) (hj : j < 32) : Fld.key ⟨0x840000 + 0x100000 * g, i, v, p, .L, x⟩ ≠
      Fld.key ⟨0x840000 + 0x100000 * a, j, w, q, .L, y⟩ := key_ne_tile (k := 0) h rfl (by decide) (by decide) (by decide) hi hj
  let s1 := wr (s.modNewt a fun x => { x with fallReq := false }) (Reg.NEWT_STATUS_FALLBACK a) 0
  have h1 : fallback s1 g = fallback s g := on_congr (rd_wr_ne (s.modNewt a _) 0 (hkey (by decide) (by decide)))
  show fallback (if uState s1 a = uSuspended then setU s1 a uRunning else s1) g = _
  split
  · exact (on_congr (rd_wr_ne s1 _ (hkey (by decide) (by decide)))).trans h1
  · exact h1

theorem fallback_leaveFallback {s : State} {g : Nat} (hg : g ∈ enabledRegions s) : fallback (leaveFallback s) g = false := by
  rw [leaveFallback_eq]
  refine forEach_of_mem (k := g) (P := fun u => fallback u g = false) (fun u => fallback_fallUp u g) (fun u a hu => ?_) s (.inl hg)
  by_cases h : a = g
  · rw [h]
    exact fallback_fallUp u g
  · exact (fallback_fallUp_ne u (Ne.symm h)).trans hu

/-! ### The next shallower stage -/

/-- The shallower stage is shown before what it brings back. -/
def stageBack (s : State) : State := raise (wr s Reg.PWR_STATUS_STAGE (stageOf s - 1)) 0x5002 (stageOf s + 0xF00)

theorem stageBack_effect {s : State} (h : stageOf s ≤ 5) : stageOf (stageBack s) = stageOf s - 1 ∧ modeOf (stageBack s) = modeOf s ∧
    (Room s → Queued s (stageBack s) 0x5002 (stageOf s + 0xF00)) ∧ Frame s (stageBack s) (Reg.PWR_STATUS_STAGE :: eventRegs) [.events] :=
  ⟨(rd_raise _ _ _ (by decide)).trans ((rd_wr ..).trans (Nat.mod_eq_of_lt (Nat.lt_of_le_of_lt (Nat.sub_le ..) (show stageOf s < 8 by omega)))),
    (rd_raise _ _ _ (by decide)).trans (rd_wr_ne _ _ (by decide)), fun hroom => queued_raise _ (wr_rst ..) (wr_events ..) hroom (by decide),
    frame_raise _ _ (by simp) (by simp) (frame_wr _ (by simp) (frame_refl ..))⟩

/-- What stage 2's restore brings back before the adaptation goes on. -/
def memBack (s : State) : State := if domState s 2 = domSelfRefresh then memRefresh (setDom s 2 domOn) false else s

/-- The adaptation is free again. -/
def thawed (s : State) : State := forEach (enabledRegions s) s fun s g => wr s (Reg.REGION_ADAPT_STATUS_FROZEN_S2 g) 0

theorem stageRestore_four {s : State} (h : stageOf s = 4) :
    stageRestore s = biasRestore (forEach (enabledUnits (stageBack s)) (stageBack s) fun s u => dropCause s u 7) := by
  unfold stageRestore
  dsimp only
  rw [if_neg (by omega), if_pos h]
  rfl

theorem stageRestore_two {s : State} (h : stageOf s = 2) : stageRestore s = dmaDomainUp (leaveFallback (thawed (memBack (stageBack s)))) inDie := by
  unfold stageRestore
  dsimp only
  rw [if_neg (by omega), if_neg (by omega), if_pos h]
  rfl

theorem stageRestore_other {s : State} (h0 : stageOf s ≠ 0) (h2 : stageOf s ≠ 2) (h4 : stageOf s ≠ 4) : stageRestore s = stageBack s := by
  unfold stageRestore
  dsimp only
  rw [if_neg h0, if_neg h4, if_neg h2]
  rfl

theorem stageRestore_idle {s : State} (h : stageOf s = 0) : stageRestore s = s := if_pos h

theorem spares_memBack (s : State) : Spares s (memBack s) := spares_ite (spares_memRefresh (spares_setDom (spares_refl s) (by decide))) (spares_refl s)

theorem spares_leaveFallback (s : State) : Spares s (leaveFallback s) := spares_forEach (spares_refl s) fun _ _ => spares_fallUp

/-- Stage 2's restore ends the freeze and the fall-back. -/
theorem stageRestore_two_effect {s : State} (h : stageOf s = 2) : ShowsSame (stageBack s) (stageRestore s) ∧
    ∀ g ∈ enabledRegions s, rd (stageRestore s) (Reg.REGION_ADAPT_STATUS_FROZEN_S2 g) = 0 ∧ fallback (stageRestore s) g = false := by
  rw [stageRestore_two h]
  let x := memBack (stageBack s)
  have hx : ShowsSame (stageBack s) x := showsSame_of_spares (spares_memBack _)
  have hup : Spares (thawed x) (dmaDomainUp (leaveFallback (thawed x)) inDie) := spares_dmaDomainUp (spares_leaveFallback _)
  refine ⟨showsSame_trans (showsSame_trans hx (showsSame_frozen ..)) (showsSame_of_spares hup), fun g hg => ?_⟩
  have hlt := lt_eight_of_enabled hg
  have hback : (stageBack s).fuse.grade = s.fuse.grade := (keeps_raise (w₀ := 8) (keeps_refl _ _) rfl).grade.trans (by simp)
  have hgx : x.fuse.grade = s.fuse.grade :=
    (keeps_ite (m := 0) (keeps_memRefresh (keeps_setDom (keeps_refl _ _))) (keeps_refl _ (stageBack s)) : Keeps 0 (stageBack s) x).grade.trans hback
  have hgt : (thawed x).fuse.grade = x.fuse.grade := forEach_same (fun u => u.fuse.grade) (fun u a _ => congrArg Fuses.grade (wr_fuse ..)) x
  have hgx' : g ∈ enabledRegions x := by rwa [enabledRegions_congr hgx]
  refine ⟨(hup.rd (frozen_spared hlt)).trans (rd_frozen_forEach _ _ hgx' (by decide)), ?_⟩
  have hne : ∀ g < 8, ∀ e ∈ (List.range 16).map Reg.DMA_CH_STATUS_STATE, (Reg.NEWT_STATUS_FALLBACK g).key ≠ e.key := by decide
  exact (on_congr ((frame_dmaDomainUp _ inDie).1 _ (hne g hlt))).trans (fallback_leaveFallback (by rwa [enabledRegions_congr hgt]))

theorem stageRestore_effect {s : State} (h0 : 0 < stageOf s) (h5 : stageOf s ≤ 5) : stageOf (stageRestore s) = stageOf s - 1 ∧ modeOf (stageRestore s) = modeOf s := by
  obtain ⟨h1, h2, -, -⟩ := stageBack_effect h5
  have hshow : ShowsSame (stageBack s) (stageRestore s) := by
    by_cases k4 : stageOf s = 4
    · rw [stageRestore_four k4]
      exact showsSame_of_spares (spares_biasRestore (spares_forEach (spares_refl _) fun _ _ => spares_dropCause))
    · by_cases k2 : stageOf s = 2
      · exact (stageRestore_two_effect k2).1
      · rw [stageRestore_other (by omega) k2 k4]
        exact ⟨rfl, rfl⟩
  exact ⟨hshow.1.trans h1, hshow.2.trans h2⟩

/-! The clock monitor (R29). -/

/-- A clock that is good, or was known to be bad, is recorded alone. -/
theorem judgeClock_good (s : State) (k : Nat) : judgeClock s k true = setClock s k false := by
  unfold judgeClock
  dsimp only
  rw [Bool.or_true]
  exact if_pos rfl

theorem mem_setClock {s : State} {k j : Nat} (h : j ≠ k) : j ∈ (setClock s k false).rst.badClocks ↔ j ∈ s.rst.badClocks := by
  unfold setClock
  simp [h]

theorem not_mem_setClock (s : State) (k : Nat) : k ∉ (setClock s k false).rst.badClocks := by
  unfold setClock
  simp

theorem mem_setClock_bad (s : State) (k : Nat) : k ∈ (setClock s k true).rst.badClocks := by
  unfold setClock
  simp

/-- The judgement of REF, which has no nominal count under CLKSEL 0b11. -/
def refJudged (s : State) (ref : BitVec 16) : State := if refNominal s = 0 then s else judgeClock s 0 (clockGood (refNominal s) ref.toNat)

theorem clockWindow_next {s : State} (ref : BitVec 16) {core sec : BitVec 16} (hsec : clockGood 40000 sec.toNat = true) :
    exec (.clockMonitorWindow ref core sec) s = .next (judgeClock (setClock (refJudged s ref) 2 false) 1 (clockGood 320000 core.toNat)) := by
  rw [← judgeClock_good, ← hsec]
  rfl

/-- Good clocks are recorded as good, and nothing else comes of them. -/
theorem clockWindow_good {s : State} {ref core sec : BitVec 16} (h0 : refNominal s ≠ 0) (href : clockGood (refNominal s) ref.toNat = true)
    (hcore : clockGood 320000 core.toNat = true) (hsec : clockGood 40000 sec.toNat = true) : Gives (.clockMonitorWindow ref core sec) s fun t =>
      (∀ j < 3, j ∉ t.rst.badClocks) ∧ modeOf t = modeOf s := by
  have hj : refJudged s ref = setClock s 0 false := by
    unfold refJudged
    rw [if_neg h0, href]
    exact judgeClock_good s 0
  refine gives_next (t := setClock (setClock (setClock s 0 false) 2 false) 1 false) (clockWindow_next ref hsec) (by rw [hj, hcore, judgeClock_good]) ⟨fun j hj => ?_, rfl⟩
  have hcase : j = 0 ∨ j = 1 ∨ j = 2 := by omega
  rcases hcase with rfl | rfl | rfl
  · rw [mem_setClock (by decide), mem_setClock (by decide)]
    exact not_mem_setClock s 0
  · exact not_mem_setClock _ 1
  · rw [mem_setClock (by decide)]
    exact not_mem_setClock _ 2

/-- CORE is found bad: the block resets. -/
theorem judgeClock_core {s : State} (h : 1 ∉ s.rst.badClocks) : judgeClock s 1 false = sourceOn (setClock s 1 true) 3 := by
  unfold judgeClock
  dsimp only
  rw [decide_eq_false h]
  exact (if_neg (by decide)).trans ((if_neg (by decide)).trans (if_pos rfl))

/-- CORE that fails resets the package. -/
theorem clockWindow_core {s : State} {ref core sec : BitVec 16} (hsec : clockGood 40000 sec.toNat = true) (hcore : clockGood 320000 core.toNat = false)
    (h1 : 1 ∉ s.rst.badClocks) (href : clockGood (refNominal s) ref.toNat = true) (hp : s.rst.mtpPulse = false) :
    Gives (.clockMonitorWindow ref core sec) s fun t => packageHeld t = true ∧ modeOf t = mBoot := by
  have hj : (refJudged s ref = s ∨ refJudged s ref = setClock s 0 false) := by
    unfold refJudged
    split
    · exact .inl rfl
    · rw [href]
      exact .inr (judgeClock_good s 0)
  have hbad : 1 ∉ (setClock (refJudged s ref) 2 false).rst.badClocks := by
    rw [mem_setClock (by decide)]
    rcases hj with h | h <;> rw [h]
    · exact h1
    · rwa [mem_setClock (by decide)]
  have hpulse : (setClock (setClock (refJudged s ref) 2 false) 1 true).rst.mtpPulse = false := by
    rcases hj with h | h <;> rw [h] <;> exact hp
  obtain ⟨-, hheld, hmode, -⟩ := sourceOn_effect (src := 3) (.inl rfl) (by decide) hpulse
  exact gives_next (clockWindow_next ref hsec) (by rw [hcore]; exact judgeClock_core hbad) ⟨hheld, hmode⟩

theorem modeOf_enterSafe {s : State} (code : Nat) (hp : packageHeld s = false) : modeOf (enterSafe s code) = mSafe := by
  let v : State := { s with boot := { s.boot with safe := if code ∈ s.boot.safe then s.boot.safe else s.boot.safe ++ [code] } }
  let u : State := { endSleep v with power := { (endSleep v).power with snap := none } }
  have he : enterSafe s code = if modeOf v = mSafe then v else finishMode u mSafe 7 := if_neg (ne_of_eq_of_ne hp Bool.false_ne_true)
  rw [he]
  split
  · assumption
  · exact modeOf_finishMode u _ (by decide)

/-- REF that fails takes the device into SAFE on the backup clock. -/
theorem clockWindow_ref {s : State} {ref core sec : BitVec 16} (h0 : refNominal s ≠ 0) (href : clockGood (refNominal s) ref.toNat = false)
    (hbad : 0 ∉ s.rst.badClocks) (hp : packageHeld s = false) (hcore : clockGood 320000 core.toNat = true) (hsec : clockGood 40000 sec.toNat = true) :
    Gives (.clockMonitorWindow ref core sec) s fun t => modeOf t = mSafe ∧ 0 ∈ t.rst.badClocks := by
  let u := linkBackup (setClock s 0 true)
  have hu : u.rst = (setClock s 0 true).rst := (keeps_linkBackup (w₀ := 8405016) (keeps_refl _ (setClock s 0 true)) rfl).part .rst rfl
  let v := raise u 0xF001 0
  have hv : v.rst = (setClock s 0 true).rst := (raise_rst ..).trans hu
  have hheld : packageHeld v = false := (packageHeld_congr (s := setClock s 0 true) hv).trans (by simpa [packageHeld, setClock] using hp)
  have hj : refJudged s ref = enterSafe v 0xF001 := by
    unfold refJudged judgeClock
    rw [if_neg h0, href, decide_eq_false hbad]
    rfl
  have hrst : (enterSafe v 0xF001).rst = (setClock s 0 true).rst :=
    ((keeps_enterSafe (w₀ := 64318969) (keeps_refl _ v) rfl).part .rst rfl : SamePart v (enterSafe v 0xF001) .rst).trans hv
  refine gives_next (t := setClock (setClock (enterSafe v 0xF001) 2 false) 1 false) (clockWindow_next ref hsec) (by rw [hj, hcore, judgeClock_good])
    ⟨modeOf_enterSafe 0xF001 hheld, ?_⟩
  rw [mem_setClock (by decide), mem_setClock (by decide), hrst]
  exact mem_setClock_bad s 0

/-! Power, sleep and supply (chapter 16). -/

/-! ### The commands by the state they meet -/

theorem voterAnswer_fails {s : State} {v : Nat} (hv : voting s = true) (ha : s.power.accepted.contains v = false) (hr : voterRefuses s v = true) :
    voterAnswer s v = failVote s (2 ^ v) := by
  rw [voterAnswer_open hv ha, if_pos hr]

/-- Only BROWNOUT acts in a sleep mode, and no stage is entered that is not deeper. -/
theorem supplyEnter_stays {s : State} {st : Fin 7} {rail : Fin 11} {ack : Bool} (hst : st.val < 6)
    (h : packageHeld s = true ∨ modeOf s = mSentinel ∨ modeOf s = mBrumate ∨ st.val ≤ stageOf s) : exec (.supplyStageEnter st rail ack) s = .next s := by
  refine congrArg Host.Outcome.next ((if_neg (by omega)).trans ?_)
  split
  · rfl
  · next hno =>
    rcases h with h | h | h | h
    · exact absurd (.inl h) hno
    · exact absurd (.inr (.inl h)) hno
    · exact absurd (.inr (.inr h)) hno
    · exact if_pos h

theorem supplyEnter_next {s : State} {st : Fin 7} {rail : Fin 11} {ack : Bool} (hst : st.val < 6) (hp : packageHeld s = false) (h1 : modeOf s ≠ mSentinel)
    (h2 : modeOf s ≠ mBrumate) : exec (.supplyStageEnter st rail ack) s = .next (stageEnter s st rail ack) := by
  refine congrArg Host.Outcome.next ((if_neg (by omega)).trans (if_neg ?_))
  rintro (h | h | h)
  · exact Bool.false_ne_true (hp.symm.trans h)
  · exact h1 h
  · exact h2 h

/-- The clauses of one entry of the mode schedule that acts. -/
theorem scheduleDue_effect {s : State} (ix : BitVec 16) (hp : packageHeld s = false) (hb : modeBusy s = false) {at' period target : Nat}
    (h : scheduleEntry s ix.toNat = some (at', period, target)) (ha : period = 0 → ix.toNat ∉ s.power.acted) :
    (modeOf s = mIdle → on s Reg.PWR_STATUS_SLEEP_PEND = false → target = mSentinel ∨ target = mBrumate → Gives (.modeScheduleDue ix) s fun t =>
      voting t = true ∧ rd t Reg.PWR_STATUS_SLEEP_PEND = 1 ∧ modeBusy t = true ∧ modeTarget t = target ∧ t.power.target = target ∧ t.power.cause = 2) ∧
    (modeOf s = mIdle → on s Reg.PWR_STATUS_SLEEP_PEND = true → target = mIdle → Gives (.modeScheduleDue ix) s fun t => rd t Reg.PWR_STATUS_SLEEP_PEND = 0) ∧
    (modeOf s ≠ mIdle → modeOf s ≠ mSentinel → modeOf s ≠ mBrumate → Gives (.modeScheduleDue ix) s fun t =>
      (Room s → Queued s t 0x1003 (modeOf s + 16 * target + 512 + 4096)) ∧ Frame s t eventRegs [.power, .events]) := by
  have hx := modeScheduleDue_acts ix hp hb
  refine ⟨fun hm hpend ht => ⟨_, hx, scheduleAct_sleeps h ha hm hpend ht⟩, fun hm hpend ht => ⟨_, hx, ?_⟩,
    fun h1 h2 h3 => ⟨_, hx, scheduleAct_refused h ha h1 h2 h3⟩⟩
  exact scheduleAct_cancels (ht ▸ h) ha hm hpend

/-- A step of a wake that comes too late, in the states in which it is awaited. -/
theorem wakeStepTimeout_effect (s : State) (n : Fin 5) (d : Fin 20) :
    let st := domState s d
    let now := (starting s && ((stepNow s == 3 && decide (d.val < 8)) || (stepNow s == 5 && decide (8 ≤ d.val)))) ||
      (!packageHeld s && modeOf s != mBoot && (st == domQuiesced || st == domPowerDown || st == domGated || st == domRetain)) ||
      (sampling s && d.val == 8 + sentCluster s / 4)
    (now = false ∨ wakeStepOk d n = false → exec (.wakeStepTimeout n d) s = .next s) ∧
    (now = true → wakeStepOk d n = true → exec (.wakeStepTimeout n d) s = .next (failStep s d n)) := by
  intro st now
  have hx : exec (.wakeStepTimeout n d) s = .next (if now && wakeStepOk d n then failStep s d n else s) := rfl
  refine ⟨fun h => hx.trans (congrArg Host.Outcome.next (if_neg fun k => ?_)), fun h1 h2 => hx.trans (congrArg Host.Outcome.next (if_pos (by rw [h1, h2]; rfl)))⟩
  rw [Bool.and_eq_true] at k
  rcases h with h | h
  · exact Bool.false_ne_true (h.symm.trans k.1)
  · exact Bool.false_ne_true (h.symm.trans k.2)

/-- The clock counts as good in the statement's words. -/
theorem clockGood_iff {nominal : Nat} {x : BitVec 16} : clockGood nominal x.toNat = true ↔ 10 * (100 * (x.toNat : Int) - nominal).natAbs ≤ nominal := by
  unfold clockGood
  rw [decide_eq_true_eq]

theorem clockGood_not {nominal : Nat} {x : BitVec 16} (h : ¬10 * (100 * (x.toNat : Int) - nominal).natAbs ≤ nominal) : clockGood nominal x.toNat = false :=
  decide_eq_false h

/-- Settles O59: each command's clauses are what its branches do, by the rules of the vote, the wakes, the rails and the stages; a wake and a stage keep the
mode's register over everything they run, because none of it writes a spared register. -/
theorem powerSleepAndSupply : Obligations.PowerSleepAndSupply := by
  intro s tile d v n r st rail ack nak ix w tp ref core sec slack nows asleep failed acc all awake safe c k
  refine ⟨fun e he => ?_, fun h => ?_, fun hp hf hen => ⟨fun h => ?_, fun h => ?_⟩, fun h => congrArg Host.Outcome.next (if_pos h), fun hp hb hm => ?_,
    fun hp hb => ⟨fun h => ?_, fun at' period target h ha => scheduleDue_effect ix hp hb h ha⟩, fun h => congrArg Host.Outcome.next (voterAnswer_stays h),
    fun hv ha => ⟨fun hr hd => ?_, fun hr hall => ?_, fun hr hall hs => ?_⟩, fun h => congrArg Host.Outcome.next (if_neg (ne_of_eq_of_ne h Bool.false_ne_true)),
    fun hv hd => gives_next rfl (if_pos hv) (failVote_effect hv hd), fun h1 h2 h3 h4 => ⟨_, sleepRetry_effect h1 h2 h3 h4, openVote_effect s⟩, sleepRetry_stays,
    fun h => gives_next rfl rfl (dropSleep_effect h), fun h => congrArg Host.Outcome.next (if_neg (ne_of_eq_of_ne h Bool.false_ne_true)),
    fun h => congrArg Host.Outcome.next (beginSample_stays w h), fun hm hd hf8 hf hp hc ht => ?_, windowEnd_stays nows w, fun h hc hd => ?_,
    fun h hs hlo hd hw => windowEnd_detects h hs hlo hd hw,
    fun h => ⟨linkWakePattern_stays w h, wakePin_stays w (.inl h), brumTimer_stays w (.inl h), entryTimer_stays w (.inl h)⟩,
    fun hs hw ht => ⟨linkWakePattern_wakes hs hw ht, wakePin_wakes hs hw ht, brumTimer_wakes hs hw ht, entryTimer_wakes hs hw ht⟩,
    fun h => wakePin_stays w (.inr h), fun h => brumTimer_stays w (.inr h), fun h => entryTimer_stays w (.inr h), ⟨?_, fun h1 h2 hf hen hess hn hd => ?_⟩,
    fun h => congrArg Host.Outcome.next (if_pos h), fun hp hm => ?_, fun h => congrArg Host.Outcome.next (avsLate_idle h), fun rr old m h => ⟨fun hm => ?_, fun hm => ?_⟩,
    fun hp => ?_, supplyEnter_stays, fun hst hp h1 h2 hk => ⟨_, supplyEnter_next hst hp h1 h2, stageEnter_effect rail ack hk hst⟩, fun h => ?_, fun hp h0 h5 => ?_,
    gives_next rfl rfl (resClr_effect s), ⟨fun href hcore hsec h0 => ?_, fun hsec hcore h1 href hp => ?_, fun h0 href hbad hp hcore hsec => ?_⟩, ?_, ?_, ?_, ?_, ?_, ?_, ?_, ?_⟩
  · rcases List.mem_cons.mp he with rfl | he
    · exact idleDown_effect rfl (show domQuiesced < 8 by decide)
    · rw [List.mem_singleton.mp he]
      exact idleDown_effect rfl (by decide)
  · rcases h with h | h
    · exact congrArg Host.Outcome.next (if_pos h)
    · exact congrArg Host.Outcome.next ((ite_congr rfl (fun _ => rfl) fun _ => domainReady_stays h).trans (ite_self s))
  · exact gives_next rfl (if_neg (ne_of_eq_of_ne hp Bool.false_ne_true)) (domainReady_on hf hen d.isLt h)
  · exact congrArg Host.Outcome.next ((if_neg (ne_of_eq_of_ne hp Bool.false_ne_true)).trans (domainReady_other h))
  · exact ⟨_, modeScheduleDue_waits ix hp hb hm, rfl, frame_power _ (by simp) (frame_refl ..)⟩
  · exact (modeScheduleDue_acts ix hp hb).trans (congrArg Host.Outcome.next (scheduleAct_stays h))
  · exact gives_next rfl (voterAnswer_fails hv ha hr) (failVote_effect hv hd)
  · exact gives_next rfl (voterAnswer_accepts hv ha hr hall) ⟨rfl, frame_power _ (by simp) (frame_refl ..)⟩
  · exact gives_next rfl rfl (voterAnswer_commits hv ha hr hall hs)
  · exact gives_next rfl rfl (beginSample_effect w hm hd hf8 hf hp hc ht (BitVec.le_toInt tp))
  · exact ⟨_, windowEnd_none w h hd, endSample_effect h hc⟩
  · exact (wakeStepTimeout_effect s n d).1
  · exact ⟨_, (wakeStepTimeout_effect s n d).2 h1 h2, failStep_effect hd d.isLt n.isLt hn hf hen hess⟩
  · obtain ⟨h1, h2⟩ := avsLoop_effect slack hm
    exact ⟨_, avsLoop_next slack hp, h1, h2 r r.isLt⟩
  · exact gives_next rfl rfl (avsLate_again h hm)
  · exact gives_next rfl rfl (avsLate_given r.isLt h hm)
  · obtain ⟨-, hheld, hmode, -⟩ := sourceOn_effect (src := 2) (.inl rfl) (by decide) hp
    exact gives_next rfl (if_pos rfl) ⟨hheld, hmode⟩
  · rcases h with h | h
    · exact congrArg Host.Outcome.next (if_pos h)
    · exact congrArg Host.Outcome.next ((ite_congr rfl (fun _ => rfl) fun _ => stageRestore_idle h).trans (ite_self s))
  · obtain ⟨hstage, hmode⟩ := stageRestore_effect h0 h5
    obtain ⟨-, -, hback⟩ := stageBack_effect h5
    refine gives_next rfl (if_neg (ne_of_eq_of_ne hp Bool.false_ne_true)) ⟨hstage, hmode, fun hk => ?_, fun hk => (stageRestore_two_effect hk).2⟩
    rwa [stageRestore_other (by omega) (by omega) (by omega)]
  · exact clockWindow_good h0 (clockGood_iff.mpr href) (clockGood_iff.mpr hcore) (clockGood_iff.mpr hsec)
  · exact clockWindow_core (clockGood_iff.mpr hsec) (clockGood_not hcore) h1 (clockGood_iff.mpr href) hp
  · exact clockWindow_ref h0 (clockGood_not href) hbad hp (clockGood_iff.mpr hcore) (clockGood_iff.mpr hsec)
  · exact within_of_mask (keepsO_execVoterAnswer (w₀ := 64483321) (keeps_refl _ s) rfl) (by decide)
  · exact within_of_mask (keepsO_execSupplyStageEnter (w₀ := 66584573) (keeps_refl _ s) rfl) (by decide)
  · exact within_of_mask (keepsO_execSupplyStageRestore (w₀ := 394248) (keeps_refl _ s) rfl) (by decide)
  · exact within_of_mask (keepsO_execAvsLoop (w₀ := 4194312) (keeps_refl _ s) rfl) (by decide)
  · exact within_of_mask (keepsO_execDomainWakeDone (w₀ := 4325512) (keeps_refl _ s) rfl) (by decide)
  · exact within_of_mask (keepsO_execModeScheduleDue (w₀ := 4194312) (keeps_refl _ s) rfl) (by decide)
  · exact within_of_mask (keepsO_execSentinelSample (w₀ := 66420729) (keeps_refl _ s) rfl) (by decide)
  · exact within_of_mask (keepsO_execSentinelWindowEnd (w₀ := 66420733) (keeps_refl _ s) rfl) (by decide)

end Sys2Proof.Proofs
